-- ==== Sys2Proof/Word.lean ====
section
/-! DEFINITION. The word types of the model: bytes, 32-bit register words (R8) and cell time (R39). -/

namespace Sys2Proof

/-- A byte of a register, a parameter, a cell or a frame. -/
abbrev Byte := BitVec 8

/-- A 32-bit register word. -/
abbrev Word := BitVec 32

/-- Cell time (R39): the 64-bit count of nanoseconds followed by the 8-bit fraction in 1/256 ns, so one unit is
1/256 ns and the count wraps modulo 2^64. -/
abbrev CellTime := BitVec 72

end Sys2Proof
end

