-- ==== Sys2Proof/Machine/Cells.lean ====
section
/-! DEFINITION. Byte stores: lists of (address, byte) pairs in one canonical form (addresses strictly rising, no entry
equal to what an unlisted address reads as), with the byte-order helpers of R8 over them. The parameter sets, the
message RAM, the NOR and the NAND of the model are such stores, each with its own reading of an unlisted address. -/

namespace Sys2Proof.Machine

/-- A sparse byte store. -/
abbrev Store := List Host.Cell

/-- The byte at `a`; `d a` where the store does not list `a`. -/
def cellsRead (d : Nat → Byte) : Store → Nat → Byte
  | [], a => d a
  | (k, v) :: t, a => if a < k then d a else if a = k then v else cellsRead d t a

/-- Write the byte at `a`, keeping the canonical form: the value an unlisted address reads as removes the entry. -/
def cellsWrite (d : Nat → Byte) : Store → Nat → Byte → Store
  | [], a, v => if v = d a then [] else [(a, v)]
  | (k, w) :: t, a, v =>
    if a < k then (if v = d a then (k, w) :: t else (a, v) :: (k, w) :: t)
    else if a = k then (if v = d a then t else (a, v) :: t)
    else (k, w) :: cellsWrite d t a v

/-- Every address of the store lies above `a`. -/
def cellsAbove (a : Nat) : Store → Bool
  | [] => true
  | (k, _) :: t => decide (a < k) && cellsAbove a t

/-- The canonical form. -/
def cellsWf (d : Nat → Byte) : Store → Bool
  | [] => true
  | (k, v) :: t => decide (v ≠ d k) && cellsAbove k t && cellsWf d t

/-- The number a little-endian byte string stands for (R8). -/
def leNat : List Byte → Nat
  | [] => 0
  | b :: t => b.toNat + 256 * leNat t

/-- The `n` little-endian bytes of a number, modulo 256^n (R8). -/
def leBytes : Nat → Nat → List Byte
  | 0, _ => []
  | n + 1, v => BitVec.ofNat 8 v :: leBytes n (v / 256)

/-- The `n` big-endian bytes of a number: the order of GCL fields on the wire (R8). -/
def beBytes (n v : Nat) : List Byte := (leBytes n v).reverse

/-- The number a big-endian byte string stands for. -/
def beNat (l : List Byte) : Nat := leNat l.reverse

/-- The bytes from `a` on. -/
def cellsReadN (d : Nat → Byte) (m : Store) : Nat → Nat → List Byte
  | _, 0 => []
  | a, n + 1 => cellsRead d m a :: cellsReadN d m (a + 1) n

/-- Write a byte string from `a` on. -/
def cellsWriteL (d : Nat → Byte) (m : Store) : Nat → List Byte → Store
  | _, [] => m
  | a, b :: t => cellsWriteL d (cellsWrite d m a b) (a + 1) t

/-- The little-endian number of `n` bytes from `a` on. -/
def cellsNat (d : Nat → Byte) (m : Store) (a n : Nat) : Nat := leNat (cellsReadN d m a n)

/-- A number of `bits` bits read as two's complement. -/
def toSigned (bits v : Nat) : Int :=
  if v % 2 ^ bits < 2 ^ (bits - 1) then ((v % 2 ^ bits : Nat) : Int) else ((v % 2 ^ bits : Nat) : Int) - 2 ^ bits

/-- The two's complement of an integer in `bits` bits, as a natural number. -/
def ofSigned (bits : Nat) (v : Int) : Nat := (v % (2 ^ bits : Int)).toNat

end Sys2Proof.Machine
end

