-- ==== Sys2Proof/Machine/FieldTypes.lean ====
section
/-! DEFINITION. Plain data of the field side and of the bank links: what a cell carries (R22 to R26, R626 to R629),
and the state of a bank, its universal channels, load switches, fast inputs and its share of the coppice groups. -/

namespace Sys2Proof.Machine

/-- Intervals of cell time whose instants a mark covers (R49, R59, R61): those that have ended, newest first, and the start of
the one under way. -/
structure Marks where
  past : List (CellTime × CellTime)
  since : Option CellTime
  deriving DecidableEq, Repr

/-- A fault object: kind and index (R305). -/
structure FaultObj where
  kind : Nat
  index : Nat
  deriving DecidableEq, Repr

/-- A fault event on its way to the fault collector (R307): a raise, or the end of a lasting instance (R624). -/
structure Raise where
  ident : Nat
  obj : FaultObj
  time : CellTime
  uncertain : Bool
  detail : Word
  ends : Bool
  deriving DecidableEq, Repr

/-- One edge record of an EDGE cell (R24), with its full cell time. `capture` says that the record is a capture of R222; a
record that only carries a latch trigger to another bank is none (assumption log 21). -/
structure EdgeRec where
  source : Nat
  falling : Bool
  opened : Bool
  uncertain : Bool
  inexact : Bool
  time : CellTime
  seq : BitVec 16
  value : Word
  capture : Bool
  deriving DecidableEq, Repr

/-- One entry of a capture queue (R223). -/
structure Capture where
  time : CellTime
  falling : Bool
  opened : Bool
  uncertain : Bool
  latch : Bool
  lossBefore : Bool
  inexact : Bool
  seq : BitVec 16
  value : Word
  deriving DecidableEq, Repr

/-- One schedule entry (the 32-byte record of R246), with the bank that holds it, its slot there, its outcome, and whether that
has been reported: an entry on a cross-bank group is one such record in each member bank. -/
structure SchedRec where
  handle : BitVec 16
  batch : BitVec 16
  kind : Nat
  target : Nat
  action : Nat
  latePolicy : Nat
  uncPolicy : Nat
  apply : CellTime
  state : Nat
  owner : Nat
  value : Int
  width : Nat
  lag : Int
  bank : Fin 4
  slot : Nat
  outcome : Nat
  reported : Bool
  deriving DecidableEq, Repr

/-- One delivered sample (R11, R152): its word, its instant and whether it is a wide-tap sample. -/
structure Sample where
  chan : Nat
  wide : Bool
  time : CellTime
  word : Word
  deriving DecidableEq, Repr

/-- The five sources of one output (R29), as values: rank 5 always holds one, a stronger rank is `none` while
inactive. `safe` and `auton` hold the value shown while that safe state lasts (R96, R173). -/
structure OutSrc where
  imm : Int
  sched : Option Int
  force : Option Int
  auton : Option Int
  safe : Option Int
  deriving DecidableEq, Repr

/-- An output a cell or a schedule entry names: universal channel of the bank (0 to 3), load switch of the bank
(0, 1), or coppice group (0 to 3). -/
inductive OutRef where
  | uni (i : Fin 4)
  | ls (i : Fin 2)
  | grp (g : Fin 4)
  deriving DecidableEq, Repr

/-- A change of one source of an output. -/
inductive OutChange where
  /-- rank 5, the immediate command -/
  | imm (v : Int)
  /-- rank 3: a Glade force, `none` its release -/
  | force (v : Option Int)
  /-- rank 1: the Firebreak safe state on or off -/
  | safe (on : Bool)
  /-- the group trip hold on or off (R200, R208) -/
  | trip (on : Bool)
  /-- the group's thermal hold on or off (R202); `latch` sets the thermal latch with it -/
  | thermal (on latch : Bool)
  /-- a clamp lock of an active member in another bank holds the group off, or no longer (R203) -/
  | locked (on : Bool)
  deriving DecidableEq, Repr

/-- A change waiting in a bank for its common launch instant (R193). -/
structure Launch where
  at_ : CellTime
  out : OutRef
  change : OutChange
  deriving DecidableEq, Repr

/-- Cells from the logic side to a bank, other than SYNC and IDLE, by content. -/
inductive DownCell where
  /-- SCHED SUB 0x0 and 0x1 (R629): an entry; `last` is the batch-complete marker -/
  | sched (r : SchedRec) (last : Bool)
  /-- SCHED SUB 0x2: a cancel marker -/
  | cancel (selector : Nat) (release : Bool) (kind target : Nat) (what : BitVec 16) (owner : Nat)
  /-- OUT: an immediate value, with its launch instant for a cross-bank group (R29, R193) -/
  | out (o : OutRef) (v : Int) (launch : Option CellTime)
  /-- OUT with SUB 0xF: the share of a cross-bank group, in nA, its active members, and those the logic side has last heard of at
  full gate drive (R197, R199) -/
  | share (g : Fin 4) (s : Int) (active full : BitVec 8)
  /-- OUT: a common trip instant, `none` its cancellation (R200) -/
  | trip (g : Fin 4) (at_ : Option CellTime)
  /-- OUT: a change of a group's hold, with its launch instant for a cross-bank group (R200, R202, R203, R208) -/
  | hold (g : Fin 4) (ch : OutChange) (launch : Option CellTime)
  /-- OUT: a write of ones to a DIAG held by the bank (R628): class, channel within the class, mask -/
  | diag (cls inst : Nat) (mask : BitVec 16)
  /-- FORCE: a Glade force or release (R29) -/
  | force (o : OutRef) (v : Option Int) (launch : Option CellTime)
  /-- FORCE: the whole force state of the bank (R291) -/
  | forceAll (fs : List (OutRef × Int))
  /-- SAFE (R315): OP, OUTPUTS, LEVEL, LAUNCH, IDENT, and the groups the change reaches through the bank's members -/
  | safe (op : Nat) (outputs : BitVec 8) (groups : BitVec 4) (level : Nat) (launch : Option CellTime) (ident : Nat)
  /-- CFG: configuration write records, as bytes of the parameter store (R627) -/
  | cfg (writes : List Host.Cell)
  /-- CFG: the commit marker; `arrival` marks the arrival instant -/
  | cfgMark (at_ : CellTime) (arrival : Bool)
  /-- CFG: the decimator-sync marker (R161): channel mask and A′, in modulator periods -/
  | cfgSync (mask : BitVec 4) (at_ : Nat) (source : Nat)
  /-- CFG: a write of COUNTER (R220) -/
  | counter (f : Fin 2) (v : Word)
  /-- SCHED: a latch trigger from another bank, or a LATCH_AT write (R231, R233) -/
  | latch (f : Fin 2) (at_ : CellTime) (named : Bool)
  /-- CAL: calibration words from a number on (R130); `last` completes them -/
  | calFactory (from_ : Nat) (words : List Word) (last : Bool)
  /-- CAL: a channel's trim: the twelve numbers S1, A1, S2, A2 of its three output stages (R132, R134) -/
  | calTrim (u : Fin 4) (t : List Int)
  /-- CAL: a priority rotation request (R133) -/
  | calRotate (u : Fin 4)
  deriving DecidableEq, Repr

/-- A point as a cell of its bank gives it (R266): handle, value, quality without TIME_UNCERTAIN, the instant, and whether the
bank marks it. -/
structure PointFig where
  handle : Nat
  value : Int
  qual : Byte
  time : CellTime
  marked : Bool
  deriving DecidableEq, Repr

/-- What a cell of a bank tells of its present state: the bytes of read-only attributes, by their address in the parameter
store, and the points. -/
structure Figures where
  attrs : List (Nat × List Byte)
  points : List PointFig
  deriving DecidableEq, Repr

/-- What a SYNC cell carries (R23, R56, R57, R60, R626): the time base when its first byte left, the count of steps, the time
state, the cell time of the next whole second, and the link delay in ps where one was measured; `start` is SUB 0x1. `left` is
the model's own: the counter that no step moves, at the same instant. -/
structure SyncCell where
  sent : BitVec 96
  left : BitVec 96
  steps : Word
  state : Nat
  uncertain : Bool
  mark : CellTime
  delay : Option Int
  start : Bool
  deriving DecidableEq, Repr

/-- What a STATUS cell carries (R23, R57, R266): the stamps of a round trip where one is measured (t1, t2 and t3), the bank
state, for each universal channel its chain state with WIDE_ENABLE and PATH in effect (R166), the rank in effect of each group, for each
universal channel SYNC_STATE and A′, the status of each fast input, and the
figures. `left` is the model's own, as in a SYNC cell. -/
structure StatusCell where
  trip : Option (BitVec 96 × BitVec 96 × BitVec 96)
  left : BitVec 96
  autonomous : Bool
  starting : Bool
  vfLoss : Bool
  rotState : Word
  chains : List (Nat × Bool × Bool)
  ranks : List Nat
  syncs : List (Nat × Option Nat)
  fast : List (BitVec 16)
  time : CellTime
  marked : Bool
  figs : Figures
  deriving DecidableEq, Repr

/-- A record of an EDGE cell on the line (R24): its time as OFFSET from BASE and FRAC. -/
structure EdgeWire where
  source : Nat
  falling : Bool
  opened : Bool
  uncertain : Bool
  inexact : Bool
  offset : Nat
  frac : Byte
  seq : BitVec 16
  value : Word
  capture : Bool
  deriving DecidableEq, Repr

/-- What a COUNT cell carries for one fast input (R23, R221). -/
structure CountFig where
  status : BitVec 16
  counter : Word
  freq : Nat
  latch : Word
  time : CellTime
  marked : Bool
  attrs : List (Nat × List Byte)
  deriving DecidableEq, Repr

/-- What an LSW cell carries of a coppice group with members in its bank: the group's STATUS and DIAG as the bank sees them, the
instant at which its first member entered its limit (R200), whether every member there is below T_RS (R202), and whether the group
has been on there for 1 s (R182). -/
structure GroupFig where
  group : Fin 4
  status : BitVec 16
  diag : BitVec 16
  limit : Option CellTime
  cool : Bool
  calm : Bool
  deriving DecidableEq, Repr

/-- Cells from a bank to the logic side, other than STATUS and IDLE, by content. -/
inductive UpCell where
  /-- SAMPLE: up to 11 sample words of one channel (R23) -/
  | sample (ss : List Sample)
  /-- EDGE: BASE, and 1 to 4 records in timestamp order (R24) -/
  | edge (base : Nat) (rs : List EdgeWire)
  /-- COUNT (R221): for each of the bank's two fast inputs its status, counter, period, frequency and latch value -/
  | count (fs : List CountFig)
  /-- LSW (R209): for each of the bank's two load switches the measured values, and what the bank tells of its groups (R197, R200) -/
  | lsw (figs : Figures) (groups : List GroupFig)
  /-- SCHED SUB 0x3: an outcome report (R245) -/
  | outcome (handle : BitVec 16) (code : Nat) (lag : Int) (time : CellTime) (uncertain : Bool) (frees : Bool)
  /-- SCHED SUB 0x4: a cancel report (R256) -/
  | cancelled (what : BitVec 16) (cancelled already : Nat) (handles : List (BitVec 16))
  /-- CFG: the share report of R404 -/
  | share (at_ applied : CellTime) (late : Bool)
  /-- CAL: a rotation result of a channel (R111, R119) -/
  | calResult (u : Fin 4) (figs : Figures)
  /-- CAL: a slot's cross-check average (R123), in 0.01 ppm, `none` when no estimate completed, and REF_STATE -/
  | calSlot (delta : Option Int) (ref : Nat)
  /-- FAULT: a bank fault event (R307); `note` is the members that an LSW-10 excludes (R198), and for an LSW-02 of a group 1 where
  the shutdown came within 1 s of a restart (R202) -/
  | fault (e : Raise) (note : BitVec 8)
  deriving DecidableEq, Repr

/-- The cell that the slot in progress carries (R21): nothing, the SYNC or STATUS cell of the link frame, an ordinary cell with
its SEQ, or a copy of an express cell with its SEQ and REPEAT. -/
inductive LineCell (π σ : Type) where
  | idle
  | frame (c : σ)
  | ord (seq : BitVec 8) (c : π)
  | exp (seq : BitVec 8) (again : Bool) (c : π)
  deriving DecidableEq, Repr

/-- One direction of a bank link (R21 to R26, R626). The sender's: both SEQ counters, the ordinary and the express cells that
wait for a slot, the express cell whose second copy is owed, the ordinary cells sent and not acknowledged, each with the
instant of its sending, those of them to be sent again, the position of the slot in progress in its link frame, its cell and
the ACK that cell carries. The receiver's: the ordinary SEQ it expects next and the last express SEQ taken. -/
structure LinkDir (π σ : Type) where
  ordSeq : BitVec 8
  expSeq : BitVec 8
  queued : List π
  express : List π
  copy : Option (BitVec 8 × π)
  unacked : List (BitVec 8 × BitVec 96 × π)
  again : List (BitVec 8 × π)
  slot : Fin 8
  line : LineCell π σ
  ack : BitVec 8
  rxSeq : BitVec 8
  lastExp : Option (BitVec 8)
  deriving DecidableEq, Repr

/-- One TDC and debounce of a digital input (R79, R213): the comparator's level, the transition that began the
stable run, and the debounced state; `fresh` while the first state after a mode change is undecided (R81). `riseCap` and
`fallCap` are the last captures of the TDC for each polarity: the instant, on the counter that no step moves, and the
timestamp (R62). -/
structure Debounce where
  level : Bool
  since : CellTime
  state : Bool
  fresh : Bool
  riseCap : Option (BitVec 96 × CellTime)
  fallCap : Option (BitVec 96 × CellTime)
  deriving DecidableEq, Repr

/-- The sinc4 stage of one converter (R142). -/
structure Sinc4 where
  i1 : Word
  i2 : Word
  i3 : Word
  i4 : Word
  z1 : Word
  z2 : Word
  z3 : Word
  z4 : Word
  deriving DecidableEq, Repr

/-- The calibration coefficients of a converter (R111): D_Z, K with 32 fraction bits, D_C − D_Z, D_R − D_Z, T_cal in
0.01 °C, and whether they come from the factory. -/
structure Coef where
  dz : Int
  k : BitVec 48
  checkSpan : Int
  refSpan : Int
  temp : Int
  source : Nat
  deriving DecidableEq, Repr

/-- An output grid and window of the filter chain (R147, R150, R154): the channel's mode, the length M, the shift k of
the fallback path (`none` for the resampler), anchor Φ, period and group delay in modulator periods, and H in µs. -/
structure Grid where
  mode : Nat
  avg : Nat
  shift : Option Nat
  anchor : Nat
  period : Nat
  delay : Nat
  half : Nat
  deriving DecidableEq, Repr

/-- An instant of a grid that a change has ended, which falls due later (R157): its sample is delivered where `good`, and
suppressed otherwise. `held` is what the chain gave for it when it was cleared: the value, whether it was whole, and the
conditions of its window. -/
structure OldSample where
  at_ : Nat
  grid : Grid
  good : Bool
  held : Option (Int × Bool × BitVec 8)
  deriving DecidableEq, Repr

/-- The filter chain of one universal channel (R141 to R159). Histories are newest first; instants are modulator
periods since the cell epoch; the instants of the last change, `changeAt` A and `settledAt` S, are cell times in 1/256 ns, and
so is `clearAt`, from which a word finds the later stages cleared. `oldGrid` is the grid before the change under way, `old` its
instants still to fall due, `firstTerm` the first term of N. `lastX` and `lastF` are what stage 2 received last. `syncRequest`
is the logic side's last accepted request (A', source), and `syncRefused` tells that a later one was refused. -/
structure Chain where
  sinc : Sinc4
  resetAt : Nat
  holdAt : Option Nat
  window : List Int
  sum : Int
  hist2 : List Int
  hist3 : List Int
  hist4 : List (Int × Int)
  fb : List (List Int)
  anchor : Nat
  lastTap : Option Nat
  lastX : Int
  lastF : BitVec 8
  grid : Option Grid
  oldGrid : Option Grid
  old : List OldSample
  changeAt : Nat
  settledAt : Nat
  clearAt : Option Nat
  firstTerm : Nat
  settling : Bool
  lastMain : Option Nat
  flagged : List (Nat × BitVec 8)
  settleCount : BitVec 16
  suppressed : Word
  state : Nat
  syncPending : Option Nat
  syncSource : Nat
  syncState : Nat
  syncRequest : Option (Nat × Nat)
  syncRefused : Bool
  syncCount : Word
  deriving DecidableEq, Repr

/-- The rotation of one channel (R121). -/
structure Rotation where
  state : Nat
  priority : Bool
  words : Nat
  sum : Int
  dz : Int
  dr : Int
  dc : Int
  overlap : Int
  rejects : Nat
  calCount : Word
  lastCal : CellTime
  delta : Int
  temp : Int
  cut : Bool
  accepted : Bool
  diag : BitVec 8
  deriving DecidableEq, Repr

/-- How a sample becomes a point (R73 to R78): the settings of class 06 that the logic side applies to it. -/
structure Scaling where
  mode : Nat
  source : Nat
  char : Nat
  cutoff : Nat
  table : List Int
  scale : Int
  offset : Int
  deriving DecidableEq, Repr

/-- One universal channel on the field side (Universal field channels, Conversion, Filter chain). `limitAt` is the entry into
the current limit under way (R87, R89); `testTap` the number of the wide-tap instant at which the last open-terminal test slot
began and `testing` whether its decision is due (R84); `dacAt` the last change of the DAC target (R133), `suspendAt` the last
that suspends the readback comparison (R95), and `dacCode` the code with the scale of R129; `clampAt` the start of a heavy
clamp interval (R126). -/
structure UChan where
  src : OutSrc
  status : BitVec 16
  diag : BitVec 16
  db : Debounce
  settled : Bool
  settleAt : CellTime
  edgeCount : Word
  lastEdge : CellTime
  records : List EdgeRec
  diCurrent : Int
  inputOpen : Bool
  offAt : CellTime
  lowRun : Nat
  highRun : Nat
  openSince : Option Nat
  openUntil : Nat
  testTap : Option Nat
  testing : Bool
  limitAt : Option CellTime
  retries : Nat
  scShort : Bool
  scOff : Bool
  shortTest : Bool
  doLimitRun : CellTime
  coef : Coef
  rot : Rotation
  chain : Chain
  satRun : Nat
  rangeRaised : Bool
  samples : List Sample
  readback : Int
  readbackTime : CellTime
  readbackError : Int
  rbFails : Nat
  rbGoods : Nat
  rbSuspend : Nat
  rbFailCount : Word
  compliance : Nat
  complianceOk : Nat
  clamped : Bool
  setHistory : List (CellTime × Int)
  dacTarget : Int
  dacCode : Int
  dacAt : CellTime
  suspendAt : CellTime
  clampAt : Option CellTime
  trim : List Int
  points : List (Nat × Bool × Int × Int)
  deriving DecidableEq, Repr

/-- One load-switch channel on the field and power dies (Load switch channels). Currents are in nA, energies in nJ,
temperatures in 10^-6 °C. -/
structure LChan where
  src : OutSrc
  on : Bool
  status : BitVec 16
  diag : BitVec 16
  reverseHold : Bool
  launchAt : CellTime
  limitTime : Nat
  limitIdle : Nat
  retries : Nat
  holdAt : CellTime
  retried : Bool
  thermRestart : Bool
  restarts : Nat
  switchCount : Word
  iMirror : Int
  iRon : Option Int
  ratio : Nat
  vds : Int
  dTa : Int
  dTb : Int
  tS : Int
  tJ : Int
  gate : Nat
  ronEst : Nat
  mismatchRun : Nat
  agreeRun : Nat
  lostRun : Nat
  budget : Int
  clampE : Int
  clampJ0 : Int
  lastClamp : Nat
  effLimit : Nat
  readmit : Bool
  dieLost : Bool
  dieHeld : Bool
  deriving DecidableEq, Repr

/-- What a counter holds (R217 to R219): its value, the state AB of tracks A and B, the last edge of each track with what it
counted, and how many quadrature errors and wraps there have been. -/
structure CountSt where
  counter : Word
  ab : BitVec 2
  lastA : Option CellTime
  lastB : Option CellTime
  countA : Int
  countB : Int
  errors : Nat
  wraps : Nat
  deriving DecidableEq, Repr

/-- What a counter is given: an edge of its own input or of the partner, under MODE, COUNT_EDGE and QUAD_DIR; a value, by a write
or by a latch; the present AB, at a commit; a cell-time step. -/
inductive CountEv where
  | edge (own rising : Bool) (mode edges : Nat) (rev : Bool)
  | set (v : Word) (latch : Bool)
  | sync (ab : BitVec 2)
  | step
  deriving DecidableEq, Repr

/-- One of these at its timestamp. -/
structure CountStep where
  at_ : CellTime
  ev : CountEv
  deriving DecidableEq, Repr

/-- One fast input on the field side (Fast timed inputs and counters). `log` holds what the counter was given last, in the order of
the timestamps, newest first, as far back as the 256 transitions of R232 and one more; `base` is the counter before it and `count`
after it. `oldMode`, `oldEdges`, `oldRev` and `oldInvert` are the settings before the last change, which took effect at `setAt`
(R236). `gateAt` is the last gate end taken (R228). `storedSeq` is the logic side's: the sequence number that the next capture
carries when none is lost (R24). -/
structure FChan where
  db : Debounce
  status : BitVec 16
  diag : BitVec 16
  edgeCount : Word
  base : CountSt
  count : CountSt
  log : List CountStep
  oldMode : Nat
  oldEdges : Nat
  oldRev : Bool
  oldInvert : Bool
  setAt : CellTime
  wrapAt : Option CellTime
  quadAt : Option CellTime
  quadErrors : Word
  capSeq : BitVec 16
  capCount : Nat
  records : List EdgeRec
  lost : Word
  rises : Nat
  lastRise : CellTime
  period : BitVec 64
  gateAt : CellTime
  gateStart : CellTime
  gateRises : Nat
  freq : Nat
  stepped : Bool
  gateStep : Bool
  armed : Option (CellTime × BitVec 16)
  lastGrid : CellTime
  latchValue : Word
  latchTime : CellTime
  storedSeq : BitVec 16
  deriving DecidableEq, Repr

/-- A coppice group's state held in one bank (R193 to R203, R208, R628). `on` tells that the group is commanded on there, since
`launchAt`; `restarted` that it was by a thermal restart; `locked` that the logic side holds it off for a clamp lock in another
bank; `skew` is STATUS.SKEW. -/
structure GroupBank where
  src : OutSrc
  on : Bool
  launchAt : CellTime
  restarted : Bool
  tripped : Bool
  thermal : Bool
  locked : Bool
  skew : Bool
  diag : BitVec 16
  share : Int
  active : BitVec 8
  full : BitVec 8
  limitEntry : Option CellTime
  tripAt : Option CellTime
  deriving DecidableEq, Repr

/-- One bank: field die and power die, and its end of the bank link. `unc`, `unlocked` and `rephase` are the intervals of the
marks of R49, R59 and R61; `cal` the calibration words received (R130); `slotEnd` and `slotPer` the end of the rotation slot and
its length, in 1/256 ns; `reliefX` the last word of the relief with its wide-tap instant; `rhoAvg` the latest slot average of δ
in 0.01 ppm (R129); `mclkErr` is the MCLK phase error in 1/768 ns at the instant `mclkAt`; `trip` holds t1 and t2 of a
round trip under way (R57); `countDue` and `lswDue` tell whether the link frame still owes its COUNT and LSW cells. Instants
of 96 bits are of the counter that no step moves, t1 and t2 apart. -/
structure Bank where
  powered : Bool
  reporting : Bool
  arrived : Bool
  copy : BitVec 96
  syncs : Nat
  everSync : Bool
  lock : Bool
  lockedOnce : Bool
  lastSync : BitVec 96
  lastGood : BitVec 96
  timeState : Nat
  devUncertain : Bool
  unc : Marks
  unlocked : Marks
  rephase : Marks
  phaseMark : CellTime
  mclkErr : Int
  mclkAt : BitVec 96
  stepSeen : Word
  stepBase : BitVec 96
  linkDelay : Int
  align : Int
  trip : Option (BitVec 96 × BitVec 96)
  tripAt : Option (BitVec 96)
  countDue : Bool
  lswDue : Bool
  autonomous : Bool
  vfLow : Bool
  dieTemp : Int
  hotDie : Bool
  startFlag : Bool
  vfLossFlag : Bool
  calHeld : Bool
  cal : List Word
  safeStore : BitVec 8
  safeGroups : BitVec 4
  queue : List SchedRec
  batchBuf : List SchedRec
  pulses : List (SchedRec × CellTime)
  launches : List Launch
  groups : Vector GroupBank 4
  shareBuf : List Host.Cell
  shareMark : Option (CellTime × Bool)
  slotStart : CellTime
  slotEnd : Nat
  slotPer : Nat
  slotCount : BitVec 16
  phase : Nat
  chosen : Option (Fin 4)
  lastChosen : Nat
  pointer : Nat
  relief : Coef
  reliefOut : Bool
  reliefSinc : Sinc4
  reliefWords : Nat
  reliefSum : Int
  reliefDz : Int
  reliefDr : Int
  reliefX : Option (Nat × Int × BitVec 8)
  reliefDc : Int
  reliefTemp : Int
  slotOpen : Bool
  deltas : List Int
  refState : Nat
  refRun : Nat
  emptyRun : Nat
  alarmRun : Nat
  rhoAvg : Int
  deriving DecidableEq, Repr

end Sys2Proof.Machine
end

