-- ==== Sys2Proof/Machine/LogicTypes.lean ====
section
/-! DEFINITION. Plain data of the logic side that the owning chapters name: the time base, Canopy and Glade, the fault
collector and Firebreak, the watchdogs and Heartwood, the host serial link, the mailboxes and the configuration commit. -/

namespace Sys2Proof.Machine

/-- The time base (Cell time, R41 to R67). `counter` is the 64-bit count, the 8-bit fraction and the 24 further fraction
bits of R42's section; `mono` runs at the same rate and is moved by no step (R286, R625). Offsets are in 1/256 ns. `unc` holds
the time-uncertain intervals (R49); `ppsArm` and `syncArm` the instants from which TDH0 and TDH1 re-arm (R62); `pendingRole`
the committed changes that wait for a Sync boundary, `pendingAt` their apply instant, and `boundary` the last boundary executed
(R63). `landed` is the cell time right after the last step. -/
structure TimeBase where
  counter : BitVec 96
  mono : BitVec 96
  state : Nat
  rate : Int
  offset : Int
  lastUpdate : BitVec 96
  goodRun : Nat
  badRun : Nat
  uncertain : Bool
  uncGoodRun : Nat
  reason : BitVec 8
  entryTime : CellTime
  unc : Marks
  steps : Word
  landed : CellTime
  event : BitVec 8
  port : Option (Fin 3)
  gmIdentity : BitVec 64
  stepsRemoved : BitVec 16
  ppsIn : CellTime
  ppsArm : Option (BitVec 96)
  syncIn : CellTime
  syncArm : Option (BitVec 96)
  todPending : Option (BitVec 64)
  todApplied : Bool
  ppsAccepts : Nat
  ppsOut : Bool
  ppsRiseAt : CellTime
  refType : Bool
  pendingRole : List Host.Cell
  pendingAt : CellTime
  boundary : CellTime
  latches : List (Bool × Nat × List Word)
  deriving DecidableEq, Repr

/-- A commissioning force of Canopy with the latest underlying record (R280). -/
structure PointForce where
  handle : Nat
  value : Word
  under : List Byte
  deriving DecidableEq, Repr

/-- The last instant of a grid of cell time that was taken, and the count of steps of cell time when it was (R270, R287). -/
structure GridMark where
  last : CellTime
  steps : Word
  deriving DecidableEq, Repr

/-- The transmit state of one own publication group (R270 to R273): whether a change qualifies, the monotonic instant of its last
frame, the last publication instant taken (at first, that of the commit), and the values last published. -/
structure PubState where
  group : Nat
  qualified : Bool
  lastSent : Option (BitVec 96)
  mark : GridMark
  lastValues : List (Nat × Word)
  deriving DecidableEq, Repr

/-- The subscription side of one group record (R275 to R278): arrival of the last accepted frame (or the commit that
created it), whether a frame has been accepted, and whether CAN-03 is active. -/
structure SubState where
  index : Nat
  arrival : BitVec 96
  accepted : Bool
  stale : Bool
  mismatch : Bool
  raised : Bool
  deriving DecidableEq, Repr

/-- Canopy (R264 to R281): point records and group records as stores, the tables beside them, and the source epochs that the epoch
sectors do not hold yet (R529). -/
structure Canopy where
  points : Store
  groups : Store
  forces : List PointForce
  pubs : List PubState
  subs : List SubState
  sourceEpoch : BitVec 16
  epochDue : List Nat
  deriving DecidableEq, Repr

/-- The state of one timer term (R286): rule, term, whether its input was 1 at the last evaluation, since when the run
or the last 1 dates, and its output. -/
structure TimerState where
  rule : Nat
  term : Nat
  input : Bool
  since : BitVec 96
  out : Bool
  deriving DecidableEq, Repr

/-- A Glade force on a target: the rule it comes from and its value (R290); targets 0 to 15 are U0 to U15, 16 to 23 L0 to
L7, 24 to 27 groups 0 to 3, the order of FORCE_TABLE (R301). -/
structure GladeForce where
  target : Nat
  rule : Nat
  value : Int
  delivered : Bool
  deriving DecidableEq, Repr

/-- Glade (R282 to R303): its two rule banks as byte stores, and the run state: the last instants of its two lanes (R287) and of
the repetition of the forces (R291). -/
structure Glade where
  bank0 : Store
  bank1 : Store
  len0 : Nat
  len1 : Nat
  active : Option Bool
  state : Nat
  inactive : Nat
  swapAt : Option (Option CellTime)
  results : List Nat
  safeTaken : List Nat
  timers : List TimerState
  forces : List GladeForce
  conflicts : List Nat
  ignored : List Nat
  passes : BitVec 16
  lastOverran : Bool
  ready : Bool
  persisted : Bool
  bootSlot : Option Bool
  fastMark : GridMark
  mainMark : GridMark
  repeatAt : BitVec 96
  deriving DecidableEq, Repr

/-- A fault record (R307). -/
structure FaultRec where
  ident : Nat
  obj : FaultObj
  reaction : Byte
  rehearsal : Bool
  uncertain : Bool
  resetOnly : Bool
  time : CellTime
  seq : BitVec 16
  detail : Word
  deriving DecidableEq, Repr

/-- An active fault instance with its count (R306). -/
structure ActiveFault where
  ident : Nat
  obj : FaultObj
  count : Nat
  deriving DecidableEq, Repr

/-- A sliding window of R625: the occurrences of one identifier against one object within the last second. -/
structure FaultWindow where
  ident : Nat
  obj : FaultObj
  times : List (BitVec 96)
  deriving DecidableEq, Repr

/-- A safe-state record of Firebreak (R314): its active causes and RESET_ONLY. -/
structure SafeRecord where
  set : Bool
  resetOnly : Bool
  causes : List (Nat × FaultObj)
  deriving DecidableEq, Repr

/-- The fault collector and Firebreak (R304 to R323). Records are in the order of SAFE_RECORDS (R333): device, banks A to
D, U0 to U15, L0 to L7, groups 0 to 3. `heartPending` is a C3 or C4 record on its way to Heartwood (R330), `refreshAt` the monotonic instant of the last REFRESH
cells (R315). -/
structure Firebreak where
  raises : List Raise
  active : List ActiveFault
  windows : List FaultWindow
  log : List FaultRec
  seq : BitVec 16
  records : Vector SafeRecord 33
  failLow : Bool
  armed : Bool
  safeInOn : Bool
  clearPending : Vector Bool 4
  statusRun : Vector Nat 4
  liveArmed : Bool
  liveExpired : Bool
  liveTimeout : Nat
  liveSince : BitVec 96
  heartPending : Option FaultRec
  refreshAt : BitVec 96
  deriving DecidableEq, Repr

/-- The supervisor watchdog (R324 to R327) with its registers, and the clock monitor (R328). -/
structure Watchdog where
  enabled : Bool
  start : BitVec 96
  period : Nat
  window : Nat
  nextPeriod : Nat
  nextWindow : Nat
  firstKey : Option (BitVec 96)
  privViolation : Bool
  periodReject : Bool
  bitten : Bool
  monBad : Nat
  deriving DecidableEq, Repr

/-- Heartwood (R329): its fields, and whether its CRC matches. -/
structure Heartwood where
  wdtResets : BitVec 16
  bootAttempts : Byte
  resetCause : Byte
  lastFault : List Byte
  monResets : BitVec 16
  crcGood : Bool
  deriving DecidableEq, Repr

/-- A stored reply of the host serial link (R343): RCMD, RESULT and payload. -/
structure HslReply where
  rcmd : Byte
  result : BitVec 16
  payload : List Byte
  deriving DecidableEq, Repr

/-- The host serial link (R338 to R359). `pending` is the reply the next frame offers, `offered` the reply the current
or last frame offered, `miso` the bytes that HSL_MISO carried in the last frame. `startedAt` and `endedAt` are the monotonic
instants at which HSL_CS_N last fell and rose. -/
structure Hsl where
  inFrame : Bool
  busy : Bool
  ended : Bool
  status : Byte
  pending : Option HslReply
  offered : Option HslReply
  lastCmd : Byte
  goodSince : Option (BitVec 96)
  silent : Bool
  miso : List Byte
  startedAt : BitVec 96
  endedAt : BitVec 96
  deriving DecidableEq, Repr

/-- The state of a message buffer that is not FREE (R369). -/
inductive BufState where
  | held (ep : Nat)
  | posted (ep : Nat)
  | response (ep : Nat)
  deriving DecidableEq, Repr

/-- A command accepted at an endpoint whose completion has not been removed (R364 to R367). `phase` is 0 queued, 1 taken
up and running, 2 completed, 3 waiting for a command with the same sequence number (R373), 4 awaiting the copy of the other
member of a pair (R492), 5 held for arbitration (R496). `srcNode` and `srcMac` name the sender of a CMD frame (R473), `epoch` is
the authority epoch it carried (R464). -/
structure Outstanding where
  tag : Nat
  seq : Word
  single : Bool
  opBuf : Nat
  opcode : Nat
  phase : Nat
  srcNode : Nat
  srcMac : BitVec 48
  epoch : Word
  deriving DecidableEq, Repr

/-- A completion in endpoint 0's queue (R367), with the data word a single-word completion shows. -/
structure Completion where
  tag : Nat
  seq : Word
  single : Bool
  opBuf : Nat
  result : BitVec 16
  data : Word
  deriving DecidableEq, Repr

/-- One entry of a replay window (R372). -/
structure ReplayEntry where
  seq : Word
  opcode : Nat
  result : BitVec 16
  payload : List Byte
  truncated : Bool
  deriving DecidableEq, Repr

/-- A mailbox endpoint (R360 to R382). `lastSrc` is the sender of the last CMD frame on it (R473, R474). -/
structure Endpoint where
  opened : Bool
  major : Nat
  minor : Nat
  nextTag : Nat
  cmdHeld : Option Word
  outstanding : List Outstanding
  completions : List Completion
  window : List ReplayEntry
  db : Word
  mask : Word
  h2d : Word
  aborting : Option (List Nat)
  lastSrc : Option (Nat × BitVec 48)
  deriving DecidableEq, Repr

/-- A long command running after its take-up (R366): endpoint, tag, opcode and the completion it will give; `wait` is the
mask of banks whose report a CANCEL_SCHEDULE still awaits (R256), `cursor` the journal cursor that a JOURNAL_READ leaves (R375), and
`region` the NOR bytes that a FW_UPDATE_DATA programs, by address and length, and `handle` the entry that a CANCEL_SCHEDULE with
selector 0 names (R247). -/
structure LongRun where
  ep : Nat
  tag : Nat
  opcode : Nat
  result : BitVec 16
  payload : List Byte
  wait : BitVec 4
  cursor : Option Word
  region : Nat × Nat
  handle : Option (BitVec 16)
  deriving DecidableEq, Repr

/-- MBX (R360 to R390): endpoints, message RAM, buffers that are not free in rising order, and the execution queue of
(endpoint, tag). `stale` holds while a command runs whose frame carried another epoch than the one in effect at its
take-up (R365, R464). -/
structure Mailbox where
  eps : Vector Endpoint 8
  ram : Store
  bufs : List (Nat × BufState)
  queue : List (Nat × Nat)
  stale : Bool
  long : List LongRun
  deriving DecidableEq, Repr

/-- A commit accepted and not yet applied, or applied and not yet journalled (R402, R403). -/
structure Commit where
  apply : CellTime
  endpoint : Nat
  hash : BitVec 64
  content : Store
  waiting : List (Fin 4)
  late : BitVec 4
  deriving DecidableEq, Repr

end Sys2Proof.Machine
end

