-- ==== Sys2Proof/Machine/NetTypes.lean ====
section
/-! DEFINITION. Plain data of the backbone: Ethernet frames, ports, the switch and its tables (Backbone ports and switch). -/

namespace Sys2Proof.Machine

/-- An Ethernet frame as the switch sees it: addresses, VLAN tag (priority, VID), R-TAG sequence number, EtherType after
the tags, the bytes that follow it, its length in bytes from destination address to FCS, and whether its FCS is good. -/
structure Frame where
  dst : BitVec 48
  src : BitVec 48
  tag : Option (Fin 8 × BitVec 12)
  rtag : Option (BitVec 16)
  etype : BitVec 16
  payload : List Byte
  len : Nat
  fcsOk : Bool
  deriving DecidableEq, Repr

/-- A frame queued on a port: its traffic class, its cells (R432), whether it is cut through, whether it is a gPTP
message of the port's own engine (R433), the own publication group it carries, if any (R273), and the number of its copy
in the packet buffer, which the ports of a flooded frame share (R432). -/
structure QFrame where
  frame : Frame
  tc : Fin 8
  cells : Nat
  cut : Bool
  ptp : Bool
  pub : Option Nat
  buf : Nat
  deriving DecidableEq, Repr

/-- A gate control list in effect or awaiting its change time (R434, R435). -/
structure GateList where
  entries : List (Byte × Nat)
  cycle : Nat
  base : CellTime
  deriving DecidableEq, Repr

/-- A backbone port (R420 to R456); `badAt` is when its line was last known bad (R425), `pdelayAt` and `announceAt` when it sent
its last Pdelay_Req and Announce (R444, R445), `announceRx` when it received the Announce whose information it holds (R448). -/
structure Port where
  up : Bool
  speed : Nat
  queue : List QFrame
  sending : Option (QFrame × BitVec 96)
  exchanges : List Nat
  okRun : Nat
  lostRun : Nat
  asCapable : Bool
  ptpRole : Nat
  oper : Option GateList
  admin : Option (GateList × CellTime)
  changeAt : CellTime
  entry : Nat
  gates : Byte
  held : Bool
  tests : Nat
  badAt : BitVec 96
  pdelayAt : Option (BitVec 96)
  announceAt : Option (BitVec 96)
  announceRx : Option (BitVec 96)
  deriving DecidableEq, Repr

/-- A learned or static MAC table entry (R428, R454); port bit 3 is the logic die. -/
structure MacEntry where
  mac : BitVec 48
  vid : BitVec 12
  ports : BitVec 4
  static_ : Bool
  seen : BitVec 96
  deriving DecidableEq, Repr

/-- The run state of one stream entry (R438, R440, R454). -/
structure StreamSt where
  index : Nat
  genSeq : BitVec 16
  recSeq : Option (BitVec 16)
  history : List (BitVec 16)
  lastPass : BitVec 96
  latent : Bool
  testPassed : Nat
  testDup : Nat
  testAt : BitVec 96
  blocked : Bool
  tokens : Nat
  filled : BitVec 96
  lost : Nat
  deriving DecidableEq, Repr

/-- The switch (R426 to R443). -/
structure Switch where
  mac : List MacEntry
  streams : List StreamSt
  ownSeq : BitVec 16
  goodRun : Nat
  missRun : Nat
  testSeq : Word
  nextBuf : Nat
  syncRx : BitVec 16
  ctMax : Vector Word 3
  ringAt : BitVec 96
  deriving DecidableEq, Repr

/-- A frame delivered to the logic die and waiting there for its own row of the table: the frame and its ingress port. -/
structure Delivered where
  frame : Frame
  port : Fin 3
  deriving DecidableEq, Repr

end Sys2Proof.Machine
end

