-- ==== Sys2Proof/Machine/SysTypes.lean ====
section
/-! DEFINITION. Plain data of Grathiqua Cell Link, of the master pairs and the Ranger, of the memory serial port with its
memories and the journal, and of the supplies, the resets and the boot. -/

namespace Sys2Proof.Machine

/-- A GCL frame with its header taken apart (R460), as it waits between the checks of R462 and the row of its type. -/
structure GclFrame where
  src : BitVec 48
  dst : BitVec 48
  port : Fin 3
  rtag : Option (BitVec 16)
  version : Nat
  typ : Nat
  cell : Nat
  srcNode : Nat
  dstNode : Nat
  express : Bool
  master : Bool
  masterId : Nat
  tag : Nat
  seq : Word
  epoch : Word
  kind : Nat
  flags : Nat
  payload : List Byte
  deriving DecidableEq, Repr

/-- One entry of NODE_TABLE (R470), with the parts of the node's last HELLO that other rules read (R476, R502). -/
structure NodeEntry where
  addr : Nat
  lost : Bool
  versionMax : Nat
  gclState : Nat
  role : Nat
  mac : BitVec 48
  schema : BitVec 64
  authEpoch : Word
  authMaster : Nat
  heard : BitVec 96
  deriving DecidableEq, Repr

/-- One express frame remembered for the recognition of ring copies (R463) and for R507: source address, R-TAG number,
ingress port and instant. -/
structure RingMark where
  src : BitVec 48
  seq : BitVec 16
  port : Fin 3
  at_ : BitVec 96
  deriving DecidableEq, Repr

/-- A NOTIFY that is being repeated (R474): the enabled bits last announced and when. -/
structure NotifyState where
  bits : Word
  at_ : BitVec 96
  deriving DecidableEq, Repr

/-- Grathiqua Cell Link (R457 to R488); `helloDue` says that an event calls for a HELLO, `helloAt` when the last one was sent (R469). -/
structure Gcl where
  nodes : List NodeEntry
  ownSeq : Word
  checked : List GclFrame
  ring : List RingMark
  syncSeen : List (Nat × Word)
  notify : Vector NotifyState 8
  journalQ : List FaultRec
  journalLostFlag : Bool
  journalSeq : Word
  conflictAt : BitVec 96
  pendingEpoch : Option (Word × Nat × CellTime)
  helloDue : Bool
  helloAt : Option (BitVec 96)
  deriving DecidableEq, Repr

/-- What one master pair remembers of a command's copy (R490): sequence number, member, hash, instant of arrival, and
whether the other member's copy has come. -/
structure PairCopy where
  seq : Word
  member : Nat
  hash : BitVec 64
  tag : Nat
  at_ : BitVec 96
  both : Bool
  missing : Bool
  deriving DecidableEq, Repr

/-- A master pair (R489 to R497); `swapMark` is the last periodic swap instant taken (R505). -/
structure Pair where
  copies : List PairCopy
  highest : Option Word
  heldAt : BitVec 96
  querySent : Option (BitVec 96)
  arbRaised : Bool
  lastFrame : Vector (Option (BitVec 96)) 2
  lastMissing : Option (BitVec 96)
  dispute : Word × BitVec 64 × BitVec 64
  swapMark : GridMark
  deriving DecidableEq, Repr

/-- The Ranger this device may host (R502, R503), the swaps that wait (R505, R506), the last periodic
ring swap instant taken, and the ring watch (R507). -/
structure Redundancy where
  pairs : Vector Pair 7
  rangerSince : BitVec 96
  rangerHeard : BitVec 96
  issued : Option (Word × Nat × CellTime)
  lastRepeat : BitVec 96
  swaps : List (Nat × Nat × CellTime)
  ringGuard : Option (Fin 3 × BitVec 96)
  ringWatch : List RingMark
  blocked : Option (Fin 3)
  swapMark : GridMark
  deriving DecidableEq, Repr

/-- One entry of the queue of the memory serial port (R514 to R521); `broken` says that a power-fail commit released the select of its
sequence before it (R521). -/
structure MspEntry where
  requester : Nat
  select : Nat
  cont : Bool
  read : Bool
  lanes : Nat
  bits : Nat
  target : Word
  endpoint : Nat
  active : Bool
  queued : BitVec 96
  wait : Nat
  number : Nat
  dataBits : Nat
  broken : Bool
  deriving DecidableEq, Repr

/-- A NOR operation in progress (R523, R524): where it writes, its length, whether it erases, when it began, the bytes
it programs, and whether it is a block erase of a firmware update session (R565). -/
structure NorOp where
  addr : Nat
  len : Nat
  erase : Bool
  begun : BitVec 96
  bytes : List Byte
  suspended : Bool
  update : Bool
  deriving DecidableEq, Repr

/-- The memory serial port (R511 to R530). `cont` is the endpoint whose continued sequence holds the select, and since
when no entry of it runs; `stalled` holds the writes into the window that wait while the supervisor's bus stalls (R523, R539). -/
structure Msp where
  entries : List MspEntry
  holdCount : Nat
  cont : Option (Nat × BitVec 96)
  gatherPage : Option Nat
  gather : Store
  gatherAt : BitVec 96
  stalled : List (Nat × List Byte)
  norOp : Option NorOp
  norFail : Bool
  eraseReg : Word
  userCount : Vector Word 8
  grants : Vector (BitVec 16) 5
  bchHist : Vector Word 9
  nor : Store
  norPresent : Bool
  suspendOk : Bool
  released : Bool
  deriving DecidableEq, Repr

/-- A journal record (R535, R536): TYPE, FLAGS, NUMBER and the 24-byte body, with the monotonic instant of its arrival. -/
structure JRec where
  typ : Nat
  flags : Nat
  number : Word
  body : List Byte
  at_ : BitVec 96
  deriving DecidableEq, Repr

/-- A programmed page of the NAND (R531): block, page within it, the header's fields and the records. -/
structure NandPage where
  block : Nat
  page : Nat
  flags : Nat
  first : Word
  seq : Word
  created : CellTime
  opSeconds : Word
  eraseCount : Word
  records : List JRec
  deriving DecidableEq, Repr

/-- One block of the NAND that is not as new: its erase count, the count that the bad-block table last written holds, and
whether it is bad (R532). -/
structure NandBlock where
  block : Nat
  erases : Word
  tableErases : Word
  bad : Bool
  factoryBad : Bool
  deriving DecidableEq, Repr

/-- The journal and its NAND (R531 to R538). `incoming` holds the events (TYPE, TIME_UNCERTAIN, body) that wait for their
own row of the table, which numbers them; `sinceTable` counts the erases since the bad-block table was last written,
`scrubQueue` holds the blocks that await a scrub with the bits that were corrected, and `patrolAt` is the instant of the last patrol
read (R534). -/
structure Journal where
  incoming : List (Nat × Bool × List Byte)
  ram : List JRec
  next : Word
  pages : List NandPage
  blocks : List NandBlock
  blockCount : Nat
  present : Bool
  mounted : Bool
  pageSeq : Word
  openBlock : Option (Nat × Nat)
  scrubQueue : List (Nat × Nat)
  patrolNext : Nat
  patrolAt : Option (BitVec 96)
  opSeconds : Word
  lastOp : BitVec 96
  sinceTable : Nat
  deriving DecidableEq, Repr

/-- The fuse array as the boot ROM reads it (R562, R563, R130). -/
structure Fuses where
  grade : Nat
  testLock : Bool
  uniqueId : BitVec 64
  option : Byte
  dies : List Byte
  cal : List Word
  deriving DecidableEq, Repr

/-- A firmware update session (R564 to R566). -/
structure FwSession where
  ep : Nat
  slot : Bool
  len : Nat
  received : Nat
  erased : Nat
  deriving DecidableEq, Repr

/-- What feeds VMEM and the MSP lands (R579): nothing before VIO is good, VIO through the internal switch, or VHOLD. -/
inductive MemSupply where
  | off
  | vio
  | vhold
  deriving DecidableEq, Repr

/-- PMU and SUP (R545 to R592): the supplies, the reset, the boot and its log, and the fuse shadow. `reset` is the cause
code of the reset in progress. `persist` and `calWrite` are the image writes that run in the background (R406, R135): the slot
and the bytes; the flags say that newer content follows. `holdLow` is DIAG bit 0 of class 03 before a loss of power (R538). -/
structure Startup where
  supplyGood : BitVec 4
  aonLost : Bool
  reset : Option Nat
  resetPin : Option (BitVec 96)
  resetEnd : Option (BitVec 96)
  requests : List (Nat × BitVec 96)
  powerFail : Bool
  memSupply : MemSupply
  holdReady : Bool
  vioLevel : Bool
  phase : Nat
  bootFail : Option (BitVec 96)
  fwSlot : Bool
  bootOther : Bool
  linksStarted : Bool
  endpointsOpen : Bool
  headerCopy : Option Bool
  bootLog : List (Nat × Nat × Word)
  result0 : Nat
  result1 : Nat
  since : BitVec 96
  resetAt : BitVec 96
  fuses : Fuses
  fuseCorrected : Bool
  fuseUncorrectable : Bool
  session : Option FwSession
  rangeRun : Nat
  powerRun : Nat
  rangeActive : Bool
  powerActive : Bool
  holdActive : Bool
  hot : Bool
  tempLimit : Bool
  eccCorrected : BitVec 16
  cacheFills : BitVec 16
  cacheInval : BitVec 16
  holdLow : Bool
  persist : Option (Bool × List Byte)
  persistAgain : Bool
  calWrite : Option (Bool × List Byte)
  calAgain : Bool
  deriving DecidableEq, Repr

/-- The logic-side end of one bank link and what the logic side remembers of the bank (R28, R57, R417, R560);
`sent` is the
content that the bank has been sent last, `delay` the link delay in ps that the next SYNC cell returns (R57), `rotState` CNV_ROT_STATE, `dfcState` DFC_STATE and `ranks` the ranks of the groups as the last
STATUS cell gave them (R140, R166, R207), `lswSeen` whether the bank has sent an LSW cell (R209), `groups` what its last LSW cell told of its groups (R197, R200, R208). -/
structure LogicLink where
  started : Bool
  lastRx : BitVec 96
  delay : Option Int
  arrivalSent : Bool
  arrivalAt : Option CellTime
  syncsSince : Nat
  shareDue : Bool
  sent : Store
  groupSafe : BitVec 4
  rotState : Word
  dfcState : Word
  lswSeen : Bool
  ranks : List Nat
  groups : List GroupFig
  deriving DecidableEq, Repr

/-- What the logic side remembers of a coppice group: the consecutive frames with its VF spread above and at or below 0.5 V
(R196), whether it holds the group off for a clamp lock (R203), whether a member bank has reported a thermal shutdown, with whether
that came within 1 s of a restart, whether the group's thermal hold has gone to the banks (R202), and the group's thermal latch: 0
none, 1 sent, 2 seen in its members (R182). -/
structure GroupSide where
  vfHigh : Nat
  vfLow : Nat
  locked : Bool
  shutdown : Option Bool
  hot : Bool
  latch : Nat
  deriving DecidableEq, Repr

end Sys2Proof.Machine
end

