-- ==== Sys2Proof/Machine/CmdTypes.lean ====
section
/-! DEFINITION. The operands of the commands: what the outside world brings with a row of the table (a cell's check, a
measured value, a frame, the sender of a mailbox command). -/

namespace Sys2Proof.Machine

/-- Which watchdog register or field a write is for (R326, R336): FSC_WDT_PERIOD, FSC_WDT_CTRL.WINDOW or FSC_WDT_STATUS. -/
inductive WdtField where
  | period
  | window
  | status
  deriving DecidableEq, Repr

/-- What a line does to the 64 bytes of a cell: the bytes it changes, each by the bits that it flips. -/
abbrev Noise := List (Fin 64 × Byte)

/-- How a link-start SYNC cell reaches its bank: what the line does to it, and how long it flies, in ps (R57). -/
structure Arrival where
  hit : Noise
  flight : Nat
  deriving DecidableEq, Repr

/-- What the receiver of a cell finds (R22, R23): a good cell, or one that is discarded. -/
inductive CellCheck where
  | good
  | badCrc
  | badType
  | badLen
  deriving DecidableEq, Repr

/-- The outcome of the best-master selection of IEEE 802.1AS (R444): this device, no master, or a master heard on a port
with its identity and its steps removed. -/
inductive MasterChoice where
  | self
  | noneFound
  | other (port : Fin 3) (gm : BitVec 64) (steps : BitVec 16)
  deriving DecidableEq, Repr

/-- A digital input: a universal channel in DI mode or a fast input. -/
inductive DiRef where
  | uni (u : Fin 16)
  | fast (f : Fin 8)
  deriving DecidableEq, Repr

/-- A load-switch output: a channel or a coppice group. -/
inductive LoadRef where
  | ls (l : Fin 8)
  | grp (g : Fin 4)
  deriving DecidableEq, Repr

/-- The command that a row executes on a sender's behalf: the endpoint it came in by, its tag and its sequence number. -/
structure Req where
  ep : Fin 8
  tag : Nat
  seq : Word
  deriving DecidableEq, Repr

/-- One entry of SCHEDULE_OUTPUT (R383): the 24 bytes taken apart; `policy` is byte 7 of R246. -/
structure SchedReq where
  kind : Nat
  target : Nat
  action : Nat
  policy : Nat
  apply : CellTime
  value : Int
  width : Nat
  deriving DecidableEq, Repr

/-- What the power stage of a load switch measures in one evaluation (R178 to R181): the mirror current in nA, the voltage
across the switch in µV, the sensor in 10^-6 °C, and whether it regulates. -/
structure StageMeas where
  iMirror : Int
  vds : Int
  tS : Int
  limiting : Bool
  deriving DecidableEq, Repr

/-- What a current limiter does (R87, R89): it enters its limit, leaves it, or has been in it for its time. -/
inductive LimitEdge where
  | enter
  | leave
  | expire
  deriving DecidableEq, Repr

/-- What the current limiter of one universal channel does. -/
structure LimitEvent where
  u : Fin 16
  edge : LimitEdge
  deriving DecidableEq, Repr

/-- What a readback or compliance measurement of one analogue output finds with a main sample (R94, R95): whether the
stage is at its compliance limit, and for how many ns it has been in current limit without a break. -/
structure OutMeas where
  compliance : Bool
  limitedNs : Nat
  deriving DecidableEq, Repr

/-- One firmware slot as the boot ROM finds it: whether its signature verifies with the boot-ROM key its header names
(R552 check 5; the curve arithmetic is the boot ROM's own). -/
structure SlotSig where
  sig0 : Bool
  sig1 : Bool
  deriving DecidableEq, Repr

/-- What the boot ROM reads (R550, R562, R513, R577): the fuse array, or `none` where the grade, identity or option words
cannot be read; the corrected and uncorrectable marks; the NOR and the NAND that answer, by density in Mbit and JEDEC
identifier; the reference kind of R42; and whether VIO lies above V_LVL (R571). -/
structure BootRead where
  fuses : Option Fuses
  corrected : Bool
  calBad : List Nat
  nor : Option (Nat × Nat × Bool)
  nand : Option (Nat × Nat)
  refType : Bool
  vio33 : Bool
  sigs : SlotSig
  deriving DecidableEq, Repr

/-- One measurement of class 03 (R576, R585): the five supplies in mV, the logic die in 0.01 °C, and the power of the logic
side and of the four banks in mW. -/
structure Supplies where
  vdd08 : Nat
  vddsd : Nat
  vio : Nat
  vaux3 : Nat
  vhold : Nat
  logicTemp : Int
  powerLogic : Nat
  powerBank : Vector Nat 4
  deriving DecidableEq, Repr

end Sys2Proof.Machine
end

