-- ==== Sys2Proof/Syntax.lean ====
section
/-! DEFINITION. The commands of the block: one constructor per row of spec/opcode_table.json. A row's operands are what the
outside world brings with it; where a row concerns something the block itself holds (a cell on a line, a frame delivered, a
timer), the state holds it. -/

namespace Sys2Proof

open Sys2Proof.Machine

/-- One row of the table of operations and events each; the docstring cites the row's rule. -/
inductive Instr where
  /-- R626: After a logic-side reset the logic side starts each bank link, sending a link-start SYNC cell with
  both SEQ counters at 0. -/
  | linkStart (b : Fin 4)
  /-- R626: A bank receives a link-start SYNC cell, discards unacknowledged and queued cells, pending records and
  samples, and zeroes its SEQ counters. -/
  | linkStartSyncReceived (b : Fin 4) (a : Arrival)
  /-- R56: A bank receives a SYNC cell, applies any step, steers BOSC towards the time base, takes the time state
  and aligns MCLK to the phase mark. -/
  | syncCellReceived (b : Fin 4) (hit : Noise) (flight : Nat)
  /-- R266: The logic side receives a STATUS cell and updates bank state, own points, output sources, the silence
  timer and the link-delay round trip. -/
  | statusCellReceived (b : Fin 4) (hit : Noise) (vf : Nat) (flight : Nat)
  /-- R27: An IDLE cell received with a good CRC carries ACK and restarts the link-silence timer. -/
  | idleCellReceived (b : Fin 4) (up : Bool) (hit : Noise)
  /-- R74: The logic side receives a SAMPLE cell and writes the samples to Canopy points, the journal or class 06
  attributes. -/
  | sampleCellReceived (b : Fin 4) (hit : Noise)
  /-- R24: The logic side receives an EDGE cell, rebuilds each record's cell time and updates points, capture
  queues and cross-bank latch triggers. -/
  | edgeCellReceived (b : Fin 4) (hit : Noise)
  /-- R221: The logic side receives a COUNT cell and updates COUNTER, COUNT_TIME, period, frequency and latch
  values. -/
  | countCellReceived (b : Fin 4) (hit : Noise)
  /-- R209: The logic side receives an LSW cell and refreshes load-switch registers and coppice-group share
  computation. -/
  | lswCellReceived (b : Fin 4) (hit : Noise)
  /-- R307: The logic side receives an express FAULT cell carrying a bank fault event for the fault collector. -/
  | faultCellReceived (b : Fin 4) (hit : Noise)
  /-- R130: A CAL cell carrying calibration records, rotation results or cross-check data is received by bank or
  logic side. -/
  | calCellReceived (b : Fin 4) (up : Bool) (hit : Noise)
  /-- R627: A bank receives a CFG cell of write records, a commit marker or a decimator-sync marker. -/
  | cfgCellReceived (b : Fin 4) (hit : Noise)
  /-- R404: The logic side receives a bank's CFG share report, marking late shares with BKC-04. -/
  | shareReportReceived (b : Fin 4) (hit : Noise)
  /-- R29: A bank receives an OUT cell and stores immediate master values, a group share or DIAG clears. -/
  | outCellReceived (b : Fin 4) (hit : Noise)
  /-- R29: A bank receives a FORCE cell and activates or releases the Glade force source of rank 3. -/
  | forceCellReceived (b : Fin 4) (hit : Noise)
  /-- R315: A bank receives a SAFE cell (SET, CLEAR, REFRESH or CLEAR_AUTONOMOUS) and sets its rank-1 or rank-2
  state. -/
  | safeCellReceived (b : Fin 4) (hit : Noise)
  /-- R629: A bank receives a SCHED cell carrying one schedule entry or batch-complete entry and arms it, or
  treats it as late. -/
  | schedCellReceived (b : Fin 4) (hit : Noise)
  /-- R256: A bank executes a cancel marker in the cycle of receipt, before any entry due in that cycle, and sends
  a cancel report. -/
  | cancelMarkerReceived (b : Fin 4) (hit : Noise)
  /-- R245: The logic side receives a bank's schedule outcome or cancel report, frees the slot, journals the
  outcome and updates counters. -/
  | outcomeReportReceived (b : Fin 4) (hit : Noise)
  /-- R26: ACK has not advanced past an ordinary cell within 2 link frames, so every unacknowledged cell from it
  on is sent again. -/
  | cellResendTimeout (b : Fin 4) (up : Bool)
  /-- R27: A bank's SOSC silence timer reaches LINK_TIMEOUT and the bank applies its autonomous safe state. -/
  | linkSilenceTimeout (b : Fin 4)
  /-- R28: The logic-side silence timer of a bank expires; the bank becomes SILENT and BKC-01 is raised. -/
  | logicSilenceTimeout (b : Fin 4)
  /-- R59: A bank has received no valid SYNC for 4 link frames, marks later records time-uncertain and its
  BANK_LOCK clears. -/
  | bankSyncGap (b : Fin 4)
  /-- R44: A Sync message on the slave port drives a servo update that may step, lock or keep acquiring, and is
  relayed on master ports. -/
  | gptpSyncReceived (p : Fin 3) (rx : CellTime) (gm : Int) (demand : Int)
  /-- R44: No Sync for 3 Sync intervals takes LOCKED to HOLDOVER or ACQUIRE to FREERUN. -/
  | syncLossTimeout
  /-- R44: Best-master selection chooses another grandmaster or this device, changing the time state. -/
  | bestMasterChange (c : MasterChoice)
  /-- R448: Announce information received on a port expires after announceReceiptTimeout and best-master selection
  runs again. -/
  | announceReceiptTimeout (p : Fin 3) (c : MasterChoice)
  /-- R47: Every 1 ms in holdover states the holdover error estimate is compared with UNCERTAIN_BOUND to enter
  time-uncertain. -/
  | holdoverEvaluation
  /-- R51: TDH0 captures a PPS_IN edge, which is accepted, rejected or used to enter GM_PPS with a step. -/
  | ppsInEdge (falling : Bool) (t : CellTime) (demand : Int)
  /-- R51: No PPS_IN edge accepted for 2.5 s takes GM_PPS to GM_PPS_HOLDOVER with TB_RATE frozen. -/
  | ppsLostTimeout
  /-- R54: The counter reaches a whole second plus PPS_OUT_OFFSET and PPS_OUT rises when its mode allows. -/
  | ppsOutRise
  /-- R54: PPS_OUT falls PPS_OUT_WIDTH after its rise, or 1 µs before the next rising edge. -/
  | ppsOutFall
  /-- R63: At a Sync interval boundary the time base applies a committed change of ROLE, priorities, DOMAIN or
  LOG_SYNC_INTERVAL. -/
  | syncIntervalBoundary
  /-- R45: A write of P04.00.0D in GM_FREE steps the count to the written value. -/
  | epochSet (q : Req) (v : BitVec 64)
  /-- R52: A write of PPS_TOD_SECONDS sets the seconds value for the next accepted PPS_IN edge. -/
  | ppsTodSeconds (q : Req) (v : BitVec 64)
  /-- R15: A read of the lowest word of a wider register group latches the higher words for that access path. -/
  | latchedRegisterRead (hsl : Bool) (addr : Nat)
  /-- R61: The bank finishes slewing MCLK after a step or first lock and samples stop carrying TIME_UNCERTAIN for
  phase error. -/
  | mclkRephaseEnd (b : Fin 4)
  /-- R79: A digital-input comparator transition is timestamped by its TDC and restarts the debounce count. -/
  | diComparatorTransition (u : Fin 16) (level : Bool) (t : CellTime)
  /-- R80: The comparator has held the opposite level for DEBOUNCE, so the edge is accepted, a record made and
  EDGE_COUNT incremented. -/
  | debounceExpiry (c : DiRef)
  /-- R82: The input current has stayed below or above its threshold for WB_WINDOW, setting or clearing OPEN. -/
  | wireBreakWindowExpiry (c : DiRef) (below : Bool) (cur : Int)
  /-- R84: Every 10 ms a voltage-input channel applies a burnout current for two wide-tap periods and decides OPEN
  at the end. -/
  | openTerminalTest (u : Fin 16) (reading : Option Int)
  /-- R142: At each wide-tap instant stage 1 produces a raw word, which is corrected and fed to stage 2 and the
  wide tap. -/
  | wideTapWord (b : Fin 4) (conv : Fin 5) (m : List (BitVec 5))
  /-- R87: The current-input limiter has been in limit for 10 ms, so the input switch opens and UCF-05 is raised; `l` also
  brings its entry into the limit and its leaving it. -/
  | protectOff (l : LimitEvent)
  /-- R87: The input switch closes again 1 s after protect-off. -/
  | protectOffReclose (u : Fin 16) (clean : Bool)
  /-- R102: An analogue input stays OVER or UNDER for more than 100 ms and UCF-09 is raised. -/
  | overRangePersist (u : Fin 16)
  /-- R89: A DO driver has been in current limit for DO_SC_TIME, turns off, sets SHORT and raises UCF-02; `l` also brings its
  entry into the limit and its leaving it. -/
  | doScTimeExpiry (l : LimitEvent)
  /-- R90: A shorted DO channel restarts 100 ms after turn-off, latching at the 8th consecutive failed restart. -/
  | doRestart (u : Fin 16) (clean : Bool)
  /-- R89: A DO output on carries below 3 mA for 10 ms, setting OPEN and raising UCF-03, or clears after 10 ms
  absent. -/
  | doOpenLoad (u : Fin 16) (present : Bool)
  /-- R89: An off DO terminal stays above V_ON of DI3 for 10 ms, setting SHORT and raising UCF-06. -/
  | doShortToSupply (u : Fin 16) (present : Bool)
  /-- R100: 250 µs after a mode change the front end has settled and the converter and filter chain start. -/
  | frontEndSettled (u : Fin 16)
  /-- R152: A main-output sample falls due at T + D and is delivered or suppressed under R157 and queued for a
  SAMPLE cell. -/
  | mainSampleDue (u : Fin 16) (m : OutMeas)
  /-- R114: At a rotation slot start the bank chooses at most one eligible channel and starts RELIEF_CAL. -/
  | rotationSlotStart (b : Fin 4)
  /-- R120: RELIEF_CAL completes; the relief coefficients update or the relief is taken out of service with
  CNV-06. -/
  | reliefCalEnd (b : Fin 4)
  /-- R121: A rotation phase completes its count of wide-tap samples and the channel's CAL_STATE moves to the next
  phase. -/
  | rotationPhaseEnd (b : Fin 4)
  /-- R119: At the end of CH_CHECK the new coefficients are accepted or rejected with CNV-04 and CNV-05. -/
  | chCheckEnd (b : Fin 4)
  /-- R118: An overlap ends, HANDOVER_DELTA is reported and CNV-03 is raised on a mismatch. -/
  | overlapEnd (b : Fin 4)
  /-- R122: An event cuts short a rotation, moving the channel to RECONNECT or releasing the relief at once. -/
  | rotationCutShort (b : Fin 4)
  /-- R123: At a slot end the bank averages δ and changes REF_STATE, raising CNV-01 or CNV-02. -/
  | slotEndCrossCheck (b : Fin 4)
  /-- R126: A channel's clamp current exceeds its heavy-clamp threshold, flagging NEIGHBOUR_OVERLOAD and raising
  CNV-07. -/
  | heavyClampStart (u : Fin 16)
  /-- R126: 50 µs after a heavy clamp ends the interval closes and is journalled. -/
  | heavyClampEnd (u : Fin 16)
  /-- R108: Every 1 ms the field-die temperature is read for the reference and sense-resistor models. -/
  | dieTemperatureRead (b : Fin 4) (t : Int)
  /-- R133: CALIBRATE ROTATE_NOW sets a priority rotation request on an eligible channel. -/
  | rotateNow (q : Req) (u : Fin 16)
  /-- R133: CALIBRATE TRIM_POINT records the DAC target in effect and the measured value for one trim point. -/
  | trimPoint (q : Req) (u : Fin 16) (second : Bool) (measured : BitVec 32)
  /-- R133: CALIBRATE TRIM_APPLY computes the trim from two points and stages it into OUTPUT_TRIM. -/
  | trimApply (q : Req) (u : Fin 16)
  /-- R135: The write and read-back of a new calibration record completes, making it active or raising CNV-10. -/
  | calRecordWriteDone (ok : Bool)
  /-- R160: A rising SYNC_IN edge timestamped by TDH1 makes a decimator-synchronisation request for channels with
  bit 0 set. -/
  | syncInEdge (t : CellTime)
  /-- R160: A SET_PARAM of SYNC_AT requests decimator synchronisation of one channel at the written instant. -/
  | syncAt (q : Req) (u : Fin 16) (t : CellTime)
  /-- R162: At A′ the bank resets stage 1, clears stages 2 to 5, moves the anchor and journals the
  synchronisation. -/
  | decimatorSyncInstant (b : Fin 4)
  /-- R164: A parity error in a chain's coefficient or history memory clears and restarts the chain and raises
  DFC-02. -/
  | filterParityError (u : Fin 16)
  /-- R181: Every 1 µs a load-switch channel evaluates both sense paths, its junction estimate and its effective
  limit. -/
  | powerStageEvaluation (l : Fin 8) (m : StageMeas)
  /-- R174: A load switch has regulated at its limit for LIMIT_TIME, turns off, raises LSW-01 and enters retry
  wait or latch. -/
  | limitTimeExpiry (l : Fin 8)
  /-- R175: RETRY_PERIOD has elapsed, the retry-wait hold clears and the channel turns on with its inrush profile. -/
  | retryPeriodExpiry (l : Fin 8)
  /-- R182: T_J or T_S reaches T_SD, the channel turns off, sets the thermal-wait hold and raises LSW-02. -/
  | thermalShutdown (l : Fin 8)
  /-- R182: Both temperatures fall below T_RS and the channel restarts, counting towards the thermal latch. -/
  | thermalRestart (l : Fin 8)
  /-- R184: V_DS rises above 40 V after a turn-off and a clamp interval starts integrating energy. -/
  | clampIntervalStart (l : Fin 8)
  /-- R184: A clamp interval ends, its energy is subtracted from the budget and a clamp lock or PULSE_OVER may
  follow. -/
  | clampIntervalEnd (l : Fin 8)
  /-- R186: With UNLOCK_MODE 0 the clamp budget reaches UNLOCK_LEVEL and the clamp lock clears. -/
  | clampUnlock (l : Fin 8)
  /-- R188: A load switch on carries below OPEN_LOAD_THRESHOLD for 10 ms, setting OPEN and raising LSW-08. -/
  | lswOpenLoad (o : LoadRef) (present : Bool)
  /-- R188: An off load-switch terminal stays above half VF_x for 10 ms, setting SHORT_VF and raising LSW-09. -/
  | lswShortToSupply (l : Fin 8) (present : Bool)
  /-- R188: An on terminal lies above VF_x + 0.2 V for 2 µs, so the switch turns off under the reverse-current
  hold. -/
  | lswReverseCurrent (l : Fin 8) (present : Bool)
  /-- R169: No valid frame between field and power die for 100 µs; the power die applies the last safe setting and
  LSW-15 is raised. -/
  | powerDieExchangeLost (b : Fin 4)
  /-- R193: A member bank reaches a common launch instant and switches its members in one bank-clock cycle. -/
  | groupLaunchInstant (b : Fin 4)
  /-- R196: The VF spread of a cross-bank group exceeds 0.5 V in 16 consecutive frames; the group trips and LSW-12
  is raised. -/
  | vfSpreadCheck (g : Fin 4)
  /-- R197: Every 10 µs or link frame each active member moves its gate step one step towards the share S. -/
  | balanceUpdate (b : Fin 4) (g : Fin 4)
  /-- R197: IMBALANCE exceeds 10 % for 100 ms, setting BALANCE_LOST and raising LSW-13. -/
  | balanceLost (g : Fin 4)
  /-- R198: A member with lost sense or open is excluded, held off, and LSW-10 is raised; the group is re-rated. -/
  | memberExclusion (l : Fin 8)
  /-- R200: At the trip instant every member is held off, TRIPPED is set and LSW-11 is raised. -/
  | groupTrip (b : Fin 4) (g : Fin 4)
  /-- R200: The overload has ended for 100 µs on every member before the trip instant and the logic side cancels
  it. -/
  | groupOverloadEnd (g : Fin 4)
  /-- R202: A member reaches T_SD and the whole group switches off, restarting together below T_RS. -/
  | groupThermal (g : Fin 4) (restart : Bool)
  /-- R213: A fast-input edge is timestamped and, once accepted, counted, captured, used for period and latch
  triggers. -/
  | fastInputEdge (f : Fin 8) (level : Bool) (t : CellTime)
  /-- R220: A write of COUNTER sets the counter in the bank-clock cycle its CFG cell is received. -/
  | counterWrite (b : Fin 4) (hit : Noise)
  /-- R226: A write of CAPTURE_POP removes queued entries up to the named sequence number. -/
  | capturePop (q : Req) (f : Fin 8) (seq : BitVec 16)
  /-- R228: At each gate end the bank computes FREQUENCY by reciprocal counting. -/
  | frequencyGateEnd (f : Fin 8)
  /-- R229: No rising edge for STOP_TIMEOUT sets STOPPED, FREQUENCY 0 and PERIOD all ones. -/
  | stopTimeout (f : Fin 8)
  /-- R232: A latch trigger edge or grid instant latches the counter value at its instant, exactly or inexactly. -/
  | latchTrigger (f : Fin 8) (t : CellTime)
  /-- R233: A write of LATCH_AT arms a named-instant latch, executed at once for a past instant. -/
  | latchAt (q : Req) (f : Fin 8) (t : CellTime)
  /-- R233: The bank copy reaches an armed named instant and the latch executes. -/
  | namedLatchInstant (f : Fin 8)
  /-- R248: SCHEDULE_OUTPUT checks and queues 1 to 32 entries as one batch and sends them to their banks. -/
  | scheduleOutput (q : Req) (es : List SchedReq)
  /-- R255: CANCEL_SCHEDULE removes selected entries and sends cancel markers to banks holding them. -/
  | cancelSchedule (q : Req) (selector : Nat) (release : Bool) (kind : Nat) (target : Nat) (what : BitVec 16)
  /-- R249: The bank copy reaches an entry's apply instant and the entry is applied, held or takes its safe
  policy. -/
  | scheduleApplyInstant (b : Fin 4)
  /-- R243: WIDTH after a PULSE was applied the scheduled source is released unless superseded. -/
  | pulseRelease (b : Fin 4)
  /-- R253: A HELD entry is applied in the first cycle the bank is no longer time-uncertain. -/
  | heldEntryResume (b : Fin 4)
  /-- R253: A HELD entry reaches HOLD_LIMIT and is dropped with TB-12. -/
  | holdLimitExpiry (b : Fin 4)
  /-- R270: At an F or S publication instant the group is read atomically and a PUB frame is sent. -/
  | publicationInstant (g : Fin 64)
  /-- R271: A qualifying change or HOLDOFF end makes an E group publish a PUB frame. -/
  | eventGroupPublish (g : Fin 64)
  /-- R270: No frame of an E group has left for PERIOD and a heartbeat PUB frame is sent. -/
  | heartbeatExpiry (g : Fin 64)
  /-- R275: A PUB frame matching a subscription is accepted or discarded and written into Canopy between rules. -/
  | pubFrameReceived
  /-- R277: The 10 µs stale check finds 3 × PERIOD since the last accepted frame and the group turns stale with
  CAN-03. -/
  | staleCheck
  /-- R280: A write of FORCE_POINT forces an own or subscribed point to a value. -/
  | forcePoint (q : Req) (handle : BitVec 32) (value : BitVec 32)
  /-- R281: A write of RELEASE_POINT releases one or every commissioning force. -/
  | releasePoint (q : Req) (handle : BitVec 32)
  /-- R287: At every multiple of 2,000 ns Glade evaluates the fast-lane rules and updates markers and forces. -/
  | fastPass
  /-- R287: At every multiple of 50,000 ns Glade evaluates all rules, counting an overrun with GLD-01. -/
  | mainPass (overran : Bool)
  /-- R291: Every 1 ms Glade repeats the whole force state of every present bank in FORCE cells. -/
  | forceRepeat
  /-- R293: LOAD_RULES BEGIN clears the inactive rule bank for an image of the given length. -/
  | loadRulesBegin (q : Req) (len : BitVec 32)
  /-- R293: LOAD_RULES DATA writes bytes of the rule image at an offset. -/
  | loadRulesData (q : Req) (off : BitVec 32) (data : List Byte)
  /-- R293: LOAD_RULES END verifies the image and optionally persists it to NOR. -/
  | loadRulesEnd (q : Req) (persist : Bool) (norOk : Bool)
  /-- R294: SWAP_RULES sets a pending swap of the rule banks at an apply instant. -/
  | swapRules (q : Req) (at_ : CellTime)
  /-- R295: At the first main pass at or after the swap instant the rule banks exchange roles and forces are
  recomputed. -/
  | ruleSwapExecute
  /-- R307: The fault collector takes a raise, logs a fault record, counts it and applies the reaction in effect. -/
  | faultCollect
  /-- R625: Occurrences leave the 1 s window so that no more than 16 remain and the lasting instance ends. -/
  | faultWindowExpiry
  /-- R315: Every 1 ms Firebreak sends every present bank a REFRESH cell with its whole rank-1 state. -/
  | safeRefresh
  /-- R313: Every 1 ms Firebreak checks its store against ECC and CRC, setting the device record and FSC-01 on
  error. -/
  | selfProtectionCheck (bad : Bool)
  /-- R320: SAFE_IN_N is low for 150 MON samples, raising FSC-05 and setting records as SAFE_IN_MODE selects. -/
  | safeInAssertion
  /-- R322: CLEAR_SAFE checks authority, key, scope and causes and clears safe-state records and rank 2. -/
  | clearSafe (q : Req) (scope : Nat) (kind : Nat) (index : Nat) (key : BitVec 16)
  /-- R319: Once a bank has delivered 64 frames of STATUS and BANK_LOCK is set, a pending or automatic
  CLEAR_AUTONOMOUS is sent. -/
  | clearAutonomousSend (b : Fin 4)
  /-- R323: LIVENESS from the authority's endpoint arms or restarts the controller-liveness monitor. -/
  | liveness (q : Req)
  /-- R323: No counted LIVENESS for LIVENESS_TIMEOUT; the monitor expires and FSC-06 is raised. -/
  | livenessTimeout
  /-- R324: A privileged write of 1 to FSC_WDT_CTRL.ENABLE starts the supervisor watchdog. -/
  | wdtEnable (priv : Bool)
  /-- R325: A write to FSC_WDT_SERVICE completes a service, starts a new interval, or is a failed service that
  bites. -/
  | wdtService (priv : Bool) (v : BitVec 32)
  /-- R326: A write to FSC_WDT_PERIOD or WINDOW is accepted only while the window is open, else sets
  PERIOD_REJECT. -/
  | wdtPeriodWrite (priv : Bool) (field : WdtField) (v : BitVec 32)
  /-- R325: A watchdog interval ends without a completed service and the watchdog bites. -/
  | wdtIntervalEnd
  /-- R328: At the end of each 200-cycle MON window the core-clock edge count is checked, raising FSC-03 on
  failure. -/
  | clockMonitorWindow (edges : Nat) (gap : Bool)
  /-- R330: A C3 or C4 raise writes its record into Heartwood LAST_FAULT within 10 µs. -/
  | heartwoodWrite
  /-- R330: A write of 0 to WDT_RESET_COUNT clears WDT_RESETS and MON_RESETS. -/
  | wdtResetCount (q : Req) (v : BitVec 16)
  /-- R307: A write of LOG_POP removes fault log records up to the named sequence number. -/
  | logPop (q : Req) (seq : BitVec 16)
  /-- R331: REHEARSE_REACTION walks reaction cases, journalling rehearsal records without touching outputs. -/
  | rehearseReaction (q : Req) (staged : Bool) (all : Bool) (kind : Nat) (ident : Nat) (index : Nat)
  /-- R342: HSL_CS_N falls and the device presents the status byte and any pending reply, or a BUSY status. -/
  | hslFrameStart (busy : Bool)
  /-- R345: HSL_CS_N rises; the frame is checked for framing and CRC and its command is taken up. -/
  | hslFrameEnd (bytes : List Byte)
  /-- R341: NOP frame command executes nothing and produces an empty OK reply. -/
  | nop
  /-- R347: READ_REG reads 1 to 64 words of the direct register window in ascending order. -/
  | readReg (addr : BitVec 32) (count : Byte)
  /-- R347: WRITE_REG checks then writes words to registers that endpoint 0 may write. -/
  | writeReg (addr : BitVec 32) (data : List Word)
  /-- R348: READ_BUF returns bytes of a message buffer held by endpoint 0. -/
  | readBuf (buf : Byte) (off : BitVec 16) (len : BitVec 16)
  /-- R348: WRITE_BUF writes bytes to a message buffer held by endpoint 0. -/
  | writeBuf (buf : Byte) (off : BitVec 16) (data : List Byte)
  /-- R349: WORD posts a word into endpoint 0's single-word command register and replies with its acceptance. -/
  | word (w : Word)
  /-- R350: DOORBELL samples and clears device-to-host bits and rings host-to-device bits in one FAB cycle. -/
  | doorbell (clear : Word) (ring : Word)
  /-- R351: IDENT returns part, stepping, grade, firmware and mailbox version. -/
  | ident
  /-- R351: REPEAT returns an exact copy of the previous frame's reply. -/
  | repeatReply
  /-- R354: HSL_CS_N stays low with no clock for FRAME_TIMEOUT; the frame ends as a framing error and HSL-02 is
  raised. -/
  | frameTimeout (first : Option Byte)
  /-- R355: No good frame for HOST_TIMEOUT raises HSL-03. -/
  | hostTimeout
  /-- R365: The firmware takes up the next accepted command, checks its descriptor and rights, or completes it
  REPLAYED. -/
  | commandTakeUp
  /-- R366: A long command finishes after take-up and its completion is queued or sent. -/
  | longCommandComplete (ep : Fin 8) (tag : Nat) (ok : Bool)
  /-- R383: PING returns its data. -/
  | ping (q : Req) (data : List Byte)
  /-- R396: GET_PARAM returns one whole value of an attribute of at most 64 bytes. -/
  | getParam (q : Req) (index : BitVec 32)
  /-- R395: SET_PARAM checks and writes an attribute, staging RWS values or acting immediately. -/
  | setParam (q : Req) (index : BitVec 32) (value : List Byte)
  /-- R397: GET_BLOCK reads part of a large attribute, a span or the register window by offset and length. -/
  | getBlock (q : Req) (index : BitVec 32) (off : BitVec 32) (len : BitVec 16)
  /-- R395: SET_BLOCK writes part of a large RWS attribute into the staged set. -/
  | setBlock (q : Req) (index : BitVec 32) (off : BitVec 32) (data : List Byte)
  /-- R401: COMMIT_CONFIG checks and freezes the staged set as pending content and sends each bank its share. -/
  | commitConfig (q : Req) (apply : CellTime) (hash : BitVec 64)
  /-- R405: DISCARD_CONFIG resets the staged set to the pending or in-effect content. -/
  | discardConfig (q : Req)
  /-- R536: JOURNAL_READ returns journal records from the cursor or a start number. -/
  | journalRead (q : Req) (mode : Nat) (max : Nat) (start : BitVec 32)
  /-- R565: FW_UPDATE_BEGIN opens a session, invalidates the target slot and erases its blocks in the background. -/
  | fwUpdateBegin (q : Req) (len : BitVec 32)
  /-- R564: FW_UPDATE_DATA programs the next image bytes into the target slot. -/
  | fwUpdateData (q : Req) (off : BitVec 32) (data : List Byte)
  /-- R565: FW_UPDATE_END verifies the slot and writes a header preferring it, ending the session. -/
  | fwUpdateEnd (q : Req) (sigOk : Bool) (norOk : Bool)
  /-- R374: ABORT ends outstanding commands of its endpoint within 500 µs. -/
  | abort (q : Req) (tag : Nat)
  /-- R376: Every command covered by an abort has completed and ABORT_DONE is set. -/
  | abortDone (ep : Fin 8)
  /-- R380: Mailbox NEGOTIATE selects the mailbox version of the endpoint. -/
  | negotiate (q : Req) (major : Nat) (minor : Nat)
  /-- R367: A write of a tag to MBX_ACK_POP removes the head completion and frees the tag. -/
  | mbxAckPop (tag : Word)
  /-- R370: A read of MBX_CLAIM over the host link claims the lowest free buffer within quota. -/
  | mbxClaim
  /-- R371: A write to MBX_RELEASE frees a buffer held by endpoint 0. -/
  | mbxRelease (buf : Word)
  /-- R379: A write of 1 to MBX_H2D_CLEAR or P13.ee.0A clears USER_IN bits. -/
  | mbxH2dClear (ep : Fin 8) (mask : Word)
  /-- R13: A write to a register or attribute with no row of its own, such as a W1C bit or doorbell mask, acts by
  its access code. -/
  | registerWrite (addr : Nat) (v : Word)
  /-- R400: STAGED_HASH is recomputed and HASH_READY is set within 1 ms of the last staged write. -/
  | stagedHashReady
  /-- R403: At the apply instant the logic side puts the pending content into effect and raises CONFIG_COMMITTED. -/
  | commitApply
  /-- R99: At the apply instant, or on late completion, a bank applies its share of a commit in one bank-clock
  cycle. -/
  | bankShareApply (b : Fin 4)
  /-- R403: Once every bank present has reported its application, the commit is journalled with LATE_BANKS. -/
  | commitJournal
  /-- R406: A background configuration image write completes, becoming active or failing with MSP-01. -/
  | persistDone (ok : Bool)
  /-- R425: A port declares its link down, discards queued frames, removes learned entries and raises BBS-01. -/
  | portLinkDown (p : Fin 3)
  /-- R425: The line has been good for LINK_UP_HOLD and the port declares its link up. -/
  | portLinkUp (p : Fin 3) (speed : Nat)
  /-- R427: A frame received on a port is checked, learned, and forwarded cut-through or stored, or delivered
  locally. -/
  | frameReceived (p : Fin 3) (f : Frame)
  /-- R434: A gate control list entry interval ends and the next gate states take effect. -/
  | gateIntervalBoundary (p : Fin 3)
  /-- R435: At the change time the new gate control list starts. -/
  | gateListChange (p : Fin 3)
  /-- R428: A learned MAC entry ages out after MAC_AGEING. -/
  | macAgeing
  /-- R453: A write of MAC_FLUSH removes learned entries of the named ports. -/
  | macFlush (q : Req) (mask : Byte)
  /-- R438: At the end of a 2 s test period latent error detection may set LATENT and raise BBS-05. -/
  | latentTestPeriod (i : Fin 256)
  /-- R438: No frame has passed a recovering stream for RESET_TIMEOUT and its history is reset. -/
  | recoveryResetTimeout (i : Fin 256)
  /-- R451: A switch table entry with an uncorrectable error is rewritten from the configuration in effect within
  1 ms. -/
  | tableEccRewrite (table : Nat) (i : Nat)
  /-- R445: Each port sends Pdelay_Req every PDELAY_LOG_INTERVAL and updates LINK_DELAY and asCapable from the
  response. -/
  | pdelayReq (p : Fin 3) (d : Option Nat)
  /-- R443: Every RING_TEST_INTERVAL the root sends test frames and judges whether the ring is closed or broken. -/
  | ringTestInterval
  /-- R484: A topology frame on a ring port is delivered and forwarded, and TEST, BREAK, FLUSH or CLOSED acted on. -/
  | topologyFrameReceived
  /-- R462: A GCL frame is checked in order and discarded, ignored or handled by its type. -/
  | gclFrameReceived
  /-- R470: A HELLO updates NODE_TABLE and may enter DUPLICATE state. -/
  | helloReceived
  /-- R469: The device sends a HELLO every HELLO_INTERVAL and after link up, commit or state change. -/
  | helloSend
  /-- R470: No HELLO from a node for NODE_TIMEOUT makes its entry lost, possibly raising BBS-16. -/
  | nodeTimeout (n : Nat)
  /-- R471: No conflicting HELLO for NODE_TIMEOUT returns GCL_STATE from DUPLICATE to JOINED or LIMITED. -/
  | duplicateTimeout
  /-- R467: A NEGOTIATE request sets OPER_VERSION and MISSING and is answered within 1 ms. -/
  | gclNegotiate
  /-- R473: A CMD frame is posted on the master's endpoint and answered by exactly one RSP frame. -/
  | cmdFrame
  /-- R474: An enabled device-to-host bit of endpoints 1 to 7 is set and a NOTIFY frame is sent within 10 µs. -/
  | notify (ep : Fin 8)
  /-- R474: While an enabled bit stays set the NOTIFY is sent again every NOTIFY_REPEAT. -/
  | notifyRepeat (ep : Fin 8)
  /-- R477: A SCHED frame's entries for this node are posted as one SCHEDULE_OUTPUT. -/
  | schedFrame
  /-- R478: A GCL SYNC request is accepted or refused and acts as a decimator synchronisation, with a result
  frame. -/
  | syncRequest
  /-- R482: Fault records with PUBLISH are sent in JOURNAL frames within 1 ms. -/
  | journalFrameSend
  /-- R481: An accepted EPOCH frame sets a higher pending authority epoch, or is ignored or counted stale. -/
  | arbEpoch
  /-- R500: At EFFECTIVE the device adopts the epoch, completes held commands NOT_AUTHORITY and reports to the
  Ranger. -/
  | epochEffective
  /-- R505: An accepted ARB SWAP schedules a master-pair or ring-direction swap at AT. -/
  | arbSwap
  /-- R503: An acting Ranger receives a QUERY and issues a new epoch. -/
  | arbQuery
  /-- R503: An acting Ranger receives a REPORT and resends its current epoch when the report is lower. -/
  | arbReport
  /-- R493: The other member's copy has not arrived within PAIR_WAIT, counting MISSING_COPIES or taking up the
  lone copy. -/
  | pairWaitExpiry (m : Fin 7)
  /-- R495: The active member has been silent for TAKEOVER_TIME and the standby becomes active with BBS-23. -/
  | takeover (m : Fin 7)
  /-- R497: On entering HELD and every QUERY_REPEAT the device sends an ARB QUERY to the Ranger. -/
  | queryRepeat (m : Fin 7)
  /-- R497: The pair has been HELD for ARB_TIMEOUT and BBS-19 is raised. -/
  | arbTimeout (m : Fin 7)
  /-- R501: A write of PAIR_READMIT returns a pair to BOTH, completing held commands NOT_AUTHORITY. -/
  | pairReadmit (q : Req) (m : Nat)
  /-- R502: A listening Ranger waits NODE_TIMEOUT, becomes ACTING and issues epoch E + 1. -/
  | rangerListenTimeout
  /-- R503: An acting Ranger repeats its current EPOCH frame every 1 s. -/
  | rangerEpochRepeat
  /-- R505: At a swap instant a pair in BOTH swaps its active member or the swap is refused. -/
  | pairSwapInstant (m : Fin 7)
  /-- R506: At a ring swap instant the root exchanges its blocked port and sends FLUSH. -/
  | ringSwapInstant
  /-- R507: The second ring copy of an express frame has not arrived within 1 ms and RING_COPY_MISSING is counted. -/
  | ringCopyMissing
  /-- R517: A queue entry ends, releasing the bus, and an arbitration decision grants the next entry. -/
  | mspEntryComplete (data : List Byte)
  /-- R522: A cache miss queues a 64-byte line fill from the NOR, suspending a NOR operation when possible. -/
  | xipFill (addr : Nat)
  /-- R523: A privileged write into the XIP window is gathered into a page program. -/
  | xipWriteGather (priv : Bool) (addr : Nat) (data : List Byte)
  /-- R523: 2 µs without a write programs the gathered page. -/
  | xipGatherTimeout
  /-- R523: A write of MSP_XIP_WRITE.FLUSH programs the gathered page. -/
  | xipFlush (priv : Bool)
  /-- R524: A write of MSP_XIP_WRITE.ERASE starts a 4 KiB or 64 KiB NOR erase. -/
  | xipErase (priv : Bool) (v : Word)
  /-- R523: Every 5 µs a status poll checks the NOR busy bit, failing with MSP-01 past its limit. -/
  | norStatusPoll (busy : Bool)
  /-- R520: A SET_PARAM of USER_XFER queues one user entry on select 2 or 3. -/
  | userXfer (q : Req) (v : List Byte)
  /-- R519: No next user entry within CONTINUE_TIMEOUT splits the continued sequence with MSP-08. -/
  | continueTimeout
  /-- R518: A write of ARB_PRIORITY re-ranks requesters from the next decision. -/
  | arbPriorityWrite (q : Req) (v : List Byte)
  /-- R536: A journal record is numbered and buffered in RAM, discarding the oldest when 512 wait. -/
  | journalRecord
  /-- R536: A page of 62 records, or one whose oldest record waited FLUSH_INTERVAL, is programmed to NAND. -/
  | journalFlush
  /-- R532: A NAND program or erase fails; the block is marked bad with MSP-04. -/
  | nandOperationFail (block : Nat) (erase : Bool)
  /-- R534: A block reaching SCRUB_AGE or a correction threshold is copied to a new block and erased. -/
  | scrub (block : Nat)
  /-- R534: Each block is read in full once per PATROL_PERIOD, spread evenly. -/
  | patrolRead (words : List (Option Nat))
  /-- R533: At start the journal is mounted by reading the first and last page of each block. -/
  | journalMount
  /-- R575: A logic rail crosses its power-fail threshold; the hold island runs from VHOLD and the commit starts. -/
  | powerFailDetection (rails : BitVec 4)
  /-- R537: The power-fail commit programs its page with a POWER_FAIL record and completes. -/
  | powerFailCommitEnd
  /-- R529: A new source epoch is appended to the active epoch sector, switching sectors when full. -/
  | epochSectorRecord
  /-- R549: A logic-side reset from any source resets the logic die except AON and records its cause. -/
  | logicReset
  /-- R548: RESET_N low for 1 µs or longer starts a RESET_PIN reset. -/
  | resetNEdge
  /-- R548: A privileged write of 0x5EC0 to SUP_RESET.KEY starts a SOFTWARE reset. -/
  | supResetKey (priv : Bool) (key : BitVec 16)
  /-- R546: The last of the four logic supplies becomes good and a power-on or supply reset runs for 1 ms;
  `rail` is the one that becomes good, numbered as the bits of PMU_STATE.SUPPLY_GOOD. -/
  | supplyGood (rail : Fin 4)
  /-- R550: At the end of reset the boot ROM locks PLLs, reads fuses and headers and verifies firmware slots. -/
  | bootRomStart (r : BootRead)
  /-- R553: 10 ms after boot failure the MSP lands are released to high impedance. -/
  | bootFailureRelease
  /-- R554: The firmware runs after the jump, checks Heartwood and the epoch sector and starts the journal mount. -/
  | firmwareStart
  /-- R555: The firmware loads the configuration image, calibration record and boot rule table. -/
  | configImageLoad
  /-- R321: The reaction table is verified, Firebreak armed and FAIL_N released high. -/
  | firebreakArm
  /-- R361: The firmware opens all eight endpoints, READY becomes 1 and BOOT_ATTEMPTS is cleared. -/
  | endpointsOpen
  /-- R557: VF_x has stayed above V_FON for 10 ms and the bank starts its oscillators and link. -/
  | bankStart (b : Fin 4)
  /-- R560: At the arrival instant the bank applies its configuration, empties its schedule queue and starts its
  silence timer. -/
  | bankArrivalInstant (b : Fin 4)
  /-- R561: VF_x stays below V_FOFF for 10 µs; the bank turns outputs off and reports the loss of VF. -/
  | vfLoss (b : Fin 4)
  /-- R580: VF_x lies outside 9.6 V to 36 V for 10 ms and BKC-05 is raised. -/
  | vfOutOfRange (b : Fin 4)
  /-- R576: Every 1 ms supplies, temperatures and power are measured and class 03 DIAG bits and faults set. -/
  | supplyMeasurement (m : Supplies)
  /-- R577: VHOLD rises to 10.0 V or falls below 9.5 V and HOLD_READY changes. -/
  | holdReadyChange (ready : Bool)
  /-- R587: A field die reaches 150 °C; universal drivers turn off and BKC-06 is raised until below 140 °C. -/
  | fieldDieOvertemp (b : Fin 4) (t : Int)
  /-- R588: The logic die reaches 150 °C and PMU-06 is raised until below 145 °C. -/
  | logicDieOvertemp (t : Int)
  /-- R320: A high sample of SAFE_IN_N restarts the assertion count and ends the FSC-05 instance and its cause on
  the records it set. -/
  | safeInRelease
  /-- R548: RESET_N rises and the RESET_PIN reset ends 10 µs later. -/
  | resetNRise
  /-- R502: No HELLO with ROLE bit 1 from a lower-addressed node for NODE_TIMEOUT takes RANGER_STATE from
  STANDING_DOWN to LISTENING and ends BBS-22. -/
  | rangerStandDownTimeout
  /-- R169: Valid frames between field die and power die resume, the power die follows the bank's commands again
  and the LSW-15 instance ends. -/
  | powerDieExchangeResumed (b : Fin 4)
  /-- R580: VF_x has been within 9.6 V to 36 V for 10 ms and the BKC-05 instance ends. -/
  | vfRangeRestored (b : Fin 4)
  /-- R575: VHOLD falls to V_CUT before the power-fail commit ends, so the commit ends incomplete and the hold
  island stops. -/
  | vholdCut
  /-- R444: Every 2^LOG_ANNOUNCE_INTERVAL s each master port sends an Announce message for best-master selection. -/
  | announceInterval (p : Fin 3)
  deriving DecidableEq, Repr

end Sys2Proof
end

