-- ==== Sys2Proof/Config.lean ====
section
/-! DEFINITION. What the part or its maker fixes and the spec does not state: values that are applied to what they depend
on, with no body, so that no proof can see them. Each is named in the assumption log. -/

namespace Sys2Proof.Config

/-- A value the spec calls undefined or leaves unstated, one for each draw (the state's counter of draws is its argument).
UNVERIFIED: safe, nothing constrains it. -/
opaque freeValue : Nat → Nat

/-- The bucket of the MAC table, 0 to 1,023, in which an address with a VID lies (R428); the spec gives no rule for it.
UNVERIFIED: safe. -/
opaque macBucket : Nat → Nat → Nat

/-- The asymmetry of a bank's link in ps, fused at factory test (R57); the spec gives no value. UNVERIFIED: safe. -/
opaque linkAsymmetry : Nat → Int

/-- The latency of a cut-through frame in ns, of a length on a pair of ports; the spec bounds it (R430) and gives no value.
UNVERIFIED: safe. -/
opaque cutLatency : Nat → Nat → Nat → Nat

/-- What the calibration fuse words hold of a front end (universal channel 0 to 15, or 16 + bank for the relief) in a mode
(R130): the factory D_Z, K with 32 fraction bits, and D_C − D_Z. The spec gives the words no layout. UNVERIFIED: safe. -/
opaque factoryZero : List (BitVec 32) → Nat → Nat → Int
opaque factoryGain : List (BitVec 32) → Nat → Nat → BitVec 48
opaque factorySpan : List (BitVec 32) → Nat → Nat → Int

/-- The injection ratio k of a front end in a mode, with 32 fraction bits (R107, R130). UNVERIFIED: safe. -/
opaque injection : List (BitVec 32) → Nat → Nat → Nat

/-- The coefficients of the models of R110, by power: V_REFC and V_REFP of a bank in 2^-64 µV, R_S of a channel in 2^-64 µΩ,
each for a temperature in 0.01 °C. UNVERIFIED: safe. -/
opaque refCheckCoef : List (BitVec 32) → Nat → Nat → Int
opaque refPrimaryCoef : List (BitVec 32) → Nat → Nat → Int
opaque senseCoef : List (BitVec 32) → Nat → Nat → Int

/-- K where the quotient of R111 does not fit its 48 bits; the spec states no result. UNVERIFIED: safe. -/
opaque gainBeyond : Int → BitVec 48

/-- The filter coefficients that R145 and R149 leave free, in Q1.23: of the stages 3 and 4 (and the fallback stages), and of
stage 5, by distance from the start of the set. UNVERIFIED: safe. -/
opaque firTap : Nat → Nat → BitVec 24
opaque polyTap : Nat → BitVec 24

/-- The factory output trim of a channel and output stage: S1, A1, S2, A2 by number (R130). UNVERIFIED: safe. -/
opaque factoryTrim : List (BitVec 32) → Nat → Nat → Nat → Int

/-- The front-end propagation delay of a fast input for a rising or a falling terminal edge, in 1/256 ns, fused (R212); the spec
gives no value. UNVERIFIED: safe. -/
opaque frontDelay : Nat → Bool → Nat

/-- The thermal shutdown threshold of a load switch above 160 °C, in 10^-6 °C (R182); taken modulo the 10 °C of its range.
UNVERIFIED: safe. -/
opaque shutdownTemp : Nat → Nat

/-- The full-drive on-resistance of a load switch at 25 °C in µΩ, fused at final test (R179); taken modulo the 55 mΩ of R170.
UNVERIFIED: safe. -/
opaque onResistance : Nat → Nat

/-- The fused ratio of the on-resistance at a gate-drive step 32 to 62 to the full-drive value (R179), in 2^-32.
UNVERIFIED: safe. -/
opaque onRatio : Nat → Nat → Nat

/-- The thermal restart threshold of a load switch above 140 °C, in 10^-6 °C (R182); taken modulo the 10 °C of its range.
UNVERIFIED: safe. -/
opaque restartTemp : Nat → Nat

/-- What a NOR byte reads after a program or an erase that failed, by draw and address (R523, R565); the spec states no
content. UNVERIFIED: safe. -/
opaque failedByte : Nat → Nat → Nat

end Sys2Proof.Config
end

