-- ==== Sys2Proof/Machine/Hash.lean ====
section
/-! DEFINITION. CRC-32 as R22 lays it down, and SHA-256 (FIPS 180-4, to which the spec's hashes and digests refer). -/

namespace Sys2Proof.Machine

/-- One bit of the reflected CRC with polynomial 0x04C1_1DB7. -/
def crcBit (c : Word) : Word := if c.getLsbD 0 then (c >>> 1) ^^^ 0xEDB88320 else c >>> 1

/-- One byte of the CRC, least significant bit first. -/
def crcByte (c : Word) (b : Byte) : Word :=
  crcBit (crcBit (crcBit (crcBit (crcBit (crcBit (crcBit (crcBit (c ^^^ b.setWidth 32))))))))

/-- CRC-32: initial value 0xFFFF_FFFF, result inverted (R22). The bytes enter least significant bit first, the form in
common use of this polynomial, initial value and inversion (PRESUMED, assumption log 12). -/
def crc32 (l : List Byte) : Word := ~~~ (l.foldl crcByte 0xFFFFFFFF)

/-- The greatest number below `2 ^ k` above `n` whose power `e` does not pass `x`, its bits found from the highest down. -/
def rootBits (e x : Nat) : Nat → Nat → Nat
  | 0, n => n
  | k + 1, n => rootBits e x k (if (n + 2 ^ k) ^ e ≤ x then n + 2 ^ k else n)

/-- The first 32 bits of the fractional part of the root of order `e` of `p`, for `p` below 2^9. -/
def rootWord (e p : Nat) : Word := BitVec.ofNat 32 (rootBits e (p * 2 ^ (32 * e)) 37 0)

/-- The first 64 primes, 2 to 311: below 19² a number is prime where none of the primes to 17 divides it. -/
def shaPrimes : List Nat :=
  (List.range' 2 310).filter (fun (n : Nat) =>
    ([2, 3, 5, 7, 11, 13, 17] : List Nat).all (fun (d : Nat) => n == d || n % d != 0))

/-- The 64 round constants of SHA-256: FIPS 180-4 takes them from the cube roots of the first 64 primes. -/
def shaK : List Word := shaPrimes.map (rootWord 3)

/-- The first 8 primes' square roots give the initial hash value (FIPS 180-4). -/
def shaInit (i : Nat) : Word := rootWord 2 (shaPrimes.getD i 2)

/-- The message schedule of one block, newest word first: 48 words follow the 16 of the block. -/
def shaExpand : Nat → List Word → List Word
  | 0, w => w
  | n + 1, w =>
    let w2 := w.getD 1 0
    let w15 := w.getD 14 0
    let s0 := w15.rotateRight 7 ^^^ w15.rotateRight 18 ^^^ (w15 >>> 3)
    let s1 := w2.rotateRight 17 ^^^ w2.rotateRight 19 ^^^ (w2 >>> 10)
    shaExpand n ((w.getD 15 0 + s0 + w.getD 6 0 + s1) :: w)

/-- The eight working words. -/
structure ShaState where
  a : Word
  b : Word
  c : Word
  d : Word
  e : Word
  f : Word
  g : Word
  h : Word
  deriving DecidableEq, Repr

/-- One round, with its constant and schedule word. -/
def shaRound (s : ShaState) (kw : Word × Word) : ShaState :=
  let e1 := s.e.rotateRight 6 ^^^ s.e.rotateRight 11 ^^^ s.e.rotateRight 25
  let ch := (s.e &&& s.f) ^^^ (~~~ s.e &&& s.g)
  let t1 := s.h + e1 + ch + kw.1 + kw.2
  let e0 := s.a.rotateRight 2 ^^^ s.a.rotateRight 13 ^^^ s.a.rotateRight 22
  let maj := (s.a &&& s.b) ^^^ (s.a &&& s.c) ^^^ (s.b &&& s.c)
  { a := t1 + e0 + maj, b := s.a, c := s.b, d := s.c, e := s.d + t1, f := s.e, g := s.f, h := s.g }

/-- One block of 64 bytes. -/
def shaBlock (s : ShaState) (words : List Word) : ShaState :=
  let w := (shaExpand 48 words.reverse).reverse
  let r := (shaK.zip w).foldl shaRound s
  { a := s.a + r.a, b := s.b + r.b, c := s.c + r.c, d := s.d + r.d, e := s.e + r.e, f := s.f + r.f, g := s.g + r.g,
    h := s.h + r.h }

/-- The big-endian words of a byte string, four bytes each; `n` bounds their number. -/
def shaWords : Nat → List Byte → List Word
  | 0, _ => []
  | n + 1, l => match l with
    | [] => []
    | _ => BitVec.ofNat 32 (beNat (l.take 4)) :: shaWords n (l.drop 4)

/-- The blocks of a word string; `n` bounds their number. -/
def shaBlocks : Nat → ShaState → List Word → ShaState
  | 0, s, _ => s
  | n + 1, s, l => match l with
    | [] => s
    | _ => shaBlocks n (shaBlock s (l.take 16)) (l.drop 16)

/-- The padded message: a 1 bit, zeros, and the bit length in 64 bits. -/
def shaPad (l : List Byte) : List Byte :=
  l ++ [0x80] ++ List.replicate ((119 - l.length % 64) % 64) 0 ++ beBytes 8 (8 * l.length)

/-- SHA-256, 32 bytes. -/
def sha256 (l : List Byte) : List Byte :=
  let m := shaPad l
  let s := shaBlocks (m.length / 64 + 1)
    ⟨shaInit 0, shaInit 1, shaInit 2, shaInit 3, shaInit 4, shaInit 5, shaInit 6, shaInit 7⟩
    (shaWords (m.length / 4 + 1) m)
  [s.a, s.b, s.c, s.d, s.e, s.f, s.g, s.h].flatMap (fun w => beBytes 4 w.toNat)

/-- The first 8 bytes of SHA-256, as the 64-bit value whose little-endian bytes they are (R8, R400). -/
def hash64 (l : List Byte) : BitVec 64 := BitVec.ofNat 64 (leNat ((sha256 l).take 8))

end Sys2Proof.Machine
end

