-- ==== Sys2Proof/Machine/Dict.lean ====
section
/-! DEFINITION. The parameter directory: one row per attribute of the dictionary (R392), with its type, access
code (R13), range and reset value, written from the attribute tables of the owning chapters, class by class. -/

namespace Sys2Proof.Machine

/-- The access codes of R13 that a parameter carries. -/
inductive Access where
  | ro | rw | rws | w1c | wo
  deriving DecidableEq, Repr

/-- One attribute of a class: `elem` bytes an element, `count` elements, the values an element may be written with
(`ranges` empty: every value, or a rule of its own), and the reset value of its elements (the last one repeats). -/
structure AttrRow where
  attr : Nat
  elem : Nat
  count : Nat
  access : Access
  signed : Bool
  ranges : List (Int × Int)
  step : Nat
  reset : List Nat
  deriving DecidableEq, Repr

/-- The attribute's size in bytes. -/
def AttrRow.size (r : AttrRow) : Nat := r.elem * r.count

/-- Class 01, the attribute table of R414. -/
def attrs01 : List AttrRow := [
  ⟨0x01, 2, 1, .ro, false, [], 1, [3280]⟩,  -- PART
  ⟨0x02, 1, 1, .ro, false, [], 1, [192]⟩,  -- STEPPING
  ⟨0x03, 2, 1, .ro, false, [], 1, [772]⟩,  -- FIRMWARE
  ⟨0x04, 1, 1, .ro, false, [], 1, [5]⟩,  -- SCHEMA_VERSION
  ⟨0x05, 2, 1, .ro, false, [], 1, [2368]⟩,  -- PARAM_COUNT
  ⟨0x06, 2, 1, .ro, false, [], 1, [525]⟩,  -- DIRECTORY_COUNT
  ⟨0x07, 1, 6300, .ro, false, [], 1, [0]⟩,  -- DIRECTORY
  ⟨0x08, 8, 1, .ro, false, [], 1, [0]⟩,  -- CONFIG_HASH
  ⟨0x09, 8, 1, .ro, false, [], 1, [0]⟩,  -- STAGED_HASH
  ⟨0x0A, 1, 1, .ro, false, [], 1, [2]⟩,  -- STAGED_STATE
  ⟨0x0B, 1, 1, .ro, false, [], 1, [0]⟩,  -- COMMIT_STATE
  ⟨0x0C, 9, 1, .ro, false, [], 1, [0]⟩,  -- PENDING_AT
  ⟨0x0D, 8, 1, .ro, false, [], 1, [0]⟩,  -- PENDING_HASH
  ⟨0x0E, 4, 1, .rws, false, [(200, 100000)], 1, [1000]⟩,  -- COMMIT_LEAD
  ⟨0x0F, 1, 1, .rws, false, [(0, 1)], 1, [1]⟩,  -- PERSIST
  ⟨0x10, 1, 1, .ro, false, [], 1, [0]⟩,  -- PERSIST_STATE
  ⟨0x11, 4, 1, .ro, false, [], 1, [0]⟩,  -- COMMITS
  ⟨0x12, 1, 24, .ro, false, [], 1, [0]⟩,  -- LAST_COMMIT
  ⟨0x13, 1, 8, .ro, false, [], 1, [0]⟩,  -- LAST_REFUSAL
  ⟨0x14, 1, 49152, .ro, false, [], 1, [0]⟩,  -- REG_WINDOW
  ⟨0x15, 1, 1, .w1c, false, [], 1, [0]⟩ ]  -- DIAG

/-- Class 02, the attribute table of R415. -/
def attrs02 : List AttrRow := [
  ⟨0x01, 1, 1, .ro, false, [], 1, [0]⟩,  -- GRADE
  ⟨0x02, 1, 16, .ro, false, [], 1, [0]⟩,  -- PART_NUMBER
  ⟨0x03, 8, 1, .ro, false, [], 1, [0]⟩,  -- UNIQUE_ID
  ⟨0x04, 1, 108, .ro, false, [], 1, [0]⟩,  -- DIE_IDENTITY
  ⟨0x05, 1, 1, .ro, false, [], 1, [0]⟩,  -- TEST_LOCK
  ⟨0x06, 1, 1, .ro, false, [], 1, [0]⟩ ]  -- OPTION_FUSES

/-- Class 03, the attribute table of R416. -/
def attrs03 : List AttrRow := [
  ⟨0x01, 2, 1, .ro, false, [], 1, [0]⟩,  -- VDD08
  ⟨0x02, 2, 1, .ro, false, [], 1, [0]⟩,  -- VDDSD
  ⟨0x03, 2, 1, .ro, false, [], 1, [0]⟩,  -- VIO
  ⟨0x04, 1, 1, .ro, false, [], 1, [0]⟩,  -- VIO_LEVEL
  ⟨0x05, 2, 1, .ro, false, [], 1, [0]⟩,  -- VAUX3
  ⟨0x06, 2, 1, .ro, false, [], 1, [0]⟩,  -- VHOLD
  ⟨0x07, 1, 1, .ro, false, [], 1, [0]⟩,  -- HOLD_READY
  ⟨0x08, 2, 1, .ro, true, [], 1, [0]⟩,  -- LOGIC_TEMP
  ⟨0x09, 4, 1, .ro, false, [], 1, [0]⟩,  -- POWER_LOGIC
  ⟨0x0A, 4, 4, .ro, false, [], 1, [0]⟩,  -- POWER_BANK
  ⟨0x0B, 4, 1, .ro, false, [], 1, [0]⟩,  -- POWER_TOTAL
  ⟨0x0C, 1, 1, .w1c, false, [], 1, [0]⟩ ]  -- DIAG

/-- Class 04, the attribute table of R63. -/
def attrs04 : List AttrRow := [
  ⟨0x01, 1, 1, .ro, false, [], 1, [0]⟩,  -- TIME_STATE
  ⟨0x02, 9, 1, .ro, false, [], 1, [0]⟩,  -- CELL_TIME
  ⟨0x03, 4, 1, .ro, true, [], 1, [0]⟩,  -- OFFSET_EST
  ⟨0x04, 4, 1, .ro, true, [], 1, [0]⟩,  -- RATE_ADJ
  ⟨0x05, 4, 1, .rws, false, [(10, 1000000)], 1, [100]⟩,  -- UNCERTAIN_BOUND
  ⟨0x06, 1, 1, .rws, false, [(0, 1)], 1, [0]⟩,  -- ROLE
  ⟨0x07, 1, 1, .rws, false, [(0, 254)], 1, [248]⟩,  -- PRIORITY1
  ⟨0x08, 1, 1, .rws, false, [(0, 255)], 1, [248]⟩,  -- PRIORITY2
  ⟨0x09, 1, 1, .ro, false, [], 1, [248]⟩,  -- CLOCK_CLASS
  ⟨0x0A, 1, 1, .rws, false, [(0, 1)], 1, [0]⟩,  -- GM_SOURCE
  ⟨0x0B, 1, 1, .rws, false, [(0, 1)], 1, [0]⟩,  -- PPS_IN_POLARITY
  ⟨0x0C, 8, 1, .rw, false, [], 1, [0]⟩,  -- PPS_TOD_SECONDS
  ⟨0x0D, 8, 1, .rw, false, [], 1, [0]⟩,  -- EPOCH_SET
  ⟨0x0E, 1, 1, .rws, true, [(-7, 0)], 1, [251]⟩,  -- LOG_SYNC_INTERVAL
  ⟨0x0F, 4, 1, .rws, false, [(100, 1000000)], 1, [1000]⟩,  -- STEP_THRESHOLD
  ⟨0x10, 4, 1, .rws, false, [(1, 100000)], 1, [200]⟩,  -- HOLDOVER_DRIFT
  ⟨0x11, 1, 1, .rws, false, [(0, 2)], 1, [2]⟩,  -- PPS_OUT_MODE
  ⟨0x12, 4, 1, .rws, false, [(1, 500000)], 1, [100000]⟩,  -- PPS_OUT_WIDTH
  ⟨0x13, 2, 1, .rws, true, [(-500, 500)], 1, [0]⟩,  -- PPS_OUT_OFFSET
  ⟨0x14, 2, 1, .rws, false, [(0, 10000)], 1, [0]⟩,  -- PPS_IN_DELAY
  ⟨0x15, 4, 1, .ro, false, [], 1, [0]⟩,  -- STEP_COUNT
  ⟨0x16, 1, 1, .rws, false, [(0, 127)], 1, [0]⟩,  -- DOMAIN
  ⟨0x17, 1, 1, .ro, false, [], 1, [1]⟩,  -- UNCERTAIN_REASON
  ⟨0x18, 2, 4, .ro, true, [], 1, [0]⟩,  -- BANK_ALIGN
  ⟨0x19, 1, 8, .ro, false, [], 1, [0]⟩,  -- GM_IDENTITY
  ⟨0x1A, 2, 1, .ro, false, [], 1, [0]⟩,  -- STEPS_REMOVED
  ⟨0x1B, 9, 1, .ro, false, [], 1, [0]⟩,  -- PPS_IN_TIME
  ⟨0x1C, 1, 1, .ro, false, [], 1, [0]⟩,  -- REF_TYPE
  ⟨0x1D, 9, 1, .ro, false, [], 1, [0]⟩,  -- ENTRY_TIME
  ⟨0x1E, 4, 1, .ro, false, [], 1, [0]⟩ ]  -- PPS_IN_REJECTS

/-- Class 05, the attribute table of R417. -/
def attrs05 : List AttrRow := [
  ⟨0x01, 1, 1, .ro, false, [], 1, [0]⟩,  -- PRESENT
  ⟨0x02, 1, 1, .ro, false, [], 1, [0]⟩,  -- STATE
  ⟨0x03, 4, 1, .ro, false, [], 1, [0]⟩,  -- VF
  ⟨0x04, 2, 1, .ro, true, [], 1, [0]⟩,  -- POWER_DIE_TEMP
  ⟨0x05, 4, 1, .ro, false, [], 1, [0]⟩,  -- LINK_ERRORS
  ⟨0x06, 4, 1, .ro, false, [], 1, [0]⟩,  -- LINK_RESENDS
  ⟨0x07, 4, 1, .ro, false, [], 1, [0]⟩,  -- ARRIVALS
  ⟨0x08, 9, 1, .ro, false, [], 1, [0]⟩,  -- LAST_ARRIVAL
  ⟨0x09, 9, 1, .ro, false, [], 1, [0]⟩,  -- LAST_STATUS
  ⟨0x0A, 4, 1, .ro, false, [], 1, [0]⟩,  -- OUT_SRC
  ⟨0x0B, 4, 1, .ro, false, [], 1, [0]⟩,  -- SILENCE_MAX
  ⟨0x0C, 4, 1, .ro, false, [], 1, [0]⟩,  -- SHARES_LATE
  ⟨0x0D, 1, 1, .w1c, false, [], 1, [0]⟩ ]  -- DIAG

/-- Class 06, the attribute table of R103. -/
def attrs06 : List AttrRow := [
  ⟨0x01, 1, 1, .rws, false, [(0, 11)], 1, [0]⟩,  -- MODE
  ⟨0x02, 2, 1, .ro, false, [], 1, [0]⟩,  -- STATUS
  ⟨0x03, 4, 1, .ro, false, [], 1, [0]⟩,  -- SAMPLE
  ⟨0x04, 9, 1, .ro, false, [], 1, [0]⟩,  -- SAMPLE_TIME
  ⟨0x05, 4, 1, .ro, true, [], 1, [0]⟩,  -- PHYS
  ⟨0x06, 4, 1, .ro, true, [], 1, [0]⟩,  -- PV
  ⟨0x07, 1, 1, .rws, false, [(0, 1)], 1, [0]⟩,  -- POINT_SOURCE
  ⟨0x08, 1, 1, .rws, false, [(0, 2)], 1, [0]⟩,  -- CHAR_TYPE
  ⟨0x09, 4, 1, .rws, false, [(0, 10737418)], 1, [5368709]⟩,  -- SQRT_CUTOFF
  ⟨0x0A, 4, 33, .rws, true, [], 1, [0]⟩,  -- CHAR_TABLE
  ⟨0x0B, 4, 1, .rws, true, [], 1, [1073741824]⟩,  -- SCALE
  ⟨0x0C, 4, 1, .rws, true, [], 1, [0]⟩,  -- OFFSET
  ⟨0x0D, 2, 1, .rws, false, [(0, 65535)], 1, [1000]⟩,  -- DEBOUNCE
  ⟨0x0E, 1, 1, .rws, false, [(0, 1)], 1, [0]⟩,  -- WB_ENABLE
  ⟨0x0F, 4, 1, .rws, false, [(100, 1000000)], 1, [1000]⟩,  -- WB_WINDOW
  ⟨0x10, 1, 1, .rws, false, [(0, 1)], 1, [0]⟩,  -- SAFE_MODE
  ⟨0x11, 4, 1, .rws, true, [], 1, [0]⟩,  -- SAFE_VALUE
  ⟨0x12, 1, 1, .rw, false, [(0, 1)], 1, [0]⟩,  -- OUT_VALUE
  ⟨0x13, 1, 1, .ro, false, [], 1, [0]⟩,  -- ACTIVE_SOURCE
  ⟨0x14, 2, 1, .rws, false, [(100, 10000)], 1, [1000]⟩,  -- DO_SC_TIME
  ⟨0x15, 1, 1, .rws, false, [(0, 1)], 1, [1]⟩,  -- DO_RESTART
  ⟨0x16, 1, 1, .rws, false, [(0, 1)], 1, [1]⟩,  -- OPEN_LOAD_ENABLE
  ⟨0x17, 4, 1, .ro, false, [], 1, [0]⟩,  -- EDGE_COUNT
  ⟨0x18, 9, 1, .ro, false, [], 1, [0]⟩,  -- LAST_EDGE
  ⟨0x19, 2, 1, .w1c, false, [], 1, [0]⟩,  -- DIAG
  ⟨0x1A, 4, 1, .ro, true, [], 1, [0]⟩ ]  -- DI_CURRENT

/-- Class 07, the attribute table of R137. -/
def attrs07 : List AttrRow := [
  ⟨0x01, 1, 1, .ro, false, [], 1, [0]⟩,  -- CAL_STATE
  ⟨0x02, 1, 1, .ro, false, [], 1, [0]⟩,  -- COEF_SOURCE
  ⟨0x03, 1, 1, .rws, false, [(0, 1)], 1, [1]⟩,  -- ROTATE_ENABLE
  ⟨0x04, 9, 1, .ro, false, [], 1, [0]⟩,  -- LAST_CAL_TIME
  ⟨0x05, 4, 1, .ro, false, [], 1, [0]⟩,  -- CAL_COUNT
  ⟨0x06, 4, 1, .ro, true, [], 1, [0]⟩,  -- ZERO_CODE
  ⟨0x07, 4, 1, .ro, true, [], 1, [0]⟩,  -- CHECK_SPAN
  ⟨0x08, 4, 1, .ro, true, [], 1, [0]⟩,  -- REF_SPAN
  ⟨0x09, 2, 1, .ro, true, [], 1, [0]⟩,  -- CAL_TEMP
  ⟨0x0A, 4, 1, .ro, true, [], 1, [0]⟩,  -- HANDOVER_DELTA
  ⟨0x0B, 2, 1, .rws, false, [(5, 1000)], 1, [50]⟩,  -- HANDOVER_BOUND
  ⟨0x0C, 2, 1, .rws, false, [(20, 5000)], 1, [200]⟩,  -- CAL_STEP_BOUND
  ⟨0x0D, 1, 1, .ro, false, [], 1, [0]⟩,  -- REJECT_COUNT
  ⟨0x0E, 8, 1, .ro, false, [], 1, [0]⟩,  -- GAIN
  ⟨0x0F, 1, 1, .w1c, false, [], 1, [0]⟩ ]  -- CAL_DIAG

/-- Class 08, the attribute table of R165. -/
def attrs08 : List AttrRow := [
  ⟨0x01, 4, 1, .rws, false, [(256, 6144000)], 1, [6144]⟩,  -- RS_PERIOD
  ⟨0x02, 2, 1, .rws, false, [(1, 4096)], 1, [1]⟩,  -- AVG_LENGTH
  ⟨0x03, 1, 1, .rws, false, [(0, 1)], 1, [0]⟩,  -- PATH
  ⟨0x04, 1, 1, .rws, false, [(0, 12)], 1, [0]⟩,  -- FB_SHIFT
  ⟨0x05, 1, 1, .rws, false, [(0, 1)], 1, [0]⟩,  -- WIDE_ENABLE
  ⟨0x06, 1, 1, .rws, false, [(0, 1)], 1, [0]⟩,  -- SHOW_SETTLING
  ⟨0x07, 1, 1, .rws, false, [(0, 3)], 1, [3]⟩,  -- SYNC_ENABLE
  ⟨0x08, 4, 1, .rws, false, [(110, 10000)], 1, [150]⟩,  -- SYNC_IN_LEAD
  ⟨0x09, 9, 1, .wo, false, [], 1, [0]⟩,  -- SYNC_AT
  ⟨0x0A, 4, 1, .ro, false, [], 1, [9150]⟩,  -- GROUP_DELAY
  ⟨0x0B, 4, 1, .ro, false, [], 1, [1480]⟩,  -- IMPULSE_HALF
  ⟨0x0C, 4, 1, .ro, false, [], 1, [1000000]⟩,  -- OUTPUT_RATE
  ⟨0x0D, 2, 1, .ro, false, [], 1, [0]⟩,  -- SETTLE_COUNT
  ⟨0x0E, 4, 1, .ro, false, [], 1, [0]⟩,  -- SUPPRESSED
  ⟨0x0F, 1, 1, .ro, false, [], 1, [0]⟩,  -- CHAIN_STATE
  ⟨0x10, 1, 1, .ro, false, [], 1, [0]⟩,  -- SYNC_STATE
  ⟨0x11, 9, 1, .ro, false, [], 1, [0]⟩,  -- SYNC_PENDING_AT
  ⟨0x12, 9, 1, .ro, false, [], 1, [0]⟩,  -- LAST_SYNC
  ⟨0x13, 4, 1, .ro, false, [], 1, [0]⟩,  -- SYNC_COUNT
  ⟨0x14, 4, 4145, .ro, true, [], 1, [0]⟩ ]  -- FILTER_COEF

/-- Class 09, the attribute table of R105. -/
def attrs09 : List AttrRow := [
  ⟨0x01, 4, 1, .rw, true, [], 1, [0]⟩,  -- SETPOINT
  ⟨0x02, 4, 1, .ro, true, [], 1, [0]⟩,  -- SETPOINT_SHOWN
  ⟨0x03, 4, 1, .ro, true, [], 1, [0]⟩,  -- READBACK
  ⟨0x04, 9, 1, .ro, false, [], 1, [0]⟩,  -- READBACK_TIME
  ⟨0x05, 4, 1, .rws, false, [(100, 100000)], 1, [1000]⟩,  -- READBACK_BOUND
  ⟨0x06, 1, 1, .rws, false, [(1, 255)], 1, [3]⟩,  -- READBACK_COUNT
  ⟨0x07, 4, 1, .ro, true, [], 1, [0]⟩,  -- READBACK_ERROR
  ⟨0x08, 1, 1, .ro, false, [], 1, [0]⟩,  -- AO_STATUS
  ⟨0x09, 4, 1, .ro, false, [], 1, [0]⟩ ]  -- READBACK_FAILS

/-- Class 0A, the attribute table of R205. -/
def attrs0A : List AttrRow := [
  ⟨0x01, 1, 1, .rw, false, [(0, 1)], 1, [0]⟩,  -- OUT_VALUE
  ⟨0x02, 2, 1, .ro, false, [], 1, [0]⟩,  -- STATUS
  ⟨0x03, 1, 1, .ro, false, [], 1, [0]⟩,  -- ACTIVE_SOURCE
  ⟨0x04, 2, 1, .rws, false, [(500, 6000)], 250, [3000]⟩,  -- CURRENT_LIMIT
  ⟨0x05, 4, 1, .rws, false, [(50, 100000)], 1, [1000]⟩,  -- LIMIT_TIME
  ⟨0x06, 1, 1, .rws, false, [(0, 1)], 1, [1]⟩,  -- LIMIT_ACTION
  ⟨0x07, 2, 1, .rws, false, [(10, 10000)], 1, [100]⟩,  -- RETRY_PERIOD
  ⟨0x08, 1, 1, .rws, false, [(0, 5)], 1, [0]⟩,  -- INRUSH_PROFILE
  ⟨0x09, 4, 1, .ro, false, [], 1, [0]⟩,  -- SWITCH_COUNT
  ⟨0x0A, 2, 1, .rws, false, [(500, 12000)], 250, [6000]⟩,  -- USER_PEAK
  ⟨0x0B, 2, 1, .rws, false, [(1, 5000)], 1, [100]⟩,  -- USER_PEAK_TIME
  ⟨0x0C, 2, 1, .rws, false, [(0, 5000)], 1, [0]⟩,  -- USER_RAMP_TIME
  ⟨0x0D, 2, 1, .rws, false, [(50, 2000)], 1, [1000]⟩,  -- CLAMP_BUDGET
  ⟨0x0E, 2, 1, .rws, false, [(10, 1000)], 1, [200]⟩,  -- REFILL_RATE
  ⟨0x0F, 1, 1, .rws, false, [(0, 1)], 1, [0]⟩,  -- UNLOCK_MODE
  ⟨0x10, 2, 1, .rws, false, [], 1, [500]⟩,  -- UNLOCK_LEVEL
  ⟨0x11, 4, 1, .ro, true, [], 1, [1000000]⟩,  -- CLAMP_LEVEL
  ⟨0x12, 4, 1, .ro, false, [], 1, [0]⟩,  -- LAST_CLAMP_ENERGY
  ⟨0x13, 1, 1, .rws, false, [(0, 1)], 1, [0]⟩,  -- THERMAL_MODE
  ⟨0x14, 1, 1, .rws, false, [(100, 160)], 1, [150]⟩,  -- TEMP_WARN
  ⟨0x15, 2, 1, .ro, true, [], 1, [0]⟩,  -- TJ_EST
  ⟨0x16, 2, 1, .ro, true, [], 1, [0]⟩,  -- TJ_SENSOR
  ⟨0x17, 8, 1, .ro, true, [], 1, [0]⟩,  -- I_MIRROR
  ⟨0x18, 8, 1, .ro, true, [], 1, [0]⟩,  -- I_RON
  ⟨0x19, 4, 1, .ro, true, [], 1, [0]⟩,  -- V_DROP
  ⟨0x1A, 4, 1, .ro, false, [], 1, [0]⟩,  -- R_ON_EST
  ⟨0x1B, 1, 1, .rws, false, [(0, 1)], 1, [1]⟩,  -- OPEN_LOAD_ENABLE
  ⟨0x1C, 2, 1, .rws, false, [(10, 500)], 1, [20]⟩,  -- OPEN_LOAD_THRESHOLD
  ⟨0x1D, 1, 1, .rws, false, [(0, 1)], 1, [0]⟩,  -- SAFE_MODE
  ⟨0x1E, 1, 1, .rws, false, [(0, 1)], 1, [0]⟩,  -- SAFE_VALUE
  ⟨0x1F, 1, 1, .ro, false, [], 1, [255]⟩,  -- GROUP
  ⟨0x20, 2, 1, .w1c, false, [], 1, [0]⟩,  -- DIAG
  ⟨0x21, 1, 1, .ro, false, [], 1, [0]⟩,  -- RESTART_COUNT
  ⟨0x22, 1, 1, .ro, false, [], 1, [0]⟩ ]  -- GATE_STEP

/-- Class 0B, the attribute table of R207. -/
def attrs0B : List AttrRow := [
  ⟨0x01, 1, 1, .rws, false, [], 1, [0]⟩,  -- MEMBERS
  ⟨0x02, 2, 1, .ro, false, [], 1, [0]⟩,  -- STATUS
  ⟨0x03, 1, 1, .rw, false, [(0, 1)], 1, [0]⟩,  -- OUT_VALUE
  ⟨0x04, 1, 1, .ro, false, [], 1, [0]⟩,  -- ACTIVE_SOURCE
  ⟨0x05, 2, 1, .rws, false, [(500, 6000)], 250, [2000]⟩,  -- MEMBER_LIMIT
  ⟨0x06, 4, 1, .ro, false, [], 1, [0]⟩,  -- GROUP_LIMIT
  ⟨0x07, 4, 1, .rws, false, [(100, 1000000)], 1, [10000]⟩,  -- OVERLOAD_TIME
  ⟨0x08, 1, 1, .rws, false, [(0, 5)], 1, [0]⟩,  -- INRUSH_PROFILE
  ⟨0x09, 2, 1, .rws, false, [(500, 12000)], 250, [6000]⟩,  -- USER_PEAK
  ⟨0x0A, 2, 1, .rws, false, [(1, 5000)], 1, [100]⟩,  -- USER_PEAK_TIME
  ⟨0x0B, 2, 1, .rws, false, [(0, 5000)], 1, [0]⟩,  -- USER_RAMP_TIME
  ⟨0x0C, 1, 1, .rws, false, [(0, 1)], 1, [0]⟩,  -- THERMAL_MODE
  ⟨0x0D, 1, 1, .rws, false, [(0, 1)], 1, [0]⟩,  -- SAFE_MODE
  ⟨0x0E, 1, 1, .rws, false, [(0, 1)], 1, [0]⟩,  -- SAFE_VALUE
  ⟨0x0F, 4, 1, .ro, false, [], 1, [0]⟩,  -- VF_SPREAD
  ⟨0x10, 2, 1, .rws, false, [(5, 1000)], 1, [10]⟩,  -- GROUP_LEAD
  ⟨0x11, 2, 1, .w1c, false, [], 1, [0]⟩,  -- DIAG
  ⟨0x12, 1, 1, .rws, false, [(0, 1)], 1, [1]⟩,  -- BALANCE_ENABLE
  ⟨0x13, 2, 1, .rws, false, [(0, 8000)], 1, [0]⟩,  -- OPEN_LOAD_THRESHOLD
  ⟨0x14, 1, 1, .ro, false, [], 1, [0]⟩,  -- ACTIVE_MEMBERS
  ⟨0x15, 1, 1, .ro, false, [], 1, [0]⟩,  -- EXCLUDED_MEMBERS
  ⟨0x16, 8, 1, .ro, true, [], 1, [0]⟩,  -- GROUP_CURRENT
  ⟨0x17, 8, 1, .ro, true, [], 1, [0]⟩,  -- SHARE
  ⟨0x18, 1, 1, .ro, false, [], 1, [0]⟩,  -- RESTART_COUNT
  ⟨0x19, 2, 1, .ro, false, [], 1, [0]⟩,  -- IMBALANCE
  ⟨0x1A, 9, 1, .ro, false, [], 1, [0]⟩ ]  -- TRIP_AT

/-- Class 0C, the attribute table of R238. -/
def attrs0C : List AttrRow := [
  ⟨0x01, 1, 1, .rws, false, [(0, 6)], 1, [1]⟩,  -- MODE
  ⟨0x02, 2, 1, .ro, false, [], 1, [4]⟩,  -- STATUS
  ⟨0x03, 1, 1, .rws, false, [(0, 1)], 1, [0]⟩,  -- INVERT
  ⟨0x04, 2, 1, .rws, false, [(0, 65535)], 1, [0]⟩,  -- DEBOUNCE
  ⟨0x05, 1, 1, .rws, false, [(1, 3)], 1, [1]⟩,  -- COUNT_EDGE
  ⟨0x06, 4, 1, .rw, true, [], 1, [0]⟩,  -- COUNTER
  ⟨0x07, 9, 1, .ro, false, [], 1, [0]⟩,  -- COUNT_TIME
  ⟨0x08, 4, 1, .rws, true, [], 1, [0]⟩,  -- PRESET
  ⟨0x09, 1, 1, .rws, false, [(0, 1)], 1, [0]⟩,  -- QUAD_DIR
  ⟨0x0A, 1, 1, .rws, false, [(0, 3)], 1, [0]⟩,  -- CAPTURE_EDGE
  ⟨0x0B, 2, 1, .rws, false, [(1, 65535)], 1, [1]⟩,  -- CAPTURE_DIV
  ⟨0x0C, 1, 1, .rws, false, [(0, 1)], 1, [0]⟩,  -- QUEUE_POLICY
  ⟨0x0D, 1, 1, .ro, false, [], 1, [0]⟩,  -- QUEUE_LEVEL
  ⟨0x0E, 1, 1024, .ro, false, [], 1, [0]⟩,  -- CAPTURE_QUEUE
  ⟨0x0F, 2, 1, .wo, false, [], 1, [0]⟩,  -- CAPTURE_POP
  ⟨0x10, 4, 1, .ro, false, [], 1, [0]⟩,  -- CAPTURE_LOST
  ⟨0x11, 8, 1, .ro, false, [], 1, [18446744073709551615]⟩,  -- PERIOD
  ⟨0x12, 4, 1, .ro, false, [], 1, [0]⟩,  -- FREQUENCY
  ⟨0x13, 4, 1, .rws, false, [(100, 1000000)], 1, [10000]⟩,  -- FREQ_GATE
  ⟨0x14, 2, 1, .rws, false, [(1, 10000)], 1, [1000]⟩,  -- STOP_TIMEOUT
  ⟨0x15, 1, 1, .rws, false, [(0, 8), (17, 24), (32, 63), (64, 65)], 1, [0]⟩,  -- LATCH_SOURCE
  ⟨0x16, 1, 1, .rws, false, [(0, 1)], 1, [0]⟩,  -- LATCH_ACTION
  ⟨0x17, 4, 1, .rws, false, [(10, 1000000)], 1, [1000]⟩,  -- LATCH_PERIOD
  ⟨0x18, 9, 1, .wo, false, [], 1, [0]⟩,  -- LATCH_AT
  ⟨0x19, 4, 1, .ro, true, [], 1, [0]⟩,  -- LATCH_VALUE
  ⟨0x1A, 9, 1, .ro, false, [], 1, [0]⟩,  -- LATCH_TIME
  ⟨0x1B, 1, 1, .rws, false, [(0, 1)], 1, [0]⟩,  -- LATCH_TO_QUEUE
  ⟨0x1C, 1, 1, .rws, false, [(0, 1)], 1, [0]⟩,  -- WB_ENABLE
  ⟨0x1D, 4, 1, .rws, false, [(100, 1000000)], 1, [1000]⟩,  -- WB_WINDOW
  ⟨0x1E, 1, 1, .rws, false, [(0, 3)], 1, [0]⟩,  -- POINT_SOURCE
  ⟨0x1F, 2, 1, .w1c, false, [], 1, [4]⟩,  -- DIAG
  ⟨0x20, 4, 1, .ro, false, [], 1, [0]⟩,  -- EDGE_COUNT
  ⟨0x21, 4, 1, .ro, false, [], 1, [0]⟩ ]  -- QUAD_ERRORS

/-- Class 0D, the attribute table of R260. -/
def attrs0D : List AttrRow := [
  ⟨0x01, 4, 1, .rws, false, [(30, 10000)], 1, [60]⟩,  -- MIN_LEAD
  ⟨0x02, 4, 1, .rws, false, [(0, 1000000)], 1, [1000]⟩,  -- LATE_TOLERANCE
  ⟨0x03, 4, 1, .rws, false, [(1000, 60000000)], 1, [100000]⟩,  -- HOLD_LIMIT
  ⟨0x04, 4, 1, .rws, false, [(1, 86400)], 1, [3600]⟩,  -- HORIZON
  ⟨0x05, 1, 1, .rws, false, [(0, 1)], 1, [0]⟩,  -- DEFAULT_LATE_POLICY
  ⟨0x06, 1, 1, .rws, false, [(0, 2)], 1, [1]⟩,  -- DEFAULT_UNC_POLICY
  ⟨0x07, 2, 4, .ro, false, [], 1, [0]⟩,  -- QUEUE_LEVEL
  ⟨0x08, 1, 32768, .ro, false, [], 1, [0]⟩,  -- SCHED_TABLE
  ⟨0x09, 4, 1, .ro, false, [], 1, [0]⟩,  -- ACCEPTED
  ⟨0x0A, 4, 1, .ro, false, [], 1, [0]⟩,  -- APPLIED
  ⟨0x0B, 4, 1, .ro, false, [], 1, [0]⟩,  -- APPLIED_LATE
  ⟨0x0C, 4, 1, .ro, false, [], 1, [0]⟩,  -- DROPPED
  ⟨0x0D, 4, 1, .ro, false, [], 1, [0]⟩,  -- SAFE_TAKEN
  ⟨0x0E, 4, 1, .ro, false, [], 1, [0]⟩,  -- CANCELLED
  ⟨0x0F, 4, 1, .ro, false, [], 1, [0]⟩,  -- REFUSED
  ⟨0x10, 1, 8, .ro, false, [], 1, [0]⟩,  -- LAST_OUTCOME
  ⟨0x11, 1, 1, .w1c, false, [], 1, [0]⟩ ]  -- DIAG

/-- Class 0E, the attribute table of R299. -/
def attrs0E : List AttrRow := [
  ⟨0x01, 1, 1048576, .ro, false, [], 1, [0]⟩,  -- POINT_TABLE
  ⟨0x02, 1, 262144, .ro, false, [], 1, [0]⟩,  -- GROUP_TABLE
  ⟨0x03, 1, 1024, .rws, false, [], 1, [0]⟩,  -- PUB_GROUPS
  ⟨0x04, 1, 4096, .rws, false, [], 1, [0]⟩,  -- PUB_POINTS
  ⟨0x05, 1, 522240, .rws, false, [], 1, [0]⟩,  -- SUB_TABLE
  ⟨0x06, 8, 1, .ro, false, [], 1, [0]⟩,  -- SCHEMA_HASH
  ⟨0x07, 8, 1, .ro, false, [], 1, [0]⟩,  -- LAYOUT_HASH
  ⟨0x08, 2, 1, .ro, false, [], 1, [0]⟩,  -- SOURCE_EPOCH
  ⟨0x09, 1, 1, .rws, false, [(0, 7)], 1, [7]⟩,  -- PUB_PORTS
  ⟨0x0A, 1, 1, .rws, false, [(0, 1)], 1, [0]⟩,  -- FORCE_ENABLE
  ⟨0x0B, 8, 1, .wo, false, [], 1, [0]⟩,  -- FORCE_POINT
  ⟨0x0C, 4, 1, .wo, false, [], 1, [0]⟩,  -- RELEASE_POINT
  ⟨0x0D, 4, 64, .ro, false, [], 1, [4294967295]⟩,  -- FORCED_LIST
  ⟨0x0E, 2, 1, .ro, false, [], 1, [0]⟩,  -- STALE_GROUPS
  ⟨0x0F, 2, 1, .ro, false, [], 1, [0]⟩,  -- MISMATCH_GROUPS
  ⟨0x10, 4, 1, .ro, false, [], 1, [0]⟩,  -- PUB_SENT
  ⟨0x11, 4, 1, .ro, false, [], 1, [0]⟩,  -- PUB_RECEIVED
  ⟨0x12, 4, 1, .ro, false, [], 1, [0]⟩,  -- PUB_DISCARDED
  ⟨0x13, 4, 1, .ro, false, [], 1, [0]⟩,  -- PUB_OVERRUN
  ⟨0x14, 1, 1, .w1c, false, [], 1, [0]⟩ ]  -- DIAG

/-- Class 0F, the attribute table of R301. -/
def attrs0F : List AttrRow := [
  ⟨0x01, 1, 1, .ro, false, [], 1, [0]⟩,  -- STATE
  ⟨0x02, 1, 1, .ro, false, [], 1, [255]⟩,  -- ACTIVE_BANK
  ⟨0x03, 4, 1, .ro, false, [], 1, [0]⟩,  -- ACTIVE_TABLE_ID
  ⟨0x04, 8, 1, .ro, false, [], 1, [0]⟩,  -- ACTIVE_HASH
  ⟨0x05, 1, 1, .ro, false, [], 1, [0]⟩,  -- INACTIVE_STATE
  ⟨0x06, 4, 1, .ro, false, [], 1, [0]⟩,  -- INACTIVE_TABLE_ID
  ⟨0x07, 9, 1, .ro, false, [], 1, [0]⟩,  -- SWAP_AT
  ⟨0x08, 2, 1, .ro, false, [], 1, [0]⟩,  -- RULE_COUNT
  ⟨0x09, 2, 1, .ro, false, [], 1, [0]⟩,  -- FAST_COUNT
  ⟨0x0A, 4, 1, .ro, false, [], 1, [0]⟩,  -- MAIN_PASS_MAX
  ⟨0x0B, 4, 1, .ro, false, [], 1, [0]⟩,  -- FAST_PASS_MAX
  ⟨0x0C, 4, 1, .ro, false, [], 1, [0]⟩,  -- OVERRUNS
  ⟨0x0D, 1, 512, .ro, false, [], 1, [0]⟩,  -- RULE_RESULTS
  ⟨0x0E, 1, 512, .ro, false, [], 1, [0]⟩,  -- RULE_SAFE
  ⟨0x0F, 1, 224, .ro, false, [], 1, [0]⟩,  -- FORCE_TABLE
  ⟨0x10, 1, 1, .rws, false, [(0, 1)], 1, [0]⟩,  -- HOST_RULES
  ⟨0x11, 1, 1, .ro, false, [], 1, [255]⟩,  -- BOOT_TABLE
  ⟨0x12, 1, 1, .w1c, false, [], 1, [0]⟩,  -- DIAG
  ⟨0x13, 4, 1, .ro, false, [], 1, [0]⟩,  -- FORCE_CONFLICTS
  ⟨0x14, 4, 1, .ro, false, [], 1, [0]⟩ ]  -- FORCE_IGNORED

/-- Class 10, the attribute table of R333. -/
def attrs10 : List AttrRow := [
  ⟨0x01, 1, 1, .ro, false, [], 1, [0]⟩,  -- SAFE_SUMMARY
  ⟨0x02, 2, 33, .ro, false, [], 1, [0]⟩,  -- SAFE_RECORDS
  ⟨0x03, 1, 4, .ro, false, [], 1, [0]⟩,  -- AUTONOMOUS
  ⟨0x04, 1, 4, .rws, false, [(0, 1)], 1, [0]⟩,  -- AUTON_CLEAR
  ⟨0x05, 4, 4, .rws, false, [(100, 100000)], 1, [2000]⟩,  -- LINK_TIMEOUT
  ⟨0x06, 2, 1, .rws, false, [(1, 65534)], 1, [23294]⟩,  -- CLEAR_KEY
  ⟨0x07, 1, 1, .rws, false, [(0, 1)], 1, [0]⟩,  -- HOST_CLEAR
  ⟨0x08, 1, 1, .rws, false, [(0, 2)], 1, [0]⟩,  -- SAFE_IN_MODE
  ⟨0x09, 1, 1, .rws, false, [(1, 15)], 1, [15]⟩,  -- SAFE_IN_BANKS
  ⟨0x0A, 1, 1, .ro, false, [], 1, [0]⟩,  -- SAFE_IN_STATE
  ⟨0x0B, 1, 1, .ro, false, [], 1, [1]⟩,  -- FAIL_STATE
  ⟨0x0C, 4, 1, .ro, false, [], 1, [0]⟩,  -- ENTRIES
  ⟨0x0D, 4, 1, .ro, false, [], 1, [0]⟩,  -- CLEARS
  ⟨0x0E, 1, 12, .ro, false, [], 1, [0]⟩,  -- LAST_CLEAR
  ⟨0x0F, 1, 1, .w1c, false, [], 1, [0]⟩ ]  -- DIAG

/-- Class 11, the attribute table of R334. -/
def attrs11 : List AttrRow := [
  ⟨0x01, 1, 384, .rws, false, [], 1, [0]⟩,  -- REACTION_TABLE
  ⟨0x02, 1, 384, .ro, false, [], 1, [0]⟩,  -- FLOOR_TABLE
  ⟨0x03, 1, 384, .ro, false, [], 1, [0]⟩,  -- CLASS_TABLE
  ⟨0x04, 1, 1536, .ro, false, [], 1, [0]⟩,  -- FAULT_LOG
  ⟨0x05, 1, 1, .ro, false, [], 1, [0]⟩,  -- LOG_LEVEL
  ⟨0x06, 2, 1, .wo, false, [], 1, [0]⟩,  -- LOG_POP
  ⟨0x07, 4, 1, .ro, false, [], 1, [0]⟩,  -- LOG_LOST
  ⟨0x08, 1, 512, .ro, false, [], 1, [0]⟩,  -- ACTIVE_FAULTS
  ⟨0x09, 2, 384, .ro, false, [], 1, [0]⟩,  -- FAULT_COUNTS
  ⟨0x0A, 1, 1, .ro, false, [], 1, [255]⟩,  -- HIGHEST_ACTIVE
  ⟨0x0B, 1, 12, .ro, false, [], 1, [0]⟩,  -- REHEARSAL
  ⟨0x0C, 1, 1, .w1c, false, [], 1, [0]⟩,  -- DIAG
  ⟨0x0D, 4, 1, .ro, false, [], 1, [0]⟩ ]  -- REACT_CRC

/-- Class 12, the attribute table of R335. -/
def attrs12 : List AttrRow := [
  ⟨0x01, 1, 1, .rws, false, [(0, 1)], 1, [1]⟩,  -- LIVENESS_ENABLE
  ⟨0x02, 2, 1, .rws, false, [(1, 65535)], 1, [20]⟩,  -- LIVENESS_TIMEOUT
  ⟨0x03, 1, 1, .ro, false, [], 1, [0]⟩,  -- LIVENESS_STATE
  ⟨0x04, 9, 1, .ro, false, [], 1, [0]⟩,  -- LIVENESS_LAST
  ⟨0x05, 4, 1, .ro, false, [], 1, [0]⟩,  -- LIVENESS_EXPIRIES
  ⟨0x06, 1, 1, .ro, false, [], 1, [0]⟩,  -- WDT_STATE
  ⟨0x07, 1, 1, .ro, false, [], 1, [0]⟩,  -- WDT_AUTOSTART
  ⟨0x08, 4, 1, .rws, false, [(1000, 1000000)], 1, [100000]⟩,  -- WDT_PERIOD
  ⟨0x09, 1, 1, .rws, false, [(0, 15)], 1, [8]⟩,  -- WDT_WINDOW
  ⟨0x0A, 2, 1, .rw, false, [(0, 0)], 1, [0]⟩,  -- WDT_RESET_COUNT
  ⟨0x0B, 1, 64, .ro, false, [], 1, [0]⟩,  -- HEARTWOOD
  ⟨0x0C, 2, 1, .ro, false, [], 1, [0]⟩,  -- CLOCK_MON
  ⟨0x0D, 1, 1, .w1c, false, [], 1, [0]⟩ ]  -- DIAG

/-- Class 13, the attribute table of R388. -/
def attrs13 : List AttrRow := [
  ⟨0x01, 2, 1, .ro, false, [], 1, [515]⟩,  -- VERSION
  ⟨0x02, 1, 1, .ro, false, [], 1, [0]⟩,  -- STATE
  ⟨0x03, 1, 1, .ro, false, [], 1, [0]⟩,  -- MASTER
  ⟨0x04, 1, 1, .ro, false, [], 1, [0]⟩,  -- OUTSTANDING
  ⟨0x05, 4, 1, .ro, false, [], 1, [0]⟩,  -- TAGS
  ⟨0x06, 1, 1, .rws, false, [(1, 64)], 1, [30]⟩,  -- BUF_QUOTA
  ⟨0x07, 4, 1, .w1c, false, [], 1, [0]⟩,  -- DB
  ⟨0x08, 4, 1, .rw, false, [], 1, [2147483661]⟩,  -- DB_MASK
  ⟨0x09, 4, 1, .ro, false, [], 1, [0]⟩,  -- H2D
  ⟨0x0A, 4, 1, .wo, false, [], 1, [0]⟩,  -- H2D_CLEAR
  ⟨0x0B, 1, 1, .rws, false, [(0, 1)], 1, [0]⟩,  -- ACK_MODE
  ⟨0x0C, 2, 1, .ro, false, [], 1, [0]⟩,  -- BUFFERS_HELD
  ⟨0x0D, 4, 1, .ro, false, [], 1, [0]⟩,  -- ACCEPTED
  ⟨0x0E, 4, 1, .ro, false, [], 1, [0]⟩,  -- REFUSED
  ⟨0x0F, 4, 1, .ro, false, [], 1, [0]⟩,  -- REPLAYED
  ⟨0x10, 4, 1, .ro, false, [], 1, [0]⟩,  -- ABORTED
  ⟨0x11, 4, 64, .ro, false, [], 1, [0]⟩,  -- REPLAY_WINDOW
  ⟨0x12, 4, 1, .rw, false, [], 1, [0]⟩,  -- JOURNAL_CURSOR
  ⟨0x13, 1, 1, .rws, false, [(0, 1)], 1, [0]⟩,  -- HOST_CONFIG
  ⟨0x14, 1, 1, .rws, false, [(0, 1)], 1, [0]⟩,  -- HOST_UPDATE
  ⟨0x15, 1, 1, .w1c, false, [], 1, [0]⟩ ]  -- DIAG

/-- Class 14, the attribute table of R358. -/
def attrs14 : List AttrRow := [
  ⟨0x01, 1, 1, .rws, false, [(0, 1)], 1, [0]⟩,  -- ATN_POLARITY
  ⟨0x02, 2, 1, .rws, false, [(1, 1000)], 1, [10]⟩,  -- FRAME_TIMEOUT
  ⟨0x03, 2, 1, .rws, false, [(0, 65535)], 1, [0]⟩,  -- HOST_TIMEOUT
  ⟨0x04, 4, 1, .ro, false, [], 1, [0]⟩,  -- FRAMES
  ⟨0x05, 4, 1, .ro, false, [], 1, [0]⟩,  -- CRC_ERRORS
  ⟨0x06, 4, 1, .ro, false, [], 1, [0]⟩,  -- FRAME_ERRORS
  ⟨0x07, 4, 1, .ro, false, [], 1, [0]⟩,  -- BUSY_FRAMES
  ⟨0x08, 9, 1, .ro, false, [], 1, [0]⟩,  -- LAST_FRAME
  ⟨0x09, 1, 1, .w1c, false, [], 1, [0]⟩ ]  -- DIAG

/-- Class 15, the attribute table of R452. -/
def attrs15 : List AttrRow := [
  ⟨0x01, 1, 1, .rws, false, [(0, 4)], 1, [1]⟩,  -- MODE
  ⟨0x02, 1, 1, .ro, false, [], 1, [0]⟩,  -- LINK_STATE
  ⟨0x03, 1, 1, .rws, false, [(0, 2)], 1, [0]⟩,  -- ROLE
  ⟨0x04, 1, 1, .rws, false, [(0, 1)], 1, [1]⟩,  -- AN_ENABLE
  ⟨0x05, 2, 1, .ro, false, [], 1, [0]⟩,  -- SPEED
  ⟨0x06, 2, 1, .rws, false, [(1, 4094)], 1, [1]⟩,  -- PVID
  ⟨0x07, 1, 1, .rws, false, [(0, 7)], 1, [0]⟩,  -- PCP_DEFAULT
  ⟨0x08, 1, 1, .rws, false, [(0, 1)], 1, [0]⟩,  -- ACCEPT
  ⟨0x09, 4, 1, .rws, true, [(-100000, 100000)], 1, [0]⟩,  -- ASYMMETRY
  ⟨0x0A, 1, 1, .rws, true, [(-3, 3)], 1, [0]⟩,  -- PDELAY_LOG_INTERVAL
  ⟨0x0B, 4, 1, .rws, false, [(10, 10000000)], 1, [100000]⟩,  -- NEIGHBOR_DELAY_THRESH
  ⟨0x0C, 4, 1, .ro, false, [], 1, [0]⟩,  -- LINK_DELAY
  ⟨0x0D, 4, 1, .ro, true, [], 1, [0]⟩,  -- NEIGHBOR_RATE_RATIO
  ⟨0x0E, 1, 1, .ro, false, [], 1, [0]⟩,  -- AS_CAPABLE
  ⟨0x0F, 1, 1, .ro, false, [], 1, [0]⟩,  -- PTP_ROLE
  ⟨0x10, 1, 1, .rws, false, [(0, 1)], 1, [0]⟩,  -- GCL_ENABLE
  ⟨0x11, 1, 2048, .rws, false, [], 1, [0]⟩,  -- GCL_ADMIN
  ⟨0x12, 2, 1, .rws, false, [(0, 256)], 1, [0]⟩,  -- GCL_LENGTH
  ⟨0x13, 4, 1, .rws, false, [(1000, 1000000000)], 1, [1000000]⟩,  -- CYCLE
  ⟨0x14, 9, 1, .rws, false, [], 1, [0]⟩,  -- BASE
  ⟨0x15, 2, 8, .rws, false, [], 1, [1528]⟩,  -- MAX_SDU
  ⟨0x16, 2, 1, .rws, false, [(1522, 2000)], 1, [1528]⟩,  -- MAX_FRAME
  ⟨0x17, 1, 1, .ro, false, [], 1, [0]⟩,  -- GCL_STATE
  ⟨0x18, 1, 8, .rws, false, [(0, 7)], 1, [0, 1, 2, 3, 4, 5, 6, 7]⟩,  -- PCP_TO_TC
  ⟨0x19, 8, 48, .ro, false, [], 1, [0]⟩,  -- COUNTERS
  ⟨0x1A, 2, 1, .rws, false, [(0, 1000)], 1, [10]⟩,  -- LINK_UP_HOLD
  ⟨0x1B, 1, 1, .rws, false, [(0, 255)], 1, [192]⟩,  -- CUT_THROUGH
  ⟨0x1C, 2, 8, .rws, false, [(16, 2048)], 1, [512]⟩,  -- QUEUE_LIMIT
  ⟨0x1D, 1, 2048, .ro, false, [], 1, [0]⟩,  -- GCL_OPER
  ⟨0x1E, 1, 1, .w1c, false, [], 1, [0]⟩ ]  -- DIAG

/-- Class 16, the attribute table of R453. -/
def attrs16 : List AttrRow := [
  ⟨0x01, 1, 6, .rws, false, [], 1, [2, 0, 0, 0, 0, 0]⟩,  -- DEVICE_MAC
  ⟨0x02, 2, 1, .rws, false, [(0, 0), (10, 3600)], 1, [300]⟩,  -- MAC_AGEING
  ⟨0x03, 1, 3072, .rws, false, [], 1, [0]⟩,  -- MAC_STATIC
  ⟨0x04, 2, 1, .ro, false, [], 1, [0]⟩,  -- MAC_COUNT
  ⟨0x05, 1, 49152, .ro, false, [], 1, [0]⟩,  -- MAC_TABLE
  ⟨0x06, 1, 1, .wo, false, [(1, 7), (255, 255)], 1, [0]⟩,  -- MAC_FLUSH
  ⟨0x07, 1, 2048, .rws, false, [], 1, [0]⟩,  -- VLAN_TABLE
  ⟨0x08, 1, 8192, .rws, false, [], 1, [0]⟩,  -- STREAM_TABLE
  ⟨0x09, 1, 4096, .ro, false, [], 1, [0]⟩,  -- STREAM_STATE
  ⟨0x0A, 1, 1, .rws, false, [(0, 1)], 1, [0]⟩,  -- RING_MODE
  ⟨0x0B, 1, 1, .rws, false, [(0, 1)], 1, [0]⟩,  -- RING_ROOT
  ⟨0x0C, 1, 1, .ro, false, [], 1, [0]⟩,  -- RING_STATE
  ⟨0x0D, 2, 1, .rws, false, [(100, 60000)], 1, [1000]⟩,  -- RING_TEST_INTERVAL
  ⟨0x0E, 1, 1, .rws, false, [(0, 7)], 1, [6]⟩,  -- EXPRESS_PCP
  ⟨0x0F, 1, 1, .rws, false, [(0, 7)], 1, [4]⟩,  -- STANDARD_PCP
  ⟨0x10, 4, 1, .ro, false, [], 1, [0]⟩,  -- MAC_FULL
  ⟨0x11, 2, 1, .ro, false, [], 1, [0]⟩,  -- BUF_LEVEL
  ⟨0x12, 2, 1, .ro, false, [], 1, [0]⟩,  -- BUF_PEAK
  ⟨0x13, 2, 1, .rws, false, [(4, 64)], 1, [16]⟩,  -- RESERVED_CELLS
  ⟨0x14, 4, 1, .ro, false, [], 1, [0]⟩,  -- RING_BREAKS
  ⟨0x15, 1, 1, .w1c, false, [], 1, [0]⟩,  -- DIAG
  ⟨0x16, 1, 1, .rws, true, [(-3, 1)], 1, [0]⟩ ]  -- LOG_ANNOUNCE_INTERVAL

/-- Class 17, the attribute table of R488. -/
def attrs17 : List AttrRow := [
  ⟨0x01, 2, 1, .rws, false, [(0, 4095), (65535, 65535)], 1, [65535]⟩,  -- NODE_ADDRESS
  ⟨0x02, 2, 1, .rws, false, [(0, 65535)], 1, [0]⟩,  -- CELL_ID
  ⟨0x03, 2, 1, .rws, false, [(1536, 33023), (33025, 34983), (34985, 35062), (35064, 61888), (61890, 65535)], 1, [34998]⟩,  -- ETHERTYPE
  ⟨0x04, 2, 1, .rws, false, [(1, 4094)], 1, [1]⟩,  -- GCL_VLAN
  ⟨0x05, 1, 1, .rws, false, [(32, 33), (48, 49)], 1, [49]⟩,  -- CELL_VERSION
  ⟨0x06, 1, 1, .ro, false, [], 1, [49]⟩,  -- OPER_VERSION
  ⟨0x07, 4, 1, .ro, false, [], 1, [255]⟩,  -- FEATURES
  ⟨0x08, 4, 1, .ro, false, [], 1, [0]⟩,  -- REQUIRED
  ⟨0x09, 4, 1, .ro, false, [], 1, [0]⟩,  -- MISSING
  ⟨0x0A, 1, 1, .ro, false, [], 1, [0]⟩,  -- GCL_STATE
  ⟨0x0B, 2, 1, .rws, false, [(10, 10000)], 1, [100]⟩,  -- HELLO_INTERVAL
  ⟨0x0C, 2, 1, .rws, false, [(30, 60000)], 1, [350]⟩,  -- NODE_TIMEOUT
  ⟨0x0D, 2, 14, .rws, false, [(0, 4095), (65534, 65535)], 1, [65534, 65535, 65535, 65535, 65535, 65535, 65535, 65535, 65535, 65535, 65535, 65535, 65535, 65535]⟩,  -- MASTER_NODES
  ⟨0x0E, 1, 98304, .ro, false, [], 1, [0]⟩,  -- NODE_TABLE
  ⟨0x0F, 2, 1, .ro, false, [], 1, [0]⟩,  -- NODE_COUNT
  ⟨0x10, 4, 1, .ro, false, [], 1, [0]⟩,  -- AUTH_EPOCH
  ⟨0x11, 1, 1, .ro, false, [], 1, [255]⟩,  -- AUTH_MASTER
  ⟨0x12, 2, 1, .rws, false, [(0, 0), (10, 10000)], 1, [100]⟩,  -- NOTIFY_REPEAT
  ⟨0x13, 4, 1, .ro, false, [], 1, [0]⟩,  -- JOURNAL_FRAME_SEQ
  ⟨0x14, 4, 16, .ro, false, [], 1, [0]⟩,  -- COUNTERS
  ⟨0x15, 1, 1, .w1c, false, [], 1, [0]⟩,  -- DIAG
  ⟨0x16, 1, 16, .ro, false, [], 1, [0]⟩ ]  -- LAST_NEGOTIATE

/-- Class 18, the attribute table of R510. -/
def attrs18 : List AttrRow := [
  ⟨0x01, 1, 7, .rws, false, [(0, 1)], 1, [0]⟩,  -- PAIR_MODE
  ⟨0x02, 2, 1, .rws, false, [(10, 10000)], 1, [200]⟩,  -- PAIR_WAIT
  ⟨0x03, 1, 7, .ro, false, [], 1, [0]⟩,  -- PAIR_STATE
  ⟨0x04, 1, 7, .ro, false, [], 1, [0]⟩,  -- ACTIVE_MEMBER
  ⟨0x05, 1, 1, .wo, false, [(0, 6)], 1, [0]⟩,  -- PAIR_READMIT
  ⟨0x06, 1, 1, .rws, false, [(0, 6)], 1, [0]⟩,  -- INITIAL_MASTER
  ⟨0x07, 1, 1, .ro, false, [], 1, [0]⟩,  -- AUTHORITY
  ⟨0x08, 2, 1, .rws, false, [(0, 4095), (65535, 65535)], 1, [65535]⟩,  -- RANGER_NODE
  ⟨0x09, 1, 1, .rws, false, [(0, 1)], 1, [0]⟩,  -- RANGER_ENABLE
  ⟨0x0A, 1, 7, .rws, false, [(0, 6), (255, 255)], 1, [0, 1, 2, 3, 4, 5, 6]⟩,  -- SUCCESSION
  ⟨0x0B, 4, 1, .rws, false, [(0, 0), (10, 86400)], 1, [600]⟩,  -- SWAP_PERIOD
  ⟨0x0C, 1, 1, .rws, false, [(0, 3)], 1, [3]⟩,  -- SWAP_KINDS
  ⟨0x0D, 2, 1, .rws, false, [(1, 60000)], 1, [100]⟩,  -- ARB_TIMEOUT
  ⟨0x0E, 2, 1, .rws, false, [(1, 1000)], 1, [10]⟩,  -- QUERY_REPEAT
  ⟨0x0F, 2, 1, .rws, false, [(1, 1000)], 1, [5]⟩,  -- TAKEOVER_TIME
  ⟨0x10, 1, 24, .ro, false, [], 1, [0]⟩,  -- LAST_DISAGREEMENT
  ⟨0x11, 1, 16, .ro, false, [], 1, [0]⟩,  -- LAST_SWAP
  ⟨0x12, 1, 1, .ro, false, [], 1, [255]⟩,  -- RING_BLOCKED
  ⟨0x13, 1, 1, .ro, false, [], 1, [0]⟩,  -- RANGER_STATE
  ⟨0x14, 4, 1, .ro, false, [], 1, [0]⟩,  -- RANGER_EPOCH
  ⟨0x15, 4, 12, .ro, false, [], 1, [0]⟩,  -- COUNTERS
  ⟨0x16, 4, 1, .rws, false, [(100, 100000)], 1, [500]⟩,  -- EPOCH_LEAD
  ⟨0x17, 1, 1, .w1c, false, [], 1, [0]⟩ ]  -- DIAG

/-- Class 19, the attribute table of R541. -/
def attrs19 : List AttrRow := [
  ⟨0x01, 1, 1, .ro, false, [], 1, [0]⟩,  -- NOR_STATE
  ⟨0x02, 2, 1, .ro, false, [], 1, [0]⟩,  -- NOR_DENSITY
  ⟨0x03, 4, 1, .ro, false, [], 1, [0]⟩,  -- NOR_ID
  ⟨0x04, 1, 1, .ro, false, [], 1, [0]⟩,  -- NAND_STATE
  ⟨0x05, 2, 1, .ro, false, [], 1, [0]⟩,  -- NAND_DENSITY
  ⟨0x06, 4, 1, .ro, false, [], 1, [0]⟩,  -- NAND_ID
  ⟨0x07, 1, 1, .rws, false, [(2, 8)], 1, [2]⟩,  -- MAX_CLOCK_DIV
  ⟨0x08, 1, 16, .rws, false, [], 1, [0]⟩,  -- USER_SELECT
  ⟨0x09, 1, 5, .rw, false, [(0, 7)], 1, [7, 5, 4, 2, 1]⟩,  -- ARB_PRIORITY
  ⟨0x0A, 1, 1, .rws, false, [(1, 255)], 1, [64]⟩,  -- HOLD_LIMIT
  ⟨0x0B, 2, 1, .rws, false, [(10, 10000)], 1, [100]⟩,  -- CONTINUE_TIMEOUT
  ⟨0x0C, 1, 64, .wo, false, [], 1, [0]⟩,  -- USER_XFER
  ⟨0x0D, 1, 8256, .ro, false, [], 1, [0]⟩,  -- USER_READ
  ⟨0x0E, 1, 5, .ro, false, [], 1, [0]⟩,  -- QUEUE_LEVEL
  ⟨0x0F, 1, 32, .ro, false, [], 1, [0]⟩,  -- LAYOUT
  ⟨0x10, 1, 4, .ro, false, [], 1, [255]⟩,  -- ACTIVE
  ⟨0x11, 1, 67108864, .ro, false, [], 1, [0]⟩,  -- NOR_WINDOW
  ⟨0x12, 4, 5, .ro, false, [], 1, [0]⟩,  -- XIP_STATS
  ⟨0x13, 4, 5, .ro, false, [], 1, [0]⟩,  -- MAX_WAIT
  ⟨0x14, 4, 1, .ro, false, [], 1, [0]⟩,  -- SPLITS
  ⟨0x15, 4, 1, .ro, false, [], 1, [0]⟩,  -- WRITES_IGNORED
  ⟨0x16, 1, 1, .w1c, false, [], 1, [0]⟩ ]  -- DIAG

/-- Class 1A, the attribute table of R542. -/
def attrs1A : List AttrRow := [
  ⟨0x01, 1, 1, .ro, false, [], 1, [0]⟩,  -- STATE
  ⟨0x02, 4, 1, .ro, false, [], 1, [0]⟩,  -- NEXT_NUMBER
  ⟨0x03, 4, 1, .ro, false, [], 1, [0]⟩,  -- OLDEST_NUMBER
  ⟨0x04, 4, 1, .ro, false, [], 1, [0]⟩,  -- RECORDS
  ⟨0x05, 4, 1, .ro, false, [], 1, [0]⟩,  -- CAPACITY
  ⟨0x06, 2, 1, .ro, false, [], 1, [0]⟩,  -- RAM_LEVEL
  ⟨0x07, 2, 1, .rws, false, [(100, 60000)], 1, [10000]⟩,  -- FLUSH_INTERVAL
  ⟨0x08, 2, 1, .rws, false, [(30, 365)], 1, [180]⟩,  -- SCRUB_AGE
  ⟨0x09, 1, 1, .rws, false, [(1, 8)], 1, [4]⟩,  -- SCRUB_THRESHOLD
  ⟨0x0A, 2, 1, .rws, false, [(1, 180)], 1, [7]⟩,  -- PATROL_PERIOD
  ⟨0x0B, 2, 1, .rws, false, [(4, 256)], 1, [16]⟩,  -- RESERVE_BLOCKS
  ⟨0x0C, 2, 4, .ro, false, [], 1, [0]⟩,  -- BLOCKS
  ⟨0x0D, 4, 3, .ro, false, [], 1, [0]⟩,  -- ERASE_COUNTS
  ⟨0x0E, 4, 1, .ro, false, [], 1, [0]⟩,  -- SCRUBS
  ⟨0x0F, 4, 1, .ro, false, [], 1, [0]⟩,  -- LOST
  ⟨0x10, 1, 1024, .ro, false, [], 1, [0]⟩,  -- BAD_BLOCK_MAP
  ⟨0x11, 4, 1, .ro, false, [], 1, [0]⟩,  -- OPERATING_SECONDS
  ⟨0x12, 1, 16, .ro, false, [], 1, [0]⟩,  -- LAST_POWER_FAIL
  ⟨0x13, 1, 1, .w1c, false, [], 1, [0]⟩ ]  -- DIAG

/-- Class 1B, the attribute table of R139. -/
def attrs1B : List AttrRow := [
  ⟨0x01, 4, 1, .rws, false, [(100, 60000)], 1, [500]⟩,  -- ROTATION_PERIOD
  ⟨0x02, 1, 1, .rws, false, [(0, 15)], 1, [15]⟩,  -- ROTATION_ENABLE
  ⟨0x03, 2, 1, .rws, false, [(10, 1000)], 1, [50]⟩,  -- REF_ALARM
  ⟨0x04, 2, 1, .rws, false, [(100, 10000)], 1, [500]⟩,  -- REF_FAIL
  ⟨0x05, 4, 4, .ro, true, [], 1, [0]⟩,  -- REF_DELTA
  ⟨0x06, 1, 4, .ro, false, [], 1, [3]⟩,  -- REF_STATE
  ⟨0x07, 1, 4, .ro, false, [], 1, [0]⟩,  -- RELIEF_STATE
  ⟨0x08, 2, 4, .ro, true, [], 1, [0]⟩,  -- BANK_TEMP
  ⟨0x09, 1, 1, .ro, false, [], 1, [255]⟩,  -- RECORD_SLOT
  ⟨0x0A, 4, 1, .ro, false, [], 1, [0]⟩,  -- RECORD_SEQUENCE
  ⟨0x0B, 8, 1, .ro, false, [], 1, [0]⟩,  -- RECORD_HASH
  ⟨0x0C, 4, 192, .rws, true, [], 1, [0]⟩,  -- OUTPUT_TRIM
  ⟨0x0D, 1, 1, .ro, false, [], 1, [0]⟩,  -- FACTORY_CAL
  ⟨0x0E, 1, 4, .ro, false, [], 1, [0]⟩ ]  -- NEXT_CHANNEL

/-- The attributes of one class (R9); a class the dictionary does not have is empty. -/
def classAttrs (cls : Nat) : List AttrRow :=
  match cls with
  | 0x01 => attrs01
  | 0x02 => attrs02
  | 0x03 => attrs03
  | 0x04 => attrs04
  | 0x05 => attrs05
  | 0x06 => attrs06
  | 0x07 => attrs07
  | 0x08 => attrs08
  | 0x09 => attrs09
  | 0x0A => attrs0A
  | 0x0B => attrs0B
  | 0x0C => attrs0C
  | 0x0D => attrs0D
  | 0x0E => attrs0E
  | 0x0F => attrs0F
  | 0x10 => attrs10
  | 0x11 => attrs11
  | 0x12 => attrs12
  | 0x13 => attrs13
  | 0x14 => attrs14
  | 0x15 => attrs15
  | 0x16 => attrs16
  | 0x17 => attrs17
  | 0x18 => attrs18
  | 0x19 => attrs19
  | 0x1A => attrs1A
  | 0x1B => attrs1B
  | _ => []

/-- The instances of a class (R9): one, numbered 00, for a class without instances. -/
def classInstances (cls : Nat) : Nat :=
  match cls with
  | 0x05 => 4
  | 0x06 => 16
  | 0x07 => 16
  | 0x08 => 16
  | 0x09 => 16
  | 0x0A => 8
  | 0x0B => 4
  | 0x0C => 8
  | 0x13 => 8
  | 0x15 => 3
  | _ => if (classAttrs cls).isEmpty then 0 else 1

/-- The directory's row of an attribute of a class. -/
def findAttr (cls attr : Nat) : Option AttrRow := (classAttrs cls).find? (fun r => r.attr == attr)

end Sys2Proof.Machine
end

