-- ==== Sys2Proof/Machine/Faults.lean ====
section
/-! DEFINITION. The fault identifiers (R304), with the class and the object kinds their owning chapters give them, and the
reset values of the class, floor and reaction tables (R309, R311). -/

namespace Sys2Proof.Machine

/-- The sixteen subsystem prefixes of R304, in their order. -/
inductive Subsys where
  | sup | hsl | mbx | bbs | tb | can | gld | fsc | msp | pmu | bkc | ucf | cnv | dfc | lsw | fti
  deriving DecidableEq, Repr

/-- The index s of R304. -/
def Subsys.index : Subsys → Nat
  | .sup => 0 | .hsl => 1 | .mbx => 2 | .bbs => 3 | .tb => 4 | .can => 5 | .gld => 6 | .fsc => 7
  | .msp => 8 | .pmu => 9 | .bkc => 10 | .ucf => 11 | .cnv => 12 | .dfc => 13 | .lsw => 14 | .fti => 15

/-- The identifier PREFIX-n (R304). -/
def ident (s : Subsys) (n : Nat) : Nat := 24 * s.index + n - 1

/-- One assigned identifier: its number in the subsystem, its class and the object kinds of R305. -/
structure FaultRow where
  n : Nat
  cls : Nat
  kinds : List Nat
  deriving DecidableEq, Repr

/-- The assigned identifiers of a subsystem, from the fault tables of the owning chapters. -/
def faultRows : Subsys → List FaultRow
  | .sup => [⟨1, 4, [0]⟩, ⟨2, 4, [0]⟩, ⟨3, 0, [0]⟩, ⟨4, 1, [0]⟩, ⟨5, 1, [0]⟩, ⟨6, 1, [0]⟩, ⟨7, 1, [0]⟩]
  | .hsl => [⟨1, 1, [0]⟩, ⟨2, 0, [9]⟩, ⟨3, 2, [0]⟩]
  | .mbx => [⟨1, 0, [0]⟩, ⟨2, 1, [9]⟩, ⟨3, 1, [9]⟩, ⟨4, 1, [9]⟩]
  | .bbs => [⟨1, 1, [8]⟩, ⟨2, 1, [8]⟩, ⟨3, 0, [8]⟩, ⟨4, 0, [0]⟩, ⟨5, 1, [0]⟩, ⟨6, 0, [0]⟩, ⟨7, 1, [8]⟩, ⟨8, 1, [0]⟩,
      ⟨9, 0, [8]⟩, ⟨10, 0, [0]⟩, ⟨11, 1, [0]⟩, ⟨12, 2, [0]⟩, ⟨13, 1, [0]⟩, ⟨14, 1, [0]⟩, ⟨15, 2, [0]⟩,
      ⟨16, 1, [0]⟩, ⟨17, 1, [0]⟩, ⟨18, 2, [0]⟩, ⟨19, 2, [0]⟩, ⟨20, 1, [0]⟩, ⟨21, 1, [8]⟩, ⟨22, 1, [0]⟩,
      ⟨23, 1, [0]⟩]
  | .tb => [⟨3, 1, [0]⟩, ⟨10, 1, [2, 3, 4]⟩, ⟨11, 2, [2, 3, 4]⟩, ⟨12, 1, [2, 3, 4]⟩, ⟨13, 0, [2, 3, 4]⟩, ⟨14, 1, [1]⟩]
  | .can => [⟨1, 0, [0]⟩, ⟨2, 1, [0]⟩, ⟨3, 1, [6]⟩, ⟨4, 1, [6]⟩, ⟨5, 1, [7]⟩]
  | .gld => [⟨1, 1, [0]⟩, ⟨2, 0, [2, 3, 4]⟩, ⟨3, 2, [0]⟩, ⟨4, 4, [0]⟩, ⟨5, 0, [2, 3, 4]⟩]
  | .fsc => [⟨1, 4, [0]⟩, ⟨2, 4, [0]⟩, ⟨3, 4, [0]⟩, ⟨4, 1, [0]⟩, ⟨5, 1, [0]⟩, ⟨6, 2, [0]⟩, ⟨7, 1, [9]⟩, ⟨8, 0, [0]⟩]
  | .msp => [⟨1, 1, [0]⟩, ⟨2, 0, [0]⟩, ⟨3, 1, [0]⟩, ⟨4, 1, [0]⟩, ⟨5, 1, [0]⟩, ⟨6, 1, [0]⟩, ⟨7, 1, [0]⟩, ⟨8, 0, [9]⟩,
      ⟨9, 1, [0]⟩]
  | .pmu => [⟨1, 1, [0]⟩, ⟨2, 1, [0]⟩, ⟨3, 1, [0]⟩, ⟨4, 0, [0]⟩, ⟨5, 1, [0]⟩, ⟨6, 2, [0]⟩]
  | .bkc => [⟨1, 3, [1]⟩, ⟨2, 3, [1]⟩, ⟨3, 1, [1]⟩, ⟨4, 1, [1]⟩, ⟨5, 1, [1]⟩, ⟨6, 3, [1]⟩]
  | .ucf => [⟨1, 2, [2]⟩, ⟨2, 2, [2]⟩, ⟨3, 1, [2]⟩, ⟨4, 2, [2]⟩, ⟨5, 2, [2]⟩, ⟨6, 2, [2]⟩, ⟨7, 2, [2]⟩, ⟨8, 2, [2]⟩,
      ⟨9, 1, [2]⟩]
  | .cnv => [⟨1, 1, [1]⟩, ⟨2, 3, [1]⟩, ⟨3, 1, [2]⟩, ⟨4, 1, [2]⟩, ⟨5, 2, [2]⟩, ⟨6, 1, [1]⟩, ⟨7, 1, [1]⟩, ⟨8, 1, [0]⟩,
      ⟨9, 1, [0]⟩, ⟨10, 1, [0]⟩]
  | .dfc => [⟨1, 1, [2]⟩, ⟨2, 3, [1]⟩, ⟨3, 0, [2]⟩]
  | .lsw => [⟨1, 2, [3]⟩, ⟨2, 1, [3, 4]⟩, ⟨3, 2, [3, 4]⟩, ⟨4, 1, [3]⟩, ⟨5, 2, [3]⟩, ⟨6, 1, [3]⟩, ⟨7, 1, [3]⟩,
      ⟨8, 1, [3, 4]⟩, ⟨9, 2, [3]⟩, ⟨10, 2, [4]⟩, ⟨11, 2, [4]⟩, ⟨12, 2, [4]⟩, ⟨13, 1, [4]⟩, ⟨14, 1, [4]⟩,
      ⟨15, 3, [1]⟩]
  | .fti => [⟨1, 2, [5]⟩, ⟨2, 1, [5]⟩, ⟨3, 1, [5]⟩, ⟨4, 1, [5]⟩, ⟨5, 0, [5]⟩]

/-- The subsystem of index s. -/
def subsysOf (s : Nat) : Subsys :=
  match s with
  | 0 => .sup | 1 => .hsl | 2 => .mbx | 3 => .bbs | 4 => .tb | 5 => .can | 6 => .gld | 7 => .fsc
  | 8 => .msp | 9 => .pmu | 10 => .bkc | 11 => .ucf | 12 => .cnv | 13 => .dfc | 14 => .lsw | _ => .fti

/-- The row of an identifier; `none` for a number that no chapter assigns (R309). -/
def faultRow (id : Nat) : Option FaultRow :=
  if id < 384 then (faultRows (subsysOf (id / 24))).find? (fun r => r.n == id % 24 + 1) else none

/-- CLASS_TABLE (P11.00.03): 0xFF for an unassigned number. -/
def faultClass (id : Nat) : Nat := match faultRow id with | some r => r.cls | none => 0xFF

/-- The identifiers to which R311 gives a floor of their own. -/
def floorOverride (id : Nat) : Option (Nat × Nat) :=
  if id = ident .tb 11 ∨ id = ident .lsw 11 then some (0x21, 0x2D)
  else if id = ident .lsw 15 then some (0x22, 0x2E)
  else if id = ident .bkc 1 ∨ id = ident .bkc 2 then some (0x20, 0x2E)
  else if id = ident .fsc 5 then some (0x24, 0x2C)
  else if id = ident .fsc 6 then some (0x24, 0x2F)
  else none

/-- FLOOR_TABLE (R311). -/
def floorByte (id : Nat) : Nat :=
  match floorOverride id with
  | some (f, _) => f
  | none =>
    match faultClass id with
    | 0 => 0x00
    | 4 => 0x3F
    | 0xFF => 0x00
    | _ => 0x20

/-- The reset value of REACTION_TABLE (R309, R311). -/
def reactionReset (id : Nat) : Nat :=
  match floorOverride id with
  | some (_, r) => r
  | none =>
    match faultRow id with
    | none => 0x00
    | some r =>
      match r.cls with
      | 0 => 0x20
      | 1 => 0x2C
      | 2 => if r.kinds.all (fun k => k == 2 || k == 3 || k == 4) then 0x2D else 0x2C
      | 3 => 0x2E
      | _ => 0x3F

end Sys2Proof.Machine
end

