-- ==== Sys2Proof/Machine/Resets.lean ====
section
/-! DEFINITION. The parts of the state right after reset: the values the spec states, and zero (empty, false) where it
states none (DESIGN CHOICE, assumption log 2). The reset of a bank is the loss and return of its own supply (R549). -/

namespace Sys2Proof.Machine

/-- Nothing sent and both SEQ counters at 0 (R626); the next slot is slot 0 of a link frame. -/
def linkReset {π σ : Type} : LinkDir π σ :=
  { ordSeq := 0, expSeq := 0, queued := [], express := [], copy := none, unacked := [], again := [], slot := 7, line := .idle,
    ack := 0xFF, rxSeq := 0, lastExp := none }

/-- No instant is marked. -/
def marksReset : Marks := { past := [], since := none }

def debounceReset : Debounce :=
  { level := false, since := 0, state := false, fresh := false, riseCap := none, fallCap := none }

def sincReset : Sinc4 := { i1 := 0, i2 := 0, i3 := 0, i4 := 0, z1 := 0, z2 := 0, z3 := 0, z4 := 0 }

/-- No calibration yet: R130 delivers the factory coefficients at the arrival. -/
def coefReset : Coef := { dz := 0, k := 0, checkSpan := 0, refSpan := 0, temp := 0, source := 0 }

def chainReset : Chain :=
  { sinc := sincReset, resetAt := 0, holdAt := none, window := [], sum := 0, hist2 := [], hist3 := [], hist4 := [],
    fb := [], anchor := 0, lastTap := none, lastX := 0, lastF := 0, grid := none, oldGrid := none, old := [],
    changeAt := 0, settledAt := 0, clearAt := none, firstTerm := 0,
    settling := false, lastMain := none, flagged := [], settleCount := 0, suppressed := 0, state := 0,
    syncPending := none, syncSource := 0, syncState := 0, syncRequest := none, syncRefused := false, syncCount := 0 }

def rotationReset : Rotation :=
  { state := 0, priority := false, words := 0, sum := 0, dz := 0, dr := 0, dc := 0, overlap := 0, rejects := 0,
    calCount := 0, lastCal := 0, delta := 0, temp := 0, cut := false, accepted := false, diag := 0 }

/-- An output with no active source stronger than the immediate one, which holds 0. -/
def outSrcReset : OutSrc := { imm := 0, sched := none, force := none, auton := none, safe := none }

def uchanReset : UChan :=
  { src := outSrcReset, status := 0, diag := 0, db := debounceReset, settled := false, settleAt := 0, edgeCount := 0, lastEdge := 0,
    records := [], diCurrent := 0, inputOpen := false, offAt := 0, lowRun := 0, highRun := 0, openSince := none,
    openUntil := 0, testTap := none, testing := false, limitAt := none, retries := 0, scShort := false, scOff := false, shortTest := false, doLimitRun := 0, coef := coefReset,
    rot := rotationReset, chain := chainReset, satRun := 0, rangeRaised := false, samples := [], readback := 0,
    readbackTime := 0, readbackError := 0, rbFails := 0, rbGoods := 0, rbSuspend := 0, rbFailCount := 0,
    compliance := 0, complianceOk := 0, clamped := false, setHistory := [], dacTarget := 0, dacCode := 0, dacAt := 0, suspendAt := 0, clampAt := none, trim := [], points := [] }

def lchanReset : LChan :=
  { src := outSrcReset, on := false, status := 0, diag := 0, reverseHold := false, launchAt := 0, limitTime := 0,
    limitIdle := 0, retries := 0, holdAt := 0, retried := false,
    thermRestart := false, restarts := 0, switchCount := 0, iMirror := 0, iRon := none,
    ratio := 65536, vds := 0, dTa := 0, dTb := 0, tS := 0, tJ := 0, gate := 63, ronEst := 0, mismatchRun := 0,
    agreeRun := 0, lostRun := 0, budget := 0, clampE := 0, clampJ0 := 0, lastClamp := 0, effLimit := 0,
    readmit := false, dieLost := false, dieHeld := false }

/-- A counter at 0 (R220). -/
def countReset : CountSt :=
  { counter := 0, ab := 0, lastA := none, lastB := none, countA := 0, countB := 0, errors := 0, wraps := 0 }

/-- STOPPED reads 1 at reset in STATUS and in DIAG, and PERIOD all ones (R238, R239). -/
def fchanReset : FChan :=
  { db := debounceReset, status := 4, diag := 4, edgeCount := 0, base := countReset, count := countReset, log := [],
    oldMode := 1, oldEdges := 1, oldRev := false, oldInvert := false, setAt := 0, wrapAt := none, quadAt := none, quadErrors := 0, capSeq := 0, capCount := 0, records := [], lost := 0, rises := 0,
    lastRise := 0, period := 0xFFFFFFFFFFFFFFFF, gateAt := 0, gateStart := 0, gateRises := 0, freq := 0, stepped := false,
    gateStep := false, armed := none, lastGrid := 0,
    latchValue := 0, latchTime := 0, storedSeq := 0 }

def groupBankReset : GroupBank :=
  { src := outSrcReset, on := false, launchAt := 0, restarted := false, tripped := false, thermal := false, locked := false,
    skew := false, diag := 0, share := 0, active := 0, full := 0, limitEntry := none, tripAt := none }

/-- A bank without its supply (R69, R545): no link, outputs off. -/
def bankReset : Bank :=
  { powered := false, reporting := false, arrived := false, copy := 0, syncs := 0, everSync := false, lock := false,
    lockedOnce := false, lastSync := 0, lastGood := 0, timeState := 0, devUncertain := true, unc := marksReset,
    unlocked := marksReset, rephase := marksReset, phaseMark := 0, mclkErr := 0, mclkAt := 0, stepSeen := 0, stepBase := 0,
    linkDelay := 0, align := 0, trip := none, tripAt := none, countDue := false, lswDue := false,
    autonomous := false, vfLow := false, dieTemp := 0, hotDie := false, startFlag := false,
    vfLossFlag := false, calHeld := false, cal := [], safeStore := 0, safeGroups := 0, queue := [], batchBuf := [], pulses := [],
    launches := [], groups := Vector.replicate 4 groupBankReset, shareBuf := [], shareMark := none, slotStart := 0, slotEnd := 0, slotPer := 0,
    slotCount := 0, phase := 0, chosen := none, lastChosen := 0, pointer := 0, relief := coefReset, reliefOut := false,
    reliefSinc := sincReset, reliefWords := 0, reliefSum := 0, reliefDz := 0, reliefDr := 0, reliefX := none, reliefDc := 0, reliefTemp := 0, slotOpen := false,
    deltas := [], refState := 3, refRun := 0, emptyRun := 0, alarmRun := 0, rhoAvg := 0 }

/-- At reset the counter starts from 0 in FREERUN, and TB_RATE is 0 (R44); REASON is 1 and UNCERTAIN 1 (R65). -/
def timeReset : TimeBase :=
  { counter := 0, mono := 0, state := 0, rate := 0, offset := 0, lastUpdate := 0, goodRun := 0, badRun := 0,
    uncertain := true, uncGoodRun := 0, reason := 1, entryTime := 0, unc := { past := [], since := some 0 }, steps := 0, landed := 0, event := 0, port := none,
    gmIdentity := 0, stepsRemoved := 0, ppsIn := 0, ppsArm := none, syncIn := 0, syncArm := none, todPending := none, todApplied := false,
    ppsAccepts := 0, ppsOut := false, ppsRiseAt := 0, refType := false, pendingRole := [], pendingAt := 0, boundary := 0, latches := [] }

def canopyReset : Canopy :=
  { points := [], groups := [], forces := [], pubs := [], subs := [], sourceEpoch := 0, epochDue := [] }

def gridReset : GridMark := { last := 0, steps := 0 }

def gladeReset : Glade :=
  { bank0 := [], bank1 := [], len0 := 0, len1 := 0, active := none, state := 0, inactive := 0, swapAt := none,
    results := [], safeTaken := [], timers := [], forces := [], conflicts := [], ignored := [], passes := 0,
    lastOverran := false, ready := false, persisted := false, bootSlot := none,
    fastMark := gridReset, mainMark := gridReset, repeatAt := 0 }

def safeRecordReset : SafeRecord := { set := false, resetOnly := false, causes := [] }

/-- FAIL_N is low from reset until Firebreak is armed (R321, R337). -/
def firebreakReset : Firebreak :=
  { raises := [], active := [], windows := [], log := [], seq := 0, records := Vector.replicate 33 safeRecordReset,
    failLow := true, armed := false, safeInOn := false,
    clearPending := Vector.replicate 4 false, statusRun := Vector.replicate 4 0, liveArmed := false, liveExpired := false,
    liveTimeout := 20, liveSince := 0, heartPending := none, refreshAt := 0 }

/-- The watchdog runs from reset when the WDT_AUTOSTART fuse is blown, which shipped parts carry (R324, R563). -/
def watchdogReset : Watchdog :=
  { enabled := true, start := 0, period := 100000, window := 8, nextPeriod := 100000, nextWindow := 8, firstKey := none,
    privViolation := false, periodReject := false, bitten := false, monBad := 0 }

/-- Heartwood after the loss of VAUX3: its content is lost and its CRC does not match (R545); the cause is POWER_ON
(R548). -/
def heartwoodReset : Heartwood :=
  { wdtResets := 0, bootAttempts := 0, resetCause := 1, lastFault := [], monResets := 0, crcGood := false }

def hslReset : Hsl :=
  { inFrame := false, busy := false, ended := false, status := 0x40, pending := none, offered := none, lastCmd := 0,
    goodSince := none, silent := false, miso := [], startedAt := 0, endedAt := 0 }

/-- A closed endpoint at version 2.3 with DB_MASK 0x8000_000D (R361, R378, R388). -/
def endpointReset : Endpoint :=
  { opened := false, major := 2, minor := 3, nextTag := 0, cmdHeld := none, outstanding := [], completions := [],
    window := [], db := 0, mask := 0x8000000D, h2d := 0, aborting := none,
    lastSrc := none }

def mailboxReset : Mailbox :=
  { eps := Vector.replicate 8 endpointReset, ram := [], bufs := [], queue := [], stale := false, long := [] }

/-- A port without a link; all gates open (R456). -/
def portReset : Port :=
  { up := false, speed := 0, queue := [], sending := none, exchanges := [], okRun := 0, lostRun := 0, asCapable := false,
    ptpRole := 0, oper := none, admin := none, changeAt := 0, entry := 0, gates := 0xFF, held := false, tests := 0,
    badAt := 0, pdelayAt := none, announceAt := none, announceRx := none }

def switchReset : Switch :=
  { mac := [], streams := [], ownSeq := 0, goodRun := 0, missRun := 0, testSeq := 0, nextBuf := 0,
    syncRx := 0, ctMax := Vector.replicate 3 0, ringAt := 0 }

def gclReset : Gcl :=
  { nodes := [], ownSeq := 0, checked := [], ring := [], syncSeen := [],
    notify := Vector.replicate 8 { bits := 0, at_ := 0 }, journalQ := [], journalLostFlag := false, journalSeq := 0,
    conflictAt := 0, pendingEpoch := none, helloDue := false, helloAt := none }

def pairReset : Pair :=
  { copies := [], highest := none, heldAt := 0, querySent := none, arbRaised := false,
    lastFrame := Vector.replicate 2 none, lastMissing := none, dispute := (0, 0, 0), swapMark := gridReset }

def redundancyReset : Redundancy :=
  { pairs := Vector.replicate 7 pairReset, rangerSince := 0, rangerHeard := 0,
    issued := none, lastRepeat := 0, swaps := [], ringGuard := none, ringWatch := [], blocked := none,
    swapMark := gridReset }

def mspReset : Msp :=
  { entries := [], holdCount := 0, cont := none, gatherPage := none, gather := [], gatherAt := 0, stalled := [], norOp := none,
    norFail := false, eraseReg := 0, userCount := Vector.replicate 8 0, grants := Vector.replicate 5 0,
    bchHist := Vector.replicate 9 0, nor := [], norPresent := false, suspendOk := false, released := false }

def journalReset : Journal :=
  { incoming := [], ram := [], next := 0, pages := [], blocks := [], blockCount := 0, present := false, mounted := false,
    pageSeq := 0, openBlock := none, scrubQueue := [], patrolNext := 0, patrolAt := none, opSeconds := 0, lastOp := 0,
    sinceTable := 0 }

/-- One die's identity entry before the fuses are read: a legal LOT and WAFER (R562). -/
def dieReset : List Byte := [0x41, 0x41, 0x41, 0x41, 0x41, 0x41, 1, 0, 0, 0, 0, 0]

/-- The fuse shadow before the boot ROM reads the array: grade B, a UNIQUE_ID that is neither 0 nor all ones, and the
option byte of shipped parts (R562, R563). -/
def fusesReset : Fuses :=
  { grade := 0x42, testLock := true, uniqueId := 1, option := 1, dies := (List.replicate 9 dieReset).flatten, cal := [] }

/-- The end of a power-on reset: the four logic supplies are good, and the boot ROM has not run (R546, R550). -/
def startupReset : Startup :=
  { supplyGood := 0xF, aonLost := false, reset := some 1, resetPin := none, resetEnd := some 0, requests := [],
    powerFail := false, memSupply := .vio, holdReady := false, vioLevel := false, phase := 0, bootFail := none, fwSlot := false,
    bootOther := false, linksStarted := false, endpointsOpen := false, headerCopy := none, bootLog := [], result0 := 0,
    result1 := 0, since := 0, resetAt := 0, fuses := fusesReset, fuseCorrected := false, fuseUncorrectable := false,
    session := none, rangeRun := 0, powerRun := 0, rangeActive := false, powerActive := false, holdActive := false,
    hot := false, tempLimit := false, eccCorrected := 0, cacheFills := 0, cacheInval := 0,
    holdLow := false, persist := none, persistAgain := false, calWrite := none, calAgain := false }

def groupSideReset : GroupSide :=
  { vfHigh := 0, vfLow := 0, locked := false, shutdown := none, hot := false, latch := 0 }

def logicLinkReset : LogicLink :=
  { started := false, lastRx := 0, delay := none,
    arrivalSent := false, arrivalAt := none, syncsSince := 0, shareDue := false, sent := [],
    groupSafe := 0, rotState := 0, dfcState := 0, lswSeen := false, ranks := [], groups := [] }

end Sys2Proof.Machine
end

