-- ==== Sys2Proof/Machine/State.lean ====
section
/-! DEFINITION. The state of the block as plain data, holding every piece of state the spec names, the queue of the
commands that wait, and the state right after a power-on reset. -/

namespace Sys2Proof.Machine

/-- Why a command would stop the block. No command of this model stops it: the spec gives every row of its table an
effect, so the one constructor is raised by none of them (safe). -/
inductive Fault where
  /-- a cell, frame or operand of a form that no row of the table can bring; raised by no command (safe) -/
  | illFormedOperand
  deriving DecidableEq, Repr

/-- Why a command has no meaning here. -/
inductive Refusal where
  /-- raised by an arm of the dispatch whose row has no meaning yet (safe: the run stops) -/
  | notModelled (mnemonic : String)
  deriving DecidableEq, Repr

/-- The byte of CHAR_TABLE at reset: T[k] = k × 0x0200_0000 (R103). -/
def charTableReset (off : Nat) : Nat := (off / 4 * 0x02000000) / 256 ^ (off % 4) % 256

/-- The byte of VLAN_TABLE at reset: entry 0 is VID 1 with all ports member and untagged (R453, R454); the logic die is a
member too. -/
def vlanReset (off : Nat) : Nat :=
  match off with
  | 0 => 1 | 1 => 0 | 2 => 0x0F | 3 => 0x07 | _ => 0

/-- The byte of SUB_TABLE at reset: unused entries, NODE 0xFFFF (R299, R301). -/
def subReset (off : Nat) : Nat := if off % 32 < 2 then 0xFF else 0

/-- The reset byte of one attribute of one instance at an offset, from the attribute tables (R392) and the rules they
name. -/
def attrReset (cls inst attr off : Nat) : Byte :=
  match cls, attr with
  | 0x06, 0x0A => BitVec.ofNat 8 (charTableReset off)
  | 0x0E, 0x05 => BitVec.ofNat 8 (subReset off)
  | 0x11, 0x01 => BitVec.ofNat 8 (reactionReset off)
  | 0x11, 0x02 => BitVec.ofNat 8 (floorByte off)
  | 0x11, 0x03 => BitVec.ofNat 8 (faultClass off)
  | 0x13, 0x03 => if inst = 0 then 0xFF else BitVec.ofNat 8 (inst - 1)
  | 0x15, 0x03 => if inst = 2 then 1 else 0
  | 0x16, 0x07 => BitVec.ofNat 8 (vlanReset off)
  | _, _ =>
    match findAttr cls attr with
    | none => 0
    | some r =>
      let v := match r.reset[off / r.elem]? with
        | some x => x
        | none => r.reset.getLastD 0
      BitVec.ofNat 8 (v / 256 ^ (off % r.elem))

/-- The key of one byte of a parameter in the parameter stores: the INDEX of R391 with FLAGS 0, then the offset. -/
def parKey (cls inst attr off : Nat) : Nat := (cls * 65536 + inst * 256 + attr) * 2 ^ 20 + off

/-- What an unlisted byte of a parameter store reads as: its reset byte. -/
def parReset (k : Nat) : Byte :=
  let i := k / 2 ^ 20
  attrReset (i / 65536 % 256) (i / 256 % 256) (i % 256) (k % 2 ^ 20)

/-- The state of the block. -/
structure State where
  /-- the commands that wait, first in, first out -/
  pending : List Instr
  /-- the parameters in effect (R391, R399), with every read-only attribute that is not computed from other fields -/
  dict : Store
  /-- the staged set (R399) -/
  staged : Store
  /-- the configuration each bank holds (R99, R560), the key raised by bank × 2^48 -/
  bankCfg : Store
  tb : TimeBase
  banks : Vector Bank 4
  down : Vector (LinkDir DownCell SyncCell) 4
  up : Vector (LinkDir UpCell StatusCell) 4
  links : Vector LogicLink 4
  u : Vector UChan 16
  /-- what the logic side applied to the samples of a channel before an instant, newest first (R78, R156) -/
  scales : Vector (List (CellTime × Scaling)) 16
  l : Vector LChan 8
  f : Vector FChan 8
  /-- the capture queues of the logic side (R223, R226) -/
  captures : Vector (List Capture) 8
  /-- what the logic side remembers of each coppice group (R196, R200 to R203) -/
  coppice : Vector GroupSide 4
  /-- the schedule entries of the logic side, by acceptance (R245, R246) -/
  sched : List SchedRec
  nextHandle : BitVec 16
  nextBatch : BitVec 16
  canopy : Canopy
  glade : Glade
  firebreak : Firebreak
  wdt : Watchdog
  heartwood : Heartwood
  hsl : Hsl
  mbx : Mailbox
  commit : Option Commit
  journalCommits : List Commit
  ports : Vector Port 3
  sw : Switch
  delivered : List Delivered
  gcl : Gcl
  red : Redundancy
  msp : Msp
  jrn : Journal
  sup : Startup
  /-- the model's own: how many free values have been drawn -/
  draws : Nat
  deriving DecidableEq, Repr

/-- The machine right after a power-on reset (R44, R545 to R550): every parameter at its reset value, nothing staged, the
logic die waiting for its boot ROM, the banks without supply, memories empty, and no command waiting. -/
def State.reset : State :=
  { pending := [], dict := [], staged := [], bankCfg := [], tb := timeReset, banks := Vector.replicate 4 bankReset,
    down := Vector.replicate 4 linkReset, up := Vector.replicate 4 linkReset, links := Vector.replicate 4 logicLinkReset,
    u := Vector.replicate 16 uchanReset, scales := Vector.replicate 16 [], l := Vector.replicate 8 lchanReset, f := Vector.replicate 8 fchanReset,
    captures := Vector.replicate 8 [], coppice := Vector.replicate 4 groupSideReset, sched := [], nextHandle := 1, nextBatch := 1, canopy := canopyReset,
    glade := gladeReset, firebreak := firebreakReset, wdt := watchdogReset, heartwood := heartwoodReset, hsl := hslReset,
    mbx := mailboxReset, commit := none, journalCommits := [], ports := Vector.replicate 3 portReset, sw := switchReset,
    delivered := [], gcl := gclReset, red := redundancyReset, msp := mspReset, jrn := journalReset, sup := startupReset,
    draws := 0 }

end Sys2Proof.Machine
end

