-- ==== Sys2Proof/Machine/Ops.lean ====
section
/-! DEFINITION. The named operations over the state that every family uses: cell time, the parameter stores, the parts of
the state, fault events, doorbells, journal events, and the cells of the bank links. -/

namespace Sys2Proof.Machine

/-! ### Cell time -/

/-- The cell time a 96-bit counter shows: its upper 72 bits (R39). -/
def ctOf (c : BitVec 96) : CellTime := (c >>> 24).setWidth 72

/-- The logic side's cell time. -/
def now (s : State) : CellTime := ctOf s.tb.counter

/-- A bank's copy of cell time. -/
def bankNow (b : Bank) : CellTime := ctOf b.copy

/-- The count and the fraction of a cell time (R39). -/
def ctNs (t : CellTime) : Nat := t.toNat / 256

/-- The fraction in 1/256 ns. -/
def ctFrac (t : CellTime) : Nat := t.toNat % 256

/-- A cell time from its count and fraction. -/
def ctMk (ns frac : Nat) : CellTime := BitVec.ofNat 72 (ns * 256 + frac % 256)

/-- The nine bytes in which the device stores a cell time: count, then fraction (R39, R393). -/
def ctBytes (t : CellTime) : List Byte := leBytes 8 (ctNs t) ++ leBytes 1 (ctFrac t)

/-- The cell time of nine such bytes. -/
def ctOfBytes (l : List Byte) : CellTime := ctMk (leNat (l.take 8)) (leNat ((l.drop 8).take 1))

/-- `n` nanoseconds as a difference of cell times, in 1/256 ns. -/
def nsUnits (n : Nat) : Nat := n * 256

/-- A cell time later by `n` ns. -/
def ctAddNs (t : CellTime) (n : Nat) : CellTime := t + BitVec.ofNat 72 (nsUnits n)

/-- The signed difference a − b of two cell times in 1/256 ns. -/
def ctDiff (a b : CellTime) : Int := (a - b).toInt

/-- Whether an instant has come on a copy of cell time. -/
def reached (t clock : CellTime) : Bool := decide (t.toNat ≤ clock.toNat)

/-- Whether `ns` nanoseconds have passed on the counter that no step moves. -/
def elapsed (s : State) (since : BitVec 96) (ns : Nat) : Bool :=
  decide (ns * 2 ^ 32 ≤ (s.tb.mono - since).toNat)

/-- The same since an event that may not have happened yet. -/
def sinceLast (s : State) (since : Option (BitVec 96)) (ns : Nat) : Bool := since.all (fun t => elapsed s t ns)

/-- 2^k seconds in ns. -/
def logSeconds (k : Int) : Nat := if k < 0 then 1000000000 / 2 ^ (-k).toNat else 1000000000 * 2 ^ k.toNat

/-- A cell time rounded to the nearest multiple of 0x20 in its fraction, the grid of a TDC (R62). -/
def ctGrid (t : CellTime) : CellTime := BitVec.ofNat 72 ((t.toNat + 16) / 32 * 32)

/-! ### Marked intervals (R49, R59, R61) -/

/-- Whether a mark covers an instant: it lies at or after the start of an interval and before its end. -/
def Marks.covers (m : Marks) (t : CellTime) : Bool :=
  m.past.any (fun p => decide (p.1.toNat ≤ t.toNat) && decide (t.toNat < p.2.toNat)) ||
    m.since.any (fun a => decide (a.toNat ≤ t.toNat))

/-- An interval begins, unless one is under way. -/
def Marks.start (m : Marks) (t : CellTime) : Marks := if m.since.isSome then m else { m with since := some t }

/-- The interval under way ends. -/
def Marks.finish (m : Marks) (t : CellTime) : Marks :=
  match m.since with
  | none => m
  | some a => { past := (a, t) :: m.past, since := none }

/-- The clock steps from one instant to another: what an interval under way has covered stays covered, and the instants that a
step back makes pass again are covered too (DEDUCED, assumption log 39). -/
def Marks.stepped (m : Marks) (old new : CellTime) : Marks :=
  match m.since with
  | none => m
  | some a =>
    if new.toNat < old.toNat then { past := (a, old) :: m.past, since := some (if new.toNat < a.toNat then new else a) } else m

/-- Whether the device is time-uncertain at an instant (R49). -/
def timeUnc (s : State) (t : CellTime) : Bool := s.tb.unc.covers t

/-- Whether a bank marks a record with a timestamp (R49, R58, R59): before its first lock every one, then those of the
intervals it knows of. -/
def bankMark (k : Bank) (t : CellTime) : Bool := !k.lockedOnce || k.unc.covers t || k.unlocked.covers t

/-- Whether a record of a bank is marked once the logic side has it (R49). -/
def recordUnc (s : State) (t : CellTime) (marked : Bool) : Bool := marked || timeUnc s t

/-! ### The parameter stores -/

/-- `n` bytes of an attribute in effect, from an offset. -/
def State.pBytes (s : State) (n cls inst attr off : Nat) : List Byte :=
  cellsReadN parReset s.dict (parKey cls inst attr off) n

/-- The little-endian number of those bytes. -/
def State.pAt (s : State) (n cls inst attr off : Nat) : Nat := leNat (s.pBytes n cls inst attr off)

/-- An attribute of `n` bytes in effect. -/
def State.p (s : State) (n cls inst attr : Nat) : Nat := s.pAt n cls inst attr 0

/-- The same as a signed number. -/
def State.pI (s : State) (n cls inst attr : Nat) : Int := toSigned (8 * n) (s.p n cls inst attr)

/-- Write bytes of an attribute in effect. -/
def State.setBytes (s : State) (cls inst attr off : Nat) (l : List Byte) : State :=
  { s with dict := cellsWriteL parReset s.dict (parKey cls inst attr off) l }

/-- Write `n` bytes of an attribute in effect at an offset. -/
def State.setPAt (s : State) (n cls inst attr off v : Nat) : State := s.setBytes cls inst attr off (leBytes n v)

/-- Write an attribute of `n` bytes in effect. -/
def State.setP (s : State) (n cls inst attr v : Nat) : State := s.setPAt n cls inst attr 0 v

/-- Write a signed attribute of `n` bytes in effect. -/
def State.setPI (s : State) (n cls inst attr : Nat) (v : Int) : State := s.setP n cls inst attr (ofSigned (8 * n) v)

/-- Write a cell-time attribute. -/
def State.setPCt (s : State) (cls inst attr : Nat) (t : CellTime) : State := s.setBytes cls inst attr 0 (ctBytes t)

/-- Add one to a counter of `n` bytes at an offset; it wraps. -/
def State.incAt (s : State) (n cls inst attr off : Nat) : State :=
  s.setPAt n cls inst attr off (s.pAt n cls inst attr off + 1)

/-- Add one to a counter attribute of `n` bytes; it wraps. -/
def State.inc (s : State) (n cls inst attr : Nat) : State := s.incAt n cls inst attr 0

/-- Set bits of a one-byte attribute (a DIAG). -/
def State.orP (s : State) (cls inst attr bits : Nat) : State := s.setP 1 cls inst attr (s.p 1 cls inst attr ||| bits)

/-- The staged value of bytes of an attribute (R399). -/
def State.stBytes (s : State) (n cls inst attr off : Nat) : List Byte :=
  cellsReadN parReset s.staged (parKey cls inst attr off) n

/-- The little-endian number of the staged bytes of an attribute. -/
def State.st (s : State) (n cls inst attr : Nat) : Nat := leNat (s.stBytes n cls inst attr 0)

/-- The part of a bank's own store that holds its configuration. -/
def bankBase (b : Nat) : Nat := b * 2 ^ 48

/-- What an unlisted byte of a bank's configuration reads as: the reset byte. -/
def bankReset' (k : Nat) : Byte := parReset (k % 2 ^ 48)

/-- `n` bytes of the configuration a bank holds. -/
def State.bBytes (s : State) (b n cls inst attr off : Nat) : List Byte :=
  cellsReadN bankReset' s.bankCfg (bankBase b + parKey cls inst attr off) n

/-- An attribute of `n` bytes as the bank holds it. -/
def State.b (s : State) (b n cls inst attr : Nat) : Nat := leNat (s.bBytes b n cls inst attr 0)

/-- The same as a signed number. -/
def State.bI (s : State) (b n cls inst attr : Nat) : Int := toSigned (8 * n) (s.b b n cls inst attr)

/-! ### The parts of the state -/

/-- Change one bank. -/
def State.modBank (s : State) (b : Fin 4) (g : Bank → Bank) : State :=
  { s with banks := s.banks.set b (g (s.banks[b])) }

/-- Change one universal channel. -/
def State.modU (s : State) (i : Fin 16) (g : UChan → UChan) : State := { s with u := s.u.set i (g (s.u[i])) }

/-- Change one load-switch channel. -/
def State.modL (s : State) (i : Fin 8) (g : LChan → LChan) : State := { s with l := s.l.set i (g (s.l[i])) }

/-- Change one fast input. -/
def State.modF (s : State) (i : Fin 8) (g : FChan → FChan) : State := { s with f := s.f.set i (g (s.f[i])) }

/-- Change the logic-side end of one bank link. -/
def State.modLink (s : State) (b : Fin 4) (g : LogicLink → LogicLink) : State :=
  { s with links := s.links.set b (g (s.links[b])) }

/-- Change one group's share in one bank. -/
def State.modGrp (s : State) (b : Fin 4) (g : Fin 4) (h : GroupBank → GroupBank) : State :=
  s.modBank b (fun k => { k with groups := k.groups.set g (h (k.groups[g])) })

/-- The bank of a universal channel, and its number within the bank (R1). -/
def bankOfU (u : Fin 16) : Fin 4 := ⟨u.val / 4, by omega⟩

/-- The bank of a load switch. -/
def bankOfL (l : Fin 8) : Fin 4 := ⟨l.val / 2, by omega⟩

/-- The bank of a fast input. -/
def bankOfF (f : Fin 8) : Fin 4 := ⟨f.val / 2, by omega⟩

/-- The universal channel of a bank. -/
def uOf (b : Fin 4) (i : Fin 4) : Fin 16 := ⟨4 * b.val + i.val, by omega⟩

/-- The load switch of a bank. -/
def lOf (b : Fin 4) (i : Fin 2) : Fin 8 := ⟨2 * b.val + i.val, by omega⟩

/-- The fast input of a bank. -/
def fOf (b : Fin 4) (i : Fin 2) : Fin 8 := ⟨2 * b.val + i.val, by omega⟩

/-- The number of a universal channel within its bank. -/
def uIn (u : Fin 16) : Fin 4 := ⟨u.val % 4, by omega⟩

/-- The number of a load switch within its bank. -/
def lIn (l : Fin 8) : Fin 2 := ⟨l.val % 2, by omega⟩

/-- The number of a fast input within its bank. -/
def fIn (f : Fin 8) : Fin 2 := ⟨f.val % 2, by omega⟩

/-- The four banks. -/
def allBanks : List (Fin 4) := [0, 1, 2, 3]

/-- Set or clear bits of a status word. -/
def setBit16 (w : BitVec 16) (i : Nat) (on : Bool) : BitVec 16 :=
  if on then w ||| (1#16 <<< i) else w &&& ~~~ (1#16 <<< i)

/-- Set or clear a bit of a 32-bit word. -/
def setBit32 (w : Word) (i : Nat) (on : Bool) : Word :=
  if on then w ||| (1#32 <<< i) else w &&& ~~~ (1#32 <<< i)

/-- Set or clear a bit of a byte. -/
def setBit8 (w : Byte) (i : Nat) (on : Bool) : Byte :=
  if on then w ||| (1#8 <<< i) else w &&& ~~~ (1#8 <<< i)

/-- A bit of a number. -/
def natBit (v i : Nat) : Bool := v / 2 ^ i % 2 == 1

/-- One draw of a free value: the value, and the state after the draw. -/
def State.draw (s : State) : Nat × State := (Config.freeValue s.draws, { s with draws := s.draws + 1 })

/-! ### Fault events -/

/-- Queue a fault event for the fault collector (R307). -/
def State.pushRaise (s : State) (r : Raise) : State :=
  { s with firebreak := { s.firebreak with raises := s.firebreak.raises ++ [r] } }

/-- A logic-side block raises an identifier against an object (R307). -/
def State.raise (s : State) (id : Nat) (kind index : Nat) (detail : Word := 0) : State :=
  s.pushRaise { ident := id, obj := { kind := kind, index := index }, time := now s, uncertain := s.tb.uncertain,
                detail := detail, ends := false }

/-- The condition of a lasting identifier ends for an object (R306, R624). -/
def State.endFault (s : State) (id : Nat) (kind index : Nat) : State :=
  s.pushRaise { ident := id, obj := { kind := kind, index := index }, time := now s, uncertain := s.tb.uncertain,
                detail := 0, ends := true }

/-- The occurrences of an identifier against an object that lie within the last second (R625). -/
def windowOf (fb : Firebreak) (id : Nat) (o : FaultObj) (mono : BitVec 96) : List (BitVec 96) :=
  match fb.windows.find? (fun w => w.ident == id && w.obj == o) with
  | none => []
  | some w => w.times.filter (fun t => decide ((mono - t).toNat < 1000000000 * 2 ^ 32))

/-- One occurrence of an identifier whose condition is more than 16 within 1 s (R625): it is raised at the occurrence that
brings the count in the window from 16 to 17. -/
def State.occur (s : State) (id : Nat) (kind index : Nat) : State :=
  let o : FaultObj := { kind := kind, index := index }
  let ts := windowOf s.firebreak id o s.tb.mono
  let rest := s.firebreak.windows.filter (fun w => !(w.ident == id && w.obj == o))
  let s1 := { s with firebreak := { s.firebreak with
    windows := rest ++ [{ ident := id, obj := o, times := ts ++ [s.tb.mono] }] } }
  if ts.length = 16 then s1.raise id kind index else s1

/-! ### Doorbells (R377, R379) -/

/-- Change one endpoint. -/
def State.modEp (s : State) (e : Fin 8) (g : Endpoint → Endpoint) : State :=
  { s with mbx := { s.mbx with eps := s.mbx.eps.set e (g (s.mbx.eps[e])) } }

/-- Set device-to-host bits of one endpoint. -/
def State.ringEp (s : State) (e : Fin 8) (bits : Word) : State := s.modEp e (fun p => { p with db := p.db ||| bits })

/-- Set a broadcast device-to-host bit in the doorbell of every endpoint at once (R377). -/
def State.ringAll (s : State) (bit : Nat) : State :=
  { s with mbx := { s.mbx with eps := s.mbx.eps.map (fun p => { p with db := p.db ||| (1#32 <<< bit) }) } }

/-! ### Journal events -/

/-- An event that is to become a journal record of a TYPE with a body (R535, R536); the body is 24 bytes. -/
def State.journal (s : State) (typ : Nat) (body : List Byte) : State :=
  { s with jrn := { s.jrn with incoming := s.jrn.incoming ++
      [(typ, s.tb.uncertain, (body ++ List.replicate 24 0).take 24)] } }

/-- The same with the cell time of the event in body bytes 0 to 8. -/
def State.journalAt (s : State) (typ : Nat) (rest : List Byte) : State := s.journal typ (ctBytes (now s) ++ rest)

/-- An event calls for a HELLO (R469). -/
def State.helloSoon (s : State) : State := { s with gcl := { s.gcl with helloDue := true } }

/-! ### Cells of the bank links (R22 to R26) -/

/-- What the next slot of a link frame carries (R21, R25). -/
inductive SlotKind where
  /-- the second copy of an express cell -/
  | copy
  /-- the SYNC or STATUS cell of the frame -/
  | frame
  /-- the first copy of an express cell -/
  | express
  /-- an ordinary cell, or IDLE -/
  | ordinary
  deriving DecidableEq, Repr

/-- Whether the slot in progress carries a copy of an express cell. -/
def onExpress {π σ : Type} (d : LinkDir π σ) : Bool := match d.line with | .exp _ _ _ => true | _ => false

/-- The precedence of the next slot (R21, R25), where `waits` tells whether an express cell waits. Slot 0 takes the copy owed
from slot 7, else a waiting express cell, else the SYNC or STATUS cell, which slot 1 takes after an express copy in slot 0; no
express cell starts in slot 1, so a first copy sent in slot 0 has its second in slot 2. -/
def slotKind {π σ : Type} (d : LinkDir π σ) (waits : Bool) : SlotKind :=
  let n := d.slot + 1
  if n = 1 then (if onExpress d then .frame else .ordinary)
  else if d.copy.isSome then .copy
  else if waits then .express
  else if n = 0 then .frame
  else .ordinary

/-- The next slot begins (R21, R22, R25, R26): its cell leaves with the ACK that stands now. An ordinary cell to be sent again
goes before one that waits, and none goes while 32 are unacknowledged. -/
def linkTurn {π σ : Type} (k : SlotKind) (fr : σ) (mono : BitVec 96) (ack : BitVec 8) (d : LinkDir π σ) : LinkDir π σ :=
  let e := { d with slot := d.slot + 1, ack := ack, line := .idle }
  match k with
  | .frame => { e with line := .frame fr }
  | .copy =>
    match d.copy with
    | some (q, c) => { e with line := .exp q true c, copy := none }
    | none => e
  | .express =>
    match d.express with
    | c :: rest => { e with line := .exp d.expSeq false c, copy := some (d.expSeq, c), express := rest, expSeq := d.expSeq + 1 }
    | [] => e
  | .ordinary =>
    match d.again, d.queued with
    | (q, c) :: rest, _ =>
      { e with line := .ord q c, again := rest,
               unacked := d.unacked.map (fun u => if u.1 = q then (q, mono, u.2.2) else u) }
    | [], c :: rest =>
      if d.unacked.length < 32 then
        { e with line := .ord d.ordSeq c, queued := rest, ordSeq := d.ordSeq + 1, unacked := d.unacked ++ [(d.ordSeq, mono, c)] }
      else e
    | [], [] => e

/-- An ordinary cell waits for a slot. -/
def linkPut {π σ : Type} (d : LinkDir π σ) (c : π) : LinkDir π σ := { d with queued := d.queued ++ [c] }

/-- An express cell waits for its two slots (R25). -/
def linkExpress {π σ : Type} (d : LinkDir π σ) (c : π) : LinkDir π σ := { d with express := d.express ++ [c] }

/-- The number of unacknowledged cells that an ACK covers: those up to the one it names. -/
def ackCount {π σ : Type} (d : LinkDir π σ) (a : BitVec 8) : Nat :=
  match d.unacked with
  | [] => 0
  | (q, _, _) :: _ => let n := (a + 1 - q).toNat; if n ≤ d.unacked.length then n else 0

/-- The sender takes an ACK (R26): what it covers need not be sent again. -/
def linkAck {π σ : Type} (a : BitVec 8) (d : LinkDir π σ) : LinkDir π σ :=
  let left := d.unacked.drop (ackCount d a)
  { d with unacked := left, again := d.again.filter (fun x => left.any (fun u => u.1 == x.1)) }

/-- The sender sends again every unacknowledged cell, in order (R26). -/
def linkResend {π σ : Type} (d : LinkDir π σ) : LinkDir π σ := { d with again := d.unacked.map (fun u => (u.1, u.2.2)) }

/-- Send an ordinary cell from the logic side to a bank. -/
def State.sendDown (s : State) (b : Fin 4) (c : DownCell) : State :=
  { s with down := s.down.set b (linkPut (s.down[b]) c) }

/-- Send an express cell from the logic side to a bank. -/
def State.sendDownExpress (s : State) (b : Fin 4) (c : DownCell) : State :=
  { s with down := s.down.set b (linkExpress (s.down[b]) c) }

/-- Send an ordinary cell from a bank to the logic side. -/
def State.sendUp (s : State) (b : Fin 4) (c : UpCell) : State := { s with up := s.up.set b (linkPut (s.up[b]) c) }

/-- Send an express cell from a bank to the logic side. -/
def State.sendUpExpress (s : State) (b : Fin 4) (c : UpCell) : State :=
  { s with up := s.up.set b (linkExpress (s.up[b]) c) }

/-- A fault event that a bank detects now: its time is the bank's copy (R307, R49). -/
def bankEvent (k : Bank) (id kind index : Nat) (detail : Word) (isEnd : Bool) : Raise :=
  { ident := id, obj := { kind := kind, index := index }, time := bankNow k,
    uncertain := bankMark k (bankNow k), detail := detail, ends := isEnd }

/-- A bank raises an identifier: a FAULT cell carries the event (R307). -/
def State.bankRaise (s : State) (b : Fin 4) (id kind index : Nat) (detail : Word := 0) : State :=
  s.sendUpExpress b (.fault (bankEvent (s.banks[b]) id kind index detail false) 0)

/-- A bank raises an identifier against a group, with what the cell tells the logic side besides (R198, R202). -/
def State.groupRaise (s : State) (b : Fin 4) (id : Nat) (g : Fin 4) (note : BitVec 8) : State :=
  s.sendUpExpress b (.fault (bankEvent (s.banks[b]) id 4 g 0 false) note)

/-- A bank reports that the condition of a lasting identifier has ended. -/
def State.bankEnd (s : State) (b : Fin 4) (id kind index : Nat) : State :=
  s.sendUpExpress b (.fault (bankEvent (s.banks[b]) id kind index 0 true) 0)

/-- The bank's state as the logic side reports it (R417). -/
def bankState (s : State) (b : Fin 4) : Nat := s.p 1 0x05 b 0x02

/-- A bank is present in states 1 to 4 (R417). -/
def bankPresent (s : State) (b : Fin 4) : Bool := bankState s b != 0

/-- A completed command's effect, code and response payload. -/
structure CmdRes where
  st : State
  code : BitVec 16
  payload : List Byte

/-- A command refused with a code: nothing changes. -/
def refuse (s : State) (code : BitVec 16) : CmdRes := { st := s, code := code, payload := [] }

/-- A command completed OK without a payload. -/
def okRes (s : State) : CmdRes := { st := s, code := 0, payload := [] }

/-! ### Return codes (R385) -/

/-- Sequence number already seen. -/
def rcReplayed : BitVec 16 := 0x0001
/-- 32 commands outstanding. -/
def rcQueueFull : BitVec 16 := 0x0101
/-- Tag already outstanding. -/
def rcBadTag : BitVec 16 := 0x0102
/-- No buffer granted, or buffer not held. -/
def rcNoBuffer : BitVec 16 := 0x0103
/-- A bank's schedule queue has no free slot. -/
def rcScheduleFull : BitVec 16 := 0x0104
/-- Host serial link frame with a bad CRC. -/
def rcFrameCrc : BitVec 16 := 0x0105
/-- Host serial link framing error. -/
def rcFrameError : BitVec 16 := 0x0106
/-- Undefined opcode, form, field, index, function or length. -/
def rcBadParam : BitVec 16 := 0x0201
/-- Not writable by this access. -/
def rcReadOnly : BitVec 16 := 0x0202
/-- Locked, closed, or the state forbids the command. -/
def rcLocked : BitVec 16 := 0x0203
/-- Value, offset, length or instant outside its range. -/
def rcOutOfRange : BitVec 16 := 0x0204
/-- Rule table bound to another layout. -/
def rcTableMismatch : BitVec 16 := 0x0205
/-- Wrong clear key. -/
def rcBadKey : BitVec 16 := 0x0206
/-- Sender does not hold the right or the current epoch. -/
def rcNotAuthority : BitVec 16 := 0x0301
/-- A safe state still has an active cause. -/
def rcSafeActive : BitVec 16 := 0x0302
/-- Instant too close or already past. -/
def rcLate : BitVec 16 := 0x0303
/-- A bank of the target is absent. -/
def rcTargetAbsent : BitVec 16 := 0x0304
/-- Ended by an abort. -/
def rcAborted : BitVec 16 := 0x0401
/-- Version or opcode not supported in the version in effect. -/
def rcVersion : BitVec 16 := 0x0501
/-- External memory failure. -/
def rcMemoryFailure : BitVec 16 := 0x0601
/-- Firmware image signature not valid. -/
def rcSignature : BitVec 16 := 0x0701

end Sys2Proof.Machine
end

