-- ==== Sys2Proof/Machine/Points.lean ====
section
/-! DEFINITION. The point records of Canopy (R264 to R267, R271, R280): reading and writing one record. -/

namespace Sys2Proof.Machine

/-- What an unlisted byte of Canopy's tables reads as: reset leaves every record 0 (R297). -/
def zeroByte (_ : Nat) : Byte := 0

/-- The eight bytes of a point record. -/
def pointBytes (s : State) (h : Nat) : List Byte := cellsReadN zeroByte s.canopy.points (8 * h) 8

/-- VALUE of a point. -/
def pointValue (s : State) (h : Nat) : Int := toSigned 32 (leNat ((pointBytes s h).take 4))

/-- QUALITY of a point. -/
def pointQuality (s : State) (h : Nat) : Byte := (pointBytes s h).getD 4 0

/-- A point is good exactly when its GOOD bit is 1 (R267). -/
def pointGood (s : State) (h : Nat) : Bool := (pointQuality s h).getLsbD 0

/-- The handles whose 16-, 32- or 8-byte table entries the parameters in effect list, by entry number. -/
def tableEntries (s : State) (attr size : Nat) : List Nat :=
  let base := parKey 0x0E 0 attr 0
  (s.dict.filterMap (fun c => if base ≤ c.1 ∧ c.1 < base + 2 ^ 20 then some ((c.1 - base) / size) else none)).eraseDups

/-- One own publication group of PUB_GROUPS (R300): class, count, first entry, period and phase in µs, hold-off in µs. -/
def pubGroup (s : State) (g : Nat) : Nat × Nat × Nat × Nat × Nat × Nat :=
  let a := s.pBytes 16 0x0E 0 0x03 (16 * g)
  (leNat (a.take 1), leNat ((a.drop 1).take 1), leNat ((a.drop 2).take 2), leNat ((a.drop 4).take 4),
   leNat ((a.drop 8).take 4), leNat ((a.drop 12).take 2))

/-- HANDLE and DEADBAND of an entry of PUB_POINTS. -/
def pubPoint (s : State) (i : Nat) : Nat × Nat := (s.pAt 4 0x0E 0 0x04 (8 * i), s.pAt 4 0x0E 0 0x04 (8 * i + 4))

/-- The points of a publication group, in PUB_POINTS order. -/
def groupPoints (s : State) (g : Nat) : List (Nat × Nat) :=
  let (_, count, first, _) := pubGroup s g
  (List.range count).map (fun i => pubPoint s (first + i))

/-- The E group a handle belongs to, with the point's deadband. -/
def eventGroupOf (s : State) (h : Nat) : Option (Nat × Nat) :=
  (tableEntries s 0x03 16).findSome? (fun g =>
    if (pubGroup s g).1 = 3 then ((groupPoints s g).find? (fun p => p.1 == h)).map (fun p => (g, p.2)) else none)

/-- The transmit state of an own group. -/
def pubState (s : State) (g : Nat) : PubState :=
  (s.canopy.pubs.find? (fun p => p.group == g)).getD { group := g, qualified := false, lastSent := none, mark := gridReset, lastValues := [] }

/-- Set the transmit state of an own group. -/
def State.setPub (s : State) (p : PubState) : State :=
  let rest := s.canopy.pubs.filter (fun x => x.group != p.group)
  { s with canopy := { s.canopy with pubs := rest ++ [p] } }

/-- A write that qualifies for an E group is remembered there (R271). -/
def State.qualify (s : State) (h : Nat) (oldQ newQ : Byte) (v : Int) : State :=
  match eventGroupOf s h with
  | none => s
  | some (g, dead) =>
    let st := pubState s g
    let last : Int := match st.lastValues.find? (fun p => p.1 == h) with | some p => p.2.toInt | none => 0
    if (oldQ ^^^ newQ) &&& 0xCD ≠ 0 ∨ dead < (v - last).natAbs then s.setPub { st with qualified := true } else s

/-- Store one record: SEQUENCE counts every write (R264). -/
def State.storePoint (s : State) (h : Nat) (v : Int) (q : Byte) (epoch : Nat) : State :=
  let seq := (pointBytes s h).getD 5 0 + 1
  let rec' := leBytes 4 (ofSigned 32 v) ++ [q, seq] ++ leBytes 2 epoch
  let s1 := { s with canopy := { s.canopy with points := cellsWriteL zeroByte s.canopy.points (8 * h) rec' } }
  s1.qualify h (pointQuality s h) q v

/-- The record of a commissioning force over an underlying one (R280). -/
def forcedQuality (q : Byte) : Byte := (q &&& 0x1C) ||| 0x81

/-- Write a point: while it is forced, the underlying record is kept and the forced value shows (R280). -/
def State.writePoint (s : State) (h : Nat) (v : Int) (q : Byte) (epoch : Nat) : State :=
  match s.canopy.forces.find? (fun f => f.handle == h) with
  | none => s.storePoint h v q epoch
  | some f =>
    let under := leBytes 4 (ofSigned 32 v) ++ [q, 0] ++ leBytes 2 epoch
    let fs := s.canopy.forces.map (fun x => if x.handle == h then { x with under := under } else x)
    let s1 := { s with canopy := { s.canopy with forces := fs } }
    s1.storePoint h f.value.toInt (forcedQuality q) epoch

/-- The value of the underlying record of a point. -/
def underValue (s : State) (h : Nat) : Int × Byte :=
  match s.canopy.forces.find? (fun f => f.handle == h) with
  | none => (pointValue s h, pointQuality s h)
  | some f => (toSigned 32 (leNat (f.under.take 4)), f.under.getD 4 0)

/-- Write an own point with its own source epoch. -/
def State.ownPoint (s : State) (h : Nat) (v : Int) (q : Byte) : State := s.writePoint h v q s.canopy.sourceEpoch.toNat

/-- Write an own point when its value or quality differs from the record. -/
def State.syncPoint (s : State) (h : Nat) (v : Int) (q : Byte) : State :=
  if underValue s h = (v, q) then s else s.ownPoint h v q

/-- A device point (R265, R266): always good; TIME_UNCERTAIN as R49. -/
def State.devicePoint (s : State) (h : Nat) (v : Int) : State :=
  s.syncPoint h v (if s.tb.uncertain then 0x11 else 0x01)

/-- User inputs 0 to 7 follow the host-to-device doorbells of all endpoints (R265). -/
def State.userPoints (s : State) : State :=
  (List.range 8).foldl (fun t k =>
    t.devicePoint (0x80 + k) (if t.mbx.eps.toList.any (fun e => e.h2d.getLsbD (16 + k)) then 1 else 0)) s

/-- The source's own points of a channel whose bank is absent read 0 (R266). -/
def State.clearPoint (s : State) (h : Nat) : State := s.syncPoint h 0 0

end Sys2Proof.Machine
end

