-- ==== Sys2Proof/Machine/Nor.lean ====
section
/-! DEFINITION. The serial NOR: its contents as a byte store, its layout by density, its header, and its source-epoch
sectors (R526, R527, R529). -/

namespace Sys2Proof.Machine

/-- An erased byte of the NOR. -/
def norByte (_ : Nat) : Byte := 0xFF

/-- Bytes of the NOR. -/
def norBytes (s : State) (addr n : Nat) : List Byte := cellsReadN norByte s.msp.nor addr n

/-- Write bytes into erased NOR. -/
def State.writeNor (s : State) (addr : Nat) (l : List Byte) : State :=
  { s with msp := { s.msp with nor := cellsWriteL norByte s.msp.nor addr l } }

/-- Erase a range of the NOR. -/
def State.eraseNor (s : State) (addr n : Nat) : State :=
  { s with msp := { s.msp with nor := s.msp.nor.filter (fun c => decide (c.1 < addr) || decide (addr + n ≤ c.1)) } }

/-- The density in Mbit of the NOR found at start (P19.00.0F). -/
def norDensity (s : State) : Nat := s.pAt 2 0x19 0 0x0F 0

/-- The sizes in KiB of the configuration, rule-table and firmware slots (R526). -/
def slotSizes (density : Nat) : Nat × Nat × Nat :=
  if density ≤ 16 then (192, 128, 640)
  else if density ≤ 32 then (256, 256, 1280)
  else if density ≤ 64 then (512, 512, 2048)
  else (1024, 512, 4096)

/-- The base addresses of configuration, rule-table and firmware slot 0 (R526). -/
def slotBases (density : Nat) : Nat × Nat × Nat :=
  let (c, r, _) := slotSizes density
  (0x20000, 0x20000 + 2 * c * 1024, 0x20000 + 2 * (c + r) * 1024)

/-- The base of a configuration slot. -/
def configSlot (s : State) (i : Bool) : Nat :=
  (slotBases (norDensity s)).1 + (if i then (slotSizes (norDensity s)).1 * 1024 else 0)

/-- The base of a rule-table slot. -/
def ruleSlot (s : State) (i : Bool) : Nat :=
  (slotBases (norDensity s)).2.1 + (if i then (slotSizes (norDensity s)).2.1 * 1024 else 0)

/-- The base of a firmware slot. -/
def fwSlot (s : State) (i : Bool) : Nat :=
  (slotBases (norDensity s)).2.2 + (if i then (slotSizes (norDensity s)).2.2 * 1024 else 0)

/-- The base of a header copy (R527). -/
def headerAt (i : Bool) : Nat := if i then 0x8000 else 0

/-- A header copy is valid when its MAGIC, FORMAT, UNIQUE_ID and CRC are correct (R527). -/
def headerValid (s : State) (i : Bool) : Bool :=
  let h := norBytes s (headerAt i) 64
  h.take 4 == [0x47, 0x51, 0x4E, 0x48] && leNat ((h.drop 4).take 2) == 1 &&
    leNat ((h.drop 12).take 8) == s.sup.fuses.uniqueId.toNat && leNat ((h.drop 60).take 4) == (crc32 (h.take 60)).toNat

/-- HEADER_SEQ of a copy. -/
def headerSeq (s : State) (i : Bool) : Nat := leNat (norBytes s (headerAt i + 8) 4)

/-- The copy in effect: the valid one with the higher HEADER_SEQ (R527). -/
def headerInEffect (s : State) : Option Bool :=
  match headerValid s false, headerValid s true with
  | true, true => some (decide (headerSeq s false < headerSeq s true))
  | true, false => some false
  | false, true => some true
  | false, false => none

/-- ACTIVE_CONFIG, BOOT_TABLE and FW_PREFERRED of the copy in effect (R527). -/
def headerSlots (s : State) : Nat × Nat × Nat :=
  match headerInEffect s with
  | none => (0xFF, 0xFF, 0)
  | some i =>
    let h := norBytes s (headerAt i + 20) 3
    ((h.getD 0 0).toNat, (h.getD 1 0).toNat, (h.getD 2 0).toNat)

/-- Write a new header copy over the one not in effect (R527). -/
def State.writeHeader (s : State) (cfg boot fw : Nat) : State :=
  let (dest, seq) := match headerInEffect s with
    | some i => (!i, headerSeq s i + 1)
    | none => (false, 1)
  let d := norDensity s
  let (c, r, f) := slotSizes d
  let body := [0x47, 0x51, 0x4E, 0x48] ++ leBytes 2 1 ++ leBytes 2 d ++ leBytes 4 seq ++
    leBytes 8 s.sup.fuses.uniqueId.toNat ++ leBytes 1 cfg ++ leBytes 1 boot ++ leBytes 1 fw ++ [0] ++
    leBytes 4 c ++ leBytes 4 r ++ leBytes 4 f ++ List.replicate 24 0
  let s1 := (s.eraseNor (headerAt dest) 4096).writeNor (headerAt dest) (body ++ leBytes 4 (crc32 body).toNat)
  { s1 with sup := { s1.sup with headerCopy := some dest } }

/-- A bit of a slot code as a Bool; 0xFF is none. -/
def slotOf (v : Nat) : Option Bool := if v = 0 then some false else if v = 1 then some true else none

/-! ### The source-epoch sectors (R529) -/

/-- The base of an epoch sector (R527). -/
def epochBase (i : Bool) : Nat := if i then 0x5000 else 0x4000

/-- A record of an epoch sector as its number, `none` for one whose halves do not match. -/
def epochAt (s : State) (i : Bool) (k : Nat) : Option Nat :=
  let v := leNat (norBytes s (epochBase i + 4 * k) 4)
  if v % 65536 + v / 65536 = 0xFFFF then some (v % 65536) else none

/-- The records of a sector that have been programmed. -/
def epochUsed (s : State) (i : Bool) : Nat :=
  ((List.range 1024).takeWhile (fun k => leNat (norBytes s (epochBase i + 4 * k) 4) != 0xFFFFFFFF)).length

/-- The last valid record of a sector. -/
def epochLast (s : State) (i : Bool) : Option Nat := ((List.range (epochUsed s i)).filterMap (epochAt s i)).getLast?

/-- The sector in use: the one whose last valid record is newer (R529, R275). -/
def epochSector (s : State) : Bool :=
  match epochLast s false, epochLast s true with
  | some a, some b => let d := (b + 65536 - a) % 65536; decide (d ≠ 0) && decide (d < 32768)
  | none, some _ => true
  | _, none => false

/-- The epoch in effect by the sectors. -/
def storedEpoch (s : State) : Option Nat := epochLast s (epochSector s)

/-- The four bytes of an epoch record. -/
def epochRecord (v : Nat) : List Byte := leBytes 2 (v % 65536) ++ leBytes 2 (0xFFFF - v % 65536)

/-- Append an epoch to the sector in use; a full one is erased once the other holds the new record. -/
def State.appendEpoch (s : State) (v : Nat) : State :=
  if !s.msp.norPresent then s
  else
    let i := epochSector s
    let n := epochUsed s i
    if n < 1023 then s.writeNor (epochBase i + 4 * n) (epochRecord v)
    else (s.writeNor (epochBase (!i)) (epochRecord v)).eraseNor (epochBase i) 4096

/-- The oldest source epoch that is due goes into the sectors. -/
def State.recordEpoch (s : State) : State :=
  match s.canopy.epochDue with
  | [] => s
  | v :: rest => State.appendEpoch { s with canopy := { s.canopy with epochDue := rest } } v

/-- Every source epoch that is due goes into the sectors: before the first PUB frame of a start leaves, and before the apply instant
of a commit (R529). -/
def State.recordEpochs (s : State) : State :=
  s.canopy.epochDue.foldl (fun (t : State) _ => t.recordEpoch) s

end Sys2Proof.Machine
end

