-- ==== Sys2Proof/Machine/SwitchOps.lean ====
section
/-! DEFINITION. The shared operations of the backbone switch: ports, VLANs, the MAC table, queues and gates, and the
sending of frames (R420 to R443). -/

namespace Sys2Proof.Machine

/-- The three ports. -/
def allPorts : List (Fin 3) := [0, 1, 2]

/-- Change one port. -/
def State.modPort (s : State) (p : Fin 3) (g : Port → Port) : State :=
  { s with ports := s.ports.set p (g (s.ports[p])) }

/-- An address as the number its six bytes on the wire make. -/
def macOf (l : List Byte) : BitVec 48 := BitVec.ofNat 48 (beNat (l.take 6))

/-- DEVICE_MAC in effect. -/
def deviceMac (s : State) : BitVec 48 := macOf (s.pBytes 6 0x16 0 0x01 0)

/-- A group address: the first bit on the wire is 1. -/
def isGroup (m : BitVec 48) : Bool := m.getLsbD 40

/-- GCL-ALL (R458). -/
def gclAll : BitVec 48 := 0x034751000001
/-- GCL-PUB (R458). -/
def gclPub : BitVec 48 := 0x034751000002
/-- GCL-MASTERS (R458). -/
def gclMasters : BitVec 48 := 0x034751000003
/-- GCL-RING (R458). -/
def gclRing : BitVec 48 := 0x03475100000F

/-- A port's ROLE is ring (R441). -/
def isRingPort (s : State) (p : Fin 3) : Bool := s.p 1 0x15 p 0x03 == 0

/-- The ring ports in port order. -/
def ringPorts (s : State) : List (Fin 3) := allPorts.filter (isRingPort s)

/-- Add one to counter k of a port (R456). -/
def State.portCnt (s : State) (p : Fin 3) (k : Nat) : State := s.incAt 8 0x15 p 0x19 (8 * k)

/-- Add a number to counter k of a port. -/
def State.portAdd (s : State) (p : Fin 3) (k v : Nat) : State :=
  s.setPAt 8 0x15 p 0x19 (8 * k) (s.pAt 8 0x15 p 0x19 (8 * k) + v)

/-- One entry of VLAN_TABLE: VID, MEMBERS, UNTAGGED (R454). -/
def vlanEntry (s : State) (i : Nat) : Nat × Nat × Nat :=
  (s.pAt 2 0x16 0 0x07 (8 * i), s.pAt 1 0x16 0 0x07 (8 * i + 2), s.pAt 1 0x16 0 0x07 (8 * i + 3))

/-- The member and untagged sets of a VLAN, `none` where it has no valid entry (R427). -/
def vlanOf (s : State) (vid : Nat) : Option (Nat × Nat) :=
  ((List.range 256).map (vlanEntry s)).findSome? (fun e => if e.1 == vid && vid != 0 then some e.2 else none)

/-- One valid entry of MAC_STATIC as a table entry (R454). -/
def staticEntry (s : State) (i : Nat) : Option MacEntry :=
  if natBit (s.pAt 1 0x16 0 0x03 (12 * i + 9)) 0 then
    some { mac := macOf (s.pBytes 6 0x16 0 0x03 (12 * i)), vid := BitVec.ofNat 12 (s.pAt 2 0x16 0 0x03 (12 * i + 6)),
           ports := BitVec.ofNat 4 (s.pAt 1 0x16 0 0x03 (12 * i + 8)), static_ := true, seen := 0 }
  else none

/-- The static entries (R428). -/
def staticEntries (s : State) : List MacEntry := (List.range 256).filterMap (staticEntry s)

/-- The table's ports for an address and VID: a static entry, the treatment of the GCL addresses (R458), a learned entry;
`none` where the table knows the address not. Bit 3 is the logic die. -/
def macLookup (s : State) (m : BitVec 48) (vid : BitVec 12) : Option (BitVec 4) :=
  match (staticEntries s).find? (fun e => e.mac == m && e.vid == vid) with
  | some e => some e.ports
  | none =>
    if m = gclAll ∨ m = gclPub ∨ m = gclMasters then some 0xF
    else (s.sw.mac.find? (fun e => e.mac == m && e.vid == vid)).map (·.ports)

/-- MAC_COUNT and the registers' counts follow the table. -/
def State.setMac (s : State) (t : List MacEntry) : State :=
  { s with sw := { s.sw with mac := t } }.setP 2 0x16 0 0x04 (t.length + (staticEntries s).length)

/-- Learn a source address (R428): a new address whose bucket is full is not learned, counted in MAC_FULL and raises
BBS-04. -/
def State.learn (s : State) (p : Fin 3) (m : BitVec 48) (vid : BitVec 12) : State :=
  if isGroup m then s
  else if (staticEntries s).any (fun e => e.mac == m && e.vid == vid) then s
  else
    let e : MacEntry := { mac := m, vid := vid, ports := 1#4 <<< p.val, static_ := false, seen := s.tb.mono }
    if s.sw.mac.any (fun e => e.mac == m && e.vid == vid) then
      s.setMac (s.sw.mac.map (fun x => if x.mac == m && x.vid == vid then e else x))
    else
      let bucket := Config.macBucket m.toNat vid.toNat % 1024
      let inBucket := (s.sw.mac ++ staticEntries s).filter
        (fun x => Config.macBucket x.mac.toNat x.vid.toNat % 1024 == bucket)
      if inBucket.length < 4 then s.setMac (s.sw.mac ++ [e])
      else ((s.inc 4 0x16 0 0x10).orP 0x16 0 0x15 2).raise (ident .bbs 4) 0 0

/-- Remove the learned entries that point to ports of a mask (R425, R453). -/
def State.flushPorts (s : State) (mask : BitVec 4) : State :=
  s.setMac (s.sw.mac.filter (fun e => e.ports &&& mask == 0))

/-- Whether a port passes only frames with an R-TAG and topology frames: the root's blocked port, or a returning ring port
that is held (R443). -/
def portRestricted (s : State) (p : Fin 3) : Bool := s.red.blocked == some p || s.ports[p].held

/-! ### Queues and the packet buffer (R432) -/

/-- The 256-byte cells a frame takes. -/
def cellsOf (len : Nat) : Nat := (len + 255) / 256

/-- The cells queued in a traffic class of a port, the frame in transmission included. -/
def tcCells (q : Port) (tc : Fin 8) : Nat :=
  ((q.queue ++ (q.sending.map (·.1)).toList).filter (fun x => x.tc == tc && !x.ptp)).foldl (fun n x => n + x.cells) 0

/-- Every frame that holds cells, each buffer copy once. -/
def bufferCopies (s : State) : List (Nat × Nat) :=
  ((allPorts.flatMap (fun p => s.ports[p].queue ++ (s.ports[p].sending.map (·.1)).toList)).filter
    (fun x => !x.ptp)).foldl (fun acc x => if acc.any (fun y => y.1 == x.buf) then acc else acc ++ [(x.buf, x.cells)]) []

/-- Cells in use. -/
def bufferLevel (s : State) : Nat := (bufferCopies s).foldl (fun n x => n + x.2) 0

/-- The reserved cells of a class: RESERVED_CELLS for TC 6 and TC 7, none for the others. -/
def reservedOf (s : State) (tc : Fin 8) : Nat := if tc.val ≥ 6 then s.p 2 0x16 0 0x13 else 0

/-- The cells that are in use out of the reserved ones. -/
def reservedUsed (s : State) : Nat :=
  allPorts.foldl (fun n p => n + min (tcCells (s.ports[p]) 6) (reservedOf s 6)
    + min (tcCells (s.ports[p]) 7) (reservedOf s 7)) 0

/-- Whether a queue of a port can take a frame's cells: reserved cells first, then shared ones up to QUEUE_LIMIT. -/
def hasRoom (s : State) (p : Fin 3) (tc : Fin 8) (cells : Nat) : Bool :=
  let r := reservedOf s tc
  let used := tcCells (s.ports[p]) tc
  let newShared := used + cells - r
  let extra := newShared - (used - r)
  let sharedTotal := 2048 - 6 * s.p 2 0x16 0 0x13
  decide (extra = 0) ||
    (decide (newShared ≤ s.pAt 2 0x15 p 0x1C (2 * tc.val)) &&
     decide (bufferLevel s - reservedUsed s + extra ≤ sharedTotal))

/-- BUF_LEVEL and BUF_PEAK follow the buffer. -/
def State.bufStat (s : State) : State :=
  let l := bufferLevel s
  (s.setP 2 0x16 0 0x11 l).setP 2 0x16 0 0x12 (max l (s.p 2 0x16 0 0x12))

/-! ### Gates (R434 to R436) -/

/-- Where a list stands at `off` ns into its cycle: the entry in effect and the ns left of it; the last entry holds to the
cycle end. -/
def gateAt (entries : List (Byte × Nat)) (i off cycleLeft : Nat) : Nat × Byte × Nat :=
  match entries with
  | [] => (i, 0xFF, cycleLeft)
  | [(g, _)] => (i, g, cycleLeft)
  | (g, n) :: rest => if off < n then (i, g, n - off) else gateAt rest (i + 1) (off - n) (cycleLeft - n)

/-- The gates of a list at an instant of local cell time. -/
def gateNow (l : GateList) (t : CellTime) : Nat × Byte × Nat :=
  let off := if l.cycle = 0 then 0 else (ctDiff t l.base / 256 % (l.cycle : Int)).toNat
  gateAt l.entries 0 off l.cycle

/-- The list in effect now: a new one whose change time has come, else the old one (R435). -/
def listNow (q : Port) (t : CellTime) : Option GateList :=
  match q.admin with
  | some (l, at_) => if reached at_ t then some l else q.oper
  | none => q.oper

/-- The entries of a list, the last one holding to the cycle end. -/
def fullEntries (l : GateList) : List (Byte × Nat) :=
  match l.entries.getLast? with
  | none => []
  | some (g, _) => l.entries.dropLast ++ [(g, l.cycle - l.entries.dropLast.foldl (fun n e => n + e.2) 0)]

/-- The ns for which the gate of a class stays open from the start of an entry list on. -/
def openRun (tc : Fin 8) : List (Byte × Nat) → Nat
  | [] => 0
  | (g, n) :: rest => if g.getLsbD tc.val then n + openRun tc rest else 0

/-- More ns than any frame takes. -/
def openAlways : Nat := 1000000000000

/-- The ns for which a list keeps the gate of a class open from an instant: to the end of the cycle and on into the next. -/
def openUnder (l : GateList) (tc : Fin 8) (t : CellTime) : Nat :=
  let es := fullEntries l
  if es.all (fun e => e.1.getLsbD tc.val) then openAlways
  else
    let (i, g, left) := gateNow l t
    if g.getLsbD tc.val then left + openRun tc (es.drop (i + 1) ++ es) else 0

/-- The ns for which the gate of a class stays open from now, over a change of the list that is to come (R435, R436). -/
def openFor (q : Port) (tc : Fin 8) (t : CellTime) : Nat :=
  let base := match listNow q t with | none => openAlways | some l => openUnder l tc t
  match q.admin with
  | none => base
  | some (l, at_) =>
    let left := (at_.toNat - t.toNat) / 256
    if reached at_ t ∨ base ≤ left then base else left + openUnder l tc at_

/-- Transmission time of bytes on a line of a speed in Mb/s, in ns. -/
def txNs (bytes speed : Nat) : Nat := if speed = 0 then 0 else bytes * 8000 / speed

/-- Whether a queued frame may start now (R433, R436): gPTP messages bypass the gates. -/
def eligible (q : Port) (t : CellTime) (x : QFrame) : Bool :=
  x.ptp || decide (txNs (x.frame.len + 12) q.speed ≤ openFor q x.tc t)

/-- The frame a port sends next: a gPTP message first, else the oldest frame of the highest class that is eligible. -/
def pickFrame (q : Port) (t : CellTime) : Option QFrame :=
  match q.queue.find? (fun x => x.ptp) with
  | some x => some x
  | none =>
    ([7, 6, 5, 4, 3, 2, 1, 0] : List (Fin 8)).findSome?
      (fun tc => match q.queue.find? (fun x => x.tc == tc) with
        | some x => if eligible q t x then some x else none
        | none => none)

/-- Start the next frame of an idle port whose link is up; it occupies the line for its bytes, the preamble and the gap. -/
def State.startTx (s : State) (p : Fin 3) : State :=
  let q := s.ports[p]
  match q.up, q.sending with
  | true, none =>
    match pickFrame q (now s) with
    | none => s
    | some x =>
      s.modPort p (fun k => { k with
        queue := k.queue.erase x,
        sending := some (x, s.tb.mono + BitVec.ofNat 96 (txNs (x.frame.len + 20) k.speed * 2 ^ 32)) })
  | _, _ => s

/-- The end of a transmission: the counters of R456, and the next frame. -/
def State.endTx (s : State) (p : Fin 3) : State :=
  match s.ports[p].sending with
  | none => s.startTx p
  | some (x, t) =>
    if t.toNat ≤ s.tb.mono.toNat then
      let s1 := s.modPort p (fun k => { k with sending := none })
      let s2 := ((s1.portCnt p 2).portAdd p 3 x.frame.len)
      let s3 := if x.ptp then s2 else (s2.portCnt p (16 + 4 * x.tc.val)).portAdd p (17 + 4 * x.tc.val) x.frame.len
      s3.bufStat.startTx p
    else s

/-- A stomped frame is counted (R431, R451). -/
def State.stomped (s : State) (p : Fin 3) : State :=
  ((s.portCnt p 12).orP 0x15 p 0x1E 16).raise (ident .bbs 9) 8 p

/-- Queue a frame on a port (R432, R436): an oversize frame and a frame without cells are discarded and counted; a cut-through frame
that is on the line when the buffer runs short is stomped (R431). -/
def State.enqueue (s : State) (p : Fin 3) (x : QFrame) : State :=
  if !s.ports[p].up then s
  else if x.ptp then (s.modPort p (fun k => { k with queue := k.queue ++ [x] })).startTx p
  else if s.pAt 2 0x15 p 0x15 (2 * x.tc.val) < x.frame.len then s.portCnt p (19 + 4 * x.tc.val)
  else if hasRoom s p x.tc x.cells then
    ((s.modPort p (fun k => { k with queue := k.queue ++ [x] })).bufStat).startTx p
  else if x.cut && s.ports[p].sending.isNone then
    (s.modPort p (fun k => { k with sending := some ({ x with frame := { x.frame with fcsOk := false }, cells := 0 },
      s.tb.mono + BitVec.ofNat 96 (txNs (x.frame.len + 20) k.speed * 2 ^ 32)) })).stomped p
  else ((s.portCnt p (18 + 4 * x.tc.val)).orP 0x15 p 0x1E 4).raise (ident .bbs 3) 8 p

/-- The gate states that the list in effect gives now; a frame that waited for its gate may start (R434). -/
def State.followGates (s : State) (p : Fin 3) : State :=
  let (e, g) := match (s.ports[p]).oper with
    | none => (0, 0xFF#8)
    | some l => let (i, g, _) := gateNow l (now s); (i, g)
  (s.modPort p (fun k => { k with entry := e, gates := g })).startTx p

/-- At its change time the new list starts; the entry of the old one ends (R435). -/
def State.changeList (s : State) (p : Fin 3) : State :=
  match (s.ports[p]).admin with
  | none => s
  | some (l, t) =>
    if reached t (now s) then s.modPort p (fun k => { k with oper := some l, admin := none }) else s

/-- After a step of cell time the gates are those of the new time (R434). -/
def State.stepGates (s : State) : State := allPorts.foldl (fun (x : State) p => (x.changeList p).followGates p) s

/-- A frame's form on leaving a port (R427): tagged or untagged as the VLAN says; the priority stays. -/
def egressFrame (f : Frame) (pcp : Fin 8) (vid : BitVec 12) (untag : Bool) : Frame :=
  match untag, f.tag with
  | true, some _ => { f with tag := none, len := f.len - 4 }
  | true, none => f
  | false, some _ => { f with tag := some (pcp, vid) }
  | false, none => { f with tag := some (pcp, vid), len := f.len + 4 }

/-- Put one copy of a frame on a port of its VLAN. -/
def State.sendOn (s : State) (p : Fin 3) (f : Frame) (pcp : Fin 8) (vid : BitVec 12) (untagged : Nat) (cut : Bool)
    (pub : Option Nat) (buf : Nat) : State :=
  let tcN := s.pAt 1 0x15 p 0x18 pcp.val
  let tc : Fin 8 := ⟨tcN % 8, by omega⟩
  let g := egressFrame f pcp vid (natBit untagged p.val)
  s.enqueue p { frame := g, tc := tc, cells := cellsOf g.len, cut := cut, ptp := false, pub := pub, buf := buf }

/-- The ports an own or received frame leaves by, without its ingress: the table's entry, or every member port (R428). A
multicast address other than broadcast without an entry goes nowhere. -/
def egressPorts (s : State) (f : Frame) (vid : BitVec 12) (members : Nat) (ingress : Option (Fin 3)) : List (Fin 3) :=
  let known := macLookup s f.dst vid
  allPorts.filter (fun p =>
    natBit members p.val && ingress != some p &&
    (f.rtag.isSome || !portRestricted s p) &&
    (match known with
     | some ports => ports.getLsbD p.val
     | none => !isGroup f.dst || f.dst == 0xFFFFFFFFFFFF))

/-- Send a frame of the device's own (R426, R439): an express frame takes an R-TAG and leaves on both ring ports, and on the
other ports as its destination requires; every other frame leaves as the table says, and a HELLO on every port. -/
def State.sendOwn (s : State) (dst : BitVec 48) (express : Bool) (payload : List Byte) (pub : Option Nat) : State :=
  let pcpN := if express then s.p 1 0x16 0 0x0E else s.p 1 0x16 0 0x0F
  let pcp : Fin 8 := ⟨pcpN % 8, by omega⟩
  let vid : BitVec 12 := BitVec.ofNat 12 (s.p 2 0x17 0 0x04)
  let len := max 64 (12 + 4 + (if express then 6 else 0) + 2 + payload.length + 4)
  let f : Frame := { dst := dst, src := deviceMac s, tag := some (pcp, vid),
                     rtag := if express then some s.sw.ownSeq else none,
                     etype := BitVec.ofNat 16 (s.p 2 0x17 0 0x03), payload := payload, len := len, fcsOk := true }
  match vlanOf s vid.toNat with
  | none => s
  | some (members, untagged) =>
    -- PUB_PORTS selects the ports of the device's own PUB frames (R270)
    let open_ (p : Fin 3) : Bool := pub.isNone || natBit (s.p 1 0x0E 0 0x09) p.val
    let ring := if express then (ringPorts s).filter (fun (p : Fin 3) => natBit members p.val && open_ p) else []
    let rest := (egressPorts s f vid members none).filter (fun p => !ring.contains p && open_ p)
    let s1 := { s with sw := { s.sw with nextBuf := s.sw.nextBuf + 1,
                                         ownSeq := if express then s.sw.ownSeq + 1 else s.sw.ownSeq } }
    (ring ++ rest).foldl (fun t p => t.sendOn p f pcp vid untagged false pub s.sw.nextBuf) s1

/-- Send an own frame on one port whatever its class's queue order: a topology frame (R483), at PCP 7, without an R-TAG. -/
def State.sendTopo (s : State) (p : Fin 3) (payload : List Byte) : State :=
  let vid : BitVec 12 := BitVec.ofNat 12 (s.p 2 0x17 0 0x04)
  let f : Frame := { dst := gclRing, src := deviceMac s, tag := some (7, vid), rtag := none,
                     etype := BitVec.ofNat 16 (s.p 2 0x17 0 0x03), payload := payload,
                     len := max 64 (12 + 4 + 2 + payload.length + 4), fcsOk := true }
  let s1 := { s with sw := { s.sw with nextBuf := s.sw.nextBuf + 1 } }
  s1.sendOn p f 7 vid 0 false none s.sw.nextBuf

/-- Send a gPTP message of a port's own engine (R433, R444): untagged, at most 90 bytes. -/
def State.sendPtp (s : State) (p : Fin 3) (payload : List Byte) : State :=
  let f : Frame := { dst := 0x0180C200000E, src := deviceMac s, tag := none, rtag := none, etype := 0x88F7,
                     payload := payload, len := max 64 (12 + 2 + payload.length + 4), fcsOk := true }
  let s1 := { s with sw := { s.sw with nextBuf := s.sw.nextBuf + 1 } }
  (s1.enqueue p { frame := f, tc := 7, cells := cellsOf f.len, cut := false, ptp := true, pub := none,
                  buf := s.sw.nextBuf }).portCnt p 15

end Sys2Proof.Machine
end

