-- ==== Sys2Proof/Machine/GclOps.lean ====
section
/-! DEFINITION. The shared operations of Grathiqua Cell Link: own frames, features, the nodes of a master, and authority
(R457 to R466, R473). -/

namespace Sys2Proof.Machine

/-- OPER_VERSION (P17.00.06). -/
def operVersion (s : State) : Nat := s.p 1 0x17 0 0x06

/-- GCL_STATE (P17.00.0A): 0 UNASSIGNED, 1 JOINED, 2 LIMITED, 3 DUPLICATE. -/
def gclState (s : State) : Nat := s.p 1 0x17 0 0x0A

/-- NODE_ADDRESS in effect. -/
def nodeAddress (s : State) : Nat := s.p 2 0x17 0 0x01

/-- AUTH_EPOCH (P17.00.10). -/
def authEpoch (s : State) : Nat := s.p 4 0x17 0 0x10

/-- The master id that holds authority: AUTH_MASTER, or INITIAL_MASTER while AUTH_EPOCH is 0 (R498). -/
def authMaster (s : State) : Nat := if authEpoch s = 0 then s.p 1 0x18 0 0x06 else s.p 1 0x17 0 0x11

/-- The version from which a frame type is sent (R461, R465). -/
def typeVersion (typ : Nat) : Nat :=
  match typ with
  | 0x30 => 0x30 | 0x40 => 0x30 | 0x50 => 0x30 | 0x12 => 0x31 | _ => 0x20

/-- The feature bits available at a version (R465). -/
def featuresAt (v : Nat) : Nat :=
  if v ≥ 0x31 then 0xFF else if v ≥ 0x30 then 0x7F else if v ≥ 0x21 then 0x0F else 0x07

/-- Whether a frame type is of the express class (R461); a publication group's own class decides for PUB. -/
def typeExpress (typ : Nat) : Bool :=
  match typ with
  | 0x10 => true | 0x11 => true | 0x12 => true | 0x30 => true | 0x40 => true | 0x50 => true | _ => false

/-- Add one to counter k of COUNTERS (P17.00.14). -/
def State.gclCnt (s : State) (k : Nat) : State := s.incAt 4 0x17 0 0x14 (4 * k)

/-- The 24-byte GCL header (R460), big-endian. -/
def gclHeader (s : State) (typ dstNode : Nat) (express master : Bool) (masterId tag len : Nat) (seq epoch : Word)
    (kind flags : Nat) : List Byte :=
  [BitVec.ofNat 8 (operVersion s), BitVec.ofNat 8 typ] ++ beBytes 2 (s.p 2 0x17 0 0x02) ++
  beBytes 2 (nodeAddress s) ++ beBytes 2 dstNode ++
  [BitVec.ofNat 8 ((if express then 0x80 else 0) + (if master then 0x40 else 0) + masterId), BitVec.ofNat 8 tag] ++
  beBytes 2 len ++ beBytes 4 seq.toNat ++ beBytes 4 epoch.toNat ++
  [BitVec.ofNat 8 kind, BitVec.ofNat 8 flags, 0, 0]

/-- What an own frame names: its type and subtype, its destination, the master it is directed to, its tag, and the
STREAM_SEQ it carries in place of the count of own frames (R461). -/
structure OwnFrame where
  typ : Nat
  kind : Nat
  flags : Nat
  dst : BitVec 48
  dstNode : Nat
  express : Bool
  master : Bool
  masterId : Nat
  tag : Nat
  seq : Option Word
  epoch : Word
  payload : List Byte
  pub : Option Nat
  deriving DecidableEq, Repr

/-- An own frame of a type with its usual fields. -/
def ownFrame (typ kind : Nat) (dst : BitVec 48) (dstNode : Nat) (payload : List Byte) : OwnFrame :=
  { typ := typ, kind := kind, flags := 0, dst := dst, dstNode := dstNode, express := typeExpress typ, master := false,
    masterId := 0, tag := 0xFF, seq := none, epoch := 0, payload := payload, pub := none }

/-- Send an own frame (R457, R461, R466): none whose type needs a feature that OPER_VERSION does not have. -/
def State.sendGcl (s : State) (f : OwnFrame) : State :=
  if operVersion s < typeVersion f.typ then s
  else
    let seq := match f.seq with | some q => q | none => s.gcl.ownSeq
    let h := gclHeader s f.typ f.dstNode f.express f.master f.masterId f.tag f.payload.length seq f.epoch f.kind f.flags
    let s1 := match f.seq with
      | some _ => s
      | none => { s with gcl := { s.gcl with ownSeq := s.gcl.ownSeq + 1 } }
    (s1.gclCnt 1).sendOwn f.dst f.express (h ++ f.payload) f.pub

/-- The two node addresses of a master id in MASTER_NODES (P17.00.0D). -/
def masterNodes (s : State) (m : Nat) : List Nat :=
  [s.pAt 2 0x17 0 0x0D (4 * m), s.pAt 2 0x17 0 0x0D (4 * m + 2)]

/-- A master id is a pair when its entry names two node addresses (R489). -/
def isPair (s : State) (m : Nat) : Bool := (masterNodes s m).all (fun n => decide (n ≤ 4095)) && decide (m ≤ 6)

/-- The member of a pair that a node is (R489). -/
def memberOf (s : State) (m node : Nat) : Nat := if (masterNodes s m).getD 1 0 == node then 1 else 0

/-- The entry of NODE_TABLE for a node that is present. -/
def presentNode (s : State) (n : Nat) : Option NodeEntry := s.gcl.nodes.find? (fun e => e.addr == n && !e.lost)

/-- Where a frame for a master goes (R473): every listed node that is present; when the entry holds 0xFFFE, the node that
sent, by its table entry or its source address. -/
def masterTargets (s : State) (m srcNode : Nat) (srcMac : BitVec 48) : List (BitVec 48 × Nat) :=
  if (masterNodes s m).contains 0xFFFE then
    if srcNode = 0xFFFF then (if srcMac = 0 then [] else [(srcMac, 0xFFFF)])
    else match presentNode s srcNode with
      | some e => [(e.mac, srcNode)]
      | none => if srcMac = 0 then [] else [(srcMac, srcNode)]
  else (masterNodes s m).filterMap (fun n => (presentNode s n).map (fun e => (e.mac, n)))

/-- Send a frame to every target of a master. -/
def State.sendMaster (s : State) (m srcNode : Nat) (srcMac : BitVec 48) (f : BitVec 48 → Nat → OwnFrame) : State :=
  (masterTargets s m srcNode srcMac).foldl (fun t d => t.sendGcl (f d.1 d.2)) s

/-- Whether the epoch of a frame counts: one is in effect, and OPER_VERSION has the feature that brings the check (R464, R465). -/
def epochChecked (s : State) : Bool := authEpoch s != 0 && decide (0x30 ≤ operVersion s)

/-- The sender of a mailbox command is the master holding authority: its endpoint is the one bound to the authority's
master id (R360, R464). Endpoint 0 is no master. -/
def isAuthority (s : State) (ep : Fin 8) : Bool := ep.val == authMaster s + 1 && !s.mbx.stale

/-- The right of R384 to change the configuration. -/
def mayConfigure (s : State) (ep : Fin 8) : Bool :=
  isAuthority s ep || (ep == 0 && s.p 1 0x13 0 0x13 == 1)

/-- The right of R384 to update the firmware. -/
def mayUpdate (s : State) (ep : Fin 8) : Bool :=
  isAuthority s ep || (ep == 0 && s.p 1 0x13 0 0x14 == 1)

end Sys2Proof.Machine
end

