-- ==== Sys2Proof/Machine/MbxOps.lean ====
section
/-! DEFINITION. The shared operations of the mailboxes: buffers, postings, replay windows and completions (R360 to R376). -/

namespace Sys2Proof.Machine

/-! ### The message RAM and its buffers (R369 to R371) -/

/-- What a byte of the message RAM that nothing has written reads as (assumption log 3). -/
def ramReset (_ : Nat) : Byte := 0

/-- The bytes of a message buffer from an offset. -/
def bufBytes (s : State) (buf off n : Nat) : List Byte := cellsReadN ramReset s.mbx.ram (1024 * buf + off) n

/-- Write bytes into a message buffer. -/
def State.writeBuf (s : State) (buf off : Nat) (l : List Byte) : State :=
  { s with mbx := { s.mbx with ram := cellsWriteL ramReset s.mbx.ram (1024 * buf + off) l } }

/-- The state of a buffer, `none` for FREE. -/
def bufState (s : State) (buf : Nat) : Option BufState := (s.mbx.bufs.find? (fun x => x.1 == buf)).map (·.2)

/-- Give a buffer a state, `none` for FREE; the list of buffers that are not free stays in rising order. -/
def bufsSet : List (Nat × BufState) → Nat → Option BufState → List (Nat × BufState)
  | [], k, some v => [(k, v)]
  | [], _, none => []
  | (j, w) :: t, k, v =>
    if k < j then (match v with | some x => (k, x) :: (j, w) :: t | none => (j, w) :: t)
    else if k = j then (match v with | some x => (k, x) :: t | none => t)
    else (j, w) :: bufsSet t k v

/-- Set the state of a buffer. -/
def State.setBuf (s : State) (buf : Nat) (v : Option BufState) : State :=
  { s with mbx := { s.mbx with bufs := bufsSet s.mbx.bufs buf v } }

/-- The endpoint a buffer counts against (R370). -/
def bufOwner : BufState → Nat
  | .held e => e
  | .posted e => e
  | .response e => e

/-- A buffer in HELD or RESPONSE for an endpoint is held by it (R369). -/
def heldBy (s : State) (buf ep : Nat) : Bool :=
  match bufState s buf with
  | some (.held e) => e == ep
  | some (.response e) => e == ep
  | _ => false

/-- The buffers of the general pool that count against an endpoint (R370). -/
def poolCount (s : State) (ep : Nat) : Nat :=
  (s.mbx.bufs.filter (fun x => decide (x.1 < 248) && bufOwner x.2 == ep)).length

/-- The buffers an endpoint holds or has posted. -/
def buffersHeld (s : State) (ep : Nat) : Nat := (s.mbx.bufs.filter (fun x => bufOwner x.2 == ep)).length

/-- The lowest-numbered free buffer from a range. -/
def lowestFree (s : State) (lo n : Nat) : Option Nat :=
  ((List.range n).map (· + lo)).find? (fun k => (bufState s k).isNone)

/-- What a claim grants (R370). -/
def claimGrant (s : State) (ep : Fin 8) : Option Nat :=
  let general := if poolCount s ep < s.p 1 0x13 ep 0x06 then lowestFree s 0 248 else none
  match general with
  | some k => some k
  | none => if ep = 0 then lowestFree s 248 6 else none

/-- A claim: the buffer becomes HELD; a claim that grants nothing counts for MBX-04 and sets DIAG.NO_BUFFER. -/
def State.claim (s : State) (ep : Fin 8) : Option Nat × State :=
  match claimGrant s ep with
  | some k => (some k, s.setBuf k (some (.held ep)))
  | none => (none, (s.orP 0x13 ep 0x15 2).occur (ident .mbx 4) 9 ep)

/-! ### Postings (R362 to R364) -/

/-- The outstanding command of an endpoint with a tag. -/
def findTag (p : Endpoint) (tag : Nat) : Option Outstanding := p.outstanding.find? (fun o => o.tag == tag)

/-- The single-word opcodes that R362 admits. -/
def singleOk (op : Nat) : Bool := [0x0001, 0x0020, 0x0021, 0x00F0, 0x00F2].contains op

/-- A refused posting counts in REFUSED; a QUEUE_FULL counts for MBX-03 and sets DIAG.QUEUE_FULL (R387, R388). -/
def State.refusePosting (s : State) (ep : Fin 8) (code : BitVec 16) : State :=
  let s1 := s.inc 4 0x13 ep 0x0E
  if code = rcQueueFull then (s1.orP 0x13 ep 0x15 1).occur (ident .mbx 3) 9 ep else s1

/-- The checks of R364 on a posting, in their order: `none` accepts it. -/
def postingCheck (s : State) (ep : Fin 8) (form tag opBuf : Nat) : Option (BitVec 16) :=
  let p := s.mbx.eps[ep]
  if !p.opened then some rcLocked
  else if form > 1 || (form == 0 && !singleOk opBuf) then some rcBadParam
  else if p.outstanding.length ≥ 32 then some rcQueueFull
  else if (findTag p tag).isSome then some rcBadTag
  else if form == 1 && !heldBy s opBuf ep then some rcNoBuffer
  else none

/-! ### Completion (R366 to R373) -/

/-- The response of R363 as it lies in the buffer, or that of R381 under version 1.x. -/
def responseBytes (major opcode : Nat) (code : BitVec 16) (payload : List Byte) : List Byte :=
  if major = 1 then leBytes 2 code.toNat ++ leBytes 2 payload.length ++ payload
  else leBytes 2 opcode ++ leBytes 2 code.toNat ++ leBytes 2 payload.length ++ [0, 0] ++ payload

/-- A replay window with a completion entered: the 64 newest stay (R372). -/
def windowPush (w : List ReplayEntry) (e : ReplayEntry) : List ReplayEntry :=
  let v := w ++ [e]
  v.drop (v.length - 64)

/-- The window entry of a completion (R372). -/
def replayEntry (seq : Word) (opcode : Nat) (code : BitVec 16) (payload : List Byte) : ReplayEntry :=
  { seq := seq, opcode := opcode, result := code, payload := payload.take 32, truncated := decide (payload.length > 32) }

/-- The payload of a REPLAYED completion in descriptor form (R373). -/
def replayPayload (e : ReplayEntry) : List Byte :=
  leBytes 2 e.result.toNat ++ [if e.truncated then 1 else 0, 0] ++ e.payload

/-- Put an outstanding command of an endpoint into a phase. -/
def setPhase (tag ph : Nat) (p : Endpoint) : Endpoint :=
  { p with outstanding := p.outstanding.map (fun x => if x.tag == tag then { x with phase := ph } else x) }

/-- Whether every accepted command of an endpoint has been taken up (R379). -/
def allTaken (p : Endpoint) : Bool := p.outstanding.all (fun o => o.phase == 1 || o.phase == 2)

/-- COMMAND_POSTED is cleared when every accepted command of the endpoint has been taken up. -/
def State.clearPosted (s : State) (ep : Fin 8) : State :=
  s.modEp ep (fun p => if allTaken p then { p with h2d := p.h2d &&& ~~~ 1#32 } else p)

/-- The RSP frame of a completion or refusal on endpoints 1 to 7 (R473). -/
def State.sendRsp (s : State) (ep : Fin 8) (tag : Nat) (seq : Word) (opcode : Nat) (code : BitVec 16)
    (payload : List Byte) (srcNode : Nat) (srcMac : BitVec 48) : State :=
  s.sendMaster (ep.val - 1) srcNode srcMac (fun mac node =>
    { ownFrame 0x11 0 mac node (responseBytes 2 opcode code payload) with
      masterId := ep.val - 1, tag := tag, seq := some seq })

/-- Endpoint 0's completions in the order they are shown: under version 1.x a completion waits until every earlier posting
has completed (R381). -/
def State.pushCompletion (s : State) (c : Completion) : State :=
  s.modEp 0 (fun p => { p with completions := p.completions ++ [c] })

/-- Complete a command with a code and a response payload, without its effect on the window. -/
def State.finishRaw (s : State) (q : Req) (opcode : Nat) (code : BitVec 16) (payload : List Byte) (data : Word) : State :=
  let p := s.mbx.eps[q.ep]
  let o := findTag p q.tag
  let single := match o with | some x => x.single | none => true
  let buf := match o with | some x => x.opBuf | none => 0xFF
  let s1 := if single then s
    else s.writeBuf buf 0 (responseBytes (if q.ep = 0 then p.major else 2) opcode code payload)
  if q.ep = 0 then
    let s2 := if single then s1 else s1.setBuf buf (some (.response 0))
    let s3 := s2.modEp 0 (setPhase q.tag 2)
    (s3.pushCompletion { tag := q.tag, seq := q.seq, single := single, opBuf := buf, result := code,
                         data := data }).clearPosted 0
  else
    let s2 := match o with
      | some x => s1.sendRsp q.ep q.tag q.seq opcode code payload x.srcNode x.srcMac
      | none => s1.sendRsp q.ep q.tag q.seq opcode code payload 0xFFFF 0
    let s3 := if single then s2 else s2.setBuf buf none
    (s3.modEp q.ep (fun p => { p with outstanding := p.outstanding.filter (fun x => x.tag != q.tag) })).clearPosted q.ep

/-- Complete a command REPLAYED from a window entry (R373); under version 1.x it is reported as OK with the stored result
(R381). -/
def State.finishReplay (s : State) (q : Req) (e : ReplayEntry) : State :=
  let s1 := s.inc 4 0x13 q.ep 0x0F
  if q.ep = 0 && s.mbx.eps[q.ep].major == 1 then s1.finishRaw q e.opcode 0 e.payload (e.result.setWidth 32)
  else s1.finishRaw q e.opcode rcReplayed (replayPayload e) (e.result.setWidth 32)

/-- An outstanding command that has not completed has a sequence number: a copy of it waits for its completion (R373). -/
def seqRuns (p : Endpoint) (seq : Word) : Bool := p.outstanding.any (fun o => o.seq == seq && o.phase != 2)

/-- The window entry that answers a posting (R373): its number is in the window, and in no command that still runs. -/
def replayOf (p : Endpoint) (seq : Word) : Option ReplayEntry :=
  if seqRuns p seq then none else p.window.find? (fun w => w.seq == seq)

/-- Accept a posting: the tag is outstanding, the buffer POSTED, the command in the execution queue, COMMAND_POSTED set
(R364, R365, R379). A command whose SEQ equals that of an outstanding command waits for it; one whose SEQ is in the window is not
executed and completes REPLAYED in the next cycle (R373). -/
def State.accept (s : State) (ep : Fin 8) (tag : Nat) (seq : Word) (single : Bool) (opBuf opcode phase : Nat)
    (srcNode : Nat) (srcMac : BitVec 48) (epoch : Word) : State :=
  let p := s.mbx.eps[ep]
  let same := seqRuns p seq
  let o : Outstanding := { tag := tag, seq := seq, single := single, opBuf := opBuf, opcode := opcode,
                           phase := if phase = 0 && same then 3 else phase,
                           srcNode := srcNode, srcMac := srcMac, epoch := epoch }
  let s1 := s.modEp ep (fun p => { p with outstanding := p.outstanding ++ [o], h2d := p.h2d ||| 1#32 })
  let s2 := if single then s1 else s1.setBuf opBuf (some (.posted ep))
  let s3 := s2.inc 4 0x13 ep 0x0D
  if o.phase = 0 then
    match replayOf p seq with
    | some e => s3.finishReplay { ep := ep, tag := tag, seq := seq } e
    | none => { s3 with mbx := { s3.mbx with queue := s3.mbx.queue ++ [(ep.val, tag)] } }
  else s3

/-- The commands of an endpoint that wait for a sequence number (R373). -/
def waitersOf (p : Endpoint) (seq : Word) : List Nat :=
  (p.outstanding.filter (fun o => o.phase == 3 && o.seq == seq)).map (·.tag)

/-- Complete a command: the response, the replay window (all codes but ABORTED and REPLAYED, R372), and the waiting copies
with its sequence number, which complete REPLAYED. -/
def State.finish (s : State) (q : Req) (opcode : Nat) (code : BitVec 16) (payload : List Byte) : State :=
  let s1 := s.finishRaw q opcode code payload 0
  if code = rcAborted then
    let s2 := s1.inc 4 0x13 q.ep 0x10
    -- a copy that waited for an aborted command runs in its place (R376)
    match waitersOf (s2.mbx.eps[q.ep]) q.seq with
    | [] => s2
    | t :: _ =>
      let s3 := s2.modEp q.ep (setPhase t 0)
      { s3 with mbx := { s3.mbx with queue := s3.mbx.queue ++ [(q.ep.val, t)] } }
  else
    let e := replayEntry q.seq opcode code payload
    let s2 := s1.modEp q.ep (fun p => { p with window := windowPush p.window e })
    (waitersOf (s2.mbx.eps[q.ep]) q.seq).foldl
      (fun t tag => t.finishReplay { ep := q.ep, tag := tag, seq := q.seq } e) s2

/-- Complete a command with what its execution gave. -/
def CmdRes.finish (r : CmdRes) (q : Req) (opcode : Nat) : State := r.st.finish q opcode r.code r.payload

/-- Start a long command (R366): it completes later, with the completion it holds. -/
def CmdRes.startLong (r : CmdRes) (q : Req) (opcode : Nat) : State :=
  let s1 := r.st.modEp q.ep (setPhase q.tag 1)
  let job : LongRun := { ep := q.ep, tag := q.tag, opcode := opcode, result := r.code, payload := r.payload,
                          wait := 0, cursor := none, region := (0, 0), handle := none }
  let m := { s1.mbx with long := s1.mbx.long ++ [job] }
  let s2 := { s1 with mbx := m }
  s2.clearPosted q.ep

end Sys2Proof.Machine
end

