-- ==== Sys2Proof/Machine/Time.lean ====
section
/-! DEFINITION. The time base and the time servo: the meanings of the rows of Cell time, clocks and timestamps (R39 to R67)
and of R444 to R448 as far as they feed the servo. -/

namespace Sys2Proof.Machine

/-! ### The states (R43 to R48) -/

/-- Change the time base. -/
def State.modTb (s : State) (g : TimeBase → TimeBase) : State := { s with tb := g s.tb }

/-- Set bits of TB_EVENT (R67). -/
def State.tbEvent (s : State) (i : Nat) : State := s.modTb (fun t => { t with event := setBit8 t.event i true })

/-- A TIME record of the journal (R535). -/
def State.journalTime (s : State) (old new ev : Nat) (amount : Int) : State :=
  s.journalAt 0x02 (leBytes 1 old ++ leBytes 1 new ++ leBytes 1 ev ++ [0] ++ leBytes 8 (ofSigned 64 amount))

/-- Enter or leave the time-uncertain condition, or change its reason (R47, R48): the instants and the interval
are kept, the doorbell raised. -/
def State.setUncertain (s : State) (reason : BitVec 8) : State :=
  let on := decide (reason ≠ 0)
  let s1 := s.modTb (fun t => { t with reason := reason, uncertain := on })
  if on && !s.tb.uncertain then
    let s2 := s1.modTb (fun t => { t with entryTime := now s, unc := t.unc.start (now s), uncGoodRun := 0 })
    (((s2.tbEvent 1).ringAll 4).journalTime s.tb.state s.tb.state 1 0).helloSoon
  else if !on && s.tb.uncertain then
    let s2 := s1.modTb (fun t => { t with unc := t.unc.finish (now s) })
    (((s2.tbEvent 2).ringAll 4).journalTime s.tb.state s.tb.state 2 0).helloSoon
  else s1

/-- Take a time state (R44): the doorbell, the journal record, the runs counted afresh. FREERUN and ACQUIRE are
time-uncertain, GM_FREE and GM_PPS never are (R47). -/
def State.setTime (s : State) (st : Nat) : State :=
  if st = s.tb.state then s
  else
    let s1 := s.modTb (fun t => { t with state := st, goodRun := 0, badRun := 0, ppsAccepts := 0 })
    let s2 := (((s1.ringAll 4).journalTime s.tb.state st 0 0).devicePoint 0x40 st).helloSoon
    if st = 0 ∨ st = 1 then s2.setUncertain 1
    else if st = 4 ∨ st = 5 then s2.setUncertain 0
    else s2

/-- The last multiple of `ns` at or before a cell time. -/
def gridBefore (t : CellTime) (ns : Nat) : CellTime := BitVec.ofNat 72 (t.toNat / nsUnits ns * nsUnits ns)

/-- An instant of a grid that is reached and not taken yet: after the last one taken, or, once cell time has stepped, not before
where the step led, so that an instant a forward step skips is never taken and one that a backward step passes again is. -/
def freshInstant (s : State) (m : GridMark) (t : CellTime) : Bool :=
  if m.steps = s.tb.steps then decide (m.last.toNat < t.toNat) else decide (s.tb.landed.toNat ≤ t.toNat)

/-- The mark of an instant that is taken now. -/
def markNow (s : State) (t : CellTime) : GridMark := { last := t, steps := s.tb.steps }

/-- The Sync interval in ns (R63). -/
def syncInterval (s : State) : Nat := logSeconds (s.pI 1 0x04 0 0x0E)

/-- The last Sync interval boundary at or before an instant (R63). -/
def syncBoundary (s : State) (t : CellTime) : CellTime :=
  gridBefore t (syncInterval s)

/-- Step the counter by a signed amount in 1/256 ns (R45, R434). -/
def State.stepTime (s : State) (amount : Int) : State :=
  let c : BitVec 96 := s.tb.counter + BitVec.ofInt 96 (amount * 2 ^ 24)
  let s1 := s.modTb (fun t => { t with
    counter := c, steps := t.steps + 1, landed := ctOf c, unc := t.unc.stepped (now s) (ctOf c), boundary := syncBoundary s (ctOf c) })
  ((s1.tbEvent 0).journalTime s.tb.state s.tb.state 3 (amount / 256)).stepGates

/-- The rate the servo steers to: a demand beyond ±200 ppm is clamped, with RATE_CLAMP and TB-03 (R42, R66, R67). -/
def State.steer (s : State) (demand : Int) : State :=
  if demand > 858993 then ((s.modTb (fun t => { t with rate := 858993 })).tbEvent 7).raise (ident .tb 3) 0 0
  else if demand < -858993 then ((s.modTb (fun t => { t with rate := -858993 })).tbEvent 7).raise (ident .tb 3) 0 0
  else s.modTb (fun t => { t with rate := demand })

/-- Picoseconds in units of 1/256 ns, rounded to the nearest (R41). -/
def psUnits (ps : Int) : Int := (ps * 512 + 1000) / 2000

/-- UNCERTAIN_BOUND in 1/256 ns. -/
def uncBound (s : State) : Int := s.p 4 0x04 0 0x05 * 256

/-- STEP_THRESHOLD in 1/256 ns. -/
def stepThreshold (s : State) : Int := s.p 4 0x04 0 0x0F * 256

/-- The holdover error estimate in 1/256 ns (R46). -/
def holdoverEstimate (s : State) : Int :=
  (s.tb.offset.natAbs : Int) +
    ((s.p 4 0x04 0 0x10 * 256 * (s.tb.mono - s.tb.lastUpdate).toNat / (2 ^ 32 * 1000000000) : Nat) : Int)

/-- OFFSET_EST as it reads (R46, P04.00.03): the estimate in the holdover states, saturated. -/
def offsetEst (s : State) : Int :=
  let v := if s.tb.state = 3 ∨ s.tb.state = 6 then holdoverEstimate s else s.tb.offset
  max (-0x7FFFFFFF) (min 0x7FFFFFFF v)

/-- The clock class advertised (R53); that a PPS_TOD_SECONDS write was applied is kept until reset (DESIGN CHOICE, assumption
log 18). -/
def clockClass (s : State) : Nat :=
  if s.tb.todApplied ∧ s.tb.state = 5 then 6 else if s.tb.todApplied ∧ s.tb.state = 6 then 7 else 248

/-- The time-uncertain evaluation of an update in LOCKED (R47). -/
def State.lockedUncertain (s : State) (off : Int) : State :=
  if uncBound s < off.natAbs then (s.setUncertain 2).modTb (fun t => { t with uncGoodRun := 0 })
  else if s.tb.uncertain then
    if s.tb.uncGoodRun + 1 ≥ 16 then s.setUncertain 0
    else s.modTb (fun t => { t with uncGoodRun := t.uncGoodRun + 1 })
  else s

/-- One servo update with an offset in 1/256 ns and the rate the loop demands (R44, R47). The loop's own coefficients are
not stated, so its demand comes with the command. An update that steps starts the run of good updates again (DESIGN CHOICE,
assumption log 18). -/
def State.servoUpdate (s : State) (off demand : Int) : State :=
  let s1 := (s.steer demand).modTb (fun t => { t with offset := off, lastUpdate := t.mono })
  match s.tb.state with
  | 1 =>
    if stepThreshold s < off.natAbs then (s1.stepTime (-off)).modTb (fun t => { t with goodRun := 0 })
    else if uncBound s < off.natAbs then s1.modTb (fun t => { t with goodRun := 0 })
    else if s.tb.goodRun + 1 ≥ 16 then (s1.setTime 2).setUncertain 0
    else s1.modTb (fun t => { t with goodRun := t.goodRun + 1 })
  | 2 =>
    if stepThreshold s < off.natAbs then
      if s.tb.badRun + 1 ≥ 3 then (s1.setTime 1).stepTime (-off)
      else (s1.modTb (fun t => { t with badRun := t.badRun + 1 })).lockedUncertain off
    else (s1.modTb (fun t => { t with badRun := 0 })).lockedUncertain off
  | 3 =>
    if stepThreshold s < off.natAbs then (s1.setTime 1).stepTime (-off)
    else
      let s2 := s1.setTime 2
      if uncBound s < off.natAbs then (s2.setUncertain 2).modTb (fun t => { t with uncGoodRun := 0 })
      else s2.setUncertain 0
  | _ => s1

/-! ### gPTP messages (R444, R447) -/

/-- A gPTP message of a type and a length; the fields are those of IEEE 802.1AS, which the spec does not lay down
(assumption log 20). -/
def ptpMessage (typ len : Nat) : List Byte := BitVec.ofNat 8 (0x10 + typ) :: List.replicate (len - 1) 0

/-- Send Sync and Follow_Up on every master port but one (R444, R447). -/
def State.sendSync (s : State) (except : Option (Fin 3)) : State :=
  (allPorts.filter (fun p => s.ports[p].ptpRole == 1 && except != some p)).foldl
    (fun t p => (t.sendPtp p (ptpMessage 0x0 44)).sendPtp p (ptpMessage 0x8 76)) s

/-- R44, R447: a Sync on the slave port drives one servo update and is relayed on every master port; a Sync on any other
port is neither used nor relayed. `rx` is the instant of its start-of-frame delimiter, `gm` the grandmaster time it carries
in 1/256 ns. -/
def execGptpSyncReceived (p : Fin 3) (rx : CellTime) (gm demand : Int) (s : State) : Host.Outcome State Fault Refusal :=
  let s1 := s.portCnt p 15
  if s.tb.port = some p ∧ s.ports[p].asCapable ∧ (s.tb.state = 1 ∨ s.tb.state = 2 ∨ s.tb.state = 3) then
    let delay := psUnits (s.p 4 0x15 p 0x0C) + psUnits (s.pI 4 0x15 p 0x09)
    let off := ((ctGrid rx).toNat : Int) - (gm + delay)
    let s2 := { s1 with sw := { s1.sw with syncRx := s1.sw.syncRx + 1 } }
    .next ((s2.servoUpdate off demand).sendSync (some p))
  else .next s1

/-- R44: no Sync for 3 Sync intervals. -/
def execSyncLossTimeout (s : State) : Host.Outcome State Fault Refusal :=
  if elapsed s s.tb.lastUpdate (3 * syncInterval s) then
    if s.tb.state = 2 then .next (s.setTime 3)
    else if s.tb.state = 1 then .next (s.setTime 0)
    else .next s
  else .next s

/-- The clock identity made from DEVICE_MAC (R444). -/
def clockIdentity (s : State) : BitVec 64 :=
  let m := deviceMac s
  ((m >>> 24).setWidth 24 ++ 0xFFFE#16 ++ m.setWidth 24 : BitVec 64)

/-- Take a grandmaster's identity: a change sets GM_CHANGE (R67). -/
def State.setGm (s : State) (gm : BitVec 64) (steps : BitVec 16) (port : Option (Fin 3)) : State :=
  let s1 := s.modTb (fun t => { t with gmIdentity := gm, stepsRemoved := steps, port := port })
  if gm = s.tb.gmIdentity then s1 else s1.tbEvent 4

/-- The gPTP role of each port after a selection: the slave port, masters on every other asCapable port, the rest
disabled (P15.pp.0F). -/
def State.ptpRoles (s : State) (slave : Option (Fin 3)) : State :=
  { s with ports := s.ports.mapFinIdx (fun i q h =>
      { q with ptpRole := if slave = some ⟨i, h⟩ then 2 else if q.asCapable then 1 else 0 }) }

/-- A servo that starts to converge: the time without Sync counts from now. -/
def State.toAcquire (s : State) : State := (s.setTime 1).modTb (fun t => { t with lastUpdate := t.mono })

/-- The outcome of the best-master selection (R44, R448). -/
def State.selectMaster (s : State) (c : MasterChoice) : State :=
  match c with
  | .self =>
    if s.p 1 0x04 0 0x06 = 1 then
      let s1 := (s.setGm (clockIdentity s) 0 none).ptpRoles none
      if s.tb.state ≤ 3 then s1.setTime 4 else s1
    else s
  | .noneFound =>
    let s1 := (s.modTb (fun t => { t with port := none })).ptpRoles none
    if s.tb.state = 1 then s1.setTime 0
    else if s.tb.state ≥ 4 ∧ s.p 1 0x04 0 0x06 = 0 then s1.setTime 0
    else s1
  | .other p gm steps =>
    if s.ports[p].asCapable then
      let s1 := (s.setGm gm steps (some p)).ptpRoles (some p)
      if s.tb.state = 0 ∨ s.tb.state ≥ 4 then s1.toAcquire
      else if (s.tb.state = 2 ∨ s.tb.state = 3) ∧ gm ≠ s.tb.gmIdentity then s1.toAcquire
      else s1
    else s

/-- R44: best-master selection chooses. -/
def execBestMasterChange (c : MasterChoice) (s : State) : Host.Outcome State Fault Refusal := .next (s.selectMaster c)

/-- The Announce interval in ns (R444). -/
def announceInterval (s : State) : Nat := logSeconds (s.pI 1 0x16 0 0x16)

/-- R448: the Announce information of a port expires 3 Announce intervals after its receipt and the selection runs again. -/
def execAnnounceReceiptTimeout (p : Fin 3) (c : MasterChoice) (s : State) : Host.Outcome State Fault Refusal :=
  if s.ports[p].announceRx.any (fun t => elapsed s t (3 * announceInterval s)) then
    let s1 := s.modPort p (fun k => { k with announceRx := none })
    let s2 := if s.tb.port = some p then s1.modTb (fun t => { t with port := none }) else s1
    .next (s2.selectMaster c)
  else .next s

/-- R47: the holdover error estimate is compared with UNCERTAIN_BOUND. -/
def execHoldoverEvaluation (s : State) : Host.Outcome State Fault Refusal :=
  if (s.tb.state = 3 ∨ s.tb.state = 6) ∧ uncBound s < holdoverEstimate s then .next (s.setUncertain 4)
  else .next s

/-! ### PPS_IN and PPS_OUT (R51 to R54) -/

/-- The counter that no step moves, at an instant of local cell time since the last step. -/
def monoAt (s : State) (t : CellTime) : BitVec 96 := s.tb.mono - (s.tb.counter - t.setWidth 96 <<< 24)

/-- Whether a TDC that captured an edge at one instant has not re-armed at another (R62): 40 ns have not passed. -/
def tdcBlind (last : Option (BitVec 96)) (t : BitVec 96) : Bool :=
  last.any (fun l => decide ((t - l).toNat < 40 * 2 ^ 32))

/-- One second in 1/256 ns. -/
def secondUnits : Nat := 256000000000

/-- The whole second nearest to an instant, in seconds. -/
def nearestSecond (t : CellTime) : Nat := (t.toNat + secondUnits / 2) / secondUnits

/-- R51, R52: TDH0 captures an edge of the selected polarity; GM_FREE with GM_SOURCE 1 steps so that the edge becomes a
whole second and takes GM_PPS; in GM_PPS and its holdover the edge is accepted within 10 µs of the predicted second, or
counted and ignored. `demand` is what the servo steers to on an accepted edge. Outside GM_PPS and its holdover an edge uses up
a seconds value written before it (R52: "since the last edge"). -/
def execPpsInEdge (falling : Bool) (t : CellTime) (demand : Int) (s : State) : Host.Outcome State Fault Refusal :=
  if (s.p 1 0x04 0 0x0B == 1) != falling then .next s
  else
    let cap := ctGrid t - BitVec.ofNat 72 (nsUnits (s.p 2 0x04 0 0x14))
    if tdcBlind s.tb.ppsArm (monoAt s t) then .next s
    else
      let s1 := s.modTb (fun b => { b with ppsIn := cap, ppsArm := some (monoAt s t) })
      let unasked := s1.modTb (fun b => { b with todPending := none })
      let sec := nearestSecond cap
      let diff : Int := (cap.toNat : Int) - sec * secondUnits
      match s.tb.state with
      | 4 =>
        if s.p 1 0x04 0 0x0A = 1 then
          let v := match s.tb.todPending with | some v => v.toNat | none => sec
          let s2 := s1.stepTime ((v : Int) * secondUnits - cap.toNat)
          let s3 := s2.modTb (fun b => { b with
            todApplied := b.todApplied || b.todPending.isSome, todPending := none, offset := 0, lastUpdate := b.mono })
          .next (s3.setTime 5)
        else .next unasked
      | 5 =>
        if diff.natAbs ≤ nsUnits 10000 then
          let s2 := (s1.steer demand).modTb (fun b => { b with offset := diff, lastUpdate := b.mono })
          match s.tb.todPending with
          | none => .next s2
          | some v =>
            let s3 := s2.stepTime (((v.toNat : Int) - sec) * secondUnits)
            .next (s3.modTb (fun b => { b with todApplied := true, todPending := none }))
        else .next ((s1.inc 4 0x04 0 0x1E).tbEvent 6)
      | 6 =>
        if diff.natAbs ≤ nsUnits 10000 then
          let s2 := s1.modTb (fun b => { b with offset := diff, lastUpdate := b.mono, ppsAccepts := b.ppsAccepts + 1 })
          if s2.tb.ppsAccepts ≥ 3 then .next ((s2.steer demand).setTime 5) else .next s2
        else .next (((s1.inc 4 0x04 0 0x1E).tbEvent 6).modTb (fun b => { b with ppsAccepts := 0 }))
      | _ => .next unasked

/-- R51: no edge accepted for 2.5 s. -/
def execPpsLostTimeout (s : State) : Host.Outcome State Fault Refusal :=
  if s.tb.state = 5 ∧ elapsed s s.tb.lastUpdate 2500000000 then .next ((s.setTime 6).tbEvent 5) else .next s

/-- Where local cell time stands in the second that PPS_OUT_OFFSET shifts, in 1/256 ns. -/
def ppsPhase (s : State) : Nat :=
  (((now s).toNat : Int) - s.pI 2 0x04 0 0x13 * 256).emod secondUnits |>.toNat

/-- R54: the pulse rises at a whole second plus offset, within 2 ns, when the mode allows. -/
def execPpsOutRise (s : State) : Host.Outcome State Fault Refusal :=
  let ph := ppsPhase s
  let mode := s.p 1 0x04 0 0x11
  if s.tb.ppsOut = false ∧ (ph ≤ nsUnits 2 ∨ secondUnits - nsUnits 2 ≤ ph) ∧ (mode = 1 ∨ (mode = 2 ∧ s.tb.uncertain = false)) then
    .next (s.modTb (fun t => { t with ppsOut := true, ppsRiseAt := ctOf t.mono }))
  else .next s

/-- R54: the pulse falls PPS_OUT_WIDTH after its rise, whatever step came between, and 1 µs before the next rising edge at
the latest. -/
def execPpsOutFall (s : State) : Host.Outcome State Fault Refusal :=
  let high := (ctOf s.tb.mono - s.tb.ppsRiseAt).toNat
  if s.tb.ppsOut ∧ (nsUnits (s.p 4 0x04 0 0x12 * 1000) ≤ high ∨
      (nsUnits 1000 ≤ high ∧ secondUnits - nsUnits 1000 ≤ ppsPhase s)) then
    .next (s.modTb (fun t => { t with ppsOut := false }))
  else .next s

/-- The committed changes of ROLE, PRIORITY1, PRIORITY2, DOMAIN and LOG_SYNC_INTERVAL take effect (R63); the boundaries are
those of the new interval from here on. -/
def State.takeRole (s : State) : State :=
  let s1 := { s with dict := s.tb.pendingRole.foldl (fun (m : Store) (c : Host.Cell) => cellsWrite parReset m c.1 c.2) s.dict }
  s1.modTb (fun t => { t with pendingRole := [], boundary := syncBoundary s1 (now s) })

/-- R63: local cell time has come to a Sync interval boundary since the last one: committed changes whose apply instant does not
lie after it take effect; a grandmaster sends its Sync. -/
def execSyncIntervalBoundary (s : State) : Host.Outcome State Fault Refusal :=
  let at_ := syncBoundary s (now s)
  if at_ = s.tb.boundary then .next s
  else
    let s1 := s.modTb (fun t => { t with boundary := at_ })
    let s2 := if s.tb.pendingRole ≠ [] ∧ reached s.tb.pendingAt at_ then s1.takeRole else s1
    .next (if s.tb.state ≥ 4 then s2.sendSync none else s2)

/-- A dedicated attribute write: the sender's right first (R384, R395). -/
def guardWrite (s : State) (q : Req) (r : CmdRes) : CmdRes :=
  if mayConfigure s q.ep then r else refuse s rcNotAuthority

/-- The opcode of SET_PARAM (R383). -/
def opSetParam : Nat := 0x0011

/-- R45: EPOCH_SET steps the count to the written value in GM_FREE, and is READ_ONLY elsewhere (P04.00.0D). -/
def epochSet (s : State) (v : BitVec 64) : CmdRes :=
  if s.tb.state = 4 then
    okRes ((s.setP 8 0x04 0 0x0D v.toNat).stepTime ((v.toNat : Int) * 256 - (now s).toNat))
  else refuse s rcReadOnly

/-- R45: a write of P04.00.0D. -/
def execEpochSet (q : Req) (v : BitVec 64) (s : State) : Host.Outcome State Fault Refusal :=
  .next ((guardWrite s q (epochSet s v)).finish q opSetParam)

/-- R52: the seconds value waits for the next accepted edge. -/
def ppsTodSeconds (s : State) (v : BitVec 64) : CmdRes :=
  okRes ((s.setP 8 0x04 0 0x0C v.toNat).modTb (fun t => { t with todPending := some v }))

/-- R52: a write of PPS_TOD_SECONDS. -/
def execPpsTodSeconds (q : Req) (v : BitVec 64) (s : State) : Host.Outcome State Fault Refusal :=
  .next ((guardWrite s q (ppsTodSeconds s v)).finish q opSetParam)

/-- R448: the Announce message of a port, sent every 2^LOG_ANNOUNCE_INTERVAL s on a master port (R444). -/
def execAnnounceInterval (p : Fin 3) (s : State) : Host.Outcome State Fault Refusal :=
  if s.ports[p].ptpRole = 1 ∧ sinceLast s s.ports[p].announceAt (announceInterval s) then
    .next ((s.modPort p (fun k => { k with announceAt := some s.tb.mono })).sendPtp p (ptpMessage 0xB 76))
  else .next s

end Sys2Proof.Machine
end

