-- ==== Sys2Proof/Machine/Operands.lean ====
section
/-! DEFINITION. The operands that several families read: the mode and range of a universal channel, the members and banks of
a coppice group, the value and rank of an output's sources (R29, R68, R71, R189). -/

namespace Sys2Proof.Machine

/-- A quotient rounded to the nearest, ties away from zero (R73, R131); 0 for a divisor 0. -/
def roundDiv (n d : Int) : Int :=
  if d = 0 then 0
  else
    let a := n.natAbs
    let b := d.natAbs
    let q : Int := ((2 * a + b) / (2 * b) : Nat)
    if (n < 0) = (d < 0) then q else -q

/-- The number of an output stage (R134): 0 AOC_24, 1 AOV_10, 2 AOV_B10. -/
def stageOf (m : Nat) : Nat := m - 9

/-- The DAC target of a setpoint with a channel's trim (R131); without a trim the setpoint itself. -/
def dacOf (trim : List Int) (m : Nat) (v : Int) : Int :=
  match (trim.drop (4 * stageOf m)).take 4 with
  | [s1, a1, s2, a2] => if a2 = a1 then v else s1 + roundDiv ((v - a1) * (s2 - s1)) (a2 - a1)
  | _ => v

/-! ### Output sources (R29) -/

/-- The rank of the strongest active source, which is also the code of BKC_OUT_SRC. -/
def OutSrc.rank (o : OutSrc) : Nat :=
  if o.safe.isSome then 1 else if o.auton.isSome then 2 else if o.force.isSome then 3 else if o.sched.isSome then 4 else 5

/-- The value of the strongest active source. -/
def OutSrc.value (o : OutSrc) : Int := (((o.safe.or o.auton).or o.force).or o.sched).getD o.imm

/-! ### Universal channels (R68, R71) -/

/-- The mode a bank holds for a channel. -/
def uMode (s : State) (u : Fin 16) : Nat := s.b (bankOfU u) 1 0x06 u 0x01

/-- The mode in effect on the logic side. -/
def uModeL (s : State) (u : Fin 16) : Nat := s.p 1 0x06 u 0x01

/-- DI1 or DI3. -/
def isDi (m : Nat) : Bool := m == 1 || m == 2

/-- An analogue input mode. -/
def isAi (m : Nat) : Bool := 4 ≤ m && m ≤ 8

/-- A voltage input mode. -/
def isAiv (m : Nat) : Bool := 4 ≤ m && m ≤ 6

/-- An analogue output mode. -/
def isAo (m : Nat) : Bool := 9 ≤ m && m ≤ 11

/-- A mode with an output: DO or an analogue output. -/
def isOutMode (m : Nat) : Bool := m == 3 || isAo m

/-- A mode whose converter delivers samples. -/
def isAnalogue (m : Nat) : Bool := isAi m || isAo m

/-- The lower range end in µV or nA. -/
def rangeLow (m : Nat) : Int :=
  match m with
  | 4 => -10000000 | 8 => 4000000 | 11 => -10000000 | _ => 0

/-- The upper range end in µV or nA. -/
def rangeHigh (m : Nat) : Int :=
  match m with
  | 3 => 1 | 4 => 10000000 | 5 => 10000000 | 6 => 5000000 | 7 => 20000000 | 8 => 20000000 | 9 => 24000000
  | 10 => 10000000 | 11 => 10000000 | _ => 0

/-- The span in µV or nA. -/
def spanOf (m : Nat) : Int := rangeHigh m - rangeLow m

/-- The measurable limits of an analogue mode in µV or nA (R71). -/
def measLimits (m : Nat) : Int × Int :=
  match m with
  | 4 => (-10500000, 10500000) | 5 => (-500000, 10500000) | 6 => (-250000, 5250000) | 7 => (-1000000, 24000000)
  | 8 => (-1000000, 24000000) | 9 => (-1000000, 25000000) | 10 => (-500000, 10500000) | _ => (-10500000, 10500000)

/-- Whether a value lies in the range of an output mode (R92, R97). -/
def inRange (m : Nat) (v : Int) : Bool := isOutMode m && decide (rangeLow m ≤ v) && decide (v ≤ rangeHigh m)

/-- The immediate-command value from reset or a mode change (R96). -/
def uImmediate (mode safeMode : Nat) (safeValue : Int) : Int :=
  if safeMode = 0 then safeValue else if mode = 9 ∨ mode = 10 then rangeLow mode else 0

/-- SAFE_MODE and SAFE_VALUE that the bank holds for a channel. -/
def uSafe (s : State) (u : Fin 16) : Nat × Int :=
  (s.b (bankOfU u) 1 0x06 u 0x10, s.bI (bankOfU u) 4 0x06 u 0x11)

/-- The immediate-command value of a channel after a mode change. -/
def uImmediateOf (s : State) (u : Fin 16) : Int := uImmediate (uMode s u) (uSafe s u).1 (uSafe s u).2

/-! ### Load switches and coppice groups (R189) -/

/-- The four groups. -/
def allGroups : List (Fin 4) := [0, 1, 2, 3]

/-- The eight load switches. -/
def allLs : List (Fin 8) := [0, 1, 2, 3, 4, 5, 6, 7]

/-- The sixteen universal channels. -/
def allU : List (Fin 16) := [0, 1, 2, 3, 4, 5, 6, 7, 8, 9, 10, 11, 12, 13, 14, 15]

/-- The universal channels of a bank. -/
def bankU (b : Fin 4) : List (Fin 16) := ([0, 1, 2, 3] : List (Fin 4)).map (uOf b)

/-- The load switches of a bank. -/
def bankL (b : Fin 4) : List (Fin 8) := ([0, 1] : List (Fin 2)).map (lOf b)

/-- The fast inputs of a bank. -/
def bankF (b : Fin 4) : List (Fin 8) := ([0, 1] : List (Fin 2)).map (fOf b)

/-- The members of a group as a bank holds them. -/
def membersB (s : State) (b g : Fin 4) : Nat := s.b b 1 0x0B g 0x01

/-- The members of a group in effect on the logic side. -/
def membersOf (s : State) (g : Fin 4) : Nat := s.p 1 0x0B g 0x01

/-- The group of which a load switch is a member, as its bank holds it. -/
def lGroup (s : State) (l : Fin 8) : Option (Fin 4) :=
  allGroups.find? (fun g => natBit (membersB s (bankOfL l) g) l.val)

/-- The group of a load switch on the logic side. -/
def lGroupL (s : State) (l : Fin 8) : Option (Fin 4) := allGroups.find? (fun g => natBit (membersOf s g) l.val)

/-- The members of a group in one bank. -/
def membersIn (s : State) (b g : Fin 4) : List (Fin 8) := (bankL b).filter (fun l => natBit (membersB s b g) l.val)

/-- The banks of a bit mask of members. -/
def banksOfMask (m : Nat) : List (Fin 4) := allBanks.filter (fun b => natBit m (2 * b.val) || natBit m (2 * b.val + 1))

/-- The member banks of a group. -/
def groupBanks (s : State) (g : Fin 4) : List (Fin 4) := banksOfMask (membersOf s g)

/-- A group whose members lie in more than one bank. -/
def isCross (s : State) (g : Fin 4) : Bool := decide ((groupBanks s g).length > 1)

/-- The common launch instant of a change decided now: none for a group within one bank (R193). -/
def groupLaunch (s : State) (g : Fin 4) : Option CellTime :=
  if isCross s g then some (ctAddNs (now s) (s.p 2 0x0B g 0x10 * 1000)) else none

/-- The sources that decide a load switch: its group's, or its own (R190). -/
def lSrc (s : State) (l : Fin 8) : OutSrc :=
  match lGroup s l with
  | some g => ((s.banks[bankOfL l]).groups[g]).src
  | none => s.l[l].src

/-- SAFE_MODE and SAFE_VALUE of a load switch alone. -/
def lSafe (s : State) (l : Fin 8) : Nat × Int := (s.b (bankOfL l) 1 0x0A l 0x1D, s.b (bankOfL l) 1 0x0A l 0x1E)

/-- SAFE_MODE and SAFE_VALUE of a group as a bank holds them. -/
def gSafe (s : State) (b g : Fin 4) : Nat × Int := (s.b b 1 0x0B g 0x0D, s.b b 1 0x0B g 0x0E)

/-- The immediate-command value from reset of a load switch or group (R173). -/
def lImmediate (p : Nat × Int) : Int := if p.1 = 0 then p.2 else 0

/-- The value a safe state gives an output whose sources show a value (R96, R173). -/
def safeValue (p : Nat × Int) (shown : Int) : Int := if p.1 = 0 then p.2 else shown

/-- The active members of a group as the logic side knows them: ACTIVE_MEMBERS. -/
def activeMembers (s : State) (g : Fin 4) : List (Fin 8) := allLs.filter (fun l => natBit (s.p 1 0x0B g 0x14) l.val)

/-- The active members of a group in one bank: those whose exclusion hold is not set. -/
def activeIn (s : State) (b g : Fin 4) : List (Fin 8) := (membersIn s b g).filter (fun l => !(s.l[l].status.getLsbD 11))

/-- Whether a group has members in more than one bank, as a bank knows it. -/
def crossB (s : State) (b g : Fin 4) : Bool := decide ((banksOfMask (membersB s b g)).length > 1)

/-- The number of set bits of a byte. -/
def popCount (m : Nat) : Nat := ((List.range 8).filter (natBit m)).length

end Sys2Proof.Machine
end

