-- ==== Sys2Proof/Machine/Flags.lean ====
section
/-! DEFINITION. The status and event bits of the channels and groups: a STATUS bit shows a live condition, and DIAG keeps it
from when it is first seen (R104, R206, R208, R239). -/

namespace Sys2Proof.Machine

/-- Set or clear a STATUS bit of a universal channel; a set bit is also kept in DIAG. -/
def State.uFlag (s : State) (u : Fin 16) (i : Nat) (on : Bool) : State :=
  s.modU u (fun k => { k with status := setBit16 k.status i on, diag := if on then setBit16 k.diag i true else k.diag })

/-- Set or clear a STATUS bit without an event. -/
def State.uLive (s : State) (u : Fin 16) (i : Nat) (on : Bool) : State :=
  s.modU u (fun k => { k with status := setBit16 k.status i on })

/-- Set a DIAG bit of a universal channel. -/
def State.uDiag (s : State) (u : Fin 16) (i : Nat) : State := s.modU u (fun k => { k with diag := setBit16 k.diag i true })

/-- A STATUS bit of a universal channel. -/
def uBit (s : State) (u : Fin 16) (i : Nat) : Bool := s.u[u].status.getLsbD i

/-- Set or clear a STATUS bit of a load switch; a set bit is also kept in DIAG. -/
def State.lFlag (s : State) (l : Fin 8) (i : Nat) (on : Bool) : State :=
  s.modL l (fun k => { k with status := setBit16 k.status i on, diag := if on then setBit16 k.diag i true else k.diag })

/-- A STATUS bit of a load switch. -/
def lBit (s : State) (l : Fin 8) (i : Nat) : Bool := s.l[l].status.getLsbD i

/-- Set or clear a STATUS bit of a fast input; a set bit is also kept in DIAG. -/
def State.fFlag (s : State) (f : Fin 8) (i : Nat) (on : Bool) : State :=
  s.modF f (fun k => { k with status := setBit16 k.status i on, diag := if on then setBit16 k.diag i true else k.diag })

/-- A STATUS bit of a fast input. -/
def fBit (s : State) (f : Fin 8) (i : Nat) : Bool := s.f[f].status.getLsbD i

/-- Set or clear a STATUS bit of a coppice group that the logic side decides itself: VF_MISMATCH, BALANCE_LOST, CROSS_BANK, OPEN; a
set bit is also kept in DIAG. -/
def State.gFlag (s : State) (g : Fin 4) (i : Nat) (on : Bool) : State :=
  let v := (setBit16 (BitVec.ofNat 16 (s.p 2 0x0B g 0x02)) i on).toNat
  let s1 := s.setP 2 0x0B g 0x02 v
  if on then s1.setP 2 0x0B g 0x11 (setBit16 (BitVec.ofNat 16 (s1.p 2 0x0B g 0x11)) i true).toNat else s1

/-- A STATUS bit of a coppice group as the logic side shows it. -/
def gBit (s : State) (g : Fin 4) (i : Nat) : Bool := natBit (s.p 2 0x0B g 0x02) i

end Sys2Proof.Machine
end

