-- ==== Sys2Proof/Machine/OutOps.lean ====
section
/-! DEFINITION. Output authority at the terminals: how a change of a source reaches a universal channel, a load switch or a
coppice group, with the holds, the launches and the safe states (R29 to R32, R91, R96, R171 to R173, R184 to R203, R315). -/

namespace Sys2Proof.Machine

/-! ### Universal outputs -/

/-- The DO driver is held off: latched, off after a short until its restart, or its field die too hot (R89 to R91, R587). -/
def doHeld (s : State) (u : Fin 16) : Bool :=
  s.u[u].status.getLsbD 6 || s.u[u].scOff || (s.banks[bankOfU u]).hotDie

/-- The DO driver is on: its sources say so and nothing holds it off. -/
def doOn (s : State) (u : Fin 16) : Bool := decide (s.u[u].src.value ≠ 0) && !doHeld s u

/-- The driver of a DO channel follows its sources and its holds; one that goes off leaves its current limit. The terminal
state is what the comparator reads back (R89), and no part of this. -/
def State.driveDo (s : State) (u : Fin 16) : State :=
  if doOn s u then s
  else (s.modU u (fun k => { k with limitAt := none })).uLive u 5 ((s.banks[bankOfU u]).hotDie)

/-- The value shown at the terminal of a universal output (R96): a DO that is held off shows 0. -/
def uShown (s : State) (u : Fin 16) : Int :=
  if uMode s u = 3 ∧ doHeld s u then 0 else s.u[u].src.value

/-- The DAC of an analogue output is driven to a target (R129, R131): its code is scaled by ρ / ρ_model of the latest slot average;
`dacAt` keeps the instant of a change of the target. -/
def State.driveDac (s : State) (u : Fin 16) (target : Int) (t : CellTime) : State :=
  let rho := 100000000 + (s.banks[bankOfU u]).rhoAvg
  s.modU u (fun k => { k with
    dacTarget := target, dacCode := roundDiv (target * rho) 100000000, dacAt := if target = k.dacTarget then k.dacAt else t })

/-- READBACK_BOUND of a channel in µV or nA (R94). -/
def readbackBound (s : State) (u : Fin 16) : Int := s.b (bankOfU u) 4 0x09 u 0x05 * spanOf (uMode s u) / 1000000

/-- Change the sources of a universal channel (R29, R30): a DO drives, an analogue output takes its new setpoint. -/
def State.setSrcU (s : State) (u : Fin 16) (g : OutSrc → OutSrc) : State :=
  let old := s.u[u].src.value
  let t := bankNow (s.banks[bankOfU u])
  let s1 := s.modU u (fun k => { k with src := g k.src })
  let new := s1.u[u].src.value
  if isAo (uMode s u) then
    if new = old then s1
    else
      let big := decide (readbackBound s u < (new - old).natAbs)
      (s1.modU u (fun k => { k with
        setHistory := ((t, new) :: k.setHistory).take 256, suspendAt := if big then t else k.suspendAt,
        rbSuspend := if big then 4 else k.rbSuspend })).driveDac u (dacOf s.u[u].trim (uMode s u) new) t
  else if uMode s u = 3 then s1.driveDo u
  else s1

/-- A Glade force value in the range of an analogue mode (R92); 0 or 1 for a DO (R290). -/
def clampForce (m : Nat) (v : Int) : Int :=
  if isAo m then max (rangeLow m) (min (rangeHigh m) v) else if v = 0 then 0 else 1

/-- Apply a change of one source to a universal channel. -/
def State.changeU (s : State) (u : Fin 16) (ch : OutChange) : State :=
  match ch with
  | .imm v => s.setSrcU u (fun o => { o with imm := v })
  | .force none => (s.setSrcU u (fun o => { o with force := none })).modU u (fun k => { k with clamped := false })
  | .force (some v) =>
    let c := clampForce (uMode s u) v
    (s.setSrcU u (fun o => { o with force := some c })).modU u (fun k => { k with clamped := isAo (uMode s u) && c != v })
  | .safe true =>
    if s.u[u].src.safe.isSome then s
    else s.setSrcU u (fun o => { o with safe := some (safeValue (uSafe s u) (uShown s u)) })
  | .safe false => s.setSrcU u (fun o => { o with safe := none })
  | .trip _ => s
  | .thermal _ _ => s
  | .locked _ => s

/-! ### Load switches (R171 to R176, R184 to R187) -/

/-- The holds that keep a switch off: retry wait, limit latch, thermal wait, thermal latch, exclusion, reverse current, and
the trip and the thermal hold of its group (R171, R202). -/
def lHeld (s : State) (l : Fin 8) : Bool :=
  let k := s.l[l]
  let grp := match lGroup s l with
    | some g => ((s.banks[bankOfL l]).groups[g]).tripped || ((s.banks[bankOfL l]).groups[g]).thermal
    | none => false
  k.status.getLsbD 2 || k.status.getLsbD 3 || k.status.getLsbD 4 || k.status.getLsbD 5 || k.status.getLsbD 11 ||
    k.reverseHold || grp

/-- Whether the switch is to be on. A member follows its group (R190), a clamp lock stops only the next turn-on (R185), and while
the two dies exchange nothing, the power die holds its own setting (R169). -/
def lWanted (s : State) (l : Fin 8) : Bool :=
  let k := s.l[l]
  let cmd := match lGroup s l with
    | some g => ((s.banks[bankOfL l]).groups[g]).on
    | none => decide (k.src.value ≠ 0)
  let src := if k.dieLost then k.dieHeld else cmd
  src && !lHeld s l && (k.on || !lBit s l 7)

/-- T_SD of a load switch in 10^-6 °C (R182): fixed for the channel within 160 °C to 170 °C. -/
def shutdownAt (l : Fin 8) : Int := 160000000 + (Config.shutdownTemp l.val % 10000001 : Nat)

/-- T_RS of a load switch in 10^-6 °C (R182): fixed for the channel within 140 °C to 150 °C. -/
def restartAt (l : Fin 8) : Int := 140000000 + (Config.restartTemp l.val % 10000001 : Nat)

/-- Both temperatures of a load switch are below T_RS (R182). -/
def lCool (s : State) (l : Fin 8) : Bool := decide (s.l[l].tJ < restartAt l) && decide (s.l[l].tS < restartAt l)

/-- The single-pulse limit in nJ (R187). -/
def pulseMax (tJ0 : Int) : Int := min 300000000 (300 * (175000000 - tJ0) / 90)

/-- The end of a clamp interval (R184, R185, R187). -/
def State.clampEnd (s : State) (l : Fin 8) : State :=
  if lBit s l 13 then
    let k := s.l[l]
    let b := bankOfL l
    let above := decide (pulseMax k.clampJ0 < k.clampE)
    let left := k.budget - k.clampE
    let s1 := (s.lFlag l 13 false).modL l (fun k => { k with
      lastClamp := (k.clampE / 1000).toNat, budget := left, clampE := 0 })
    let s2 := s1.lFlag l 14 above
    let s3 := if above then s2.bankRaise b (ident .lsw 6) 3 l else s2
    if left ≤ 0 ∧ lBit s l 7 = false then (s3.lFlag l 7 true).bankRaise b (ident .lsw 5) 3 l else s3
  else s

/-- The peak limit in mA, the peak time and the ramp time in µs of an inrush profile (R176). -/
def inrushOf (profile limit peak peakTime rampTime : Nat) : Nat × Nat × Nat :=
  match profile with
  | 0 => (limit, 0, 0)
  | 1 => (12000, 20000, 30000)
  | 2 => (6000, 50000, 0)
  | 3 => (8000, 200000, 100000)
  | 4 => (min 9000 (limit * 3 / 2), 5000, 0)
  | _ => (peak, peakTime * 100, rampTime * 100)

/-- The current limit and the inrush profile that govern a switch: the group's for a member (R190). -/
def lProfile (s : State) (l : Fin 8) : Nat × Nat × Nat × Nat :=
  let b := bankOfL l
  match lGroup s l with
  | some g =>
    let lim := s.b b 2 0x0B g 0x05
    (lim, inrushOf (s.b b 1 0x0B g 0x08) lim (s.b b 2 0x0B g 0x09) (s.b b 2 0x0B g 0x0A) (s.b b 2 0x0B g 0x0B))
  | none =>
    let lim := s.b b 2 0x0A l 0x04
    (lim, inrushOf (s.b b 1 0x0A l 0x08) lim (s.b b 2 0x0A l 0x0A) (s.b b 2 0x0A l 0x0B) (s.b b 2 0x0A l 0x0C))

/-- Whether a profile runs for any time after a launch. -/
def hasInrush (s : State) (l : Fin 8) : Bool := let p := lProfile s l; decide (p.2.2.1 + p.2.2.2 > 0)

/-- A turn-on launch, at full gate drive (R172, R176, R184); it is no retry and no thermal restart unless its cause makes it one
(R175, R182). -/
def State.turnOn (s : State) (l : Fin 8) : State :=
  let t := bankNow (s.banks[bankOfL l])
  let inr := hasInrush s l
  let s1 := s.modL l (fun k => { k with
    on := true, launchAt := t, switchCount := k.switchCount + 1, limitTime := 0, limitIdle := 0, gate := 63, retried := false,
    thermRestart := false })
  ((s1.lFlag l 0 true).lFlag l 12 inr).clampEnd l

/-- A turn-off; it ends the profile and the limit timer (R177). -/
def State.turnOff (s : State) (l : Fin 8) : State :=
  let s1 := s.modL l (fun k => { k with on := false, limitTime := 0, limitIdle := 0 })
  ((s1.lFlag l 0 false).lFlag l 1 false).lFlag l 12 false

/-- A switch takes the state its sources and holds now give it. -/
def State.relaunch (s : State) (l : Fin 8) : State :=
  match lWanted s l, s.l[l].on with
  | true, false => s.turnOn l
  | false, true => s.turnOff l
  | _, _ => s

/-! ### Coppice groups (R190 to R203) -/

/-- The bits of STATUS that a member bank sees of a group, in that bank (R208): STATE, OVERLOAD, THERMAL_OFF, REDUCED, SKEW and
TRIPPED. -/
def gLive (s : State) (b g : Fin 4) : BitVec 16 :=
  let k := (s.banks[b]).groups[g]
  let ms := membersIn s b g
  let bit (i : Nat) (on : Bool) (v : BitVec 16) : BitVec 16 := setBit16 v i on
  bit 7 k.tripped (bit 6 k.skew (bit 3 (ms.any (fun l => lBit s l 11)) (bit 2 k.thermal
    (bit 1 ((activeIn s b g).any (fun l => s.l[l].on && lBit s l 1)) (bit 0 (ms.any (fun l => s.l[l].on)) 0)))))

/-- DIAG of a group keeps what a member bank sees (R208). -/
def State.gSee (s : State) (b g : Fin 4) : State := s.modGrp b g (fun k => { k with diag := k.diag ||| gLive s b g })

/-- A clamp lock holds a group off at its next turn-on: of an active member in this bank, or in another (R203). -/
def gLocked (s : State) (b g : Fin 4) : Bool :=
  ((s.banks[b]).groups[g]).locked || (activeIn s b g).any (fun l => lBit s l 7)

/-- Whether a group is commanded on in a bank. -/
def gWanted (s : State) (b g : Fin 4) : Bool :=
  let k := (s.banks[b]).groups[g]
  decide (k.src.value ≠ 0) && !k.tripped && !k.thermal && (k.on || !gLocked s b g)

/-- The members of a group in one bank switch in one bank-clock cycle; a launch from off to on readmits the members whose
readmission waits (R201). -/
def State.relaunchGroup (s : State) (b g : Fin 4) : State :=
  let ms := membersIn s b g
  let want := gWanted s b g
  let launch := want && !((s.banks[b]).groups[g]).on
  let t := bankNow (s.banks[b])
  let s1 := if launch then
      ms.foldl (fun t l => if t.l[l].readmit then (t.lFlag l 11 false).modL l (fun x => { x with readmit := false }) else t) s
    else s
  let s2 := s1.modGrp b g (fun k => { k with
    on := want, launchAt := if launch then t else k.launchAt, restarted := k.restarted && !launch })
  (ms.foldl (fun t l => t.relaunch l) s2).gSee b g

/-- The value that a load switch alone shows at its terminal (R173). -/
def lShown (s : State) (l : Fin 8) : Int := if lGroup s l = none then (if s.l[l].on then 1 else 0) else s.l[l].src.value

/-- The value that a group shows in a bank (R173): on while any of its members there is on. -/
def gShown (s : State) (b g : Fin 4) : Int :=
  if membersIn s b g = [] then ((s.banks[b]).groups[g]).src.value
  else if (membersIn s b g).any (fun l => s.l[l].on) then 1 else 0

/-- The bank that speaks for a group: the one of its lowest member. -/
def firstBank (s : State) (b g : Fin 4) : Bool := (banksOfMask (membersB s b g)).head? == some b

/-- Apply a change of one source or hold to a group in one bank. A trip that clears ends LSW-11 and clears DIAG.TRIPPED (R208); a
thermal hold that ends ends the thermal wait of the members there, and the launch it brings is a restart (R202). -/
def State.changeG (s : State) (b g : Fin 4) (ch : OutChange) : State :=
  let src (h : OutSrc → OutSrc) : State := (s.modGrp b g (fun k => { k with src := h k.src })).relaunchGroup b g
  match ch with
  | .imm v => src (fun o => { o with imm := v })
  | .force v => src (fun o => { o with force := v.map (fun x => if x = 0 then 0 else 1) })
  | .safe true =>
    if ((s.banks[b]).groups[g]).src.safe.isSome then s
    else src (fun o => { o with safe := some (safeValue (gSafe s b g) (gShown s b g)) })
  | .safe false => src (fun o => { o with safe := none })
  | .trip true => (s.modGrp b g (fun k => { k with tripped := true, tripAt := none, limitEntry := none })).relaunchGroup b g
  | .trip false =>
    let s1 := (s.modGrp b g (fun k => { k with tripped := false, tripAt := none })).relaunchGroup b g
    let s2 := s1.modGrp b g (fun k => { k with diag := setBit16 k.diag 7 false })
    if ((s.banks[b]).groups[g]).tripped && firstBank s b g then s2.bankEnd b (ident .lsw 11) 4 g else s2
  | .thermal true latch =>
    let s1 := if latch then (membersIn s b g).foldl (fun x l => x.lFlag l 5 true) s else s
    (s1.modGrp b g (fun k => { k with thermal := true })).relaunchGroup b g
  | .thermal false _ =>
    let s1 := (membersIn s b g).foldl (fun x l => x.lFlag l 4 false) s
    let s2 := (s1.modGrp b g (fun k => { k with thermal := false })).relaunchGroup b g
    let up := ((s2.banks[b]).groups[g]).on && !((s.banks[b]).groups[g]).on
    s2.modGrp b g (fun k => { k with restarted := up || k.restarted })
  | .locked on => (s.modGrp b g (fun k => { k with locked := on })).relaunchGroup b g

/-- Apply a change of one source to a load switch: a member's own sources are stored, and its group decides (R190). -/
def State.changeL (s : State) (l : Fin 8) (ch : OutChange) : State :=
  let src (h : OutSrc → OutSrc) : State := (s.modL l (fun k => { k with src := h k.src })).relaunch l
  match ch with
  | .imm v => src (fun o => { o with imm := v })
  | .force v => src (fun o => { o with force := v.map (fun x => if x = 0 then 0 else 1) })
  | .safe true =>
    if s.l[l].src.safe.isSome then s else src (fun o => { o with safe := some (safeValue (lSafe s l) (lShown s l)) })
  | .safe false => src (fun o => { o with safe := none })
  | .trip _ => s
  | .thermal _ _ => s
  | .locked _ => s

/-- Apply a change to an output of a bank. -/
def State.change (s : State) (b : Fin 4) (o : OutRef) (ch : OutChange) : State :=
  match o with
  | .uni i => s.changeU (uOf b i) ch
  | .ls i => s.changeL (lOf b i) ch
  | .grp g => s.changeG b g ch

/-- A bank launches a group after the common instant (R194). -/
def State.skewed (s : State) (b g : Fin 4) : State :=
  ((s.modGrp b g (fun k => { k with skew := true })).gSee b g).bankRaise b (ident .lsw 14) 4 g

/-- A change that a cell delivers to a bank: at once, or at its common launch instant; one whose instant has passed launches
at once, with SKEW and LSW-14 (R193, R194). -/
def State.deliver (s : State) (b : Fin 4) (o : OutRef) (ch : OutChange) (launch : Option CellTime) : State :=
  match launch with
  | none => s.change b o ch
  | some t =>
    let clock := bankNow (s.banks[b])
    if clock.toNat < t.toNat then
      s.modBank b (fun k => { k with launches := k.launches ++ [{ at_ := t, out := o, change := ch }] })
    else
      let s1 := s.change b o ch
      match o with
      | .grp g => if t.toNat < clock.toNat then s1.skewed b g else s1
      | _ => s1

/-! ### Autonomous safe state (R317) and SAFE cells (R315) -/

/-- Rank 2 on or off on every output of a bank. -/
def State.setAutonomous (s : State) (b : Fin 4) (on : Bool) : State :=
  let auto (p : Nat × Int) (shown : Int) (o : OutSrc) : OutSrc :=
    if on then (if o.auton.isSome then o else { o with auton := some (safeValue p shown) }) else { o with auton := none }
  let s1 := s.modBank b (fun k => { k with autonomous := on })
  let s2 := (bankU b).foldl (fun t u => t.setSrcU u (auto (uSafe t u) (uShown t u))) s1
  let s3 := (bankL b).foldl (fun t l => (t.modL l (fun k => { k with src := auto (lSafe t l) (lShown s l) k.src }))) s2
  let s4 := allGroups.foldl (fun t g => t.modGrp b g (fun k => { k with src := auto (gSafe t b g) (gShown s b g) k.src })) s3
  let s5 := allGroups.foldl (fun t g => if membersIn t b g = [] then t else t.relaunchGroup b g) s4
  (bankL b).foldl (fun t l => t.relaunch l) s5

/-- Rank 1 of the universal channels and load switches of a bank that a mask names: on, or off. -/
def State.safeOutputs (s : State) (b : Fin 4) (mask : BitVec 8) (on : Bool) : State :=
  let s1 := ([0, 1, 2, 3] : List (Fin 4)).foldl
    (fun t i => if mask.getLsbD i.val then t.changeU (uOf b i) (.safe on) else t) s
  ([0, 1] : List (Fin 2)).foldl (fun t i => if mask.getLsbD (4 + i.val) then t.changeL (lOf b i) (.safe on) else t) s1

/-- Rank 1 of the groups that a mask names, with the common launch instant for a cross-bank group. -/
def State.safeGroups (s : State) (b : Fin 4) (mask : BitVec 4) (on : Bool) (launch : Option CellTime) : State :=
  allGroups.foldl (fun t g =>
    if mask.getLsbD g.val then
      t.deliver b (.grp g) (.safe on) (if crossB t b g then launch else none)
    else t) s

/-- Whether a change of a group's rank 1 waits for its launch instant. -/
def safeWaits (s : State) (b g : Fin 4) : Bool :=
  (s.banks[b]).launches.any (fun x => x.out == .grp g && (x.change == .safe true || x.change == .safe false))

/-- A SAFE cell: SET, CLEAR, REFRESH or CLEAR_AUTONOMOUS (R315, R319). The groups that the change reaches through the bank's
members are derived by the logic side. -/
def State.safeCell (s : State) (b : Fin 4) (op : Nat) (outputs : BitVec 8) (groups : BitVec 4)
    (launch : Option CellTime) : State :=
  match op with
  | 1 =>
    let s1 := s.modBank b (fun k => { k with safeStore := k.safeStore ||| outputs, safeGroups := k.safeGroups ||| groups })
    (s1.safeOutputs b outputs true).safeGroups b groups true launch
  | 2 =>
    let s1 := s.modBank b (fun k => { k with
      safeStore := k.safeStore &&& ~~~outputs, safeGroups := k.safeGroups &&& ~~~groups })
    (s1.safeOutputs b outputs false).safeGroups b groups false launch
  | 3 =>
    let s1 := s.modBank b (fun k => { k with safeStore := outputs, safeGroups := groups })
    let s2 := (s1.safeOutputs b (~~~outputs) false).safeOutputs b outputs true
    allGroups.foldl (fun t g =>
      if membersIn t b g = [] ∨ safeWaits t b g then t else t.changeG b g (.safe (groups.getLsbD g.val))) s2
  | _ => s.setAutonomous b false

/-! ### What the logic side sends -/

/-- Send an immediate value to a universal channel. -/
def State.sendImmU (s : State) (u : Fin 16) (v : Int) : State := s.sendDown (bankOfU u) (.out (.uni (uIn u)) v none)

/-- Send an immediate value to a load switch. -/
def State.sendImmL (s : State) (l : Fin 8) (v : Int) : State := s.sendDown (bankOfL l) (.out (.ls (lIn l)) v none)

/-- Send an immediate value to every member bank of a group, with a common launch instant across banks. -/
def State.sendImmG (s : State) (g : Fin 4) (v : Int) : State :=
  let t := groupLaunch s g
  (groupBanks s g).foldl (fun x b => x.sendDown b (.out (.grp g) v t)) s

/-- Send a change of a group's hold to every other member bank, at a common instant for a cross-bank group. -/
def State.sendHold (s : State) (g : Fin 4) (ch : OutChange) (except : Option (Fin 4)) : State :=
  let t := groupLaunch s g
  ((groupBanks s g).filter (fun b => except != some b)).foldl (fun x b => x.sendDown b (.hold g ch t)) s

/-- Change what the logic side remembers of a group. -/
def State.modSide (s : State) (g : Fin 4) (h : GroupSide → GroupSide) : State :=
  { s with coppice := s.coppice.set g (h (s.coppice[g])) }

/-- The member masks and GROUP_LIMIT of a group with a mask of excluded members (R198, R199, R207). -/
def State.memberMasks (s : State) (g : Fin 4) (excluded : Nat) : State :=
  let m := membersOf s g
  let ex := BitVec.toNat (BitVec.ofNat 8 m &&& BitVec.ofNat 8 excluded)
  let s0 := if ex = 0 ∧ s.p 1 0x0B g 0x15 ≠ 0 then s.endFault (ident .lsw 10) 4 g else s
  let s1 := (s0.setP 1 0x0B g 0x15 ex).setP 1 0x0B g 0x14 (m - ex)
  s1.setP 4 0x0B g 0x06 (popCount (m - ex) * s.p 2 0x0B g 0x05)

end Sys2Proof.Machine
end

