-- ==== Sys2Proof/Machine/FastOps.lean ====
section
/-! DEFINITION. The shared operations of the edges: the records that wait for an EDGE cell, the counters and latches of the
fast inputs, and the accepted edges of digital inputs (R79 to R83, R213 to R236). -/

namespace Sys2Proof.Machine

/-- Whether a bank is time-uncertain now: the device is, or its copy is not locked (R49, R58, R59, R253). -/
def bankUnc (s : State) (b : Fin 4) : Bool := (s.banks[b]).devUncertain || !(s.banks[b]).lock

/-! ### Records waiting for a cell (R81, R224) -/

/-- A lost capture (R225). -/
def State.captureLost (s : State) (f : Fin 8) : State :=
  (s.modF f (fun k => { k with lost := k.lost + 1, diag := setBit16 k.diag 3 true })).raise (ident .fti 2) 5 f

/-- A capture of a fast input or a latch result, numbered, into the bank buffer of 16 records (R223, R224). -/
def State.capture (s : State) (f : Fin 8) (source : Nat) (falling inexact : Bool) (t : CellTime) (v : Word) : State :=
  let k := s.f[f]
  let r : EdgeRec := { source := source, falling := falling, opened := k.status.getLsbD 1,
                       uncertain := bankMark (s.banks[bankOfF f]) t, inexact := inexact, time := t, seq := k.capSeq, value := v, capture := true }
  let s1 := s.modF f (fun k => { k with capSeq := k.capSeq + 1 })
  if k.records.length ≥ 16 then
    (s1.modF f (fun k => { k with lost := k.lost + 1, diag := setBit16 k.diag 3 true })).bankRaise
      (bankOfF f) (ident .fti 2) 5 f
  else s1.modF f (fun k => { k with records := k.records ++ [r] })

/-- A record that only carries a trigger to another bank (R231). -/
def State.triggerRecord (s : State) (f : Fin 8) (falling : Bool) (t : CellTime) : State :=
  let k := s.f[f]
  let r : EdgeRec := { source := 4 + (fIn f).val, falling := falling, opened := k.status.getLsbD 1,
                       uncertain := bankMark (s.banks[bankOfF f]) t, inexact := false, time := t, seq := k.capSeq,
                       value := k.count.counter, capture := false }
  if k.records.length ≥ 16 then s else s.modF f (fun k => { k with records := k.records ++ [r] })

/-! ### Counters (R215 to R219) -/

/-- The partner of a fast input: the other input of its bank. -/
def partner (f : Fin 8) : Fin 8 := if f.val % 2 = 0 then ⟨f.val + 1 - 2 * (f.val % 2), by omega⟩ else ⟨f.val - 1, by omega⟩

/-- The first input of the bank of a fast input. -/
def pairFirst (f : Fin 8) : Fin 8 := if f.val % 2 = 0 then f else partner f

/-- MODE of a fast input as its bank holds it. -/
def fMode (s : State) (f : Fin 8) : Nat := s.b (bankOfF f) 1 0x0C f 0x01

/-- Count by a number of transitions (R217). The wrap is a change of sign between the ends of the range. -/
def CountSt.add (c : CountSt) (d : Int) : CountSt :=
  let wrap := (decide (0 < d) && c.counter == 0x7FFFFFFF#32) || (decide (d < 0) && c.counter == 0x80000000#32)
  { c with counter := c.counter + BitVec.ofInt 32 d, wraps := if wrap then c.wraps + 1 else c.wraps }

/-- The count of the pair decoder for a change of AB (R218): the edge counts in ×4, in ×2 and in ×1, and its sign. -/
def quadCount (mode : Nat) (old new : Nat) : Int :=
  let row : Int × Nat := match old, new with
    | 0, 2 => (1, 4) | 2, 3 => (1, 6) | 3, 1 => (1, 5) | 1, 0 => (1, 6)
    | 0, 1 => (-1, 6) | 1, 3 => (-1, 5) | 3, 2 => (-1, 6) | 2, 0 => (-1, 4)
    | _, _ => (0, 7)
  -- the second component is the lowest mode that counts the edge
  if row.2 ≤ mode then row.1 else 0

/-- The state AB after an edge of track A or B. -/
def abAfter (ab : BitVec 2) (isA level : Bool) : BitVec 2 :=
  if isA then (if level then ab ||| 2#2 else ab &&& 1#2) else (if level then ab ||| 1#2 else ab &&& 2#2)

/-- One edge of track A or B at a pair decoder (R218, R219). Within 10 ns of the other track's last edge neither counts, and what
that one counted is taken back. -/
def CountSt.quad (c : CountSt) (isA level : Bool) (mode : Nat) (rev : Bool) (t : CellTime) : CountSt :=
  let ab := abAfter c.ab isA level
  let other := if isA then c.lastB else c.lastA
  let close := other.any (fun o => decide ((ctDiff t o).natAbs < nsUnits 10))
  let raw := quadCount mode c.ab.toNat ab.toNat
  let d : Int := if close then 0 else if rev then -raw else raw
  let back : Int := if close then (if isA then c.countB else c.countA) else 0
  let c1 : CountSt := { c with
    counter := c.counter - BitVec.ofInt 32 back, ab := ab, errors := if close then c.errors + 1 else c.errors,
    lastA := if isA then some t else c.lastA, lastB := if isA then c.lastB else some t,
    countA := if isA then d else if close then 0 else c.countA, countB := if isA then (if close then 0 else c.countB) else d }
  c1.add d

/-- A counter takes one thing it is given (R215 to R219, R234, R236). -/
def CountSt.take (c : CountSt) (e : CountStep) : CountSt :=
  match e.ev with
  | .edge own rising mode edges rev =>
    let sel := own && natBit edges (if rising then 0 else 1)
    match mode with
    | 0 => c
    | 1 => if sel then c.add 1 else c
    | 2 => if sel then c.add (-1) else c
    | 3 =>
      let c1 : CountSt := { c with ab := abAfter c.ab own rising }
      if sel then c1.add (if c.ab.getLsbD 0 then -1 else 1) else c1
    | _ => c.quad own rising mode rev e.at_
  | .set v _ => { c with counter := v }
  | .sync ab => { c with
      ab := ab, lastA := none, lastB := none, countA := 0, countB := 0 }
  | .step => { c with lastA := none, lastB := none }

/-- Whether `e` is applied before `x` (R217, R220, R234, R236): by timestamp; with equal ones a write, a commit and the partner's edge
come before an edge and a latch after it. A write comes after a latch of its cycle, and nothing goes back across a step of the
copy. -/
def CountStep.before (e x : CountStep) : Bool :=
  let le := decide (e.at_.toNat ≤ x.at_.toNat)
  let lt := decide (e.at_.toNat < x.at_.toNat)
  match x.ev, e.ev with
  | .step, _ => false
  | .set _ true, .set _ false => false
  | .set _ true, .edge .. => le
  | .edge .., .set _ false => le
  | .edge .., .sync _ => le
  | .edge true .., .edge false .. => le
  | _, _ => lt

/-- A log with one thing more, in its place. -/
def logWith (e : CountStep) : List CountStep → List CountStep
  | [] => [e]
  | x :: t => if e.before x then x :: logWith e t else e :: x :: t

/-- What a counter made of a log, newest first: each entry with the counter before it and after it. -/
def traceLog (base : CountSt) : List CountStep → List (CountStep × CountSt × CountSt)
  | [] => []
  | x :: t =>
    let r := traceLog base t
    let c := match r with | [] => base | p :: _ => p.2.2
    (x, c, c.take x) :: r

/-- An entry that is a transition which changed the counter. -/
def isCounted (p : CountStep × CountSt × CountSt) : Bool :=
  (match p.1.ev with | .edge .. => true | _ => false) && p.2.1.counter != p.2.2.counter

/-- The entries back to a number of transitions that changed the counter. -/
def keepCounted : Nat → List (CountStep × CountSt × CountSt) → List (CountStep × CountSt × CountSt)
  | _, [] => []
  | 0, _ :: _ => []
  | n + 1, p :: t => p :: keepCounted (if isCounted p then n else n + 1) t

/-- A fast input's counter with a new log: a new wrap and a new quadrature error are told (R217, R219). -/
def State.recount (s : State) (f : Fin 8) (log : List CountStep) : State :=
  let b := bankOfF f
  let k := s.f[f]
  let tr := traceLog k.base log
  let kept := keepCounted 257 tr
  let c := match tr with | [] => k.base | p :: _ => p.2.2
  let base := match kept.getLast? with
    | some p => if kept.length < tr.length then p.2.1 else k.base
    | none => k.base
  let t := bankNow (s.banks[b])
  let s1 := s.modF f (fun k => { k with
    base := base, count := c, log := kept.map (·.1), quadErrors := k.quadErrors + BitVec.ofNat 32 (c.errors - k.count.errors) })
  let s2 := if k.count.wraps < c.wraps then
      ((s1.fFlag f 6 true).modF f (fun k => { k with wrapAt := some t })).bankRaise b (ident .fti 5) 5 f else s1
  if k.count.errors < c.errors then
    ((s2.fFlag f 4 true).modF f (fun k => { k with quadAt := some t })).bankRaise b (ident .fti 3) 5 f
  else s2

/-- A fast input's counter is given one thing more, in its place. -/
def State.countStep (s : State) (f : Fin 8) (t : CellTime) (ev : CountEv) : State :=
  s.recount f (logWith { at_ := t, ev := ev } s.f[f].log)

/-- The counting of an accepted edge (R215 to R218): at the input's own counter, and at the pair decoder it belongs to. An edge
stamped before a change of the settings follows the old ones (R236). -/
def State.countEdge (s : State) (f : Fin 8) (rising : Bool) (t : CellTime) : State :=
  let b := bankOfF f
  let old (g : Fin 8) : Bool := decide (t.toNat < s.f[g].setAt.toNat)
  let sense := if old f && s.f[f].oldInvert != (s.b b 1 0x0C f 0x03 == 1) then !rising else rising
  let ev (g : Fin 8) (own : Bool) : CountEv :=
    if old g then .edge own sense s.f[g].oldMode s.f[g].oldEdges s.f[g].oldRev
    else .edge own sense (fMode s g) (s.b b 1 0x0C g 0x05) (s.b b 1 0x0C g 0x09 == 1)
  let mode (g : Fin 8) : Nat := if old g then s.f[g].oldMode else fMode s g
  let s1 := if mode f = 0 then s else s.countStep f t (ev f true)
  if f.val % 2 = 1 ∧ 3 ≤ mode (partner f) then s1.countStep (partner f) t (ev (partner f) false) else s1

/-- The present AB of a fast input and its partner. -/
def abNow (s : State) (f : Fin 8) : BitVec 2 :=
  (if s.f[f].db.state then 2 else 0) ||| (if s.f[partner f].db.state then 1 else 0)

/-- The decoder of a fast input takes the present levels as AB (R236). -/
def State.syncAB (s : State) (f : Fin 8) (t : CellTime) : State := s.countStep f t (.sync (abNow s f))

/-! ### Latches (R231 to R234) -/

/-- The counter at an instant, and whether more than 256 transitions have been applied since; then it is the counter before the
oldest of those retained (R232). -/
def counterAt (k : FChan) (t : CellTime) : Word × Bool :=
  let later := (traceLog k.base k.log).takeWhile (fun p => decide (t.toNat < p.1.at_.toNat))
  let counted := later.filter isCounted
  if counted.length > 256 then (((counted[255]?).map (fun p => p.2.1.counter)).getD k.base.counter, true)
  else match later.getLast? with | some p => (p.2.1.counter, false) | none => (k.count.counter, false)

/-- Execute a latch at an instant (R232, R234): with LATCH_ACTION 1 the counter is PRESET there, and the later transitions follow. -/
def State.latch (s : State) (f : Fin 8) (t : CellTime) : State :=
  let b := bankOfF f
  let k := s.f[f]
  let (v, inexact) := counterAt k t
  let s1 := (s.modF f (fun k => { k with latchValue := v, latchTime := t })).fFlag f 5 inexact
  let s2 := if inexact then s1.bankRaise b (ident .fti 4) 5 f else s1
  let s3 := if s.b b 1 0x0C f 0x1B = 1 then s2.capture f (6 + (fIn f).val) false inexact t v else s2
  if s.b b 1 0x0C f 0x16 = 1 then s3.countStep f t (.set (BitVec.ofNat 32 (s.b b 4 0x0C f 0x08)) true) else s3

/-- A trigger code reaches the counters of a bank: every input of it whose LATCH_SOURCE names the code latches (R231). -/
def State.triggerIn (s : State) (b : Fin 4) (code : Nat) (t : CellTime) : State :=
  (bankF b).foldl (fun x (f : Fin 8) => if x.b b 1 0x0C f 0x15 = code then x.latch f t else x) s

/-- The banks other than one in which some counter waits for a trigger code. -/
def triggerBanks (s : State) (b : Fin 4) (code : Nat) : List (Fin 8) :=
  ([0, 1, 2, 3, 4, 5, 6, 7] : List (Fin 8)).filter (fun f => bankOfF f != b && s.p 1 0x0C f 0x15 == code)

/-! ### Accepted edges (R213, R214, R227) -/

/-- A frequency in mHz from a number of periods and their time in 1/256 ns, rounded to the nearest (R228). -/
def freqOf (n d : Nat) : Nat := if d = 0 then 0 else (2 * (n * 256000000000000) + d) / (2 * d)

/-- The gate ends up to a time in 1/256 ns that have not been taken yet (R228, R230): the first of them closes over the rising edges
since the last; in those after it none lies. -/
def State.closeGates (s : State) (f : Fin 8) (upto : Nat) : State :=
  let k := s.f[f]
  let gate := nsUnits (s.b (bankOfF f) 4 0x0C f 0x13 * 1000)
  let first := (k.gateAt.toNat / gate + 1) * gate
  let last := upto / gate * gate
  if gate = 0 ∨ last < first then s
  else
    let idle (fr g : Nat) : Nat := min fr (freqOf 1 (g - k.lastRise.toNat))
    let one := if k.gateRises = 0 then idle k.freq first
      else if k.gateStep then k.freq else freqOf k.gateRises (k.lastRise - k.gateStart).toNat
    let fr := if fBit s f 2 then k.freq else if first < last then idle one last else one
    s.modF f (fun k => { k with
      freq := fr, gateAt := BitVec.ofNat 72 last, gateStart := k.lastRise, gateRises := 0, gateStep := false })

/-- Period, frequency and STOPPED at an accepted edge: only rising edges count (R227 to R230). The first after STOPPED begins the
first interval. -/
def State.riseEdge (s0 : State) (f : Fin 8) (t : CellTime) : State :=
  let s := s0.closeGates f (t.toNat - 1)
  let k := s.f[f]
  let first := decide (k.rises = 0)
  let s1 := s.modF f (fun k => { k with
    period := if k.rises ≥ 1 ∧ k.stepped = false then ((t - k.lastRise).setWidth 64) else k.period,
    rises := k.rises + 1, lastRise := t, gateStart := if first then t else k.gateStart,
    gateRises := if first then 0 else k.gateRises + 1, gateStep := !first && (k.gateStep || k.stepped), stepped := false })
  if k.rises ≥ 1 ∧ fBit s f 1 = false then s1.fFlag f 2 false else s1

/-- STOPPED with the values it gives FREQUENCY and PERIOD (R229). -/
def State.stopF (s : State) (f : Fin 8) : State :=
  (s.fFlag f 2 true).modF f (fun k => { k with
    freq := 0, period := 0xFFFFFFFFFFFFFFFF, rises := 0, stepped := false, gateStep := false, gateRises := 0 })

/-- An accepted edge of a fast input (R213, R214, R222, R231). -/
def State.acceptF (s : State) (f : Fin 8) (rising : Bool) (t : CellTime) : State :=
  let b := bankOfF f
  let s1 := (s.fFlag f 0 rising).modF f (fun k => { k with
    edgeCount := k.edgeCount + 1, diag := setBit16 k.diag 0 true, db := { k.db with state := rising } })
  let s2 := s1.countEdge f rising t
  let s3 := if rising then s2.riseEdge f t else s2
  let selected := natBit (s.b b 1 0x0C f 0x0A) (if rising then 0 else 1)
  let n := (s3.f[f]).capCount + 1
  let code := (if rising then 0x01 else 0x11) + f.val
  let s4 :=
    if selected then
      if n ≥ s.b b 2 0x0C f 0x0B then
        (s3.modF f (fun k => { k with capCount := 0 })).capture f (4 + (fIn f).val) (!rising) false t
          (counterAt s3.f[f] t).1
      else s3.modF f (fun k => { k with capCount := n })
    else s3
  let captured := selected && decide (n ≥ s.b b 2 0x0C f 0x0B)
  let s5 := if !captured && !(triggerBanks s b code).isEmpty then s4.triggerRecord f (!rising) t else s4
  s5.triggerIn b code t

/-- An accepted edge of a digital input (R80, R81): state, count, record, and the triggers of its own bank. -/
def State.acceptU (s : State) (u : Fin 16) (rising : Bool) (t : CellTime) : State :=
  let b := bankOfU u
  let k := s.u[u]
  let r : EdgeRec := { source := (uIn u).val, falling := !rising, opened := k.status.getLsbD 1,
                       uncertain := bankMark (s.banks[b]) t, inexact := false, time := t, seq := 0, value := 0, capture := true }
  let s1 := (s.uLive u 0 rising).modU u (fun k => { k with
    diag := setBit16 k.diag 0 true, edgeCount := k.edgeCount + 1, lastEdge := t, db := { k.db with state := rising } })
  let s2 := if k.records.length ≥ 16 then s1.uFlag u 9 true
    else s1.modU u (fun k => { k with records := k.records ++ [r] })
  s2.triggerIn b ((if rising then 0x20 else 0x30) + u.val) t

/-! ### Arming a named instant (R233) -/

/-- Execute an armed or past named-instant latch; a LATCH entry then ends APPLIED, which the handle (0 for a write of
LATCH_AT) says. -/
def State.latchNamed (s : State) (f : Fin 8) (t : CellTime) : State :=
  ((s.latch f t).modF f (fun k => { k with armed := none })).fFlag f 7 false

end Sys2Proof.Machine
end

