-- ==== Sys2Proof/Machine/SchedOps.lean ====
section
/-! DEFINITION. The schedule (R243 to R258, R629): what a bank does with its entries, and what the logic side records of
them. -/

namespace Sys2Proof.Machine

/-- A universal channel by number. -/
def finU (n : Nat) : Fin 16 := ⟨n % 16, by omega⟩

/-- A load switch or fast input by number. -/
def fin8 (n : Nat) : Fin 8 := ⟨n % 8, by omega⟩

/-- A bank or group by number. -/
def fin4 (n : Nat) : Fin 4 := ⟨n % 4, by omega⟩

/-- The fault object of a target (R305). -/
def targetObj (kind : Nat) : Nat := kind + 2

/-! ### The logic side's records (R245 to R247) -/

/-- Set bits of TB_SCHED_EVENT, which P0D.00.11 shows (R263). -/
def State.schedEvent (s : State) (i : Nat) : State := s.orP 0x0D 0 0x11 (2 ^ i)

/-- Change the records with a handle in a bank. -/
def State.modSched (s : State) (b : Fin 4) (h : BitVec 16) (g : SchedRec → SchedRec) : State :=
  { s with sched := s.sched.map (fun r => if r.handle == h && r.bank == b then g r else r) }

/-- The response of a cancel that names an entry gives its outcome (R247). -/
def State.tellCancel (s : State) (h : BitVec 16) (code : Nat) : State :=
  { s with mbx := { s.mbx with long := s.mbx.long.map (fun j =>
      if j.handle == some h then { j with payload := j.payload.set 4 (BitVec.ofNat 8 code) } else j) } }

/-- An outcome as the logic side learns it: journal, LAST_OUTCOME, counters, event bits and the EVENT doorbell, once for each
entry; the slot of the bank is freed where the report says so (R245, R247, R260, R263, R377). -/
def State.recordOutcome (s : State) (b : Fin 4) (h : BitVec 16) (code : Nat) (lag : Int) (time : CellTime)
    (unc frees : Bool) : State :=
  match s.sched.find? (fun r => r.handle == h && r.bank == b) with
  | none => s
  | some r =>
    let s1 :=
      if r.reported then s
      else
        let body := ctBytes time ++ leBytes 2 h.toNat ++ [BitVec.ofNat 8 code, BitVec.ofNat 8 r.kind,
          BitVec.ofNat 8 r.target] ++ leBytes 4 (ofSigned 32 lag)
        let t1 := { s with jrn := { s.jrn with incoming := s.jrn.incoming ++
          [(0x05, unc, (body ++ List.replicate 24 0).take 24)] } }
        let t2 := t1.setBytes 0x0D 0 0x10 0 (leBytes 2 h.toNat ++ [BitVec.ofNat 8 code, 0] ++ leBytes 4 (ofSigned 32 lag))
        let t3 := if code ≤ 2 then t2.inc 4 0x0D 0 0x0A else t2
        let t4 := match code with
          | 1 => (t3.inc 4 0x0D 0 0x0B).schedEvent 0
          | 3 => (t3.inc 4 0x0D 0 0x0C).schedEvent 1
          | 4 => (t3.inc 4 0x0D 0 0x0C).schedEvent 3
          | 5 => (t3.inc 4 0x0D 0 0x0D).schedEvent 4
          | 6 => t3.inc 4 0x0D 0 0x0E
          | 7 => t3.inc 4 0x0D 0 0x0E
          | 8 => (t3.inc 4 0x0D 0 0x0C).schedEvent 6
          | _ => t3
        let t5 := if code = 0 then t4 else t4.ringAll 1
        let t6 : State := { t5 with sched := t5.sched.map (fun x => if x.handle == h then { x with
          outcome := code, reported := true } else x) }
        t6.tellCancel h code
    if frees then { s1 with sched := s1.sched.filter (fun x => !(x.handle == h && x.bank == b)) }
    else s1.modSched b h (fun x => { x with state := 4, lag := lag })

/-! ### The bank's side (R249 to R253) -/

/-- A lag in ns, saturating (R246). -/
def lagNs (a b : CellTime) : Int := max (-0x80000000) (min 0x7FFFFFFF (ctDiff a b / 256))

/-- Report an outcome (R245). -/
def State.report (s : State) (b : Fin 4) (r : SchedRec) (code : Nat) (lag : Int) (frees : Bool) : State :=
  s.sendUp b (.outcome r.handle code lag (bankNow (s.banks[b])) (bankUnc s b) frees)

/-- The scheduled source of a target becomes active with a value, or inactive. -/
def State.setSched (s : State) (b : Fin 4) (kind target : Nat) (v : Option Int) : State :=
  match kind with
  | 0 => s.setSrcU (finU target) (fun o => { o with sched := v })
  | 1 => (s.modL (fin8 target) (fun k => { k with src := { k.src with sched := v } })).relaunch (fin8 target)
  | _ =>
    let g := fin4 target
    (s.modGrp b g (fun k => { k with src := { k.src with sched := v } })).relaunchGroup b g

/-- The sources of a target as the bank holds them. -/
def targetSrc (s : State) (b : Fin 4) (kind target : Nat) : OutSrc :=
  match kind with
  | 0 => s.u[finU target].src
  | 1 => s.l[fin8 target].src
  | _ => ((s.banks[b]).groups[fin4 target]).src

/-- SAFE_MODE and SAFE_VALUE of a target. -/
def targetSafe (s : State) (b : Fin 4) (kind target : Nat) : Nat × Int :=
  match kind with
  | 0 => uSafe s (finU target)
  | 1 => lSafe s (fin8 target)
  | _ => gSafe s b (fin4 target)

/-- The pulses on a target end without their release: each frees its slot (R243, R245). -/
def State.endPulses (s : State) (b : Fin 4) (kind target : Nat) : State :=
  let hit (p : SchedRec × CellTime) : Bool := p.1.kind == kind && p.1.target == target
  let ended := (s.banks[b]).pulses.filter hit
  let s1 := s.modBank b (fun k => { k with pulses := k.pulses.filter (fun p => !hit p) })
  ended.foldl (fun t p => t.report b p.1 0 0 true) s1

/-- Apply an entry to its target with an outcome (R243, R249). `quiet` says that a later entry of the same cycle decides what the
target shows, so this one launches nothing (R250). -/
def State.applyEntry (s : State) (b : Fin 4) (r : SchedRec) (code : Nat) (lag : Int) (quiet : Bool) : State :=
  let s0 := s.endPulses b r.kind r.target
  let s1 := if quiet then s0 else s0.setSched b r.kind r.target (if r.action = 2 then none else some r.value)
  let s2 := if code = 1 then s1.bankRaise b (ident .tb 13) (targetObj r.kind) r.target else s1
  if r.action = 1 then
    let stop := ctAddNs (bankNow (s.banks[b])) (r.width * 1000)
    (s2.modBank b (fun k => { k with pulses := k.pulses ++ [(r, stop)] })).report b r code lag false
  else s2.report b r code lag true

/-- The moment of application: the uncertain-time policy (R253), then the application. -/
def State.meetPolicy (s : State) (b : Fin 4) (r : SchedRec) (code : Nat) (lag : Int) (quiet : Bool) : State :=
  if bankUnc s b ∧ r.uncPolicy = 1 then
    ((s.modBank b (fun k => { k with queue := k.queue ++ [{ r with state := 3 }] })).modSched b r.handle
      (fun x => { x with state := 3 })).schedEvent 2
  else if bankUnc s b ∧ r.uncPolicy = 2 then
    let v := safeValue (targetSafe s b r.kind r.target) (targetSrc s b r.kind r.target).value
    let s0 := s.endPulses b r.kind r.target
    let s1 := if quiet then s0 else s0.setSched b r.kind r.target (some v)
    (s1.bankRaise b (ident .tb 11) (targetObj r.kind) r.target).report b r 5 0 true
  else s.applyEntry b r code lag quiet

/-- An entry that is late may still be applied (R251). -/
def lateOk (s : State) (b : Fin 4) (r : SchedRec) : Bool :=
  r.latePolicy == 1 && decide ((bankNow (s.banks[b]) - r.apply).toNat ≤ nsUnits (s.b b 4 0x0D 0 0x02 * 1000))

/-- The bank considers an entry at its instant or after it: the late test first (R251). -/
def State.consider (s : State) (b : Fin 4) (r : SchedRec) (quiet : Bool) : State :=
  let clock := bankNow (s.banks[b])
  if clock.toNat ≤ r.apply.toNat then s.meetPolicy b r 0 0 quiet
  else if lateOk s b r then s.meetPolicy b r 1 (lagNs clock r.apply) quiet
  else (s.bankRaise b (ident .tb 10) (targetObj r.kind) r.target).report b r 3 0 true

/-- Whether an entry considered now decides what its target shows: it is not dropped late (where lateness is judged), and not
held. -/
def takesTarget (s : State) (b : Fin 4) (late : Bool) (r : SchedRec) : Bool :=
  (!late || decide ((bankNow (s.banks[b])).toNat ≤ r.apply.toNat) || lateOk s b r) && !(bankUnc s b && r.uncPolicy == 1)

/-- Two entries on one target. -/
def sameTarget (x r : SchedRec) : Bool := x.kind == r.kind && x.target == r.target

/-- Entries taken in one bank-clock cycle, in their order: of those on one target only the last launches (R250, R252). -/
def State.takeEntries (s : State) (b : Fin 4) (late : Bool) : List SchedRec → State
  | [] => s
  | r :: rest =>
    let quiet := rest.any (fun x => sameTarget x r && takesTarget s b late x)
    let s1 := if late then s.consider b r quiet else s.meetPolicy b r 0 0 quiet
    s1.takeEntries b late rest

/-- Entries in the order of their apply instants; entries with equal instants keep the order of acceptance (R250). -/
def insertByApply (r : SchedRec) : List SchedRec → List SchedRec
  | [] => [r]
  | x :: t => if r.apply.toNat < x.apply.toNat then r :: x :: t else x :: insertByApply r t

/-- Sort entries by their apply instants. -/
def sortByApply (l : List SchedRec) : List SchedRec := l.foldl (fun acc r => insertByApply r acc) []

/-- Arm a LATCH entry on receipt: an earlier armed latch is replaced, and its entry ends CANCELLED (R233, R243, R257). -/
def State.armLatch (s : State) (b : Fin 4) (f : Fin 8) (t : CellTime) (h : BitVec 16) : State :=
  let old := s.f[f].armed
  let s1 := match old with
    | some (_, h0) =>
      if h0 = 0 then s
      else s.sendUp b (.outcome h0 6 0 (bankNow (s.banks[b])) (bankUnc s b) true)
    | none => s
  let clock := bankNow (s.banks[b])
  if clock.toNat < t.toNat then (s1.modF f (fun k => { k with armed := some (t, h) })).fFlag f 7 true
  else
    let s2 := s1.latchNamed f t
    if h = 0 then s2 else s2.sendUp b (.outcome h 0 0 clock (bankUnc s b) true)

/-- Arm an entry that the bank holds, or treat it as late (R246, R249, R251). -/
def State.armEntry (s : State) (b : Fin 4) (r : SchedRec) : State :=
  let r1 := { r with apply := ctGrid r.apply, state := 2 }
  let s1 := s.modSched b r.handle (fun x => { x with state := 2 })
  if r.action = 3 then s1.armLatch b (fin8 r.target) r1.apply r.handle
  else if (bankNow (s.banks[b])).toNat < r1.apply.toNat then s1.modBank b (fun k => { k with queue := k.queue ++ [r1] })
  else s1.consider b r1 false

/-- Receipt of a SCHED entry: a batch arms when its share is complete (R254, R629). -/
def State.takeSched (s : State) (b : Fin 4) (r : SchedRec) (last : Bool) : State :=
  if r.batch = 0 then s.armEntry b r
  else
    let all := (s.banks[b]).batchBuf ++ [r]
    if last then
      let mine := all.filter (fun x => x.batch == r.batch)
      (sortByApply mine).foldl (fun t x => t.armEntry b x)
        (s.modBank b (fun k => { k with batchBuf := all.filter (fun x => x.batch != r.batch) }))
    else s.modBank b (fun k => { k with batchBuf := all })

/-- The armed entries of a bank whose instant its copy has reached and that lie before a limit, in the order of their instants. -/
def dueEntries (s : State) (b : Fin 4) (limit : Option CellTime) : List SchedRec :=
  let clock := bankNow (s.banks[b])
  sortByApply ((s.banks[b]).queue.filter (fun r =>
    r.state == 2 && reached r.apply clock && !limit.any (fun a => decide (a.toNat ≤ r.apply.toNat))))

/-- The due entries before a limit are taken in one bank-clock cycle: on time, in order (R249, R250); `late` where a step of the copy
has carried past them, and lateness is judged (R252). -/
def State.applyDue (s : State) (b : Fin 4) (late : Bool) (limit : Option CellTime) : State :=
  let due := dueEntries s b limit
  (s.modBank b (fun k => { k with queue := k.queue.filter (fun r => !due.contains r) })).takeEntries b late due

/-! ### Cancellation in a bank (R256) -/

/-- Whether a selector selects an entry (R255). Selector 2 is narrowed to the owner where the marker names one. -/
def selects (selector kind target : Nat) (what : BitVec 16) (owner : Nat) (r : SchedRec) : Bool :=
  match selector with
  | 0 => r.handle == what
  | 1 => r.batch == what
  | 2 => r.kind == kind && r.target == target && (owner == 0xFF || r.owner == owner)
  | 3 => r.owner == owner
  | _ => true

/-- The targets of a bank: its universal channels, load switches and the groups it has members of. -/
def bankTargets (s : State) (b : Fin 4) : List (Nat × Nat) :=
  (bankU b).map (fun u => (0, u.val)) ++ (bankL b).map (fun l => (1, l.val)) ++
    (allGroups.filter (fun g => membersIn s b g != [])).map (fun g => (2, g.val))

/-- The scheduled source of a target becomes inactive and its pulse ends (R254, R255). -/
def State.releaseTarget (s : State) (b : Fin 4) (t : Nat × Nat) : State :=
  (s.endPulses b t.1 t.2).setSched b t.1 t.2 none

/-- A cancel marker: the armed, held and waiting entries it selects end, and a report goes back. A marker for handle 0 only releases
its target (assumption log 41). -/
def State.cancelIn (s : State) (b : Fin 4) (selector : Nat) (release : Bool) (kind target : Nat) (what : BitVec 16)
    (owner : Nat) : State :=
  let sel := selects selector kind target what owner
  let k := s.banks[b]
  let gone := (k.queue ++ k.batchBuf).filter sel
  let running := (k.pulses.map (·.1)).filter sel
  let latches := (bankF b).filterMap (fun f => match s.f[f].armed with
    | some (_, h) => if h ≠ 0 ∧ (s.sched.find? (fun r => r.handle == h && r.bank == b)).any sel then some (f, h) else none
    | none => none)
  let s1 := s.modBank b (fun k => { k with
    queue := k.queue.filter (fun r => !sel r), batchBuf := k.batchBuf.filter (fun r => !sel r) })
  let s2 := latches.foldl (fun t x => (t.modF x.1 (fun k => { k with armed := none })).fFlag x.1 7 false) s1
  let named := match selector with
    | 0 => if what = 0 then [(kind, target)] else (gone ++ running).map (fun (r : SchedRec) => (r.kind, r.target))
    | 2 => [(kind, target)]
    | 4 => bankTargets s b
    | _ => (gone ++ running).map (fun (r : SchedRec) => (r.kind, r.target))
  let s3 := if release then named.eraseDups.foldl (fun t x => t.releaseTarget b x) s2 else s2
  s3.sendUp b (.cancelled what (gone.length + latches.length) running.length
    (gone.map (·.handle) ++ latches.map (·.2)))

/-- The entries on a target end with an outcome, and its scheduled source with them (R100, R192). -/
def State.dropTarget (s : State) (b : Fin 4) (kind target code : Nat) : State :=
  let hit (r : SchedRec) : Bool := r.kind == kind && r.target == target
  let gone := ((s.banks[b]).queue ++ (s.banks[b]).batchBuf).filter hit
  let s1 := s.modBank b (fun k => { k with
    queue := k.queue.filter (fun r => !hit r), batchBuf := k.batchBuf.filter (fun r => !hit r) })
  let s2 := gone.foldl (fun t r => t.report b r code 0 true) s1
  s2.releaseTarget b (kind, target)

/-! ### Acceptance on the logic side (R244, R248, R254) -/

/-- The banks of a target. -/
def targetBanks (s : State) (kind target : Nat) : List (Fin 4) :=
  match kind with
  | 0 => [bankOfU (finU target)]
  | 1 => [bankOfL (fin8 target)]
  | 2 => groupBanks s (fin4 target)
  | _ => [bankOfF (fin8 target)]

/-- The free slots of a bank. -/
def slotFree (s : State) (b : Fin 4) : Nat := 256 - (s.sched.filter (fun r => r.bank == b)).length

/-- A member of a group is replaced by its group (R191, R244). -/
def schedTarget (s : State) (e : SchedReq) : Nat × Nat :=
  if e.kind = 1 ∧ e.target < 8 then
    match lGroupL s (fin8 e.target) with
    | some g => (2, g.val)
    | none => (1, e.target)
  else (e.kind, e.target)

/-- Whether a target takes an action (R244). -/
def targetOk (s : State) (e : SchedReq) : Bool :=
  match e.kind with
  | 0 => decide (e.target < 16) && decide (e.action ≤ 2) && isOutMode (uModeL s (finU e.target))
  | 1 => decide (e.target < 8) && decide (e.action ≤ 2)
  | 2 => decide (e.target < 4) && decide (e.action ≤ 2) && membersOf s (fin4 e.target) != 0
  | 3 => decide (e.target < 8) && e.action == 3
  | _ => false

/-- The policies of an entry with the defaults filled in (R246). -/
def policies (s : State) (e : SchedReq) : Nat × Nat :=
  let l := e.policy % 4
  let u := e.policy / 4 % 4
  (if l = 3 then s.p 1 0x0D 0 0x05 else l, if u = 3 then s.p 1 0x0D 0 0x06 else u)

/-- VALUE in range (R92, R244). -/
def valueOk (s : State) (e : SchedReq) : Bool :=
  match e.kind with
  | 0 => inRange (uModeL s (finU e.target)) e.value
  | 3 => true
  | _ => e.value == 0 || e.value == 1

/-- The checks of R248 on one entry, with the slots already taken by the entries before it; `none` accepts it. -/
def schedCheck (s : State) (ep : Fin 8) (taken : List (Fin 4)) (e : SchedReq) : Option (BitVec 16) :=
  let tgt := schedTarget s e
  let banks := targetBanks s tgt.1 tgt.2
  let d := ctDiff e.apply (now s)
  let pol := policies s e
  if !isAuthority s ep then some rcNotAuthority
  else if !targetOk s e then some rcBadParam
  else if !(banks.all (bankPresent s)) then some rcTargetAbsent
  else if !valueOk s e || e.policy % 4 == 2 || (e.action == 1 && (e.width == 0 || decide (e.width > 0xFFFFFFFF))) then
    some rcOutOfRange
  else if (nsUnits (s.p 4 0x0D 0 0x04 * 1000000000) : Int) < d then some rcOutOfRange
  else if e.action != 3 && decide (d < nsUnits (s.p 4 0x0D 0 0x01 * 1000)) &&
      !(pol.1 == 1 && decide (-(nsUnits (s.p 4 0x0D 0 0x02 * 1000) : Int) ≤ d)) then some rcLate
  else if !(banks.all (fun b => decide ((taken.filter (· == b)).length < slotFree s b))) then some rcScheduleFull
  else none

/-- The first entry of a command that fails, with its index and code. -/
def schedCheckAll (s : State) (ep : Fin 8) : List (Fin 4) → Nat → List SchedReq → Option (Nat × BitVec 16)
  | _, _, [] => none
  | taken, i, e :: rest =>
    match schedCheck s ep taken e with
    | some c => some (i, c)
    | none =>
      let tgt := schedTarget s e
      schedCheckAll s ep (taken ++ targetBanks s tgt.1 tgt.2) (i + 1) rest

/-- The next value of a 16-bit count that a test does not skip; `n` bounds the search. -/
def nextFree (skip : BitVec 16 → Bool) : Nat → BitVec 16 → BitVec 16
  | 0, v => v
  | n + 1, v => if skip v then nextFree skip n (v + 1) else v

/-- The lowest free slot of a bank. -/
def lowSlot (s : State) (b : Fin 4) : Nat :=
  ((List.range 256).find? (fun i => !(s.sched.any (fun r => r.bank == b && r.slot == i)))).getD 0

/-- Queue one accepted entry: a handle, and a PENDING record for each bank of its target (R245). -/
def State.queueEntry (s : State) (ep : Fin 8) (batch : BitVec 16) (e : SchedReq) : BitVec 16 × State :=
  let h := nextFree (fun v => v == 0 || v == 0xFFFF || s.sched.any (fun r => r.handle == v)) 2000 s.nextHandle
  let tgt := schedTarget s e
  let pol := policies s e
  let mk (b : Fin 4) (t : State) : State :=
    { t with sched := t.sched ++ [{
        handle := h, batch := batch, kind := tgt.1, target := tgt.2, action := e.action, latePolicy := pol.1,
        uncPolicy := pol.2, apply := e.apply, state := 1, owner := ep, value := if e.action = 3 then 0 else e.value,
        width := if e.action = 1 then e.width else 0, lag := 0, bank := b, slot := lowSlot t b, outcome := 0, reported := false }] }
  let s1 := { s with nextHandle := h + 1 }.inc 4 0x0D 0 0x09
  (h, (targetBanks s tgt.1 tgt.2).foldl (fun t b => mk b t) s1)

/-- Queue every entry of a command. -/
def State.queueAll (s : State) (ep : Fin 8) (batch : BitVec 16) : List SchedReq → List (BitVec 16) × State
  | [] => ([], s)
  | e :: rest =>
    let (h, s1) := s.queueEntry ep batch e
    let (hs, s2) := s1.queueAll ep batch rest
    (h :: hs, s2)

/-- Send the entries of some handles to a bank in consecutive SCHED cells, the last marked (R254, R629). -/
def State.sendEntries (s : State) (b : Fin 4) (hs : List (BitVec 16)) : State :=
  let mine := s.sched.filter (fun r => r.bank == b && hs.contains r.handle)
  let n := mine.length
  (mine.zipIdx).foldl (fun t x => t.sendDown b (.sched { x.1 with state := 0 } (x.2 + 1 == n && x.1.batch != 0))) s

/-- SCHEDULE_OUTPUT (R248, R254, R383). -/
def scheduleOutput (s : State) (ep : Fin 8) (es : List SchedReq) : CmdRes :=
  if es = [] ∨ es.length > 32 then refuse s rcBadParam
  else
    match schedCheckAll s ep [] 0 es with
    | some (i, c) =>
      let s1 := s.setP 4 0x0D 0 0x0F (s.p 4 0x0D 0 0x0F + es.length)
      let s2 := if c = rcLate then s1.schedEvent 7 else if c = rcScheduleFull then s1.schedEvent 5 else s1
      { st := s2, code := c, payload := [BitVec.ofNat 8 i, 0, 0, 0] }
    | none =>
      let batch : BitVec 16 := if es.length = 1 then 0
        else nextFree (fun v => v == 0 || s.sched.any (fun r => r.batch == v)) 2000 s.nextBatch
      let s0 := if es.length = 1 then s else { s with nextBatch := batch + 1 }
      let (hs, s1) := s0.queueAll ep batch es
      let s2 := allBanks.foldl (fun t b => t.sendEntries b hs) s1
      { st := s2, code := 0,
        payload := leBytes 2 batch.toNat ++ [BitVec.ofNat 8 es.length, 0] ++ (hs.map (fun h => leBytes 2 h.toNat)).flatten }

end Sys2Proof.Machine
end

