-- ==== Sys2Proof/Machine/Schedule.lean ====
section
/-! DEFINITION. The meanings of the schedule rows (Coherent sampling and scheduled actuation). -/

namespace Sys2Proof.Machine

/-- The opcode of SCHEDULE_OUTPUT (R383). -/
def opSchedule : Nat := 0x0030

/-- The opcode of CANCEL_SCHEDULE (R383). -/
def opCancel : Nat := 0x0031

/-- R248, R254: SCHEDULE_OUTPUT. -/
def execScheduleOutput (q : Req) (es : List SchedReq) (s : State) : Host.Outcome State Fault Refusal :=
  .next ((scheduleOutput s q.ep es).finish q opSchedule)

/-- Who may cancel what (R255): the code that refuses a CANCEL_SCHEDULE, `none` where it is permitted. -/
def cancelCheck (s : State) (ep : Fin 8) (selector : Nat) (what : BitVec 16) : Option (BitVec 16) :=
  let auth := isAuthority s ep
  match selector with
  | 0 =>
    match s.sched.find? (fun r => r.handle == what) with
    | none => some rcOutOfRange
    | some r => if auth || r.owner == ep.val then none else some rcNotAuthority
  | 1 =>
    if what = 0 then some rcOutOfRange
    else if auth || (s.sched.filter (fun r => r.batch == what)).all (fun r => r.owner == ep.val) then none
    else some rcNotAuthority
  | 2 => none
  | 3 => none
  | 4 => if auth then none else some rcNotAuthority
  | _ => some rcBadParam

/-- Whether an entry's SCHED cell has not left the logic side yet. -/
def stillQueued (s : State) (r : SchedRec) : Bool :=
  (s.down[r.bank]).queued.any (fun c => match c with | .sched x _ => x.handle == r.handle | _ => false)

/-- The response of CANCEL_SCHEDULE (R383). -/
def cancelPayload (cancelled applied outcome : Nat) : List Byte :=
  leBytes 2 cancelled ++ leBytes 2 applied ++ [BitVec.ofNat 8 outcome, 0, 0, 0]

/-- The targets of entries that end before they reach a bank are released there too where the command says so: a marker for handle 0
names each (R255). -/
def State.releasePending (s : State) (gone : List SchedRec) (owner : Nat) : State :=
  let ts := ((gone.filter (fun r => decide (r.kind ≤ 2))).map (fun r => (r.bank, r.kind, r.target))).eraseDups
  ts.foldl (fun (x : State) t => x.sendDown t.1 (.cancel 0 true t.2.1 t.2.2 0 owner)) s

/-- CANCEL_SCHEDULE (R255, R256): entries whose cell has not left end at once; every bank concerned takes a marker, and the
command completes when each has reported. -/
def cancelSchedule (s : State) (q : Req) (selector : Nat) (release : Bool) (kind target : Nat) (what : BitVec 16) : State :=
  match cancelCheck s q.ep selector what with
  | some c => s.finish q opCancel c []
  | none =>
    let tgt := schedTarget s { kind := kind, target := target, action := 0, policy := 0, apply := 0, value := 0, width := 0 }
    let owner := if selector = 2 ∧ isAuthority s q.ep then 0xFF else q.ep.val
    let sel := selects selector tgt.1 tgt.2 what owner
    let live := s.sched.filter sel
    let atOnce := live.filter (fun r => r.state == 1 && stillQueued s r)
    let named := if release then (match selector with
        | 2 => if kind ≤ 2 then targetBanks s tgt.1 tgt.2 else []
        | 4 => allBanks
        | _ => []) else []
    let banks := allBanks.filter (fun b => bankPresent s b && ((live.map (·.bank)).contains b || named.contains b))
    let s1 := atOnce.foldl (fun t r => t.recordOutcome r.bank r.handle 6 0 (now s) s.tb.uncertain true) s
    let mark := if selector ≤ 1 then what else 0xFFFF
    let s2 := banks.foldl (fun t b => t.sendDown b (.cancel selector release tgt.1 tgt.2 mark owner))
      (if release then s1.releasePending atOnce owner else s1)
    let outcome := if selector = 0 then (if atOnce = [] then (live.head?.map (·.outcome)).getD 0 else 6) else 0xFF
    let payload := cancelPayload (atOnce.map (·.handle)).eraseDups.length 0 outcome
    if banks = [] then s2.finish q opCancel 0 payload
    else
      let s3 := s2.modEp q.ep (setPhase q.tag 1)
      let job : LongRun := { ep := q.ep, tag := q.tag, opcode := opCancel, result := 0, payload := payload,
                             wait := banks.foldl (fun m b => m ||| (1#4 <<< b.val)) 0,
                             cursor := none, region := (0, 0),
                             handle := if selector = 0 then some what else none }
      { s3 with mbx := { s3.mbx with long := s3.mbx.long ++ [job] } }.clearPosted q.ep

/-- R255, R256: CANCEL_SCHEDULE. -/
def execCancelSchedule (q : Req) (selector : Nat) (release : Bool) (kind target : Nat) (what : BitVec 16) (s : State) :
    Host.Outcome State Fault Refusal :=
  .next (cancelSchedule s q selector release kind target what)

/-- The request behind an outstanding command. -/
def reqOf (s : State) (ep : Fin 8) (tag : Nat) : Req :=
  { ep := ep, tag := tag, seq := match findTag (s.mbx.eps[ep]) tag with | some o => o.seq | none => 0 }

/-- A bank's cancel report on the logic side: the entries end CANCELLED, and the command that waits for the bank counts
them and completes with the last report (R256). -/
def State.cancelReport (s : State) (b : Fin 4) (cancelled already : Nat) (handles : List (BitVec 16)) (unc : Bool) : State :=
  let mine := (handles.filter (fun h => s.sched.any (fun r => r.handle == h && r.bank == b && !r.reported))).length
  let s1 := handles.foldl (fun t h => t.recordOutcome b h 6 0 (now s) unc true) s
  match s1.mbx.long.find? (fun j => j.opcode == opCancel && j.wait.getLsbD b.val) with
  | none => s1
  | some j =>
    let c := leNat (j.payload.take 2) + min mine cancelled
    let a := leNat ((j.payload.drop 2).take 2) + already
    let o := (j.payload.getD 4 0).toNat
    let wait := j.wait &&& ~~~ (1#4 <<< b.val)
    let rest := s1.mbx.long.erase j
    let payload := cancelPayload c a o
    if wait = 0 then
      let s2 := { s1 with mbx := { s1.mbx with long := rest } }
      s2.finish (reqOf s2 (fin8 j.ep) j.tag) opCancel 0 payload
    else
      { s1 with mbx := { s1.mbx with long := rest ++ [{ j with payload := payload, wait := wait }] } }

/-- R243, R249, R250: WIDTH after its application a pulse that nothing has superseded is released; where an entry on its target falls
due in the same cycle, the target goes from the one to the other. -/
def execPulseRelease (b : Fin 4) (s : State) : Host.Outcome State Fault Refusal :=
  let clock := bankNow (s.banks[b])
  let due := (s.banks[b]).pulses.filter (fun p => reached p.2 clock)
  let next := (dueEntries s b none).filter (takesTarget s b false)
  .next (due.foldl (fun t p =>
    if next.any (fun r => sameTarget r p.1) then t.endPulses b p.1.kind p.1.target
    else t.releaseTarget b (p.1.kind, p.1.target)) s)

/-- Held entries are applied in one bank-clock cycle, and only the last on a target shows (R253). -/
def State.resumeEntries (s : State) (b : Fin 4) : List SchedRec → State
  | [] => s
  | r :: rest =>
    (s.applyEntry b r 2 (lagNs (bankNow (s.banks[b])) r.apply) (rest.any (fun x => sameTarget x r))).resumeEntries b rest

/-- R253: held entries apply, in order of their instants, once the bank is no longer time-uncertain and within
HOLD_LIMIT. -/
def execHeldEntryResume (b : Fin 4) (s : State) : Host.Outcome State Fault Refusal :=
  if bankUnc s b then .next s
  else
    let clock := bankNow (s.banks[b])
    let limit := s.b b 4 0x0D 0 0x03 * 1000
    let go (r : SchedRec) : Bool := r.state == 3 && reached clock (ctAddNs r.apply limit)
    let due := (s.banks[b]).queue.filter go
    let s1 := s.modBank b (fun k => { k with queue := k.queue.filter (fun r => !go r) })
    .next (s1.resumeEntries b (sortByApply due))

/-- R253: a held entry reaches HOLD_LIMIT and is dropped, with TB-12. -/
def execHoldLimitExpiry (b : Fin 4) (s : State) : Host.Outcome State Fault Refusal :=
  let clock := bankNow (s.banks[b])
  let limit := s.b b 4 0x0D 0 0x03 * 1000
  let go (r : SchedRec) : Bool := r.state == 3 && reached (ctAddNs r.apply limit) clock
  let due := (s.banks[b]).queue.filter go
  let s1 := s.modBank b (fun k => { k with queue := k.queue.filter (fun r => !go r) })
  .next (due.foldl (fun t r => (t.bankRaise b (ident .tb 12) (targetObj r.kind) r.target).report b r 4 0 true) s1)

end Sys2Proof.Machine
end

