-- ==== Sys2Proof/Machine/FastInput.lean ====
section
/-! DEFINITION. The meanings of the fast-input rows (Fast timed inputs and counters). -/

namespace Sys2Proof.Machine

/-- The timestamp of a terminal crossing (R62, R212): the capture less the fused front-end delay of the input and polarity, on the
grid of the TDC. -/
def stampF (f : Fin 8) (rising : Bool) (t : CellTime) : CellTime :=
  ctGrid (BitVec.ofNat 72 (t.toNat - Config.frontDelay f.val rising))

/-- R213, R79: a comparator transition of a fast input, captured at `t`; with debounce bypassed it is an accepted edge at once.
Before its arrival the bank neither counts nor captures (R558), and the state follows silently. -/
def execFastInputEdge (f : Fin 8) (level : Bool) (t : CellTime) (s : State) : Host.Outcome State Fault Refusal :=
  let b := bankOfF f
  let lvl := level != (s.b b 1 0x0C f 0x03 == 1)
  let k := s.f[f]
  if (s.banks[b]).powered = false ∨ lvl = k.db.level then .next s
  else
    let g := stampF f level t
    let s1 := s.modF f (fun k => { k with db := { k.db with level := lvl, since := g } })
    if (s.banks[b]).arrived = false then
      .next (s1.modF f (fun k => { k with db := { k.db with state := lvl }, status := setBit16 k.status 0 lvl }))
    else if s.b b 2 0x0C f 0x04 = 0 ∧ lvl ≠ k.db.state then .next (s1.acceptF f lvl g)
    else .next s1

/-- R226: CAPTURE_POP removes the entries up to and including the named one. -/
def capturePop (s : State) (f : Fin 8) (seq : BitVec 16) : CmdRes :=
  let q := s.captures[f]
  match q.findIdx? (fun c => c.seq == seq) with
  | none => refuse s rcOutOfRange
  | some i => okRes ({ s with captures := s.captures.set f (q.drop (i + 1)) }.fFlag f 3 false)

/-- R226: a write of CAPTURE_POP. -/
def execCapturePop (q : Req) (f : Fin 8) (seq : BitVec 16) (s : State) : Host.Outcome State Fault Refusal :=
  .next ((guardWrite s q (capturePop s f seq)).finish q opSetParam)

/-- R228, R230: the bank copy reaches a gate end. -/
def execFrequencyGateEnd (f : Fin 8) (s : State) : Host.Outcome State Fault Refusal :=
  .next (s.closeGates f (bankNow (s.banks[bankOfF f])).toNat)

/-- R229: no rising edge for STOP_TIMEOUT. -/
def execStopTimeout (f : Fin 8) (s : State) : Host.Outcome State Fault Refusal :=
  let b := bankOfF f
  let limit := nsUnits (s.b b 2 0x0C f 0x14 * 1000000)
  if fBit s f 2 = false ∧ limit ≤ (bankNow (s.banks[b]) - s.f[f].lastRise).toNat then .next (s.stopF f) else .next s

/-- The next instant of the grid, where LATCH_SOURCE selects it and the bank copy has reached it (R231, R233). -/
def latchDueAt (s : State) (f : Fin 8) : Option CellTime :=
  let b := bankOfF f
  let period := nsUnits (s.b b 4 0x0C f 0x17 * 1000)
  let next := (s.f[f].lastGrid.toNat / period + 1) * period
  if s.b b 1 0x0C f 0x15 = 0x40 ∧ (s.banks[b]).arrived ∧ 0 < period ∧ next ≤ (bankNow (s.banks[b])).toNat then
    some (BitVec.ofNat 72 next)
  else none

/-- The latch of a grid instant that is due. -/
def State.latchGrid (s : State) (f : Fin 8) : State :=
  match latchDueAt s f with
  | some t => (s.latch f t).modF f (fun k => { k with lastGrid := t })
  | none => s

/-- R231, R233: an instant of the cell-time grid; each that the bank copy reaches moving upward is latched once. -/
def execLatchTrigger (f : Fin 8) (t : CellTime) (s : State) : Host.Outcome State Fault Refusal :=
  .next (if latchDueAt s f = some t then s.latchGrid f else s)

/-- R233: LATCH_AT goes to the bank as an armed instant. -/
def latchAt (s : State) (f : Fin 8) (t : CellTime) : CmdRes :=
  if bankPresent s (bankOfF f) then okRes (s.sendDown (bankOfF f) (.latch (fIn f) t true)) else okRes s

/-- R233: a write of LATCH_AT. -/
def execLatchAt (q : Req) (f : Fin 8) (t : CellTime) (s : State) : Host.Outcome State Fault Refusal :=
  .next ((guardWrite s q (latchAt s f t)).finish q opSetParam)

/-- The armed latch of an input, where the bank copy has reached its instant. -/
def State.latchArmed (s : State) (f : Fin 8) : State :=
  let b := bankOfF f
  let clock := bankNow (s.banks[b])
  match s.f[f].armed with
  | some (t, h) =>
    if reached t clock then
      let s1 := s.latchNamed f t
      if h = 0 then s1 else s1.sendUp b (.outcome h 0 0 clock (bankUnc s b) true)
    else s
  | none => s

/-- R233: the bank copy reaches an armed instant. -/
def execNamedLatchInstant (f : Fin 8) (s : State) : Host.Outcome State Fault Refusal := .next (s.latchArmed f)

/-- A write of COUNTER takes effect (R220, R234): the latches that are due come first. -/
def State.writeCount (s : State) (f : Fin 8) (v : Word) : State :=
  let s1 := (s.latchGrid f).latchArmed f
  s1.countStep f (bankNow (s.banks[bankOfF f])) (.set v false)

end Sys2Proof.Machine
end

