-- ==== Sys2Proof/Machine/Universal.lean ====
section
/-! DEFINITION. The universal channels at their terminals: the conditions of digital inputs, analogue inputs and digital
outputs (R79 to R91, R100), and the meanings of their rows. -/

namespace Sys2Proof.Machine

/-! ### The clock of the converters (R41, R141) -/

/-- The cell time of a modulator edge, in 1/256 ns, rounded to the nearest (R41): a period is 15625/96 ns. -/
def perTime (n : Nat) : Nat := (250000 * n + 3) / 6

/-- The number of the newest modulator edge at a cell time. -/
def perOf (t : Nat) : Nat := t * 3 / 125000

/-- The first modulator edge at or after a cell time. -/
def perAfter (t : Nat) : Nat :=
  let n := perOf t
  if t ≤ perTime n then n else n + 1

/-- The bank's cell time as a number of 1/256 ns. -/
def bankUnits (s : State) (b : Fin 4) : Nat := (bankNow (s.banks[b])).toNat

/-! ### Open wires (R82 to R88) -/

/-- OPEN is set on an analogue channel from now on (R88, R155). -/
def State.openA (s : State) (u : Fin 16) (id : Nat) : State :=
  let t := bankUnits s (bankOfU u)
  ((s.uFlag u 1 true).modU u (fun k => { k with openSince := some t })).bankRaise (bankOfU u) id 2 u

/-- OPEN clears on an analogue channel. -/
def State.closeA (s : State) (u : Fin 16) (id : Nat) : State :=
  let t := bankUnits s (bankOfU u)
  ((s.uFlag u 1 false).modU u (fun k => { k with openSince := none, openUntil := t })).bankEnd (bankOfU u) id 2 u

/-- SHORT is set on a voltage output from now on (R95, R155). -/
def State.shortA (s : State) (u : Fin 16) : State :=
  let t := bankUnits s (bankOfU u)
  ((s.uFlag u 2 true).modU u (fun k => { k with openSince := some t })).bankRaise (bankOfU u) (ident .ucf 8) 2 u

/-- SHORT clears on a voltage output. -/
def State.unshortA (s : State) (u : Fin 16) : State :=
  let t := bankUnits s (bankOfU u)
  ((s.uFlag u 2 false).modU u (fun k => { k with openSince := none, openUntil := t })).bankEnd
    (bankOfU u) (ident .ucf 8) 2 u

/-- A digital input whose front end works: the bank has arrived, the mode is a DI mode, the front end has settled. -/
def diLive (s : State) (u : Fin 16) : Bool :=
  (s.banks[bankOfU u]).arrived && isDi (uMode s u) && s.u[u].settled

/-- The counter that no step moves, at an instant of a bank's copy. -/
def bankMono (s : State) (b : Fin 4) (t : CellTime) : BitVec 96 := s.tb.mono - ((s.banks[b]).copy - t.setWidth 96 <<< 24)

/-- The TDC of a digital input at a transition (R62): the timestamp on its grid, which it captures. Within 40 ns of its last
capture of the same polarity it captures nothing, and the transition has the stamp of that capture (DESIGN CHOICE, assumption
log 23). -/
def stampU (d : Debounce) (level : Bool) (mono : BitVec 96) (t : CellTime) : CellTime × Debounce :=
  let last := if level then d.riseCap else d.fallCap
  match last with
  | some (m, g) =>
    if tdcBlind (some m) mono then (g, d)
    else (ctGrid t, if level then { d with riseCap := some (mono, ctGrid t) } else { d with fallCap := some (mono, ctGrid t) })
  | none => (ctGrid t, if level then { d with riseCap := some (mono, ctGrid t) } else { d with fallCap := some (mono, ctGrid t) })

/-- The comparator of a universal channel is at a level from a transition on; each transition restarts the debounce count. -/
def State.comparatorU (s : State) (u : Fin 16) (level : Bool) (t : CellTime) : State :=
  let st := stampU s.u[u].db level (bankMono s (bankOfU u) t) t
  s.modU u (fun k => { k with db := { st.2 with level := level, since := st.1 } })

/-- R79, R80: the comparator of a universal channel. In a DI mode each transition restarts the debounce count, and with
debounce bypassed it is an accepted edge; in DO the comparator reads the terminal back (R89). -/
def execDiComparatorTransition (u : Fin 16) (level : Bool) (t : CellTime) (s : State) : Host.Outcome State Fault Refusal :=
  let k := s.u[u]
  if level = k.db.level then .next s
  else
    let s1 := s.comparatorU u level t
    if uMode s u = 3 ∧ (s.banks[bankOfU u]).arrived then .next (s1.uLive u 0 level)
    else if diLive s u ∧ s.b (bankOfU u) 2 0x06 u 0x0D = 0 ∧ level ≠ k.db.state ∧ k.db.fresh = false then
      .next (s1.acceptU u level s1.u[u].db.since)
    else .next s1

/-- R79 to R81: the comparator has held its level for DEBOUNCE. The first state after a mode change makes no record. -/
def debounceU (s : State) (u : Fin 16) : State :=
  let k := s.u[u]
  let b := bankOfU u
  let held := decide (nsUnits (s.b b 2 0x06 u 0x0D * 1000) ≤ (bankNow (s.banks[b]) - k.db.since).toNat)
  if diLive s u && held then
    if k.db.fresh then
      (s.modU u (fun k => { k with db := { k.db with fresh := false, state := k.db.level } })).uLive u 0 k.db.level
    else if k.db.level = k.db.state then s
    else s.acceptU u k.db.level k.db.since
  else s

/-- The same for a fast input (R213). -/
def debounceF (s : State) (f : Fin 8) : State :=
  let k := s.f[f]
  let b := bankOfF f
  let held := decide (nsUnits (s.b b 2 0x0C f 0x04 * 1000) ≤ (bankNow (s.banks[b]) - k.db.since).toNat)
  if (s.banks[b]).arrived && held && k.db.level != k.db.state then s.acceptF f k.db.level k.db.since
  else s

/-- R80, R213: the edge is accepted. -/
def execDebounceExpiry (c : DiRef) (s : State) : Host.Outcome State Fault Refusal :=
  match c with
  | .uni u => .next (debounceU s u)
  | .fast f => .next (debounceF s f)

/-- R82, R83, R103: the input current of a digital input, and wire break where WB_ENABLE selects it. When OPEN is set while the
debounced state is 1, the state falls at once, with the time of the comparator's transition where it has made one; where it has
not, the debounce counts from that moment (DESIGN CHOICE, assumption log 23). -/
def wireBreakU (s : State) (u : Fin 16) (below : Bool) (cur : Int) : State :=
  let b := bankOfU u
  if diLive s u then
    let s1 := s.modU u (fun k => { k with diCurrent := cur })
    if s.b b 1 0x06 u 0x0E = 0 then s1
    else if below && !uBit s u 1 then
      let s2 := (s1.uFlag u 1 true).bankRaise b (ident .ucf 1) 2 u
      let k := s.u[u]
      let t := ctGrid (bankNow (s.banks[b]))
      if k.db.fresh = false ∧ k.db.state then
        if k.db.level then (s2.acceptU u false t).modU u (fun k => { k with db := { k.db with since := t } })
        else s2.acceptU u false k.db.since
      else s2
    else if !below && uBit s u 1 then (s1.uFlag u 1 false).bankEnd b (ident .ucf 1) 2 u
    else s1
  else s

/-- R235: wire break on a fast input: the forced falling transition is neither counted nor captured, and the input is
STOPPED; the decoder of its pair takes the level. -/
def wireBreakF (s : State) (f : Fin 8) (below : Bool) : State :=
  let b := bankOfF f
  if (s.banks[b]).arrived && s.b b 1 0x0C f 0x1C == 1 then
    if below && !fBit s f 1 then
      let s1 := ((s.fFlag f 1 true).bankRaise b (ident .fti 1) 5 f).stopF f
      let k := s.f[f]
      if k.db.state then
        let t := if k.db.level then ctGrid (bankNow (s.banks[b])) else k.db.since
        let s2 := (s1.fFlag f 0 false).modF f (fun x => { x with
          db := { x.db with state := false, since := if k.db.level then t else x.db.since } })
        (s2.syncAB (pairFirst f) t).triggerRecord f true t
      else s1
    else if !below && fBit s f 1 then (s.fFlag f 1 false).bankEnd b (ident .fti 1) 5 f
    else s
  else s

/-- R82, R235: the input current has stayed below or above its threshold for WB_WINDOW. -/
def execWireBreakWindowExpiry (c : DiRef) (below : Bool) (cur : Int) (s : State) : Host.Outcome State Fault Refusal :=
  match c with
  | .uni u => .next (wireBreakU s u below cur)
  | .fast f => .next (wireBreakF s f below)

/-- The value of a normalised Q2.30 number in µV or nA. -/
def physOfX (m : Nat) (x : Int) : Int := rangeLow m + spanOf m * x / 2 ^ 30

/-- Whether a relief-converter overlap runs on a channel (R85, R116). -/
def inOverlap (s : State) (u : Fin 16) : Bool :=
  let k := s.banks[bankOfU u]
  k.chosen == some (uIn u) && (k.phase == 2 || k.phase == 7)

/-- Whether an overlap runs, or begins within two wide-tap periods (R85, R115): RELIEF_SETTLE or RECONNECT has at most two words
left. -/
def overlapNear (s : State) (u : Fin 16) : Bool :=
  let k := s.banks[bankOfU u]
  let n := s.u[u].rot.words
  inOverlap s u || (k.chosen == some (uIn u) && ((k.phase == 1 && decide (14 ≤ n)) || (k.phase == 6 && decide (22 ≤ n))))

/-- The number of the first wide-tap instant at or after a cell time (R141, R161). -/
def tapNext (t : Nat) : Nat := (perAfter t + 63) / 64

/-- R84, R85: an open-terminal test slot begins (no reading) unless an overlap defers it, 10 ms after the last began at the
earliest, and ends two wide-tap periods later with the raw reading in µV, which decides OPEN against the reading before the
slot. -/
def execOpenTerminalTest (u : Fin 16) (reading : Option Int) (s : State) : Host.Outcome State Fault Refusal :=
  let b := bankOfU u
  let m := uMode s u
  let k := s.u[u]
  if (s.banks[b]).arrived && isAiv m && k.settled && s.b b 1 0x06 u 0x0E == 1 then
    match reading with
    | none =>
      let tap := tapNext (bankUnits s b)
      if overlapNear s u || k.testTap.any (fun t => decide (tap < t + 960)) then .next s
      else .next (s.modU u (fun k => { k with testTap := some tap, testing := true }))
    | some r =>
      if k.testing && k.testTap.any (fun t => decide (perTime (64 * (t + 2)) ≤ bankUnits s b)) then
        let s1 := s.modU u (fun k => { k with testing := false })
        if r - physOfX m k.chain.lastX > 200000 then .next (if uBit s u 1 then s1 else s1.openA u (ident .ucf 1))
        else .next (if uBit s u 1 then s1.closeA u (ident .ucf 1) else s1)
      else .next s
  else .next s

/-! ### Current inputs (R87) and over-range (R102) -/

/-- A limiter enters its limit: STATUS.LIMIT is live, and the entry begins the time it is counted from (R87, R89, R104). -/
def State.limitOn (s : State) (u : Fin 16) : State :=
  let t := bankNow (s.banks[bankOfU u])
  (s.uFlag u 5 true).modU u (fun k => { k with limitAt := some (k.limitAt.getD t) })

/-- A limiter leaves its limit. -/
def State.limitOff (s : State) (u : Fin 16) : State :=
  (s.uLive u 5 false).modU u (fun k => { k with limitAt := none })

/-- Whether a limiter has been in its limit for a time, in 1/256 ns. -/
def limitFor (s : State) (u : Fin 16) (n : Nat) : Bool :=
  s.u[u].limitAt.any (fun t => decide (n ≤ (bankNow (s.banks[bankOfU u]) - t).toNat))

/-- R87: the limiter of a current input; once it has been in limit for 10 ms, the input switch opens. -/
def execProtectOff (l : LimitEvent) (s : State) : Host.Outcome State Fault Refusal :=
  let u := l.u
  let b := bankOfU u
  let m := uMode s u
  if (s.banks[b]).arrived && (m == 7 || m == 8) && !(s.u[u].inputOpen) then
    match l.edge with
    | .enter => .next (s.limitOn u)
    | .leave => .next (s.limitOff u)
    | .expire =>
      if limitFor s u (nsUnits 10000000) then
        let t := bankNow (s.banks[b])
        let s1 := ((s.limitOff u).uFlag u 3 true).modU u (fun k => { k with
          inputOpen := true, offAt := t, lowRun := 0, highRun := 0 })
        .next (s1.bankRaise b (ident .ucf 5) 2 u)
      else .next s
  else .next s

/-- R87, R624: the input switch closes after 1 s; UCF-05 ends when it has been closed for 10 ms without the limiter in
limit. -/
def execProtectOffReclose (u : Fin 16) (clean : Bool) (s : State) : Host.Outcome State Fault Refusal :=
  let b := bankOfU u
  let k := s.u[u]
  let since := (bankNow (s.banks[b]) - k.offAt).toNat
  if clean then
    if k.inputOpen = false ∧ k.limitAt = none ∧ k.offAt ≠ 0 ∧ nsUnits 1010000000 ≤ since then
      .next ((s.modU u (fun k => { k with offAt := 0 })).bankEnd b (ident .ucf 5) 2 u)
    else .next s
  else if k.inputOpen ∧ nsUnits 1000000000 ≤ since then
    .next ((s.uLive u 3 false).modU u (fun k => { k with inputOpen := false }))
  else .next s

/-- R102: OVER or UNDER for more than 100 ms, 9,600 wide-tap words. -/
def execOverRangePersist (u : Fin 16) (s : State) : Host.Outcome State Fault Refusal :=
  let k := s.u[u]
  if isAi (uMode s u) ∧ (k.status.getLsbD 3 ∨ k.status.getLsbD 4) ∧ k.satRun > 9600 ∧ k.rangeRaised = false then
    .next ((s.modU u (fun k => { k with rangeRaised := true })).bankRaise (bankOfU u) (ident .ucf 9) 2 u)
  else .next s

/-! ### Digital outputs (R89 to R91) -/

/-- A DO channel that works. -/
def doLive (s : State) (u : Fin 16) : Bool := (s.banks[bankOfU u]).arrived && uMode s u == 3

/-- The driver of a DO channel has been in limit for DO_SC_TIME: it goes off (R89, R90). A limit reached again after a restart is a
failed restart; the channel latches off with DO_RESTART 0, and at the 8th consecutive failed restart. -/
def State.scOffU (s : State) (u : Fin 16) : State :=
  let b := bankOfU u
  let k := s.u[u]
  let n := if k.scShort then k.retries + 1 else k.retries
  let latched := decide (s.b b 1 0x06 u 0x15 = 0) || decide (n ≥ 8)
  let t := bankNow (s.banks[b])
  let s1 := (s.uFlag u 2 true).modU u (fun k => { k with scShort := true, scOff := true, retries := n, offAt := t })
  let s2 := if k.scShort then s1 else s1.bankRaise b (ident .ucf 2) 2 u
  let s3 := if latched then s2.uFlag u 6 true else s2
  s3.driveDo u

/-- R89, R90: the current limit of a DO driver; once it has been in limit for DO_SC_TIME, it goes off. -/
def execDoScTimeExpiry (l : LimitEvent) (s : State) : Host.Outcome State Fault Refusal :=
  let u := l.u
  if doLive s u && doOn s u then
    match l.edge with
    | .enter => .next (s.limitOn u)
    | .leave => .next (s.limitOff u)
    | .expire =>
      if limitFor s u (nsUnits (s.b (bankOfU u) 2 0x06 u 0x14 * 1000)) then .next (s.scOffU u) else .next s
  else .next s

/-- The short of a DO channel is over: UCF-02 ends (R624). -/
def State.scEnd (s : State) (u : Fin 16) : State :=
  let k := s.u[u]
  let s1 := (s.modU u (fun k => { k with scShort := false, scOff := false, retries := 0 })).uLive u 2 k.shortTest
  if k.scShort then s1.bankEnd (bankOfU u) (ident .ucf 2) 2 u else s1

/-- R90: a restart 100 ms after the turn-off, and its end after 100 ms on without limit. -/
def execDoRestart (u : Fin 16) (clean : Bool) (s : State) : Host.Outcome State Fault Refusal :=
  let k := s.u[u]
  let t := bankNow (s.banks[bankOfU u])
  if doLive s u && k.scShort && !(k.status.getLsbD 6) then
    if clean then
      if k.scOff = false ∧ doOn s u ∧ k.limitAt = none ∧ nsUnits 100000000 ≤ (t - k.doLimitRun).toNat then .next (s.scEnd u)
      else .next s
    else if k.scOff ∧ nsUnits 100000000 ≤ (t - k.offAt).toNat then
      .next ((s.modU u (fun k => { k with scOff := false, doLimitRun := t })).driveDo u)
    else .next s
  else .next s

/-- R91: the DO latch is cleared, and with it the restart state. -/
def State.unlatch (s : State) (u : Fin 16) : State :=
  if uBit s u 6 then ((s.uLive u 6 false).scEnd u).driveDo u else s

/-- R89: the open-load test of a DO output. -/
def execDoOpenLoad (u : Fin 16) (present : Bool) (s : State) : Host.Outcome State Fault Refusal :=
  let b := bankOfU u
  if doLive s u then
    if present then
      if doOn s u && s.b b 1 0x06 u 0x16 == 1 && !uBit s u 1 then
        .next ((s.uFlag u 1 true).bankRaise b (ident .ucf 3) 2 u)
      else .next s
    else if uBit s u 1 then .next ((s.uFlag u 1 false).bankEnd b (ident .ucf 3) 2 u)
    else .next s
  else .next s

/-- R89: the short-to-supply test of an off DO terminal. -/
def execDoShortToSupply (u : Fin 16) (present : Bool) (s : State) : Host.Outcome State Fault Refusal :=
  let b := bankOfU u
  let k := s.u[u]
  if doLive s u then
    if present then
      if !doOn s u && !k.shortTest then
        .next (((s.uFlag u 2 true).modU u (fun k => { k with shortTest := true })).bankRaise b (ident .ucf 6) 2 u)
      else .next s
    else if k.shortTest then
      .next (((s.uLive u 2 k.scShort).modU u (fun k => { k with shortTest := false })).bankEnd b (ident .ucf 6) 2 u)
    else .next s
  else .next s

/-- R100, R101, R143: the front end has settled: stage 1 restarts on a modulator edge, and a digital input begins to
decide its first state. -/
def execFrontEndSettled (u : Fin 16) (s : State) : Host.Outcome State Fault Refusal :=
  let b := bankOfU u
  let k := s.u[u]
  let t := bankNow (s.banks[b])
  if (s.banks[b]).arrived ∧ k.settled = false ∧ reached k.settleAt t then
    let m := uMode s u
    let s1 := s.modU u (fun k => { k with settled := true })
    if isDi m then
      if s.b b 2 0x06 u 0x0D = 0 then
        .next ((s1.modU u (fun k => { k with db := { k.db with since := t, fresh := false, state := k.db.level } })).uLive
          u 0 k.db.level)
      else .next (s1.modU u (fun k => { k with db := { k.db with since := t, fresh := true } }))
    else if isAnalogue m then
      .next (s1.modU u (fun k => { k with chain := { k.chain with
        holdAt := none, resetAt := perAfter k.settleAt.toNat, lastTap := none,
        state := if k.chain.state = 1 then 2 else k.chain.state } }))
    else .next s1
  else .next s

end Sys2Proof.Machine
end

