-- ==== Sys2Proof/Machine/ChainOps.lean ====
section
/-! DEFINITION. The stages of the filter chain, its grid and window, and its restart after a change (R111 to R113, R141 to
R159). -/

namespace Sys2Proof.Machine

/-- Saturation to the signed 32-bit range. -/
def sat32 (v : Int) : Int := max (-0x80000000) (min 0x7FFFFFFF v)

/-! ### Stage 1 and the correction (R112, R142) -/

/-- One modulator period of the integrators. -/
def sincStep (k : Sinc4) (m : BitVec 5) : Sinc4 :=
  let i1 := k.i1 + m.signExtend 32
  let i2 := k.i2 + i1
  let i3 := k.i3 + i2
  { k with i1 := i1, i2 := i2, i3 := i3, i4 := k.i4 + i3 }

/-- The combs at a wide-tap instant, and the raw word. -/
def sincComb (k : Sinc4) : Sinc4 × Int :=
  let c1 := k.i4 - k.z1
  let c2 := c1 - k.z2
  let c3 := c2 - k.z3
  let r1 := c3 - k.z4
  ({ k with z1 := k.i4, z2 := c1, z3 := c2, z4 := c3 }, (r1.toInt + 16) / 32)

/-- The periods of one wide-tap period and its raw word. -/
def sincRun (k : Sinc4) (ms : List (BitVec 5)) : Sinc4 × Int := sincComb (ms.foldl sincStep k)

/-- Whether five consecutive words equal a full-scale code (R125); `n` counts the run so far. -/
def fullScale (code : BitVec 5) : Nat → List (BitVec 5) → Bool
  | _, [] => false
  | n, m :: rest => if m = code then (n + 1 == 5) || fullScale code (n + 1) rest else fullScale code 0 rest

/-- A temperature model of R110 with its coefficients by power: its value at a temperature in 0.01 °C, as a polynomial in the
difference to 25 °C. -/
def modelAt (coef : Nat → Int) (powers : Nat) (t : Int) : Int :=
  (List.range powers).foldl (fun (a : Int) i => a + coef i * (t - 2500) ^ i) 0

/-- V_REFC(T) of a bank in 2^-64 µV: a cubic in (T − 25 °C) (R110). -/
def refCheck (cal : List Word) (bank : Nat) (t : Int) : Int := modelAt (Config.refCheckCoef cal bank) 4 t

/-- V_REFP(T) of a bank in 2^-64 µV: a cubic in (T − 25 °C) (R110). -/
def refPrimary (cal : List Word) (bank : Nat) (t : Int) : Int := modelAt (Config.refPrimaryCoef cal bank) 4 t

/-- R_S(T) of a channel in 2^-64 µΩ: a quadratic (R110). -/
def senseResistance (cal : List Word) (u : Nat) (t : Int) : Int := modelAt (Config.senseCoef cal u) 3 t

/-- The calibrated input of a raw word as a fraction: numerator and denominator, in µV or nA. -/
def calInput (s : State) (u : Fin 16) (m : Nat) (c : Coef) (d : Int) : Int × Int :=
  let b := s.banks[bankOfU u]
  let v := (d - c.dz) * c.k.toNat
  if m = 7 ∨ m = 8 ∨ m = 9 then (1000 * 1000000 * v * 2 ^ 64, 4294967296 * senseResistance b.cal u b.dieTemp)
  else (v, 4294967296)

/-- The normalised input in Q2.30 (R71, R112). -/
def xOf (m : Nat) (inp : Int × Int) : Int := sat32 (roundDiv ((inp.1 - rangeLow m * inp.2) * 2 ^ 30) (spanOf m * inp.2))

/-- The saturation of a word: bit 0 high, bit 1 low (R125). -/
def satOf (m : Nat) (ms : List (BitVec 5)) (inp : Int × Int) : BitVec 8 :=
  let lim := measLimits m
  let hi := fullScale 15 0 ms || decide (lim.2 * inp.2 < inp.1)
  let lo := fullScale (-15) 0 ms || decide (inp.1 < lim.1 * inp.2)
  (if hi then 1 else 0) ||| (if lo then 2 else 0)

/-- The bit of a word that a relief-converter input took part in (R117). -/
def partRelief : BitVec 8 := 4

/-! ### The coefficients (R145, R149) -/

/-- A free coefficient of a half-band stage, in Q1.23. -/
def freeTap (stage d : Nat) : Int := (Config.firTap stage d).toInt

/-- A free coefficient of the stage 5 prototype, in Q1.23. -/
def freePoly (i : Nat) : Int := (Config.polyTap i).toInt

/-- Tap i of a half-band filter with 2n + 1 taps: 2^22 at the centre, 0 at even distances, symmetric, and the sum 2^23. -/
def halfTap (stage n i : Nat) : Int :=
  let d := if i ≤ n then n - i else i - n
  if d = 0 then 2 ^ 22
  else if d % 2 = 0 then 0
  else if d = 1 then
    2 ^ 21 - ((List.range n).filter (fun e => e % 2 == 1 && e > 1)).foldl (fun a e => a + freeTap stage e) 0
      - (if n % 2 = 1 then freeTap stage n else 0)
  else freeTap stage d

/-- The sum of the free taps of stage 5 below the centre in a class modulo 256, but the one next to the centre. -/
def polySum (r : Nat) : Int := ((List.range 15).map (fun q => if 256 * q + r = 0 then 0 else freePoly (256 * q + r))).foldl (· + ·) 0

/-- Coefficient i of the stage 5 prototype: symmetric about 4096, 0 at the ends, each phase's 32 coefficients summing to
2^23 (R149). -/
def polyCoef (i : Nat) : Int :=
  let j := if i ≤ 4096 then i else 8192 - i
  let r := j % 256
  if j = 0 then 0
  else if j = 4096 then 2 ^ 23 - 2 * (polySum 0 + freePoly 3840)
  else if j < 3840 then freePoly j
  else if r = 0 ∨ r > 128 then freePoly j
  else if r = 128 then 2 ^ 22 - polySum 128
  else 2 ^ 23 - polySum r - polySum (256 - r) - freePoly (3840 + (256 - r))

/-! ### Stages 2 to 5 (R144 to R149) -/

/-- R_M of the moving average. -/
def recip (m : Nat) : Nat := (2 ^ 45 + m) / (2 * m)

/-- Stage 2: the window, the running sum and the output. -/
def stage2 (m : Nat) (window : List Int) (sum x : Int) : List Int × Int × Int :=
  if m ≤ 1 then ([x], x, x)
  else
    let out := if window.length ≥ m then window.getD (m - 1) 0 else 0
    let sum' := sum + x - out
    ((x :: window).take m, sum', sat32 ((sum' * recip m + 2 ^ 43) / 2 ^ 44))

/-- A half-band filter over a history, newest first. -/
def halfBand (stage n : Nat) (hist : List Int) : Int :=
  let acc := ((List.range (2 * n + 1)).map (fun i => halfTap stage n i * hist.getD i 0)).foldl (· + ·) 0
  sat32 ((acc + 2 ^ 22) / 2 ^ 23)

/-- The fallback stages: stage i takes inputs 256 × 2^i apart. -/
def fbRun (phase : Int) : List (List Int) → Nat → Int → Int → List (List Int) × Option (Int × Int)
  | [], _, c, v => ([], some (c, v))
  | h :: rest, i, c, v =>
    let h' := (v :: h).take 63
    let step : Int := 256 * 2 ^ i
    let c' := c - 31 * step
    if (c' - phase) % (2 * step) = 0 then
      let r := fbRun phase rest (i + 1) c' (halfBand 4 31 h')
      (h' :: r.1, r.2)
    else (h' :: rest, none)

/-- σ of a length M (R148). -/
def sigma (m : Nat) : Int := if m % 2 = 0 then -32 else 0

/-- One stage-2 input of a wide-tap instant goes through the chain (R144, R148). -/
def chainIn (g : Grid) (c : Chain) (w : Nat) (x : Int) : Chain :=
  let (window, sum, y2) := stage2 g.avg c.window c.sum x
  let phase : Int := g.anchor + sigma g.avg
  let c1 := { c with window := window, sum := sum, hist2 := (y2 :: c.hist2).take 31 }
  let t3 : Int := (w : Int) - 32 * (g.avg - 1) - 960
  if (t3 - phase) % 128 = 0 then
    let y3 := halfBand 3 15 c1.hist2
    let c2 := { c1 with hist3 := (y3 :: c1.hist3).take 63 }
    let t4 := t3 - 3968
    if (t4 - phase) % 256 = 0 then
      let y4 := halfBand 4 31 c2.hist3
      let r := fbRun phase c2.fb 0 t4 y4
      match r.2 with
      | some o => { c2 with fb := r.1, hist4 := (o :: c2.hist4).take 64 }
      | none => { c2 with fb := r.1 }
    else c2
  else c1

/-- Clear the stages 2 to 5 and the fallback for a grid (R156). -/
def clearStages (g : Grid) (c : Chain) : Chain :=
  { c with window := [], sum := 0, hist2 := [], hist3 := [], hist4 := [], fb := List.replicate (g.shift.getD 0) [],
           flagged := [] }

/-- The stage-4 (or last fallback) output at an instant, `none` where the chain has not produced it. -/
def outAt (c : Chain) (t : Int) : Option Int := (c.hist4.find? (fun p => p.1 == t)).map (·.2)

/-- The resampler at an instant (R149): 0 for an input that the chain has not produced, and whether all 32 are there. -/
def stage5 (g : Grid) (c : Chain) (t : Nat) : Int × Bool :=
  let phase : Int := g.anchor + sigma g.avg
  let dt : Int := (t : Int) - phase
  let n := dt / 256
  let p := (dt - 256 * n).toNat
  let vs := (List.range 32).map (fun q => outAt c (phase + 256 * (n - 15 + q)))
  let acc := ((List.range 32).zip vs).foldl (fun a x => a + polyCoef (256 * x.1 + 256 - p) * x.2.getD 0) 0
  (sat32 ((acc + 2 ^ 22) / 2 ^ 23), vs.all (·.isSome))

/-- The main output at a grid instant, and whether the chain holds everything it needs. -/
def mainOut (g : Grid) (c : Chain) (t : Nat) : Int × Bool :=
  match g.shift with
  | none => stage5 g c t
  | some _ => match outAt c t with
    | some v => (v, true)
    | none => (0, false)

/-! ### Grids and windows (R147 to R154) -/

/-- Twice E, in wide-tap periods (R154). -/
def windowE2 (m : Nat) (shift : Option Nat) : Nat :=
  match shift with
  | none => 284 + (m - 1)
  | some k => 156 + 248 * (2 ^ k - 1) + (m - 1)

/-- H in µs, rounded up (R154). -/
def windowHalf (m : Nat) (shift : Option Nat) : Nat := (windowE2 m shift * 125 + 23) / 24

/-- D in modulator periods (R151). -/
def groupDelay (m : Nat) (shift : Option Nat) : Nat :=
  match shift with
  | none => 9150 + 32 * (m - 1)
  | some k => 5054 + 32 * (m - 1) + 7936 * (2 ^ k - 1)

/-- A grid from its settings. -/
def mkGrid (mode anchor m rs : Nat) (shift : Option Nat) : Grid :=
  { mode := mode, avg := m, shift := shift, anchor := anchor,
    period := match shift with | none => rs | some k => 256 * 2 ^ k,
    delay := groupDelay m shift, half := windowHalf m shift }

/-- The grid of a channel in its mode, from the bank's configuration (R93, R150): `none` where it takes no samples. -/
def gridOf (s : State) (u : Fin 16) : Option Grid :=
  let m := uMode s u
  let b := bankOfU u
  if isAo m then some (mkGrid m 0 1 6144 none)
  else if isAi m then
    let shift := if s.b b 1 0x08 u 0x03 = 1 then some (s.b b 1 0x08 u 0x04) else none
    some (mkGrid m s.u[u].chain.anchor (max 1 (s.b b 2 0x08 u 0x02)) (max 1 (s.b b 4 0x08 u 0x01)) shift)
  else none

/-- Where the output instants of a grid lie modulo its period: on the resampler path Φ, on the fallback path Φ + σ. -/
def gridPhase (g : Grid) : Nat :=
  match g.shift with
  | none => g.anchor % g.period
  | some _ => ((g.anchor : Int) + sigma g.avg).emod g.period |>.toNat

/-- The number of grid instants below a period number. -/
def gridBelow (g : Grid) (z : Nat) : Nat := (z + g.period - 1 - gridPhase g) / g.period

/-- The grid instants whose cell time lies in [lo, hi), in 1/256 ns. -/
def gridCount (g : Grid) (lo hi : Nat) : Nat :=
  if hi ≤ lo then 0 else gridBelow g (perAfter hi) - gridBelow g (perAfter lo)

/-- The latest instant of a grid that has fallen due at a cell time (R152). -/
def gridDue (g : Grid) (t : Nat) : Option Nat :=
  let z := perOf t + 1
  if z ≤ g.delay then none
  else
    let n := gridBelow g (z - g.delay)
    if n = 0 then none else some (gridPhase g + (n - 1) * g.period)

/-- H in 1/256 ns. -/
def halfUnits (g : Grid) : Nat := nsUnits (g.half * 1000)

/-- The grid instants whose cell time lies in [lo, hi), in modulator periods. -/
def gridList (g : Grid) (lo hi : Nat) : List Nat :=
  (List.range (gridCount g lo hi)).map (fun i => gridPhase g + (gridBelow g (perAfter lo) + i) * g.period)

/-- Whether an instant is one of a grid. -/
def onGrid (g : Grid) (t : Nat) : Bool := t % g.period == gridPhase g

/-! ### Restart after a change (R156, R157, R159, R162) -/

/-- The conditions of the words inside a window, from `lo` to `hi` in 1/256 ns. -/
def flagsIn (c : Chain) (lo hi : Nat) : BitVec 8 :=
  c.flagged.foldl (fun a p => if lo ≤ perTime p.1 ∧ perTime p.1 ≤ hi then a ||| p.2 else a) 0

/-- What the chain gives for an instant of a grid: the value, whether the chain holds all of it, and the conditions of its
window. -/
def gridValue (g : Grid) (c : Chain) (t : Nat) : Int × Bool × BitVec 8 :=
  let y := mainOut g c t
  (y.1, y.2, flagsIn c (perTime t - halfUnits g) (perTime t + halfUnits g))

/-- The chain is about to be cleared: what it gives for the samples of the old grid that are still to be delivered is kept. -/
def keepOld (c : Chain) : Chain :=
  { c with old := c.old.map (fun o =>
      if o.good && o.held.isNone then { o with held := some (gridValue o.grid c o.at_) } else o) }

/-- The stages 2 to 5 and the fallback are cleared. -/
def chainClear (c : Chain) : Chain :=
  let k := keepOld c
  match k.grid with
  | some g => clearStages g k
  | none => { k with window := [], sum := 0, hist2 := [], hist3 := [], hist4 := [], fb := [], flagged := [] }

/-- The instants of the grid in effect before a change at A that are not handled yet: from the last that has fallen due on. -/
def leftOver (c : Chain) (g : Grid) (a : Nat) : List Nat :=
  (gridList g (max c.changeAt (perTime (perOf a + 1 - g.delay - g.period))) a).filter (fun t => c.lastMain.all (fun l => decide (l < t)))

/-- Old samples in the order in which they fall due. -/
def insertOld (o : OldSample) : List OldSample → List OldSample
  | [] => [o]
  | x :: t => if o.at_ + o.grid.delay < x.at_ + x.grid.delay then o :: x :: t else x :: insertOld o t

/-- The instants of G_old that the first term of N counts at a change at A (R157): those whose window reaches past A. At a second
change before a delivered sample, those before the first change and those of the grid in between are counted already (R159). -/
def termList (c : Chain) (a : Nat) : List Nat :=
  if c.settling then
    match c.oldGrid with
    | some g => (gridList g (max (a + 1 - halfUnits g) c.changeAt) a).filter (fun t => !(c.grid.any (fun k => onGrid k t)))
    | none => []
  else
    match c.grid with
    | some g => gridList g (a + 1 - halfUnits g) a
    | none => []

/-- The chain takes a new grid at the instant A with the settled instant S: what is delivered of both grids follows from A
and S. `hold` puts stage 1 into reset until the front end has settled; `clear` clears the later stages. At a second change
before a delivered sample G_old is the grid before the first, and S the later instant; two at one instant are one change
(R159). -/
def chainRestart (c : Chain) (new : Option Grid) (a st : Nat) (hold clear : Bool) : Chain :=
  let again := c.settling
  let first := if again then c.oldGrid else c.grid
  let input (g : Option Grid) : Bool := g.any (fun k => isAi k.mode)
  let term := termList c a
  let n1 := (if input first then term.length else 0) + (if again && c.changeAt == a then c.firstTerm else 0)
  let settle := if again then max c.settledAt st else st
  let n2 := match new with
    | some g => if isAi g.mode then gridCount g a (settle + halfUnits g) else 0
    | none => 0
  let left := match c.grid with
    | some g => (leftOver c g a).map (fun t =>
        { at_ := t, grid := g, good := !again && decide (perTime t + halfUnits g ≤ a), held := none : OldSample })
    | none => []
  let more := match first with
    | some g => if again then term.map (fun t => { at_ := t, grid := g, good := false, held := none : OldSample }) else []
    | none => []
  { c with
    grid := new, oldGrid := first, old := (left ++ more).foldl (fun l o => insertOld o l) c.old, changeAt := a, settledAt := settle,
    clearAt := if hold then none else if clear then some a else c.clearAt, firstTerm := n1, settling := new.isSome, lastMain := none,
    settleCount := if input first || input new then BitVec.ofNat 16 (min 65535 (n1 + n2)) else c.settleCount,
    sinc := if hold then sincReset else c.sinc, holdAt := if hold then some a else c.holdAt,
    state := match new with
      | none => 0
      | some _ => if hold ∨ c.holdAt.isSome then 1 else 2 }

end Sys2Proof.Machine
end

