-- ==== Sys2Proof/Machine/FilterOps.lean ====
section
/-! DEFINITION. The samples of a universal channel and the rotation of its bank, as the wide-tap words drive them (R71, R84 to
R88, R94, R95, R111 to R125, R152 to R158). -/

namespace Sys2Proof.Machine

/-! ### Sample words (R11, R71, R72) -/

/-- A sample word from a Q2.30 value, the saturation bits and the other conditions. -/
def sampleWord (y : Int) (sat : BitVec 8) (settling opened short handover unc : Bool) : Word :=
  let over_ := sat.getLsbD 0
  let under := sat.getLsbD 1
  let v : Int := if over_ then 0x7FFFFF else if under then -0x800000
    else max (-0x800000) (min 0x7FFFFF (roundDiv y 256))
  let valid := !(settling || over_ || under || opened || short)
  let bits : Nat := (if valid then 1 else 0) + (if settling then 2 else 0) + (if over_ then 4 else 0)
    + (if under then 8 else 0) + (if opened then 16 else 0) + (if short then 32 else 0) + (if handover then 64 else 0)
    + (if unc then 128 else 0)
  BitVec.ofNat 32 (ofSigned 24 v * 256 + bits)

/-- The value field of a sample word. -/
def wordValue (w : Word) : Int := toSigned 24 (w.toNat / 256)

/-- PHYS of a sample word in a mode (R73). -/
def physOf (m : Nat) (w : Word) : Int :=
  if w.getLsbD 2 then 0x7FFFFFFF
  else if w.getLsbD 3 then -0x80000000
  else rangeLow m + roundDiv (spanOf m * wordValue w) (2 ^ 22)

/-- Whether a sample that falls due at `due` and whose window begins at `start` carries OPEN, or SHORT on a voltage output
(R155). -/
def openIn (k : UChan) (due start : Nat) : Bool :=
  (match k.openSince with | some t => decide (t < due) | none => false) || decide (start < k.openUntil)

/-- TIME_UNCERTAIN of a sample with an instant, in 1/256 ns (R49, R61). -/
def sampleUnc (s : State) (b : Fin 4) (t : Nat) : Bool :=
  let k := s.banks[b]
  bankMark k (BitVec.ofNat 72 t) || k.rephase.covers (BitVec.ofNat 72 t)

/-- The sample word of a grid instant for what the chain gives for it (R152, R155). -/
def mainWord (s : State) (u : Fin 16) (g : Grid) (t : Nat) (y : Int) (fl : BitVec 8) (settling : Bool) : Word :=
  let at_ := perTime t
  let k := s.u[u]
  let sat := fl ||| (if k.inputOpen then 1 else 0)
  let op := openIn k (perTime (t + g.delay)) (at_ - halfUnits g)
  let aov := g.mode == 10 || g.mode == 11
  sampleWord y sat settling (op && !aov) (op && aov) (fl.getLsbD 2) (sampleUnc s (bankOfU u) at_)

/-! ### The conversion of the wide-tap words (R86, R111 to R125) -/

/-- One word of a calibration measurement: the first 8 of 520 are discarded, the rest are summed. -/
def measStep (i : Nat) (sum d : Int) : Int := if i < 8 then 0 else sum + d

/-- The mean of 512 words (R111), rounded to nearest, ties away from zero (DESIGN CHOICE, assumption log 24). -/
def measMean (sum : Int) : Int := roundDiv sum 512

/-- The check span D_C − D_Z lies within ±1 % of its factory value (R119, R120). -/
def spanOk (cal : List Word) (front mode : Nat) (span : Int) : Bool :=
  let f := Config.factorySpan cal front mode
  decide (100 * (span - f).natAbs ≤ f.natAbs)

/-- K of a measurement (R111), an unsigned 48-bit value with 32 fraction bits. -/
def gainOf (cal : List Word) (bank front mode : Nat) (temp span : Int) : BitVec 48 :=
  let q := roundDiv (Config.injection cal front mode * refCheck cal bank temp) (span * 2 ^ 64)
  if 0 ≤ q ∧ q < 2 ^ 48 then BitVec.ofInt 48 q else Config.gainBeyond q

/-- One estimate δ in 0.01 ppm from the three means at a die temperature (R113). -/
def deltaOf (cal : List Word) (bank : Nat) (dz dr dc temp : Int) : Int :=
  roundDiv ((dc - dz) * refPrimary cal bank temp * 100000000) ((dr - dz) * refCheck cal bank temp) - 100000000

/-- The front end of the relief converter, and the channel whose mode it measures in: the one chosen, or the last chosen. -/
def reliefChan (s : State) (b : Fin 4) : Fin 16 :=
  match (s.banks[b]).chosen with
  | some i => uOf b i
  | none => uOf b (fin4 (s.banks[b]).lastChosen)

/-- The number of the newest wide-tap instant whose word is complete in a bank (R143). -/
def newTap (s : State) (b : Fin 4) : Nat := (perOf (bankUnits s b) - 126) / 64

/-- A word of the relief converter: RELIEF_CAL and CROSS_CHECK measure, RELIEF_SETTLE discards, the rest feeds the chosen
channel (R115, R123). With the bank's bit of ROTATION_ENABLE at 0 there is no CROSS_CHECK (R122). -/
def reliefWord (s : State) (b : Fin 4) (ms : List (BitVec 5)) : State :=
  let k := s.banks[b]
  let (sc, d) := sincRun k.reliefSinc ms
  let s0 := s.modBank b (fun k => { k with reliefSinc := sc })
  if k.phase = 0 ∨ (k.phase = 8 ∧ k.reliefOut = false ∧ natBit (s.b b 1 0x1B 0 0x02) b.val) then
    if k.reliefWords ≥ 1560 then s0
    else
      let i := k.reliefWords % 520
      let seg := k.reliefWords / 520
      let sum := measStep i k.reliefSum d
      let s1 := s0.modBank b (fun k => { k with
        reliefWords := k.reliefWords + 1, reliefSum := sum,
        reliefTemp := if seg = 2 ∧ i = 264 then k.dieTemp else k.reliefTemp,
        reliefDz := if seg = 0 ∧ i = 519 then measMean sum else k.reliefDz,
        reliefDr := if seg = 1 ∧ i = 519 then measMean sum else k.reliefDr,
        reliefDc := if seg = 2 ∧ i = 519 then measMean sum else k.reliefDc })
      if k.phase = 8 ∧ k.reliefWords = 1559 then
        s1.modBank b (fun k => { k with
          reliefWords := 0, deltas := k.deltas ++ [deltaOf k.cal b k.reliefDz k.reliefDr k.reliefDc k.reliefTemp] })
      else s1
  else if 2 ≤ k.phase ∧ k.phase ≤ 7 then
    let u := reliefChan s b
    let m := uMode s u
    let inp := calInput s u m k.relief d
    s0.modBank b (fun k => { k with reliefX := some (newTap s b, xOf m inp, satOf m ms inp) })
  else s0

/-- The phase of the rotation that a channel stands in; 8 for a channel that is not chosen. -/
def phaseOf (s : State) (u : Fin 16) : Nat :=
  let k := s.banks[bankOfU u]
  if k.chosen = some (uIn u) then k.phase else 8

/-- What stage 2 receives from a channel word and the relief word of the same instant, with its conditions (R115, R116). -/
def mixIn (ph j : Nat) (x : Int) (sat : BitVec 8) (relief : Option (Int × BitVec 8)) : Int × BitVec 8 :=
  match relief with
  | none => (x, sat)
  | some (r, rs) =>
    if ph = 2 ∧ j < 64 then
      (roundDiv ((127 - 2 * (j : Int)) * x + (2 * j + 1) * r) 128, sat ||| rs ||| partRelief)
    else if ph = 7 ∧ j < 64 then
      (roundDiv ((2 * (j : Int) + 1) * x + (127 - 2 * j) * r) 128, sat ||| rs ||| partRelief)
    else if 2 ≤ ph ∧ ph ≤ 6 then (r, rs ||| partRelief)
    else (x, sat)

/-- The rotation counts a word of its channel: a measurement, an overlap or a settling word (R115, R118). -/
def rotWord (r : Rotation) (ph : Nat) (d x : Int) (relief : Option (Int × BitVec 8)) (temp : Int) : Rotation :=
  if 3 ≤ ph ∧ ph ≤ 5 then
    if r.words ≥ 520 then r
    else
      let sum := measStep r.words r.sum d
      let mean := measMean sum
      { r with words := r.words + 1, sum := sum, temp := if ph = 5 ∧ r.words = 264 then temp else r.temp,
               dz := if ph = 3 ∧ r.words = 519 then mean else r.dz,
               dr := if ph = 4 ∧ r.words = 519 then mean else r.dr,
               dc := if ph = 5 ∧ r.words = 519 then mean else r.dc }
  else if ph = 2 ∨ ph = 7 then
    if r.words ≥ 64 then r
    else
      let diff := match relief with | some (v, _) => v - x | none => 0
      { r with words := r.words + 1, overlap := r.overlap + diff }
  else if ph = 1 ∨ ph = 6 then { r with words := r.words + 1 }
  else r

/-- The loop-open detection of the current inputs on one word (R86), suspended while the input switch is open. -/
def State.loopOpen (s : State) (u : Fin 16) (x : Int) : State :=
  let b := bankOfU u
  let m := uMode s u
  let k := s.u[u]
  let active := (m == 8 || (m == 7 && s.b b 1 0x06 u 0x0E == 1)) && !k.inputOpen
  if active then
    let i := physOfX m x
    let low := if i < 500000 then k.lowRun + 1 else 0
    let high := if 1000000 ≤ i then k.highRun + 1 else 0
    let s1 := s.modU u (fun k => { k with lowRun := min low 2, highRun := min high 2 })
    if low ≥ 2 ∧ uBit s u 1 = false then s1.openA u (ident .ucf 1)
    else if high ≥ 2 ∧ uBit s u 1 then s1.closeA u (ident .ucf 1)
    else s1
  else s

/-- The live OVER and UNDER bits of an analogue channel on one word, and the end of UCF-09 (R102, R104, R125). -/
def State.satLive (s : State) (u : Fin 16) (sat : BitVec 8) : State :=
  let hi := sat.getLsbD 0
  let lo := sat.getLsbD 1
  let s1 := (s.uFlag u 3 hi).uFlag u 4 lo
  let s2 := s1.modU u (fun k => { k with satRun := if hi || lo then k.satRun + 1 else 0 })
  if !(hi || lo) && s.u[u].rangeRaised then
    (s2.modU u (fun k => { k with rangeRaised := false })).bankEnd (bankOfU u) (ident .ucf 9) 2 u
  else s2

/-- The wide-tap instants from a reset up to a first complete word, whose copies stage 2 receives (R143). -/
def copyTaps (resetAt w : Nat) : List Nat :=
  let first := (resetAt + 63) / 64
  (List.range (w / 64 - first)).map (fun i => 64 * (first + i))

/-- Stage 2 and the stages after it take one word of a channel; a word at or after the instant of a clear finds them cleared. -/
def chainWord (c : Chain) (w : Nat) (x : Int) (fl : BitVec 8) : Chain :=
  let due := c.clearAt.any (fun a => decide (a ≤ perTime w))
  let c0 := if due then { chainClear c with clearAt := none } else c
  let g? := if c.clearAt.isSome && !due then c.oldGrid else c.grid
  match g? with
  | none => c0
  | some g =>
    let copies := if c.lastTap.isNone then copyTaps c.resetAt w else []
    let c1 := (copies ++ [w]).foldl (fun k t =>
      let k1 := chainIn g k t x
      if fl = 0 then k1 else { k1 with flagged := k1.flagged ++ [(t, fl)] }) c0
    let keep := 64 * windowE2 g.avg g.shift + g.delay + 128
    { c1 with flagged := c1.flagged.filter (fun p => decide (w ≤ p.1 + keep)), lastX := x, lastF := fl, lastTap := some (w / 64) }

/-- Queue a sample for a SAMPLE cell (R23, R152). -/
def State.pushSample (s : State) (u : Fin 16) (x : Sample) : State :=
  s.modU u (fun k => { k with samples := k.samples ++ [x] })

/-- The word of the relief converter at a wide-tap instant (R116): what it has given for that instant; where its word of the
instant has not come, a free value (assumption log 25). -/
def State.reliefAt (s : State) (b : Fin 4) (tap ph : Nat) : Option (Int × BitVec 8) × State :=
  if ph < 2 ∨ 7 < ph then (none, s)
  else
    match (s.banks[b]).reliefX with
    | some (t, x, f) => if t = tap then (some (x, f), s) else let d := s.draw; (some (toSigned 32 d.1, 0), d.2)
    | none => let d := s.draw; (some (toSigned 32 d.1, 0), d.2)

/-- A word of a channel's own converter at the newest wide-tap instant that is complete (R112, R125, R142, R143, R153). The two
words of an open-terminal test slot are replaced by the one before it, with its conditions (R85). -/
def channelWord (s : State) (u : Fin 16) (ms : List (BitVec 5)) : State :=
  let b := bankOfU u
  let k := s.u[u]
  let m := uMode s u
  let tap := newTap s b
  let old := match k.chain.lastTap with | some t => decide (tap ≤ t) | none => false
  if !(isAnalogue m) || !k.settled || k.chain.holdAt.isSome || old then s
  else
    let (sc, d) := sincRun k.chain.sinc ms
    let s1 := s.modU u (fun k => { k with chain := { k.chain with sinc := sc } })
    let w := 64 * tap
    if w < k.chain.resetAt + 126 then s1
    else
      let ph := phaseOf s u
      let inp := calInput s u m k.coef d
      let own := xOf m inp
      let (relief, s2) := s1.reliefAt b tap ph
      let (x0, f0) := mixIn ph k.rot.words own (satOf m ms inp) relief
      let test := k.testTap.any (fun t => decide (t ≤ tap) && decide (tap ≤ t + 1))
      let x := if test then k.chain.lastX else x0
      let fl := (if test then k.chain.lastF else f0) ||| (if k.inputOpen then 1 else 0)
      let s3 := s2.modU u (fun k => { k with
        rot := rotWord k.rot ph d own relief (s.banks[b]).dieTemp, chain := chainWord k.chain w x fl })
      let s4 := (s3.satLive u fl).loopOpen u x
      if isAi m ∧ s.b b 1 0x08 u 0x05 = 1 then
        let t := perTime w
        let aw := sampleWord x fl false (openIn (s4.u[u]) (perTime (w + 126)) t) false (fl.getLsbD 2) (sampleUnc s b t)
        s4.pushSample u { chan := u, wide := true, time := BitVec.ofNat 72 t, word := aw }
      else s4

/-! ### Readback of the analogue outputs (R93 to R95) -/

/-- The setpoint in effect at an instant. -/
def setpointAt (k : UChan) (t : Nat) : Int :=
  match k.setHistory.find? (fun p => decide (p.1.toNat ≤ t)) with
  | some p => p.2
  | none => (k.setHistory.getLast?.map (·.2)).getD k.src.value

/-- The compliance and current-limit conditions of an output stage with one readback (R95, R104). -/
def State.outCheck (s : State) (u : Fin 16) (m : OutMeas) : State :=
  let mode := uMode s u
  let k := s.u[u]
  let bad := if mode = 9 then m.compliance && decide (k.src.value ≥ 500000) else decide (1000000 ≤ m.limitedNs)
  let s0 := if mode = 9 ∨ (s.banks[bankOfU u]).hotDie then s else s.uFlag u 5 (decide (0 < m.limitedNs))
  let s1 := s0.modU u (fun k => { k with
    compliance := if bad then min 3 (k.compliance + 1) else 0, complianceOk := if bad then 0 else min 3 (k.complianceOk + 1) })
  let n := s1.u[u]
  if mode = 9 then
    if n.compliance ≥ 3 ∧ uBit s u 1 = false then s1.openA u (ident .ucf 7)
    else if n.complianceOk ≥ 3 ∧ uBit s u 1 then s1.closeA u (ident .ucf 7)
    else s1
  else if bad ∧ uBit s u 2 = false then s1.shortA u
  else if n.complianceOk ≥ 3 ∧ uBit s u 2 then s1.unshortA u
  else s1

/-- The comparison of one readback with the setpoint in effect at its timestamp (R94, R95). -/
def State.compareRb (s : State) (u : Fin 16) (w : Word) (t : Nat) : State :=
  let b := bankOfU u
  let k := s.u[u]
  let rb := physOf (uMode s u) w
  let err := rb - setpointAt k t
  let follows := decide (k.suspendAt.toNat < t)
  let s1 := s.modU u (fun k => { k with readback := rb, readbackTime := BitVec.ofNat 72 t, readbackError := err })
  if k.rbSuspend > 0 ∧ follows then s1.modU u (fun k => { k with rbSuspend := k.rbSuspend - 1 })
  else if uBit s u 1 || uBit s u 2 then s1
  else
    let n := s.b b 1 0x09 u 0x06
    if readbackBound s u < (err.natAbs : Int) then
      let run := k.rbFails + 1
      let s2 := s1.modU u (fun k => { k with rbFails := run, rbGoods := 0 })
      if run ≥ n ∧ uBit s u 7 = false then
        ((s2.uFlag u 7 true).modU u (fun k => { k with rbFailCount := k.rbFailCount + 1 })).bankRaise b (ident .ucf 4) 2 u
      else s2
    else
      let run := k.rbGoods + 1
      let s2 := s1.modU u (fun k => { k with rbGoods := run, rbFails := 0 })
      if run ≥ n ∧ uBit s u 7 then (s2.uFlag u 7 false).bankEnd b (ident .ucf 4) 2 u else s2

end Sys2Proof.Machine
end

