-- ==== Sys2Proof/Machine/Filter.lean ====
section
/-! DEFINITION. The meanings of the filter-chain rows (Filter and decimation chain). -/

namespace Sys2Proof.Machine

/-- The chain of a channel restarts at A with the settled instant S (R156, R157, R162); STATUS.SETTLING follows. -/
def State.restartU (s : State) (u : Fin 16) (a st : Nat) (hold clear : Bool) : State :=
  let new := gridOf s u
  let s1 := s.modU u (fun k =>
    let c := chainRestart k.chain new a st hold clear
    { k with chain := if hold then chainClear c else c })
  if new.isSome then s1.uFlag u 8 true else s1.uLive u 8 false

/-- R142: one wide-tap period of a converter; converter 4 is the relief. -/
def execWideTapWord (b : Fin 4) (conv : Fin 5) (m : List (BitVec 5)) (s : State) : Host.Outcome State Fault Refusal :=
  if (s.banks[b]).arrived ∧ (s.banks[b]).calHeld then
    if h : conv.val < 4 then .next (channelWord s (uOf b ⟨conv.val, h⟩) m) else .next (reliefWord s b m)
  else .next s

/-- A sample of a grid goes into a SAMPLE cell with what the chain gives for it. -/
def State.pushMain (s : State) (u : Fin 16) (g : Grid) (t : Nat) (y : Int) (fl : BitVec 8) (settling : Bool) : State :=
  s.pushSample u { chan := u, wide := false, time := BitVec.ofNat 72 (perTime t), word := mainWord s u g t y fl settling }

/-- A sample that falls due and is not delivered, or is delivered with SETTLING (R157, R158). -/
def State.suppress (s : State) (u : Fin 16) (g : Grid) (t : Nat) : State :=
  if isAi g.mode then
    let s1 := s.modU u (fun k => { k with chain := { k.chain with suppressed := k.chain.suppressed + 1 } })
    if s.b (bankOfU u) 1 0x08 u 0x06 = 1 then
      let v := gridValue g s.u[u].chain t
      s1.pushMain u g t v.1 v.2.2 true
    else s1
  else s

/-- A delivered main sample: its word, and the readback of an analogue output (R93, R152). `held` is what the chain gave for it
before it was cleared. A value that the chain does not hold everything for is a free value. -/
def State.deliverMain (s : State) (u : Fin 16) (g : Grid) (t : Nat) (held : Option (Int × Bool × BitVec 8)) (m : OutMeas) : State :=
  let v := held.getD (gridValue g s.u[u].chain t)
  let (y, s0) := if v.2.1 then (v.1, s) else let d := s.draw; (toSigned 32 d.1, d.2)
  let s1 := s0.pushMain u g t y v.2.2 false
  if isAo g.mode ∧ g.mode = uMode s u then (s1.outCheck u m).compareRb u (mainWord s0 u g t y v.2.2 false) (perTime t) else s1

/-- R152, R157: the sample of a grid instant that has fallen due is delivered or suppressed: first those of a grid that a change
has ended, in the order in which they fall due, then the latest of the grid in effect. -/
def execMainSampleDue (u : Fin 16) (m : OutMeas) (s : State) : Host.Outcome State Fault Refusal :=
  let b := bankOfU u
  let clock := bankUnits s b
  let c := s.u[u].chain
  if (s.banks[b]).arrived = false then .next s
  else
    match c.old.find? (fun o => decide (o.at_ + o.grid.delay ≤ perOf clock)) with
    | some o =>
      let s1 := s.modU u (fun k => { k with chain := { k.chain with old := k.chain.old.erase o } })
      if o.good then .next (s1.deliverMain u o.grid o.at_ o.held m) else .next (s1.suppress u o.grid o.at_)
    | none =>
      match c.grid with
      | none => .next s
      | some g =>
        match gridDue g clock with
        | none => .next s
        | some t =>
          if c.lastMain.any (fun l => decide (t ≤ l)) ∨ perTime t < c.changeAt then .next s
          else
            let s1 := s.modU u (fun k => { k with chain := { k.chain with lastMain := some t } })
            if c.settling = false then .next (s1.deliverMain u g t none m)
            else if c.settledAt + halfUnits g ≤ perTime t then
              let s2 := (s1.uLive u 8 false).modU u (fun k => { k with
                chain := { k.chain with settling := false, oldGrid := none, state := 3 } })
              .next (s2.deliverMain u g t none m)
            else .next (s1.suppress u g t)

/-! ### Decimator synchronisation (R160 to R163) -/

/-- The first wide-tap instant at or after a cell time, in modulator periods (R161). -/
def tapAfter (t : Nat) : Nat := (perAfter t + 63) / 64 * 64

/-- Whether a request of a source is pending on the logic side. -/
def syncWaits (s : State) (u : Fin 16) (source : Nat) : Bool :=
  match s.u[u].chain.syncRequest with
  | some (a, src) => src == source && decide ((now s).toNat < perTime a)
  | none => false

/-- A synchronisation request for a list of channels with one requested instant each (R160, R161): `false` where A′ is
too near. -/
def State.requestSync (s : State) (us : List (Fin 16)) (t : CellTime) (source : Nat) : Bool × State :=
  let a := tapAfter t.toNat
  if perTime a < (now s).toNat + nsUnits 100000 then
    (false, us.foldl (fun x (u : Fin 16) => (x.setP 1 0x08 u 0x10 2).modU u (fun k => { k with
      chain := { k.chain with syncRefused := true } })) s)
  else
    let new := us.filter (fun u => match s.u[u].chain.syncRequest with
      | some (x, _) => x != a || decide (perTime x ≤ (now s).toNat)
      | none => true)
    let s0 := us.foldl (fun (x : State) u => if s.u[u].chain.syncRefused then
        (x.setP 1 0x08 u 0x10 1).modU u (fun k => { k with chain := { k.chain with syncRefused := false } }) else x) s
    let s1 := new.foldl (fun x u =>
      ((x.modU u (fun k => { k with chain := { k.chain with syncRequest := some (a, source) } })).setP 1 0x08 u 0x10 1).setPCt
        0x08 u 0x11 (BitVec.ofNat 72 (perTime a))) s0
    let mask (b : Fin 4) : BitVec 4 :=
      new.foldl (fun n u => if bankOfU u = b then n ||| (1#4 <<< (uIn u).val) else n) 0
    (true, allBanks.foldl (fun x b =>
      if mask b ≠ 0 ∧ bankPresent s b then x.sendDown b (.cfgSync (mask b) a source) else x) s1)

/-- R160, R163: a rising edge on SYNC_IN; a channel whose SYNC_IN request is pending ignores it. -/
def execSyncInEdge (t : CellTime) (s : State) : Host.Outcome State Fault Refusal :=
  if tdcBlind s.tb.syncArm (monoAt s t) then .next s else
  let g := ctGrid t
  let s0 := s.modTb (fun b => { b with syncIn := g, syncArm := some (monoAt s t) })
  let on := allU.filter (fun (u : Fin 16) => natBit (s.p 1 0x08 u 0x07) 0)
  let busy := on.filter (fun u => syncWaits s u 0)
  let s1 := busy.foldl (fun x u => x.raise (ident .dfc 3) 2 u) s0
  .next ((on.filter (fun u => !syncWaits s u 0)).foldl (fun x u =>
    (x.requestSync [u] (ctAddNs g (s.p 4 0x08 u 0x08 * 1000)) 0).2) s1)

/-- R160, R161: SYNC_AT. -/
def syncAt (s : State) (u : Fin 16) (t : CellTime) : CmdRes :=
  if natBit (s.p 1 0x08 u 0x07) 1 then
    let r := s.requestSync [u] t 2
    if r.1 then okRes r.2 else { st := r.2, code := rcLate, payload := [] }
  else refuse s rcOutOfRange

/-- R160: a write of SYNC_AT. -/
def execSyncAt (q : Req) (u : Fin 16) (t : CellTime) (s : State) : Host.Outcome State Fault Refusal :=
  .next ((guardWrite s q (syncAt s u t)).finish q opSetParam)

/-- A channel restarts at A′ (R162, R163): an analogue input whose front end has settled resets stage 1 and clears the rest;
one whose stage 1 is held takes the anchor and settles as before, with N anew; any other channel takes the anchor only. A step
past A′ restarts at the first wide-tap instant after it. -/
def State.syncChannel (s : State) (u : Fin 16) (a : Nat) : State :=
  let clock := perOf (bankUnits s (bankOfU u))
  let tr := if clock < a + 64 then a else (clock + 63) / 64 * 64
  let held := s.u[u].chain.holdAt.isSome
  let s1 := s.modU u (fun k => { k with chain := { k.chain with
    anchor := a, syncPending := none, syncState := 0, syncCount := k.chain.syncCount + 1 } })
  if isAi (uMode s u) then
    if held then s1.restartU u (perTime tr) s.u[u].chain.settledAt false false
    else
      (s1.restartU u (perTime tr) (perTime tr) false true).modU u (fun k => { k with
        chain := { chainClear k.chain with sinc := sincReset, resetAt := tr, lastTap := none, clearAt := none } })
  else s1

/-! ### What cuts a rotation short (R121, R122) -/

/-- A channel is eligible for rotation as its bank sees it (R114); the relief converter's state apart. -/
def rotable (s : State) (u : Fin 16) : Bool :=
  let b := bankOfU u
  isAnalogue (uMode s u) && s.b b 1 0x07 u 0x03 == 1 && natBit (s.b b 1 0x1B 0 0x02) b.val && (s.banks[b]).arrived

/-- Eligible: rotable with the relief converter in service. -/
def rotEligible (s : State) (u : Fin 16) : Bool := rotable s u && !(s.banks[bankOfU u]).reliefOut

/-- Change the rotation of a channel. -/
def State.modRot (s : State) (u : Fin 16) (g : Rotation → Rotation) : State :=
  s.modU u (fun k => { k with rot := g k.rot })

/-- A rotation is cut short (R121): before the overlap the relief is released at once; in the states 3 to 6 the channel
reconnects; later nothing changes. -/
def State.cutShort (s : State) (b : Fin 4) : State :=
  let k := s.banks[b]
  match k.chosen with
  | none => s
  | some i =>
    let u := uOf b i
    let stays := rotEligible s u
    if k.phase ≤ 1 then
      let s1 := s.modRot u (fun r => { r with
        state := if stays then 1 else 0, priority := stays, diag := setBit8 r.diag 3 true, words := 0 })
      s1.modBank b (fun k => { k with chosen := none, lastChosen := i, phase := 8, reliefWords := 0, reliefX := none })
    else if k.phase ≤ 5 then
      let s1 := s.modRot u (fun r => { r with
        state := 7, priority := stays, cut := true, diag := setBit8 r.diag 3 true, words := 0 })
      s1.modBank b (fun k => { k with phase := 6 })
    else s

/-- The cross-check estimate in progress is discarded (R122). -/
def State.dropEstimate (s : State) (b : Fin 4) : State :=
  s.modBank b (fun k => if k.phase = 8 then { k with reliefWords := 0 } else k)

/-- R164: a parity error in a chain's memories: DFC-02 against the bank, and the chain restarts as for a filter change. -/
def execFilterParityError (u : Fin 16) (s : State) : Host.Outcome State Fault Refusal :=
  let b := bankOfU u
  if (s.banks[b]).arrived then
    let t := bankUnits s b
    let s1 := s.bankRaise b (ident .dfc 2) 1 b
    .next (if s.u[u].chain.grid.isSome ∧ s.u[u].chain.holdAt.isNone then s1.restartU u t t false true else s1)
  else .next s

end Sys2Proof.Machine
end

