-- ==== Sys2Proof/Machine/Figures.lean ====
section
/-! DEFINITION. What a bank tells of itself: the figures that its STATUS, COUNT, LSW and CAL cells carry, as they stand when the
cell leaves (R23, R34, R57, R103 to R106, R137 to R140, R165, R205 to R209, R221, R238, R266). -/

namespace Sys2Proof.Machine

/-- A quality byte from its bits. -/
def quality (good range wire unc subst : Bool) : Byte :=
  setBit8 (setBit8 (setBit8 (setBit8 (setBit8 0 0 good) 2 range) 3 wire) 4 unc) 6 subst

/-- The source in effect shows a safe value (R266): rank 1 or 2. -/
def substRank (r : Nat) : Bool := r == 1 || r == 2

/-- An attribute of `n` bytes as a cell carries it. -/
def fig (n cls inst attr v : Nat) : Nat × List Byte := (parKey cls inst attr 0, leBytes n v)

/-- A signed attribute. -/
def figI (n cls inst attr : Nat) (v : Int) : Nat × List Byte := fig n cls inst attr (ofSigned (8 * n) v)

/-- A cell-time attribute. -/
def figCt (cls inst attr : Nat) (t : CellTime) : Nat × List Byte := (parKey cls inst attr 0, ctBytes t)

/-- `n` bytes of an attribute at an offset. -/
def figAt (n cls inst attr off v : Nat) : Nat × List Byte := (parKey cls inst attr off, leBytes n v)

/-! ### Universal channels -/

/-- The source of a universal channel as BKC_OUT_SRC shows it: 0 unless the channel is an output (R34). -/
def uRank (s : State) (u : Fin 16) : Nat := if isOutMode (uMode s u) then s.u[u].src.rank else 0

/-- AO_STATUS (R105); the comparison is suspended while OPEN or SHORT is set too (R95). -/
def aoStatus (s : State) (u : Fin 16) : Nat :=
  let k := s.u[u]
  if isAo (uMode s u) then
    (if k.clamped && k.src.rank == 3 then 1 else 0) + (if uBit s u 7 then 2 else 0) + (if uBit s u 1 then 4 else 0) +
      (if uBit s u 2 then 8 else 0) + (if k.rbSuspend > 0 || uBit s u 1 || uBit s u 2 then 16 else 0)
  else 0

/-- Class 06 of a channel (R103). -/
def fig06 (s : State) (u : Fin 16) : List (Nat × List Byte) :=
  let k := s.u[u]
  let v := if uBit s u 0 then 1 else 0
  [fig 2 0x06 u 0x02 k.status.toNat, fig 1 0x06 u 0x13 (uRank s u), fig 4 0x06 u 0x17 k.edgeCount.toNat,
   figCt 0x06 u 0x18 k.lastEdge, fig 2 0x06 u 0x19 k.diag.toNat, figI 4 0x06 u 0x1A k.diCurrent] ++
    (if isDi (uMode s u) ∨ uMode s u = 3 then [fig 4 0x06 u 0x05 v, fig 4 0x06 u 0x06 v] else [])

/-- Class 07 of a channel (R137). -/
def fig07 (s : State) (u : Fin 16) : List (Nat × List Byte) :=
  let c := s.u[u].coef
  let r := s.u[u].rot
  [fig 1 0x07 u 0x01 r.state, fig 1 0x07 u 0x02 c.source, figCt 0x07 u 0x04 r.lastCal, fig 4 0x07 u 0x05 r.calCount.toNat,
   figI 4 0x07 u 0x06 c.dz, figI 4 0x07 u 0x07 c.checkSpan, figI 4 0x07 u 0x08 c.refSpan, figI 2 0x07 u 0x09 c.temp,
   figI 4 0x07 u 0x0A r.delta, fig 1 0x07 u 0x0D r.rejects, fig 8 0x07 u 0x0E c.k.toNat, fig 1 0x07 u 0x0F r.diag.toNat]

/-- Class 08 of a channel, SYNC_STATE and its instant apart (R165). -/
def fig08 (s : State) (u : Fin 16) : List (Nat × List Byte) :=
  let c := s.u[u].chain
  [fig 2 0x08 u 0x0D c.settleCount.toNat, fig 4 0x08 u 0x0E c.suppressed.toNat, fig 1 0x08 u 0x0F c.state,
   figCt 0x08 u 0x12 (BitVec.ofNat 72 (perTime c.anchor)), fig 4 0x08 u 0x13 c.syncCount.toNat]

/-- Class 09 of a channel (R105); READBACK_ERROR is taken modulo 2^32 (DESIGN CHOICE, assumption log 24). -/
def fig09 (s : State) (u : Fin 16) : List (Nat × List Byte) :=
  let k := s.u[u]
  let shown := if isAo (uMode s u) then k.src.value else 0
  [figI 4 0x09 u 0x02 shown, figI 4 0x09 u 0x03 k.readback, figCt 0x09 u 0x04 k.readbackTime,
   figI 4 0x09 u 0x07 k.readbackError, fig 1 0x09 u 0x08 (aoStatus s u), fig 4 0x09 u 0x09 k.rbFailCount.toNat]

/-- The state point of a channel in a digital mode (R74, R266). -/
def uPoint (s : State) (u : Fin 16) : List PointFig :=
  let m := uMode s u
  let k := s.banks[bankOfU u]
  let wire := uBit s u 1 || uBit s u 2
  if isDi m ∨ m = 3 then
    [{ handle := u.val, value := if uBit s u 0 then 1 else 0,
       qual := quality (!wire) false wire false (m == 3 && substRank (uRank s u)),
       time := bankNow k, marked := bankMark k (bankNow k) }]
  else []

/-! ### Load switches -/

/-- The point of a load switch (R266). -/
def lPoint (s : State) (l : Fin 8) : PointFig :=
  let k := s.banks[bankOfL l]
  let wire := lBit s l 9 || lBit s l 10
  { handle := 0x10 + l.val, value := if lBit s l 0 then 1 else 0,
    qual := quality (!(lHeld s l || lBit s l 7)) false wire false (substRank (lSrc s l).rank),
    time := bankNow k, marked := bankMark k (bankNow k) }

/-- An amount that an i64 or i32 attribute holds in a unit `d` times larger. -/
def scaled (v : Int) (d : Int) : Int := v / d

/-- Class 0A of a load switch (R205). -/
def fig0A (s : State) (l : Fin 8) : List (Nat × List Byte) :=
  let k := s.l[l]
  [fig 2 0x0A l 0x02 k.status.toNat, fig 4 0x0A l 0x09 k.switchCount.toNat,
   figI 4 0x0A l 0x11 (scaled k.budget 1000), fig 4 0x0A l 0x12 k.lastClamp, figI 2 0x0A l 0x15 (scaled k.tJ 10000),
   figI 2 0x0A l 0x16 (scaled k.tS 10000), figI 8 0x0A l 0x17 k.iMirror,
   fig 8 0x0A l 0x18 (match k.iRon with | some i => ofSigned 64 i | none => 2 ^ 63), figI 4 0x0A l 0x19 k.vds,
   fig 4 0x0A l 0x1A k.ronEst, fig 2 0x0A l 0x20 k.diag.toNat, fig 1 0x0A l 0x21 k.restarts,
   fig 1 0x0A l 0x22 (if k.on then k.gate else 0)]

/-- What an LSW cell tells of a group (R200, R202, R208, R628). -/
def groupFig (s : State) (b g : Fin 4) : GroupFig :=
  let k := (s.banks[b]).groups[g]
  { group := g, status := gLive s b g, diag := k.diag, limit := k.limitEntry, cool := (membersIn s b g).all (lCool s),
    calm := k.on && decide (nsUnits 1000000000 ≤ (bankNow (s.banks[b]) - k.launchAt).toNat) }

/-- What an LSW cell carries (R209), with the groups that have members in the bank. -/
def lswCell (s : State) (b : Fin 4) : UpCell :=
  .lsw { attrs := (bankL b).flatMap (fig0A s), points := (bankL b).map (lPoint s) }
    ((allGroups.filter (fun g => !(membersIn s b g).isEmpty)).map (groupFig s b))

/-! ### Fast inputs -/

/-- Class 0C of a fast input, its STATUS, COUNTER and COUNT_TIME apart (R221, R238). -/
def fig0C (s : State) (f : Fin 8) : List (Nat × List Byte) :=
  let k := s.f[f]
  [fig 4 0x0C f 0x10 k.lost.toNat, fig 8 0x0C f 0x11 k.period.toNat, fig 4 0x0C f 0x12 k.freq,
   fig 4 0x0C f 0x19 k.latchValue.toNat, figCt 0x0C f 0x1A k.latchTime, fig 2 0x0C f 0x1F k.diag.toNat,
   fig 4 0x0C f 0x20 k.edgeCount.toNat, fig 4 0x0C f 0x21 k.quadErrors.toNat]

/-- Whether a transition of an input still waits for its debounce, with its timestamp. -/
def pendingEdge (k : FChan) : Option CellTime := if k.db.level = k.db.state then none else some k.db.since

/-- COUNT_TIME of the count taken now (R221): no transition stamped at or before it is still to be accepted, so it lies before one
that waits for its debounce (DEDUCED, assumption log 41). -/
def countTime (s : State) (f : Fin 8) : CellTime :=
  let clock := bankNow (s.banks[bankOfF f])
  let waits := (pendingEdge s.f[f]).toList ++ (if 3 ≤ fMode s f then (pendingEdge s.f[partner f]).toList else [])
  waits.foldl (fun (m : CellTime) t => if t.toNat ≤ m.toNat then BitVec.ofNat 72 (t.toNat - 1) else m) clock

/-- What a COUNT cell carries of one fast input, with its COUNT_TIME (R221). -/
def countFig (s : State) (f : Fin 8) : CountFig :=
  let k := s.f[f]
  let b := s.banks[bankOfF f]
  let t := countTime s f
  let c := (counterAt k t).1
  { status := k.status, counter := c, freq := k.freq, latch := k.latchValue, time := t, marked := bankMark b t,
    attrs := fig0C s f ++ [fig 4 0x0C f 0x06 c.toNat, figCt 0x0C f 0x07 t] }

/-- A COUNT cell (R221). -/
def countCell (s : State) (b : Fin 4) : UpCell := .count ((bankF b).map (countFig s))

/-! ### The whole bank -/

/-- BKC_OUT_SRC of a bank (R33). -/
def outSrc (s : State) (b : Fin 4) : Nat :=
  let us := ([0, 1, 2, 3] : List (Fin 4)).foldl (fun (n : Nat) i => n + uRank s (uOf b i) * 16 ^ i.val) 0
  us + (lSrc s (lOf b 0)).rank * 2 ^ 16 + (lSrc s (lOf b 1)).rank * 2 ^ 20

/-- Class 1B of a bank (R139): REF_STATE, RELIEF_STATE, BANK_TEMP and NEXT_CHANNEL. -/
def fig1B (s : State) (b : Fin 4) : List (Nat × List Byte) :=
  let k := s.banks[b]
  let relief := if natBit (s.b b 1 0x1B 0 0x02) b.val = false then 2 else if k.reliefOut then 1 else 0
  [figAt 1 0x1B 0 0x06 b k.refState, figAt 1 0x1B 0 0x07 b relief, figAt 2 0x1B 0 0x08 (2 * b) (ofSigned 16 k.dieTemp),
   figAt 1 0x1B 0 0x0E b k.pointer]

/-- CNV_ROT_STATE of a bank (R140). -/
def rotStateWord (s : State) (b : Fin 4) : Word :=
  let k := s.banks[b]
  let relief := if k.reliefOut then 2 ^ 13 else 0
  let susp := if natBit (s.b b 1 0x1B 0 0x02) b.val then 0 else 2 ^ 12
  let prio := ([0, 1, 2, 3] : List (Fin 4)).foldl (fun (n : Nat) i => n + if s.u[uOf b i].rot.priority then 2 ^ (8 + i.val) else 0) 0
  let chan := match k.chosen with | some i => i.val | none => k.lastChosen
  BitVec.ofNat 32 (k.slotCount.toNat * 2 ^ 16 + k.refState * 2 ^ 14 + relief + susp + prio + k.phase * 16 + chan)

/-- The higher of the two power-die sensors, in 0.01 °C (R417). -/
def powerDieTemp (s : State) (b : Fin 4) : Int := max (scaled s.l[lOf b 0].tS 10000) (scaled s.l[lOf b 1].tS 10000)

/-- The figures of a STATUS cell (R23, R266). BANK_ALIGN is shown modulo 2^16 (DESIGN CHOICE,
assumption log 24). -/
def statusFigs (s : State) (b : Fin 4) : Figures :=
  { attrs := [figI 2 0x05 b 0x04 (powerDieTemp s b), fig 4 0x05 b 0x0A (outSrc s b),
              figAt 2 0x04 0 0x18 (2 * b) (ofSigned 16 (s.banks[b]).align)] ++ fig1B s b ++
             (bankL b).map (fun (l : Fin 8) => fig 1 0x0A l 0x03 (lSrc s l).rank) ++
             (bankU b).flatMap (fun u => fig06 s u ++ fig07 s u ++ fig08 s u ++ fig09 s u)
    points := (bankU b).flatMap (uPoint s) ++ (bankL b).map (lPoint s) }

/-- The STATUS cell that leaves now (R23, R57, R266). -/
def statusCell (s : State) (b : Fin 4) : StatusCell :=
  let k := s.banks[b]
  { trip := k.trip.map (fun p => (p.1, p.2, k.copy)), left := s.tb.mono, autonomous := k.autonomous, starting := k.startFlag,
    vfLoss := k.vfLossFlag, rotState := rotStateWord s b,
    chains := (bankU b).map (fun (u : Fin 16) => (s.u[u].chain.state, s.b b 1 0x08 u 0x05 == 1, s.b b 1 0x08 u 0x03 == 1)), ranks := allGroups.map (fun g => (k.groups[g]).src.rank),
    syncs := (bankU b).map (fun u => (s.u[u].chain.syncState, s.u[u].chain.syncPending)),
    fast := (bankF b).map (fun f => s.f[f].status), time := bankNow k, marked := bankMark k (bankNow k), figs := statusFigs s b }

end Sys2Proof.Machine
end

