-- ==== Sys2Proof/Machine/Convert.lean ====
section
/-! DEFINITION. The meanings of the conversion rows: the rotation of the relief converter, the reference cross-check and the
heavy clamps (R107 to R126). -/

namespace Sys2Proof.Machine

/-- The rotation states follow eligibility outside a rotation (R121): becoming eligible sets a priority request, becoming
ineligible clears it. -/
def State.refreshRot (s : State) (b : Fin 4) : State :=
  (bankU b).foldl (fun x u =>
    let st := x.u[u].rot.state
    let ok := rotEligible x u
    if st = 0 ∧ ok then x.modRot u (fun r => { r with state := 1, priority := true })
    else if st ≤ 1 ∧ ok = false then x.modRot u (fun r => { r with state := 0, priority := false })
    else x) s

/-- A channel whose conditions keep it from being chosen at a slot start (R122). -/
def slotBlocked (s : State) (u : Fin 16) : Bool :=
  uBit s u 1 || uBit s u 3 || uBit s u 4 || s.u[u].inputOpen

/-- The channel a slot serves, and whether the pointer chose it (R114). -/
def slotChoice (s : State) (b : Fin 4) : Option (Fin 4 × Bool) :=
  let ok (i : Fin 4) : Bool := rotEligible s (uOf b i) && !slotBlocked s (uOf b i)
  let idx : List (Fin 4) := [0, 1, 2, 3]
  match idx.find? (fun i => ok i && s.u[uOf b i].rot.priority) with
  | some i => some (i, false)
  | none =>
    let p := (s.banks[b]).pointer
    match (idx.map (fun i => fin4 (p + i.val))).find? ok with
    | some i => some (i, true)
    | none => none

/-- ROTATION_PERIOD that the bank holds, in 1/256 ns. -/
def slotPeriod (s : State) (b : Fin 4) : Nat := nsUnits (s.b b 4 0x1B 0 0x01 * 1000000)

/-- The length of the slot that begins at an instant (R122): a new ROTATION_PERIOD applies from the first slot start that is a
multiple of it. -/
def nextPeriod (s : State) (b : Fin 4) (start : Nat) : Nat :=
  let k := s.banks[b]
  let p := slotPeriod s b
  if k.slotCount = 0 ∨ k.slotPer = 0 ∨ start % p = 0 then p else k.slotPer

/-- The start of the newest slot: a multiple of the slot length since the first one (R114). -/
def newSlot (s : State) (b : Fin 4) : Nat :=
  let k := s.banks[b]
  let clock := bankUnits s b
  let p := if k.slotCount = 0 ∨ k.slotPer = 0 then slotPeriod s b
    else if k.slotEnd % slotPeriod s b = 0 then slotPeriod s b else k.slotPer
  if p = 0 then clock else clock / p * p

/-- R114, R115: at a slot start the bank chooses at most one eligible channel and RELIEF_CAL starts in its mode. With the bank's
bit of ROTATION_ENABLE at 0 no channel is eligible, and the slot runs RELIEF_CAL only. Every eligible channel that is blocked
gets a request, and the next one is chosen (DESIGN CHOICE, assumption log 25). -/
def execRotationSlotStart (b : Fin 4) (s : State) : Host.Outcome State Fault Refusal :=
  let k := s.banks[b]
  let start := newSlot s b
  if k.arrived ∧ k.calHeld ∧ k.slotOpen = false ∧ (k.slotCount = 0 ∨ k.slotStart.toNat ≠ start) then
    let p := nextPeriod s b start
    let s1 := s.refreshRot b
    let s2 := (bankU b).foldl (fun x u =>
      if rotEligible x u ∧ slotBlocked x u then x.modRot u (fun r => { r with priority := true }) else x) s1
    let s3 := s2.modBank b (fun k => { k with
      slotStart := BitVec.ofNat 72 start, slotEnd := start + p, slotPer := p, slotCount := k.slotCount + 1, slotOpen := true,
      phase := 0, reliefWords := 0, reliefSum := 0, deltas := [], chosen := none, reliefX := none })
    match slotChoice s2 b with
    | none => .next s3
    | some (i, moved) =>
      let s4 := s3.modRot (uOf b i) (fun r => { r with
        state := 2, priority := false, words := 0, sum := 0, overlap := 0, cut := false, accepted := false })
      .next (s4.modBank b (fun k => { k with
        chosen := some i, lastChosen := i, pointer := if moved then (i.val + 1) % 4 else k.pointer }))
  else .next s

/-- R120, R121: RELIEF_CAL ends: its coefficients are taken, or the relief converter goes out of service; the estimate of a
failed one does not count in the slot average (DESIGN CHOICE, assumption log 25). -/
def execReliefCalEnd (b : Fin 4) (s : State) : Host.Outcome State Fault Refusal :=
  let k := s.banks[b]
  if k.arrived ∧ k.slotOpen ∧ k.phase = 0 ∧ k.reliefWords ≥ 1560 then
    let front := 16 + b.val
    let mode := uMode s (reliefChan s b)
    let span := k.reliefDc - k.reliefDz
    if spanOk k.cal front mode span then
      let c : Coef := { dz := k.reliefDz, k := gainOf k.cal b front mode k.reliefTemp span, checkSpan := span,
                        refSpan := k.reliefDr - k.reliefDz, temp := k.reliefTemp, source := 1 }
      let d := deltaOf k.cal b k.reliefDz k.reliefDr k.reliefDc k.reliefTemp
      let s1 := if k.reliefOut then (s.modBank b (fun k => { k with reliefOut := false })).bankEnd b (ident .cnv 6) 1 b
        else s
      let s2 := s1.modBank b (fun k => { k with
        relief := c, deltas := k.deltas ++ [d], reliefWords := 0, phase := if k.chosen.isSome then 1 else 8 })
      .next (s2.refreshRot b)
    else
      let s1 := (s.bankRaise b (ident .cnv 6) 1 b).modBank b (fun k => { k with
        reliefOut := true, chosen := none, phase := 8, reliefWords := 0 })
      let s2 := s1.refreshRot b
      .next (match k.chosen with
        | some i => s2.modRot (uOf b i) (fun r => { r with state := 1, priority := true, diag := setBit8 r.diag 4 true })
        | none => s2)
  else .next s

/-- R115, R121: a phase of the chosen channel has counted its words: RELIEF_SETTLE, CH_ZERO, CH_REF or RECONNECT. -/
def execRotationPhaseEnd (b : Fin 4) (s : State) : Host.Outcome State Fault Refusal :=
  let k := s.banks[b]
  match k.chosen with
  | none => .next s
  | some i =>
    let u := uOf b i
    let n := s.u[u].rot.words
    let go (ph st : Nat) : State :=
      (s.modBank b (fun k => { k with phase := ph })).modRot u (fun r => { r with
        state := st, words := 0, sum := 0, overlap := 0 })
    if k.phase = 1 ∧ n ≥ 16 then .next (go 2 3)
    else if k.phase = 3 ∧ n ≥ 520 then .next (go 4 5)
    else if k.phase = 4 ∧ n ≥ 520 then .next (go 5 6)
    else if k.phase = 6 ∧ n ≥ 24 then .next (go 7 8)
    else .next s

/-- R119: the new coefficients of the channel are accepted or rejected, and RECONNECT begins. The zero shift is multiplied by
the K in effect before (DESIGN CHOICE, assumption log 25). -/
def execChCheckEnd (b : Fin 4) (s : State) : Host.Outcome State Fault Refusal :=
  let k := s.banks[b]
  match k.chosen with
  | none => .next s
  | some i =>
    let u := uOf b i
    let r := s.u[u].rot
    if k.phase = 5 ∧ r.words ≥ 520 then
      let mode := uMode s u
      let span := r.dc - r.dz
      let old := s.u[u].coef
      let new : Coef := { dz := r.dz, k := gainOf k.cal b u mode r.temp span, checkSpan := span, refSpan := r.dr - r.dz,
                          temp := r.temp, source := 1 }
      let bound : Int := s.b b 2 0x07 u 0x0C
      -- the zero shift in ppm of span, with the span in µV per the code's unit; the gain shift in ppm
      let zero := calInput s u mode { old with dz := old.dz } r.dz
      let zeroOk := decide (zero.1.natAbs * 1000000 ≤ bound.natAbs * (spanOf mode * zero.2).natAbs)
      let gainOk := decide ((((new.k.toNat : Int) - old.k.toNat).natAbs) * 1000000 ≤ bound.natAbs * old.k.toNat)
      let ok := spanOk k.cal u mode span && (old.source == 0 || (zeroOk && gainOk))
      let s1 := s.modBank b (fun k => { k with phase := 6, deltas := k.deltas ++ [deltaOf k.cal b r.dz r.dr r.dc r.temp] })
      let s2 := s1.modU u (fun k => { k with
        rot := { k.rot with state := 7, words := 0, sum := 0, accepted := ok,
                            rejects := if ok then 0 else min 255 (k.rot.rejects + 1),
                            priority := k.rot.priority || !ok,
                            diag := if ok then k.rot.diag else setBit8 k.rot.diag 1 true },
        coef := if ok then new else { k.coef with refSpan := r.dr - r.dz } })
      if ok then .next s2
      else
        let s3 := s2.bankRaise b (ident .cnv 4) 2 u
        .next (if r.rejects = 2 then s3.bankRaise b (ident .cnv 5) 2 u else s3)
    else .next s

/-- R118, R121: an overlap has run its 64 words: HANDOVER_DELTA is reported, and the relief feeds stage 2 alone, or is
released. -/
def execOverlapEnd (b : Fin 4) (s : State) : Host.Outcome State Fault Refusal :=
  let k := s.banks[b]
  match k.chosen with
  | none => .next s
  | some i =>
    let u := uOf b i
    let r := s.u[u].rot
    if (k.phase = 2 ∨ k.phase = 7) ∧ r.words ≥ 64 then
      let delta := roundDiv (r.overlap * 10000000) (64 * 2 ^ 30)
      let bad := decide (s.b b 2 0x07 u 0x0B * 10 < delta.natAbs)
      let s1 := s.modRot u (fun r => { r with
        delta := delta, words := 0, sum := 0, diag := if bad then setBit8 r.diag 2 true else r.diag })
      let s2 := if bad then s1.bankRaise b (ident .cnv 3) 2 u else s1
      if k.phase = 2 then .next ((s2.modBank b (fun k => { k with phase := 3 })).modRot u (fun r => { r with state := 4 }))
      else
        let t := bankNow k
        let st := if rotEligible s u then 1 else 0
        let s3 := s2.modBank b (fun k => { k with chosen := none, phase := 8, reliefWords := 0, reliefX := none })
        let s4 := s3.modRot u (fun r =>
          if r.cut then { r with state := st }
          else { r with state := st, calCount := r.calCount + 1, lastCal := if r.accepted then t else r.lastCal,
                        diag := setBit8 r.diag 0 true })
        .next (s4.sendUp b (.calResult (uIn u) { attrs := fig07 s4 u, points := [] }))
    else .next s

/-- R122: an event cuts a rotation short. -/
def execRotationCutShort (b : Fin 4) (s : State) : Host.Outcome State Fault Refusal := .next (s.cutShort b)

/-- The reference states of R123 after one slot: `refRun` counts the slots within REF_ALARM, `alarmRun` those beyond it,
`emptyRun` the empty ones, each consecutive. -/
def refNext (k : Bank) (within beyondFail : Bool) : Nat :=
  if beyondFail then 2
  else
    match k.refState with
    | 3 => if within then (if k.refRun ≥ 4 then 0 else 3) else 1
    | 0 => if !within && k.alarmRun ≥ 2 then 1 else 0
    | 1 => if within && k.refRun ≥ 4 then 0 else 1
    | _ => if within && k.refRun ≥ 4 then 0 else 2

/-- Enter a reference state: CNV-01 is active in ALARM, CNV-02 in FAIL (R123, R624). -/
def State.setRef (s : State) (b : Fin 4) (st : Nat) : State :=
  let old := (s.banks[b]).refState
  if old = st then s
  else
    let s1 := s.modBank b (fun k => { k with refState := st, refRun := 0, alarmRun := 0, emptyRun := 0 })
    let s2 := if old = 1 then s1.bankEnd b (ident .cnv 1) 1 b else if old = 2 then s1.bankEnd b (ident .cnv 2) 1 b else s1
    if st = 1 then s2.bankRaise b (ident .cnv 1) 1 b else if st = 2 then s2.bankRaise b (ident .cnv 2) 1 b else s2

/-- The DAC codes of a bank follow its latest slot average (R129). -/
def State.scaleDacs (s : State) (b : Fin 4) (avg : Int) : State :=
  (bankU b).foldl (fun x u => if isAo (uMode x u) then x.driveDac u x.u[u].dacTarget 0 else x)
    (s.modBank b (fun k => { k with rhoAvg := avg }))

/-- R123: a slot ends: δ is averaged over the estimates of the slot. -/
def execSlotEndCrossCheck (b : Fin 4) (s : State) : Host.Outcome State Fault Refusal :=
  let k := s.banks[b]
  if k.arrived ∧ k.slotOpen ∧ k.slotEnd ≤ bankUnits s b then
    let s0 := s.modBank b (fun k => { k with slotOpen := false, reliefWords := 0 })
    match k.deltas with
    | [] =>
      let s1 := s0.modBank b (fun k => { k with emptyRun := k.emptyRun + 1 })
      let s2 := if k.emptyRun + 1 ≥ 4 ∧ k.refState ≠ 3 then s1.setRef b 3 else s1
      .next (s2.sendUp b (.calSlot none (s2.banks[b]).refState))
    | ds =>
      let avg := roundDiv (ds.foldl (· + ·) 0) ds.length
      let within := decide (avg.natAbs ≤ s.b b 2 0x1B 0 0x03 * 100)
      let fail := decide (s.b b 2 0x1B 0 0x04 * 100 < avg.natAbs)
      let s1 := s0.modBank b (fun k => { k with
        emptyRun := 0, refRun := if within then k.refRun + 1 else 0,
        alarmRun := if within then 0 else k.alarmRun + 1 })
      let s2 := (s1.setRef b (refNext (s1.banks[b]) within fail)).scaleDacs b avg
      .next (s2.sendUp b (.calSlot (some avg) (s2.banks[b]).refState))
  else .next s

/-! ### Heavy clamps and the die temperature (R108, R126) -/

/-- The clamp monitor acts in the voltage modes and in the readback of the voltage outputs. -/
def clampMode (m : Nat) : Bool := isAiv m || m == 10 || m == 11

/-- R126: a heavy clamp begins on a channel. -/
def execHeavyClampStart (u : Fin 16) (s : State) : Host.Outcome State Fault Refusal :=
  let b := bankOfU u
  if (s.banks[b]).arrived && clampMode (uMode s u) && s.u[u].clampAt.isNone then
    let t := bankNow (s.banks[b])
    let first := (bankU b).all (fun v => s.u[v].clampAt.isNone)
    let s1 := ((bankU b).filter (fun v => v != u && isAnalogue (uMode s v))).foldl
      (fun x v => x.modRot v (fun r => { r with diag := setBit8 r.diag 5 true })) s
    let s2 := s1.modU u (fun k => { k with clampAt := some t })
    let s3 := if first then s2.bankRaise b (ident .cnv 7) 1 b else s2
    .next ((s3.cutShort b).dropEstimate b)
  else .next s

/-- R126: 50 µs after the heavy clamp of a channel has ended its interval closes, and it is journalled; CNV-07 ends with the last
of the bank. -/
def execHeavyClampEnd (u : Fin 16) (s : State) : Host.Outcome State Fault Refusal :=
  let b := bankOfU u
  match s.u[u].clampAt with
  | none => .next s
  | some t =>
    let dur := (bankNow (s.banks[b]) - t).toNat / 256000
    let s1 := s.modU u (fun k => { k with clampAt := none })
    let s2 := if (bankU b).all (fun v => s1.u[v].clampAt.isNone) then s1.bankEnd b (ident .cnv 7) 1 b else s1
    .next (s2.journalAt 0x08 ([BitVec.ofNat 8 b.val, BitVec.ofNat 8 u.val] ++ leBytes 4 dur))

/-- R108: the field-die temperature, read every 1 ms, in 0.01 °C. -/
def execDieTemperatureRead (b : Fin 4) (t : Int) (s : State) : Host.Outcome State Fault Refusal :=
  if (s.banks[b]).powered then .next (s.modBank b (fun k => { k with dieTemp := t })) else .next s

end Sys2Proof.Machine
end

