-- ==== Sys2Proof/Machine/LoadSwitch.lean ====
section
/-! DEFINITION. The meanings of the load-switch rows (R167 to R188). Currents are in nA, voltages in µV, temperatures in
10^-6 °C, energies in nJ; one evaluation stands for 1 µs. -/

namespace Sys2Proof.Machine

/-- A channel whose bank has arrived. -/
def lLive (s : State) (l : Fin 8) : Bool := (s.banks[bankOfL l]).arrived

/-- After a change of a hold: a member's switch follows with its group, a channel alone by itself. -/
def State.rethink (s : State) (l : Fin 8) : State :=
  match lGroup s l with
  | some g => s.relaunchGroup (bankOfL l) g
  | none => s.relaunch l

/-- The ratio of R_ON at a gate-drive step to the full-drive value, in 2^-32 (R179). -/
def ronRatio (l : Fin 8) (g : Nat) : Nat := if 63 ≤ g then 2 ^ 32 else Config.onRatio l.val g + 1

/-- R_ON(T, g) of a channel in µΩ (R179), from its fused full-drive value, which is at most 55 mΩ (R170). -/
def ronAt (l : Fin 8) (g : Nat) (tJ : Int) : Int :=
  let full : Int := (Config.onResistance l.val % 55000 + 1 : Nat)
  roundDiv (full * (10000000000 + 45 * (tJ - 25000000)) * ronRatio l g) (10000000000 * 2 ^ 32)

/-- The effective limit in mA at a time in µs after the launch, quantised down to 0.25 A (R177). -/
def effLimit (limit peak peakTime rampTime t : Nat) : Nat :=
  let ip := max peak limit
  let v := if t < peakTime then ip
    else if t < peakTime + rampTime then ip - ((ip - limit) * (t - peakTime) + rampTime - 1) / rampTime
    else limit
  v / 250 * 250

/-- The share S of a group within one bank, from its members' mirror currents (R197). -/
def localShare (s : State) (b g : Fin 4) : Int :=
  let ms := activeIn s b g
  if ms.isEmpty then 0 else (ms.foldl (fun (a : Int) l => a + s.l[l].iMirror) 0) / ms.length

/-- The share S of a member (R197): its bank's own figure within one bank, the one the logic side returned for a cross-bank group. -/
def shareOf (s : State) (l : Fin 8) : Int :=
  let b := bankOfL l
  match lGroup s l with
  | some g => if crossB s b g then ((s.banks[b]).groups[g]).share else localShare s b g
  | none => 0

/-- The two sense paths in one evaluation (R178, R180): path V while it is valid, the reading that stands for it, the ratio,
and the runs of disagreement and of a lost member (R198). -/
def senseStep (s : State) (l : Fin 8) (m : StageMeas) : LChan → LChan := fun k =>
  let clamping := k.status.getLsbD 13
  let valid := k.on && !m.limiting && !clamping && decide (32 ≤ k.gate) && decide (k.gate ≤ 63)
  let ron := ronAt l k.gate k.tJ
  let iv := if ron = 0 then 0 else m.vds * 1000000000 / ron
  let big := max m.iMirror iv
  let dis := valid && decide (15 * big < 100 * (m.iMirror - iv).natAbs) && decide (250000000 ≤ big)
  let sh := shareOf s l
  let weak := k.on && k.gate == 63 && decide (200000000 ≤ sh) && decide (100 * m.iMirror < 30 * sh)
  { k with
    iMirror := m.iMirror, vds := m.vds, tS := m.tS, ronEst := ron.toNat,
    iRon := if valid then some iv else none,
    ratio := if valid ∧ m.iMirror > 0 then max 65536 (iv * 65536 / m.iMirror).toNat else k.ratio,
    mismatchRun := if dis then min 8 (k.mismatchRun + 1) else if valid then 0 else k.mismatchRun,
    agreeRun := if dis then 0 else min 1000 (k.agreeRun + 1),
    lostRun := if weak then min 16 (k.lostRun + 1) else 0 }

/-- The reading the channel protects itself on (R180, R181). -/
def guardCurrent (k : LChan) : Int :=
  if k.status.getLsbD 8 then max k.iMirror (match k.iRon with | some v => v | none => k.iMirror * k.ratio / 65536)
  else k.iMirror

/-- The junction estimate, the clamp energy and the refill of one evaluation (R181, R184, R185). -/
def heatStep (refill budgetMax : Nat) : LChan → LChan := fun k =>
  let clamping := k.status.getLsbD 13
  let i := guardCurrent k
  let p := if k.on || clamping then k.vds * i else 0
  let a := k.dTa + roundDiv (roundDiv (p * 6) 10000000000 - k.dTa) 50
  let b := k.dTb + roundDiv (roundDiv (p * 9) 10000000000 - k.dTb) 2000
  let tj := k.tS + a + b
  { k with
    dTa := a, dTb := b, tJ := tj,
    clampE := if clamping then k.clampE + roundDiv p 1000000000000 else k.clampE,
    budget := if tj < 150000000 then max k.budget (min (budgetMax * 1000000) (k.budget + refill)) else k.budget }

/-- The limit timer of one evaluation, and the counts that a good on period sets to 0 (R174, R175, R182). -/
def timerStep (limiting : Bool) (onFor retry : Nat) : LChan → LChan := fun k =>
  let lim := limiting && k.on
  let idle := if lim then 0 else min 100 (k.limitIdle + 1)
  let calm := k.on && decide (nsUnits (retry * 1000000) ≤ onFor)
  let cool := k.on && decide (nsUnits 1000000000 ≤ onFor)
  { k with
    limitTime := if lim then k.limitTime + 1 else if idle ≥ 100 then 0 else k.limitTime, limitIdle := idle,
    retries := if calm then 0 else k.retries, retried := k.retried && !calm,
    restarts := if cool then 0 else k.restarts, thermRestart := k.thermRestart && !cool }

/-- The overload of a group in one bank (R200): its first member in limit sets the entry, and 100 µs without limit on every
active member there ends it. -/
def State.overloadStep (s : State) (b g : Fin 4) : State :=
  let ms := activeIn s b g
  let t := bankNow (s.banks[b])
  let atLimit := ms.any (fun l => s.l[l].on && lBit s l 1)
  let clear := ms.all (fun l => !(s.l[l].on) || decide (s.l[l].limitIdle ≥ 100))
  (s.modGrp b g (fun k => { k with
    limitEntry := if atLimit then some (k.limitEntry.getD t) else if clear then none else k.limitEntry })).gSee b g

/-- The conditions that one evaluation shows (R174, R180, R183, R200). -/
def State.stageFlags (s : State) (l : Fin 8) (limiting : Bool) : State :=
  let b := bankOfL l
  let k := s.l[l]
  let s1 := if limiting && k.on then s.lFlag l 1 true else s.lFlag l 1 false
  let warn : Int := s.b b 1 0x0A l 0x14 * 1000000
  let s2 := if warn ≤ k.tJ ∧ lBit s1 l 6 = false then (s1.lFlag l 6 true).bankRaise b (ident .lsw 4) 3 l
    else if k.tJ ≤ warn - 10000000 ∧ lBit s1 l 6 then (s1.lFlag l 6 false).bankEnd b (ident .lsw 4) 3 l
    else s1
  match lGroup s l with
  | none =>
    if k.mismatchRun ≥ 8 ∧ lBit s2 l 8 = false then (s2.lFlag l 8 true).bankRaise b (ident .lsw 7) 3 l
    else if k.agreeRun ≥ 1000 ∧ lBit s2 l 8 then
      ((s2.lFlag l 8 false).modL l (fun k => { k with mismatchRun := 0 })).bankEnd b (ident .lsw 7) 3 l
    else s2
  | some g => s2.overloadStep b g

/-- R181: one evaluation of the power stage. -/
def execPowerStageEvaluation (l : Fin 8) (m : StageMeas) (s : State) : Host.Outcome State Fault Refusal :=
  let b := bankOfL l
  if lLive s l then
    let onFor := (bankNow (s.banks[b]) - s.l[l].launchAt).toNat
    let (lim, pk, pt, rt) := lProfile s l
    let t := onFor / 256000
    let s1 := s.modL l (senseStep s l m)
    let s2 := s1.modL l (heatStep (s.b b 2 0x0A l 0x0E) (s.b b 2 0x0A l 0x0D))
    let s3 := s2.modL l (timerStep m.limiting onFor (s.b b 2 0x0A l 0x07))
    let s4 := s3.modL l (fun k => { k with effLimit := effLimit lim pk pt rt t })
    let s5 := if s.l[l].on ∧ t < pt + rt then s4 else s4.lFlag l 12 false
    .next (s5.stageFlags l m.limiting)
  else .next s

/-- R174, R175: the limit timer of a channel alone reaches LIMIT_TIME: the latch, or the retry wait. -/
def execLimitTimeExpiry (l : Fin 8) (s : State) : Host.Outcome State Fault Refusal :=
  let b := bankOfL l
  let k := s.l[l]
  if lLive s l ∧ lGroup s l = none ∧ k.on ∧ s.b b 4 0x0A l 0x05 ≤ k.limitTime then
    let n := if k.retried then k.retries + 1 else k.retries
    let latch := decide (s.b b 1 0x0A l 0x06 = 0) || (k.retried && decide (n ≥ 8))
    let t := bankNow (s.banks[b])
    let s1 := (s.modL l (fun k => { k with retries := n, holdAt := t })).lFlag l (if latch then 3 else 2) true
    .next ((s1.bankRaise b (ident .lsw 1) 3 l).relaunch l)
  else .next s

/-- R171, R175: the retry wait is over; a turn-on that follows at once is a retry. -/
def execRetryPeriodExpiry (l : Fin 8) (s : State) : Host.Outcome State Fault Refusal :=
  let b := bankOfL l
  let k := s.l[l]
  if lBit s l 2 ∧ nsUnits (s.b b 2 0x0A l 0x07 * 1000000) ≤ (bankNow (s.banks[b]) - k.holdAt).toNat then
    .next ((((s.lFlag l 2 false).bankEnd b (ident .lsw 1) 3 l).rethink l).modL l (fun k => { k with retried := k.on }))
  else .next s

/-- The thermal latch at a shutdown: THERMAL_MODE 1, or the 16th consecutive restart that reaches T_SD within 1 s (R182). -/
def thermalCount (mode restarts : Nat) (restarted : Bool) (onFor : Nat) : Nat × Bool :=
  let n := if restarted && decide (onFor < nsUnits 1000000000) then restarts + 1 else restarts
  (min n 16, mode == 1 || decide (n ≥ 16))

/-- A member at T_SD (R202): its own thermal wait, and its whole group off in its bank, with LSW-02 against the group. -/
def State.groupShutdown (s : State) (l : Fin 8) (g : Fin 4) : State :=
  let b := bankOfL l
  let k := (s.banks[b]).groups[g]
  let s1 := s.lFlag l 4 true
  if k.thermal then s1.relaunch l
  else
    let again := k.restarted && decide ((bankNow (s.banks[b]) - k.launchAt).toNat < nsUnits 1000000000)
    (s1.changeG b g (.thermal true false)).groupRaise b (ident .lsw 2) g (if again then 1 else 0)

/-- R182, R202: T_J or T_S of a channel reaches its T_SD. -/
def execThermalShutdown (l : Fin 8) (s : State) : Host.Outcome State Fault Refusal :=
  let b := bankOfL l
  let k := s.l[l]
  if lLive s l ∧ (shutdownAt l ≤ k.tJ ∨ shutdownAt l ≤ k.tS) ∧ lBit s l 4 = false then
    match lGroup s l with
    | some g => .next (s.groupShutdown l g)
    | none =>
      let (n, latch) := thermalCount (s.b b 1 0x0A l 0x13) k.restarts k.thermRestart
        (bankNow (s.banks[b]) - k.launchAt).toNat
      let s1 := ((s.modL l (fun k => { k with restarts := n })).lFlag l 4 true).bankRaise b (ident .lsw 2) 3 l
      let s2 := if latch then (s1.lFlag l 5 true).bankRaise b (ident .lsw 3) 3 l else s1
      .next (s2.relaunch l)
  else .next s

/-- THERMAL_MODE that governs a channel: its own, or its group's (R190). -/
def thermalMode (s : State) (l : Fin 8) : Nat :=
  let b := bankOfL l
  match lGroup s l with
  | some g => s.b b 1 0x0B g 0x0C
  | none => s.b b 1 0x0A l 0x13

/-- Whether the group of a channel is under its thermal hold. -/
def groupHot (s : State) (l : Fin 8) : Bool := (lGroup s l).any (fun g => ((s.banks[bankOfL l]).groups[g]).thermal)

/-- R182: both temperatures are below T_RS with THERMAL_MODE 0: the thermal wait of the channel ends, and a turn-on that follows
at once is a restart. Under its group's thermal hold a member waits for the group (R202). -/
def execThermalRestart (l : Fin 8) (s : State) : Host.Outcome State Fault Refusal :=
  let b := bankOfL l
  if lBit s l 4 ∧ lBit s l 5 = false ∧ thermalMode s l = 0 ∧ groupHot s l = false ∧ lCool s l then
    .next ((((s.lFlag l 4 false).bankEnd b (ident .lsw 2) 3 l).rethink l).modL l (fun k => { k with thermRestart := k.on }))
  else .next s

/-- A clear of the thermal latch, which the junction allows (R171): the wait goes with it. -/
def State.unlatchThermal (s : State) (l : Fin 8) : State :=
  let b := bankOfL l
  let s1 := ((s.lFlag l 5 false).modL l (fun k => { k with restarts := 0, thermRestart := false })).bankEnd
    b (ident .lsw 3) 3 l
  let s2 := if lBit s l 4 then (s1.lFlag l 4 false).bankEnd b (ident .lsw 2) 3 l else s1
  s2.rethink l

/-- R184: V_DS rises above 40 V after a turn-off. -/
def execClampIntervalStart (l : Fin 8) (s : State) : Host.Outcome State Fault Refusal :=
  if lLive s l ∧ s.l[l].on = false ∧ lBit s l 13 = false then
    .next ((s.lFlag l 13 true).modL l (fun k => { k with clampE := 0, clampJ0 := k.tJ }))
  else .next s

/-- R184: the current falls below 10 mA. -/
def execClampIntervalEnd (l : Fin 8) (s : State) : Host.Outcome State Fault Refusal :=
  if lLive s l then .next (s.clampEnd l) else .next s

/-- The clamp lock clears. -/
def State.unlock (s : State) (l : Fin 8) : State := ((s.lFlag l 7 false).bankEnd (bankOfL l) (ident .lsw 5) 3 l).rethink l

/-- R186: with UNLOCK_MODE 0 the budget reaches UNLOCK_LEVEL. -/
def execClampUnlock (l : Fin 8) (s : State) : Host.Outcome State Fault Refusal :=
  let b := bankOfL l
  if lBit s l 7 ∧ s.b b 1 0x0A l 0x0F = 0 ∧ (s.b b 2 0x0A l 0x10 * 1000000 : Nat) ≤ s.l[l].budget then .next (s.unlock l)
  else .next s

/-- R188: the open-load test of a channel alone, and of a group against its current (R190, R208). -/
def execLswOpenLoad (o : LoadRef) (present : Bool) (s : State) : Host.Outcome State Fault Refusal :=
  match o with
  | .ls l =>
    let b := bankOfL l
    if lLive s l ∧ present ∧ lBit s l 9 = false then
      if s.l[l].on ∧ lGroup s l = none ∧ s.b b 1 0x0A l 0x1B = 1 then
        .next ((s.lFlag l 9 true).bankRaise b (ident .lsw 8) 3 l)
      else .next s
    else if lLive s l ∧ present = false ∧ lBit s l 9 then .next ((s.lFlag l 9 false).bankEnd b (ident .lsw 8) 3 l)
    else .next s
  | .grp g =>
    if present ∧ gBit s g 9 = false then
      if gBit s g 0 ∧ s.p 2 0x0B g 0x13 ≠ 0 ∧ membersOf s g ≠ 0 then .next ((s.gFlag g 9 true).raise (ident .lsw 8) 4 g)
      else .next s
    else if present = false ∧ gBit s g 9 then .next ((s.gFlag g 9 false).endFault (ident .lsw 8) 4 g)
    else .next s

/-- SHORT_VF clears, and the reverse-current hold with it (R188). -/
def State.shortGone (s : State) (l : Fin 8) : State :=
  if lBit s l 10 then
    (((s.lFlag l 10 false).modL l (fun k => { k with reverseHold := false })).bankEnd (bankOfL l) (ident .lsw 9) 3 l).rethink l
  else s

/-- R188: the short-to-supply test of an off channel. -/
def execLswShortToSupply (l : Fin 8) (present : Bool) (s : State) : Host.Outcome State Fault Refusal :=
  if lLive s l then
    if present then
      if s.l[l].on = false ∧ lBit s l 13 = false ∧ lBit s l 10 = false then
        .next ((s.lFlag l 10 true).bankRaise (bankOfL l) (ident .lsw 9) 3 l)
      else .next s
    else .next (s.shortGone l)
  else .next s

/-- R188: reverse current turns the switch off under its hold. -/
def execLswReverseCurrent (l : Fin 8) (present : Bool) (s : State) : Host.Outcome State Fault Refusal :=
  if lLive s l then
    if present then
      if s.l[l].on then
        let s1 := (s.lFlag l 10 true).modL l (fun k => { k with reverseHold := true })
        let s2 := if lBit s l 10 then s1 else s1.bankRaise (bankOfL l) (ident .lsw 9) 3 l
        .next (s2.relaunch l)
      else .next s
    else .next (s.shortGone l)
  else .next s

/-- The safe setting the power die holds for a channel (R169): the group's for a member. -/
def dieSafe (s : State) (l : Fin 8) : Bool :=
  let p := match lGroup s l with
    | some g => gSafe s (bankOfL l) g
    | none => lSafe s l
  if p.1 = 0 then decide (p.2 ≠ 0) else s.l[l].on

/-- R169: no valid frame between the two dies for 100 µs. -/
def execPowerDieExchangeLost (b : Fin 4) (s : State) : Host.Outcome State Fault Refusal :=
  if (s.banks[b]).powered then
    let todo := (bankL b).filter (fun l => !(s.l[l].dieLost))
    match todo with
    | [] => .next s
    | _ =>
      let s1 := todo.foldl (fun x l =>
        let v := dieSafe x l
        (x.modL l (fun k => { k with dieLost := true, dieHeld := v })).relaunch l) s
      .next (s1.bankRaise b (ident .lsw 15) 1 b)
  else .next s

/-- R169: the exchange resumes, and the bank commands again. -/
def execPowerDieExchangeResumed (b : Fin 4) (s : State) : Host.Outcome State Fault Refusal :=
  let lost := (bankL b).filter (fun l => s.l[l].dieLost)
  match lost with
  | [] => .next s
  | _ =>
    let s1 := lost.foldl (fun x l => (x.modL l (fun k => { k with dieLost := false })).relaunch l) s
    .next (s1.bankEnd b (ident .lsw 15) 1 b)

end Sys2Proof.Machine
end

