-- ==== Sys2Proof/Machine/Group.lean ====
section
/-! DEFINITION. The meanings of the coppice-group rows (R189 to R203). -/

namespace Sys2Proof.Machine

/-- A common launch that a bank keeps ends STATUS.SKEW there. -/
def State.onTime (s : State) (b : Fin 4) (o : OutRef) : State :=
  match o with
  | .grp g => s.modGrp b g (fun k => { k with skew := false })
  | _ => s

/-- R193: the bank copy reaches common launch instants; the changes launch in order. -/
def execGroupLaunchInstant (b : Fin 4) (s : State) : Host.Outcome State Fault Refusal :=
  let clock := bankNow (s.banks[b])
  let due := (s.banks[b]).launches.filter (fun x => reached x.at_ clock)
  let s1 := s.modBank b (fun k => { k with launches := k.launches.filter (fun x => !reached x.at_ clock) })
  .next (due.foldl (fun x c => (x.change b c.out c.change).onTime b c.out) s1)

/-- The logic side trips a group (R196, R200): the hold at every member bank, at a common instant across banks. -/
def State.tripped (s : State) (g : Fin 4) : State :=
  (s.setBytes 0x0B g 0x1A 0 (List.replicate 9 0)).sendHold g (.trip true) none

/-- The largest VF difference among a group's banks, in mV (R196). -/
def vfSpread (s : State) (g : Fin 4) : Nat :=
  let vs := (groupBanks s g).map (fun b => s.p 4 0x05 b 0x03)
  match vs with
  | [] => 0
  | v :: rest => rest.foldl max v - rest.foldl min v

/-- R196: the VF readings of a cross-bank group's banks, compared once a link frame. -/
def execVfSpreadCheck (g : Fin 4) (s : State) : Host.Outcome State Fault Refusal :=
  if isCross s g then
    let d := vfSpread s g
    let hi' := if d > 500 then min 16 (s.coppice[g].vfHigh + 1) else 0
    let lo' := if d > 500 then 0 else min 16 (s.coppice[g].vfLow + 1)
    let s1 := (s.modSide g (fun k => { k with vfHigh := hi', vfLow := lo' })).setP 4 0x0B g 0x0F d
    if hi' ≥ 16 ∧ gBit s g 4 = false then .next (((s1.gFlag g 4 true).tripped g).raise (ident .lsw 12) 4 g)
    else if lo' ≥ 16 ∧ gBit s g 4 then .next ((s1.gFlag g 4 false).endFault (ident .lsw 12) 4 g)
    else .next s1
  else .next s

/-- Whether some other member of the group stays at full gate drive, as a bank knows it (R197): in the bank itself, or in another
bank as the last share cell gave it (assumption log 41). -/
def otherFull (s : State) (b g : Fin 4) (l : Fin 8) : Bool :=
  (activeIn s b g).any (fun m => m != l && s.l[m].gate == 63) ||
    allLs.any (fun m => bankOfL m != b && ((s.banks[b]).groups[g]).full.getLsbD m.val)

/-- One balancing step of a member (R197): towards S, never above 0.6 V across the switch, and with some other member left at
full drive. -/
def balanceStep (s : State) (b g : Fin 4) (sh : Int) (l : Fin 8) : State :=
  let k := s.l[l]
  if k.on = false then s
  else if sh < k.iMirror then
    if 32 < k.gate ∧ roundDiv (k.vds * ronRatio l (k.gate - 1)) (ronRatio l k.gate) ≤ 600000 ∧ otherFull s b g l then
      s.modL l (fun k => { k with gate := k.gate - 1 })
    else s
  else if k.iMirror < sh ∧ k.gate < 63 then s.modL l (fun k => { k with gate := k.gate + 1 })
  else s

/-- R197: each active member of the bank moves its gate step towards the share. -/
def execBalanceUpdate (b g : Fin 4) (s : State) : Host.Outcome State Fault Refusal :=
  if (s.banks[b]).arrived ∧ s.b b 1 0x0B g 0x12 = 1 ∧ ((s.banks[b]).groups[g]).on then
    let sh := if crossB s b g then ((s.banks[b]).groups[g]).share else localShare s b g
    let s1 := s.modGrp b g (fun k => { k with share := sh })
    .next ((activeIn s b g).foldl (fun x l => balanceStep x b g sh l) s1)
  else .next s

/-- R197: IMBALANCE has been above 10 % for 100 ms, or is back. -/
def execBalanceLost (g : Fin 4) (s : State) : Host.Outcome State Fault Refusal :=
  let bad := decide (s.p 2 0x0B g 0x19 > 100) && membersOf s g != 0
  if bad ∧ gBit s g 5 = false ∧ gBit s g 0 then .next ((s.gFlag g 5 true).raise (ident .lsw 13) 4 g)
  else if bad = false ∧ gBit s g 5 then .next ((s.gFlag g 5 false).endFault (ident .lsw 13) 4 g)
  else .next s

/-- R198, R200: a member lost by its sense paths or open is excluded. In a group within one bank the loss of the last active member
trips the group at once; across banks the logic side sees it. -/
def execMemberExclusion (l : Fin 8) (s : State) : Host.Outcome State Fault Refusal :=
  let b := bankOfL l
  match lGroup s l with
  | none => .next s
  | some g =>
    if lLive s l ∧ lBit s l 11 = false ∧ (s.l[l].mismatchRun ≥ 8 ∨ s.l[l].lostRun ≥ 16) then
      let s1 := (s.lFlag l 11 true).modL l (fun k => { k with mismatchRun := 0, lostRun := 0, readmit := false })
      let s2 := ((s1.relaunch l).gSee b g).groupRaise b (ident .lsw 10) g (1#8 <<< l.val)
      if (activeIn s2 b g).isEmpty ∧ crossB s2 b g = false then
        .next ((s2.changeG b g (.trip true)).bankRaise b (ident .lsw 11) 4 g)
      else .next s2
    else .next s

/-- The instant at which a bank trips a group: the one the logic side sent, or its own (R200). -/
def tripInstant (s : State) (b g : Fin 4) : Option CellTime :=
  let k := (s.banks[b]).groups[g]
  match k.tripAt with
  | some t => some t
  | none => k.limitEntry.map (fun t => ctAddNs t ((s.b b 4 0x0B g 0x07 + s.b b 2 0x0B g 0x10) * 1000))

/-- A bank trips a group (R200); the bank of the lowest member raises LSW-11. -/
def State.bankTrip (s : State) (b g : Fin 4) : State :=
  let s1 := s.changeG b g (.trip true)
  if firstBank s b g then s1.bankRaise b (ident .lsw 11) 4 g else s1

/-- R200: the trip instant comes. -/
def execGroupTrip (b g : Fin 4) (s : State) : Host.Outcome State Fault Refusal :=
  match tripInstant s b g with
  | none => .next s
  | some t =>
    if (s.banks[b]).arrived ∧ reached t (bankNow (s.banks[b])) ∧ ((s.banks[b]).groups[g]).tripped = false then
      .next (s.bankTrip b g)
    else .next s

/-- Whether a member bank reports, in its last LSW cell, a member in limit or one that left it less than 100 µs before. -/
def overloadTold (s : State) (g b : Fin 4) : Bool := s.links[b].groups.any (fun f => f.group == g && f.limit.isSome)

/-- R200: the overload has been over for 100 µs on every member before the trip instant: the logic side cancels it. -/
def execGroupOverloadEnd (g : Fin 4) (s : State) : Host.Outcome State Fault Refusal :=
  if s.pBytes 9 0x0B g 0x1A 0 ≠ List.replicate 9 0 ∧ gBit s g 7 = false ∧ !(groupBanks s g).any (overloadTold s g) then
    .next ((groupBanks s g).foldl (fun x b => x.sendDown b (.trip g none))
      (s.setBytes 0x0B g 0x1A 0 (List.replicate 9 0)))
  else .next s

/-- The logic side spreads a group's thermal shutdown (R202): the hold at every member bank, the count of restarts that reached T_SD
again within 1 s, and the thermal latch at the 16th or with THERMAL_MODE 1 (R182). -/
def State.spreadShutdown (s : State) (g : Fin 4) (again : Bool) : State :=
  let (n, latch) := thermalCount (s.p 1 0x0B g 0x0C) (s.p 1 0x0B g 0x18) again 0
  let s1 := ((s.setP 1 0x0B g 0x18 n).modSide g (fun k => { k with
    shutdown := none, hot := true, latch := if latch then 1 else k.latch })).sendHold g (.thermal true latch) none
  if latch then s1.raise (ident .lsw 3) 4 g else s1

/-- Every member of a group is below T_RS, as its banks last told under the thermal hold (R202). -/
def groupCool (s : State) (g : Fin 4) : Bool :=
  (groupBanks s g).all (fun b => s.links[b].groups.any (fun f => f.group == g && f.status.getLsbD 2 && f.cool))

/-- R202: a member has reached T_SD and the group goes off in every bank, at a common instant across banks; once every member is
below T_RS it restarts together, unless its thermal latch, which stands in its members, is set. -/
def execGroupThermal (g : Fin 4) (restart : Bool) (s : State) : Host.Outcome State Fault Refusal :=
  let k := s.coppice[g]
  if restart then
    if k.hot ∧ k.latch = 0 ∧ membersOf s g ≠ 0 ∧ groupCool s g then
      .next (((s.modSide g (fun k => { k with hot := false })).endFault (ident .lsw 2) 4 g).sendHold g
        (.thermal false false) none)
    else .next s
  else
    match k.shutdown with
    | none => .next s
    | some again => .next (if k.hot then s.modSide g (fun k => { k with shutdown := none }) else s.spreadShutdown g again)

end Sys2Proof.Machine
end

