-- ==== Sys2Proof/Machine/CanopyOps.lean ====
section
/-! DEFINITION. The shared operations of Canopy: group records, publication, subscriptions and commissioning forces (R264 to
R281, R476). -/

namespace Sys2Proof.Machine

/-! ### Group records (R300) -/

/-- The 16 bytes of a record of GROUP_TABLE. -/
def groupRec (s : State) (i : Nat) : List Byte := cellsReadN zeroByte s.canopy.groups (16 * i) 16

/-- TIMESTAMP of a group record. -/
def groupTime (s : State) (i : Nat) : CellTime := ctOfBytes (groupRec s i)

/-- SOURCE_EPOCH of a group record. -/
def groupEpoch (s : State) (i : Nat) : Nat := leNat (((groupRec s i).drop 10).take 2)

/-- UPDATES of a group record. -/
def groupUpdates (s : State) (i : Nat) : Nat := leNat ((groupRec s i).drop 12)

/-- Write a group record. -/
def State.setGroupRec (s : State) (i : Nat) (t : CellTime) (st epoch updates : Nat) : State :=
  { s with canopy := { s.canopy with
    groups := cellsWriteL zeroByte s.canopy.groups (16 * i)
      (ctBytes t ++ leBytes 1 st ++ leBytes 2 epoch ++ leBytes 4 updates) } }

/-- Set STATE of a group record. -/
def State.setGroupState (s : State) (i st : Nat) : State :=
  s.setGroupRec i (groupTime s i) st (groupEpoch s i) (groupUpdates s i)

/-! ### Publication (R270 to R273, R476) -/

/-- The points of a PUB frame: VALUE and QUALITY, five bytes each. -/
def pubRecords (s : State) (g : Nat) : List Byte :=
  ((groupPoints s g).map (fun p => beBytes 4 (ofSigned 32 (pointValue s p.1)) ++ [pointQuality s p.1])).flatten

/-- The payload of a PUB frame (R476); version 2.0 carries no SCHEMA_HASH. -/
def pubPayload (s : State) (g : Nat) (t : CellTime) : List Byte :=
  let (cls, count, _) := pubGroup s g
  leBytes 1 g ++ leBytes 1 count ++ beBytes 2 s.canopy.sourceEpoch.toNat ++ beBytes 8 (ctNs t) ++ leBytes 1 (ctFrac t) ++
    leBytes 1 cls ++ [0, 0] ++ (if operVersion s ≥ 0x21 then beBytes 8 (s.p 8 0x0E 0 0x06) else []) ++ pubRecords s g

/-- Take the waiting frames of a group from the ports (R273); the result says whether there was one. -/
def State.dropWaiting (s : State) (g : Nat) : Bool × State :=
  let waits := allPorts.any (fun p => s.ports[p].queue.any (fun x => x.pub == some g))
  (waits, if waits then
      State.bufStat { s with ports := s.ports.map (fun (k : Port) =>
        { k with queue := k.queue.filter (fun (x : QFrame) => x.pub != some g) }) }
    else s)

/-- A frame of a group waits on a port and has begun on none (R271). -/
def frameWaits (s : State) (g : Nat) : Bool :=
  allPorts.any (fun p => s.ports[p].queue.any (fun (x : QFrame) => x.pub == some g)) &&
    !allPorts.any (fun p => s.ports[p].sending.any (fun x => x.1.pub == some g))

/-- Publish a group with a group timestamp (R270 to R273); in UNASSIGNED and DUPLICATE nothing is sent (R472). `carry` says that
the frame that waits carries the change, so that no other falls due (R271). -/
def State.publish (s : State) (g : Nat) (t : CellTime) (carry : Bool) : State :=
  if gclState s = 0 ∨ gclState s = 3 then s.setPub { pubState s g with mark := markNow s t }
  else
    let (waits, s1) := s.recordEpochs.dropWaiting g
    let s2 := if waits && !carry then ((s1.inc 4 0x0E 0 0x13).orP 0x0E 0 0x14 4).raise (ident .can 5) 7 g else s1
    let fast := decide ((pubGroup s g).1 ≠ 2)
    let s3 := s2.sendGcl { ownFrame 0x20 0 gclPub 0xFFFE (pubPayload s g t) with express := fast, pub := some g }
    let n := if carry then 0 else 1
    let s4 := (s3.setP 4 0x0E 0 0x10 ((s3.p 4 0x0E 0 0x10 + n) % 2 ^ 32)).setGroupRec g t 2 s.canopy.sourceEpoch.toNat
      (groupUpdates s g + n)
    s4.setPub { group := g, qualified := false, lastSent := some s.tb.mono, mark := markNow s t,
                lastValues := (groupPoints s g).map (fun p => (p.1, BitVec.ofInt 32 (pointValue s p.1))) }

/-- The latest publication instant k × PERIOD + PHASE of an F or S group at or before now (R270); none before the first. -/
def latestInstant (s : State) (g : Nat) : Option CellTime :=
  let (_, _, _, period, phase, _) := pubGroup s g
  let n := ctNs (now s)
  if period = 0 ∨ n < phase * 1000 then none
  else some (ctMk ((n - phase * 1000) / (period * 1000) * (period * 1000) + phase * 1000) 0)

/-! ### Subscriptions (R274 to R278) -/

/-- One entry of SUB_TABLE (R300). -/
structure SubEntry where
  index : Nat
  node : Nat
  group : Nat
  count : Nat
  base : Nat
  period : Nat
  subst : Nat
  anySchema : Bool
  substValue : Int
  schema : Nat
  deriving DecidableEq, Repr

/-- Entry i of SUB_TABLE. -/
def subEntry (s : State) (i : Nat) : SubEntry :=
  let a := s.pBytes 32 0x0E 0 0x05 (32 * i)
  let at_ (o n : Nat) : Nat := leNat ((a.drop o).take n)
  { index := i, node := at_ 0 2, group := at_ 2 1, count := at_ 3 1, base := at_ 4 4, period := at_ 8 4, subst := at_ 12 1,
    anySchema := natBit (at_ 13 1) 0, substValue := toSigned 32 (at_ 16 4), schema := at_ 20 8 }

/-- The subscriptions in effect. -/
def subscriptions (s : State) : List SubEntry :=
  ((tableEntries s 0x05 32).map (subEntry s)).filter (fun e => e.node ≠ 0xFFFF)

/-- The receive state of a subscription. -/
def subState (s : State) (i : Nat) : SubState :=
  (s.canopy.subs.find? (fun x => x.index == i)).getD
    { index := i, arrival := 0, accepted := false, stale := false, mismatch := false, raised := false }

/-- STALE_GROUPS and MISMATCH_GROUPS follow the subscriptions; a waiting one is stale (R277). -/
def State.subCounts (s : State) : State :=
  let stale := (s.canopy.subs.filter (fun x => x.stale || !x.accepted)).length
  let bad := (s.canopy.subs.filter (fun x => x.mismatch)).length
  (s.setP 2 0x0E 0 0x0E stale).setP 2 0x0E 0 0x0F bad

/-- Set the receive state of a subscription. -/
def State.setSub (s : State) (x : SubState) : State :=
  let rest := s.canopy.subs.filter (fun y => y.index != x.index)
  State.subCounts { s with canopy := { s.canopy with subs := rest ++ [x] } }

/-- The handles of a subscription. -/
def subHandles (e : SubEntry) : List Nat := (List.range e.count).map (· + e.base)

/-- The points of a stale subscription carry STALE and SUBSTITUTED and not GOOD, with the last or the substitute value
(R277). -/
def State.stalePoints (s : State) (e : SubEntry) : State :=
  (subHandles e).foldl (fun t h =>
    let (v, q) := underValue t h
    t.writePoint h (if e.subst = 1 then e.substValue else v) ((q ||| 0x42) &&& 0xFE) (groupEpoch t (64 + e.index))) s

/-- A subscription that a commit creates, or that reset leaves, waits: its points are stale with value 0 or the substitute
value, and it has no arrival but the instant of its creation (R277). -/
def State.createSub (s : State) (e : SubEntry) : State :=
  let s1 := s.setGroupRec (64 + e.index) 0 1 0 0
  let s2 := (subHandles e).foldl (fun t h => t.writePoint h (if e.subst = 1 then e.substValue else 0) 0x42 0) s1
  s2.setSub { index := e.index, arrival := s.tb.mono, accepted := false, stale := false, mismatch := false, raised := false }

/-- A subscription that a commit removes: its points read 0 again, its forces are released (R265, R280). -/
def State.removeSub (s : State) (e : SubEntry) : State :=
  let st := subState s e.index
  let s1 := if st.raised then s.endFault (ident .can 3) 6 e.index else s
  let s2 := if st.mismatch then s1.endFault (ident .can 4) 6 e.index else s1
  let hs := subHandles e
  let pts := hs.foldl (fun m h => cellsWriteL zeroByte m (8 * h) (List.replicate 8 0)) s2.canopy.points
  let recs := cellsWriteL zeroByte s2.canopy.groups (16 * (64 + e.index)) (List.replicate 16 0)
  State.subCounts { s2 with canopy := { s2.canopy with
      points := pts, groups := recs, subs := s2.canopy.subs.filter (fun x => x.index != e.index),
      forces := s2.canopy.forces.filter (fun f => !hs.contains f.handle) } }

/-- The fields of a received PUB frame (R476). -/
structure PubIn where
  group : Nat
  count : Nat
  epoch : Nat
  time : CellTime
  schema : Option Nat
  points : List Byte
  deriving DecidableEq, Repr

/-- Take a PUB payload apart; `none` where it is too short for the points it counts. -/
def pubIn (version : Nat) (l : List Byte) : Option PubIn :=
  let at_ (o n : Nat) : Nat := beNat ((l.drop o).take n)
  let hasHash := decide (version ≥ 0x21)
  let start := if hasHash then 24 else 16
  if l.length < start + 5 * at_ 1 1 then none
  else some { group := at_ 0 1, count := at_ 1 1, epoch := at_ 2 2, time := ctMk (at_ 4 8) (at_ 12 1),
              schema := if hasHash then some (at_ 16 8) else none, points := l.drop start }

/-- Whether a subscription takes a frame (R275). -/
def pubTaken (s : State) (e : SubEntry) (p : PubIn) : Bool :=
  let st := subState s e.index
  let stored := groupEpoch s (64 + e.index)
  !st.accepted || (if p.epoch = stored then decide ((groupTime s (64 + e.index)).toNat < p.time.toNat)
    else decide ((p.epoch + 65536 - stored) % 65536 < 32768))

/-- The publisher's hash for the comparison of R278: the frame's, or that of its latest HELLO, or none held. -/
def pubHash (s : State) (node : Nat) (p : PubIn) : Option Nat :=
  match p.schema with
  | some h => some h
  | none => (s.gcl.nodes.find? (fun x => x.addr == node)).map (fun x => x.schema.toNat)

/-- Whether a frame puts its subscription into mismatch (R278). -/
def pubMismatch (s : State) (e : SubEntry) (p : PubIn) : Bool :=
  !e.anySchema && (match pubHash s e.node p with | some h => h != e.schema | none => false)

/-- The quality a subscribed point takes from a frame (R276, R267, R278). -/
def subQuality (q : Byte) (mismatch : Bool) : Byte :=
  if mismatch then ((q ||| 0x20) &&& 0xFC) else q &&& 0xDD

/-- Write an accepted frame as one unit (R276): the points, the group record, the counts, and the ends of CAN-03 and
CAN-04. -/
def State.takePub (s : State) (e : SubEntry) (p : PubIn) : State :=
  let bad := pubMismatch s e p
  let st := subState s e.index
  let s1 := (List.range e.count).foldl (fun t k =>
    let r := (p.points.drop (5 * k)).take 5
    t.writePoint (e.base + k) (toSigned 32 (beNat (r.take 4))) (subQuality (r.getD 4 0) bad) p.epoch) s
  let i := 64 + e.index
  let s2 := (s1.setGroupRec i p.time (if bad then 4 else 2) p.epoch (groupUpdates s i + 1)).inc 4 0x0E 0 0x11
  let s3 := if st.raised then s2.endFault (ident .can 3) 6 e.index else s2
  let s4 :=
    if bad && !st.mismatch then (s3.orP 0x0E 0 0x14 2).raise (ident .can 4) 6 e.index
    else if !bad && st.mismatch then s3.endFault (ident .can 4) 6 e.index
    else s3
  s4.setSub { index := e.index, arrival := s.tb.mono, accepted := true, stale := false, mismatch := bad, raised := false }

/-- A matching frame that is not accepted. -/
def State.discardPub (s : State) : State := s.inc 4 0x0E 0 0x12

/-- A received PUB frame (R275). -/
def State.receivePub (s : State) (version node : Nat) (payload : List Byte) : State :=
  let group := (payload.getD 0 0).toNat
  match (subscriptions s).find? (fun e => e.node == node && e.group == group) with
  | none => s
  | some e =>
    match pubIn version payload with
    | none => s.discardPub
    | some p => if p.count < e.count ∨ !pubTaken s e p then s.discardPub else s.takePub e p

/-- The stale check of one subscription (R277). -/
def State.staleOne (s : State) (e : SubEntry) : State :=
  let st := subState s e.index
  if elapsed s st.arrival (3 * e.period * 1000) then
    if st.accepted ∧ st.stale = false then
      (((s.stalePoints e).setGroupState (64 + e.index) 3).setSub { st with stale := true, raised := true }
        |>.orP 0x0E 0 0x14 1).raise (ident .can 3) 6 e.index
    else if st.accepted = false ∧ st.raised = false then
      ((s.setSub { st with raised := true }).orP 0x0E 0 0x14 1).raise (ident .can 3) 6 e.index
    else s
  else s

/-! ### Commissioning forces (R280, R281) -/

/-- A handle that FORCE_POINT takes. -/
def forceable (s : State) (h : Nat) : Bool :=
  decide (h ≤ 0x23) || h == 0x40 || h == 0x41 || (0x44 ≤ h && h ≤ 0x47) || (0x80 ≤ h && h ≤ 0x87) ||
    (0x1000 ≤ h && h ≤ 0x1FFF) || (subscriptions s).any (fun e => e.base ≤ h && h < e.base + e.count)

/-- Force a point. -/
def State.forcePoint (s : State) (h : Nat) (v : Word) : State :=
  let under := match s.canopy.forces.find? (fun f => f.handle == h) with
    | some f => f.under
    | none => pointBytes s h
  let rest := s.canopy.forces.filter (fun f => f.handle != h)
  let f : PointForce := { handle := h, value := v, under := under }
  let s1 : State := { s with canopy := { s.canopy with forces := rest ++ [f] } }
  s1.storePoint h v.toInt (forcedQuality (under.getD 4 0)) (leNat (under.drop 6))

/-- Release one force: the point shows its latest underlying record. -/
def State.releasePoint (s : State) (h : Nat) : State :=
  match s.canopy.forces.find? (fun f => f.handle == h) with
  | none => s
  | some f =>
    let s1 : State := { s with canopy := { s.canopy with forces := s.canopy.forces.filter (fun x => x.handle != h) } }
    s1.storePoint h (toSigned 32 (leNat (f.under.take 4))) (f.under.getD 4 0) (leNat (f.under.drop 6))

/-- Release every force. -/
def State.releaseAllPoints (s : State) : State := s.canopy.forces.foldl (fun t f => t.releasePoint f.handle) s

/-- The checks of R280 in their order. -/
def forcePointCmd (s : State) (ep : Fin 8) (h : Nat) (v : Word) : CmdRes :=
  if !isAuthority s ep then refuse s rcNotAuthority
  else if s.p 1 0x0E 0 0x0A ≠ 1 then refuse s rcLocked
  else if !forceable s h then refuse s rcOutOfRange
  else if !(s.canopy.forces.any (fun f => f.handle == h)) && decide (s.canopy.forces.length ≥ 64) then refuse s rcOutOfRange
  else okRes (s.forcePoint h v)

/-- A write of RELEASE_POINT (R281). -/
def releasePointCmd (s : State) (ep : Fin 8) (h : Nat) : CmdRes :=
  if !isAuthority s ep then refuse s rcNotAuthority
  else if h = 0xFFFFFFFF then okRes s.releaseAllPoints
  else okRes (s.releasePoint h)

/-! ### The layout hashes (R278, R279) -/

/-- `n` bytes of an attribute in a parameter store. -/
def storeBytes (m : Store) (n cls inst attr : Nat) : List Byte := cellsReadN parReset m (parKey cls inst attr 0) n

/-- The attributes of a published channel that SCHEMA_HASH covers, with their sizes. -/
def schemaAttrs (h : Nat) : Option (Nat × Nat × List (Nat × Nat)) :=
  if h < 0x10 then some (0x06, h, [(0x01, 1), (0x07, 1), (0x08, 1), (0x09, 4), (0x0A, 132), (0x0B, 4), (0x0C, 4)])
  else if 0x18 ≤ h ∧ h < 0x20 then some (0x0C, h - 0x18, [(0x01, 1), (0x1E, 1)])
  else none

/-- The bytes of the channel attributes of one published handle. -/
def schemaOf (m : Store) (h : Nat) : List Byte :=
  match schemaAttrs h with
  | none => []
  | some (cls, inst, l) => (l.map (fun a => storeBytes m a.2 cls inst a.1)).flatten

/-- The entries of PUB_POINTS that the groups of a store use, in entry order. -/
def usedPoints (m : Store) : List Nat :=
  let groups := (List.range 64).map (fun g => (storeBytes m 1024 0x0E 0 0x03).drop (16 * g) |>.take 16)
  let used := groups.flatMap (fun a =>
    if leNat (a.take 1) = 0 then []
    else (List.range (leNat ((a.drop 1).take 1))).map (· + leNat ((a.drop 2).take 2)))
  (List.range 512).filter (fun i => used.contains i)

/-- SCHEMA_HASH of a parameter store (R278). -/
def schemaHash (m : Store) : BitVec 64 :=
  let pts := storeBytes m 4096 0x0E 0 0x04
  let handles := (usedPoints m).map (fun i => leNat ((pts.drop (8 * i)).take 4))
  hash64 (storeBytes m 1024 0x0E 0 0x03 ++ (handles.map (leBytes 4)).flatten ++ (handles.map (schemaOf m)).flatten)

/-- LAYOUT_HASH of a parameter store (R279). -/
def layoutHash (m : Store) : BitVec 64 :=
  hash64 (storeBytes m 522240 0x0E 0 0x05 ++ storeBytes m 1024 0x0E 0 0x03 ++ storeBytes m 4096 0x0E 0 0x04)

end Sys2Proof.Machine
end

