-- ==== Sys2Proof/Machine/Canopy.lean ====
section
/-! DEFINITION. The meanings of the Canopy rows (Canopy process image). -/

namespace Sys2Proof.Machine

/-- R270, R272: an F or S group is read atomically at its publication instant and sent. -/
def execPublicationInstant (g : Fin 64) (s : State) : Host.Outcome State Fault Refusal :=
  let cls := (pubGroup s g).1
  match latestInstant s g with
  | none => .next s
  | some t => if (cls = 1 ∨ cls = 2) ∧ freshInstant s (pubState s g).mark t then .next (s.publish g t false) else .next s

/-- R271: an E group with a qualifying change is read and sent, at the end of HOLDOFF at the earliest; a frame that waits and has
not begun carries it. -/
def execEventGroupPublish (g : Fin 64) (s : State) : Host.Outcome State Fault Refusal :=
  let (cls, _, _, _, _, holdoff) := pubGroup s g
  let st := pubState s g
  let waits := frameWaits s g
  let free := waits || st.lastSent.all (fun t => elapsed s t (holdoff * 1000))
  if cls = 3 ∧ st.qualified ∧ free then .next (s.publish g (now s) waits) else .next s

/-- R270: no frame of an E group has left for PERIOD. -/
def execHeartbeatExpiry (g : Fin 64) (s : State) : Host.Outcome State Fault Refusal :=
  let (cls, _, _, period, _, _) := pubGroup s g
  let due := (pubState s g).lastSent.all (fun t => elapsed s t (period * 1000))
  if cls = 3 ∧ due then .next (s.publish g (now s) false) else .next s

/-- R275 to R278: the oldest PUB frame that has passed the checks of R462. -/
def execPubFrameReceived (s : State) : Host.Outcome State Fault Refusal :=
  match s.gcl.checked.find? (fun f => f.typ == 0x20) with
  | none => .next s
  | some f =>
    let s1 : State := { s with gcl := { s.gcl with checked := s.gcl.checked.erase f } }
    .next (s1.receivePub f.version f.srcNode f.payload)

/-- R277: the check of every subscription, every 10 µs. -/
def execStaleCheck (s : State) : Host.Outcome State Fault Refusal :=
  .next ((subscriptions s).foldl (fun t e => t.staleOne e) s)

/-- R280: a write of FORCE_POINT. -/
def execForcePoint (q : Req) (handle value : BitVec 32) (s : State) : Host.Outcome State Fault Refusal :=
  .next ((forcePointCmd s q.ep handle.toNat value).finish q opSetParam)

/-- R281: a write of RELEASE_POINT. -/
def execReleasePoint (q : Req) (handle : BitVec 32) (s : State) : Host.Outcome State Fault Refusal :=
  .next ((releasePointCmd s q.ep handle.toNat).finish q opSetParam)

end Sys2Proof.Machine
end

