-- ==== Sys2Proof/Machine/GladeOps.lean ====
section
/-! DEFINITION. The shared operations of Glade: rule images, terms and timers, passes, forces on outputs, loading and
swapping (R282 to R296). -/

namespace Sys2Proof.Machine

/-! ### Rule banks and images (R282, R283) -/

/-- The contents of a rule bank. -/
def gladeBank (s : State) (i : Bool) : Store := if i then s.glade.bank1 else s.glade.bank0

/-- Bytes of an image in a bank. -/
def imageBytes (s : State) (i : Bool) (off n : Nat) : List Byte := cellsReadN zeroByte (gladeBank s i) off n

/-- A number of an image. -/
def imageNat (s : State) (i : Bool) (off n : Nat) : Nat := leNat (imageBytes s i off n)

/-- The length of the image in a bank. -/
def imageLen (s : State) (i : Bool) : Nat := if i then s.glade.len1 else s.glade.len0

/-- Change Glade. -/
def State.modGlade (s : State) (g : Glade → Glade) : State := { s with glade := g s.glade }

/-- Replace the contents and length of a bank. -/
def State.setRuleBank (s : State) (i : Bool) (m : Store) (len : Nat) : State :=
  s.modGlade (fun g => if i then { g with bank1 := m, len1 := len } else { g with bank0 := m, len0 := len })

/-- The bank that receives the next image. -/
def inactiveBank (s : State) : Bool := match s.glade.active with | some b => !b | none => false

/-- RULE_COUNT of an image. -/
def ruleCount (s : State) (i : Bool) : Nat := imageNat s i 6 2

/-- TABLE_ID of an image. -/
def tableId (s : State) (i : Bool) : Nat := imageNat s i 12 4

/-- LAYOUT of an image. -/
def tableLayout (s : State) (i : Bool) : Nat := imageNat s i 16 8

/-- IMAGE_HASH of an image. -/
def imageHash (s : State) (i : Bool) : Nat := imageNat s i (64 + 112 * ruleCount s i) 8

/-- The 112 bytes of rule r. -/
def ruleBytes (s : State) (i : Bool) (r : Nat) : List Byte := imageBytes s i (64 + 112 * r) 112

/-- A little-endian number within a byte string. -/
def sub (l : List Byte) (off n : Nat) : Nat := leNat ((l.drop off).take n)

/-- A bit of a byte of a byte string. -/
def subBit (l : List Byte) (off i : Nat) : Bool := (l.getD off 0).getLsbD i

/-- Term i of a rule. -/
def termOf (rule : List Byte) (i : Nat) : List Byte := (rule.drop (16 + 12 * i)).take 12

/-! ### Verification (R284, R293) -/

/-- A handle field of a term is in order: bits [23:17] are 0. -/
def handleOk (t : List Byte) (off : Nat) : Bool := decide (sub t off 3 < 0x20000)

/-- The conditions of R284 on term i. -/
def termOk (t : List Byte) (i : Nat) : Bool :=
  let kind := sub t 0 1 % 16
  let timer := decide (sub t 2 1 < i) && decide (1 ≤ sub t 8 4) && decide (sub t 8 4 ≤ 3600000000)
  match kind with
  | 1 => handleOk t 2 && (!subBit t 1 7 || handleOk t 5) && !(subBit t 1 7 && decide (6 ≤ sub t 1 1 % 8))
  | 2 => decide (sub t 1 1 ≤ 2) && decide (sub t 2 1 < 2 ^ i)
  | 3 => timer
  | 4 => timer
  | 5 => handleOk t 2
  | _ => false

/-- The conditions on one rule. -/
def ruleOk (rule : List Byte) : Bool :=
  let n := sub rule 2 1
  let action := sub rule 4 1
  let tk := sub rule 5 1
  let ti := sub rule 6 1
  decide (1 ≤ n) && decide (n ≤ 8) && (List.range n).all (fun i => termOk (termOf rule i) i) &&
    (!(action == 1 || action == 2) || (tk == 0 && decide (ti < 16)) || (tk == 1 && decide (ti < 8)) ||
      (tk == 2 && decide (ti < 4)))

/-- An image of a length verifies (R293). -/
def imageOk (s : State) (i : Bool) : Bool :=
  let len := imageLen s i
  let n := ruleCount s i
  let fast := (List.range n).filter (fun r => subBit (ruleBytes s i r) 3 0)
  imageBytes s i 0 4 == [0x47, 0x51, 0x52, 0x54] && imageNat s i 4 2 == 1 && decide (1 ≤ n) && decide (n ≤ 4096) &&
    len == 64 + 112 * n + 12 && imageNat s i 8 2 == fast.length && decide (fast.length ≤ 256) &&
    imageNat s i (len - 4) 4 == (crc32 (imageBytes s i 0 (len - 4))).toNat &&
    imageHash s i == (hash64 (imageBytes s i 0 (len - 12))).toNat &&
    (List.range n).all (fun r => ruleOk (ruleBytes s i r))

/-! ### Evaluation (R284 to R286) -/

/-- What evaluating the terms of a rule has found so far: the outputs, whether the gate passes, the timers touched. -/
structure EvalAcc where
  outs : List Bool
  gate : Bool
  timers : List TimerState
  deriving DecidableEq, Repr

/-- A comparison of R284; ANY and ALL take the bits of K. -/
def compareOp (op : Nat) (v rhs : Int) : Bool :=
  let a := ofSigned 32 v
  let k := ofSigned 32 rhs
  match op with
  | 0 => v == rhs | 1 => v != rhs | 2 => decide (v < rhs) | 3 => decide (v ≤ rhs) | 4 => decide (v > rhs)
  | 5 => decide (v ≥ rhs) | 6 => (a &&& k) != 0 | _ => (a &&& k) == k

/-- BOOL over the earlier outputs that a mask selects, each inverted by its bit of the invert mask. -/
def boolOp (op mask inv : Nat) (outs : List Bool) : Bool :=
  let sel := (outs.zipIdx.filter (fun x => natBit mask x.2)).map (fun x => x.1 != natBit inv x.2)
  match op with
  | 0 => sel.all id
  | 1 => sel.any id
  | _ => sel.foldl (fun a b => a != b) false

/-- The timer of a term before its update: no elapsed time (R286). -/
def timerOf (s : State) (r i : Nat) : TimerState :=
  (s.glade.timers.find? (fun t => t.rule == r && t.term == i)).getD
    { rule := r, term := i, input := false, since := s.tb.mono, out := false }

/-- The update of a timer at an evaluation (R286). -/
def stepTimer (s : State) (on : Bool) (delayUs : Nat) (t : TimerState) (x : Bool) : TimerState :=
  if on then
    if !x then { t with input := false, out := false }
    else if t.input then { t with out := elapsed s t.since (delayUs * 1000) }
    else { t with input := true, since := s.tb.mono, out := false }
  else
    if x then { t with input := true, since := s.tb.mono, out := true }
    else { t with input := false, out := t.out && !elapsed s t.since (delayUs * 1000) }

/-- Evaluate one term of rule r (R284). -/
def evalTerm (s : State) (r : Nat) (rule : List Byte) (acc : EvalAcc) (i : Nat) : EvalAcc :=
  let t := termOf rule i
  let inv := subBit t 0 5
  let push (v : Bool) (a : EvalAcc) : EvalAcc := { a with outs := a.outs ++ [v != inv] }
  match sub t 0 1 % 16 with
  | 1 =>
    let h := sub t 2 3
    let pair := subBit t 1 7
    let k := toSigned 32 (sub t 8 4)
    let rhs := if pair then pointValue s (sub t 5 3) + k else k
    let good := pointGood s h && (!pair || pointGood s (sub t 5 3))
    push (compareOp (sub t 1 1 % 8) (pointValue s h) rhs) { acc with gate := acc.gate && (subBit t 0 4 || good) }
  | 2 => push (boolOp (sub t 1 1) (sub t 2 1) (sub t 3 1) acc.outs) acc
  | 5 => push ((pointQuality s (sub t 2 3)).toNat &&& sub t 1 1 == sub t 8 1) acc
  | k =>
    let tm := stepTimer s (k == 3) (sub t 8 4) (timerOf s r i) (acc.outs.getD (sub t 2 1) false)
    push tm.out { acc with timers := acc.timers ++ [tm] }

/-- Put the touched timers of a rule into the rule state. -/
def State.setTimers (s : State) (r : Nat) (ts : List TimerState) : State :=
  s.modGlade (fun g => { g with timers := g.timers.filter (fun t => t.rule != r) ++ ts })

/-- Keep a number in or out of a list of rule or target numbers. -/
def setIn (l : List Nat) (n : Nat) (on : Bool) : List Nat :=
  if on then (if l.contains n then l else l ++ [n]) else l.filter (· != n)

/-- Evaluate rule r of the active table (R285): its marker, its result, and a user event at a change from 0 to 1. -/
def State.evalRule (s : State) (b : Bool) (r : Nat) : State :=
  let rule := ruleBytes s b r
  let acc := (List.range (sub rule 2 1)).foldl (evalTerm s r rule) { outs := [], gate := true, timers := [] }
  let gate := acc.gate && s.glade.state != 2
  let res := if gate then acc.outs.getLastD false else subBit rule 3 1
  let old := s.glade.results.contains r
  let unc : Byte := if s.tb.uncertain then 0x10 else 0
  let s1 := (s.setTimers r acc.timers).ownPoint (0x1000 + r) (if res then 1 else 0) ((if gate then 0x01 else 0x40) ||| unc)
  let s2 := s1.modGlade (fun g => { g with results := setIn g.results r res, safeTaken := setIn g.safeTaken r (!gate) })
  if sub rule 4 1 = 3 ∧ sub rule 5 1 ≤ 7 ∧ res ∧ !old then s2.ringAll (16 + sub rule 5 1) else s2

/-- The rules of a lane, in ascending number (R287). -/
def laneRules (s : State) (b : Bool) (fastOnly : Bool) : List Nat :=
  (List.range (ruleCount s b)).filter (fun r => !fastOnly || subBit (ruleBytes s b r) 3 0)

/-! ### Forces (R289 to R291) -/

/-- The target of a rule, in the order of FORCE_TABLE; a member of a group applies to the group (R191). -/
def ruleTarget (s : State) (rule : List Byte) : Nat :=
  let i := sub rule 6 1
  match sub rule 5 1 with
  | 0 => i
  | 1 => match lGroupL s (fin8 i) with | some g => 24 + g.val | none => 16 + i
  | _ => 24 + i

/-- The force a rule asks for, from its most recent evaluation (R289). -/
def ruleForce (s : State) (b : Bool) (r : Nat) : Option (Nat × Nat × Int) :=
  let rule := ruleBytes s b r
  let on := s.glade.results.contains r
  match sub rule 4 1 with
  | 1 => if on then some (r, ruleTarget s rule, toSigned 32 (sub rule 8 4)) else none
  | 2 => some (r, ruleTarget s rule, toSigned 32 (sub rule (if on then 8 else 12) 4))
  | _ => none

/-- Every force asked for, by rule number: rule, target, value. -/
def askedForces (s : State) : List (Nat × Nat × Int) :=
  match s.glade.active with
  | none => []
  | some b => (List.range (ruleCount s b)).filterMap (ruleForce s b)

/-- Whether a target takes a force (R290). -/
def targetTakes (s : State) (t : Nat) : Bool :=
  if t < 16 then isOutMode (uModeL s (finU t)) else if t < 24 then true else membersOf s (fin4 (t - 24)) != 0

/-- The banks of a target of FORCE_TABLE. -/
def forceBanks (s : State) (t : Nat) : List (Fin 4) :=
  if t < 16 then [bankOfU (finU t)] else if t < 24 then [bankOfL (fin8 (t - 16))] else groupBanks s (fin4 (t - 24))

/-- The output that a FORCE cell names. -/
def forceOut (t : Nat) : OutRef :=
  if t < 16 then .uni (uIn (finU t)) else if t < 24 then .ls (lIn (fin8 (t - 16))) else .grp (fin4 (t - 24))

/-- The forces in effect: of each target, the lowest-numbered rule's. -/
def forcesNow (s : State) : List GladeForce :=
  let asked := askedForces s
  (List.range 28).filterMap (fun t =>
    (asked.find? (fun a => a.2.1 == t)).map (fun a =>
      { target := t, rule := a.1, value := a.2.2,
        delivered := targetTakes s t && (forceBanks s t).any (bankPresent s) }))

/-- What a list of forces shows on a target: its value where it is delivered. -/
def shownForce (l : List GladeForce) (t : Nat) : Option Int :=
  (l.find? (fun f => f.target == t && f.delivered)).map (·.value)

/-- Send the force state of a target to each of its present banks (R291). -/
def State.sendForce (s : State) (t : Nat) (v : Option Int) : State :=
  let launch := if t < 24 then none else groupLaunch s (fin4 (t - 24))
  ((forceBanks s t).filter (bankPresent s)).foldl (fun x b => x.sendDownExpress b (.force (forceOut t) v launch)) s

/-- The fault object of a target of FORCE_TABLE (R305). -/
def forceObj (t : Nat) : Nat × Nat := if t < 16 then (2, t) else if t < 24 then (3, t - 16) else (4, t - 24)

/-- A condition on targets arises, lasts or ends: the newly listed ones count and raise, the ended ones end (R290). -/
def State.targetFaults (s : State) (old new : List Nat) (id attr bit : Nat) : State :=
  let came := new.filter (fun t => !old.contains t)
  let went := old.filter (fun t => !new.contains t)
  let s1 := came.foldl (fun x t =>
    ((x.inc 4 0x0F 0 attr).orP 0x0F 0 0x12 bit).raise id (forceObj t).1 (forceObj t).2) s
  went.foldl (fun x t => x.endFault id (forceObj t).1 (forceObj t).2) s1

/-- The targets on which two forcing rules carry different values. -/
def conflictsNow (s : State) : List Nat :=
  let asked := askedForces s
  (List.range 28).filter (fun t =>
    match asked.filter (fun a => a.2.1 == t) with
    | [] => false
    | a :: rest => rest.any (fun x => x.2.2 != a.2.2))

/-- The forced targets that take no force. -/
def ignoredNow (s : State) : List Nat := ((forcesNow s).map (·.target)).filter (fun t => !targetTakes s t)

/-- Recompute the forces after the evaluations of a pass (R290, R291). -/
def State.reforce (s : State) : State :=
  let new := forcesNow s
  let changed := (List.range 28).filter (fun t => shownForce s.glade.forces t != shownForce new t)
  let conf := conflictsNow s
  let ign := ignoredNow s
  let s1 := changed.foldl (fun x t => x.sendForce t (shownForce new t)) s
  let s2 := s1.targetFaults s.glade.conflicts conf (ident .gld 2) 0x13 2
  let s3 := s2.targetFaults s.glade.ignored ign (ident .gld 5) 0x14 16
  s3.modGlade (fun g => { g with forces := new, conflicts := conf, ignored := ign })

/-- Send the whole force state of a bank (R291). -/
def State.sendForceAll (s : State) (b : Fin 4) : State :=
  let fs := (s.glade.forces.filter (fun f => targetTakes s f.target && (forceBanks s f.target).contains b)).map
    (fun f => (forceOut f.target, f.value))
  s.sendDownExpress b (.forceAll fs)

/-- One pass of a lane over the active table (R287). -/
def State.pass (s : State) (fastOnly : Bool) : State :=
  match s.glade.active with
  | none => s
  | some b => ((laneRules s b fastOnly).foldl (fun t r => t.evalRule b r) s).reforce

/-! ### Loading and swapping (R292 to R296) -/

/-- Who may load and swap rules (R292). -/
def mayRules (s : State) (ep : Fin 8) : Bool := isAuthority s ep || (ep == 0 && s.p 1 0x0F 0 0x10 == 1)

/-- The response of LOAD_RULES (R383). -/
def loadPayload (s : State) (done : Bool) : List Byte :=
  let b := inactiveBank s
  leBytes 1 s.glade.inactive ++ [0, 0, 0] ++
    (if done then leBytes 4 (tableId s b) ++ leBytes 8 (imageHash s b) else List.replicate 12 0)

/-- LOAD_RULES BEGIN. -/
def loadBegin (s : State) (ep : Fin 8) (len : Nat) : CmdRes :=
  if !mayRules s ep then refuse s rcNotAuthority
  else if s.glade.swapAt.isSome then refuse s rcLocked
  else if len < 188 ∨ 458828 < len then refuse s rcOutOfRange
  else
    let s1 := (s.setRuleBank (inactiveBank s) [] len).modGlade (fun g => { g with inactive := 1, persisted := false })
    { st := s1, code := 0, payload := loadPayload s1 false }

/-- LOAD_RULES DATA. -/
def loadData (s : State) (ep : Fin 8) (off : Nat) (data : List Byte) : CmdRes :=
  if !mayRules s ep then refuse s rcNotAuthority
  else if s.glade.inactive ≠ 1 then refuse s rcBadParam
  else if data = [] ∨ data.length > 1008 then refuse s rcBadParam
  else if imageLen s (inactiveBank s) < off + data.length then refuse s rcOutOfRange
  else
    let b := inactiveBank s
    let s1 := s.setRuleBank b (cellsWriteL zeroByte (gladeBank s b) off data) (imageLen s b)
    { st := s1, code := 0, payload := loadPayload s1 false }

/-- The rule-table slot of NOR that does not hold the boot table. -/
def freeRuleSlot (s : State) : Bool := match s.glade.bootSlot with | some b => !b | none => false

/-- Write the verified image of the inactive bank into the free rule-table slot (R293). -/
def State.persistRules (s : State) : State :=
  let slot := freeRuleSlot s
  let size := (slotSizes (norDensity s)).2.1 * 1024
  let b := inactiveBank s
  let s1 := (s.eraseNor (ruleSlot s slot) size).writeNor (ruleSlot s slot) (imageBytes s b 0 (imageLen s b))
  s1.modGlade (fun g => { g with persisted := true })

/-- Whether the image fits a rule-table slot of the NOR (R530). -/
def rulesFit (s : State) : Bool :=
  s.msp.norPresent && decide (imageLen s (inactiveBank s) ≤ (slotSizes (norDensity s)).2.1 * 1024)

/-- A failed write of a rule table: FAIL of the NOR, DIAG.NOR_FAIL and MSP-01 (R530, R540). -/
def State.rulesFailed (s : State) : State :=
  State.raise (State.orP { s with msp := { s.msp with norFail := true } } 0x19 0 0x16 2) (ident .msp 1) 0 0

/-- LOAD_RULES END up to the verification: `none` when it verifies. -/
def loadVerify (s : State) (ep : Fin 8) : Option CmdRes :=
  if !mayRules s ep then some (refuse s rcNotAuthority)
  else if s.glade.inactive ≠ 1 then some (refuse s rcBadParam)
  else if !imageOk s (inactiveBank s) then
    some { st := s.modGlade (fun g => { g with inactive := 3 }), code := rcBadParam, payload := [] }
  else none

/-- LOAD_RULES END, with the outcome of the NOR write where the persist flag is set. -/
def loadEnd (s : State) (ep : Fin 8) (persist norOk : Bool) : CmdRes :=
  match loadVerify s ep with
  | some r => r
  | none =>
    let s1 := s.modGlade (fun g => { g with inactive := 2 })
    if persist then
      if norOk && rulesFit s then
        let s2 := s1.persistRules
        { st := s2, code := 0, payload := loadPayload s2 true }
      else refuse s1.rulesFailed rcMemoryFailure
    else { st := s1, code := 0, payload := loadPayload s1 true }

/-- LAYOUT_HASH in effect. -/
def layoutNow (s : State) : Nat := s.p 8 0x0E 0 0x07

/-- An image is bound to no layout or to the one in effect. -/
def layoutFits (s : State) (i : Bool) : Bool := tableLayout s i == 0 || tableLayout s i == layoutNow s

/-- SWAP_AT as P0F.00.07 reads. -/
def swapAtBytes (v : Option (Option CellTime)) : List Byte :=
  match v with
  | none => List.replicate 9 0
  | some none => List.replicate 9 0xFF
  | some (some t) => ctBytes t

/-- SWAP_RULES (R294). -/
def swapRules (s : State) (ep : Fin 8) (t : CellTime) : CmdRes :=
  if !mayRules s ep then refuse s rcNotAuthority
  else if s.glade.inactive ≠ 2 then refuse s rcBadParam
  else if !layoutFits s (inactiveBank s) then refuse s rcTableMismatch
  else if t ≠ 0 ∧ ctDiff t (now s) < nsUnits 100000 then refuse s rcLate
  else
    let v : Option (Option CellTime) := if t = 0 then some none else some (some t)
    { st := s.modGlade (fun g => { g with swapAt := v }), code := 0, payload := swapAtBytes v ++ [0, 0, 0] }

/-- The timers a new table inherits: same RULE_ID, same index, same 12 bytes (R295). -/
def inheritTimers (s : State) (old new : Bool) : List TimerState :=
  let olds := s.glade.timers
  (List.range (ruleCount s new)).flatMap (fun r =>
    let nr := ruleBytes s new r
    olds.filterMap (fun t =>
      let orule := ruleBytes s old t.rule
      if sub orule 0 2 = sub nr 0 2 ∧ t.term < sub nr 2 1 ∧ termOf orule t.term = termOf nr t.term then
        some { t with rule := r }
      else none))

/-- The swap itself (R295): the banks exchange roles, matching timers go over, a persisted image becomes the boot table, and
the swap is journalled. -/
def State.swapNow (s : State) : State :=
  let new := inactiveBank s
  let oldId := match s.glade.active with | some b => tableId s b | none => 0
  let timers := match s.glade.active with | some b => inheritTimers s b new | none => []
  let s1 := if s.glade.state = 2 then s.endFault (ident .gld 3) 0 0 else s
  let s2 := s1.journalAt 0x06 (leBytes 4 oldId ++ leBytes 4 (tableId s new))
  let s3 :=
    if s.glade.persisted then
      let (cfg, _, fw) := headerSlots s
      s2.writeHeader cfg (if freeRuleSlot s then 1 else 0) fw
    else s2
  (s3.modGlade (fun g => { g with
    active := some new, state := 1, inactive := if g.active.isSome then 2 else 0, swapAt := none, results := [],
    safeTaken := [], timers := timers, ready := false, persisted := false,
    bootSlot := if g.persisted then some (freeRuleSlot s) else g.bootSlot })).orP 0x0F 0 0x12 8

/-- The swap at the start of the main pass of an instant, where it is due by then (R295, R296): a mismatching one is not
executed. -/
def State.swapDue (s : State) (at_ : CellTime) : State :=
  let due := match s.glade.swapAt with
    | none => false
    | some none => true
    | some (some t) => reached t at_
  if due then
    if layoutFits s (inactiveBank s) then s.swapNow else s.modGlade (fun g => { g with swapAt := none })
  else s

/-- The active table against LAYOUT_HASH in effect, at a commit apply instant and at start (R296). -/
def State.checkLayout (s : State) : State :=
  match s.glade.active with
  | none => s
  | some b =>
    if layoutFits s b then
      if s.glade.state = 2 then (s.modGlade (fun g => { g with state := 1 })).endFault (ident .gld 3) 0 0 else s
    else if s.glade.state = 2 then s
    else ((s.modGlade (fun g => { g with state := 2 })).orP 0x0F 0 0x12 4).raise (ident .gld 3) 0 0

end Sys2Proof.Machine
end

