-- ==== Sys2Proof/Machine/Glade.lean ====
section
/-! DEFINITION. The meanings of the Glade rows (Glade interlocks). -/

namespace Sys2Proof.Machine

/-- The opcode of LOAD_RULES (R383). -/
def opLoadRules : Nat := 0x0050

/-- The opcode of SWAP_RULES (R383). -/
def opSwapRules : Nat := 0x0051

/-- The longest pass of a lane (P0F.00.0A, P0F.00.0B): how long a pass takes is open (assumption log 30). -/
def State.passTime (s : State) (attr : Nat) : State :=
  let (v, s1) := s.draw
  s1.setP 4 0x0F 0 attr (max (s1.p 4 0x0F 0 attr) (v % 2 ^ 32))

/-- The latest instant of the fast lane, and of the main lane (R287). -/
def fastInstant (s : State) : CellTime := gridBefore (now s) 2000

def mainInstant (s : State) : CellTime := gridBefore (now s) 50000

/-- The fast pass of the latest instant of its lane, where it has not run (R287); both lanes run a new table from its first main
pass (R295). -/
def State.fastDue (s : State) : State :=
  if freshInstant s s.glade.fastMark (fastInstant s) then
    let s1 := s.modGlade (fun g => { g with fastMark := markNow s (fastInstant s) })
    if s.glade.ready then (s1.pass true).passTime 0x0B else s1
  else s

/-- R287: a fast pass evaluates the rules with FAST set. -/
def execFastPass (s : State) : Host.Outcome State Fault Refusal := .next s.fastDue

/-- R291: the whole force state of every present bank, every 1 ms. -/
def execForceRepeat (s : State) : Host.Outcome State Fault Refusal :=
  if elapsed s s.glade.repeatAt 1000000 then
    .next ((allBanks.filter (bankPresent s)).foldl (fun t b => t.sendForceAll b) (s.modGlade (fun g => { g with repeatAt := s.tb.mono })))
  else .next s

/-- R293: LOAD_RULES BEGIN. -/
def execLoadRulesBegin (q : Req) (len : BitVec 32) (s : State) : Host.Outcome State Fault Refusal :=
  .next ((loadBegin s q.ep len.toNat).finish q opLoadRules)

/-- R293: LOAD_RULES DATA. -/
def execLoadRulesData (q : Req) (off : BitVec 32) (data : List Byte) (s : State) : Host.Outcome State Fault Refusal :=
  .next ((loadData s q.ep off.toNat data).finish q opLoadRules)

/-- R293: LOAD_RULES END; `norOk` is the outcome of the NOR write that the persist flag asks for. -/
def execLoadRulesEnd (q : Req) (persist norOk : Bool) (s : State) : Host.Outcome State Fault Refusal :=
  .next ((loadEnd s q.ep persist norOk).finish q opLoadRules)

/-- R294: SWAP_RULES; 0 asks for the next main pass. -/
def execSwapRules (q : Req) (at_ : CellTime) (s : State) : Host.Outcome State Fault Refusal :=
  .next ((swapRules s q.ep at_).finish q opSwapRules)

end Sys2Proof.Machine
end

