-- ==== Sys2Proof/Machine/SafeOps.lean ====
section
/-! DEFINITION. The shared operations of the fault collector and of Firebreak: records, reactions, safe-state records and the
SAFE cells they send (R306 to R322, R624). -/

namespace Sys2Proof.Machine

/-- Change Firebreak. -/
def State.modFb (s : State) (g : Firebreak → Firebreak) : State := { s with firebreak := g s.firebreak }

/-! ### Safe-state records (R314): device 0, banks 1 to 4, U0 to U15 5 to 20, L0 to L7 21 to 28, groups 29 to 32 -/

/-- A record number within the 33. -/
def recIx (n : Nat) : Fin 33 := ⟨n % 33, by omega⟩

/-- Whether a record is set. -/
def recSet (s : State) (n : Nat) : Bool := s.firebreak.records[recIx n].set

/-- The record of a bank. -/
def bankRec (b : Fin 4) : Nat := 1 + b.val

/-- The record of a universal channel. -/
def uRec (u : Fin 16) : Nat := 5 + u.val

/-- The record of a load switch. -/
def lRec (l : Fin 8) : Nat := 21 + l.val

/-- The record of a group. -/
def gRec (g : Fin 4) : Nat := 29 + g.val

/-- The highest level set: 3 device, 2 bank, 1 channel, 0 none (R265, P10.00.01). -/
def safeSummary (s : State) : Nat :=
  if recSet s 0 then 3 else if allBanks.any (fun b => recSet s (bankRec b)) then 2
  else if (List.range 28).any (fun i => recSet s (5 + i)) then 1 else 0

/-- Rank 1 of a universal channel from the records (R314). -/
def uSafeOn (s : State) (u : Fin 16) : Bool := recSet s 0 || recSet s (bankRec (bankOfU u)) || recSet s (uRec u)

/-- Rank 1 of a load switch on its own. -/
def lSafeOn (s : State) (l : Fin 8) : Bool := recSet s 0 || recSet s (bankRec (bankOfL l)) || recSet s (lRec l)

/-- The member switches of a group on the logic side. -/
def groupMembers (s : State) (g : Fin 4) : List (Fin 8) := allLs.filter (fun l => natBit (membersOf s g) l.val)

/-- Rank 1 of a group: its record, the device record, the bank record of any member bank, or the record of any member
(R314, R32). -/
def gSafeOn (s : State) (g : Fin 4) : Bool :=
  recSet s 0 || recSet s (gRec g) || (groupBanks s g).any (fun b => recSet s (bankRec b)) ||
    (groupMembers s g).any (fun l => recSet s (lRec l))

/-- The OUTPUTS mask of a bank that tests on channels give (R315). -/
def outMask (b : Fin 4) (fu : Fin 16 → Bool) (fl : Fin 8 → Bool) : BitVec 8 :=
  let m1 := ([0, 1, 2, 3] : List (Fin 4)).foldl (fun m i => if fu (uOf b i) then m ||| (1#8 <<< i.val) else m) 0#8
  ([0, 1] : List (Fin 2)).foldl (fun m i => if fl (lOf b i) then m ||| (1#8 <<< (4 + i.val)) else m) m1

/-- The groups with a member in a bank, as a mask, that a test gives. -/
def grpMask (s : State) (b : Fin 4) (fg : Fin 4 → Bool) : BitVec 4 :=
  allGroups.foldl (fun m g => if (groupBanks s g).contains b && fg g then m ||| (1#4 <<< g.val) else m) 0#4

/-- The whole rank-1 state of a bank: its outputs, and its groups with those that R195 has put into their safe value. -/
def bankSafe (s : State) (b : Fin 4) : BitVec 8 × BitVec 4 :=
  (outMask b (uSafeOn s) (lSafeOn s), grpMask s b (gSafeOn s) ||| s.links[b].groupSafe)

/-- Send a SAFE cell with a mask of outputs and groups to a bank: one cell at once, and one with its common launch instant for
each cross-bank group (R193, R315). -/
def State.sendSafe (s : State) (b : Fin 4) (op : Nat) (outs : BitVec 8) (groups : BitVec 4) (level id : Nat) : State :=
  let cross := allGroups.filter (fun g => groups.getLsbD g.val && isCross s g)
  let near := grpMask s b (fun g => groups.getLsbD g.val && !isCross s g)
  let s1 := if outs = 0 ∧ near = 0 then s else s.sendDownExpress b (.safe op outs near level none id)
  cross.foldl (fun t g => t.sendDownExpress b (.safe op 0 (1#4 <<< g.val) level (groupLaunch t g) id)) s1

/-- The level of a record. -/
def recLevel (n : Nat) : Nat := if n = 0 then 3 else if n < 5 then 2 else 1

/-- What a record covers in a bank: outputs and groups (R314). -/
def recCover (s : State) (n : Nat) (b : Fin 4) : BitVec 8 × BitVec 4 :=
  if n = 0 then (0x3F, grpMask s b (fun _ => true))
  else if n < 5 then
    (if n = bankRec b then 0x3F else 0, grpMask s b (fun g => (groupBanks s g).any (fun k => n == bankRec k)))
  else if n < 21 then (outMask b (fun u => n == uRec u) (fun _ => false), 0)
  else if n < 29 then
    (outMask b (fun _ => false) (fun l => n == lRec l),
     grpMask s b (fun g => (groupMembers s g).any (fun l => n == lRec l)))
  else (0, grpMask s b (fun g => n == gRec g))

/-- The Canopy point of the highest level follows the records (R265). -/
def State.safePoint (s : State) : State := s.devicePoint 0x41 (safeSummary s)

/-- The present banks. -/
def presentBanks (s : State) : List (Fin 4) := allBanks.filter (bankPresent s)

/-- Set a record (R314): a transition from clear to set raises SAFE_ENTERED, counts, and sends SAFE cells; `cause` is the
instance that keeps it, `none` for an event. -/
def State.setRecord (s : State) (n : Nat) (cause : Option (Nat × FaultObj)) (resetOnly : Bool) (id : Nat) : State :=
  let r := s.firebreak.records[recIx n]
  let cs := match cause with
    | some c => if r.causes.contains c then r.causes else r.causes ++ [c]
    | none => r.causes
  let s1 := s.modFb (fun f => { f with
    records := f.records.set (recIx n) { set := true, resetOnly := r.resetOnly || resetOnly, causes := cs } })
  if r.set then s1
  else
    let s2 := ((s1.inc 4 0x10 0 0x0C).orP 0x10 0 0x0F 1).ringAll 3
    ((presentBanks s2).foldl (fun t b =>
      let c := recCover t n b
      t.sendSafe b 1 c.1 c.2 (recLevel n) id) s2).safePoint

/-- Clear records; the outputs whose rank 1 ends thereby leave it (R322). -/
def State.clearRecords (s : State) (ns : List Nat) : State :=
  let s1 := ns.foldl (fun t n => (t.modFb (fun f => { f with
    records := f.records.set (recIx n) { set := false, resetOnly := false, causes := [] } })).inc 4 0x10 0 0x0D) s
  ((presentBanks s).foldl (fun t b =>
    let old := bankSafe s b
    let new := bankSafe s1 b
    let level := (ns.map recLevel).foldl max 0
    t.sendSafe b 2 (old.1 &&& ~~~new.1) (old.2 &&& ~~~new.2) level 0xFFFF) s1).safePoint

/-! ### The fault collector (R306, R307, R624) -/

/-- The lasting identifiers of R624. -/
def lasting : List Nat :=
  [ident .fsc 5, ident .fsc 6, ident .bkc 1, ident .bkc 2, ident .bkc 3, ident .hsl 1, ident .mbx 3, ident .mbx 4,
   ident .bbs 2, ident .bbs 17, ident .bbs 21, ident .bkc 5, ident .bkc 6, ident .pmu 1, ident .pmu 2, ident .pmu 3,
   ident .pmu 6, ident .hsl 3, ident .bbs 1, ident .bbs 7, ident .bbs 8, ident .bbs 13, ident .bbs 14, ident .bbs 15,
   ident .bbs 16, ident .bbs 18, ident .bbs 19, ident .bbs 22, ident .msp 5, ident .msp 6, ident .can 3, ident .can 4,
   ident .gld 2, ident .gld 3, ident .gld 5, ident .ucf 1, ident .ucf 2, ident .ucf 3, ident .ucf 4, ident .ucf 5,
   ident .ucf 6, ident .ucf 7, ident .ucf 8, ident .ucf 9, ident .cnv 1, ident .cnv 2, ident .cnv 6, ident .cnv 7,
   ident .lsw 1, ident .lsw 2, ident .lsw 3, ident .lsw 4, ident .lsw 5, ident .lsw 7, ident .lsw 8, ident .lsw 9,
   ident .lsw 10, ident .lsw 11, ident .lsw 12, ident .lsw 13, ident .lsw 15, ident .fti 1]

/-- The identifiers raised by more than 16 occurrences within 1 s (R624, R625). -/
def windowed : List Nat :=
  [ident .bkc 3, ident .hsl 1, ident .mbx 3, ident .mbx 4, ident .bbs 2, ident .bbs 17, ident .bbs 21]

/-- An instance is active (R306). -/
def isActive (s : State) (id : Nat) (o : FaultObj) : Bool := s.firebreak.active.any (fun a => a.ident == id && a.obj == o)

/-- REACTION_TABLE of an identifier in effect. -/
def reaction (s : State) (id : Nat) : Nat := s.pAt 1 0x11 0 0x01 id

/-- The records a reaction level sets for an object (R310). -/
def levelRecords (s : State) (level : Nat) (o : FaultObj) : List Nat :=
  match level, o.kind with
  | 3, _ => [0]
  | 2, 1 => [1 + o.index]
  | 2, 2 => [bankRec (bankOfU (finU o.index))]
  | 2, 3 => [bankRec (bankOfL (fin8 o.index))]
  | 2, 4 => (groupBanks s (fin4 o.index)).map bankRec
  | 1, 2 => [uRec (finU o.index)]
  | 1, 3 => [match lGroupL s (fin8 o.index) with | some g => gRec g | none => lRec (fin8 o.index)]
  | 1, 4 => [gRec (fin4 o.index)]
  | _, _ => []

/-- The 24 bytes of a fault record (R307). -/
def faultBytes (r : FaultRec) : List Byte :=
  leBytes 2 r.ident ++ leBytes 1 (faultClass r.ident) ++ leBytes 1 r.obj.kind ++ leBytes 2 r.obj.index ++ [r.reaction] ++
    [BitVec.ofNat 8 ((if r.rehearsal then 1 else 0) + (if r.uncertain then 2 else 0) + (if r.resetOnly then 4 else 0))] ++
    ctBytes r.time ++ [0] ++ leBytes 2 r.seq.toNat ++ leBytes 4 r.detail.toNat

/-- A record with PUBLISH waits for its JOURNAL frame; the oldest of 64 makes room (R482). -/
def State.queueJournal (s : State) (r : FaultRec) : State :=
  if s.gcl.journalQ.length < 64 then { s with gcl := { s.gcl with journalQ := s.gcl.journalQ ++ [r] } }
  else
    let s1 := s.gclCnt 13
    { s1 with gcl := { s1.gcl with journalQ := s1.gcl.journalQ.drop 1 ++ [r], journalLostFlag := true } }

/-- Write a record into FAULT_LOG: a full log loses its oldest record, counted, with FSC-08 unless the record is one of
FSC-08 (R307). -/
def State.logFault (s : State) (r : FaultRec) : State :=
  let l := s.firebreak.log ++ [r]
  if l.length ≤ 64 then s.modFb (fun f => { f with log := l })
  else
    let s1 := ((s.modFb (fun f => { f with log := l.drop (l.length - 64) })).inc 4 0x11 0 0x07).orP 0x11 0 0x0C 8
    if r.ident = ident .fsc 8 then s1 else s1.raise (ident .fsc 8) 0 0

/-- FAULT_COUNTS, saturating: 384 entries. -/
def State.countFault (s : State) (id : Nat) : State :=
  if id < 384 then s.setPAt 2 0x11 0 0x09 (2 * id) (min 0xFFFF (s.pAt 2 0x11 0 0x09 (2 * id) + 1)) else s

/-- FAIL_N goes low until the next reset (R321). -/
def State.failLow (s : State) : State := s.modFb (fun f => { f with failLow := true })

/-- A reset that MON requests 20 µs after a raise (R548). -/
def State.requestReset (s : State) (cause : Nat) : State :=
  { s with sup := { s.sup with requests := s.sup.requests ++ [(cause, s.tb.mono + BitVec.ofNat 96 (20000 * 2 ^ 32))] } }

/-- Apply the reaction byte of a record (R308, R310). -/
def State.react (s : State) (r : FaultRec) : State :=
  let b := r.reaction.toNat
  let cause := if lasting.contains r.ident then some (r.ident, r.obj) else none
  let s1 := (levelRecords s (b % 4) r.obj).foldl (fun t n => t.setRecord n cause r.resetOnly r.ident) s
  let s2 := if natBit b 2 then s1.ringAll 2 else s1
  let s3 := if natBit b 3 then s2.queueJournal r else s2
  let s4 := if natBit b 4 then s3.failLow else s3
  if natBit b 5 then
    { s4 with jrn := { s4.jrn with incoming := s4.jrn.incoming ++ [(0x01, r.uncertain, faultBytes r)] } }
  else s4

/-- The DIAG bits of a class. -/
def classDiag (c : Nat) : Nat := if c = 2 then 1 else if c = 3 then 2 else if c = 4 then 4 else 0

/-- A raise taken by the collector (R306, R307). -/
def State.collectRaise (s : State) (r : Raise) : State :=
  let s1 := s.countFault r.ident
  if isActive s r.ident r.obj then
    s1.modFb (fun f => { f with active := f.active.map (fun a =>
      if a.ident == r.ident && a.obj == r.obj then { a with count := a.count + 1 } else a) })
  else
    let cls := faultClass r.ident
    let rc : FaultRec := { ident := r.ident, obj := r.obj, reaction := BitVec.ofNat 8 (reaction s r.ident),
                           rehearsal := false, uncertain := r.uncertain, resetOnly := decide (cls = 4), time := r.time,
                           seq := s.firebreak.seq, detail := r.detail }
    let s2 := (s1.modFb (fun f => { f with seq := f.seq + 1 })).logFault rc
    let s3 := s2.orP 0x11 0 0x0C (classDiag cls)
    let s4 :=
      if lasting.contains r.ident then
        let n : List ActiveFault := s3.firebreak.active ++ [{ ident := r.ident, obj := r.obj, count := 1 }]
        let t := s3.modFb (fun f => { f with active := n })
        if n.length > 64 then t.orP 0x11 0 0x0C 16 else t
      else s3
    let s5 := if cls = 3 ∨ cls = 4 then s4.modFb (fun f => { f with heartPending := some rc }) else s4
    let s6 := if r.ident = ident .sup 1 ∨ r.ident = ident .sup 2 ∨ r.ident = ident .gld 4 then s5.requestReset 7 else s5
    s6.react rc

/-- The end of a lasting instance: it is no longer active, and no cause of any record (R306, R314). The cause that MON sets stays
while SAFE_IN_N is low again (R320). -/
def State.collectEnd (s : State) (r : Raise) : State :=
  let stays := r.ident == ident .fsc 5 && s.firebreak.safeInOn
  s.modFb (fun f => { f with
    active := f.active.filter (fun a => !(a.ident == r.ident && a.obj == r.obj)),
    records := f.records.map (fun x => { x with causes := x.causes.filter (fun c =>
      stays || !(c.1 == r.ident && c.2 == r.obj)) }) })

/-- The collector takes one raise or end. -/
def State.collect (s : State) (r : Raise) : State := if r.ends then s.collectEnd r else s.collectRaise r

/-- The collector takes all that has arrived (R307, R316). -/
def State.collectAll (s : State) : State :=
  s.firebreak.raises.foldl (fun (x : State) r => x.collect r) (s.modFb (fun f => { f with raises := [] }))

/-- The record that waits for Heartwood is in it (R330). -/
def State.heartNow (s : State) : State :=
  match s.firebreak.heartPending with
  | none => s
  | some r => { s.modFb (fun f => { f with heartPending := none }) with
      heartwood := { s.heartwood with crcGood := true, lastFault := faultBytes r } }

/-! ### Leaving a safe state (R319, R322) -/

/-- Both conditions of R319: 64 frames of STATUS in a row, and BANK_LOCK. -/
def clearReady (s : State) (b : Fin 4) : Bool := decide (s.firebreak.statusRun[b] ≥ 64) && s.banks[b].lock

/-- A bank reports rank 2. -/
def isAutonomous (s : State) (b : Fin 4) : Bool := bankState s b == 3

/-- BKC-01 is active on a bank. -/
def bankSilentFault (s : State) (b : Fin 4) : Bool := isActive s (ident .bkc 1) { kind := 1, index := b.val }

/-- Send CLEAR_AUTONOMOUS, or keep it pending (R319). -/
def State.clearAutonomous (s : State) (b : Fin 4) : State :=
  if clearReady s b then
    (s.sendDownExpress b (.safe 4 0 0 2 none 0xFFFF)).modFb (fun f => { f with clearPending := f.clearPending.set b false })
  else s.modFb (fun f => { f with clearPending := f.clearPending.set b true })

/-- Who may clear (R322, R331). -/
def mayClear (s : State) (ep : Fin 8) : Bool := isAuthority s ep || (ep == 0 && s.p 1 0x10 0 0x07 == 1)

/-- A record stands in the way of a clear: an active cause other than BKC-02 of a bank it covers, or RESET_ONLY. -/
def recBlocked (s : State) (n : Nat) (covered : List (Fin 4)) : Bool :=
  let r := s.firebreak.records[recIx n]
  r.resetOnly || r.causes.any (fun c => !(c.1 == ident .bkc 2 && covered.any (fun b => c.2 == { kind := 1, index := b.val })))

/-- The record an output scope names. -/
def scopeRecord (scope kind index : Nat) : Option Nat :=
  match scope, kind with
  | 0, 2 => if index < 16 then some (5 + index) else none
  | 0, 3 => if index < 8 then some (21 + index) else none
  | 0, 4 => if index < 4 then some (29 + index) else none
  | 1, 1 => if index < 4 then some (1 + index) else none
  | 2, _ => some 0
  | _, _ => none

/-- The response of CLEAR_SAFE. -/
def clearPayload (cleared remaining : Nat) : List Byte := leBytes 2 cleared ++ leBytes 2 remaining

/-- The banks a scope covers. -/
def scopeBanks (scope index : Nat) : List (Fin 4) :=
  if scope = 1 then [fin4 index] else if scope = 2 ∨ scope = 3 then allBanks else []

/-- An accepted clear: records, rank 2 of banks, the journal record and LAST_CLEAR (R322). -/
def State.doClear (s : State) (ep : Fin 8) (scope kind index : Nat) (recs : List Nat) (banks : List (Fin 4))
    (stuck : Nat) : CmdRes :=
  let s1 := s.clearRecords recs
  let sent := banks.filter (clearReady s1)
  let s2 := banks.foldl (fun t b => t.clearAutonomous b) s1
  let cleared := recs.length + sent.length
  let remaining := stuck + (banks.length - sent.length)
  let head := leBytes 1 scope ++ leBytes 1 kind ++ leBytes 2 index ++ leBytes 1 ep.val
  let s3 := s2.journalAt 0x04 (head ++ clearPayload cleared remaining)
  let s4 := s3.setBytes 0x10 0 0x0E 0 (ctBytes (now s) ++ leBytes 1 scope ++ leBytes 1 ep.val ++ [0])
  { st := s4, code := if scope = 3 ∧ remaining ≠ 0 then rcSafeActive else 0, payload := clearPayload cleared remaining }

/-- CLEAR_SAFE (R322), its checks in order. -/
def clearSafe (s : State) (ep : Fin 8) (scope kind index : Nat) (key : BitVec 16) : CmdRes :=
  if !mayClear s ep then refuse s rcNotAuthority
  else if key.toNat ≠ s.p 2 0x10 0 0x06 then
    refuse ((s.orP 0x10 0 0x0F 8).raise (ident .fsc 7) 9 ep) rcBadKey
  else
    let covered := scopeBanks scope index
    let autos := covered.filter (isAutonomous s)
    if scope = 3 then
      let setRecs := (List.range 33).filter (recSet s)
      let recs := setRecs.filter (fun n => !recBlocked s n allBanks)
      let banks := autos.filter (fun b => !bankSilentFault s b)
      s.doClear ep scope kind index recs banks ((setRecs.length - recs.length) + (autos.length - banks.length))
    else
      match scopeRecord scope kind index with
      | none => refuse s rcBadParam
      | some n =>
        if recBlocked s n covered || covered.any (bankSilentFault s) then
          { st := s.orP 0x10 0 0x0F 4, code := rcSafeActive,
            payload := clearPayload 0 ((if recSet s n then 1 else 0) + autos.length) }
        else s.doClear ep scope kind index (if recSet s n then [n] else []) autos 0

end Sys2Proof.Machine
end

