-- ==== Sys2Proof/Machine/Firebreak.lean ====
section
/-! DEFINITION. The meanings of the rows of the fault collector, Firebreak and the controller-liveness monitor (Faults, safe
states and watchdogs). -/

namespace Sys2Proof.Machine

/-- R307: the collector takes the oldest raise. -/
def execFaultCollect (s : State) : Host.Outcome State Fault Refusal :=
  match s.firebreak.raises with
  | [] => .next s
  | r :: rest =>
    let s1 := s.modFb (fun f => { f with raises := rest })
    .next (s1.collect r)

/-- R625: the instances of which no more than 16 occurrences remain in the window end. -/
def execFaultWindowExpiry (s : State) : Host.Outcome State Fault Refusal :=
  let over_ := s.firebreak.active.filter (fun a =>
    windowed.contains a.ident && decide ((windowOf s.firebreak a.ident a.obj s.tb.mono).length ≤ 16))
  let s1 := s.modFb (fun f => { f with
    windows := (f.windows.map (fun w => { w with times := windowOf f w.ident w.obj s.tb.mono })).filter
      (fun w => !w.times.isEmpty) })
  .next (over_.foldl (fun t a => t.endFault a.ident a.obj.kind a.obj.index) s1)

/-- R315: a REFRESH cell with its whole rank-1 state to every present bank, every 1 ms. -/
def execSafeRefresh (s : State) : Host.Outcome State Fault Refusal :=
  if elapsed s s.firebreak.refreshAt 1000000 then
    .next ((presentBanks s).foldl (fun t b =>
      let c := bankSafe t b
      t.sendDownExpress b (.safe 3 c.1 c.2 0 none 0xFFFF)) (s.modFb (fun f => { f with refreshAt := s.tb.mono })))
  else .next s

/-- R313: an error in Firebreak's own store sets the device record from MON, without a table look-up, and raises FSC-01. -/
def execSelfProtectionCheck (bad : Bool) (s : State) : Host.Outcome State Fault Refusal :=
  if bad then
    let s1 := (s.setRecord 0 none true (ident .fsc 1)).failLow
    let s2 : State := { s1 with heartwood := { s1.heartwood with
      monResets := if s1.heartwood.monResets = 0xFFFF then 0xFFFF else s1.heartwood.monResets + 1, crcGood := true } }
    .next ((s2.raise (ident .fsc 1) 0 0).requestReset 6)
  else .next s

/-- R320: an assertion of SAFE_IN_N. -/
def execSafeInAssertion (s : State) : Host.Outcome State Fault Refusal :=
  if s.firebreak.safeInOn then .next s
  else
    let cause : Option (Nat × FaultObj) := some (ident .fsc 5, { kind := 0, index := 0 })
    let mode := s.p 1 0x10 0 0x08
    let banks := s.p 1 0x10 0 0x09
    let s1 := (s.modFb (fun f => { f with safeInOn := true })).orP 0x10 0 0x0F 16
    let s2 :=
      if mode = 1 then s1.setRecord 0 cause false (ident .fsc 5)
      else if mode = 2 then
        (allBanks.filter (fun b => natBit banks b.val)).foldl
          (fun t b => t.setRecord (bankRec b) cause false (ident .fsc 5)) s1
      else s1
    .next (s2.raise (ident .fsc 5) 0 0)

/-- R320: a high sample ends the FSC-05 instance and its cause. -/
def execSafeInRelease (s : State) : Host.Outcome State Fault Refusal :=
  if s.firebreak.safeInOn then
    .next ((s.modFb (fun f => { f with safeInOn := false })).endFault (ident .fsc 5) 0 0)
  else .next s

/-- The opcode of CLEAR_SAFE (R383). -/
def opClearSafe : Nat := 0x0040

/-- R322: CLEAR_SAFE; it sees the causes of every raise that came before it (R316). -/
def execClearSafe (q : Req) (scope kind index : Nat) (key : BitVec 16) (s : State) : Host.Outcome State Fault Refusal :=
  .next ((clearSafe s.collectAll q.ep scope kind index key).finish q opClearSafe)

/-- R319: a pending clear, or the automatic one of AUTON_CLEAR 1, goes out once both conditions hold. -/
def execClearAutonomousSend (b : Fin 4) (s : State) : Host.Outcome State Fault Refusal :=
  if isAutonomous s b ∧ clearReady s b ∧ (s.firebreak.clearPending[b] ∨ s.pAt 1 0x10 0 0x04 b = 1) then
    .next (s.clearAutonomous b)
  else .next s

/-- The opcode of LIVENESS (R383). -/
def opLiveness : Nat := 0x00F2

/-- The member of its master pair that posted a tag (R489). -/
def tagMember (tag : Nat) : Nat := if tag < 16 then 0 else 1

/-- A command of a pair comes from its active member; a single master has no other (R494). -/
def fromActive (s : State) (ep : Fin 8) (tag : Nat) : Bool :=
  !isPair s (ep.val - 1) || s.pAt 1 0x18 0 0x04 (ep.val - 1) == tagMember tag

/-- LIVENESS (R323): counted from the endpoint bound to the authority only, and of a pair from its active member (R494). -/
def liveness (s : State) (ep : Fin 8) (tag : Nat) : CmdRes :=
  if !isAuthority s ep then refuse s rcNotAuthority
  else if s.p 1 0x12 0 0x01 = 0 || !fromActive s ep tag then okRes s
  else
    let s1 := if s.firebreak.liveExpired then s.endFault (ident .fsc 6) 0 0 else s
    okRes ((s1.modFb (fun f => { f with
      liveArmed := true, liveExpired := false, liveTimeout := s.p 2 0x12 0 0x02,
      liveSince := s.tb.mono })).setPCt 0x12 0 0x04 (now s))

/-- R323: LIVENESS. -/
def execLiveness (q : Req) (s : State) : Host.Outcome State Fault Refusal :=
  .next ((liveness s q.ep q.tag).finish q opLiveness)

/-- R323: the timer, which runs in MON, expires between 0.98 and 1.02 times its timeout. -/
def execLivenessTimeout (s : State) : Host.Outcome State Fault Refusal :=
  if s.firebreak.liveArmed ∧ s.firebreak.liveExpired = false ∧ elapsed s s.firebreak.liveSince (s.firebreak.liveTimeout * 980000) then
    .next ((((s.modFb (fun f => { f with liveExpired := true })).inc 4 0x12 0 0x05).orP 0x12 0 0x0D 1).raise
      (ident .fsc 6) 0 0)
  else .next s

/-- LOG_POP (R307): every record up to and including the named one goes. -/
def logPop (s : State) (seq : BitVec 16) : CmdRes :=
  if s.firebreak.log.any (fun r => r.seq == seq) then
    okRes (s.modFb (fun f => { f with log := (f.log.dropWhile (fun r => r.seq != seq)).drop 1 }))
  else refuse s rcOutOfRange

/-- R307: a write of LOG_POP. -/
def execLogPop (q : Req) (seq : BitVec 16) (s : State) : Host.Outcome State Fault Refusal :=
  .next ((guardWrite s q (logPop s seq)).finish q opSetParam)

/-! ### Rehearsal (R331) -/

/-- The opcode of REHEARSE_REACTION (R383). -/
def opRehearse : Nat := 0x0081

/-- The number of instances of an object kind (R305). -/
def kindCount (kind : Nat) : Nat :=
  match kind with
  | 0 => 1 | 1 => 4 | 2 => 16 | 3 => 8 | 4 => 4 | 5 => 8 | 6 => 16320 | 7 => 64 | 8 => 3 | 9 => 8 | _ => 0

/-- A reaction byte that a commit would refuse (R308, R310, R311): a refused level, or below the floor. -/
def reactionBad (id v : Nat) : Bool :=
  let kinds := match faultRow id with | some r => r.kinds | none => []
  let level := v % 4
  let floor := floorByte id
  kinds.any (fun k => (level == 1 && !(k == 2 || k == 3 || k == 4)) ||
      (level == 2 && !(k == 1 || k == 2 || k == 3 || k == 4))) ||
    decide (level < floor % 4) || (floor / 4) &&& (v / 4) != floor / 4

/-- The outputs a case would take to their safe values, in the layout of FSC_SAFE_OUT. -/
def caseOutputs (s : State) (level : Nat) (o : FaultObj) : Word :=
  (levelRecords s level o).foldl (fun w n =>
    if n = 0 then 0xF0FFFFFF
    else if n < 5 then
      let b := fin4 (n - 1)
      let gs := allGroups.foldl (fun m g => if (groupBanks s g).contains b then m + 2 ^ (28 + g.val) else m) 0
      w ||| BitVec.ofNat 32 (0xF * 2 ^ (4 * b.val) + 3 * 2 ^ (16 + 2 * b.val) + gs)
    else if n < 29 then w ||| (1#32 <<< (n - 5))
    else w ||| (1#32 <<< (n - 1))) 0#32

/-- The cases of a rehearsal: one identifier with an object, or every identifier against instance 0 of each of its kinds. -/
def rehearseCases (all : Bool) (kind id index : Nat) : List (Nat × FaultObj) :=
  if all then
    (List.range 384).flatMap (fun i => match faultRow i with
      | some r => r.kinds.map (fun k => (i, { kind := k, index := 0 }))
      | none => [])
  else if (faultRow id).isSome then [(id, { kind := kind, index := index })]
  else []

/-- REHEARSE_REACTION (R331). The rehearsal record carries the outputs in DETAIL. -/
def rehearse (s : State) (ep : Fin 8) (staged all : Bool) (kind id index : Nat) : CmdRes :=
  if !mayClear s ep then refuse s rcNotAuthority
  else if !all && (decide (id ≥ 384) || ((faultRow id).any (fun r => !r.kinds.contains kind || decide (kindCount kind ≤ index))))
  then refuse s rcBadParam
  else
    let byte (i : Nat) : Nat := if staged then leNat (s.stBytes 1 0x11 0 0x01 i) else reaction s i
    let cases_ := rehearseCases all kind id index
    let s1 := cases_.foldl (fun (t : State) c =>
      let v := byte c.1
      let rc : FaultRec := { ident := c.1, obj := c.2, reaction := BitVec.ofNat 8 v, rehearsal := true,
                             uncertain := t.tb.uncertain, resetOnly := false, time := now t, seq := t.firebreak.seq,
                             detail := caseOutputs t (v % 4) c.2 }
      (t.modFb (fun f => { f with seq := f.seq + 1 })).journal 0x01 (faultBytes rc)) s
    let count (p : Nat → Bool) : Nat := (cases_.filter (fun c => p (byte c.1))).length
    let bad := ((List.range 384).filter (fun i => reactionBad i (leNat (s.stBytes 1 0x11 0 0x01 i)))).length
    let counts := [cases_.length, count (fun v => v % 4 == 1), count (fun v => v % 4 == 2), count (fun v => v % 4 == 3),
                   count (fun v => natBit v 4), bad]
    let bytes := (counts.map (leBytes 2)).flatten
    { st := s1.setBytes 0x11 0 0x0B 0 bytes, code := 0, payload := bytes }

/-- R331: REHEARSE_REACTION. -/
def execRehearseReaction (q : Req) (staged all : Bool) (kind ident index : Nat) (s : State) :
    Host.Outcome State Fault Refusal :=
  .next ((rehearse s q.ep staged all kind ident index).finish q opRehearse)

end Sys2Proof.Machine
end

