-- ==== Sys2Proof/Machine/GclRx.lean ====
section
/-! DEFINITION. Receiving a GCL frame: its header taken apart, the ring copies of R463, and the ordered checks of R462. -/

namespace Sys2Proof.Machine

/-- The big-endian number of `n` bytes at an offset of a byte string. -/
def beAt (l : List Byte) (off n : Nat) : Nat := beNat ((l.drop off).take n)

/-- The header of R460 taken apart. -/
def parseGcl (d : Delivered) : GclFrame :=
  let l := d.frame.payload
  let b8 := beAt l 8 1
  { src := d.frame.src, dst := d.frame.dst, port := d.port, rtag := d.frame.rtag, version := beAt l 0 1, typ := beAt l 1 1,
    cell := beAt l 2 2, srcNode := beAt l 4 2, dstNode := beAt l 6 2, express := natBit b8 7, master := natBit b8 6,
    masterId := b8 % 8, tag := beAt l 9 1, seq := BitVec.ofNat 32 (beAt l 12 4), epoch := BitVec.ofNat 32 (beAt l 16 4),
    kind := beAt l 20 1, flags := beAt l 21 1, payload := (l.drop 24).take (beAt l 10 2) }

/-- TYPE and KIND are defined (R461 and the sections of the types). -/
def gclDefined (typ kind : Nat) : Bool :=
  match typ with
  | 0x02 => decide (1 ≤ kind ∧ kind ≤ 4)
  | 0x03 => kind == 1 || kind == 2
  | 0x40 => kind == 1 || kind == 2
  | 0x50 => decide (1 ≤ kind ∧ kind ≤ 4)
  | 0x01 | 0x10 | 0x11 | 0x12 | 0x20 | 0x30 | 0x60 => kind == 0
  | _ => false

/-- The VERSION is supported and the TYPE exists in it (R462, check 3). -/
def gclVersionOk (version typ : Nat) : Bool :=
  if typ = 0x01 ∨ typ = 0x02 ∨ typ = 0x03 then decide (version / 16 ≥ 2)
  else [0x20, 0x21, 0x30, 0x31].contains version && decide (typeVersion typ ≤ version)

/-- LENGTH suits the type (R462, check 5). -/
def gclSuits (f : GclFrame) (len : Nat) : Bool :=
  match f.typ, f.kind with
  | 0x01, _ => len == 168
  | 0x02, _ => len == 12
  | 0x03, 1 => len == 8
  | 0x03, _ => len == 12
  | 0x10, _ => decide (8 ≤ len) && len == 8 + leNat ((f.payload.drop 4).take 2)
  | 0x11, _ => decide (8 ≤ len) && len == 8 + leNat ((f.payload.drop 4).take 2)
  | 0x12, _ => len == 12
  | 0x20, _ => decide ((if f.version = 0x20 then 16 else 24) ≤ len)
  | 0x30, _ => let n := beAt f.payload 0 1; decide (1 ≤ n ∧ n ≤ 48) && len == 4 + 28 * n
  | 0x40, 1 => len == 12
  | 0x40, _ => len == 20
  | 0x50, 1 => len == 20
  | 0x50, 2 => len == 24
  | 0x50, 3 => len == 16
  | 0x50, _ => len == 8
  | 0x60, _ => let n := beAt f.payload 0 1; decide (1 ≤ n ∧ n ≤ 32) && len == 8 + 24 * n
  | _, _ => false

/-- A type whose sender must pass the master check (R461). -/
def gclMaster (typ kind : Nat) : Bool :=
  typ == 0x10 || typ == 0x30 || (typ == 0x03 && kind == 1) || (typ == 0x40 && kind == 1)

/-- The master check (R462, check 7): the sender is listed for its master id. -/
def masterListed (s : State) (f : GclFrame) : Bool :=
  f.master && decide (f.masterId ≤ 6) &&
    ((masterNodes s f.masterId).contains 0xFFFE ||
     (decide (f.srcNode ≤ 4095) && (masterNodes s f.masterId).contains f.srcNode))

/-- What the checks of R462 say of a frame. -/
inductive GclVerdict where
  /-- it passes every check -/
  | taken
  /-- it is for another node: no count -/
  | ignored
  /-- it is discarded under a counter of COUNTERS -/
  | discarded (k : Nat)
  deriving DecidableEq, Repr

/-- The checks 2 to 7 of R462 in their order. -/
def gclVerdict (s : State) (d : Delivered) (f : GclFrame) : GclVerdict :=
  let len := beAt d.frame.payload 10 2
  if f.cell ≠ s.p 2 0x17 0 0x02 then .discarded 2
  else if !gclVersionOk f.version f.typ then .discarded 3
  else if !gclDefined f.typ f.kind then .discarded 5
  else if 1440 < len ∨ d.frame.payload.length < 24 + len ∨ gclSuits f len = false then .discarded 4
  else if !((f.dstNode == nodeAddress s && f.dstNode != 0xFFFF) || f.dstNode == 0xFFFE || (f.dstNode == 0xFFFF && f.dst == deviceMac s)) then .ignored
  else if gclMaster f.typ f.kind && !masterListed s f then .discarded 6
  else .taken

/-- Discard a frame under R462 or R463: its reason counter and RX_PROTOCOL_DISCARDS of the ingress port. -/
def State.gclDiscard (s : State) (p : Fin 3) (k : Nat) : State :=
  ((s.gclCnt k).portCnt p 8).orP 0x17 0 0x15 8

/-- The express frames of a source address within the last 100 ms, at most 64 (R463). -/
def ringMarks (s : State) (src : BitVec 48) : List RingMark :=
  let l := s.gcl.ring.filter (fun m => m.src == src && !elapsed s m.at_ 100000000)
  l.drop (l.length - 64)

/-- An express frame with an R-TAG whose number is among those of its source (R463). -/
def isRingCopy (s : State) (f : GclFrame) : Bool :=
  match f.express, f.rtag with
  | true, some r => (ringMarks s f.src).any (fun m => m.seq == r)
  | _, _ => false

/-- Remember an express frame with an R-TAG (R463). -/
def State.markRing (s : State) (f : GclFrame) : State :=
  match f.express, f.rtag with
  | true, some r =>
    let m : RingMark := { src := f.src, seq := r, port := f.port, at_ := s.tb.mono }
    let l := s.gcl.ring.filter (fun x => x.src != f.src) ++ ringMarks s f.src ++ [m]
    { s with gcl := { s.gcl with ring := l } }
  | _, _ => s

/-- A frame of the GCL EtherType that has reached the logic die (R462, R463): the frame to handle, if any, and the state
with what its checks count. A ring copy of a PUB frame is left to R275. -/
def State.gclReceive (s : State) (d : Delivered) : State × Option GclFrame :=
  let f := parseGcl d
  let s1 := (s.gclCnt 0).markRing f
  if d.frame.tag.all (fun (t : Fin 8 × BitVec 12) => t.2.toNat != s.p 2 0x17 0 0x04) then (s, none)
  else if isRingCopy s f && f.typ != 0x20 then (s1.gclDiscard f.port 7, none)
  else match gclVerdict s d f with
    | .taken => (s1, some f)
    | .ignored => (s1, none)
    | .discarded k => ((s1.gclDiscard f.port k).occur (ident .bbs 17) 0 0, none)

end Sys2Proof.Machine
end

