-- ==== Sys2Proof/Machine/CellCode.lean ====
section
/-! DEFINITION. The 64 bytes of a cell of a bank link (R22), its payload where the spec lays one down (R24, R315, R627, R629),
and what its receiver finds. -/

namespace Sys2Proof.Config

/-- The payload bytes of a cell whose content R23 names without a layout, and its SUB where no rule gives it. UNVERIFIED: safe
(assumption log 40). -/
opaque downPayload : Sys2Proof.Machine.DownCell → List Sys2Proof.Byte
opaque downSub : Sys2Proof.Machine.DownCell → Fin 16
opaque upPayload : Sys2Proof.Machine.UpCell → List Sys2Proof.Byte
opaque upSub : Sys2Proof.Machine.UpCell → Fin 16
opaque syncPayload : Sys2Proof.Machine.SyncCell → List Sys2Proof.Byte
opaque statusPayload : Sys2Proof.Machine.StatusCell → List Sys2Proof.Byte

end Sys2Proof.Config

namespace Sys2Proof.Machine

/-- Write records: runs of adjacent bytes of at most 49. -/
def cfgRuns (l : List Host.Cell) : List (List Host.Cell) :=
  l.foldr (fun (c : Host.Cell) acc =>
    match acc with
    | (d :: r) :: rest => if c.1 + 1 = d.1 ∧ r.length + 1 < 49 then (c :: d :: r) :: rest else [c] :: (d :: r) :: rest
    | other => [c] :: other) []

/-- One write record (R627): INDEX, OFFSET, LENGTH and the bytes. -/
def writeRecord (index off : Nat) (bytes : List Byte) : List Byte :=
  leBytes 4 index ++ leBytes 2 off ++ leBytes 1 bytes.length ++ bytes

/-- The write record of a run of adjacent bytes of the parameter store. -/
def runRecord (r : List Host.Cell) : List Byte :=
  match r with
  | [] => []
  | c :: _ => writeRecord (c.1 / 2 ^ 20) (c.1 % 2 ^ 20) (r.map (·.2))

/-- The 32-byte record of a schedule entry (R246). -/
def schedBytes (r : SchedRec) : List Byte :=
  leBytes 2 r.handle.toNat ++ leBytes 2 r.batch.toNat ++ leBytes 1 r.kind ++ leBytes 1 r.target ++ leBytes 1 r.action ++
    leBytes 1 (r.latePolicy + 4 * r.uncPolicy) ++ ctBytes r.apply ++ leBytes 1 r.state ++ leBytes 1 r.owner ++ [0] ++
    leBytes 4 (ofSigned 32 r.value) ++ leBytes 4 r.width ++ leBytes 4 (ofSigned 32 r.lag)

/-- One record of an EDGE cell, 12 bytes (R24). -/
def edgeBytes (r : EdgeWire) : List Byte :=
  let flag (b : Bool) (i : Nat) : Nat := if b then 2 ^ i else 0
  leBytes 1 (r.source % 8 + flag r.falling 3 + flag r.opened 4 + flag r.uncertain 5 + flag r.inexact 6) ++ [r.frac] ++
    leBytes 2 r.seq.toNat ++ leBytes 4 r.offset ++ leBytes 4 r.value.toNat

/-- An edge record as the line carries it, from the BASE of its cell (R24). -/
def edgeWire (base : Nat) (r : EdgeRec) : EdgeWire :=
  { source := r.source, falling := r.falling, opened := r.opened, uncertain := r.uncertain, inexact := r.inexact,
    offset := ctNs r.time - base, frac := BitVec.ofNat 8 (ctFrac r.time), seq := r.seq, value := r.value, capture := r.capture }

/-- The record that the logic side rebuilds: its full cell time is BASE + OFFSET with its FRAC (R24). -/
def edgeBack (base : Nat) (w : EdgeWire) : EdgeRec :=
  { source := w.source, falling := w.falling, opened := w.opened, uncertain := w.uncertain, inexact := w.inexact,
    time := ctMk (base + w.offset) w.frac.toNat, seq := w.seq, value := w.value, capture := w.capture }

/-- TYPE, SUB and payload of a cell to a bank (R23, R315, R627, R629). -/
def downCode (c : DownCell) : Nat × Nat × List Byte :=
  match c with
  | .sched r last => (0x6, if last then 1 else 0, schedBytes { r with state := 0 })
  | .cancel sel rel kind target what owner =>
    (0x6, 2, leBytes 1 sel ++ leBytes 1 (if rel then 1 else 0) ++ leBytes 1 kind ++ leBytes 1 target ++
      leBytes 2 what.toNat ++ leBytes 1 owner ++ [0])
  | .latch _ _ _ => (0x6, (Config.downSub c).val, Config.downPayload c)
  | .share .. => (0x7, 0xF, Config.downPayload c)
  | .out _ _ _ | .trip _ _ | .hold _ _ _ | .diag _ _ _ => (0x7, (Config.downSub c).val, Config.downPayload c)
  | .force _ _ _ | .forceAll _ => (0x8, (Config.downSub c).val, Config.downPayload c)
  | .safe op outs _ level launch id =>
    (0x9, (Config.downSub c).val, leBytes 1 op ++ [outs] ++ leBytes 1 level ++ [0] ++
      ctBytes (launch.getD 0) ++ leBytes 2 id)
  | .cfg ws => (0xA, 0, (cfgRuns ws).flatMap runRecord)
  | .cfgMark t arrival => (0xA, 0, writeRecord 0xFFFFFFFF 0 (ctBytes t ++ leBytes 1 (if arrival then 1 else 0)))
  | .cfgSync mask a _ =>
    (0xA, 0, writeRecord 0xFFFFFFFE 0 (leBytes 2 mask.toNat ++ ctBytes (BitVec.ofNat 72 ((a * 125000 + 1) / 3))))
  | .counter f v => (0xA, 0, writeRecord (0x0C0006 + f.val * 256) 0 (leBytes 4 v.toNat))
  | .calFactory .. | .calTrim _ _ | .calRotate _ => (0xB, (Config.downSub c).val, Config.downPayload c)

/-- TYPE, SUB and payload of a cell from a bank (R23, R24, R627, R629). -/
def upCode (c : UpCell) : Nat × Nat × List Byte :=
  match c with
  | .sample ss => (0x3, ((ss.head?.map (·.chan)).getD 0) % 4, Config.upPayload c)
  | .edge base rs => (0x4, rs.length % 16, leBytes 8 base ++ rs.flatMap edgeBytes)
  | .count _ => (0x5, (Config.upSub c).val, Config.upPayload c)
  | .outcome h code lag t _ _ =>
    (0x6, 3, leBytes 2 h.toNat ++ leBytes 1 code ++ [0] ++ leBytes 4 (ofSigned 32 lag) ++ ctBytes t)
  | .cancelled w n m _ => (0x6, 4, leBytes 2 w.toNat ++ leBytes 2 n ++ leBytes 2 m)
  | .share t applied late => (0xA, 0, ctBytes t ++ ctBytes applied ++ leBytes 1 (if late then 1 else 0))
  | .calResult _ _ | .calSlot _ _ => (0xB, (Config.upSub c).val, Config.upPayload c)
  | .fault _ _ => (0xC, (Config.upSub c).val, Config.upPayload c)
  | .lsw _ _ => (0xD, (Config.upSub c).val, Config.upPayload c)

/-- The 64 bytes of a cell (R22): header, payload, and CRC-32 over bytes 0 to 59. -/
def cellBytes (typ sub : Nat) (seq : BitVec 8) (express again : Bool) (ack : BitVec 8) (payload : List Byte) : List Byte :=
  let p := payload.take 56
  let head : List Byte := [BitVec.ofNat 8 (typ % 16 * 16 + sub % 16), seq,
    BitVec.ofNat 8 ((if express then 128 else 0) + (if again then 64 else 0) + p.length), ack]
  let body := head ++ p ++ List.replicate (56 - p.length) 0
  body ++ leBytes 4 (crc32 body).toNat

/-- The bytes that the line to a bank carries in the slot in progress. SYNC and IDLE cells carry the SEQ of the next ordinary
cell (DESIGN CHOICE, assumption log 40). -/
def downBytes (d : LinkDir DownCell SyncCell) : List Byte :=
  match d.line with
  | .idle => cellBytes 0 0 d.ordSeq false false d.ack []
  | .frame c => cellBytes 1 (if c.start then 1 else 0) d.ordSeq false false d.ack (Config.syncPayload c)
  | .ord q c => let p := downCode c; cellBytes p.1 p.2.1 q false false d.ack p.2.2
  | .exp q again c => let p := downCode c; cellBytes p.1 p.2.1 q true again d.ack p.2.2

/-- The same for the line from a bank. -/
def upBytes (d : LinkDir UpCell StatusCell) : List Byte :=
  match d.line with
  | .idle => cellBytes 0 0 d.ordSeq false false d.ack []
  | .frame c => cellBytes 2 0 d.ordSeq false false d.ack (Config.statusPayload c)
  | .ord q c => let p := upCode c; cellBytes p.1 p.2.1 q false false d.ack p.2.2
  | .exp q again c => let p := upCode c; cellBytes p.1 p.2.1 q true again d.ack p.2.2

/-- The bytes that come out of a line. -/
def received (l : List Byte) (hit : Noise) : List Byte := hit.foldl (fun r p => r.set p.1.val (r.getD p.1.val 0 ^^^ p.2)) l

/-- What the receiver finds (R22, R23): a bad CRC, a reserved TYPE, a LEN above 56, or a good cell. A good cell is taken for the
one that was sent (assumption log 40). -/
def cellCheck (l : List Byte) (hit : Noise) : CellCheck :=
  let r := received l hit
  if crc32 (r.take 60) ≠ BitVec.ofNat 32 (leNat (r.drop 60)) then .badCrc
  else if 0xE0 ≤ (r.getD 0 0).toNat then .badType
  else if 56 < (r.getD 2 0).toNat % 64 then .badLen
  else .good

end Sys2Proof.Machine
end

