-- ==== Sys2Proof/Machine/Watchdog.lean ====
section
/-! DEFINITION. The meanings of the rows of the supervisor watchdog, the clock monitor and Heartwood (R324 to R330). -/

namespace Sys2Proof.Machine

/-- Change the watchdog. -/
def State.modWdt (s : State) (g : Watchdog → Watchdog) : State := { s with wdt := g s.wdt }

/-- Change Heartwood; every write renews its CRC. -/
def State.modHw (s : State) (g : Heartwood → Heartwood) : State :=
  { s with heartwood := { g s.heartwood with crcGood := true } }

/-- Add one, saturating at 0xFFFF. -/
def satInc (v : BitVec 16) : BitVec 16 := if v = 0xFFFF then 0xFFFF else v + 1

/-- The ns since the interval's start. -/
def wdtAge (s : State) : Nat := (s.tb.mono - s.wdt.start).toNat / 2 ^ 32

/-- The window is open (R325). -/
def windowOpen (s : State) : Bool :=
  s.wdt.enabled && decide (s.wdt.window * s.wdt.period * 1000 ≤ 16 * wdtAge s) && decide (wdtAge s < s.wdt.period * 1000)

/-- A write from outside privileged mode (R326). -/
def State.privViolation (s : State) : State :=
  ((s.modWdt (fun w => { w with privViolation := true })).orP 0x12 0 0x0D 2).raise (ident .fsc 4) 0 0

/-- A bite (R327): the device record from MON with RESET_ONLY, FAIL_N low, Heartwood, and the watchdog reset. -/
def State.bite (s : State) : State :=
  if s.wdt.bitten then s
  else
    let s1 := ((s.modWdt (fun w => { w with bitten := true, firstKey := none })).setRecord 0 none true (ident .fsc 2)).failLow
    let s2 := s1.modHw (fun h => { h with wdtResets := satInc h.wdtResets })
    (s2.raise (ident .fsc 2) 0 0).requestReset 4

/-- R324: a write of 1 to FSC_WDT_CTRL.ENABLE starts the watchdog. -/
def execWdtEnable (priv : Bool) (s : State) : Host.Outcome State Fault Refusal :=
  if !priv then .next s.privViolation
  else if s.wdt.enabled then .next s
  else .next (s.modWdt (fun w => { w with
    enabled := true, start := s.tb.mono, period := w.nextPeriod, window := w.nextWindow }))

/-- R325: a write of FSC_WDT_SERVICE. -/
def execWdtService (priv : Bool) (v : BitVec 32) (s : State) : Host.Outcome State Fault Refusal :=
  let key := v.toNat % 65536
  if !priv then .next s.privViolation
  else if !s.wdt.enabled then .next s
  else if key = 0x3C5A then
    match s.wdt.firstKey with
    | some _ => .next s.bite
    | none => .next (s.modWdt (fun w => { w with firstKey := some s.tb.mono }))
  else if key = 0xC3A5 then
    match s.wdt.firstKey with
    | none => .next s.bite
    | some t =>
      if (s.tb.mono - t).toNat ≤ 128 * 2 ^ 32 ∧ windowOpen s then
        .next (s.modWdt (fun w => { w with
          firstKey := none, start := s.tb.mono, period := w.nextPeriod, window := w.nextWindow }))
      else .next s.bite
  else .next s.bite

/-- A write of FSC_WDT_PERIOD or of WINDOW outside the open window (R326). -/
def State.periodRejected (s : State) : State :=
  (s.modWdt (fun w => { w with periodReject := true })).orP 0x12 0 0x0D 4

/-- A write of FSC_WDT_STATUS: a 1 clears PERIOD_REJECT (bit 3) or PRIV_VIOLATION (bit 2), at any time (R13, R336). -/
def State.clearWdtStatus (s : State) (v : BitVec 32) : State :=
  s.modWdt (fun w => { w with
    periodReject := w.periodReject && !v.getLsbD 3, privViolation := w.privViolation && !v.getLsbD 2 })

/-- R326: a write of FSC_WDT_PERIOD or of WINDOW, taken only while the window is open. The table has no row for the write of
FSC_WDT_STATUS (R336): it is a write of this row to the third of the registers. -/
def execWdtPeriodWrite (priv : Bool) (field : WdtField) (v : BitVec 32) (s : State) : Host.Outcome State Fault Refusal :=
  if !priv then .next s.privViolation
  else match field with
    | .period =>
      if !windowOpen s then .next s.periodRejected
      else if 1000 ≤ v.toNat ∧ v.toNat ≤ 1000000 then .next (s.modWdt (fun w => { w with nextPeriod := v.toNat }))
      else .next s
    | .window =>
      if !windowOpen s then .next s.periodRejected
      else .next (s.modWdt (fun w => { w with nextWindow := v.toNat % 16 }))
    | .status => .next (s.clearWdtStatus v)

/-- R325: the end of an interval without a completed service. -/
def execWdtIntervalEnd (s : State) : Host.Outcome State Fault Refusal :=
  if s.wdt.enabled ∧ s.wdt.period * 1000 ≤ wdtAge s then .next s.bite else .next s

/-- R328: the count of one window of 200 MON cycles, or a gap of 20 cycles without an edge. -/
def execClockMonitorWindow (edges : Nat) (gap : Bool) (s : State) : Host.Outcome State Fault Refusal :=
  let out := decide (edges < 90) || decide (110 < edges)
  let s1 := (s.modWdt (fun w => { w with monBad := if out then w.monBad + 1 else 0 })).setP 2 0x12 0 0x0C edges
  if gap ∨ (out ∧ s.wdt.monBad ≥ 1) then
    let s2 := (s1.setRecord 0 none true (ident .fsc 3)).failLow
    let s3 := s2.modHw (fun h => { h with monResets := satInc h.monResets })
    .next ((s3.raise (ident .fsc 3) 0 0).requestReset 5)
  else .next s1

/-- R330: the record of a C3 or C4 raise reaches LAST_FAULT. -/
def execHeartwoodWrite (s : State) : Host.Outcome State Fault Refusal :=
  .next s.heartNow

/-- WDT_RESET_COUNT (R330) takes only 0. -/
def wdtResetCount (s : State) (v : BitVec 16) : CmdRes :=
  if v = 0 then okRes (s.modHw (fun h => { h with wdtResets := 0, monResets := 0 })) else refuse s rcOutOfRange

/-- R330: a write of WDT_RESET_COUNT. -/
def execWdtResetCount (q : Req) (v : BitVec 16) (s : State) : Host.Outcome State Fault Refusal :=
  .next ((guardWrite s q (wdtResetCount s v)).finish q opSetParam)

end Sys2Proof.Machine
end

