-- ==== Sys2Proof/Machine/ShareOps.lean ====
section
/-! DEFINITION. A bank applies its share of a commit, or its whole configuration at its arrival instant (R98 to R101, R156,
R185, R192, R236, R404, R558, R560). -/

namespace Sys2Proof.Machine

/-- The share's bytes go into the configuration that the bank holds. -/
def State.foldShare (s : State) (b : Fin 4) : State :=
  let m := (s.banks[b]).shareBuf.foldl (fun m c => cellsWrite bankReset' m (bankBase b + c.1) c.2) s.bankCfg
  { s with bankCfg := m }

/-- Whether an attribute of `n` bytes differs between the configurations a bank held and holds. -/
def cfgDiff (old s : State) (b : Fin 4) (n cls inst attr : Nat) : Bool :=
  old.bBytes b n cls inst attr 0 != s.bBytes b n cls inst attr 0

/-- The entries on a target end with an outcome, and its pulse with them (R100, R192). -/
def State.dropEntries (s : State) (b : Fin 4) (kind target code : Nat) : State :=
  let hit (r : SchedRec) : Bool := r.kind == kind && r.target == target
  let gone := ((s.banks[b]).queue ++ (s.banks[b]).batchBuf).filter hit
  let s1 := s.modBank b (fun k => { k with
    queue := k.queue.filter (fun r => !hit r), batchBuf := k.batchBuf.filter (fun r => !hit r) })
  (gone.foldl (fun t r => t.report b r code 0 true) s1).endPulses b kind target

/-- An active safe source of an output takes SAFE_VALUE with SAFE_MODE 0 and keeps the value it shows with SAFE_MODE 1. -/
def safeKept (p : Nat × Int) (v : Option Int) : Option Int := v.map (fun x => if p.1 = 0 then p.2 else x)

/-! ### Universal channels (R100, R156) -/

/-- The old mode of a channel ends at an instant: its live conditions clear and its lasting instances end (R100, R624). What the chain
still holds of it keeps the OPEN of before (R88). -/
def State.endMode (s : State) (u : Fin 16) (m t : Nat) : State :=
  let b := bankOfU u
  let k := s.u[u]
  let fin (on : Bool) (n : Nat) (t : State) : State := if on then t.bankEnd b (ident .ucf n) 2 u else t
  let opened := k.status.getLsbD 1
  let s1 := fin (opened && m != 3 && m != 9) 1 s
  let s2 := fin (opened && m == 3) 3 s1
  let s3 := fin (opened && m == 9) 7 s2
  let s4 := fin k.scShort 2 s3
  let s5 := fin k.shortTest 6 s4
  let s6 := fin (k.status.getLsbD 2 && (m == 10 || m == 11)) 8 s5
  let s7 := fin (k.status.getLsbD 7) 4 s6
  let s8 := fin k.rangeRaised 9 s7
  let s9 := fin ((m == 7 || m == 8) && (k.inputOpen || k.offAt != 0)) 5 s8
  s9.modU u (fun k => { k with
    status := 0, retries := 0, scShort := false, scOff := false, shortTest := false, rangeRaised := false, offAt := 0,
    inputOpen := false, lowRun := 0, highRun := 0, satRun := 0, openSince := none,
    openUntil := if k.openSince.isSome then t else k.openUntil, testTap := none, testing := false, limitAt := none, rbFails := 0,
    rbGoods := 0, compliance := 0, complianceOk := 0, clamped := false, db := { k.db with state := false, fresh := false } })

/-- A rotation of a channel is abandoned, and its state is that of the new mode, with a priority request (R114, R121). -/
def State.abandonRot (s : State) (u : Fin 16) : State :=
  let b := bankOfU u
  let s1 := if (s.banks[b]).chosen = some (uIn u) then
      s.modBank b (fun k => { k with
        chosen := none, lastChosen := (uIn u).val, phase := 8, reliefWords := 0, reliefX := none })
    else s
  let ok := rotEligible s1 u
  s1.modRot u (fun r => { r with state := if ok then 1 else 0, priority := ok, words := 0, sum := 0, cut := false })

/-- The factory coefficients of a converter in a mode (R111, R130). -/
def factoryCoef (cal : List Word) (front mode : Nat) : Coef :=
  { dz := Config.factoryZero cal front mode, k := Config.factoryGain cal front mode,
    checkSpan := Config.factorySpan cal front mode, refSpan := 0, temp := 0, source := 0 }

/-- The new mode begins at an instant (R100): its sources, its front end and its chain. An active safe state shows the safe
value of the new mode, which is the immediate-command value of R96 in both SAFE_MODEs. -/
def State.startMode (s : State) (u : Fin 16) (t : Nat) : State :=
  let m := uMode s u
  let v := uImmediateOf s u
  let ct : CellTime := BitVec.ofNat 72 t
  let ao := isAo m
  let src : OutSrc := s.u[u].src
  let o : OutSrc := { imm := v, sched := none, force := none, auton := src.auton.map (fun _ => v),
                      safe := src.safe.map (fun _ => v) }
  let s1 := s.modU u (fun k => { k with
    src := o, settled := false, settleAt := ctAddNs ct 250000,
    coef := if isAnalogue m then factoryCoef (s.banks[bankOfU u]).cal u m else k.coef,
    setHistory := if ao then [(ct, v)] else [], suspendAt := ct, rbSuspend := if ao then 4 else 0 })
  let s2 := if ao then (s1.driveDac u (dacOf s.u[u].trim m v) ct).modU u (fun k => { k with dacAt := ct })
    else if m = 3 then (s1.driveDo u).uLive u 0 s.u[u].db.level
    else s1
  if isAnalogue m ∨ s2.u[u].chain.grid.isSome then s2.restartU u t (t + nsUnits 250000) true true else s2

/-- WB_ENABLE has gone to 0: the detection it selects ends, and OPEN with it. -/
def State.wbOff (s : State) (u : Fin 16) : State :=
  let m := uMode s u
  if uBit s u 1 then
    if isDi m then (s.uFlag u 1 false).bankEnd (bankOfU u) (ident .ucf 1) 2 u
    else if isAiv m ∨ m = 7 then s.closeA u (ident .ucf 1)
    else s
  else s

/-- A share acts on one universal channel (R100, R101, R132, R156). -/
def State.shareU (s old : State) (u : Fin 16) (t : Nat) : State :=
  let b := bankOfU u
  let m0 := uMode old u
  let m := uMode s u
  let off := 192 * b.val + 48 * (uIn u).val
  let trim := (List.range 12).map (fun i => toSigned 32 (leNat (s.bBytes b 4 0x1B 0 0x0C (off + 4 * i))))
  let s1 := if trim = s.u[u].trim then s
    else
      let x := s.modU u (fun k => { k with trim := trim, rbSuspend := 4, suspendAt := BitVec.ofNat 72 t })
      if isAo m then x.driveDac u (dacOf trim m s.u[u].src.value) (BitVec.ofNat 72 t) else x
  if m0 ≠ m then
    let s2 := (s1.dropEntries b 0 u 7).endMode u m0 t
    (s2.abandonRot u).startMode u t
  else
    let p := uSafe s u
    let s2 := if cfgDiff old s b 1 0x06 u 0x10 || cfgDiff old s b 4 0x06 u 0x11 then
        s1.setSrcU u (fun o => { o with auton := safeKept p o.auton, safe := safeKept p o.safe })
      else s1
    let s3 := if cfgDiff old s b 1 0x06 u 0x0E && s.b b 1 0x06 u 0x0E == 0 then s2.wbOff u else s2
    let chr := cfgDiff old s b 1 0x06 u 0x08 || cfgDiff old s b 4 0x06 u 0x09 || cfgDiff old s b 132 0x06 u 0x0A
    let flt := cfgDiff old s b 4 0x08 u 0x01 || cfgDiff old s b 2 0x08 u 0x02 || cfgDiff old s b 1 0x08 u 0x03 ||
      cfgDiff old s b 1 0x08 u 0x04
    if (isAnalogue m && chr) || (isAi m && flt) then s3.restartU u t t false (isAi m && flt) else s3

/-! ### Load switches and groups (R185, R192, R201) -/

/-- A channel that joins or leaves a group (R192): it goes off with its counts, entries and forces; it starts from its own
immediate-command value; an active safe state stays. -/
def State.regroup (s : State) (l : Fin 8) : State :=
  let b := bankOfL l
  let p := lSafe s l
  let src : OutSrc := s.l[l].src
  let o : OutSrc := { imm := lImmediate p, sched := none, force := none, auton := safeKept p src.auton,
                      safe := safeKept p src.safe }
  let s1 := (s.turnOff l).modL l (fun k => { k with
    src := o, retries := 0, restarts := 0, retried := false, thermRestart := false, readmit := false })
  (s1.lFlag l 11 false).dropEntries b 1 l 7

/-- A group whose members change in a bank (R192, R201): its entries and forces end, and every excluded member is readmitted. A
group that is new starts from its safe value, and so does one that is new in this bank alone from off, until it is told its
command; an active safe state stays active. A group that leaves the bank leaves its DIAG only. -/
def State.regroupG (s old : State) (b g : Fin 4) : State :=
  let k := (s.banks[b]).groups[g]
  let p := gSafe s b g
  let ms := membersIn s b g
  let fresh := (membersIn old b g).isEmpty
  let imm := if !fresh then k.src.imm else if membersB old b g = 0 then lImmediate p else 0
  let start (on : Bool) (v : Option Int) : Option Int :=
    if fresh then (if on then some (safeValue p 0) else none) else safeKept p v
  let held := (s.banks[b]).safeGroups.getLsbD g.val || ms.any (fun l => s.l[l].src.safe.isSome)
  let o : OutSrc :=
    { imm := imm, sched := none, force := none, auton := start (s.banks[b]).autonomous k.src.auton,
      safe := start held k.src.safe }
  let k0 : GroupBank := if fresh ∨ ms.isEmpty then { groupBankReset with diag := k.diag } else k
  let src : OutSrc := if ms.isEmpty then outSrcReset else o
  let k1 : GroupBank := { k0 with
    src := src, limitEntry := none, tripAt := none, locked := false }
  let s1 := s.modGrp b g (fun _ => k1)
  (ms.foldl (fun x l => (x.lFlag l 11 false).modL l (fun k => { k with readmit := false })) s1).dropEntries b 2 g 7

/-- A share acts on the load switches and groups of a bank. -/
def State.shareL (s old : State) (b : Fin 4) : State :=
  let changed := allGroups.filter (fun g => membersB old b g != membersB s b g)
  let moved := (bankL b).filter (fun l => lGroup old l != lGroup s l)
  let s1 := (bankL b).foldl (fun x (l : Fin 8) =>
    if cfgDiff old s b 2 0x0A l 0x0D then x.modL l (fun k => { k with budget := s.b b 2 0x0A l 0x0D * 1000000 }) else x) s
  let s2 := moved.foldl (fun x l => x.regroup l) s1
  let s3 := changed.foldl (fun x g =>
    if membersIn s b g = [] ∧ membersIn old b g = [] then x else x.regroupG old b g) s2
  let s4 := (bankL b).foldl (fun x (l : Fin 8) =>
    if cfgDiff old s b 1 0x0A l 0x1D || cfgDiff old s b 1 0x0A l 0x1E then
      let p := lSafe s l
      x.modL l (fun k => { k with
        src := { k.src with auton := safeKept p k.src.auton, safe := safeKept p k.src.safe } })
    else x) s3
  let s5 := allGroups.foldl (fun x (g : Fin 4) =>
    if cfgDiff old s b 1 0x0B g 0x0D || cfgDiff old s b 1 0x0B g 0x0E then
      let p := gSafe s b g
      x.modGrp b g (fun k => { k with
        src := { k.src with auton := safeKept p k.src.auton, safe := safeKept p k.src.safe } })
    else x) s4
  let s6 := allGroups.foldl (fun x g => if membersIn x b g = [] then x else x.relaunchGroup b g) s5
  (bankL b).foldl (fun x l => x.relaunch l) s6

/-! ### Fast inputs (R222, R236) -/

/-- The armed latch of an input is cancelled; a schedule entry behind it ends CANCELLED. -/
def State.dropLatch (s : State) (f : Fin 8) : State :=
  let b := bankOfF f
  match s.f[f].armed with
  | none => s
  | some (_, h) =>
    let s1 := (s.modF f (fun k => { k with armed := none })).fFlag f 7 false
    if h = 0 then s1 else s1.sendUp b (.outcome h 6 0 (bankNow (s.banks[b])) (bankUnc s b) true)

/-- A change of INVERT flips the level and the state silently (R236). -/
def State.flipF (s old : State) (f : Fin 8) : State :=
  if cfgDiff old s (bankOfF f) 1 0x0C f 0x03 then
    let v := !(s.f[f].db.state)
    s.modF f (fun k => { k with
      db := { k.db with level := !k.db.level, state := v }, status := setBit16 k.status 0 v })
  else s

/-- A share acts on one fast input, whose level and whose partner's have been flipped where INVERT changes (R222, R229, R236). -/
def State.shareF (s old : State) (f : Fin 8) (t : Nat) : State :=
  let b := bankOfF f
  let diff (n attr : Nat) : Bool := cfgDiff old s b n 0x0C f attr
  let ct : CellTime := BitVec.ofNat 72 t
  let set_ := diff 1 0x01 || diff 1 0x03 || diff 1 0x05 || diff 1 0x09
  let s1 := if set_ then s.modF f (fun k => { k with
      oldMode := fMode old f, oldEdges := old.b b 1 0x0C f 0x05, oldRev := old.b b 1 0x0C f 0x09 == 1,
      oldInvert := old.b b 1 0x0C f 0x03 == 1, setAt := ct }) else s
  let s2 := if diff 1 0x0A || diff 2 0x0B then s1.modF f (fun k => { k with capCount := 0 }) else s1
  let s3 := if diff 1 0x15 then (s2.dropLatch f).modF f (fun k => { k with lastGrid := ct }) else s2
  let s4 := if diff 1 0x1C && s.b b 1 0x0C f 0x1C == 0 && fBit s3 f 1 then
      (s3.fFlag f 1 false).bankEnd b (ident .fti 1) 5 f else s3
  let s5 := if diff 1 0x01 || diff 1 0x03 then s4.stopF f else s4
  if set_ || cfgDiff old s b 1 0x0C (partner f) 0x03 then s5.syncAB f ct else s5

/-! ### The whole share -/

/-- The rotation of a bank after a commit: a chosen channel that is no longer eligible is cut short, and a cleared bank bit
stops the cross-check (R122). -/
def State.shareRot (s old : State) (b : Fin 4) : State :=
  let s1 := match (s.banks[b]).chosen with
    | some i => if rotEligible s (uOf b i) then s else s.cutShort b
    | none => s
  let s2 := if natBit (old.b b 1 0x1B 0 0x02) b.val && !natBit (s.b b 1 0x1B 0 0x02) b.val then s1.dropEstimate b else s1
  s2.refreshRot b

/-- What the arrival instant adds (R29, R96, R163, R173, R558, R560): the queue empties without reports and with it the pulses
that run, counters, capture sequences and budgets start, the outputs hold their immediate-command values of reset, the chains
take their anchors, and every channel has a rotation priority request. -/
def State.arriveBank (s : State) (b : Fin 4) : State :=
  let running := ((s.banks[b]).pulses.map (fun p => (p.1.kind, p.1.target))).eraseDups
  let clock := bankNow (s.banks[b])
  let s0 := s.modBank b (fun k => { k with
    queue := [], batchBuf := [], pulses := [], launches := [], arrived := true, startFlag := false, refState := 3, refRun := 0,
    alarmRun := 0, emptyRun := 0, slotCount := 0, slotOpen := false, deltas := [] })
  let s1 := running.foldl (fun x t => x.setSched b t.1 t.2 none) s0
  let s2 := (bankF b).foldl (fun x f => ((x.modF f (fun k => { k with
    base := { countReset with ab := abNow x f }, count := { countReset with ab := abNow x f }, log := [], setAt := 0, capSeq := 0,
    capCount := 0, storedSeq := 0, armed := none, lastGrid := clock, gateAt := clock })).fFlag f 7 false).stopF f) s1
  let s3 := (bankL b).foldl (fun x l => x.modL l (fun k => { k with
    budget := x.b b 2 0x0A l 0x0D * 1000000, src := { k.src with imm := lImmediate (lSafe x l) } })) s2
  let s4 := allGroups.foldl (fun x g => x.modGrp b g (fun k => { k with
    src := { k.src with imm := lImmediate (gSafe x b g) } })) s3
  (bankU b).foldl (fun x u =>
    let v := uImmediateOf x u
    let phi := perAfter (ctOfBytes (x.pBytes 9 0x08 u 0x12 0)).toNat
    ((x.setSrcU u (fun o => { o with imm := v })).modRot u (fun r => { r with priority := true })).modU u (fun k => { k with
      chain := { k.chain with anchor := phi } })) s4

/-- A bank applies what it holds in one bank-clock cycle and reports it (R99, R404, R560); `late` says that its share was not
complete at the apply instant. -/
def State.applyShare (s : State) (b : Fin 4) (a : CellTime) (arrival late : Bool) : State :=
  let clock := bankNow (s.banks[b])
  let t := if late then clock.toNat else a.toNat
  let s0 := (s.foldShare b).modBank b (fun k => { k with shareBuf := [], shareMark := none })
  let s1 := if arrival then s0.arriveBank b else s0
  let s2 := (bankU b).foldl (fun x u => x.shareU s u t) s1
  let s3 := s2.shareL s b
  let s4 := (bankF b).foldl (fun x f => x.shareF s f t) ((bankF b).foldl (fun x f => x.flipF s f) s3)
  (s4.shareRot s b).sendUp b (.share a clock late)

/-- Of what a bank does at one instant, the share that applies there comes first (R163, R257). -/
def State.shareFirst (s : State) (b : Fin 4) (t : Nat) : State :=
  match (s.banks[b]).shareMark with
  | some (a, arr) => if a.toNat ≤ t ∧ reached a (bankNow (s.banks[b])) then s.applyShare b a arr false else s
  | none => s

/-- R99: the bank copy reaches the apply instant of the share that the bank holds; the entries due before it come first. -/
def State.shareDue (s : State) (b : Fin 4) (arrival : Bool) : State :=
  match (s.banks[b]).shareMark with
  | some (a, arr) =>
    if arr = arrival ∧ reached a (bankNow (s.banks[b])) then (s.applyDue b false (some a)).applyShare b a arr false else s
  | none => s

/-- The due entries of a bank and its share in the order of their instants, the share first at an equal one (R257). -/
def State.entriesAndShare (s : State) (b : Fin 4) (late : Bool) : State :=
  match (s.banks[b]).shareMark with
  | some (a, _) =>
    if reached a (bankNow (s.banks[b])) then ((s.applyDue b late (some a)).shareFirst b a.toNat).applyDue b late none
    else s.applyDue b late none
  | none => s.applyDue b late none

/-- R249: the bank copy reaches apply instants. -/
def execScheduleApplyInstant (b : Fin 4) (s : State) : Host.Outcome State Fault Refusal := .next (s.entriesAndShare b false)

/-- The channels of a bank whose A′ has come, with it. -/
def syncDue (s : State) (b : Fin 4) : List (Fin 16 × Nat) :=
  (bankU b).filterMap (fun u => match s.u[u].chain.syncPending with
    | some a => if perTime a ≤ bankUnits s b then some (u, a) else none
    | none => none)

/-- R162: every channel of the bank whose A′ has come restarts in one cycle, after a share that applies at that instant (R163); the
relief's stage 1 is reset with them; a journal record is written. With the bank absent the logic side keeps the anchor (R163). -/
def execDecimatorSyncInstant (b : Fin 4) (s : State) : Host.Outcome State Fault Refusal :=
  let body (us : List (Fin 16)) (src : Nat) : List Byte :=
    leBytes 2 (us.foldl (fun (n : Nat) (u : Fin 16) => n + 2 ^ u.val) 0) ++ leBytes 1 src
  if (s.banks[b]).arrived then
    match syncDue s b with
    | [] => .next s
    | d :: ds =>
      let s0 := s.shareFirst b (perTime d.2)
      let s1 := (d :: ds).foldl (fun x p => x.syncChannel p.1 p.2) s0
      let s2 := ((s1.cutShort b).dropEstimate b).modBank b (fun k => { k with reliefSinc := sincReset })
      .next (s2.journalAt 0x07 (body ((d :: ds).map (·.1)) s.u[d.1].chain.syncSource))
  else
    let due := (bankU b).filter (fun u => match s.u[u].chain.syncRequest with
      | some (a, _) => decide (perTime a ≤ (now s).toNat) | none => false)
    .next (due.foldl (fun x u => match s.u[u].chain.syncRequest with
      | some (a, _) => ((x.setPCt 0x08 u 0x12 (BitVec.ofNat 72 (perTime a))).setP 1 0x08 u 0x10 0).modU u (fun k => { k with
          chain := { k.chain with syncRequest := none } })
      | none => x) s)

end Sys2Proof.Machine
end

