-- ==== Sys2Proof/Machine/LinkOps.lean ====
section
/-! DEFINITION. The shared operations of the bank links: what a good or a bad cell brings (R23, R26 to R28), the write
records of a share (R402, R560, R627), the states of a bank and what follows from them (R195, R258, R417), and what the logic
side refreshes from the cells of a bank (R74 to R78, R221, R225, R266). -/

namespace Sys2Proof.Machine

/-! ### The two directions of a link (R22 to R27) -/

/-- Change the direction from the logic side to a bank. -/
def State.modDown (s : State) (b : Fin 4) (g : LinkDir DownCell SyncCell → LinkDir DownCell SyncCell) : State :=
  { s with down := s.down.set b (g (s.down[b])) }

/-- Change the direction from a bank to the logic side. -/
def State.modUp (s : State) (b : Fin 4) (g : LinkDir UpCell StatusCell → LinkDir UpCell StatusCell) : State :=
  { s with up := s.up.set b (g (s.up[b])) }

/-- A direction at SEQ 0 with nothing sent or queued; the slot in progress goes on. -/
def linkFresh {π σ : Type} (d : LinkDir π σ) : LinkDir π σ :=
  { (linkReset : LinkDir π σ) with slot := d.slot, line := d.line, ack := d.ack }

/-- A cell discarded under R23 counts as a link error (R312, R417). -/
def State.linkError (s : State) (b : Fin 4) : State := (s.inc 4 0x05 b 0x05).occur (ident .bkc 3) 1 b

/-- A good cell reaches a bank: its ACK is taken (R26), and the link-silence timer restarts (R27). -/
def State.goodDown (s : State) (b : Fin 4) : State :=
  (s.modUp b (linkAck (s.down[b]).ack)).modBank b (fun k => { k with lastGood := s.tb.mono })

/-- A good cell reaches the logic side: its ACK is taken, the silence timer restarts, and the longest gap is kept (R26, R28,
R417). -/
def State.goodUp (s : State) (b : Fin 4) : State :=
  let gap := (s.tb.mono - s.links[b].lastRx).toNat / 2 ^ 32
  let s1 := (s.modDown b (linkAck (s.up[b]).ack)).modLink b (fun l => { l with lastRx := s.tb.mono })
  if bankPresent s b ∧ s.p 4 0x05 b 0x0B < gap then s1.setP 4 0x05 b 0x0B (min 0xFFFFFFFF gap) else s1

/-- Whether a bank takes cells: it has its supply, and the logic side sends. -/
def bankHears (s : State) (b : Fin 4) : Bool := (s.banks[b]).powered && s.links[b].started

/-! ### The share of a bank (R402, R560, R627) -/

/-- The bank that an attribute of a class and an instance is held by, where it belongs to one bank alone. -/
def ownerBank (cls inst : Nat) : Option Nat :=
  if 0x06 ≤ cls ∧ cls ≤ 0x09 then some (inst / 4)
  else if cls = 0x0A ∨ cls = 0x0C then some (inst / 2)
  else none

/-- Whether a byte of the parameter store belongs to the configuration of a bank, the output trims apart. -/
def bankHolds (b : Fin 4) (k : Nat) : Bool :=
  let i := k / 2 ^ 20
  let cls := i / 65536 % 256
  let inst := i / 256 % 256
  let attr := i % 256
  let mine := match ownerBank cls inst with
    | some n => n == b.val
    | none => cls == 0x0B || cls == 0x0D || cls == 0x10 || (cls == 0x1B && decide (attr ≤ 4))
  mine && (match findAttr cls attr with | some r => r.access == .rws | none => false)

/-- The addresses of two stores, rising. -/
def keyUnion (m : Store) : Store → List Nat
  | [] => m.map (·.1)
  | (k, _) :: t => let r := keyUnion m t; if r.contains k then r else (r.takeWhile (· < k)) ++ k :: r.dropWhile (· < k)

/-- The bytes of the whole configuration of a bank, the output trims apart, in ascending order of their parameters. -/
def bankKeys (b : Fin 4) : List Nat :=
  (List.range 0x1C).flatMap (fun cls =>
    (List.range (classInstances cls)).flatMap (fun inst =>
      (classAttrs cls).flatMap (fun r =>
        if bankHolds b (parKey cls inst r.attr 0) then (List.range r.size).map (parKey cls inst r.attr) else [])))

/-- The bytes of a content that a bank has not been sent. -/
def shareBytes (sent : Store) (b : Fin 4) (content : Store) : List Host.Cell :=
  ((keyUnion sent content).filter (bankHolds b)).filterMap (fun k =>
    let v := cellsRead parReset content k
    if v = cellsRead parReset sent k then none else some (k, v))

/-- The payload bytes of a cell of write records. -/
def recordLen (rs : List (List Host.Cell)) : Nat := rs.foldl (fun n r => n + 7 + r.length) 0

/-- Pack write records into cells of at most 56 payload bytes, in order. -/
def cfgPack (rs : List (List Host.Cell)) : List (List (List Host.Cell)) :=
  rs.foldl (fun (acc : List (List (List Host.Cell))) r =>
    match acc.getLast? with
    | none => [[r]]
    | some last => if recordLen last + 7 + r.length ≤ 56 then acc.dropLast ++ [last ++ [r]] else acc ++ [[r]]) []

/-- The twelve numbers of a channel's trims in a content (R132, R139). -/
def trimOf (content : Store) (b c : Fin 4) : List Int :=
  (List.range 12).map (fun i =>
    toSigned 32 (cellsNat parReset content (parKey 0x1B 0 0x0C (192 * b.val + 48 * c.val + 4 * i)) 4))

/-- Send a bank a content: its trims and its whole configuration, or those of them that it has not been sent. -/
def State.sendContent (s : State) (b : Fin 4) (content : Store) (all : Bool) : State :=
  let sent := s.links[b].sent
  let s1 := ([0, 1, 2, 3] : List (Fin 4)).foldl (fun x c =>
    let t := trimOf content b c
    if all || t != trimOf sent b c then x.sendDown b (.calTrim c t) else x) s
  let bytes := if all then (bankKeys b).map (fun k => (k, cellsRead parReset content k)) else shareBytes sent b content
  ((cfgPack (cfgRuns bytes)).foldl (fun x rs => x.sendDown b (.cfg rs.flatten)) s1).modLink b (fun l => { l with sent := content })

/-- Send a bank its share of a commit, the marker last (R402, R627). -/
def State.sendShare (s : State) (b : Fin 4) (content : Store) (apply : CellTime) : State :=
  (s.sendContent b content false).sendDown b (.cfgMark apply false)

/-- A bank that cannot apply a commit any more, absent or silent: nothing waits for it; an applied commit counts it as one that
did not report (R403). -/
def State.unawait (s : State) (b : Fin 4) : State :=
  let late (w : BitVec 4) : BitVec 4 := w ||| (1#4 <<< b.val)
  { s with
    journalCommits := s.journalCommits.map (fun c =>
      if c.waiting.contains b then { c with waiting := c.waiting.filter (· != b), late := late c.late } else c) }

/-! ### The states of a bank (R195, R258, R417) -/

/-- The cross-bank groups that R195 puts into their safe value in a bank: another member bank is autonomous or silent. -/
def followGroups (s : State) (b : Fin 4) : BitVec 4 :=
  allGroups.foldl (fun (m : BitVec 4) g =>
    let bs := groupBanks s g
    if isCross s g && bs.contains b && bs.any (fun k => k != b && (bankState s k == 3 || bankState s k == 4)) then
      m ||| (1#4 <<< g.val) else m) 0

/-- The logic side puts groups into their group safe value in the other member banks, and takes them out of it (R195). -/
def State.followSafe (s : State) : State :=
  allBanks.foldl (fun x b =>
    let old := x.links[b].groupSafe
    let new := followGroups x b
    let gone := grpMask x b (fun g => (old &&& ~~~new).getLsbD g.val && !gSafeOn x g)
    let x1 := x.modLink b (fun l => { l with groupSafe := new })
    if bankPresent x b then
      let x2 := if new &&& ~~~old = 0 then x1 else x1.sendSafe b 1 0 (new &&& ~~~old) 2 (ident .bkc 2)
      if gone = 0 then x2 else x2.sendSafe b 2 0 gone 2 0xFFFF
    else x1) s

/-- A bank's state changes (R377, R417, R535): the attributes, the journal, the device point, and the BANK doorbell where a
bank arrives, leaves, or enters or leaves the autonomous safe state. -/
def State.setBankState (s : State) (b : Fin 4) (new : Nat) : State :=
  let old := bankState s b
  if old = new then s
  else
    let s1 := (s.setP 1 0x05 b 0x02 new).setP 1 0x05 b 0x01 (if new = 0 then 0 else 1)
    let s2 := (s1.journalAt 0x0D [BitVec.ofNat 8 b.val, BitVec.ofNat 8 old, BitVec.ofNat 8 new]).devicePoint (0x44 + b.val)
      (if new = 0 then 0 else 1)
    let s3 := if new = 0 ∨ new = 1 ∨ new = 3 ∨ old = 3 then s2.ringAll (8 + b.val) else s2
    s3.followSafe

/-- A pending clear of a bank lapses (R319). -/
def State.lapseClear (s : State) (b : Fin 4) : State :=
  s.modFb (fun f => { f with clearPending := f.clearPending.set b false, statusRun := f.statusRun.set b 0 })

/-- The entries of a bank that has lost its supply end LOST_BANK, with TB-14 where there are any (R258). -/
def State.loseEntries (s : State) (b : Fin 4) : State :=
  let mine := s.sched.filter (fun r => r.bank == b)
  if mine = [] then s
  else (mine.foldl (fun x r => x.recordOutcome b r.handle 8 0 (now s) s.tb.uncertain true) s).raise (ident .tb 14) 1 b

/-- Every CANCEL_SCHEDULE that waits for a bank counts it as reported with nothing cancelled. -/
def State.endCancels (s : State) (b : Fin 4) : State :=
  let n := (s.mbx.long.filter (fun j => j.opcode == opCancel && j.wait.getLsbD b.val)).length
  (List.range n).foldl (fun x _ => x.cancelReport b 0 0 [] x.tb.uncertain) s

/-- The points of the channels of an absent bank read 0 (R266). -/
def State.clearBankPoints (s : State) (b : Fin 4) : State :=
  let s1 := (bankU b).foldl (fun x u => x.clearPoint u.val) s
  let s2 := (bankL b).foldl (fun x l => x.clearPoint (0x10 + l.val)) s1
  (bankF b).foldl (fun x f => x.clearPoint (0x18 + f.val)) s2

/-- A bank becomes ABSENT (R258, R417, R561). -/
def State.goAbsent (s : State) (b : Fin 4) : State :=
  let s1 := if bankState s b ≥ 3 then s.endFault (ident .bkc 2) 1 b else s
  let s2 := if bankState s b = 4 then s1.endFault (ident .bkc 1) 1 b else s1
  let s3 := ((s2.setBankState b 0).orP 0x05 b 0x0D 16).lapseClear b
  let s4 := s3.modLink b (fun l => { l with
    arrivalSent := false, arrivalAt := none, syncsSince := 0, shareDue := false, lswSeen := false })
  (((s4.loseEntries b).endCancels b).clearBankPoints b).unawait b

/-- A bank falls SILENT (R28, R417). -/
def State.goSilent (s : State) (b : Fin 4) : State :=
  let s1 := (s.setBankState b 4).orP 0x05 b 0x0D 2
  ((s1.raise (ident .bkc 1) 1 b).lapseClear b).unawait b

/-- A bank is sent its factory calibration (R130): the calibration words of the fuses, 14 to a CAL cell, the last cell marked. -/
def State.sendFactory (s : State) (b : Fin 4) : State :=
  let words := s.sup.fuses.cal
  (List.range 15).foldl (fun x i => x.sendDown b (.calFactory (14 * i) ((words.drop (14 * i)).take 14) (i == 14))) s

/-- A bank enters STARTING (R417, R560): what it is sent before its arrival marker. A bank that has just started begins its
links at SEQ 0, as after a link start. -/
def State.enterStarting (s : State) (b : Fin 4) (fresh : Bool) : State :=
  let s0 := if fresh then (s.modDown b linkFresh).modUp b linkFresh else s
  let s1 := ((s0.setBankState b 1).inc 4 0x05 b 0x07).setPCt 0x05 b 0x08 (now s)
  let s2 := ((s1.setP 4 0x05 b 0x0B 0).orP 0x05 b 0x0D 1).modLink b (fun l => { l with
    arrivalSent := false, arrivalAt := none, syncsSince := 0, shareDue := s.commit.isSome })
  let s3 := (s2.sendFactory b).sendContent b s.dict true
  let c := bankSafe s3 b
  (s3.sendDownExpress b (.safe 3 c.1 c.2 0 none 0xFFFF)).sendForceAll b

/-- The first whole millisecond at least 100 µs after an instant (R560). -/
def arrivalInstant (t : CellTime) : CellTime :=
  let ms := nsUnits 1000000
  BitVec.ofNat 72 ((t.toNat + nsUnits 100000 + ms - 1) / ms * ms)

/-- Once 64 SYNC cells have gone out, a starting bank is sent its arrival marker (R560). -/
def State.sendArrival (s : State) (b : Fin 4) : State :=
  if bankState s b = 1 ∧ s.links[b].syncsSince ≥ 64 ∧ s.links[b].arrivalSent = false then
    let t := arrivalInstant (now s)
    (s.sendDown b (.cfgMark t true)).modLink b (fun l => { l with arrivalSent := true, arrivalAt := some t })
  else s

/-- A bank's report of its arrival: it is RUNNING, and takes its share of what changed meanwhile (R407, R417). -/
def State.arrived (s : State) (b : Fin 4) : State :=
  let s1 := if bankState s b = 1 then s.setBankState b 2 else s
  let s2 := s1.modLink b (fun l => { l with arrivalSent := false, arrivalAt := none, shareDue := false })
  match s.commit with
  | some c => s2.sendShare b c.content c.apply
  | none => if s.links[b].shareDue then s2.sendShare b s.dict (now s) else s2

/-- A bank's report of a share (R404): a late one is counted, marked in LAST_COMMIT and raises BKC-04. -/
def State.shareReport (s : State) (b : Fin 4) (apply : CellTime) (late : Bool) : State :=
  let bit : BitVec 4 := if late then 1#4 <<< b.val else 0
  let upd (c : Commit) : Commit :=
    if c.apply = apply then { c with waiting := c.waiting.filter (· != b), late := c.late ||| bit } else c
  let s1 := { s with commit := s.commit.map upd, journalCommits := s.journalCommits.map upd }
  if late then
    let s2 := ((s1.inc 4 0x05 b 0x0C).orP 0x05 b 0x0D 8).orP 0x01 0 0x15 4
    let s3 := if ctOfBytes (s2.pBytes 9 0x01 0 0x12 0) = apply then
        s2.setPAt 1 0x01 0 0x12 20 (s2.pAt 1 0x01 0 0x12 20 ||| 2 ^ b.val) else s2
    s3.raise (ident .bkc 4) 1 b
  else s1

/-! ### Own points (R74, R266) -/

/-- A point written from a STATUS, COUNT or LSW cell: only when its value or its quality, TIME_UNCERTAIN apart, differs. -/
def State.statePoint (s : State) (h : Nat) (v : Int) (q : Byte) (unc : Bool) : State :=
  let old := underValue s h
  if old.1 = v ∧ old.2 &&& 0xEF = q then s else s.ownPoint h v (setBit8 q 4 unc)

/-! ### The process value (R75 to R78) -/

/-- The integer square root of `n`, bit by bit from bit `k − 1` down. -/
def isqrtFrom : Nat → Nat → Nat → Nat
  | 0, _, acc => acc
  | k + 1, n, acc => let t := acc + 2 ^ k; isqrtFrom k n (if t * t ≤ n then t else acc)

/-- The square root rounded to the nearest. -/
def sqrtRound (n : Nat) : Nat := let r := isqrtFrom 33 n 0; if n - r * r > r then r + 1 else r

/-- The settings that class 06 shows for a channel. -/
def scalingNow (s : State) (u : Fin 16) : Scaling :=
  { mode := uModeL s u, source := s.p 1 0x06 u 0x07, char := s.p 1 0x06 u 0x08, cutoff := s.p 4 0x06 u 0x09,
    table := (List.range 33).map (fun k => toSigned 32 (s.pAt 4 0x06 u 0x0A (4 * k))),
    scale := s.pI 4 0x06 u 0x0B, offset := s.pI 4 0x06 u 0x0C }

/-- The settings for a sample with a timestamp (R78, R156): a commit's apply from the first sample at or after its apply instant. -/
def scalingAt (s : State) (u : Fin 16) (t : CellTime) : Scaling :=
  match (s.scales[u].filter (fun p => decide (t.toNat < p.1.toNat))).getLast? with
  | some p => p.2
  | none => scalingNow s u

/-- The characteristic of R75 to R77 on a Q2.30 value. -/
def charOf (k : Scaling) (x : Int) : Int :=
  match k.char with
  | 1 => if x < k.cutoff then 0 else sqrtRound (x.toNat * 2 ^ 30)
  | 2 =>
    let i := (max 0 (min 31 (x / 2 ^ 25))).toNat
    let t (n : Nat) : Int := k.table.getD n 0
    sat32 (t i + (t (i + 1) - t i) * (x - (i : Int) * 2 ^ 25) / 2 ^ 25)
  | _ => x

/-- The process value of a sample word (R73, R78). -/
def pvOf (k : Scaling) (w : Word) : Int :=
  if w.getLsbD 2 then 0x7FFFFFFF
  else if w.getLsbD 3 then -0x80000000
  else sat32 (k.offset + roundDiv (k.scale * charOf k (wordValue w * 256)) (2 ^ 30))

/-- The sample word with the mark of R49. -/
def markWord (w : Word) (unc : Bool) : Word := if unc then w ||| 0x80 else w

/-- The logic side takes one sample (R74, R103, R152, R158): class 06 shows it; a main sample writes the point, one with
SETTLING only clears its GOOD. -/
def State.takeSample (s : State) (x : Sample) : State :=
  let u := finU x.chan
  let k := scalingAt s u x.time
  let w := markWord x.word (recordUnc s x.time false)
  let phys := physOf k.mode w
  let pv := pvOf k w
  let s1 := ((s.setP 4 0x06 u 0x03 w.toNat).setPCt 0x06 u 0x04 x.time).setPI 4 0x06 u 0x05 phys
  let s2 := s1.setPI 4 0x06 u 0x06 pv
  if x.wide then s2
  else if w.getLsbD 1 then
    let old := underValue s2 u.val
    if old.2.getLsbD 0 then s2.ownPoint u.val old.1 (setBit8 old.2 0 false) else s2
  else
    let v := if k.source = 1 then pv else phys
    s2.ownPoint u.val v (quality (w.getLsbD 0) (w.getLsbD 2 || w.getLsbD 3) (w.getLsbD 4 || w.getLsbD 5) (w.getLsbD 7)
      (isOutMode k.mode && substRank (s.p 1 0x06 u 0x13)))

/-! ### Captures on the logic side (R24, R223, R225, R231) -/

/-- A capture arrives at its queue. -/
def State.queueCapture (s : State) (f : Fin 8) (r : EdgeRec) (unc latch : Bool) : State :=
  let q := s.captures[f]
  let full := decide (q.length ≥ 64)
  let drop := full && s.p 1 0x0C f 0x0C == 1
  if full && !drop then s.captureLost f
  else
    let e : Capture := { time := r.time, falling := r.falling, opened := r.opened, uncertain := unc, latch := latch,
                         lossBefore := drop || r.seq != s.f[f].storedSeq, inexact := r.inexact, seq := r.seq, value := r.value }
    let s1 := if drop then s.captureLost f else s
    let q1 := (if drop then q.drop 1 else q) ++ [e]
    let s2 := { s1 with captures := s1.captures.set f q1 }
    (s2.modF f (fun k => { k with storedSeq := r.seq + 1 })).ringAll 1

/-- A trigger of one bank goes to the counters of other banks that wait for it (R231). -/
def State.forwardTrigger (s : State) (b : Fin 4) (code : Nat) (t : CellTime) : State :=
  (triggerBanks s b code).foldl (fun x f => x.sendDown (bankOfF f) (.latch (fIn f) t false)) s

/-- The logic side takes one edge record of a bank (R24, R74, R222, R266). -/
def State.takeEdge (s : State) (b : Fin 4) (r : EdgeRec) : State :=
  let unc := recordUnc s r.time r.uncertain
  let q := quality (!r.opened) false r.opened unc false
  let v : Int := if r.falling then 0 else 1
  if r.source < 4 then
    let u := uOf b (fin4 r.source)
    let s1 := ((s.setPI 4 0x06 u 0x05 v).setPI 4 0x06 u 0x06 v).setPCt 0x06 u 0x18 r.time
    (s1.ownPoint u.val v q).forwardTrigger b ((if r.falling then 0x30 else 0x20) + u.val) r.time
  else
    let f := fOf b (if r.source % 2 = 0 then 0 else 1)
    if r.source < 6 then
      let s1 := if r.capture then s.queueCapture f r unc false else s
      let s2 := if s.p 1 0x0C f 0x1E = 0 then s1.ownPoint (0x18 + f.val) v q else s1
      s2.forwardTrigger b ((if r.falling then 0x11 else 0x01) + f.val) r.time
    else s.queueCapture f r unc true

/-- The records of a bank that wait for an EDGE cell. -/
def waitingEdges (s : State) (b : Fin 4) : List EdgeRec :=
  (bankU b).flatMap (fun u => s.u[u].records) ++ (bankF b).flatMap (fun f => s.f[f].records)

/-- Records in the order of their timestamps. -/
def insertEdge (r : EdgeRec) : List EdgeRec → List EdgeRec
  | [] => [r]
  | x :: t => if r.time.toNat < x.time.toNat then r :: x :: t else x :: insertEdge r t

/-- The records of the next EDGE cell: the earliest four, all within 2^32 ns of the first (R24, R224). -/
def nextEdges (s : State) (b : Fin 4) : List EdgeRec :=
  match (waitingEdges s b).foldl (fun acc r => insertEdge r acc) [] with
  | [] => []
  | r :: rest => (r :: rest.filter (fun x => decide (ctNs x.time - ctNs r.time < 2 ^ 32))).take 4

/-- A record leaves the store it waits in. -/
def State.dropEdge (s : State) (b : Fin 4) (r : EdgeRec) : State :=
  if r.source < 4 then
    (s.modU (uOf b (fin4 r.source)) (fun k => { k with records := k.records.erase r })).uLive (uOf b (fin4 r.source)) 9 false
  else s.modF (fOf b (if r.source % 2 = 0 then 0 else 1)) (fun k => { k with records := k.records.erase r })

/-- A bank forms an EDGE cell from the records that wait (R24). -/
def State.formEdge (s : State) (b : Fin 4) : State :=
  match nextEdges s b with
  | [] => s
  | r :: rs =>
    let base := ctNs r.time
    ((r :: rs).foldl (fun x r => x.dropEdge b r) s).sendUpExpress b (.edge base ((r :: rs).map (edgeWire base)))

end Sys2Proof.Machine
end

