-- ==== Sys2Proof/Machine/Refresh.lean ====
section
/-! DEFINITION. What the logic side takes from the STATUS, LSW, COUNT and CAL cells of a bank: the read-only attributes of the
channels and groups, and the points that follow a present state (R34, R103 to R106, R137 to R140, R165, R166, R197, R200, R205
to R209, R221, R238 to R240, R266). -/

namespace Sys2Proof.Machine

/-- Whether a figure that a cell carries lies in one of the classes of its cell type. -/
def figIn (classes : List Nat) (a : Nat × List Byte) : Bool :=
  classes.contains (a.1 / 2 ^ 36) && decide (a.1 % 2 ^ 36 + a.2.length ≤ 2 ^ 36)

/-- The logic side takes what a cell tells of its bank, in the classes of the cell's type. -/
def State.takeFigs (s : State) (classes : List Nat) (f : Figures) : State :=
  let s1 := (f.attrs.filter (figIn classes)).foldl (fun (x : State) a => { x with dict := cellsWriteL parReset x.dict a.1 a.2 }) s
  f.points.foldl (fun x p => x.statePoint p.handle p.value p.qual (recordUnc x p.time p.marked)) s1

/-! ### Universal channels, from a STATUS cell -/

/-- An analogue channel that is settling keeps the value of its point and loses GOOD (R158). -/
def State.settlingPoint (s : State) (u : Fin 16) : State :=
  if isAnalogue (uModeL s u) && natBit (s.p 2 0x06 u 0x02) 8 then
    let old := underValue s u.val
    if old.2.getLsbD 0 then s.ownPoint u.val old.1 (setBit8 old.2 0 false) else s
  else s

/-- Whether a decimator-sync marker for a channel is on its way to the bank. -/
def syncInFlight (s : State) (u : Fin 16) : Bool :=
  let b := bankOfU u
  let hit (c : DownCell) : Bool := match c with | .cfgSync m _ _ => m.getLsbD (uIn u).val | _ => false
  (s.down[b]).queued.any hit || (s.down[b]).unacked.any (fun x => hit x.2.2)

/-- SYNC_STATE and its instant from a STATUS cell, unless a marker is on its way; it reads 2 while the last request was refused
(R161, R165). An executed request is none that is pending (R163). -/
def State.takeSyncState (s : State) (u : Fin 16) (c : Nat × Option Nat) : State :=
  if syncInFlight s u then s
  else
    let s1 := if c.1 = 0 then s.modU u (fun k => { k with chain := { k.chain with syncRequest := none } }) else s
    (s1.setP 1 0x08 u 0x10 (if s.u[u].chain.syncRefused then 2 else c.1)).setPCt 0x08 u 0x11
      (match c.2 with | some a => BitVec.ofNat 72 (perTime a) | none => 0)

/-! ### Groups, from STATUS and LSW cells -/

/-- The source in effect of a group, as its first present member bank gave it last. -/
def gRank (s : State) (g : Fin 4) : Nat :=
  match (groupBanks s g).find? (bankPresent s) with
  | some b => s.links[b].ranks.getD g.val 0
  | none => 0

/-- The point and the ACTIVE_SOURCE of a group (R207, R266). -/
def State.refreshG (s : State) (g : Fin 4) : State :=
  if membersOf s g = 0 then s
  else
    let absent := (groupBanks s g).any (fun b => !bankPresent s b)
    let s1 := s.setP 1 0x0B g 0x04 (gRank s g)
    s1.statePoint (0x20 + g.val) (if gBit s g 0 then 1 else 0)
      (quality (!(gBit s g 7 || gBit s g 2 || absent)) false (gBit s g 9) false (substRank (gRank s g)))
      (recordUnc s (now s) false)

/-- The mirror current of a load switch as its last LSW cell carried it. -/
def lswCurrent (s : State) (l : Fin 8) : Int := s.pI 8 0x0A l 0x17

/-- GROUP_CURRENT, SHARE and IMBALANCE (0.1 %) of a group (R197, R207). -/
def State.refreshShare (s : State) (g : Fin 4) : State :=
  let act := activeMembers s g
  let sum := (allLs.filter (fun l => natBit (membersOf s g) l.val)).foldl (fun (a : Int) l => a + lswCurrent s l) 0
  let sh : Int := if act = [] then 0 else sum / act.length
  let dev := act.foldl (fun (m : Nat) l => max m (lswCurrent s l - sh).natAbs) 0
  let imb := if gBit s g 0 ∧ sh ≠ 0 then min 0xFFFF (dev * 1000 / sh.natAbs) else 0
  ((s.setPI 8 0x0B g 0x16 sum).setPI 8 0x0B g 0x17 sh).setP 2 0x0B g 0x19 imb

/-- What the member banks of a group told of it in their last LSW cells. -/
def groupFigs (s : State) (g : Fin 4) : List GroupFig :=
  (groupBanks s g).flatMap (fun b => s.links[b].groups.filter (fun f => f.group == g))

/-- The earliest limit entry that the member banks reported last (R200). -/
def limitEntryOf (s : State) (g : Fin 4) : Option CellTime :=
  (groupFigs s g).foldl (fun (m : Option CellTime) f =>
    match m, f.limit with
    | some x, some y => some (if y.toNat < x.toNat then y else x)
    | none, y => y
    | x, none => x) none

/-- STATUS and DIAG of a group (R208): the bits of its banks, and those that the logic side decides itself. -/
def State.groupStatus (s : State) (g : Fin 4) : State :=
  let figs := groupFigs s g
  let own (v : Nat) : BitVec 16 := BitVec.ofNat 16 v &&& 0x330
  let st := figs.foldl (fun (v : BitVec 16) f => v ||| f.status) (own (s.p 2 0x0B g 0x02))
  let dg := figs.foldl (fun (v : BitVec 16) f => v ||| f.diag) (own (s.p 2 0x0B g 0x11))
  (s.setP 2 0x0B g 0x02 st.toNat).setP 2 0x0B g 0x11 dg.toNat

/-- Whether a STATUS bit of a member is set as its last LSW cell carried it. -/
def memberBit (s : State) (i : Nat) (l : Fin 8) : Bool := natBit (s.p 2 0x0A l 0x02) i

/-- The members of a group that its banks exclude, as a mask. -/
def excludedTold (s : State) (g : Fin 4) : Nat :=
  (allLs.filter (fun l => natBit (membersOf s g) l.val && memberBit s 11 l)).foldl (fun (n : Nat) (l : Fin 8) => n + 2 ^ l.val) 0

/-- The members of a group that its banks last told to be at full gate drive, as a mask (R197). -/
def fullTold (s : State) (g : Fin 4) : Nat :=
  ((activeMembers s g).filter (fun (l : Fin 8) => s.p 1 0x0A l 0x22 == 63)).foldl (fun (n : Nat) (l : Fin 8) => n + 2 ^ l.val) 0

/-- The share of a cross-bank group goes to its member banks (R197, R199). -/
def State.sendShareOf (s : State) (g : Fin 4) : State :=
  let c : DownCell := .share g (s.pI 8 0x0B g 0x17) (BitVec.ofNat 8 (s.p 1 0x0B g 0x14)) (BitVec.ofNat 8 (fullTold s g))
  if isCross s g then (groupBanks s g).foldl (fun x b => x.sendDown b c) s else s

/-- The trip instant of an overload goes to the member banks, once; a group that has tripped has none (R200). -/
def State.sendTripInstant (s : State) (g : Fin 4) : State :=
  let set_ := s.pBytes 9 0x0B g 0x1A 0 != List.replicate 9 0
  if gBit s g 7 then (if set_ then s.setBytes 0x0B g 0x1A 0 (List.replicate 9 0) else s)
  else match limitEntryOf s g with
    | none => s
    | some t =>
      if set_ then s
      else
        let at_ := ctAddNs t (s.p 4 0x0B g 0x07 * 1000)
        (groupBanks s g).foldl (fun (x : State) b => x.sendDown b (.trip g (some at_))) (s.setPCt 0x0B g 0x1A at_)

/-- The clamp lock of an active member holds a cross-bank group off in its other banks too (R203). -/
def State.sendLock (s : State) (g : Fin 4) : State :=
  let on := isCross s g && (activeMembers s g).any (memberBit s 7)
  if on = s.coppice[g].locked then s else (s.modSide g (fun k => { k with locked := on })).sendHold g (.locked on) none

/-- The group's thermal latch, which stands in its members: the clear of the last ends LSW-03 and sets RESTART_COUNT to 0, as 1 s on
does (R171, R182, R202). -/
def State.latchTold (s : State) (g : Fin 4) : State :=
  let seen := (allLs.filter (fun l => natBit (membersOf s g) l.val)).any (memberBit s 5)
  let k := s.coppice[g]
  if k.latch = 1 ∧ seen then s.modSide g (fun k => { k with latch := 2 })
  else if k.latch = 2 ∧ !seen then
    (((s.modSide g (fun k => { k with latch := 0 })).setP 1 0x0B g 0x18 0).endFault (ident .lsw 3) 4 g)
  else if !k.hot && (groupFigs s g).any (fun f => f.calm) then s.setP 1 0x0B g 0x18 0
  else s

/-- What an LSW cell gives a group (R197, R199, R200, R203, R208). -/
def State.lswGroup (s : State) (g : Fin 4) : State :=
  let s1 := ((s.groupStatus g).memberMasks g (excludedTold s g)).refreshShare g
  ((((s1.sendShareOf g).sendTripInstant g).sendLock g).latchTold g).refreshG g

/-- What a FAULT cell tells of a group besides its event: the members excluded with LSW-10, upon which the group is re-rated and one
with no active member left across its banks trips (R198 to R200); and a thermal shutdown (R202). -/
def State.noteFault (s : State) (e : Raise) (note : BitVec 8) : State :=
  let g := fin4 e.obj.index
  if e.ends ∨ e.obj.kind ≠ 4 ∨ membersOf s g = 0 then s
  else if e.ident = ident .lsw 10 then
    let s1 := (s.memberMasks g ((BitVec.ofNat 8 (s.p 1 0x0B g 0x15)) ||| note).toNat).refreshShare g
    let s2 := (s1.sendShareOf g).sendTripInstant g
    if s2.p 1 0x0B g 0x14 = 0 ∧ isCross s2 g ∧ gBit s2 g 7 = false then
      (s2.sendHold g (.trip true) none).raise (ident .lsw 11) 4 g
    else s2
  else if e.ident = ident .lsw 2 then s.modSide g (fun k => { k with shutdown := some (note.getLsbD 0) })
  else s

/-! ### Fast inputs, from STATUS and COUNT cells -/

/-- STATUS of a fast input as the logic side shows it: QUEUE_OVERFLOW while its queue is full (R239). -/
def fShown (s : State) (f : Fin 8) (st : BitVec 16) : BitVec 16 := setBit16 st 3 (decide ((s.captures[f]).length ≥ 64))

/-- The value of a fast input's point (R238) from what a COUNT cell carries. -/
def fPointValue (s : State) (f : Fin 8) (c : CountFig) : Int :=
  match s.p 1 0x0C f 0x1E with
  | 1 => c.counter.toInt
  | 2 => toSigned 32 c.freq
  | 3 => c.latch.toInt
  | _ => if c.status.getLsbD 0 then 1 else 0

/-- The point of a fast input from a cell of its bank (R239, R266). -/
def State.fastPoint (s : State) (f : Fin 8) (v : Int) (st : BitVec 16) (t : CellTime) (marked : Bool) : State :=
  s.statePoint (0x18 + f.val) v (quality (!st.getLsbD 1) false (st.getLsbD 1) false false) (recordUnc s t marked)

/-- The present state of a fast input from a STATUS cell (R23, R266). -/
def State.takeFast (s : State) (f : Fin 8) (st : BitVec 16) (t : CellTime) (marked : Bool) : State :=
  if s.p 1 0x0C f 0x1E = 0 then s.fastPoint f (if st.getLsbD 0 then 1 else 0) st t marked else s

/-- The logic side takes what a COUNT cell carries of one fast input (R221, R238). -/
def State.takeCountFig (s : State) (f : Fin 8) (c : CountFig) : State :=
  let s1 := s.takeFigs [0x0C] { attrs := c.attrs ++ [fig 2 0x0C f 0x02 (fShown s f c.status).toNat], points := [] }
  s1.fastPoint f (fPointValue s1 f c) c.status c.time c.marked

/-- The logic side takes a COUNT cell. -/
def State.takeCount (s : State) (b : Fin 4) (cs : List CountFig) : State :=
  (List.zip (bankF b) cs).foldl (fun x p => x.takeCountFig p.1 p.2) s

/-! ### The whole bank -/

/-- The groups with a member in a bank. -/
def groupsIn (s : State) (b : Fin 4) : List (Fin 4) := allGroups.filter (fun g => (groupBanks s g).contains b)

/-- DFC_STATE from what a STATUS cell carries of the chains, and SYNC_STATE (R166). -/
def dfcWord (s : State) (b : Fin 4) (chains : List (Nat × Bool × Bool)) : Word :=
  let one (v : Bool) : Nat := if v then 1 else 0
  BitVec.ofNat 32 ((List.zip (bankU b) chains).foldl (fun (n : Nat) p =>
    let i := (uIn p.1).val
    let st := s.p 1 0x08 p.1 0x10
    n + p.2.1 * 4 ^ i + one p.2.2.2 * 2 ^ (16 + i) + one p.2.2.1 * 2 ^ (20 + i) + one (st == 1) * 2 ^ (24 + i) +
      one (st == 2) * 2 ^ (28 + i)) 0)

/-- What a STATUS cell refreshes of a present bank. -/
def State.refreshBank (s : State) (b : Fin 4) (c : StatusCell) : State :=
  let s1 := (s.modLink b (fun l => { l with rotState := c.rotState, ranks := c.ranks })).takeFigs [4, 5, 6, 7, 8, 9, 0x0A, 0x1B] c.figs
  let s2 := (List.zip (bankU b) c.syncs).foldl (fun x p => (x.takeSyncState p.1 p.2).settlingPoint p.1) s1
  let s3 := (List.zip (bankF b) c.fast).foldl (fun x p => x.takeFast p.1 p.2 c.time c.marked)
    (s2.modLink b (fun l => { l with dfcState := dfcWord s2 b c.chains }))
  (groupsIn s b).foldl (fun x g => x.refreshG g) s3

/-- The logic side takes an LSW cell (R209). -/
def State.takeLsw (s : State) (b : Fin 4) (f : Figures) (groups : List GroupFig) : State :=
  let s1 := (bankL b).foldl (fun x l => x.setP 1 0x0A l 0x1F (match lGroupL x l with | some g => g.val | none => 0xFF))
    ((s.modLink b (fun k => { k with groups := groups, lswSeen := true })).takeFigs [0x0A] f)
  (groupsIn s b).foldl (fun x g => x.lswGroup g) s1

end Sys2Proof.Machine
end

