-- ==== Sys2Proof/Machine/LinkTurn.lean ====
section
/-! DEFINITION. The slots of the bank links: which cell the next slot carries, and what the arrival of the cell in the slot in
progress brings (R21 to R27, R56, R60). -/

namespace Sys2Proof.Machine

/-! ### The next slot (R21, R25) -/

/-- The SYNC cell that leaves now (R56, R60): the phase mark is the next whole second. -/
def syncCell (s : State) (b : Fin 4) (start : Bool) : SyncCell :=
  let sec := nsUnits 1000000000
  { sent := s.tb.counter, left := s.tb.mono, steps := s.tb.steps, state := s.tb.state, uncertain := s.tb.uncertain,
    mark := BitVec.ofNat 72 (((now s).toNat / sec + 1) * sec), delay := s.links[b].delay, start := start }

/-- The next slot from the logic side to a bank begins; a SYNC cell that leaves returns the link delay (R57) and counts
towards an arrival (R560). -/
def State.turnDown (s : State) (b : Fin 4) : State :=
  let d := s.down[b]
  let k := slotKind d (!d.express.isEmpty)
  let s1 := s.modDown b (linkTurn k (syncCell s b false) s.tb.mono ((s.up[b]).rxSeq - 1))
  if k = .frame then
    (s1.modLink b (fun l => { l with delay := none, syncsSince := min 64 (l.syncsSince + 1) })).sendArrival b
  else s1

/-- The bits of STATUS that last 10 ms end (R219, R239). -/
def State.endTimedBits (s : State) (f : Fin 8) : State :=
  let clock := bankNow (s.banks[bankOfF f])
  let over_ (t : Option CellTime) : Bool := t.any (fun x => reached (ctAddNs x 10000000) clock)
  let s1 := if over_ s.f[f].wrapAt then (s.fFlag f 6 false).modF f (fun k => { k with wrapAt := none }) else s
  if over_ s.f[f].quadAt then (s1.fFlag f 4 false).modF f (fun k => { k with quadAt := none }) else s1

/-- The samples of one channel that one SAMPLE cell carries: of one kind, at most 11 (R23). -/
def sampleRun (l : List Sample) : List Sample :=
  match l with
  | [] => []
  | x :: rest => (x :: rest.takeWhile (fun y => y.wide == x.wide)).take 11

/-- A bank with no other ordinary cell to send forms one: the COUNT and LSW cells that its link frame still owes (R209, R221),
then a SAMPLE cell of the first of its channels with samples. -/
def State.formOrdinary (s : State) (b : Fin 4) : State :=
  let k := s.banks[b]
  if k.countDue then
    let s1 := (bankF b).foldl (fun x f => x.endTimedBits f) (s.modBank b (fun k => { k with countDue := false }))
    s1.sendUp b (countCell s1 b)
  else if k.lswDue then (s.modBank b (fun k => { k with lswDue := false })).sendUp b (lswCell s b)
  else
    match (bankU b).find? (fun u => !s.u[u].samples.isEmpty) with
    | none => s
    | some u =>
      let run := sampleRun s.u[u].samples
      (s.modU u (fun k => { k with samples := k.samples.drop run.length })).sendUp b (.sample run)

/-- The next slot from a bank to the logic side begins; slot 0 begins a link frame, which owes one COUNT and one LSW cell. -/
def State.turnUp (s : State) (b : Fin 4) : State :=
  let d := s.up[b]
  let k := slotKind d (!d.express.isEmpty || !(waitingEdges s b).isEmpty)
  let s0 := if d.slot = 7 then s.modBank b (fun k => { k with countDue := true, lswDue := true }) else s
  let s1 := match k with
    | .express => if d.express.isEmpty then s0.formEdge b else s0
    | .ordinary => if d.again.isEmpty ∧ d.queued.isEmpty ∧ d.unacked.length < 32 then s0.formOrdinary b else s0
    | .frame => s0
    | .copy => s0
  let s2 := s1.modUp b (linkTurn k (statusCell s1 b) s.tb.mono ((s.down[b]).rxSeq - 1))
  if k = .frame then s2.modBank b (fun k => { k with trip := none }) else s2

/-! ### The cell in the slot in progress arrives (R22, R23, R25, R26) -/

/-- An ordinary or express cell to a bank arrives, if it is of the wanted kind. It is discarded and counted where it is bad; an
ordinary cell is taken in order only, an express cell at its first good copy. -/
def State.takeDown (s : State) (b : Fin 4) (hit : Noise) (want : DownCell → Bool) (act : State → DownCell → State) : State :=
  let d := s.down[b]
  match d.line with
  | .ord q c =>
    if bankHears s b && want c then
      (if cellCheck (downBytes d) hit = .good then
        let s1 := s.goodDown b
        if q = d.rxSeq then act (s1.modDown b (fun d => { d with rxSeq := d.rxSeq + 1 })) c else s1
      else s.linkError b).turnDown b
    else s
  | .exp q _ c =>
    if bankHears s b && want c then
      (if cellCheck (downBytes d) hit = .good then
        let s1 := s.goodDown b
        if d.lastExp = some q then s1 else act (s1.modDown b (fun d => { d with lastExp := some q })) c
      else s.linkError b).turnDown b
    else s
  | _ => s

/-- The same for the line from a bank. -/
def State.takeUp (s : State) (b : Fin 4) (hit : Noise) (want : UpCell → Bool) (act : State → UpCell → State) : State :=
  let d := s.up[b]
  match d.line with
  | .ord q c =>
    if s.links[b].started && want c then
      (if cellCheck (upBytes d) hit = .good then
        let s1 := s.goodUp b
        if q = d.rxSeq then act (s1.modUp b (fun d => { d with rxSeq := d.rxSeq + 1 })) c else s1
      else s.linkError b).turnUp b
    else s
  | .exp q _ c =>
    if s.links[b].started && want c then
      (if cellCheck (upBytes d) hit = .good then
        let s1 := s.goodUp b
        if d.lastExp = some q then s1 else act (s1.modUp b (fun d => { d with lastExp := some q })) c
      else s.linkError b).turnUp b
    else s
  | _ => s

end Sys2Proof.Machine
end

