-- ==== Sys2Proof/Machine/Link.lean ====
section
/-! DEFINITION. The meanings of the bank-link rows (R21 to R29, R56 to R61, R79, R626 to R629). -/

namespace Sys2Proof.Machine

/-! ### Link start and SYNC (R56 to R61, R626) -/

/-- R318, R550, R626: the logic side starts a bank link, 110 ms after the start of the reset and once Firebreak is armed: its own
SEQ counters are 0, it takes the next ordinary cell of the bank in order at SEQ 0, and its first cell is the link-start SYNC. -/
def execLinkStart (b : Fin 4) (s : State) : Host.Outcome State Fault Refusal :=
  if s.sup.reset.isNone ∧ s.sup.phase ≥ 4 ∧ s.links[b].started = false ∧ elapsed s s.sup.resetAt 110000000 then
    let s1 := s.modUp b (fun d => { d with rxSeq := 0, lastExp := none })
    let s2 := s1.modDown b (fun d => linkTurn .frame (syncCell s b true) s.tb.mono 0xFF
      { linkReset with rxSeq := d.rxSeq, lastExp := d.lastExp })
    let s3 := s2.modLink b (fun l => { l with started := true, delay := none, lastRx := s.tb.mono })
    .next { s3 with sup := { s3.sup with
      linksStarted := true, bootLog := if s.sup.linksStarted then s.sup.bootLog
        else s.sup.bootLog ++ [(0x18, 1, BitVec.ofNat 32 ((s.tb.mono - s.sup.since).toNat / (2 ^ 32 * 1000)))] } }
  else .next s

/-- What a bank throws away at a link start (R626). It drops a CFG share and a commit marker that wait too, which R626 does not
name (DESIGN CHOICE, assumption log 32). -/
def State.linkStarted (s : State) (b : Fin 4) : State :=
  let s1 := s.modUp b (fun d => { d with
    ordSeq := 0, expSeq := 0, queued := [], express := [], copy := none, unacked := [], again := [] })
  let s2 := (s1.modDown b (fun d => { d with rxSeq := 0, lastExp := none })).modBank b (fun k => { k with
    shareBuf := [], shareMark := none })
  let s3 := (bankU b).foldl (fun x u => (x.modU u (fun k => { k with records := [], samples := [] })).uLive u 9 false) s2
  (bankF b).foldl (fun x f => x.modF f (fun k => { k with records := [] })) s3

/-- Picoseconds as a difference of 96-bit counters, in 2^-32 ns. -/
def psCount (ps : Int) : BitVec 96 := BitVec.ofInt 96 (ps * 2 ^ 32 / 1000)

/-- The difference a − b of two 96-bit counters in ps. -/
def countPs (a b : BitVec 96) : Int := roundDiv ((a - b).toInt * 1000) (2 ^ 32)

/-- The MCLK period in 1/768 ns: 15,625/96 ns (R60). -/
def mclkPeriod : Int := 125000

/-- A phase error brought to the nearer alignment: at most half a period (R61). -/
def nearPhase (e : Int) : Int := (e + mclkPeriod / 2) % mclkPeriod - mclkPeriod / 2

/-- What is left of a bank's MCLK phase error: it slews at 100 ppm towards 0 (R61). -/
def phaseLeft (k : Bank) (mono : BitVec 96) : Int :=
  let done : Int := ((mono - k.mclkAt).toNat * 768 / (2 ^ 32 * 10000) : Nat)
  if 0 ≤ k.mclkErr then max 0 (k.mclkErr - done) else min 0 (k.mclkErr + done)

/-- The MCLK phase of a bank is off by a new amount from an instant of its copy (R61): the samples stamped while more than 2 ns
are left are marked; the mark of an earlier re-phasing ends here. -/
def rephased (k : Bank) (e : Int) (mono : BitVec 96) (old new : CellTime) : Bank :=
  let over_ : Nat := e.natAbs - 1536
  let cut := k.rephase.past.map (fun p => (p.1, if old.toNat < p.2.toNat then old else p.2))
  let past := if over_ = 0 then cut else (new, new + BitVec.ofNat 72 (over_ * 10000 / 3 + 1)) :: cut
  { k with mclkErr := e, mclkAt := mono, rephase := { past := past, since := none } }

/-- A valid SYNC cell acts on a bank (R56 to R61, R249, R252). The bank stamps the arrival in its copy, `flight` ps after the
cell left, applies a step first, adds the link delay and steers the difference away; from the 64th SYNC cell after the first,
and after the 64th that follows a gap, its copy lies within ±0.5 ns. Where the cell returns no delay the bank keeps the last. -/
def State.takeSync (s : State) (b : Fin 4) (c : SyncCell) (flight : Nat) : State :=
  let (free, s0) := s.draw
  let k := s.banks[b]
  let ago := s.tb.mono - c.left
  let base := c.sent - c.left
  let stepped := k.everSync && c.steps != k.stepSeen
  let copy1 := if stepped then k.copy + (base - k.stepBase) else k.copy
  let t2 := copy1 - ago + psCount flight
  let delay := c.delay.getD k.linkDelay
  let n := if k.everSync then k.syncs + 1 else 0
  let locked := k.lock || decide (n ≥ 64)
  let e : Int := if locked then max (-500) (min 500 (delay - flight)) else delay - flight
  let copy2 := c.sent + ago + psCount e
  let told := ctOf c.sent
  let unc := k.unc.stepped (ctOf k.copy) (ctOf copy1)
  let due := !k.everSync || k.tripAt.any (fun t => decide (1000000000 * 2 ^ 32 ≤ (s.tb.mono - t).toNat))
  let k1 : Bank := { k with
    copy := copy2, syncs := min n 64, lock := locked, lockedOnce := k.lockedOnce || locked, everSync := true,
    lastSync := c.left + psCount flight, timeState := c.state, devUncertain := c.uncertain,
    unc := if c.uncertain then unc.start told else unc.finish told,
    unlocked := if locked then k.unlocked.finish (ctOf copy2) else k.unlocked.stepped (ctOf k.copy) (ctOf copy1),
    phaseMark := c.mark, linkDelay := delay, align := countPs (c.sent + psCount delay) t2, stepSeen := c.steps,
    stepBase := base, trip := if due then some (c.sent, t2) else k.trip, tripAt := if due then some s.tb.mono else k.tripAt,
    slotEnd := if stepped ∧ k.slotPer ≠ 0 then min k.slotEnd (((ctOf copy2).toNat / k.slotPer + 1) * k.slotPer) else k.slotEnd,
    pulses := if stepped then k.pulses.map (fun p => (p.1, p.2 + (ctOf copy1 - ctOf k.copy))) else k.pulses }
  let moved : Int := (base - k.stepBase).toInt * 3 / 2 ^ 24
  let k2 := if !k.everSync then rephased k1 (nearPhase free) s.tb.mono (ctOf k.copy) (ctOf copy2)
    else if stepped then rephased k1 (nearPhase (phaseLeft k s.tb.mono + moved)) s.tb.mono (ctOf k.copy) (ctOf copy2)
    else k1
  let s1 := s0.modBank b (fun _ => k2)
  if stepped then
    let t := ctOf copy2
    ((bankF b).foldl (fun x f => (x.modF f (fun k => { k with
      stepped := true, gateAt := t, lastGrid := t })).countStep f t .step) s1).entriesAndShare b true
  else s1

/-- The SYNC cell in the slot in progress arrives: taken where it is good, discarded and counted where it is not. -/
def State.syncArrives (s : State) (b : Fin 4) (hit : Noise) (flight : Nat) (c : SyncCell) : State :=
  (if cellCheck (downBytes s.down[b]) hit = .good then
    let s1 := s.goodDown b
    (if c.start then s1.linkStarted b else s1).takeSync b c flight
  else s.linkError b).turnDown b

/-- R626: a bank receives the link-start SYNC cell. -/
def execLinkStartSyncReceived (b : Fin 4) (a : Arrival) (s : State) : Host.Outcome State Fault Refusal :=
  match (s.down[b]).line with
  | .frame c => .next (if c.start && bankHears s b then s.syncArrives b a.hit a.flight c else s)
  | _ => .next s

/-- R56: a bank receives a SYNC cell. -/
def execSyncCellReceived (b : Fin 4) (hit : Noise) (flight : Nat) (s : State) : Host.Outcome State Fault Refusal :=
  match (s.down[b]).line with
  | .frame c => .next (if !c.start && bankHears s b then s.syncArrives b hit flight c else s)
  | _ => .next s

/-- R59: no valid SYNC for 4 link frames: the copy counts as unlocked, and what is stamped more than 51.2 µs after the last
valid SYNC is marked until it locks again. -/
def execBankSyncGap (b : Fin 4) (s : State) : Host.Outcome State Fault Refusal :=
  let k := s.banks[b]
  if k.powered ∧ k.everSync ∧ elapsed s k.lastSync 51200 then
    let from_ := ctOf (k.copy - (s.tb.mono - k.lastSync) + BitVec.ofNat 96 (51200 * 2 ^ 32)) + 1
    let s1 := s.modBank b (fun k => { k with syncs := 0, lock := false, unlocked := k.unlocked.start from_ })
    .next (if k.lock && bankPresent s b then s1.tbEvent 3 else s1)
  else .next s

/-- R61: the bank has finished slewing MCLK. -/
def execMclkRephaseEnd (b : Fin 4) (s : State) : Host.Outcome State Fault Refusal :=
  if phaseLeft (s.banks[b]) s.tb.mono = 0 then .next (s.modBank b (fun k => { k with mclkErr := 0 })) else .next s

/-! ### STATUS and IDLE (R27, R57, R266, R417) -/

/-- The bank's state after a valid STATUS cell (R417), with what entering and leaving the states brings. -/
def State.statusState (s : State) (b : Fin 4) (c : StatusCell) : State :=
  let st := bankState s b
  let back (x : State) : State := if st = 4 then x.endFault (ident .bkc 1) 1 b else x
  if c.vfLoss then
    (if st = 0 then s else s.goAbsent b).modBank b (fun k => { k with vfLossFlag := false, reporting := false })
  else if st = 0 ∨ (st = 4 ∧ c.starting) then
    ((if st = 4 then (back s).endFault (ident .bkc 2) 1 b else s)).enterStarting b c.starting
  else if (st = 2 ∨ st = 4) ∧ c.autonomous then
    let s1 := (((back s).setBankState b 3).orP 0x05 b 0x0D 4).orP 0x10 0 0x0F 2
    if isActive s (ident .bkc 2) { kind := 1, index := b.val } then s1 else s1.raise (ident .bkc 2) 1 b
  else if st = 4 then ((back s).setBankState b 2).endFault (ident .bkc 2) 1 b
  else if st = 3 ∧ c.autonomous = false then
    ((s.setBankState b 2).endFault (ident .bkc 2) 1 b).modFb (fun f => { f with clearPending := f.clearPending.set b false })
  else s

/-- The link delay in ps that a round trip gives: half of (t4 − t1) − (t3 − t2), with the asymmetry fused for the bank (R57).
The time base stamps the arrival t4 `flight` ps after the STATUS cell left. -/
def roundTrip (s : State) (b : Fin 4) (c : StatusCell) (flight : Nat) : Option Int :=
  c.trip.map (fun t =>
    let t4 := s.tb.counter - (s.tb.mono - c.left) + psCount flight
    roundDiv (countPs t4 t.1 - countPs t.2.2 t.2.1) 2 + Config.linkAsymmetry b)

/-- The logic side takes a STATUS cell: VF_x in mV, and the link delay that the next SYNC cell returns (R57). -/
def State.takeStatus (s : State) (b : Fin 4) (c : StatusCell) (vf flight : Nat) : State :=
  let s1 := s.modLink b (fun l => { l with delay := (roundTrip s b c flight).orElse (fun _ => l.delay) })
  let s2 := (s1.setP 4 0x05 b 0x03 vf).setPCt 0x05 b 0x09 (now s)
  let s3 := s2.modFb (fun f => { f with statusRun := f.statusRun.set b (min 64 (f.statusRun[b] + 1)) })
  let s4 := s3.statusState b c
  if bankPresent s4 b then s4.refreshBank b c else s4

/-- R266: the logic side receives a STATUS cell. -/
def execStatusCellReceived (b : Fin 4) (hit : Noise) (vf flight : Nat) (s : State) : Host.Outcome State Fault Refusal :=
  match (s.up[b]).line with
  | .frame c =>
    if s.links[b].started ∧ (s.banks[b]).reporting then
      .next ((if cellCheck (upBytes s.up[b]) hit = .good then (s.goodUp b).takeStatus b c vf flight
        else (s.linkError b).modFb (fun f => { f with statusRun := f.statusRun.set b 0 })).turnUp b)
    else .next s
  | _ => .next s

/-- R27: an IDLE cell carries ACK and restarts the silence timer. -/
def execIdleCellReceived (b : Fin 4) (up : Bool) (hit : Noise) (s : State) : Host.Outcome State Fault Refusal :=
  if up then
    if (s.up[b]).line = .idle ∧ s.links[b].started ∧ (s.banks[b]).reporting then
      .next ((if cellCheck (upBytes s.up[b]) hit = .good then s.goodUp b else s.linkError b).turnUp b)
    else .next s
  else if (s.down[b]).line = .idle ∧ bankHears s b then
    .next ((if cellCheck (downBytes s.down[b]) hit = .good then s.goodDown b else s.linkError b).turnDown b)
  else .next s

/-! ### Silence and resending (R26 to R28) -/

/-- Whether the oldest unacknowledged cell of a direction was sent 2 link frames, 25.6 µs, ago (R26). -/
def resendDue {π σ : Type} (s : State) (d : LinkDir π σ) : Bool :=
  match d.unacked with
  | [] => false
  | u :: _ => elapsed s u.2.1 25600 && d.again.isEmpty

/-- R26: the sender sends every unacknowledged ordinary cell again. -/
def execCellResendTimeout (b : Fin 4) (up : Bool) (s : State) : Host.Outcome State Fault Refusal :=
  if up then
    if resendDue s (s.up[b]) then .next ((s.modUp b linkResend).inc 4 0x05 b 0x06) else .next s
  else if resendDue s (s.down[b]) then .next ((s.modDown b linkResend).inc 4 0x05 b 0x06)
  else .next s

/-- R27, R317: the bank's own silence timer runs out: its autonomous safe state. The timeout is the one the bank holds. -/
def execLinkSilenceTimeout (b : Fin 4) (s : State) : Host.Outcome State Fault Refusal :=
  let k := s.banks[b]
  let limit := leNat (s.bBytes b 4 0x10 0 0x05 (4 * b)) * 1000
  if k.powered ∧ k.arrived ∧ k.autonomous = false ∧ elapsed s k.lastGood limit then .next (s.setAutonomous b true)
  else .next s

/-- LINK_TIMEOUT of a bank in ns (R317). -/
def linkTimeout (s : State) (b : Fin 4) : Nat := s.pAt 4 0x10 0 0x05 (4 * b) * 1000

/-- R28: the logic side's silence timer of a bank runs out. -/
def execLogicSilenceTimeout (b : Fin 4) (s : State) : Host.Outcome State Fault Refusal :=
  let st := bankState s b
  if 1 ≤ st ∧ st ≤ 3 ∧ elapsed s s.links[b].lastRx (linkTimeout s b) then .next (s.goSilent b) else .next s

/-! ### From the bank: SAMPLE, EDGE, COUNT, LSW, FAULT, SHARE, OUTCOME -/

/-- R23, R74: a SAMPLE cell. -/
def execSampleCellReceived (b : Fin 4) (hit : Noise) (s : State) : Host.Outcome State Fault Refusal :=
  .next (s.takeUp b hit (fun c => match c with | .sample _ => true | _ => false) (fun x c => match c with
    | .sample ss => ss.foldl (fun y p => y.takeSample p) x
    | _ => x))

/-- R24: an EDGE cell. -/
def execEdgeCellReceived (b : Fin 4) (hit : Noise) (s : State) : Host.Outcome State Fault Refusal :=
  .next (s.takeUp b hit (fun c => match c with | .edge _ _ => true | _ => false) (fun x c => match c with
    | .edge base rs => rs.foldl (fun y r => y.takeEdge b (edgeBack base r)) x
    | _ => x))

/-- R221: a COUNT cell, which the bank sends every link frame. -/
def execCountCellReceived (b : Fin 4) (hit : Noise) (s : State) : Host.Outcome State Fault Refusal :=
  .next (s.takeUp b hit (fun c => match c with | .count _ => true | _ => false) (fun x c => match c with
    | .count cs => x.takeCount b cs
    | _ => x))

/-- R209: an LSW cell, which the bank sends every link frame. -/
def execLswCellReceived (b : Fin 4) (hit : Noise) (s : State) : Host.Outcome State Fault Refusal :=
  .next (s.takeUp b hit (fun c => match c with | .lsw _ _ => true | _ => false) (fun x c => match c with
    | .lsw f limits => x.takeLsw b f limits
    | _ => x))

/-- R307: an express FAULT cell. -/
def execFaultCellReceived (b : Fin 4) (hit : Noise) (s : State) : Host.Outcome State Fault Refusal :=
  .next (s.takeUp b hit (fun c => match c with | .fault _ _ => true | _ => false) (fun x c => match c with
    | .fault e note => (x.pushRaise e).noteFault e note
    | _ => x))

/-- R404: a share report; the report of an arrival makes the bank RUNNING. -/
def execShareReportReceived (b : Fin 4) (hit : Noise) (s : State) : Host.Outcome State Fault Refusal :=
  .next (s.takeUp b hit (fun c => match c with | .share _ _ _ => true | _ => false) (fun x c => match c with
    | .share a _ late => if x.links[b].arrivalAt = some a then x.arrived b else x.shareReport b a late
    | _ => x))

/-- R245, R256: an outcome report or a cancel report. -/
def execOutcomeReportReceived (b : Fin 4) (hit : Noise) (s : State) : Host.Outcome State Fault Refusal :=
  .next (s.takeUp b hit (fun c => match c with | .outcome .. => true | .cancelled .. => true | _ => false)
    (fun x c => match c with
      | .outcome h code lag t unc frees => x.recordOutcome b h code lag t (recordUnc x t unc) frees
      | .cancelled what n m hs => if what = 0 then x else x.cancelReport b n m hs x.tb.uncertain
      | _ => x))

/-! ### To the bank: CAL, CFG, OUT, FORCE, SAFE, SCHED -/

/-- A slot average and REF_STATE reach class 1B (R123, R139). -/
def State.calSlotTaken (s : State) (b : Fin 4) (d : Option Int) (ref : Nat) : State :=
  let s1 := s.setPAt 1 0x1B 0 0x06 b ref
  match d with
  | some v => s1.setPAt 4 0x1B 0 0x05 (4 * b) (ofSigned 32 (max (-0x7FFFFFFF) (min 0x7FFFFFFF v)))
  | none => s1

/-- The bytes of a channel's trims as a share carries them. -/
def trimBytes (b c : Fin 4) (t : List Int) : List Host.Cell :=
  let bytes := (t.map (fun v => leBytes 4 (ofSigned 32 v))).flatten
  (List.zip (List.range bytes.length) bytes).map (fun p => (parKey 0x1B 0 0x0C (192 * b.val + 48 * c.val + p.1), p.2))

/-- Bytes of a share wait in the bank for its marker. -/
def State.bufferShare (s : State) (b : Fin 4) (l : List Host.Cell) : State :=
  s.modBank b (fun k => { k with shareBuf := k.shareBuf ++ l })

/-- A bank takes a CAL cell (R130, R132, R133). -/
def State.takeCal (s : State) (b : Fin 4) (c : DownCell) : State :=
  match c with
  | .calFactory i words last => s.modBank b (fun k =>
      let cal := k.cal.take i ++ words
      { k with cal := cal, calHeld := k.calHeld || last, relief := if last then factoryCoef cal (16 + b.val) 0 else k.relief })
  | .calTrim i t => s.bufferShare b (trimBytes b i t)
  | .calRotate i => if rotEligible s (uOf b i) then s.modRot (uOf b i) (fun r => { r with priority := true }) else s
  | _ => s

/-- R130: a CAL cell. -/
def execCalCellReceived (b : Fin 4) (up : Bool) (hit : Noise) (s : State) : Host.Outcome State Fault Refusal :=
  if up then
    .next (s.takeUp b hit (fun c => match c with | .calResult _ _ => true | .calSlot _ _ => true | _ => false)
      (fun x c => match c with
        | .calResult _ f => x.takeFigs [7] f
        | .calSlot d ref => x.calSlotTaken b d ref
        | _ => x))
  else
    .next (s.takeDown b hit (fun c => match c with
      | .calFactory _ _ _ => true | .calTrim _ _ => true | .calRotate _ => true | _ => false) (fun x c => x.takeCal b c))

/-- A decimator-sync marker (R161, R163): one that comes after A′ is not executed, with DFC-01 against the channel. -/
def State.takeSyncMark (s : State) (b : Fin 4) (mask : BitVec 4) (a source : Nat) : State :=
  let us := (bankU b).filter (fun u => mask.getLsbD (uIn u).val)
  if perTime a < bankUnits s b then
    us.foldl (fun x u => (x.modU u (fun k => { k with chain := { k.chain with syncState := 2, syncPending := none } })).bankRaise
      b (ident .dfc 1) 2 u) s
  else
    us.foldl (fun x u => x.modU u (fun k => { k with
      chain := { k.chain with syncState := 1, syncPending := some a, syncSource := source } })) s

/-- A bank takes a CFG cell (R99, R404, R627): a marker whose instant has passed applies at once. -/
def State.takeCfg (s : State) (b : Fin 4) (c : DownCell) : State :=
  match c with
  | .cfg l => s.bufferShare b l
  | .cfgMark t arrival =>
    if t.toNat < (bankNow (s.banks[b])).toNat then s.applyShare b t arrival true
    else s.modBank b (fun k => { k with shareMark := some (t, arrival) })
  | .cfgSync mask a source => s.takeSyncMark b mask a source
  | _ => s

/-- R627: a CFG cell. -/
def execCfgCellReceived (b : Fin 4) (hit : Noise) (s : State) : Host.Outcome State Fault Refusal :=
  .next (s.takeDown b hit (fun c => match c with
    | .cfg _ => true | .cfgMark _ _ => true | .cfgSync _ _ _ => true | _ => false) (fun x c => x.takeCfg b c))

/-- R220: the CFG cell that writes COUNTER. -/
def execCounterWrite (b : Fin 4) (hit : Noise) (s : State) : Host.Outcome State Fault Refusal :=
  .next (s.takeDown b hit (fun c => match c with | .counter _ _ => true | _ => false) (fun x c => match c with
    | .counter f v => x.writeCount (fOf b f) v
    | _ => x))

/-- A bank's DIAG of a universal channel is written with ones (R91, R104, R628): each named bit clears, and bit 6 also clears the DO
latch. -/
def State.diagU (s : State) (u : Fin 16) (mask : BitVec 16) : State :=
  let s1 := if mask.getLsbD 6 then s.unlatch u else s
  s1.modU u (fun k => { k with diag := k.diag &&& ~~~mask })

/-- A bank's DIAG of a load switch is written with ones (R171, R186, R201, R206, R628). -/
def State.diagL (s : State) (l : Fin 8) (mask : BitVec 16) : State :=
  let b := bankOfL l
  let s1 := if mask.getLsbD 3 && lBit s l 3 then
      (((s.lFlag l 3 false).modL l (fun k => { k with retries := 0 })).bankEnd b (ident .lsw 1) 3 l).rethink l else s
  let cool := decide (s1.l[l].tJ < restartAt l)
  let m5 := mask.getLsbD 5 && (cool || !lBit s1 l 5)
  let s2 := if m5 && lBit s1 l 5 then s1.unlatchThermal l else s1
  let level : Int := s2.b b 2 0x0A l 0x10 * 1000000
  let m7 := mask.getLsbD 7 && (!lBit s2 l 7 || s2.b b 1 0x0A l 0x0F == 0 || decide (level ≤ s2.l[l].budget))
  let s3 := if m7 && lBit s2 l 7 && s2.b b 1 0x0A l 0x0F == 1 then s2.unlock l else s2
  let s4 := if mask.getLsbD 11 && lBit s3 l 11 then s3.modL l (fun k => { k with readmit := true }) else s3
  let eff := setBit16 (setBit16 mask 5 m5) 7 m7
  s4.modL l (fun k => { k with diag := k.diag &&& ~~~eff })

/-- A bank's DIAG of a coppice group is written with ones (R208, R628): each named bit clears, and bit 7 releases the trip hold. -/
def State.diagG (s : State) (b g : Fin 4) (mask : BitVec 16) : State :=
  let s1 := if mask.getLsbD 7 then s.changeG b g (.trip false) else s
  s1.modGrp b g (fun k => { k with diag := k.diag &&& ~~~mask })

/-- A DIAG write reaches a bank (R628). -/
def State.takeDiag (s : State) (b : Fin 4) (cls inst : Nat) (mask : BitVec 16) : State :=
  match cls with
  | 0x06 => s.diagU (uOf b (fin4 inst)) mask
  | 0x0A => s.diagL (lOf b (if inst % 2 = 0 then 0 else 1)) mask
  | 0x0B => s.diagG b (fin4 inst) mask
  | 0x0C => s.modF (fOf b (if inst % 2 = 0 then 0 else 1)) (fun k => { k with diag := k.diag &&& ~~~mask })
  | _ => s

/-- A bank takes an OUT cell (R29, R193, R197, R199, R200, R202, R208, R628). -/
def State.takeOut (s : State) (b : Fin 4) (c : DownCell) : State :=
  match c with
  | .out o v t => s.deliver b o (.imm v) t
  | .share g sh act full => s.modGrp b g (fun k => { k with share := sh, active := act, full := full })
  | .trip g (some t) =>
    if t.toNat < (bankNow (s.banks[b])).toNat ∧ ((s.banks[b]).groups[g]).tripped = false then (s.bankTrip b g).skewed b g
    else s.modGrp b g (fun k => { k with tripAt := some t })
  | .trip g none => s.modGrp b g (fun k => { k with tripAt := none, limitEntry := none })
  | .hold g ch t => s.deliver b (.grp g) ch t
  | .diag cls inst mask => s.takeDiag b cls inst mask
  | _ => s

/-- R29: an OUT cell. -/
def execOutCellReceived (b : Fin 4) (hit : Noise) (s : State) : Host.Outcome State Fault Refusal :=
  .next (s.takeDown b hit (fun c => match c with
    | .out _ _ _ => true | .share .. => true | .trip _ _ => true | .hold _ _ _ => true | .diag _ _ _ => true
    | _ => false) (fun x c => x.takeOut b c))

/-- The whole force state of a bank (R291): every output takes the force that the cell names for it, or none; a group change
that waits for its launch instant is left to it. -/
def State.takeForces (s : State) (b : Fin 4) (fs : List (OutRef × Int)) : State :=
  let outs : List OutRef := ([0, 1, 2, 3] : List (Fin 4)).map .uni ++ ([0, 1] : List (Fin 2)).map .ls ++
    (allGroups.filter (fun g => membersIn s b g != [])).map .grp
  let waits (o : OutRef) : Bool := (s.banks[b]).launches.any (fun x => x.out == o && (match x.change with | .force _ => true | _ => false))
  (outs.filter (fun o => !waits o)).foldl (fun x o =>
    x.change b o (.force ((fs.find? (fun p => p.1 == o)).map (·.2)))) s

/-- R29: a FORCE cell. -/
def execForceCellReceived (b : Fin 4) (hit : Noise) (s : State) : Host.Outcome State Fault Refusal :=
  .next (s.takeDown b hit (fun c => match c with | .force _ _ _ => true | .forceAll _ => true | _ => false)
    (fun x c => match c with
      | .force o v t => x.deliver b o (.force v) t
      | .forceAll fs => x.takeForces b fs
      | _ => x))

/-- R315: a SAFE cell. -/
def execSafeCellReceived (b : Fin 4) (hit : Noise) (s : State) : Host.Outcome State Fault Refusal :=
  .next (s.takeDown b hit (fun c => match c with | .safe .. => true | _ => false) (fun x c => match c with
    | .safe op outs groups _ t _ => x.safeCell b op outs groups t
    | _ => x))

/-- R629: a SCHED cell with an entry or a latch trigger. -/
def execSchedCellReceived (b : Fin 4) (hit : Noise) (s : State) : Host.Outcome State Fault Refusal :=
  .next (s.takeDown b hit (fun c => match c with | .sched _ _ => true | .latch _ _ _ => true | _ => false)
    (fun x c => match c with
      | .sched r last => x.takeSched b r last
      | .latch f t named => if named then x.armLatch b (fOf b f) t 0 else x.latch (fOf b f) t
      | _ => x))

/-- R256: a SCHED cell with a cancel marker. -/
def execCancelMarkerReceived (b : Fin 4) (hit : Noise) (s : State) : Host.Outcome State Fault Refusal :=
  .next (s.takeDown b hit (fun c => match c with | .cancel .. => true | _ => false) (fun x c => match c with
    | .cancel sel rel kind target what owner => x.cancelIn b sel rel kind target what owner
    | _ => x))

/-- R99: the bank copy reaches the apply instant of the share that the bank holds. -/
def execBankShareApply (b : Fin 4) (s : State) : Host.Outcome State Fault Refusal := .next (s.shareDue b false)

/-- R560: the bank copy reaches the arrival instant. -/
def execBankArrivalInstant (b : Fin 4) (s : State) : Host.Outcome State Fault Refusal := .next (s.shareDue b true)

end Sys2Proof.Machine
end

