-- ==== Sys2Proof/Machine/StreamOps.lean ====
section
/-! DEFINITION. Streams: identification, per-stream filtering, sequence generation and recovery (R437 to R440), and the ring
control of R443 and R483. -/

namespace Sys2Proof.Machine

/-- One entry of STREAM_TABLE (R454). -/
structure StreamCfg where
  mac : BitVec 48
  vid : Nat
  idMode : Nat
  generate : Bool
  recover : Bool
  filter : Bool
  latent : Bool
  split : Nat
  history : Nat
  timeoutMs : Nat
  maxSdu : Nat
  cir : Nat
  cbs : Nat
  block : Bool
  latentDiff : Nat
  deriving DecidableEq, Repr

/-- STREAM_TABLE entry i in effect; HISTORY 0 reads as 32 and RESET_TIMEOUT 0 as 100. -/
def streamCfg (s : State) (i : Nat) : StreamCfg :=
  let l := s.pBytes 32 0x16 0 0x08 (32 * i)
  let n (off k : Nat) := leNat ((l.drop off).take k)
  { mac := macOf l, vid := n 6 2, idMode := n 8 1, generate := natBit (n 9 1) 0, recover := natBit (n 9 1) 1,
    filter := natBit (n 9 1) 2, latent := natBit (n 9 1) 3, split := n 10 1,
    history := if n 11 1 = 0 then 32 else n 11 1, timeoutMs := if n 12 2 = 0 then 100 else n 12 2, maxSdu := n 14 2,
    cir := n 16 4, cbs := n 20 4, block := natBit (n 24 1) 0, latentDiff := n 26 2 }

/-- Whether an entry identifies a frame of a VID (R437). -/
def streamMatches (c : StreamCfg) (f : Frame) (vid : Nat) : Bool :=
  c.vid == vid && ((c.idMode == 1 && c.mac == f.dst) || (c.idMode == 2 && c.mac == f.src))

/-- The stream entries in use. -/
def streamsInUse (s : State) : List (Nat × StreamCfg) :=
  ((List.range 256).map (fun (i : Nat) => (i, streamCfg s i))).filter (fun (x : Nat × StreamCfg) => x.2.idMode != 0)

/-- The stream a frame belongs to: the lowest-numbered entry that matches. -/
def streamOf (s : State) (f : Frame) (vid : Nat) : Option (Nat × StreamCfg) :=
  (streamsInUse s).find? (fun x => streamMatches x.2 f vid)

/-- The run state of a stream; a bucket starts full. -/
def streamSt (s : State) (i : Nat) : StreamSt :=
  (s.sw.streams.find? (fun x => x.index == i)).getD
    { index := i, genSeq := 0, recSeq := none, history := [], lastPass := s.tb.mono, latent := false, testPassed := 0,
      testDup := 0, testAt := s.tb.mono, blocked := false, tokens := (streamCfg s i).cbs * 8000000, filled := s.tb.mono, lost := 0 }

/-- Set the run state of a stream. -/
def State.setStream (s : State) (x : StreamSt) : State :=
  let rest := s.sw.streams.filter (fun (y : StreamSt) => y.index != x.index)
  { s with sw := { s.sw with streams := rest ++ [x] } }

/-- Add one to word k of STREAM_STATE of an entry: 0 PASSED, 1 DUPLICATES, 2 OUT_OF_WINDOW, 3 FILTERED (R454), which has
256 entries. -/
def State.streamCnt (s : State) (i k : Nat) : State :=
  if i < 256 then s.incAt 4 0x16 0 0x09 (16 * i + 4 * k) else s

/-- Refill a bucket at CIR up to CBS; tokens are in 10^-6 bit. -/
def refill (x : StreamSt) (c : StreamCfg) (mono : BitVec 96) : StreamSt :=
  let ns := (mono - x.filled).toNat / 2 ^ 32
  { x with tokens := min (c.cbs * 8000000) (x.tokens + ns * c.cir), filled := x.filled + BitVec.ofNat 96 (ns * 2 ^ 32) }

/-- Per-stream filtering (R440): the state, and whether the frame goes on. -/
def State.filterStream (s : State) (i : Nat) (c : StreamCfg) (len : Nat) : State × Bool :=
  if !c.filter then (s, true)
  else
    let x := refill (streamSt s i) c s.tb.mono
    let big := c.maxSdu != 0 && decide (c.maxSdu < len)
    let empty := c.cir != 0 && decide (x.tokens < len * 8000000)
    if x.blocked || big || empty then
      let y : StreamSt := { x with blocked := x.blocked || (big && c.block) }
      ((((s.setStream y).streamCnt i 3).orP 0x16 0 0x15 8).raise (ident .bbs 6) 0 0 (BitVec.ofNat 32 i), false)
    else if c.cir != 0 then (s.setStream { x with tokens := x.tokens - len * 8000000 }, true)
    else (s.setStream x, true)

/-- A frame that recovery passes: the history moves on when its number is new, and the numbers skipped are counted. -/
def passSeq (x : StreamSt) (seq : BitVec 16) (ahead hist skipped : Nat) (mono : BitVec 96) : StreamSt :=
  let r : BitVec 16 := if ahead = 0 then x.recSeq.getD seq else seq
  { x with
    recSeq := some r, history := (seq :: x.history).filter (fun (q : BitVec 16) => decide ((r - q).toNat < hist)),
    lastPass := mono, testPassed := x.testPassed + 1, lost := min 255 (x.lost + skipped) }

/-- The history of a stream, reset where no frame has passed for RESET_TIMEOUT. -/
def freshHistory (s : State) (c : StreamCfg) (x : StreamSt) : StreamSt :=
  if elapsed s x.lastPass (c.timeoutMs * 1000000) then { x with history := [] } else x

/-- The vector recovery algorithm of 802.1CB with a history (R438): a frame that passes, with how far it lies ahead and the numbers it
skips, or the word of STREAM_STATE that counts its discard. -/
def recoverVerdict (x : StreamSt) (hist : Nat) (seq : BitVec 16) : Nat ⊕ Nat × Nat :=
  match x.history, x.recSeq with
  | [], _ => .inr (1, 0)
  | _, none => .inr (1, 0)
  | _, some r =>
    let d := (seq - r).toInt
    if (hist : Int) ≤ d ∨ d ≤ -(hist : Int) then .inl 2
    else if x.history.contains seq then .inl 1
    else if 0 < d then .inr (1, d.toNat - 1)
    else .inr (0, 0)

/-- What a verdict leaves: the counters of R454, and the history of a frame that passes. -/
def State.recoverTake (s : State) (i : Nat) (x : StreamSt) (hist : Nat) (seq : BitVec 16) (v : Nat ⊕ Nat × Nat) : State :=
  match v with
  | .inr (ahead, skipped) => (s.setStream (passSeq x seq ahead hist skipped s.tb.mono)).streamCnt i 0
  | .inl 1 => (s.setStream { x with testDup := x.testDup + 1 }).streamCnt i 1
  | .inl _ => s.streamCnt i 2

/-- Recovery of a stream (R438): the state, and whether the frame passes. -/
def State.recoverSeq (s : State) (i : Nat) (c : StreamCfg) (seq : BitVec 16) : State × Bool :=
  let x := freshHistory s c (streamSt s i)
  let v := recoverVerdict x c.history seq
  (s.recoverTake i x c.history seq v, v.isRight)

/-! ### Ring control (R443, R483) -/

/-- A device with RING_MODE 1 in effect. -/
def inRing (s : State) : Bool := s.p 1 0x16 0 0x0A == 1

/-- The root of a ring. -/
def isRoot (s : State) : Bool := inRing s && s.p 1 0x16 0 0x0B == 1

/-- The other ring port. -/
def otherRing (s : State) (p : Fin 3) : Option (Fin 3) :=
  if isRingPort s p && (ringPorts s).length == 2 then (ringPorts s).find? (fun q => q != p) else none

/-- Send a topology frame of a KIND on a ring port (R483). Its ROOT is this node where it is the root; a node that is not
knows no value for it that the spec states, so it is free there. -/
def State.sendTopology (s : State) (kind : Nat) (p : Fin 3) : State :=
  let (v, s1) := if isRoot s then (nodeAddress s, s) else s.draw
  let seq := s1.gcl.ownSeq
  let body := beBytes 2 v ++ [0, 0] ++ beBytes 4 s1.sw.testSeq.toNat ++ [BitVec.ofNat 8 p.val, 0, 0, 0]
  let s2 : State := { s1 with gcl := { s1.gcl with ownSeq := seq + 1 } }
  (s2.gclCnt 1).sendTopo p (gclHeader s 0x02 0xFFFE false false 0 0xFF 12 seq 0 kind 0 ++ body)

/-- Send a topology frame on both ring ports. -/
def State.sendRing (s : State) (kind : Nat) : State := (ringPorts s).foldl (fun t p => t.sendTopology kind p) s

/-- RING_STATE. -/
def ringState (s : State) : Nat := s.p 1 0x16 0 0x0C

/-- The root enters BROKEN from CLOSED (R443). -/
def State.ringBreak (s : State) : State :=
  if ringState s = 1 then
    let s1 := s.setP 1 0x16 0 0x0C 2
    let s2 : State := { s1 with red := { s1.red with blocked := none }, sw := { s1.sw with goodRun := 0, missRun := 0 } }
    ((((s2.flushPorts 0xF).sendRing 3).inc 4 0x16 0 0x14).orP 0x16 0 0x15 1).raise (ident .bbs 8) 0 0
  else s

/-- The root enters CLOSED: the ring port with the higher number blocks (R443). -/
def State.ringClose (s : State) : State :=
  let s1 := s.setP 1 0x16 0 0x0C 1
  let s2 : State := { s1 with
    red := { s1.red with blocked := (ringPorts s).getLast? }, sw := { s1.sw with goodRun := 0, missRun := 0 } }
  ((s2.sendRing 4).sendRing 3).endFault (ident .bbs 8) 0 0

/-- A port stops being asCapable (R44, R445, R448): BBS-07 while its link is up; the slave port's Announce information goes, and a
servo that was converging on it falls back to FREERUN. -/
def State.loseCapable (s : State) (p : Fin 3) (linkUp : Bool) : State :=
  if s.ports[p].asCapable then
    let s1 := s.modPort p (fun q => { q with asCapable := false, ptpRole := 0, announceRx := none })
    let s2 := if linkUp then (s1.orP 0x15 p 0x1E 8).raise (ident .bbs 7) 8 p else s1
    if s.tb.port = some p then
      let s3 := s2.modTb (fun t => { t with port := none })
      if s.tb.state = 1 then s3.setTime 0 else s3
    else s2
  else s

/-- A port's link goes down (R425, R443, R450): its queue and the frame on the line are dropped and counted, its learned
entries removed; the ring is told. -/
def State.linkDown (s : State) (p : Fin 3) : State :=
  let q := s.ports[p]
  if !q.up then s
  else
    let dropped := q.queue ++ (q.sending.map (·.1)).toList
    let s1 := (s.loseCapable p false).modPort p (fun (k : Port) => { k with
      up := false, speed := 0, queue := [], sending := none, exchanges := [], okRun := 0, lostRun := 0, held := false, tests := 0,
      badAt := s.tb.mono, pdelayAt := none, announceAt := none, announceRx := none })
    let s2 := dropped.foldl (fun t x => if x.ptp then t else t.portCnt p (18 + 4 * x.tc.val)) s1
    let s3 := ((s2.bufStat.flushPorts (1#4 <<< p.val)).ringAll 7).portCnt p 14
    let s4 := ((s3.orP 0x15 p 0x1E 1).raise (ident .bbs 1) 8 p).endFault (ident .bbs 7) 8 p
    match inRing s, otherRing s p with
    | true, some o => let s5 := s4.sendTopology 2 o; if isRoot s then s5.ringBreak else s5
    | _, _ => s4

/-- The line rates of a MODE (R420). -/
def modeSpeeds (mode : Nat) : List Nat :=
  match mode with
  | 1 => [10000] | 2 => [2500] | 3 => [1000] | 4 => [1000, 100, 10] | _ => []

/-- A port's link comes up at a rate of its MODE (R425, R443), LINK_UP_HOLD after its line was last known bad at the earliest: a ring
port of a node that is not the root is held until the next closed frame. -/
def State.linkUp (s : State) (p : Fin 3) (speed : Nat) : State :=
  let mode := s.p 1 0x15 p 0x01
  if s.ports[p].up || !elapsed s s.ports[p].badAt (s.p 2 0x15 p 0x1A * 1000000) || !(modeSpeeds mode).contains speed || (mode == 1 && s.tb.refType) then s
  else
    let held := inRing s && !isRoot s && isRingPort s p
    let s1 := s.modPort p (fun k => { k with up := true, speed := speed, held := held })
    ((s1.ringAll 7).endFault (ident .bbs 1) 8 p).helloSoon

end Sys2Proof.Machine
end

