-- ==== Sys2Proof/Machine/Switch.lean ====
section
/-! DEFINITION. The meanings of the rows of Backbone ports and switch (R420 to R456, R483, R484). -/

namespace Sys2Proof.Machine

/-! ### Links -/

/-- R425: a port declares its link down. -/
def execPortLinkDown (p : Fin 3) (s : State) : Host.Outcome State Fault Refusal := .next (s.linkDown p)

/-- R425: the line has been good for LINK_UP_HOLD; the port declares its link up. -/
def execPortLinkUp (p : Fin 3) (speed : Nat) (s : State) : Host.Outcome State Fault Refusal := .next (s.linkUp p speed)

/-! ### Receiving a frame -/

/-- How the switch classes a frame (R426, R427): priority, VID, member and untagged set. -/
structure RxClass where
  pcp : Fin 8
  vid : BitVec 12
  members : Nat
  untagged : Nat
  deriving DecidableEq, Repr

/-- The class of a frame on its ingress port; `none` discards it (R427). -/
def rxClass (s : State) (p : Fin 3) (f : Frame) : Option RxClass :=
  let pv := BitVec.ofNat 12 (s.p 2 0x15 p 0x06)
  let pd : Fin 8 := ⟨s.p 1 0x15 p 0x07 % 8, by omega⟩
  if f.tag.isNone && s.p 1 0x15 p 0x08 == 1 then none
  else
    let (pcp, vid) := match f.tag with
      | none => (pd, pv)
      | some (c, v) => (c, if v = 0 then pv else v)
    match vlanOf s vid.toNat with
    | some (m, u) => if natBit m p.val then some { pcp := pcp, vid := vid, members := m, untagged := u } else none
    | none => none

/-- 01-80-C2-00-00-00 to 01-80-C2-00-00-0F (R424). -/
def isReserved (m : BitVec 48) : Bool := m &&& 0xFFFFFFFFFFF0 == 0x0180C2000000

/-- A frame taken by the port's gPTP engine (R444): a Sync has a row of its own, which counts it; a Pdelay_Req is answered
with Pdelay_Resp and its follow-up; the information of an Announce counts from its receipt (R448). -/
def State.takePtp (s : State) (p : Fin 3) (f : Frame) : State :=
  let typ := beNat (f.payload.take 1) % 16
  if typ = 0 then s
  else if typ = 2 then ((s.portCnt p 15).sendPtp p (ptpMessage 0x3 54)).sendPtp p (ptpMessage 0xA 54)
  else if typ = 0xB then (s.portCnt p 15).modPort p (fun k => { k with announceRx := some s.tb.mono })
  else s.portCnt p 15

/-- A frame with a bad FCS is counted (R424, R451). -/
def State.badFcs (s : State) (p : Fin 3) : State := ((s.portCnt p 4).orP 0x15 p 0x1E 2).occur (ident .bbs 2) 8 p

/-- The traffic class of a priority on an egress port (R426). -/
def egressTc (s : State) (p : Fin 3) (pcp : Fin 8) : Fin 8 := ⟨s.pAt 1 0x15 p 0x18 pcp.val % 8, by omega⟩

/-- Whether a frame is forwarded cut-through on an egress port (R429). -/
def cutsThrough (s : State) (ingress p : Fin 3) (tc : Fin 8) : Bool :=
  let q := s.ports[p]
  natBit (s.p 1 0x15 p 0x1B) tc.val && decide (q.speed ≤ (s.ports[ingress]).speed) &&
    q.queue.all (fun x => decide (x.tc < tc)) &&
    decide (txNs (s.pAt 2 0x15 p 0x15 (2 * tc.val) + 12) q.speed ≤ openFor q tc (now s))

/-- The latency of a cut-through frame that finds its egress port idle, within the bound of its rates (R430). -/
def cutNs (rx tx n : Nat) : Nat :=
  if rx = 10000 then (if tx = 10000 then min n 380 else min n 520)
  else if rx = 2500 ∧ tx = 2500 then min n 1100
  else if rx = 1000 ∧ tx = 1000 then min n 2400
  else n

/-- A cut-through frame is counted and its latency kept, the rest of a frame in transmission with it (R430, R456). -/
def State.countCut (s : State) (ingress p : Fin 3) (len : Nat) : State :=
  let n := cutNs (s.ports[ingress]).speed (s.ports[p]).speed (Config.cutLatency ingress.val p.val len) +
    (match (s.ports[p]).sending with | some (_, t) => (t - s.tb.mono).toNat / 2 ^ 32 | none => 0)
  let m := BitVec.ofNat 32 (max n (s.sw.ctMax[p]).toNat)
  let s1 := s.portCnt p 11
  { s1 with sw := { s1.sw with ctMax := s1.sw.ctMax.set p m } }

/-- Forward one copy of a frame on a port, cut through or stored (R429, R432, R436). -/
def State.forward (s : State) (ingress : Fin 3) (f : Frame) (c : RxClass) (buf : Nat) (p : Fin 3) : State :=
  let cut := s.ports[p].up && cutsThrough s ingress p (egressTc s p c.pcp)
  let s1 := if cut then s.countCut ingress p f.len else s
  s1.sendOn p f c.pcp c.vid c.untagged cut none buf

/-- A frame whose FCS turns out bad: each cut-through copy is stomped, every stored one discarded (R424, R431). -/
def State.stomp (s : State) (ingress : Fin 3) (f : Frame) (c : RxClass) (buf : Nat) (p : Fin 3) : State :=
  if s.ports[p].up && cutsThrough s ingress p (egressTc s p c.pcp) then
    let s1 := (s.countCut ingress p f.len).sendOn p f c.pcp c.vid c.untagged true none buf
    s1.stomped p
  else s

/-- Put a frame before the logic die, with the priority and VID it was classed to. -/
def State.toLogic (s : State) (p : Fin 3) (f : Frame) (c : RxClass) : State :=
  let d : Delivered := { frame := { f with tag := some (c.pcp, c.vid) }, port := p }
  { s with delivered := s.delivered ++ [d] }

/-- A frame for the logic die (R428, R454, R458). -/
def forLogicDie (s : State) (f : Frame) (c : RxClass) : Bool :=
  natBit c.members 3 && (f.dst == deviceMac s || (macLookup s f.dst c.vid).any (fun m => m.getLsbD 3))

/-- The ports a received frame leaves by: an R-TAG frame from a ring port always by the other ring port (R442), and every
frame as its destination requires. A frame to DEVICE_MAC goes no further by the table. -/
def rxPorts (s : State) (p : Fin 3) (f : Frame) (c : RxClass) : List (Fin 3) :=
  let ring := match f.rtag.isSome, otherRing s p with
    | true, some o => if natBit c.members o.val then [o] else []
    | _, _ => []
  let rest := if f.dst == deviceMac s then [] else egressPorts s f c.vid c.members (some p)
  ring ++ rest.filter (fun (q : Fin 3) => !ring.contains q)

/-- A GCL frame of the express class with an R-TAG (R461). -/
def isExpress (s : State) (f : Frame) : Bool :=
  f.rtag.isSome && f.etype == BitVec.ofNat 16 (s.p 2 0x17 0 0x03) && natBit (beAt f.payload 8 1) 7

/-- The watch for the second ring copy (R507): the copy on the other ring port ends it, a first copy begins it. -/
def State.watchCopy (s : State) (p : Fin 3) (f : Frame) : State :=
  match f.rtag, otherRing s p with
  | some r, some o =>
    if inRing s && isExpress s f && s.ports[p].up && s.ports[o].up then
      let w := s.red.ringWatch
      let mine (m : RingMark) : Bool := m.src == f.src && m.seq == r && m.port == o
      let m : RingMark := { src := f.src, seq := r, port := p, at_ := s.tb.mono }
      let w' := if w.any mine then w.filter (fun (x : RingMark) => !mine x) else w ++ [m]
      { s with red := { s.red with ringWatch := w' } }
    else s
  | _, _ => s

/-- A frame with its R-TAG removed. -/
def unTag (f : Frame) : Frame := if f.rtag.isSome then { f with rtag := none, len := f.len - 6 } else f

/-- A frame of a stream with GENERATE: it takes an R-TAG with the next number and leaves by every port of SPLIT (R438). -/
def State.generateStream (s : State) (i : Nat) (cfg : StreamCfg) (p : Fin 3) (f : Frame) (c : RxClass) (buf : Nat) : State :=
  let x := streamSt s i
  let g : Frame := { f with rtag := some x.genSeq, len := f.len + 6 }
  let s1 := (s.setStream { x with genSeq := x.genSeq + 1 }).streamCnt i 0
  (allPorts.filter (fun (q : Fin 3) => natBit cfg.split q.val && natBit c.members q.val)).foldl
    (fun t q => t.forward p g c buf q) s1

/-- The copies of a frame that needs no sequence generation. `branchOnly` keeps it off the ring ports (R506). With RECOVER the
copies to the logic die and to the ports off the ring are those that recovery passes, without their R-TAG (R438). -/
def State.spread (s : State) (stream : Option (Nat × StreamCfg)) (p : Fin 3) (f : Frame) (c : RxClass) (buf : Nat)
    (branchOnly : Bool) : State :=
  let ports := rxPorts s p f c
  let ring := if branchOnly then [] else ports.filter (isRingPort s)
  let branch := ports.filter (fun (q : Fin 3) => !isRingPort s q)
  let here := forLogicDie s f c
  let s1 := ring.foldl (fun t q => t.forward p f c buf q) s
  let out (t : State) (g : Frame) : State :=
    let t1 := branch.foldl (fun t q => t.forward p g c buf q) t
    if here then t1.toLogic p g c else t1
  match stream, f.rtag with
  | some (i, cfg), some r =>
    if cfg.recover && (here || !branch.isEmpty) then
      let (s2, pass) := s1.recoverSeq i cfg r
      if pass then out s2 (unTag f) else s2
    else out (if cfg.recover then s1 else s1.streamCnt i 0) f
  | some (i, _), none => out (s1.streamCnt i 0) f
  | none, _ => out s1 f

/-- A good frame that its VLAN admits: origin removal, blocking, filtering, learning, and forwarding (R427 to R443, R458). -/
def State.bridge (s : State) (p : Fin 3) (f : Frame) (c : RxClass) : State :=
  let buf := s.sw.nextBuf
  let s0 : State := { s with sw := { s.sw with nextBuf := buf + 1 } }
  let s1 := s0.watchCopy p f
  let stream := streamOf s f c.vid.toNat
  let shut := f.rtag.isNone && portRestricted s p
  let guard := s.red.ringGuard.any (fun (g : Fin 3 × BitVec 96) => g.1 == p && !elapsed s g.2 100000)
  if f.dst = gclRing then
    let s2 := if shut || f.rtag.isSome then s1 else s1.learn p f.src c.vid
    if (otherRing s p).isSome && f.etype == BitVec.ofNat 16 (s.p 2 0x17 0 0x03) then s2.toLogic p f c else s2
  else if shut && !guard then s1
  else if f.rtag.isSome && isRingPort s p && (f.src == deviceMac s || stream.any (fun (x : Nat × StreamCfg) => x.2.generate)) then
    s1.portCnt p 9
  else
    let s2 := if shut || f.rtag.isSome then s1 else s1.learn p f.src c.vid
    match stream with
    | none => s2.spread none p f c buf shut
    | some (i, cfg) =>
      let (s3, ok) := s2.filterStream i cfg f.len
      if !ok then s3
      else if cfg.generate && f.rtag.isNone && !natBit cfg.split p.val then
        let s4 := s3.generateStream i cfg p f c buf
        if forLogicDie s f c then s4.toLogic p f c else s4
      else s3.spread stream p f c buf shut

/-- A frame received on a port (R423, R424, R427). -/
def State.receiveFrame (s : State) (p : Fin 3) (f : Frame) : State :=
  let s1 := (s.portCnt p 0).portAdd p 1 f.len
  if f.len < 64 ∨ s.p 2 0x15 p 0x16 < f.len then s1.portCnt p 5
  else if isReserved f.dst then
    if !f.fcsOk then s1.badFcs p
    else if f.dst = 0x0180C200000E ∧ f.etype = 0x88F7 ∧ f.tag = none then s1.takePtp p f
    else s1.portCnt p 7
  else
    match rxClass s p f with
    | none => s1.portCnt p 6
    | some c =>
      if f.fcsOk then s1.bridge p f c
      else
        let s2 := s1.badFcs p
        if f.dst = gclRing ∨ (f.rtag.isNone && portRestricted s p) = true then s2
        else
          let s3 : State := { s2 with sw := { s2.sw with nextBuf := s2.sw.nextBuf + 1 } }
          (rxPorts s p f c).foldl (fun t q => t.stomp p f c s.sw.nextBuf q) s3

/-- R427: a frame received on a port whose link is up. -/
def execFrameReceived (p : Fin 3) (f : Frame) (s : State) : Host.Outcome State Fault Refusal :=
  .next (if s.ports[p].up then s.receiveFrame p f else s)

/-! ### Gates (R434, R435) -/

/-- R434: an interval of the list ends; a change time that comes with it goes first (R450). -/
def execGateIntervalBoundary (p : Fin 3) (s : State) : Host.Outcome State Fault Refusal :=
  .next ((s.changeList p).followGates p)

/-- R435: the change time of a new list. -/
def execGateListChange (p : Fin 3) (s : State) : Host.Outcome State Fault Refusal :=
  match (s.ports[p]).admin with
  | none => .next s
  | some (_, t) => .next (if reached t (now s) then (s.changeList p).followGates p else s)

/-! ### The MAC table (R428, R453) -/

/-- R428: the learned entries not seen for MAC_AGEING go; 0 is no ageing. -/
def execMacAgeing (s : State) : Host.Outcome State Fault Refusal :=
  let age := s.p 2 0x16 0 0x02
  .next (if age = 0 then s
    else s.setMac (s.sw.mac.filter (fun (e : MacEntry) => !elapsed s e.seen (age * 1000000000))))

/-- MAC_FLUSH: a port mask or 0xFF (R453). -/
def macFlushCmd (s : State) (mask : Byte) : CmdRes :=
  if mask = 0xFF then okRes (s.flushPorts 0xF)
  else if mask = 0 ∨ 0x07 < mask then refuse s rcOutOfRange
  else okRes (s.flushPorts (mask.setWidth 4))

/-- R453: a write of MAC_FLUSH. -/
def execMacFlush (q : Req) (mask : Byte) (s : State) : Host.Outcome State Fault Refusal :=
  .next ((guardWrite s q (macFlushCmd s mask)).finish q opSetParam)

/-- R451: an entry of the MAC (0), VLAN (1), stream (2) or gate (3) tables with an uncorrectable error; what the configuration
does not hold, a learned entry, is lost. -/
def execTableEccRewrite (table i : Nat) (s : State) : Host.Outcome State Fault Refusal :=
  let s1 := if table = 0 then s.setMac (s.sw.mac.eraseIdx i) else s
  .next ((s1.orP 0x16 0 0x15 16).raise (ident .bbs 12) 0 0)

/-! ### Streams (R438) -/

/-- R438: the end of a 2 s test period; the first one of a stream begins with its first frame. -/
def execLatentTestPeriod (i : Fin 256) (s : State) : Host.Outcome State Fault Refusal :=
  let c := streamCfg s i
  let x := streamSt s i
  if c.idMode != 0 && c.latent && elapsed s x.testAt 2000000000 then
    let y : StreamSt := { x with testPassed := 0, testDup := 0, testAt := s.tb.mono }
    if x.testDup + c.latentDiff < x.testPassed then
      .next (((s.setStream { y with latent := true }).orP 0x16 0 0x15 4).raise (ident .bbs 5) 0 0 (BitVec.ofNat 32 i))
    else .next (s.setStream y)
  else .next s

/-- R438: no frame has passed for RESET_TIMEOUT. -/
def execRecoveryResetTimeout (i : Fin 256) (s : State) : Host.Outcome State Fault Refusal :=
  let c := streamCfg s i
  let x := streamSt s i
  if c.idMode != 0 && c.recover then .next (s.setStream (freshHistory s c x)) else .next s

/-! ### Peer delay (R445, R446) -/

/-- The mean of the valid exchanges kept. -/
def meanDelay (l : List Nat) : Nat := if l.length = 0 then 0 else l.foldl (· + ·) 0 / l.length

/-- The outcome of one exchange, a delay in ps or a lost response. The delay is the mean of the two directions: ASYMMETRY, added to
the one and taken from the other, leaves it (DEDUCED from R446, assumption log 43). -/
def State.pdelay (s : State) (p : Fin 3) (d : Option Nat) : State :=
  let q := s.ports[p]
  match d with
  | none =>
    let s1 := s.modPort p (fun k => { k with okRun := 0, lostRun := k.lostRun + 1 })
    if q.lostRun + 1 ≥ 3 then s1.loseCapable p true else s1
  | some v =>
    let ex := (q.exchanges ++ [v]).drop (q.exchanges.length + 1 - 8)
    let mean := meanDelay ex
    let (r, s1) := if q.okRun ≥ 1 then s.draw else (s.p 4 0x15 p 0x0D, s)
    let s2 := ((s1.modPort p (fun k => { k with exchanges := ex, okRun := k.okRun + 1, lostRun := 0 })).setP 4 0x15 p 0x0C mean).setP
      4 0x15 p 0x0D r
    let limit := s.p 4 0x15 p 0x0B * 1000
    if limit < v ∨ limit < mean then s2.loseCapable p true
    else if q.okRun ≥ 1 ∧ q.asCapable = false then
      (s2.modPort p (fun k => { k with asCapable := true })).endFault (ident .bbs 7) 8 p
    else s2

/-- R445: every 2^PDELAY_LOG_INTERVAL s a port sends Pdelay_Req and takes the outcome of the exchange. -/
def execPdelayReq (p : Fin 3) (d : Option Nat) (s : State) : Host.Outcome State Fault Refusal :=
  .next (if s.ports[p].up && sinceLast s s.ports[p].pdelayAt (logSeconds (s.pI 1 0x15 p 0x0A)) then
      ((s.modPort p (fun k => { k with pdelayAt := some s.tb.mono })).sendPtp p (ptpMessage 0x2 54)).pdelay p d
    else s)

/-! ### The ring (R443, R483, R484) -/

/-- R443: RING_TEST_INTERVAL after the last test frames the root judges the interval that ends and sends those of the next. -/
def execRingTestInterval (s : State) : Host.Outcome State Fault Refusal :=
  if isRoot s && elapsed s s.sw.ringAt (s.p 2 0x16 0 0x0D * 1000) then
    let both := (ringPorts s).all (fun p => decide (0 < (s.ports[p]).tests))
    let s1 := match ringState s, both with
      | 1, true => { s with sw := { s.sw with missRun := 0 } }
      | 1, false =>
        if s.sw.missRun + 1 ≥ 3 then s.ringBreak else { s with sw := { s.sw with missRun := s.sw.missRun + 1 } }
      | _, true =>
        if s.sw.goodRun + 1 ≥ 3 then s.ringClose else { s with sw := { s.sw with goodRun := s.sw.goodRun + 1 } }
      | _, false => { s with sw := { s.sw with goodRun := 0 } }
    let s2 := (ringPorts s).foldl (fun (t : State) p => t.modPort p (fun k => { k with tests := 0 })) s1
    let s3 : State := { s2 with sw := { s2.sw with testSeq := s2.sw.testSeq + 1, ringAt := s2.tb.mono } }
    .next (s3.sendRing 1)
  else .next s

/-- What a checked topology frame does (R443, R484): the root takes tests from its other ring port and breaks; every other
node acts on flush and closed. -/
def State.actTopology (s : State) (f : GclFrame) (o : Fin 3) : State :=
  match f.kind, isRoot s with
  | 1, true =>
    if f.srcNode = nodeAddress s ∧ beAt f.payload 8 1 = o.val ∧ beAt f.payload 4 4 = s.sw.testSeq.toNat then
      s.modPort f.port (fun k => { k with tests := k.tests + 1 })
    else s
  | 2, true => s.ringBreak
  | 3, false => s.flushPorts 0xF
  | 4, false => { s with ports := s.ports.map (fun k => { k with held := false }) }
  | _, _ => s

/-- R484: the oldest topology frame before the logic die is forwarded on the other ring port, unless this node made it or is
the root that consumes it, and acted on. -/
def execTopologyFrameReceived (s : State) : Host.Outcome State Fault Refusal :=
  match s.delivered.find? (fun d => d.frame.dst == gclRing) with
  | none => .next s
  | some d =>
    let s1 : State := { s with delivered := s.delivered.erase d }
    match otherRing s d.port with
    | none => .next s1
    | some o =>
      let f := parseGcl d
      let ends := f.srcNode == nodeAddress s || (isRoot s && (f.kind == 1 || f.kind == 2))
      let (pcp, vid) := match d.frame.tag with | some t => t | none => (7, 0)
      let s2 := if ends then s1
        else
          let s3 : State := { s1 with sw := { s1.sw with nextBuf := s1.sw.nextBuf + 1 } }
          let u := match vlanOf s vid.toNat with | some (_, u) => u | none => 0
          s3.sendOn o d.frame pcp vid u false none s1.sw.nextBuf
      let (s4, taken) := s2.gclReceive d
      .next (match taken with | some g => s4.actTopology g o | none => s4)

end Sys2Proof.Machine
end

