-- ==== Sys2Proof/Machine/PairOps.lean ====
section
/-! DEFINITION. Master pairs and authority epochs: what the GCL rows and the mailboxes share (R489 to R501). -/

namespace Sys2Proof.Machine

/-- The seven master ids. -/
def allMasters : List (Fin 7) := [0, 1, 2, 3, 4, 5, 6]

/-- Change what one pair remembers. -/
def State.modPair (s : State) (m : Fin 7) (g : Pair → Pair) : State :=
  { s with red := { s.red with pairs := s.red.pairs.set m (g (s.red.pairs[m])) } }

/-- The endpoint bound to a master id (R360). -/
def epOf (m : Fin 7) : Fin 8 := ⟨m.val + 1, by omega⟩

/-- PAIR_STATE: 0 not a pair, 1 BOTH, 2 HELD, 3 SINGLE (P18.00.03). -/
def pairState (s : State) (m : Fin 7) : Nat := s.pAt 1 0x18 0 0x03 m.val

/-- ACTIVE_MEMBER. -/
def activeMember (s : State) (m : Fin 7) : Nat := s.pAt 1 0x18 0 0x04 m.val

/-- Add one to counter k of class 18's COUNTERS (R510). -/
def State.redCnt (s : State) (k : Nat) : State := s.incAt 4 0x18 0 0x15 (4 * k)

/-- A GCL master frame's sender holds the current authority epoch (R464). -/
def frameAuthority (s : State) (f : GclFrame) : Bool :=
  f.masterId == authMaster s && (!epochChecked s || f.epoch.toNat == authEpoch s)

/-- Send an ARB frame to RANGER_NODE when NODE_TABLE holds it (R481). -/
def State.sendRanger (s : State) (kind : Nat) (payload : List Byte) : State :=
  match presentNode s (s.p 2 0x18 0 0x08) with
  | some e => s.sendGcl (ownFrame 0x50 kind e.mac e.addr payload)
  | none => s

/-! ### The Ranger (R502, R503) -/

/-- The payload of an EPOCH frame (R481). -/
def epochPayload (e : Word) (m : Nat) (t : CellTime) : List Byte :=
  beBytes 4 e.toNat ++ [BitVec.ofNat 8 m, 0, 0, 0] ++ beBytes 8 (ctNs t) ++ [BitVec.ofNat 8 (ctFrac t), 0, 0, 0]

/-- Send an EPOCH frame to every node. -/
def State.sendEpoch (s : State) (e : Word) (m : Nat) (t : CellTime) : State :=
  let f : OwnFrame := { ownFrame 0x50 1 gclAll 0xFFFE (epochPayload e m t) with
    master := true, masterId := 7, epoch := BitVec.ofNat 32 (authEpoch s) }
  let s1 := s.sendGcl f
  { s1 with red := { s1.red with lastRepeat := s1.tb.mono } }

/-- An EPOCH frame accepted (R481): a higher epoch waits for its instant, a lower one is counted. -/
def State.takeEpoch (s : State) (e : Word) (m : Nat) (t : CellTime) : State :=
  if e.toNat = authEpoch s then s
  else if e.toNat < authEpoch s then (s.gclCnt 8).orP 0x17 0 0x15 16
  else if s.gcl.pendingEpoch.all (fun (x : Word × Nat × CellTime) => decide (x.1 < e)) then
    { s with gcl := { s.gcl with pendingEpoch := some (e, m, t) } }
  else s

/-- The Ranger issues an epoch that takes effect EPOCH_LEAD from now, and applies it to itself (R499, R503). -/
def State.issueEpoch (s : State) (e : Word) (m : Nat) : State :=
  let t := ctAddNs (now s) (s.p 4 0x18 0 0x16 * 1000)
  let s1 := (s.setP 4 0x18 0 0x14 e.toNat).sendEpoch e m t
  let s2 : State := { s1 with red := { s1.red with issued := some (e, m, t) } }
  s2.takeEpoch e m t

/-- The epoch an acting Ranger counts from, with its master: the one it issued last, or the one in effect. -/
def rangerEpoch (s : State) : Word × Nat :=
  match s.red.issued with
  | some (e, m, _) => (e, m)
  | none => (BitVec.ofNat 32 (authEpoch s), authMaster s)

/-- RANGER_STATE: 0 OFF, 1 LISTENING, 2 ACTING, 3 STANDING_DOWN. -/
def rangerState (s : State) : Nat := s.p 1 0x18 0 0x13

/-- The Ranger starts when it is enabled and the node has joined, and stops when it is disabled (R502). -/
def State.rangerCheck (s : State) : State :=
  if s.p 1 0x18 0 0x09 = 0 then
    if rangerState s = 0 then s
    else
      let s1 := s.setP 1 0x18 0 0x13 0
      let s2 : State := { s1 with red := { s1.red with issued := none } }
      if rangerState s = 3 then s2.endFault (ident .bbs 22) 0 0 else s2
  else if rangerState s = 0 ∧ gclState s = 1 then
    { s.setP 1 0x18 0 0x13 1 with red := { s.red with rangerSince := s.tb.mono } }
  else s

/-- A QUERY (R503): one epoch covers every query until its instant. -/
def State.rangerQuery (s : State) : State :=
  if rangerState s ≠ 2 then s
  else if s.red.issued.any (fun (x : Word × Nat × CellTime) => !reached x.2.2 (now s)) then s
  else s.issueEpoch ((rangerEpoch s).1 + 1) (rangerEpoch s).2

/-- Whether a master id has a node present (R503). -/
def masterPresent (s : State) (m : Nat) : Bool := (masterNodes s m).any (fun n => (presentNode s n).isSome)

/-- The master ids after one in SUCCESSION, cyclically (R503). -/
def successors (s : State) (m : Nat) : List Nat :=
  let l := ((s.pBytes 7 0x18 0 0x0A 0).map (·.toNat)).takeWhile (fun (x : Nat) => x != 0xFF)
  (l.dropWhile (fun (x : Nat) => x != m)).drop 1 ++ l.takeWhile (fun (x : Nat) => x != m)

/-- Every node of AUTH_MASTER is lost in NODE_TABLE. -/
def authorityLost (s : State) : Bool :=
  let ns := (masterNodes s (rangerEpoch s).2).filter (fun n => decide (n ≤ 4095))
  !ns.isEmpty && ns.all (fun n => s.gcl.nodes.any (fun (e : NodeEntry) => e.addr == n && e.lost))

/-- The acting Ranger passes authority on when every node of its master is lost (R503). -/
def State.rangerSucceed (s : State) : State :=
  if rangerState s = 2 ∧ authorityLost s then
    match (successors s (rangerEpoch s).2).find? (masterPresent s) with
    | some m => s.issueEpoch ((rangerEpoch s).1 + 1) m
    | none => s
  else s

/-! ### Postings of the backbone masters (R473, R489 to R496) -/

/-- The buffer a CMD frame's descriptor takes: a claim, or for an ABORT the abort reserve (R369, R370). -/
def State.cmdBuffer (s : State) (ep : Fin 8) (opcode : Nat) : Option Nat × State :=
  match claimGrant s ep with
  | some k => (some k, s.setBuf k (some (.held ep)))
  | none =>
    match (if opcode = 0x00F0 then lowestFree s 254 2 else none) with
    | some k => (some k, s.setBuf k (some (.held ep)))
    | none => s.claim ep

/-- What a posting of a master is refused with (R364, R489), the claim apart. -/
def masterRefusal (s : State) (m : Fin 7) (node tag : Nat) : Option (BitVec 16) :=
  let p := s.mbx.eps[epOf m]
  let half := isPair s m && tagMember tag != memberOf s m node
  if !p.opened then some rcLocked
  else if p.outstanding.length ≥ 32 then some rcQueueFull
  else if tag > 31 || half || (findTag p tag).isSome then some rcBadTag
  else none

/-- A pair enters HELD, or finds a further disagreement there (R496). -/
def State.disagree (s : State) (m : Fin 7) (c : PairCopy) (hash : BitVec 64) : State :=
  let rec' := [BitVec.ofNat 8 m.val, BitVec.ofNat 8 c.member, 0, 0] ++ leBytes 4 c.seq.toNat ++ leBytes 8 c.hash.toNat ++
    leBytes 8 hash.toNat
  let s1 := ((s.redCnt 1).setBytes 0x18 0 0x10 0 rec').orP 0x18 0 0x17 1
  if pairState s m = 2 then s1
  else
    let s2 := (s1.setPAt 1 0x18 0 0x03 m.val 2).modPair m (fun p => { p with
      heldAt := s.tb.mono, querySent := none, arbRaised := false, dispute := (c.seq, c.hash, hash) })
    (s2.raise (ident .bbs 18) 0 0 (BitVec.ofNat 32 m.val))

/-- The first copy of a disagreeing command that has not been taken up is held as well (R496). -/
def State.holdFirst (s : State) (m : Fin 7) (tag : Nat) : State :=
  match findTag (s.mbx.eps[epOf m]) tag with
  | some o => if o.phase = 4 then (s.modEp (epOf m) (setPhase tag 5)).redCnt 2 else s
  | none => s

/-- The first copy that waited for its partner is taken up (R492). -/
def State.releaseFirst (s : State) (m : Fin 7) (tag : Nat) : State :=
  match findTag (s.mbx.eps[epOf m]) tag with
  | some o =>
    if o.phase = 4 then
      let s1 := s.modEp (epOf m) (setPhase tag 0)
      { s1 with mbx := { s1.mbx with queue := s1.mbx.queue ++ [((epOf m).val, tag)] } }
    else s
  | none => s

/-- A late copy of a pair (R491). -/
def isLate (s : State) (m : Fin 7) (seq : Word) : Bool :=
  let p := s.mbx.eps[epOf m]
  let known := p.outstanding.any (fun (o : Outstanding) => o.seq == seq) || p.window.any (fun (w : ReplayEntry) => w.seq == seq)
  !known && (s.red.pairs[m]).highest.any (fun h => decide (0 < (h - seq).toInt))

/-- Whether a sequence number is that of an outstanding command, of a window entry, or of a SYNC request still remembered (R478,
R490). -/
def pairKnown (s : State) (m : Fin 7) (seq : Word) : Bool :=
  let p := s.mbx.eps[epOf m]
  p.outstanding.any (fun (o : Outstanding) => o.seq == seq) || p.window.any (fun (w : ReplayEntry) => w.seq == seq) ||
    s.gcl.syncSeen.any (fun (x : Nat × Word) => x.1 == m.val && x.2 == seq)

/-- The copy of a sequence number that a pair remembers: one of an outstanding command or of a window entry (R490); an aborted
command has left none (R508). -/
def pairCopy (s : State) (m : Fin 7) (seq : Word) : Option PairCopy :=
  if pairKnown s m seq then (s.red.pairs[m]).copies.find? (fun c => c.seq == seq) else none

/-- Remember a first copy; as many are kept as commands can be outstanding or in the window. -/
def State.rememberCopy (s : State) (m : Fin 7) (c : PairCopy) : State :=
  s.modPair m (fun p =>
    let rest := p.copies.filter (fun (x : PairCopy) => x.seq != c.seq)
    { p with copies := (rest ++ [c]).drop (rest.length + 1 - 112) })

/-- The other member's copy has come (R490). -/
def State.bothSeen (s : State) (m : Fin 7) (seq : Word) : State :=
  s.modPair m (fun p => { p with
    copies := p.copies.map (fun (c : PairCopy) => if c.seq == seq then { c with both := true } else c) })

/-- Whether a lone copy is taken up at once: FIRST_ARRIVAL, a SINGLE pair, or a lost partner (R492). -/
def loneAtOnce (s : State) (m : Fin 7) (member : Nat) : Bool :=
  let partner := (masterNodes s m).getD (1 - member) 0xFFFF
  s.pAt 1 0x18 0 0x01 m.val == 0 || pairState s m == 3 ||
    s.gcl.nodes.any (fun (e : NodeEntry) => e.addr == partner && e.lost)

/-- Authority is judged against the epoch that a frame carries, while one is in effect (R464). -/
def State.underEpoch (s : State) (ep : Fin 8) (epoch : Word) : State :=
  { s with mbx := { s.mbx with stale := ep != 0 && epochChecked s && epoch.toNat != authEpoch s } }

/-- A copy of a LIVENESS that is replayed: the active member's restarts the timer (R494). -/
def State.liveCopy (s : State) (ep : Fin 8) (tag opcode : Nat) (epoch : Word) : State :=
  if opcode = opLiveness then (liveness (s.underEpoch ep epoch) ep tag).st.underEpoch 0 0 else s

/-- A posting of a pair, checked under R364 and its buffer filled: compared with the other member's copy, held, late, or
taken up (R490 to R496). -/
def State.postPair (s : State) (m : Fin 7) (f : GclFrame) (buf opcode : Nat) : State :=
  let ep := epOf m
  let mem := memberOf s m f.srcNode
  let hash := hash64 f.payload
  let put (t : State) (phase : Nat) : State := t.accept ep f.tag f.seq false buf opcode phase f.srcNode f.src f.epoch
  let c : PairCopy := { seq := f.seq, member := mem, hash := hash, tag := f.tag, at_ := s.tb.mono, both := false, missing := false }
  let held := pairState s m == 2
  match pairCopy s m f.seq with
  | some c0 =>
    if c0.member = mem ∨ c0.both ∨ pairState s m = 3 then
      if held then (put s 5).redCnt 2 else (put s 0).liveCopy ep f.tag opcode f.epoch
    else
      let s1 := (s.redCnt 0).bothSeen m f.seq
      if c0.hash = hash then
        (if held then (put s1 5).redCnt 2 else (put s1 0).liveCopy ep f.tag opcode f.epoch).releaseFirst m c0.tag
      else ((put (s1.disagree m c0 hash) 5).redCnt 2).holdFirst m c0.tag
  | none =>
    if isLate s m f.seq then
      ((put s 0).redCnt 3).finish { ep := ep, tag := f.tag, seq := f.seq } opcode rcLate []
    else
      let s1 := s.rememberCopy m c
      if held then (put s1 5).redCnt 2 else put s1 (if loneAtOnce s m mem then 0 else 4)

/-- Post a descriptor of a master's frame on the endpoint bound to it (R473): every posting gives one RSP. -/
def State.postFrame (s : State) (m : Fin 7) (f : GclFrame) (desc : List Byte) : State :=
  let ep := epOf m
  let opcode := leNat (desc.take 2)
  let s0 := s.modEp ep (fun p => { p with lastSrc := some (f.srcNode, f.src) })
  let no (t : State) (code : BitVec 16) : State :=
    (t.refusePosting ep code).sendRsp ep f.tag f.seq opcode code [] f.srcNode f.src
  match masterRefusal s m f.srcNode f.tag with
  | some code => no s0 code
  | none =>
    match s0.cmdBuffer ep opcode with
    | (none, s1) => no s1 rcNoBuffer
    | (some b, s1) =>
      let s2 := s1.writeBuf b 0 (desc.take 1024)
      if isPair s m then s2.postPair m f b opcode
      else s2.accept ep f.tag f.seq false b opcode 0 f.srcNode f.src f.epoch

/-! ### Takeover and swaps of a pair (R495, R505) -/

/-- BBS-20 with its detail: the master id and the member (R509). -/
def State.raisePair (s : State) (m : Fin 7) (member : Nat) : State :=
  s.raise (ident .bbs 20) 0 0 (BitVec.ofNat 32 (m.val + 256 * member))

/-- Whether a member delivered a master frame within a time. -/
def memberHeard (s : State) (m : Fin 7) (i : Nat) (ns : Nat) : Bool :=
  let v := if i = 1 then (s.red.pairs[m]).lastFrame[1] else (s.red.pairs[m]).lastFrame[0]
  v.any (fun t => !elapsed s t ns)

/-- The standby takes over from an active member that has been silent for TAKEOVER_TIME while it was heard itself (R495). -/
def State.takeover (s : State) (m : Fin 7) : State :=
  let ns := s.p 2 0x18 0 0x0F * 1000000
  let a := activeMember s m
  if (pairState s m = 1 ∨ pairState s m = 2) ∧ memberHeard s m a ns = false ∧ memberHeard s m (1 - a) ns then
    (((s.setPAt 1 0x18 0 0x04 m.val (1 - a)).redCnt 11).orP 0x18 0 0x17 8).raise (ident .bbs 23) 0 0 (BitVec.ofNat 32 m.val)
  else s

/-- SWAP_PERIOD in 1/256 ns. -/
def swapPeriod (s : State) : Nat := s.p 4 0x18 0 0x0B * 256000000000

/-- The last periodic instant at or before now, shifted by an offset, where there is one. -/
def lastPeriod (s : State) (shift : Nat) : Option CellTime :=
  if swapPeriod s = 0 ∨ (now s).toNat < shift then none
  else some (BitVec.ofNat 72 (((now s).toNat - shift) / swapPeriod s * swapPeriod s + shift))

/-- LAST_SWAP (R510). -/
def State.lastSwap (s : State) (t : CellTime) (kind m result : Nat) : State :=
  s.setBytes 0x18 0 0x11 0 (ctBytes t ++ leBytes 1 kind ++ leBytes 1 m ++ leBytes 1 result ++ [0, 0, 0, 0])

/-- The instant of a swap that is due: a commanded one first, else a periodic one that has not been taken (R505, R506). -/
def swapReady (s : State) (kind m shift : Nat) (mark : GridMark) : Option (CellTime × State) :=
  match s.red.swaps.find? (fun x => x.1 == kind && x.2.1 == m && reached x.2.2 (now s)) with
  | some x => some (x.2.2, { s with red := { s.red with swaps := s.red.swaps.erase x } })
  | none =>
    if natBit (s.p 1 0x18 0 0x0C) (kind - 1) then
      match lastPeriod s shift with
      | some t => if freshInstant s mark t then some (t, s) else none
      | none => none
    else none

/-- A swap instant of a pair (R505): in BOTH it swaps its active member, or is refused; a takeover that is due in that cycle comes
first, and the swap is refused (R508). -/
def State.pairSwap (s : State) (m : Fin 7) : State :=
  match swapReady s 1 m.val 0 (s.red.pairs[m]).swapMark with
  | none => s
  | some (t, s0) =>
    let s1 := (s0.modPair m (fun p => { p with swapMark := markNow s t })).takeover m
    let sec := 1000000000
    let a := activeMember s m
    let took := activeMember s1 m != a
    if pairState s m ≠ 1 then s1
    else if !took && memberHeard s m 0 sec && memberHeard s m 1 sec &&
        !(s.red.pairs[m]).lastMissing.any (fun x => !elapsed s x sec) then
      ((s1.setPAt 1 0x18 0 0x04 m.val (1 - a)).redCnt 5).lastSwap t 1 m.val 0
    else (((s1.redCnt 6).orP 0x18 0 0x17 4).raisePair m (1 - a)).lastSwap t 1 m.val 1

/-- The swaps of every pair that are due. -/
def State.pairSwaps (s : State) : State := allMasters.foldl (fun (x : State) m => x.pairSwap m) s

/-! ### Epochs (R500, R501) -/

/-- The tags held for arbitration on a pair's endpoint. -/
def heldTags (s : State) (m : Fin 7) : List (Nat × Word × Nat) :=
  ((s.mbx.eps[epOf m]).outstanding.filter (fun o => o.phase == 5)).map (fun o => (o.tag, o.seq, o.opcode))

/-- Complete every command a pair holds with NOT_AUTHORITY (R500, R501). -/
def State.dropHeld (s : State) (m : Fin 7) : State :=
  (heldTags s m).foldl (fun t x => t.finish { ep := epOf m, tag := x.1, seq := x.2.1 } x.2.2 rcNotAuthority []) s

/-- A pair leaves HELD for a state; BBS-18 and BBS-19 end with the last pair that was held. -/
def State.leaveHeld (s : State) (m : Fin 7) (st : Nat) : State :=
  if pairState s m = 2 then
    let s1 := ((s.dropHeld m).setPAt 1 0x18 0 0x03 m.val st).modPair m (fun p => { p with arbRaised := false })
    if allMasters.any (fun k => pairState s1 k == 2) then s1
    else (s1.endFault (ident .bbs 18) 0 0).endFault (ident .bbs 19) 0 0
  else s.setPAt 1 0x18 0 0x03 m.val st

/-- The device adopts an epoch (R500): held commands end, held pairs become SINGLE, the liveness timer restarts, the epoch is
journalled and reported. -/
def State.adoptEpoch (s : State) (e : Word) (m : Nat) : State :=
  let s1 := (s.setP 4 0x17 0 0x10 e.toNat).setP 1 0x17 0 0x11 m
  let s2 := allMasters.foldl (fun t k => if pairState t k = 2 then t.leaveHeld k 3 else t) s1
  let s3 := if s2.firebreak.liveArmed ∧ s2.firebreak.liveExpired = false then
      s2.modFb (fun f => { f with liveSince := s2.tb.mono }) else s2
  let s4 : State := { s3.redCnt 7 with gcl := { (s3.redCnt 7).gcl with pendingEpoch := none } }
  let report := beBytes 4 e.toNat ++ [BitVec.ofNat 8 m, 0, 0, 0]
  (s4.journalAt 0x0E (leBytes 4 e.toNat ++ leBytes 1 m)).sendRanger 4 report

/-- Adopt the pending epoch once its instant has come, 0 being at once (R481); swaps of the instant come first (R508). -/
def State.adoptDue (s : State) : State :=
  match s.gcl.pendingEpoch with
  | some (e, m, t) => if t = 0 ∨ reached t (now s) then s.pairSwaps.adoptEpoch e m else s
  | none => s

/-! ### GCL_STATE (R471, R472) -/

/-- MISSING. -/
def gclMissing (s : State) : Nat := s.p 4 0x17 0 0x09

/-- GCL_STATE takes a value: LIMITED and DUPLICATE are active faults while they last. -/
def State.setGclState (s : State) (st : Nat) (detail : Word) : State :=
  if gclState s = st then s
  else
    let s1 := s.setP 1 0x17 0 0x0A st
    let s2 := match gclState s with
      | 2 => s1.endFault (ident .bbs 14) 0 0
      | 3 => s1.endFault (ident .bbs 15) 0 0
      | _ => s1
    let s3 := match st with
      | 2 => (s2.orP 0x17 0 0x15 1).raise (ident .bbs 14) 0 0 (BitVec.ofNat 32 (gclMissing s))
      | 3 => ((s2.orP 0x17 0 0x15 2).gclCnt 15).raise (ident .bbs 15) 0 0 detail
      | _ => s2
    s3.rangerCheck.helloSoon

/-- JOINED or LIMITED, as MISSING gives. -/
def joinedState (s : State) : Nat := if gclMissing s = 0 then 1 else 2

end Sys2Proof.Machine
end

