-- ==== Sys2Proof/Machine/Gcl.lean ====
section
/-! DEFINITION. The meanings of the rows of Grathiqua Cell Link protocol (R457 to R488) and of the arbitration frames. -/

namespace Sys2Proof.Machine

/-! ### Receiving (R462 to R464, R499, R501) -/

/-- What an ARB frame meets (R499): EPOCH and SWAP come from the Ranger's node only; QUERY and REPORT are for an acting
Ranger and from a node of NODE_TABLE. -/
def arbVerdict (s : State) (f : GclFrame) : GclVerdict :=
  if f.kind = 1 ∨ f.kind = 3 then
    let r := s.p 2 0x18 0 0x08
    if f.master && f.masterId == 7 && r != 0xFFFF && f.srcNode == r then .taken else .discarded 6
  else if rangerState s = 2 ∧ s.gcl.nodes.any (fun (e : NodeEntry) => e.addr == f.srcNode) = true then .taken
  else .ignored

/-- What a frame meets after the checks of R462: answers and reports are for masters; the commands of an unassigned or
conflicting node only by its address (R472); a SINGLE pair's other member is cut off (R501). -/
def laterVerdict (s : State) (f : GclFrame) : GclVerdict :=
  let cut := gclMaster f.typ f.kind &&
    (allMasters.any (fun (m : Fin 7) => m.val == f.masterId && isPair s m && pairState s m == 3 &&
      memberOf s m f.srcNode != activeMember s m))
  match f.typ, f.kind with
  | 0x11, _ | 0x12, _ | 0x60, _ | 0x03, 2 | 0x40, 2 => .ignored
  | 0x50, _ => arbVerdict s f
  | t, _ =>
    if cut then .discarded 6
    else if (t = 0x10 ∨ t = 0x30) ∧ (gclState s = 0 ∨ gclState s = 3) ∧ f.dstNode ≠ 0xFFFF then .ignored
    else .taken

/-- A master frame of a pair's member is remembered for takeover and swaps (R495, R505). -/
def State.heardMember (s : State) (f : GclFrame) : State :=
  match allMasters.find? (fun m => m.val == f.masterId) with
  | some m =>
    if gclMaster f.typ f.kind && isPair s m then
      let i : Fin 2 := if memberOf s m f.srcNode = 1 then 1 else 0
      s.modPair m (fun p => { p with lastFrame := p.lastFrame.set i (some s.tb.mono) })
    else s
  | none => s

/-- R462: the oldest frame before the logic die that is no topology frame is checked; one that passes waits for the row of
its type. A frame of another EtherType is for nothing here. -/
def execGclFrameReceived (s : State) : Host.Outcome State Fault Refusal :=
  match s.delivered.find? (fun d => d.frame.dst != gclRing) with
  | none => .next s
  | some d =>
    let s1 : State := { s with delivered := s.delivered.erase d }
    if d.frame.etype ≠ BitVec.ofNat 16 (s.p 2 0x17 0 0x03) then .next s1
    else
      match s1.gclReceive d with
      | (s2, none) => .next s2
      | (s2, some f) =>
        match laterVerdict s2 f with
        | .taken =>
          let s3 := s2.heardMember f
          .next { s3 with gcl := { s3.gcl with checked := s3.gcl.checked ++ [f] } }
        | .ignored => .next s2
        | .discarded k => .next ((s2.gclDiscard f.port k).occur (ident .bbs 17) 0 0)

/-- Take the oldest checked frame of a type and kind. -/
def State.takeFrame (s : State) (typ kind : Nat) : Option (GclFrame × State) :=
  match s.gcl.checked.find? (fun f => f.typ == typ && f.kind == kind) with
  | none => none
  | some f => some (f, { s with gcl := { s.gcl with checked := s.gcl.checked.erase f } })

/-! ### Discovery (R469 to R471) -/

/-- The nodes that MASTER_NODES lists. -/
def listedNodes (s : State) : List Nat := (allMasters.flatMap (fun m => masterNodes s m)).filter (fun n => decide (n ≤ 4095))

/-- Any listed node is lost (R470). -/
def anyMasterLost (s : State) : Bool :=
  s.gcl.nodes.any (fun (e : NodeEntry) => e.lost && (listedNodes s).contains e.addr)

/-- NODE_COUNT gives the present entries. -/
def State.setNodes (s : State) (l : List NodeEntry) : State :=
  { s with gcl := { s.gcl with nodes := l } }.setP 2 0x17 0 0x0F (l.filter (fun (e : NodeEntry) => !e.lost)).length

/-- What a HELLO from a node with an address does to NODE_TABLE, to BBS-16, to the node's own state and to a Ranger here
(R470, R471, R502). -/
def State.hello (s : State) (f : GclFrame) : State :=
  let l := f.payload
  let uid := BitVec.ofNat 64 (beAt l 0 8)
  let e : NodeEntry :=
    { addr := f.srcNode, lost := false, versionMax := beAt l 15 1, gclState := beAt l 17 1, role := beAt l 18 1,
      mac := f.src, schema := BitVec.ofNat 64 (beAt l 40 8), authEpoch := BitVec.ofNat 32 (beAt l 28 4),
      authMaster := beAt l 21 1, heard := s.tb.mono }
  let s1 := s.setNodes (s.gcl.nodes.filter (fun (x : NodeEntry) => x.addr != f.srcNode) ++ [e])
  let s2 := if anyMasterLost s1 then s1 else s1.endFault (ident .bbs 16) 0 0
  let conflict := f.srcNode == nodeAddress s && uid != s.sup.fuses.uniqueId
  let s3 := if conflict then
      let s4 : State := { s2 with gcl := { s2.gcl with conflictAt := s2.tb.mono } }
      if gclState s = 1 ∨ gclState s = 2 then s4.setGclState 3 (uid.setWidth 32) else s4
    else s2
  if natBit e.role 1 ∧ f.srcNode < nodeAddress s ∧ rangerState s3 ≠ 0 then
    let s5 : State := { s3 with red := { s3.red with rangerHeard := s3.tb.mono } }
    if rangerState s3 = 3 then s5
    else
      let s6 := (s5.setP 1 0x18 0 0x13 3).orP 0x18 0 0x17 32
      let s7 : State := { s6 with red := { s6.red with issued := none } }
      s7.raise (ident .bbs 22) 0 0
  else s3

/-- R470: a HELLO; one from an unassigned node is counted only. -/
def execHelloReceived (s : State) : Host.Outcome State Fault Refusal :=
  match s.takeFrame 0x01 0 with
  | none => .next s
  | some (f, s1) =>
    let s2 := s1.gclCnt 9
    .next (if f.srcNode ≤ 4095 then (s2.hello f).rangerSucceed else s2)

/-- The payload of a HELLO (R469). -/
def helloPayload (s : State) : List Byte :=
  let role := (if s.p 1 0x04 0 0x06 = 1 then 1 else 0) + (if s.p 1 0x18 0 0x09 = 1 then 2 else 0)
  beBytes 8 s.sup.fuses.uniqueId.toNat ++ beBytes 2 3280 ++ beBytes 1 s.sup.fuses.grade ++ [0xC0] ++ beBytes 2 0x0304 ++
  [0x20, 0x31] ++ beBytes 1 (operVersion s) ++ beBytes 1 (gclState s) ++ beBytes 1 role ++ beBytes 1 s.tb.state ++
  [if s.tb.uncertain then 1 else 0] ++ beBytes 1 (s.p 1 0x17 0 0x11) ++ beBytes 2 (s.p 2 0x17 0 0x0B) ++
  beBytes 4 0xFF ++ beBytes 4 (authEpoch s) ++ beBytes 8 (s.p 8 0x01 0 0x08) ++ beBytes 8 (s.p 8 0x0E 0 0x06) ++
  beBytes 2 s.canopy.sourceEpoch.toNat ++ [0, 0] ++ beBytes 8 s.tb.gmIdentity.toNat ++ s.sup.fuses.dies

/-- R469: a HELLO on every port whose link is up, every HELLO_INTERVAL and where an event calls for one. -/
def execHelloSend (s : State) : Host.Outcome State Fault Refusal :=
  let due := s.gcl.helloDue || sinceLast s s.gcl.helloAt (s.p 2 0x17 0 0x0B * 1000000)
  if due && s.ports.toList.any (fun p => p.up) then
    let s1 : State := { s with gcl := { s.gcl with helloDue := false, helloAt := some s.tb.mono } }
    .next ((s1.sendGcl (ownFrame 0x01 0 gclAll 0xFFFE (helloPayload s1))).gclCnt 10)
  else .next s

/-- NODE_TIMEOUT in ns. -/
def nodeTimeoutNs (s : State) : Nat := s.p 2 0x17 0 0x0C * 1000000

/-- R470, R503: a node's entry becomes lost. -/
def execNodeTimeout (n : Nat) (s : State) : Host.Outcome State Fault Refusal :=
  match presentNode s n with
  | none => .next s
  | some e =>
    if elapsed s e.heard (nodeTimeoutNs s) then
      let s1 := s.setNodes (s.gcl.nodes.map (fun (x : NodeEntry) => if x.addr == n then { x with lost := true } else x))
      let s2 := if (listedNodes s).contains n then
          (s1.orP 0x17 0 0x15 4).raise (ident .bbs 16) 0 0 (BitVec.ofNat 32 n) else s1
      .next s2.rangerSucceed
    else .next s

/-- R471: no conflicting HELLO for NODE_TIMEOUT. -/
def execDuplicateTimeout (s : State) : Host.Outcome State Fault Refusal :=
  if gclState s = 3 ∧ elapsed s s.gcl.conflictAt (nodeTimeoutNs s) then .next (s.setGclState (joinedState s) 0)
  else .next s

/-! ### Versions (R467) -/

/-- The highest supported version at or below a proposal; 2.0 below every one. -/
def chooseVersion (v : Nat) : Nat := if v ≥ 0x31 then 0x31 else if v ≥ 0x30 then 0x30 else if v ≥ 0x21 then 0x21 else 0x20

/-- The NEGOTIATE response (R467). -/
def State.answerNegotiate (s : State) (f : GclFrame) (st : Nat) : State :=
  let v := operVersion s
  let payload := beBytes 1 v ++ beBytes 1 st ++ [0, 0] ++ beBytes 4 (featuresAt v) ++ beBytes 4 (gclMissing s)
  s.sendGcl { ownFrame 0x03 2 f.src f.srcNode payload with masterId := f.masterId }

/-- R467: a NEGOTIATE request of the master holding authority; any other changes nothing. -/
def execGclNegotiate (s : State) : Host.Outcome State Fault Refusal :=
  match s.takeFrame 0x03 1 with
  | none => .next s
  | some (f, s1) =>
    if !frameAuthority s f then .next (s1.answerNegotiate f 0xFF)
    else
      let proposed := beAt f.payload 0 1
      let required := beAt f.payload 4 4
      let v := chooseVersion proposed
      let missing := if proposed < 0x20 then required else required &&& (0xFFFFFFFF ^^^ featuresAt v)
      let last := leBytes 2 f.srcNode ++ leBytes 1 f.masterId ++ leBytes 1 v ++ leBytes 4 required ++ leBytes 4 missing ++
        leBytes 4 (ctNs (now s))
      let s2 := (((s1.setP 1 0x17 0 0x06 v).setP 4 0x17 0 0x08 required).setP 4 0x17 0 0x09 missing).setBytes 0x17 0 0x16 0 last
      let s3 := if gclState s = 1 ∨ gclState s = 2 then s2.setGclState (joinedState s2) 0 else s2
      .next (s3.answerNegotiate f (gclState s3))

/-! ### Commands and schedules (R473, R474, R477) -/

/-- The master id of a frame that passed the master check. -/
def masterFin (n : Nat) : Fin 7 := ⟨n % 7, by omega⟩

/-- R473: the oldest CMD frame is posted; an epoch whose instant has come is adopted first (R508). -/
def execCmdFrame (s : State) : Host.Outcome State Fault Refusal :=
  match s.adoptDue.takeFrame 0x10 0 with
  | none => .next s.adoptDue
  | some (f, s1) => .next (s1.postFrame (masterFin f.masterId) f f.payload)

/-- The entries of a SCHED frame for this node (R477). -/
def schedEntries (s : State) (f : GclFrame) : List (List Byte) :=
  ((List.range (beAt f.payload 0 1)).map (fun (i : Nat) => (f.payload.drop (4 + 28 * i)).take 28)).filterMap
    (fun (r : List Byte) => if beAt r 0 2 = nodeAddress s then some (r.drop 4) else none)

/-- R477: the entries for this node are posted as one SCHEDULE_OUTPUT; a frame without one is answered by nothing. -/
def execSchedFrame (s : State) : Host.Outcome State Fault Refusal :=
  match s.adoptDue.takeFrame 0x30 0 with
  | none => .next s.adoptDue
  | some (f, s1) =>
    let es := schedEntries s f
    if es.isEmpty then .next s1
    else
      let body := ([BitVec.ofNat 8 es.length, 0, 0, 0] ++ es.flatten).take 1016
      .next (s1.postFrame (masterFin f.masterId) f (leBytes 2 0x0030 ++ [0, 0] ++ leBytes 2 body.length ++ [0, 0] ++ body))

/-- The enabled device-to-host bits of an endpoint. -/
def enabledBits (s : State) (ep : Fin 8) : Word := (s.mbx.eps[ep]).db &&& (s.mbx.eps[ep]).mask

/-- Send a NOTIFY of an endpoint to the nodes of its master (R474); with an entry of any node, to the sender of the last CMD.
Its STREAM_SEQ, of which the spec says only that it is not the count of own frames, is a free value (R461). -/
def State.sendNotify (s : State) (ep : Fin 8) : State :=
  if operVersion s < 0x31 then s
  else
    let p := s.mbx.eps[ep]
    let (node, mac) := p.lastSrc.getD (0xFFFF, 0)
    let payload := beBytes 1 ep.val ++ [0, 0, 0] ++ beBytes 4 p.db.toNat ++ beBytes 4 p.mask.toNat
    let ts := masterTargets s (ep.val - 1) node mac
    let (seq, s0) := s.draw
    let s1 := ts.foldl (fun t d => (t.sendGcl { ownFrame 0x12 0 d.1 d.2 payload with
      masterId := ep.val - 1, seq := some (BitVec.ofNat 32 seq) }).gclCnt 11) s0
    let n : NotifyState := { bits := enabledBits s ep, at_ := s.tb.mono }
    { s1 with gcl := { s1.gcl with notify := s1.gcl.notify.set ep n } }

/-- R474: an enabled bit that has become set is notified. -/
def execNotify (ep : Fin 8) (s : State) : Host.Outcome State Fault Refusal :=
  if ep ≠ 0 ∧ enabledBits s ep &&& ~~~(s.gcl.notify[ep]).bits ≠ 0 then .next (s.sendNotify ep) else .next s

/-- R474: the NOTIFY is sent again every NOTIFY_REPEAT while an enabled bit stays set. -/
def execNotifyRepeat (ep : Fin 8) (s : State) : Host.Outcome State Fault Refusal :=
  let r := s.p 2 0x17 0 0x12
  if ep ≠ 0 ∧ r ≠ 0 ∧ enabledBits s ep ≠ 0 ∧ elapsed s (s.gcl.notify[ep]).at_ (r * 1000000) then .next (s.sendNotify ep)
  else .next s

/-! ### Decimator synchronisation (R478 to R480) -/

/-- The channels that listen to GCL: SYNC_ENABLE bit 1 (R478). -/
def syncChannels (s : State) : List (Fin 16) := allU.filter (fun (u : Fin 16) => natBit (s.p 1 0x08 u 0x07) 1)

/-- The SYNC result (R479), to the nodes of R473; its STREAM_SEQ is a free value, as a NOTIFY frame's (R461). -/
def State.sendSyncResult (s : State) (f : GclFrame) (code : BitVec 16) (mask : Nat) (a : CellTime) : State :=
  let payload := beBytes 4 f.seq.toNat ++ beBytes 2 code.toNat ++ beBytes 2 mask ++ beBytes 8 (ctNs a) ++
    beBytes 1 (ctFrac a) ++ [0, 0, 0]
  let (seq, s1) := s.draw
  s1.sendMaster f.masterId f.srcNode f.src (fun mac node =>
    { ownFrame 0x40 2 mac node payload with masterId := f.masterId, seq := some (BitVec.ofNat 32 seq) })

/-- A request with a code (R478): what a refusal carries, `none` where it may act. -/
def syncRefusal (s : State) (f : GclFrame) : Option (BitVec 16) :=
  if !frameAuthority s f then some rcNotAuthority
  else if operVersion s < 0x30 ∨ gclState s = 2 then some rcVersion
  else none

/-- One of the last 16 SYNC requests of a master (R478). -/
def syncKnown (s : State) (f : GclFrame) : Bool := s.gcl.syncSeen.any (fun (x : Nat × Word) => x.1 == f.masterId && x.2 == f.seq)

/-- Remember a SYNC request; 16 of each master are kept. -/
def State.seeSync (s : State) (f : GclFrame) : State :=
  let mine := s.gcl.syncSeen.filter (fun (x : Nat × Word) => x.1 == f.masterId)
  let rest := s.gcl.syncSeen.filter (fun (x : Nat × Word) => x.1 != f.masterId)
  { s with gcl := { s.gcl with syncSeen := rest ++ (mine ++ [(f.masterId, f.seq)]).drop (mine.length + 1 - 16) } }

/-- A SYNC request of a pair is compared with the other member's (R490). -/
def State.compareSync (s : State) (f : GclFrame) : State :=
  let m := masterFin f.masterId
  if !isPair s m then s
  else
    let mem := memberOf s m f.srcNode
    match pairCopy s m f.seq with
    | some c =>
      if c.member = mem ∨ c.both ∨ pairState s m = 3 then s
      else
        let s1 := (s.redCnt 0).bothSeen m f.seq
        if c.hash = hash64 f.payload then s1 else s1.disagree m c (hash64 f.payload)
    | none => s.rememberCopy m { seq := f.seq, member := mem, hash := hash64 f.payload, tag := 0xFF, at_ := s.tb.mono,
                                 both := false, missing := false }

/-- The instant at which a requested synchronisation happens: the first wide-tap instant at or after it (R161). -/
def syncActual (t : CellTime) : CellTime := BitVec.ofNat 72 (perTime (tapAfter t.toNat))

/-- The mask of a list of universal channels. -/
def channelMask (us : List (Fin 16)) : Nat := us.foldl (fun n (u : Fin 16) => n + 2 ^ u.val) 0

/-- The request goes to the channels, and its SYNC_RESULT where the frame asks for one or the instant is too near. -/
def State.answerSync (s : State) (f : GclFrame) (us : List (Fin 16)) (t : CellTime) : State :=
  let r := s.requestSync us t 1
  if r.1 = false then (r.2.gclCnt 14).sendSyncResult f rcLate 0 (syncActual t)
  else if natBit f.flags 0 then r.2.sendSyncResult f 0 (channelMask us) (syncActual t)
  else r.2

/-- R478: a SYNC request; one seen before is ignored and counted. -/
def execSyncRequest (s : State) : Host.Outcome State Fault Refusal :=
  match s.adoptDue.takeFrame 0x40 1 with
  | none => .next s.adoptDue
  | some (f, s1) =>
    let s2 := s1.compareSync f
    if syncKnown s f then .next (s2.gclCnt 7)
    else
      let s3 := s2.seeSync f
      match syncRefusal s1 f with
      | some code => .next ((s3.gclCnt 14).sendSyncResult f code 0 0)
      | none =>
        .next (s3.answerSync f (syncChannels s) (ctMk (beAt f.payload 0 8) (beAt f.payload 8 1)))

/-! ### Journal frames (R482) -/

/-- R482: up to 32 waiting records leave in one JOURNAL frame. -/
def execJournalFrameSend (s : State) : Host.Outcome State Fault Refusal :=
  let rs := s.gcl.journalQ.take 32
  if rs.isEmpty then .next s
  else
    let payload := beBytes 1 rs.length ++ [if s.gcl.journalLostFlag then 1 else 0, 0, 0] ++ beBytes 4 s.gcl.journalSeq.toNat ++
      (rs.map faultBytes).flatten
    let s1 := ((s.sendGcl (ownFrame 0x60 0 gclMasters 0xFFFE payload)).gclCnt 12).setP 4 0x17 0 0x13 s.gcl.journalSeq.toNat
    .next { s1 with gcl := { s1.gcl with
      journalQ := s.gcl.journalQ.drop 32, journalLostFlag := false, journalSeq := s.gcl.journalSeq + 1 } }

/-! ### Arbitration frames (R481, R499, R503, R505) -/

/-- R481: an EPOCH frame; one whose instant has come is adopted at once. -/
def execArbEpoch (s : State) : Host.Outcome State Fault Refusal :=
  match s.takeFrame 0x50 1 with
  | none => .next s
  | some (f, s1) =>
    let m := beAt f.payload 4 1
    if 6 < m then .next s1
    else .next ((s1.takeEpoch (BitVec.ofNat 32 (beAt f.payload 0 4)) m (ctMk (beAt f.payload 8 8) (beAt f.payload 16 1))).adoptDue)

/-- R500: at EFFECTIVE the device adopts the epoch. -/
def execEpochEffective (s : State) : Host.Outcome State Fault Refusal := .next s.adoptDue

/-- R505: a SWAP frame sets a swap of a pair or of the ring direction. -/
def execArbSwap (s : State) : Host.Outcome State Fault Refusal :=
  match s.takeFrame 0x50 3 with
  | none => .next s
  | some (f, s1) =>
    let kind := beAt f.payload 0 1
    let m := beAt f.payload 1 1
    let t := ctMk (beAt f.payload 4 8) (beAt f.payload 12 1)
    if kind = 2 ∨ (kind = 1 ∧ m ≤ 6) then .next { s1 with red := { s1.red with swaps := s1.red.swaps ++ [(kind, if kind = 2 then 0 else m, t)] } }
    else .next s1

/-- R503: a QUERY reaches the acting Ranger. -/
def execArbQuery (s : State) : Host.Outcome State Fault Refusal :=
  match s.takeFrame 0x50 2 with
  | none => .next s
  | some (_, s1) => .next s1.rangerQuery

/-- R503: a REPORT with a lower epoch has the current EPOCH frame sent again. -/
def execArbReport (s : State) : Host.Outcome State Fault Refusal :=
  match s.takeFrame 0x50 4 with
  | none => .next s
  | some (f, s1) =>
    match s.red.issued with
    | some (e, m, t) =>
      if rangerState s = 2 ∧ beAt f.payload 0 4 < e.toNat then .next (s1.sendEpoch e m t) else .next s1
    | none => .next s1

end Sys2Proof.Machine
end

