-- ==== Sys2Proof/Machine/Redundancy.lean ====
section
/-! DEFINITION. The meanings of the timed rows of Redundant masters, Ranger arbitration and role swaps (R489 to R510). -/

namespace Sys2Proof.Machine

/-! ### Pairs (R493 to R497, R501) -/

/-- R492, R493: the oldest lone copy of a pair that has waited PAIR_WAIT; a command that waited for it is taken up. A pair in BOTH
counts the copy that is missing. -/
def execPairWaitExpiry (m : Fin 7) (s : State) : Host.Outcome State Fault Refusal :=
  let due (c : PairCopy) : Bool := !c.both && !c.missing && elapsed s c.at_ (s.p 2 0x18 0 0x02 * 1000)
  match (s.red.pairs[m]).copies.find? due with
  | none => .next s
  | some c =>
    let s1 := s.modPair m (fun p => { p with
      copies := p.copies.map (fun (x : PairCopy) => if x.seq == c.seq then { x with missing := true } else x) })
    let s2 := if pairState s m = 1 then
        (((s1.modPair m (fun p => { p with lastMissing := some s.tb.mono })).redCnt 4).orP 0x18 0 0x17 2).raisePair m (1 - c.member)
      else s1
    .next (s2.releaseFirst m c.tag)

/-- R495: TAKEOVER. -/
def execTakeover (m : Fin 7) (s : State) : Host.Outcome State Fault Refusal := .next (s.takeover m)

/-- The QUERY of a held pair (R481, R497); a Ranger hosted here decides it itself. -/
def State.sendQuery (s : State) (m : Fin 7) : State :=
  let (seq, h1, h2) := (s.red.pairs[m]).dispute
  let payload := beBytes 1 m.val ++ beBytes 1 (m.val + 1) ++ [0, 0] ++ beBytes 4 seq.toNat ++ beBytes 8 h1.toNat ++
    beBytes 8 h2.toNat
  let s1 := (s.redCnt 8).modPair m (fun p => { p with querySent := some s.tb.mono })
  if s.p 2 0x18 0 0x08 = nodeAddress s then s1.rangerQuery else s1.sendRanger 2 payload

/-- R497: on entering HELD and every QUERY_REPEAT. -/
def execQueryRepeat (m : Fin 7) (s : State) : Host.Outcome State Fault Refusal :=
  let due := (s.red.pairs[m]).querySent.all (fun t => elapsed s t (s.p 2 0x18 0 0x0E * 1000000))
  if pairState s m = 2 ∧ s.p 2 0x18 0 0x08 ≠ 0xFFFF ∧ due then .next (s.sendQuery m) else .next s

/-- R497: HELD for ARB_TIMEOUT. -/
def execArbTimeout (m : Fin 7) (s : State) : Host.Outcome State Fault Refusal :=
  let p := s.red.pairs[m]
  if pairState s m = 2 ∧ p.arbRaised = false ∧ elapsed s p.heldAt (s.p 2 0x18 0 0x0D * 1000000) then
    .next ((s.modPair m (fun k => { k with arbRaised := true })).raise (ident .bbs 19) 0 0 (BitVec.ofNat 32 m.val))
  else .next s

/-- PAIR_READMIT (R501): the pair returns to BOTH. -/
def pairReadmit (s : State) (m : Nat) : CmdRes :=
  if m ≤ 6 then
    if isPair s m then okRes (s.leaveHeld (masterFin m) 1) else okRes s
  else refuse s rcOutOfRange

/-- R501: a write of PAIR_READMIT. -/
def execPairReadmit (q : Req) (m : Nat) (s : State) : Host.Outcome State Fault Refusal :=
  .next ((guardWrite s q (pairReadmit s m)).finish q opSetParam)

/-! ### The Ranger's timers (R502, R503) -/

/-- The highest AUTH_EPOCH of its own and of every HELLO received, with its master (R502). -/
def heardEpoch (s : State) : Word × Nat :=
  s.gcl.nodes.foldl (fun (x : Word × Nat) (e : NodeEntry) => if x.1 < e.authEpoch then (e.authEpoch, e.authMaster) else x)
    (BitVec.ofNat 32 (authEpoch s), authMaster s)

/-- R502: the listening Ranger acts after NODE_TIMEOUT with the next epoch. -/
def execRangerListenTimeout (s : State) : Host.Outcome State Fault Refusal :=
  if rangerState s = 1 ∧ elapsed s s.red.rangerSince (nodeTimeoutNs s) then
    let (e, m) := heardEpoch s
    .next ((s.setP 1 0x18 0 0x13 2).issueEpoch (e + 1) (if e = 0 then s.p 1 0x18 0 0x06 else m)).rangerSucceed
  else .next s

/-- R503: the EPOCH frame of the current epoch every 1 s. -/
def execRangerEpochRepeat (s : State) : Host.Outcome State Fault Refusal :=
  match s.red.issued with
  | some (e, m, t) =>
    if rangerState s = 2 ∧ elapsed s s.red.lastRepeat 1000000000 then .next (s.sendEpoch e m t) else .next s
  | none => .next s

/-- R502: no HELLO of a lower Ranger for NODE_TIMEOUT. -/
def execRangerStandDownTimeout (s : State) : Host.Outcome State Fault Refusal :=
  if rangerState s = 3 ∧ elapsed s s.red.rangerHeard (nodeTimeoutNs s) then
    let s1 := (s.setP 1 0x18 0 0x13 1).endFault (ident .bbs 22) 0 0
    .next { s1 with red := { s1.red with rangerSince := s1.tb.mono } }
  else .next s

/-! ### Swaps (R505, R506) -/

/-- R505: a pair in BOTH swaps its active member, or is refused. -/
def execPairSwapInstant (m : Fin 7) (s : State) : Host.Outcome State Fault Refusal := .next (s.pairSwap m)

/-- R506: the root of a closed ring exchanges its blocked port; elsewhere the swap is ignored. -/
def execRingSwapInstant (s : State) : Host.Outcome State Fault Refusal :=
  match swapReady s 2 0 (swapPeriod s / 2) s.red.swapMark with
  | none => .next s
  | some (t, s0) =>
    let s1 : State := { s0 with red := { s0.red with swapMark := markNow s t } }
    match isRoot s && ringState s == 1, s.red.blocked.bind (otherRing s) with
    | true, some o =>
      let s2 : State := { s1 with red := { s1.red with blocked := some o, ringGuard := some (o, s1.tb.mono) } }
      .next (((s2.sendRing 3).redCnt 5).lastSwap t 2 0 0)
    | _, _ => .next (s1.lastSwap t 2 0 2)

/-! ### Ring copies (R507) -/

/-- R507: a second copy that has not come within 1 ms counts against the port it should have come by, while both ring ports are
up. -/
def execRingCopyMissing (s : State) : Host.Outcome State Fault Refusal :=
  match s.red.ringWatch.find? (fun x => elapsed s x.at_ 1000000) with
  | none => .next s
  | some x =>
    let s1 : State := { s with red := { s.red with ringWatch := s.red.ringWatch.erase x } }
    match otherRing s x.port with
    | none => .next s1
    | some o =>
      let k := if (ringPorts s).head? = some o then 9 else 10
      if !(inRing s && s.ports[x.port].up && s.ports[o].up) then .next s1
      else .next (((s1.redCnt k).orP 0x18 0 0x17 16).occur (ident .bbs 21) 8 o)

end Sys2Proof.Machine
end

