-- ==== Sys2Proof/Machine/MspOps.lean ====
section
/-! DEFINITION. The shared operations of the memory serial port: its queue and arbitration (R514 to R521), and the writes and
erases that the execute-in-place window translates (R522 to R525). -/

namespace Sys2Proof.Machine

/-- Change the memory serial port. -/
def State.modMsp (s : State) (g : Msp → Msp) : State := { s with msp := g s.msp }

/-! ### The queue and the arbitration -/

/-- A requester's share of the 32 entries (R516). -/
def mspShare (r : Nat) : Nat := [2, 4, 2, 8, 16].getD r 0

/-- The entries of a requester. -/
def mspLevel (s : State) (r : Nat) : Nat := (s.msp.entries.filter (fun e => e.requester == r)).length

/-- The priority in effect of a requester (R518). -/
def mspPrio (s : State) (r : Nat) : Nat := s.pAt 1 0x19 0 0x09 r

/-- Whether a waiting entry may be granted: while a power-fail commit runs only requesters 0 and 1 are (R518), and a fill waits
while the NOR programs or erases and is not suspended (R525). -/
def mspGrantable (s : State) (e : MspEntry) : Bool :=
  !e.active && !(s.sup.powerFail && 2 ≤ e.requester) &&
    !(e.requester == 0 && s.msp.norOp.any (fun o => !o.suspended))

/-- Whether the second entry ranks before the first, which is older: a higher priority, or a lower requester among equals;
during a power-fail commit the journal writer ranks above every priority (R517, R518). -/
def mspBefore (s : State) (a b : MspEntry) : Bool :=
  let pf (e : MspEntry) : Nat := if s.sup.powerFail && e.requester == 1 then 8 else mspPrio s e.requester
  decide (pf a < pf b) || (pf a == pf b && decide (b.requester < a.requester))

/-- The place in the queue of the entry that a decision grants. -/
def mspPick (s : State) : Option Nat :=
  (List.range s.msp.entries.length).foldl (fun (best : Option Nat) i =>
    match s.msp.entries[i]? with
    | none => best
    | some e =>
      if mspGrantable s e then
        match best.bind (fun k => s.msp.entries[k]?) with
        | none => some i
        | some a => if mspBefore s a e then some i else best
      else best) none

/-- Grant the entry at a place: its wait is kept, and a fill that waited over 100 µs counts and sets DIAG.XIP_STALL (R544,
R541). -/
def State.mspGrant (s : State) (i hold : Nat) : State :=
  match s.msp.entries[i]? with
  | none => s
  | some e =>
    let ns := (s.tb.mono - e.queued).toNat / 2 ^ 32
    let g := { e with active := true, wait := min 0xFFFF (ns / 1000) }
    let r : Fin 5 := ⟨e.requester % 5, by omega⟩
    let s1 := s.modMsp (fun m => { m with
      entries := m.entries.set i g, holdCount := hold, cont := none, grants := m.grants.set r (m.grants[r] + 1) })
    let s2 := if s.pAt 4 0x19 0 0x13 (4 * r.val) < ns then s1.setPAt 4 0x19 0 0x13 (4 * r.val) (min 0xFFFFFFFF ns) else s1
    if e.requester = 0 ∧ 100000 < ns then (s2.incAt 4 0x19 0 0x12 4).orP 0x19 0 0x16 4 else s2

/-- An arbitration decision, taken where the bus is free (R517). -/
def State.arbitrate (s : State) : State :=
  if s.msp.entries.any (fun e => e.active) || s.msp.cont.isSome then s
  else
    match mspPick s with
    | none => s
    | some i => s.mspGrant i (if (s.msp.entries[i]?).any (fun e => e.requester == 4) then 1 else 0)

/-- The waiting entries that would have gone on with the sequence of an endpoint, up to the first without CONTINUE, are marked:
the select was released before them (R521). -/
def breakSequence (ep : Nat) : List MspEntry → List MspEntry
  | [] => []
  | e :: rest =>
    if e.requester == 4 && e.endpoint == ep && !e.active then
      { e with broken := true } :: (if e.cont then breakSequence ep rest else rest)
    else e :: breakSequence ep rest

/-- A sequence of user entries ends other than by CONTINUE clear: SPLITS, DIAG.SPLIT and MSP-08 (R519). -/
def State.mspSplit (s : State) (ep : Nat) : State :=
  let rest := if s.sup.powerFail then breakSequence ep s.msp.entries else s.msp.entries
  ((((s.modMsp (fun m => { m with entries := rest, holdCount := 0, cont := none })).inc 4 0x19 0 0x14).orP 0x19 0 0x16 1).raise
    (ident .msp 8) 9 ep).arbitrate

/-- The place of the next waiting user entry of an endpoint. -/
def nextUser (s : State) (ep : Nat) : Option Nat :=
  (List.range s.msp.entries.length).find? (fun i =>
    (s.msp.entries[i]?).any (fun e => e.requester == 4 && e.endpoint == ep && !e.active))

/-- A completed read entry of an endpoint in USER_READ (R521). -/
def userReadElement (e : MspEntry) (data : List Byte) : List Byte :=
  leBytes 4 e.number ++ leBytes 2 (if e.broken then rcMemoryFailure.toNat else 0) ++ leBytes 2 (e.dataBits / 8) ++
    (data ++ List.replicate 1024 0).take 1024

/-- The end of a user entry: its sequence goes on, waits, splits or ends (R519). -/
def State.endUser (s : State) (e : MspEntry) : State :=
  if !e.cont then (s.modMsp (fun m => { m with holdCount := 0 })).arbitrate
  else if s.p 1 0x19 0 0x0A ≤ s.msp.holdCount || s.sup.powerFail then s.mspSplit e.endpoint
  else
    match nextUser s e.endpoint with
    | some i => s.mspGrant i (s.msp.holdCount + 1)
    | none => s.modMsp (fun m => { m with cont := some (e.endpoint, s.tb.mono) })

/-- Queue an entry; it runs at once on an idle bus, or where it continues the sequence that holds the bus. -/
def State.mspQueue (s : State) (e : MspEntry) : State :=
  let n := s.msp.entries.length
  let s1 := s.modMsp (fun m => { m with entries := m.entries ++ [e] })
  match s.msp.cont with
  | some (ep, _) => if e.requester = 4 ∧ e.endpoint = ep then s1.mspGrant n (s.msp.holdCount + 1) else s1
  | none => s1.arbitrate

/-- A fill of the line that holds an address: 8 command bits, 32 address bits, 8 dummy cycles on four lanes and 512 data bits
(R519's example). -/
def fillEntry (s : State) (addr : Nat) : MspEntry :=
  { requester := 0, select := 0, cont := false, read := true, lanes := 2, bits := 584,
    target := BitVec.ofNat 32 (addr / 64 * 64), endpoint := 0xFF, active := false, queued := s.tb.mono, wait := 0,
    number := 0, dataBits := 512,
    broken := false }

/-- The NOR operation in progress is suspended (R525). -/
def State.suspendNor (s : State) : State :=
  s.modMsp (fun m => { m with norOp := m.norOp.map (fun o => { o with suspended := true }) })

/-! ### User transfers (R520) -/

/-- A user entry as the 64 bytes of USER_XFER lay it out. -/
structure XferReq where
  select : Nat
  flags : Nat
  lanes : Nat
  cmdBytes : Nat
  dummy : Nat
  wordBits : Nat
  dataBits : Nat
  cmd : List Byte
  buf : Nat

/-- The fields of USER_XFER. -/
def xferReq (v : List Byte) : XferReq :=
  let b (i : Nat) : Nat := (v.getD i 0).toNat
  { select := b 0, flags := b 1, lanes := b 2, cmdBytes := b 3, dummy := b 4, wordBits := b 5,
    dataBits := b 6 + 256 * b 7, cmd := (v.drop 8).take 8, buf := b 16 }

/-- The lanes of a two-bit code. -/
def laneCount (c : Nat) : Nat := if c = 0 then 1 else if c = 1 then 2 else 4

/-- The bits of R514 that the entry clocks. -/
def xferBits (x : XferReq) : Nat := 8 * x.cmdBytes + x.dummy * laneCount (x.lanes / 4 % 4) + x.dataBits

/-- A byte of the configuration of a user select. -/
def userSelect (s : State) (sel off : Nat) : Nat := s.pAt 1 0x19 0 0x08 (8 * (sel - 2) + off)

/-- The checks of R520 in their order, on a value whose fields lie in their ranges. -/
def xferCheck (s : State) (ep : Fin 8) (x : XferReq) : Option (BitVec 16) :=
  let shape := x.flags < 8 && x.lanes < 16 && x.lanes % 4 != 3 && x.lanes / 4 != 3 && x.cmdBytes ≤ 8 && x.dummy ≤ 31 &&
    (x.wordBits == 0 || (8 ≤ x.wordBits && x.wordBits ≤ 32)) && x.dataBits % 8 == 0
  let lanesOk := max (laneCount (x.lanes % 4)) (laneCount (x.lanes / 4 % 4)) ≤ userSelect s x.select 3
  if !shape then some rcOutOfRange
  else if !((x.select == 2 || x.select == 3) && userSelect s x.select 0 == 1 && lanesOk) then some rcOutOfRange
  else if 8192 < xferBits x || (x.flags / 2 % 4 == 0 && 384 < x.dataBits) then some rcOutOfRange
  else if natBit x.flags 2 && !(ep == 0 && heldBy s x.buf 0) then some rcNoBuffer
  else if mspShare 4 ≤ mspLevel s 4 then some rcLocked
  else none

/-- The user entry that an accepted write queues; `number` counts the endpoint's user entries from 0 (R521). -/
def xferEntry (s : State) (ep : Fin 8) (x : XferReq) : MspEntry :=
  { requester := 4, select := x.select, cont := natBit x.flags 0, read := natBit x.flags 1, lanes := x.lanes / 4 % 4,
    bits := xferBits x, target := BitVec.ofNat 32 (leNat ((x.cmd.take (min 4 x.cmdBytes)))), endpoint := ep.val,
    active := false, queued := s.tb.mono, wait := 0, number := s.msp.userCount[ep].toNat, dataBits := x.dataBits,
    broken := false }

/-- A write of USER_XFER completes OK when its entry is queued (R520). -/
def userXfer (s : State) (ep : Fin 8) (v : List Byte) : CmdRes :=
  let x := xferReq v
  if v.length ≠ 64 then refuse s rcBadParam
  else
    match xferCheck s ep x with
    | some code => refuse s code
    | none =>
      let s1 := s.modMsp (fun m => { m with userCount := m.userCount.set ep (m.userCount[ep] + 1) })
      okRes (s1.mspQueue (xferEntry s ep x))

/-- A write of ARB_PRIORITY; the next decision uses it (R518). -/
def arbPriority (s : State) (v : List Byte) : CmdRes :=
  if v.length ≠ 5 then refuse s rcBadParam
  else if v.any (fun b => decide (7 < b.toNat)) then refuse s rcOutOfRange
  else okRes (s.setBytes 0x19 0 0x09 0 v)

/-! ### Translated writes and erases -/

/-- NOR_STATE (P19.00.01). -/
def norState (s : State) : Nat :=
  if !s.msp.norPresent then 0
  else if s.msp.norFail then 3
  else if s.msp.norOp.isSome || s.sup.persist.isSome || s.sup.calWrite.isSome then 2
  else 1

/-- The density of the NOR in bytes. -/
def norSize (s : State) : Nat := norDensity s * 131072

/-- Whether a range touches the mirror of the factory calibration (R523, R524). -/
def touchesMirror (addr n : Nat) : Bool := decide (addr < 0x10000) && decide (0xC000 < addr + n)

/-- An ignored write or erase (R523). -/
def State.writeIgnored (s : State) : State := (s.inc 4 0x19 0 0x15).orP 0x19 0 0x16 8

/-- The cache lines that a range touches are invalidated (R556). -/
def State.invalidate (s : State) (addr n : Nat) : State :=
  if n = 0 then s
  else { s with sup := { s.sup with
    cacheInval := s.sup.cacheInval + BitVec.ofNat 16 ((addr + n - 1) / 64 - addr / 64 + 1) } }

/-- Start programming the gathered page (R523). -/
def State.programGathered (s : State) : State :=
  match s.msp.gatherPage with
  | none => s
  | some p =>
    let op : NorOp := { addr := 256 * p, len := 256, erase := false, begun := s.tb.mono,
                        bytes := cellsReadN norByte s.msp.gather (256 * p) 256, suspended := false, update := false }
    s.modMsp (fun m => { m with norOp := some op, gatherPage := none, gather := [] })

/-- Gather a write of one page; the timer of 2 µs starts again. -/
def State.gatherWrite (s : State) (addr : Nat) (data : List Byte) : State :=
  (s.modMsp (fun m => { m with gatherPage := some (addr / 256), gather := cellsWriteL norByte m.gather addr data,
                               gatherAt := s.tb.mono })).invalidate addr data.length

/-- A translated write within one page (R523, R539): it waits behind the writes that wait and while a program runs; one outside the
gathered page has that page programmed, and waits. -/
def State.pageWrite (s : State) (addr : Nat) (data : List Byte) : State :=
  let wait (t : State) : State := t.modMsp (fun m => { m with stalled := m.stalled ++ [(addr, data)] })
  if !s.msp.stalled.isEmpty || s.msp.norOp.any (fun o => !o.erase) then wait s
  else if s.msp.gatherPage.all (fun p => p == addr / 256) then s.gatherWrite addr data
  else wait (if s.msp.norOp.isSome then s else s.programGathered)

/-- A write as its parts within pages; `n` bounds their number. -/
def pageParts : Nat → Nat → List Byte → List (Nat × List Byte)
  | 0, _, _ => []
  | n + 1, addr, data =>
    let k := 256 - addr % 256
    if data.isEmpty then [] else (addr, data.take k) :: pageParts n (addr + k) (data.drop k)

/-- The writes that waited go on once the NOR is free (R523, R539). -/
def State.resumeWrites (s : State) : State :=
  s.msp.stalled.foldl (fun (t : State) w => t.pageWrite w.1 w.2) (s.modMsp (fun m => { m with stalled := [] }))

/-- What programming leaves: a bit once 0 stays 0 until an erase. -/
def programBytes (old new : List Byte) : List Byte := (old.zip new).map (fun x => x.1 &&& x.2)

/-- The bytes of a range after an operation on it that failed: the spec states no content. -/
def State.failRange (s : State) (addr n : Nat) : State :=
  let d := s.draws
  let bytes := (List.range n).map (fun i => BitVec.ofNat 8 (Config.failedByte d (addr + i)))
  { (s.writeNor addr bytes) with draws := d + 1 }

/-- A NOR program or erase failed (R540). -/
def State.norFailed (s : State) : State :=
  ((s.modMsp (fun m => { m with norFail := true })).orP 0x19 0 0x16 2).raise (ident .msp 1) 0 0

/-- The limit of R512 in ns for an operation. -/
def norLimit (o : NorOp) : Nat := if !o.erase then 5000000 else if o.len = 4096 then 500000000 else 2000000000

/-- Start the erase of the next 64 KiB block of a firmware update session that is not yet erased (R565). -/
def State.eraseNextBlock (s : State) : State :=
  match s.sup.session with
  | none => s
  | some f =>
    if (f.len + 256 + 65535) / 65536 ≤ f.erased then s
    else
      let op : NorOp := { addr := fwSlot s f.slot + 65536 * f.erased, len := 65536, erase := true, begun := s.tb.mono,
                          bytes := [], suspended := false, update := true }
      s.modMsp (fun m => { m with norOp := some op })

/-- An operation of the NOR ends well: its effect on the memory, FAIL clear, and the counts of XIP_STATS (R523, R524); a
session's background erase goes on with its next block. -/
def State.norDone (s : State) (o : NorOp) : State :=
  let s1 := s.modMsp (fun m => { m with norOp := none, norFail := false })
  let s2 := if o.erase then (s1.eraseNor o.addr o.len).incAt 4 0x19 0 0x12 16
    else (s1.writeNor o.addr (programBytes (norBytes s o.addr o.len) o.bytes)).incAt 4 0x19 0 0x12 12
  if o.update then
    let more (f : FwSession) : FwSession := { f with erased := f.erased + 1 }
    let s3 : State := { s2 with sup := { s2.sup with session := s2.sup.session.map more } }
    s3.eraseNextBlock.resumeWrites.arbitrate
  else s2.resumeWrites.arbitrate

end Sys2Proof.Machine
end

