-- ==== Sys2Proof/Machine/Msp.lean ====
section
/-! DEFINITION. The meanings of the rows of the memory serial port (Memory serial port, firmware store and journal). -/

namespace Sys2Proof.Machine

/-- R517, R519, R521, R525: the entry that holds the bus ends, with the bytes it read, and the next is granted; a suspended operation
of the NOR resumes once no fill waits. -/
def execMspEntryComplete (data : List Byte) (s : State) : Host.Outcome State Fault Refusal :=
  match s.msp.entries.find? (fun e => e.active) with
  | none => .next s
  | some e =>
    if e.read ∧ e.requester = 4 ∧ data.length ≠ e.dataBits / 8 then .next s
    else
      let s1 := s.modMsp (fun m => { m with entries := m.entries.filter (fun x => !x.active) })
      if e.requester = 4 then
        let s2 := if e.read then
            s1.setBytes 0x19 0 0x0D (1032 * (fin8 e.endpoint).val) (userReadElement e data)
          else s1
        .next (s2.endUser e)
      else
        let more := s1.msp.entries.any (fun x => x.requester == 0)
        let s2 := (s1.modMsp (fun m => { m with
          norOp := m.norOp.map (fun o => { o with suspended := o.suspended && more }), holdCount := 0 })).incAt 4 0x19 0 0x12 0
        .next ({ s2 with sup := { s2.sup with cacheFills := s2.sup.cacheFills + 1 } }.arbitrate)

/-- R522, R525: a cache miss queues a fill; a fetch beyond the density reads all ones and makes no entry. -/
def execXipFill (addr : Nat) (s : State) : Host.Outcome State Fault Refusal :=
  if norSize s ≤ addr ∨ mspShare 0 ≤ mspLevel s 0 then .next s
  else
    let stops := s.msp.suspendOk && s.msp.norOp.any (fun o => !o.suspended)
    let s1 := if stops then
        s.suspendNor.incAt 4 0x19 0 0x12 8
      else s
    .next (s1.mspQueue (fillEntry s addr))

/-- R523: a translated write is gathered; a write outside the gathered page has it programmed, and waits while it is. -/
def execXipWriteGather (priv : Bool) (addr : Nat) (data : List Byte) (s : State) : Host.Outcome State Fault Refusal :=
  if !priv || touchesMirror addr data.length then .next s.writeIgnored
  else if norSize s < addr + data.length then .next s
  else .next ((pageParts data.length addr data).foldl (fun (t : State) w => t.pageWrite w.1 w.2) s)

/-- R523: 2 µs without a write programs the gathered page. -/
def execXipGatherTimeout (s : State) : Host.Outcome State Fault Refusal :=
  if s.msp.norOp.isNone ∧ elapsed s s.msp.gatherAt 2000 then .next s.programGathered else .next s

/-- R523: FLUSH programs the gathered page. -/
def execXipFlush (priv : Bool) (s : State) : Host.Outcome State Fault Refusal :=
  if priv ∧ s.msp.norOp.isNone then .next s.programGathered else .next s

/-- R524: ERASE starts an erase of 4 KiB or 64 KiB. -/
def execXipErase (priv : Bool) (v : Word) (s : State) : Host.Outcome State Fault Refusal :=
  if !priv then .next s
  else
    let s1 := s.modMsp (fun m => { m with eraseReg := v &&& 0x7FFF0000 })
    let sector := v.toNat / 65536 % 16384
    let block := v.getLsbD 30
    let addr := if block then sector / 16 * 65536 else sector * 4096
    let len := if block then 65536 else 4096
    if !v.getLsbD 31 then .next s1
    else if touchesMirror addr len then .next s1.writeIgnored
    else if s.msp.norOp.isSome ∨ norSize s < addr + len then .next s1
    else
      let op : NorOp := { addr := addr, len := len, erase := true, begun := s.tb.mono, bytes := [], suspended := false,
                          update := false }
      .next ((s1.modMsp (fun m => { m with norOp := some op })).invalidate addr len)

/-- R523: a status poll of the operation in progress. -/
def execNorStatusPoll (busy : Bool) (s : State) : Host.Outcome State Fault Refusal :=
  match s.msp.norOp with
  | none => .next s
  | some o =>
    if o.suspended then .next s
    else if !busy then .next (s.norDone o)
    else if elapsed s o.begun (norLimit o) then
      let s1 := ((s.modMsp (fun m => { m with norOp := none })).failRange o.addr o.len).norFailed
      let s2 : State := if o.update then { s1 with sup := { s1.sup with session := none } } else s1
      .next s2.resumeWrites.arbitrate
    else .next s

/-- R520: a write of USER_XFER. -/
def execUserXfer (q : Req) (v : List Byte) (s : State) : Host.Outcome State Fault Refusal :=
  .next ((guardWrite s q (userXfer s q.ep v)).finish q opSetParam)

/-- R519: no next entry of the endpoint came in time. -/
def execContinueTimeout (s : State) : Host.Outcome State Fault Refusal :=
  match s.msp.cont with
  | none => .next s
  | some (ep, since) => if elapsed s since (s.p 2 0x19 0 0x0B * 1000) then .next (s.mspSplit ep) else .next s

/-- R518: a write of ARB_PRIORITY. -/
def execArbPriorityWrite (q : Req) (v : List Byte) (s : State) : Host.Outcome State Fault Refusal :=
  .next ((guardWrite s q (arbPriority s v)).finish q opSetParam)

end Sys2Proof.Machine
end

