-- ==== Sys2Proof/Machine/JournalOps.lean ====
section
/-! DEFINITION. The shared operations of the journal and of its NAND (R531 to R538). -/

namespace Sys2Proof.Machine

/-- Change the journal. -/
def State.modJrn (s : State) (g : Journal → Journal) : State := { s with jrn := g s.jrn }

/-- STATE (P1A.00.01). -/
def journalState (s : State) : Nat := s.p 1 0x1A 0 0x01

/-- OPERATING_SECONDS now. -/
def opNow (s : State) : Word :=
  s.jrn.opSeconds + BitVec.ofNat 32 ((s.tb.mono - s.jrn.lastOp).toNat / (1000000000 * 2 ^ 32))

/-- The 32 bytes of a record (R535). -/
def recBytes (r : JRec) : List Byte := leBytes 1 r.typ ++ leBytes 1 r.flags ++ leBytes 2 0 ++ leBytes 4 r.number.toNat ++ r.body

/-- Every record held, in NUMBER order: those on NAND, then those in RAM (R536). -/
def heldRecords (s : State) : List JRec := (s.jrn.pages.map (fun p => p.records)).flatten ++ s.jrn.ram

/-- OLDEST_NUMBER. -/
def oldestNumber (s : State) : Word := match heldRecords s with | [] => s.jrn.next | r :: _ => r.number

/-- Records are lost: LOST and DIAG (R536, R534). -/
def State.loseRecords (s : State) (n diag : Nat) : State :=
  (s.setP 4 0x1A 0 0x0F (s.p 4 0x1A 0 0x0F + n)).orP 0x1A 0 0x13 diag

/-- The JOURNAL doorbell of the endpoints whose cursor has no unread record (R377). -/
def State.ringJournal (s : State) (n : Word) : State :=
  { s with mbx := { s.mbx with eps := Vector.ofFn (fun e : Fin 8 =>
    let p := s.mbx.eps[e]
    if s.p 4 0x13 e 0x12 = n.toNat then { p with db := p.db ||| 0x40 } else p) } }

/-- A record of a TYPE takes the next number and waits in RAM, where 512 fit (R536). -/
def State.addRecord (s : State) (typ : Nat) (unc : Bool) (body : List Byte) : State :=
  let n := s.jrn.next
  let r : JRec := { typ := typ, flags := (if unc then 1 else 0) + (if s.sup.powerFail then 2 else 0), number := n,
                    body := body, at_ := s.tb.mono }
  let full := decide (512 ≤ s.jrn.ram.length)
  let s1 := s.modJrn (fun j => { j with ram := (if full then j.ram.drop 1 else j.ram) ++ [r], next := n + 1 })
  (if full then s1.loseRecords 1 1 else s1).ringJournal n

/-- The 2,048 bytes of the main area of a journal page (R531). -/
def pageBytes (s : State) (p : NandPage) : List Byte :=
  let recs := p.records.flatMap recBytes
  let area := recs ++ List.replicate (1984 - recs.length) 0xFF
  let head := [0x47, 0x51, 0x4A, 0x50] ++ leBytes 2 1 ++ leBytes 1 p.records.length ++ leBytes 1 p.flags ++ leBytes 4 p.first.toNat ++
    leBytes 4 p.seq.toNat ++ ctBytes p.created ++ [0] ++ leBytes 4 p.opSeconds.toNat ++ leBytes 4 p.eraseCount.toNat ++
    leBytes 8 s.sup.fuses.uniqueId.toNat ++ List.replicate 18 0
  head ++ leBytes 4 (crc32 (head ++ area)).toNat ++ area

/-! ### The blocks of the NAND -/

/-- The entry of a block. -/
def nandBlock (s : State) (b : Nat) : NandBlock :=
  (s.jrn.blocks.find? (fun x => x.block == b)).getD { block := b, erases := 0, tableErases := 0, bad := false, factoryBad := false }

/-- Set the entry of a block. -/
def State.setNandBlock (s : State) (x : NandBlock) : State :=
  s.modJrn (fun j => { j with blocks := j.blocks.filter (fun y => y.block != x.block) ++ [x] })

/-- A good block. -/
def nandGood (s : State) (b : Nat) : Bool := !(nandBlock s b).bad && !(nandBlock s b).factoryBad

/-- The good blocks outside the table area (R532). -/
def journalBlocks (s : State) : List Nat := ((List.range s.jrn.blockCount).drop 8).filter (nandGood s)

/-- Whether a block holds journal pages or is the one being filled. -/
def blockUsed (s : State) (b : Nat) : Bool :=
  s.jrn.pages.any (fun p => p.block == b) || s.jrn.openBlock.any (fun o => o.1 == b)

/-- The free blocks. -/
def freeBlocks (s : State) : List Nat := (journalBlocks s).filter (fun b => !blockUsed s b)

/-- RESERVE_BLOCKS. -/
def reserveBlocks (s : State) : Nat := s.p 2 0x1A 0 0x0B

/-- The bad-block table is written anew: it holds the erase counts of now (R532). -/
def State.writeTable (s : State) : State :=
  s.modJrn (fun j => { j with blocks := j.blocks.map (fun x => { x with tableErases := x.erases }), sinceTable := 0 })

/-- Erase a block: its records leave the journal (R533); the table is rewritten after every 256 erases. -/
def State.eraseBlock (s : State) (b : Nat) : State :=
  let x := nandBlock s b
  let s1 := (s.setNandBlock { x with erases := x.erases + 1 }).modJrn (fun j => { j with
    pages := j.pages.filter (fun p => p.block != b), sinceTable := j.sinceTable + 1 })
  if 256 ≤ s1.jrn.sinceTable then s1.writeTable else s1

/-- The free block with the lowest erase count. -/
def nextBlock (s : State) : Option Nat :=
  (freeBlocks s).foldl (fun (best : Option Nat) b =>
    match best with
    | none => some b
    | some a => if (nandBlock s b).erases.toNat < (nandBlock s a).erases.toNat then some b else best) none

/-- Take a new block to fill; when the free blocks have fallen to the reserve, the block with the oldest records is erased
and freed (R533). -/
def State.takeBlock (s : State) : State :=
  match nextBlock s with
  | none => s
  | some b =>
    let s1 := s.modJrn (fun j => { j with openBlock := some (b, 0) })
    if (freeBlocks s1).length ≤ reserveBlocks s then
      match s1.jrn.pages with
      | [] => s1
      | p :: _ => s1.eraseBlock p.block
    else s1

/-- The block that takes the next page, where one can be had. -/
def State.openPage (s : State) : State :=
  match s.jrn.openBlock with
  | some (_, p) => if p < 64 then s else s.takeBlock
  | none => s.takeBlock

/-- Program one page with records (R531): `place` puts it into the journal's pages. -/
def State.programPage (s : State) (flags : Nat) (rs : List JRec) (place : NandPage → List NandPage → List NandPage) : State :=
  let s1 := s.openPage
  match s1.jrn.openBlock with
  | none => s1
  | some (b, p) =>
    if 64 ≤ p then s1
    else
      let page : NandPage := { block := b, page := p, flags := flags, first := (rs.head?.map (fun r => r.number)).getD 0,
                               seq := s1.jrn.pageSeq, created := now s1, opSeconds := opNow s1,
                               eraseCount := (nandBlock s1 b).erases, records := rs }
      s1.modJrn (fun j => { j with pages := place page j.pages, pageSeq := j.pageSeq + 1, openBlock := some (b, p + 1) })

/-- Put a page at the end of the journal. -/
def pageLast (p : NandPage) (l : List NandPage) : List NandPage := l ++ [p]

/-- Put a page before the page whose records follow it: scrubbed and reprogrammed pages keep their place in NUMBER order. -/
def pageAt (i : Nat) (p : NandPage) (l : List NandPage) : List NandPage := l.take i ++ [p] ++ l.drop i

/-- The records of RAM that one page takes. -/
def flushPage (s : State) (n flags : Nat) : State :=
  let before := s.jrn.pageSeq
  let s1 := s.programPage flags (s.jrn.ram.take n) pageLast
  if s1.jrn.pageSeq = before then s1 else s1.modJrn (fun j => { j with ram := j.ram.drop n })

/-- Whether a page is due: 62 records wait, or the oldest has waited FLUSH_INTERVAL (R536). -/
def flushDue (s : State) : Bool :=
  s.jrn.mounted && match s.jrn.ram with
    | [] => false
    | r :: _ => decide (62 ≤ s.jrn.ram.length) || elapsed s r.at_ (s.p 2 0x1A 0 0x07 * 1000000)

/-- State 3 while the good blocks lie below RESERVE_BLOCKS + 8: MSP-06 is raised when it is entered (R533, R540). -/
def State.wornCheck (s : State) : State :=
  if (journalState s = 2) ∧ (journalBlocks s).length < reserveBlocks s + 8 then
    (s.setP 1 0x1A 0 0x01 3).raise (ident .msp 6) 0 0
  else s

/-- A NAND journal record (R535). -/
def State.nandRecord (s : State) (b event corrected : Nat) (first : Word) : State :=
  s.journalAt 0x0C (leBytes 2 b ++ leBytes 1 event ++ leBytes 1 corrected ++ leBytes 4 first.toNat)

/-- A block grown bad: its bit, MSP-04, DIAG.GROWN_BAD, the record and the table (R532). -/
def State.grownBad (s : State) (b : Nat) (first : Word) : State :=
  let x := nandBlock s b
  let s1 := ((s.setNandBlock { x with bad := true }).writeTable.orP 0x1A 0 0x13 4).raise (ident .msp 4) 0 0 (BitVec.ofNat 32 b)
  (s1.nandRecord b 1 0 first).wornCheck

/-- The pages of a block with their places in the journal. -/
def blockPages (s : State) (b : Nat) : List (Nat × NandPage) :=
  ((List.range s.jrn.pages.length).zip s.jrn.pages).filter (fun x => x.2.block == b)

/-! ### Scrubbing (R534) -/

/-- The age of a block in seconds: from CREATED of its first page while the device is not time-uncertain, and from its
OPERATING_SECONDS; the larger counts. -/
def blockAge (s : State) (b : Nat) : Nat :=
  match (s.jrn.pages.filter (fun p => p.block == b)).find? (fun p => p.page == 0) with
  | none => 0
  | some p =>
    let byTime := if s.tb.uncertain then 0 else (ctNs (now s) - ctNs p.created) / 1000000000
    max byTime (opNow s - p.opSeconds).toNat

/-- Whether a block is to be scrubbed. -/
def scrubDue (s : State) (b : Nat) : Bool :=
  blockUsed s b && (s.jrn.scrubQueue.any (fun x => x.1 == b) || decide (s.p 2 0x1A 0 0x08 * 86400 ≤ blockAge s b))

/-- Copy one page to the open block; the copy stands where the source stood. -/
def State.copyPage (s : State) (p : NandPage) : State :=
  let i := (s.jrn.pages.findIdx? (fun x => x == p)).getD s.jrn.pages.length
  s.programPage 2 p.records (fun c l => pageAt i { c with first := p.first } l)

/-! ### The mount (R532, R533, R538) -/

/-- The numbers, PAGE_SEQ and OPERATING_SECONDS go on from the newest page. -/
def State.mountNumbers (s : State) : State :=
  let last := s.jrn.pages.getLast?
  let base : Word := ((last.bind (fun p => p.records.getLast?)).map (fun r => r.number + 1)).getD 0
  s.modJrn (fun j => { j with
    ram := j.ram.map (fun r => { r with number := r.number + base }), next := j.next + base,
    pageSeq := (last.map (fun p => p.seq + 1)).getD 0, opSeconds := (last.map (fun p => p.opSeconds)).getD 0, mounted := true })

/-! ### The patrol (R531, R534) -/

/-- A codeword read with `n` bits corrected enters the histogram. -/
def State.countCodeword (s : State) (n : Nat) : State :=
  if h : n < 9 then s.modMsp (fun m => { m with bchHist := m.bchHist.set n (m.bchHist[n] + 1) }) else s

/-- A codeword of the page at a place of the journal cannot be corrected: its records are lost. -/
def State.losePage (s : State) (i : Nat) (p : NandPage) : State :=
  let s1 := (s.modJrn (fun j => { j with pages := j.pages.set i { p with records := [] } })).loseRecords p.records.length 2
  (s1.raise (ident .msp 3) 0 0 (BitVec.ofNat 32 p.block)).nandRecord p.block 3 0 p.first

/-- The codewords of a page: its four of those that were read, one that was not read counting as read without error. -/
def pageWords (words : List (Option Nat)) (k : Nat) : List (Option Nat) :=
  (List.range 4).map (fun j => (words[4 * k + j]?).getD (some 0))

/-- What the read of a block finds: every codeword enters the histogram, a page with one that cannot be corrected is lost, and the
block is queued for scrub where a page was lost or SCRUB_THRESHOLD is reached, which raises MSP-02. -/
def State.patrolBlock (s : State) (b : Nat) (words : List (Option Nat)) : State :=
  let ps := blockPages s b
  let found := (List.range ps.length).zip ps |>.map (fun x => (pageWords words x.1, x.2))
  let bits := (found.flatMap (fun x => x.1)).filterMap id
  let most := bits.foldl max 0
  let s1 := bits.foldl (fun (t : State) n => t.countCodeword n) s
  let gone := found.filter (fun x => x.1.any Option.isNone)
  let s2 := gone.foldl (fun (t : State) x => t.losePage x.2.1 x.2.2) s1
  let worn := decide (s.p 1 0x1A 0 0x09 ≤ most)
  let s3 := if worn || !gone.isEmpty then
      s2.modJrn (fun j => { j with scrubQueue := j.scrubQueue.filter (fun x => x.1 != b) ++ [(b, most)] })
    else s2
  if worn then s3.raise (ident .msp 2) 0 0 else s3

/-- The blocks that the patrol reads. -/
def patrolBlocks (s : State) : List Nat :=
  (List.range s.jrn.blockCount).filter (fun b => s.jrn.pages.any (fun p => p.block == b))

/-- The next patrol read is due: the blocks are spread evenly over PATROL_PERIOD. -/
def patrolDue (s : State) : Bool :=
  s.jrn.patrolAt.all (fun t => elapsed s t (s.p 2 0x1A 0 0x0A * 86400000000000 / max 1 (patrolBlocks s).length))

/-! ### Reading (R383, R536) -/

/-- The records from a number on, and whether the number lies before the oldest. -/
def recordsFrom (s : State) (start : Word) : Bool × List JRec :=
  if (start - oldestNumber s).toInt < 0 then (true, heldRecords s)
  else (false, (heldRecords s).filter (fun r => 0 ≤ (r.number - start).toInt))

/-- The opcode of JOURNAL_READ. -/
def opJournalRead : Nat := 0x0060

/-- JOURNAL_READ: the response, and the cursor that MODE 0 leaves. -/
def journalRead (s : State) (ep : Fin 8) (mode max : Nat) (start : Word) : CmdRes × Option Word :=
  if 1 < mode then (refuse s rcBadParam, none)
  else if max < 1 ∨ 31 < max then (refuse s rcOutOfRange, none)
  else
    let from_ : Word := if mode = 0 then BitVec.ofNat 32 (s.p 4 0x13 ep 0x12) else start
    let (early, rs) := recordsFrom s from_
    let out := rs.take max
    let flags := (if max < rs.length then 1 else 0) + (if early then 2 else 0)
    let first := (out.head?.map (fun r => r.number)).getD from_
    let next := (out.getLast?.map (fun r => r.number + 1)).getD from_
    ({ st := s, code := 0,
       payload := leBytes 1 out.length ++ leBytes 1 flags ++ leBytes 2 0 ++ leBytes 4 first.toNat ++ (out.map recBytes).flatten },
     if mode = 0 then some next else none)

end Sys2Proof.Machine
end

