-- ==== Sys2Proof/Machine/Journal.lean ====
section
/-! DEFINITION. The meanings of the rows of the journal and of the epoch sectors (Memory serial port, firmware store and
journal). -/

namespace Sys2Proof.Machine

/-- R535, R536: the oldest event becomes a record. -/
def execJournalRecord (s : State) : Host.Outcome State Fault Refusal :=
  match s.jrn.incoming with
  | [] => .next s
  | (typ, unc, body) :: rest => .next ((s.modJrn (fun j => { j with incoming := rest })).addRecord typ unc body)

/-- R536: a page that is due is programmed. -/
def execJournalFlush (s : State) : Host.Outcome State Fault Refusal :=
  if flushDue s then .next (flushPage s 62 0).wornCheck else .next s

/-- R532, R539: a program or erase failed: the block is marked bad, and the records of a failed program are programmed again in
the next free block. -/
def execNandOperationFail (block : Nat) (erase : Bool) (s : State) : Host.Outcome State Fault Refusal :=
  if !s.jrn.present ∨ s.jrn.blockCount ≤ block ∨ !nandGood s block then .next s
  else
    match (if erase then none else (blockPages s block).getLast?) with
    | none =>
      let s1 := s.grownBad block 0
      .next (s1.modJrn (fun j => { j with openBlock := if j.openBlock.any (fun o => o.1 == block) then none else j.openBlock }))
    | some (i, p) =>
      let s1 := (s.grownBad block p.first).modJrn (fun j => { j with
        pages := j.pages.eraseIdx i,
        openBlock := if j.openBlock.any (fun o => o.1 == block) then none else j.openBlock })
      .next (s1.programPage p.flags p.records (pageAt i))

/-- R534: the block's pages are copied to a new block with their numbers, and the block is erased. -/
def execScrub (block : Nat) (s : State) : Host.Outcome State Fault Refusal :=
  if !s.jrn.mounted || !scrubDue s block then .next s
  else
    let src := (blockPages s block).map (fun x => x.2)
    let bits := ((s.jrn.scrubQueue.find? (fun x => x.1 == block)).map (fun x => x.2)).getD 0
    let first := (src.head?.map (fun p => p.first)).getD 0
    let s1 := s.modJrn (fun j => { j with
      scrubQueue := j.scrubQueue.filter (fun x => x.1 != block),
      openBlock := if j.openBlock.any (fun o => o.1 == block) then none else j.openBlock })
    let s2 := ((src.filter (fun p => !p.records.isEmpty)).foldl (fun (t : State) p => t.copyPage p) s1).eraseBlock block
    .next ((((s2.inc 4 0x1A 0 0x0E).orP 0x1A 0 0x13 8).nandRecord block 2 bits first).wornCheck)

/-- R531, R534: the patrol reads the next block; `words` gives the bits corrected in each of its codewords in order, none for one
that cannot be corrected. -/
def execPatrolRead (words : List (Option Nat)) (s : State) : Host.Outcome State Fault Refusal :=
  let used := patrolBlocks s
  match (used.find? (fun b => decide (s.jrn.patrolNext ≤ b))).or used.head? with
  | none => .next s
  | some b =>
    if patrolDue s then
      .next ((s.modJrn (fun j => { j with patrolNext := b + 1, patrolAt := some s.tb.mono })).patrolBlock b words)
    else .next s

/-- R533, R536 to R538: the journal is mounted: the numbers go on from the newest page, the erase counts of the free blocks
come from the table unless a power-fail commit closed the journal, and a loss of power without a complete commit is
journalled. -/
def execJournalMount (s : State) : Host.Outcome State Fault Refusal :=
  if journalState s ≠ 1 then .next s
  else
    let last := s.jrn.pages.getLast?
    let pf := last.any (fun p => p.flags % 2 == 1)
    let s1 := s.mountNumbers.modJrn (fun j => { j with
      openBlock := last.map (fun p => (p.block, p.page + 1)),
      blocks := if pf then j.blocks else j.blocks.map (fun x =>
        if j.pages.any (fun p => p.block == x.block) then x else { x with erases := x.tableErases }) })
    let s2 := (s1.setP 1 0x1A 0 0x01 2).wornCheck
    let lossCause := s.heartwood.resetCause == 1 || s.heartwood.resetCause == 2
    if pf then
      match last.bind (fun p => p.records.getLast?) with
      | none => .next s2
      | some r =>
        let (d, s3) := s2.draw
        .next (s3.setBytes 0x1A 0 0x12 0 (r.body.take 9 ++ (r.body.drop 9).take 2 ++ [0] ++ leBytes 2 d ++ [0, 0]))
    else if lossCause && last.isSome then
      let (d, s3) := s2.draw
      let code := if s.sup.holdLow then 2 else 1
      let s4 := s3.journalAt 0x0A ([BitVec.ofNat 8 code, 0] ++ leBytes 2 d)
      .next ((s4.orP 0x1A 0 0x13 16).raise (ident .msp 7) 0 0)
    else .next s2

/-- R383, R536: JOURNAL_READ starts; it completes within 10 ms, and its cursor moves then (R366, R375). -/
def execJournalRead (q : Req) (mode max : Nat) (start : BitVec 32) (s : State) : Host.Outcome State Fault Refusal :=
  let r := journalRead s q.ep mode max start
  if r.1.code ≠ 0 then .next (r.1.finish q opJournalRead)
  else
    let s1 := r.1.startLong q opJournalRead
    .next { s1 with mbx := { s1.mbx with long := s1.mbx.long.map (fun j =>
      if j.ep == q.ep.val && j.tag == q.tag then { j with cursor := r.2 } else j) } }

/-- R529: the source epoch that is due is appended. -/
def execEpochSectorRecord (s : State) : Host.Outcome State Fault Refusal := .next s.recordEpoch

end Sys2Proof.Machine
end

