-- ==== Sys2Proof/Machine/CommitOps.lean ====
section
/-! DEFINITION. The staged set, the configuration hash, the checks of a commit and the configuration image (R399 to R406, R529,
with the commit rules of the owning chapters). -/

namespace Sys2Proof.Machine

/-! ### The sets of RWS attributes (R399, R400) -/

/-- Whether a byte of the parameter stores belongs to an RWS attribute. -/
def rwsKey (k : Nat) : Bool :=
  let i := k / 2 ^ 20
  (findAttr (i / 65536 % 256) (i % 256)).any (fun r => r.access == .rws)

/-- The RWS part of a parameter store. -/
def rwsPart (m : Store) : Store := m.filter (fun c => rwsKey c.1)

/-- The RWS content in effect; the time base's attributes that wait for a Sync interval boundary belong to it (R63, R399). -/
def inEffect (s : State) : Store :=
  rwsPart (s.tb.pendingRole.foldl (fun (m : Store) (c : Host.Cell) => cellsWrite parReset m c.1 c.2) s.dict)

/-- The content that the staged set starts from: pending content, or the content in effect (R399). -/
def stagedBase (s : State) : Store :=
  match s.commit with
  | some c => c.content
  | none => inEffect s

/-- The state as if a content were in effect: what the checks of a commit look at. -/
def State.withContent (s : State) (content : Store) : State :=
  { s with dict := content.foldl (fun m c => cellsWrite parReset m c.1 c.2) (s.dict.filter (fun c => !rwsKey c.1)) }

/-- Every RWS parameter in ascending class, instance and attribute order, with its size. -/
def rwsParams : List (Nat × Nat × Nat × Nat) :=
  (List.range 0x1C).flatMap (fun cls =>
    (List.range (classInstances cls)).flatMap (fun inst =>
      ((classAttrs cls).filter (fun r => r.access == .rws)).map (fun r => (cls, inst, r.attr, r.size))))

/-- A parameter index with FLAGS 0 (R391). -/
def parIndex (cls inst attr : Nat) : Nat := cls * 65536 + inst * 256 + attr

/-- CONFIG_HASH of a content (R400). -/
def configHash (m : Store) : BitVec 64 :=
  hash64 (rwsParams.flatMap (fun p => leBytes 4 (parIndex p.1 p.2.1 p.2.2.1) ++ storeBytes m p.2.2.2 p.1 p.2.1 p.2.2.1))

/-- STAGED_STATE (P01.00.0A). -/
def State.setStagedState (s : State) (hashReady : Bool) : State :=
  s.setP 1 0x01 0 0x0A ((if s.staged = stagedBase s then 0 else 1) + if hashReady then 2 else 0)

/-- A write of the staged set: HASH_READY clears until the hash is computed anew (R400). -/
def State.stageBytes (s : State) (cls inst attr off : Nat) (l : List Byte) : State :=
  State.setStagedState { s with staged := cellsWriteL parReset s.staged (parKey cls inst attr off) l } false

/-! ### The checks of a commit (R401, check 6) -/

/-- An output trim that meets R131 for a span. -/
def trimOk (span : Int) (t : List Int) : Bool :=
  match t with
  | [s1, a1, s2, a2] =>
    decide ((a1 - s1).natAbs * 100 ≤ span.natAbs) && decide ((a2 - s2).natAbs * 100 ≤ span.natAbs) &&
      decide (span.natAbs ≤ 2 * (s2 - s1).natAbs) &&
      (let num := if s2 < s1 then a1 - a2 else a2 - a1
       let den := ((s2 - s1).natAbs : Int)
       decide (99 * den ≤ 100 * num) && decide (100 * num ≤ 101 * den))
  | _ => false

/-- Trim n of OUTPUT_TRIM: 12 × bank + 3 × channel + stage. -/
def trimAt (s : State) (n : Nat) : List Int :=
  (List.range 4).map (fun i => toSigned 32 (s.pAt 4 0x1B 0 0x0C (16 * n + 4 * i)))

/-- The indices of the attributes whose staged values break a rule of the conversion and channel chapters: `c` shows the staged
content, `s` the content it replaces (R97, R131, R139, R215). -/
def channelFaults (s c : State) : List Nat :=
  ((allU.filter (fun u => (uModeL s u != uModeL c u || s.pI 4 0x06 u 0x11 != c.pI 4 0x06 u 0x11) &&
    isOutMode (uModeL c u) && !inRange (uModeL c u) (c.pI 4 0x06 u 0x11))).map
    (fun u => parIndex 0x06 u 0x11)) ++
  (if (List.range 48).any (fun n => trimAt s n != trimAt c n && !trimOk (spanOf (9 + n % 3)) (trimAt c n)) then
    [parIndex 0x1B 0 0x0C] else []) ++
  (if c.p 2 0x1B 0 0x04 ≤ c.p 2 0x1B 0 0x03 then [parIndex 0x1B 0 0x04] else []) ++
  (((List.range 8).filter (fun f => f % 2 == 1 && 3 ≤ c.p 1 0x0C f 0x01)).map (fun f => parIndex 0x0C f 0x01))

/-- The same for load switches and groups (R186, R189): the VF of the member banks are those of the moment. -/
def loadFaults (s c : State) : List Nat :=
  ((allLs.filter (fun l => decide (c.p 2 0x0A l 0x0D < c.p 2 0x0A l 0x10))).map (fun l => parIndex 0x0A l 0x10)) ++
  ((allGroups.filter (fun g =>
    let m := membersOf c g
    let bs := banksOfMask m
    let vfs := bs.map (fun b => s.p 4 0x05 b 0x03)
    !([0, 2, 4, 8].contains (popCount m)) || allGroups.any (fun h => h != g && (membersOf c h) &&& m != 0) ||
      (decide (1 < bs.length) && (bs.any (fun b => !bankPresent s b) ||
        vfs.any (fun a => vfs.any (fun b => decide (b + 500 < a))))))).map (fun g => parIndex 0x0B g 0x01))

/-- A handle that may be published: own I/O, own device or a marker (R265, R268). -/
def publishable (h : Nat) : Bool :=
  decide (h ≤ 0x23) || h == 0x40 || h == 0x41 || (0x44 ≤ h && h ≤ 0x47) || (0x80 ≤ h && h ≤ 0x87) || (0x1000 ≤ h && h ≤ 0x1FFF)

/-- The published groups in use. -/
def pubGroupsUsed (c : State) : List Nat := (List.range 64).filter (fun g => (pubGroup c g).1 != 0)

/-- A publication group whose entry breaks R268 or R270. -/
def pubGroupBad (c : State) (g : Nat) : Bool :=
  let (cls, count, first, period, phase, holdoff) := pubGroup c g
  decide (3 < cls) || count == 0 || decide (128 < count) || decide (512 < first + count) ||
    (cls == 1 && (decide (period < 250) || decide (10000 < period) || decide (period ≤ phase))) ||
    (cls == 2 && (decide (period < 10000) || decide (60000000 < period) || decide (period ≤ phase))) ||
    (cls == 3 && (decide (period < 1000) || decide (60000000 < period) || decide (1000 < holdoff)))

/-- A subscription entry that breaks R274 or the ranges of R300. -/
def subBad (c : State) (es : List SubEntry) (e : SubEntry) : Bool :=
  decide (4095 < e.node) || e.count == 0 || decide (128 < e.count) || decide (e.base < 0x2000) ||
    decide (0x20000 < e.base + e.count) || e.node == nodeAddress c || decide (e.period < 250) || decide (60000000 < e.period) ||
    decide (1 < e.subst) ||
    es.any (fun x => x.index != e.index &&
      ((decide (x.base < e.base + e.count) && decide (e.base < x.base + x.count)) ||
        (x.node == e.node && c.pAt 1 0x0E 0 0x05 (32 * x.index + 2) == c.pAt 1 0x0E 0 0x05 (32 * e.index + 2))))

/-- The same for Canopy (R268, R274). -/
def canopyFaults (c : State) : List Nat :=
  let hs := (pubGroupsUsed c).flatMap (fun g => (groupPoints c g).map (fun p => p.1))
  let es := subscriptions c
  (if (pubGroupsUsed c).any (pubGroupBad c) then [parIndex 0x0E 0 0x03] else []) ++
  (if hs.any (fun h => !publishable h) || hs.eraseDups.length != hs.length then [parIndex 0x0E 0 0x04] else []) ++
  (if es.any (subBad c es) || decide (4095 < ((es.map (fun e => e.node)).eraseDups).length) then [parIndex 0x0E 0 0x05] else [])

/-- The gate control list of a port, as a content holds it (R434, R454). -/
def gateEntries (c : State) (p : Fin 3) : List (Byte × Nat) :=
  (List.range (c.p 2 0x15 p 0x12)).map (fun i =>
    (BitVec.ofNat 8 (c.pAt 1 0x15 p 0x11 (8 * i)), c.pAt 4 0x15 p 0x11 (8 * i + 4)))

/-- The same for the ports and the switch (R421, R435, R436, R441). -/
def switchFaults (s c : State) : List Nat :=
  let rings := (ringPorts c).length
  ((allPorts.filter (fun p => c.p 1 0x15 p 0x01 == 1 && s.tb.refType)).map (fun p => parIndex 0x15 p 0x01)) ++
  (if 2 < rings then [parIndex 0x15 2 0x03] else []) ++
  ((allPorts.filter (fun p =>
    let es := gateEntries c p
    (es.isEmpty && c.p 1 0x15 p 0x10 == 1) || es.any (fun e => decide (e.2 < 32) || decide (1000000000 < e.2)) ||
      decide (c.p 4 0x15 p 0x13 < es.foldl (fun n e => n + e.2) 0))).map (fun p => parIndex 0x15 p 0x11)) ++
  ((allPorts.filter (fun p => (List.range 8).any (fun t => decide (c.p 2 0x15 p 0x16 < c.pAt 2 0x15 p 0x15 (2 * t))))).map
    (fun p => parIndex 0x15 p 0x15)) ++
  (if (streamsInUse c).any (fun x => x.2.generate && allPorts.any (fun p => natBit x.2.split p.val && !isRingPort c p)) then
    [parIndex 0x16 0 0x08] else []) ++
  (if c.p 1 0x16 0 0x0A = 1 ∧ rings ≠ 2 then [parIndex 0x16 0 0x0A] else []) ++
  (if c.p 1 0x16 0 0x0B = 1 ∧ c.p 1 0x16 0 0x0A = 0 then [parIndex 0x16 0 0x0B] else [])

/-- The same for the cell link and the Ranger (R468, R502). -/
def cellFaults (c : State) : List Nat :=
  let all := ([0, 1, 2, 3, 4, 5, 6] : List Nat).map (fun m => (masterNodes c m).filter (fun n => decide (n ≤ 4095)))
  let own := nodeAddress c
  let twice := (List.range 7).any (fun a => (List.range 7).any (fun b =>
    decide (a < b) && (all.getD a []).any (fun n => (all.getD b []).contains n)))
  (if twice || all.any (fun l => l.contains own) then [parIndex 0x17 0 0x0D] else []) ++
  (if c.p 1 0x18 0 0x09 = 1 ∧ c.p 2 0x18 0 0x08 ≠ own then [parIndex 0x18 0 0x09] else [])

/-- Every attribute of the staged set that breaks a rule which governs a commit. -/
def commitFaults (s : State) (content : Store) : List Nat :=
  let c := s.withContent content
  let quota := ((List.range 8).map (fun e => c.p 1 0x13 e 0x06)).foldl (fun a b => a + b) 0
  channelFaults s c ++ loadFaults s c ++ canopyFaults c ++
  (if (List.range 384).any (fun i => reactionBad i (c.pAt 1 0x11 0 0x01 i)) then [parIndex 0x11 0 0x01] else []) ++
  (if 248 < quota then [parIndex 0x13 0 0x06] else []) ++ switchFaults s c ++ cellFaults c

/-! ### COMMIT_CONFIG and DISCARD_CONFIG (R401, R402, R405) -/

/-- The opcode of COMMIT_CONFIG. -/
def opCommit : Nat := 0x0020

/-- The opcode of DISCARD_CONFIG. -/
def opDiscard : Nat := 0x0021

/-- A refusal of a commit, recorded with the first attribute that failed check 6 (R401). -/
def refuseCommit (s : State) (code : BitVec 16) (index : Nat) : CmdRes :=
  { st := (s.setBytes 0x01 0 0x13 0 (leBytes 2 code.toNat ++ leBytes 2 opCommit ++ leBytes 4 index)).orP 0x01 0 0x15 2,
    code := code, payload := [] }

/-- The lowest of the indices that failed. -/
def firstFault (l : List Nat) : Option Nat := l.foldl (fun (m : Option Nat) i => match m with | none => some i | some j => some (min i j)) none

/-- The first check of R401 that fails, with the index that it records. -/
def commitCheck (s : State) (ep : Fin 8) (apply : CellTime) (hash : BitVec 64) : Option (BitVec 16 × Nat) :=
  let none_ := 0xFFFFFFFF
  let lead := s.p 4 0x01 0 0x0E * 1000
  if !mayConfigure s ep then some (rcNotAuthority, none_)
  else if s.commit.isSome then some (rcLocked, none_)
  else if !natBit (s.p 1 0x01 0 0x0A) 1 then some (rcLocked, none_)
  else if hash ≠ 0 ∧ hash.toNat ≠ s.p 8 0x01 0 0x09 then some (rcBadParam, none_)
  else if apply ≠ 0 ∧ apply.toNat < (now s).toNat + nsUnits lead then some (rcLate, none_)
  else if apply ≠ 0 ∧ (now s).toNat + nsUnits 86400000000000 < apply.toNat then some (rcOutOfRange, none_)
  else (firstFault (commitFaults s s.staged)).map (fun i => (rcOutOfRange, i))

/-- An accepted commit: the staged set is frozen and every present bank is sent its share; a bank that is still starting gets it
after its arrival (R402, R407). A commit that changes SCHEMA_HASH makes the next source epoch due in the sectors (R529). -/
def State.acceptCommit (s : State) (ep : Fin 8) (t : CellTime) : State :=
  let h := s.p 8 0x01 0 0x09
  let c : Commit := { apply := t, endpoint := ep.val, hash := BitVec.ofNat 64 h, content := s.staged, waiting := allBanks, late := 0 }
  let s1 := (((State.setStagedState { s with commit := some c } true).setP 1 0x01 0 0x0B 1).setPCt 0x01 0 0x0C t).setP 8 0x01 0 0x0D h
  let s2 : State := if schemaHash s.staged = schemaHash s.dict then s1
    else { s1 with canopy := { s1.canopy with epochDue := s1.canopy.epochDue ++ [(s1.canopy.sourceEpoch + 1).toNat] } }
  (presentBanks s2).foldl (fun x b =>
    if bankState x b = 1 then x.modLink b (fun l => { l with shareDue := true }) else x.sendShare b c.content t) s2

/-- COMMIT_CONFIG. -/
def commitConfig (s : State) (ep : Fin 8) (apply : CellTime) (hash : BitVec 64) : CmdRes :=
  match commitCheck s ep apply hash with
  | some (code, index) => refuseCommit s code index
  | none =>
    let t := if apply = 0 then ctAddNs (now s) (s.p 4 0x01 0 0x0E * 1000) else apply
    { st := s.acceptCommit ep t, code := 0,
      payload := leBytes 8 (s.p 8 0x01 0 0x09) ++ ctBytes t ++ [0, 0, 0] }

/-- DISCARD_CONFIG: the staged set is its base again, whose hash is known (R405). -/
def discardConfig (s : State) (ep : Fin 8) : CmdRes :=
  if !mayConfigure s ep then refuse s rcNotAuthority
  else
    let h := if s.commit.isSome then s.p 8 0x01 0 0x0D else s.p 8 0x01 0 0x08
    okRes ((State.setStagedState { s with staged := stagedBase s } true).setP 8 0x01 0 0x09 h |>.orP 0x01 0 0x15 16)

/-! ### The configuration image (R529) and the calibration record (R134) -/

/-- The RWS parameters of a content that differ from their reset values; OUTPUT_TRIM's reset value is the active record. -/
def changedParams (m : Store) : List (Nat × Nat) :=
  let idx := ((m.filter (fun c => rwsKey c.1)).map (fun c => c.1 / 2 ^ 20)).eraseDups
  (idx.filter (fun i => i != parIndex 0x1B 0 0x0C)).map (fun i =>
    let size := ((findAttr (i / 65536 % 256) (i % 256)).map AttrRow.size).getD 0
    let last := ((m.filter (fun c => c.1 / 2 ^ 20 == i)).map (fun c => c.1 % 2 ^ 20 + 1)).foldl max 0
    (i, if size ≤ 0xFFFF then size else last))

/-- The configuration image of a content. -/
def configImage (s : State) (m : Store) (seq : Nat) : List Byte :=
  let body := (changedParams m).flatMap (fun p =>
    leBytes 4 p.1 ++ leBytes 2 p.2 ++ cellsReadN parReset m (p.1 * 2 ^ 20) p.2)
  let head := [0x47, 0x51, 0x43, 0x49] ++ leBytes 2 1 ++ leBytes 2 0 ++ leBytes 4 (48 + body.length + 4) ++
    leBytes 8 (s.p 8 0x01 0 0x08) ++ leBytes 4 seq ++ ctBytes (now s) ++ List.replicate 15 0
  head ++ body ++ leBytes 4 (crc32 (head ++ body)).toNat

/-- The slot that does not hold the active image. -/
def freeConfigSlot (s : State) : Bool := (headerSlots s).1 == 0

/-- SEQUENCE of the image of a configuration slot. -/
def imageSeq (s : State) (i : Bool) : Nat := leNat (norBytes s (configSlot s i + 20) 4)

/-- Start writing the configuration in effect into the free slot; an image that does not fit is not written (R406, R529). -/
def State.startPersist (s : State) : State :=
  let slot := freeConfigSlot s
  let img := configImage s (inEffect s) (imageSeq s (!slot) + 1)
  if (slotSizes (norDensity s)).1 * 1024 < img.length ∨ (changedParams (inEffect s)).any (fun p => decide (0xFFFF < p.2)) then
    (s.setP 1 0x01 0 0x10 2).raise (ident .msp 9) 0 0
  else { s with sup := { s.sup with persist := some (slot, img), persistAgain := false } }.setP 1 0x01 0 0x10 1

/-- A commit takes effect with PERSIST 1: its image is written now, or after the one being written (R406). -/
def State.persistNow (s : State) : State :=
  if s.p 1 0x01 0 0x0F = 0 ∨ !s.msp.norPresent then s
  else if s.sup.persist.isSome then { s with sup := { s.sup with persistAgain := true } }
  else s.startPersist

/-- The base of a calibration-record slot (R526). -/
def calSlot (i : Bool) : Nat := if i then 0x11000 else 0x10000

/-- A calibration record of the trims in effect (R134). -/
def calRecord (s : State) (seq origin : Nat) : List Byte :=
  let bank (b : Nat) : List Byte := s.pBytes 192 0x1B 0 0x0C (192 * b) ++ List.replicate 64 0
  let a := [0x47, 0x51, 0x43, 0x52] ++ leBytes 2 1 ++ leBytes 2 1088 ++ leBytes 4 seq ++ leBytes 8 s.sup.fuses.uniqueId.toNat ++
    ctBytes (now s) ++ leBytes 1 origin ++ [0, 0] ++ bank 0 ++ bank 1 ++ bank 2 ++ bank 3
  let b := a ++ leBytes 8 (hash64 a).toNat ++ List.replicate 20 0
  b ++ leBytes 4 (crc32 b).toNat

/-- Start writing the record of the trims in effect into the slot that does not hold the active one (R135); its ORIGIN is 1
(DESIGN CHOICE, assumption log 25). -/
def State.startCalWrite (s : State) : State :=
  let slot := s.p 1 0x1B 0 0x09 == 0
  { s with sup := { s.sup with
    calWrite := some (slot, calRecord s (s.p 4 0x1B 0 0x0A + 1) 1), calAgain := false } }

/-- A commit that changes OUTPUT_TRIM writes a record; one that comes while a write runs is written after it. -/
def State.calNow (s : State) : State :=
  if !s.msp.norPresent then s
  else if s.sup.calWrite.isSome then { s with sup := { s.sup with calAgain := true } }
  else s.startCalWrite

end Sys2Proof.Machine
end

