-- ==== Sys2Proof/Machine/Commit.lean ====
section
/-! DEFINITION. The meanings of the rows of the staged set and of the commit: its acceptance, its apply instant on the logic side,
its journal record and its image (Parameter dictionary and direct registers). -/

namespace Sys2Proof.Machine

/-- R401, R402: COMMIT_CONFIG. -/
def execCommitConfig (q : Req) (apply : CellTime) (hash : BitVec 64) (s : State) : Host.Outcome State Fault Refusal :=
  .next ((commitConfig s q.ep apply hash).finish q opCommit)

/-- R405: DISCARD_CONFIG. -/
def execDiscardConfig (q : Req) (s : State) : Host.Outcome State Fault Refusal :=
  .next ((discardConfig s q.ep).finish q opDiscard)

/-- R400: STAGED_HASH of the staged set, and HASH_READY. -/
def execStagedHashReady (s : State) : Host.Outcome State Fault Refusal :=
  .next ((s.setP 8 0x01 0 0x09 (configHash s.staged).toNat).setStagedState true)

/-! ### The apply instant on the logic side (R403) -/

/-- Whether a parameter of n bytes differs between two states. -/
def parDiff (old s : State) (n cls inst attr : Nat) : Bool := old.p n cls inst attr != s.p n cls inst attr

/-- The time base: changes of ROLE, PRIORITY1, PRIORITY2, DOMAIN and LOG_SYNC_INTERVAL wait for the next Sync interval boundary
(R63); GM_SOURCE 0 takes GM_PPS and GM_PPS_HOLDOVER to GM_FREE (R44). -/
def State.commitTime (s old : State) (at_ : CellTime) : State :=
  let later : List (Nat × Nat) := [(0x06, 1), (0x07, 1), (0x08, 1), (0x0E, 1), (0x16, 1)]
  let cells := later.map (fun a => (parKey 0x04 0 a.1 0, cellsRead parReset s.dict (parKey 0x04 0 a.1 0)))
  let back := later.foldl (fun (m : Store) a =>
    cellsWrite parReset m (parKey 0x04 0 a.1 0) (cellsRead parReset old.dict (parKey 0x04 0 a.1 0))) s.dict
  let waits := cells.filter (fun c => cellsRead parReset old.dict c.1 != c.2)
  let s1 : State := { s with dict := back, tb := { s.tb with
    pendingRole := waits, pendingAt := at_, ppsOut := s.tb.ppsOut && s.p 1 0x04 0 0x11 != 0 } }
  if (s.tb.state = 5 ∨ s.tb.state = 6) ∧ s1.p 1 0x04 0 0x0A = 0 then s1.setTime 4 else s1

/-- A universal channel whose MODE changes: its immediate value, and the Glade force on it (R96, R100). -/
def State.commitU (s old : State) (u : Fin 16) : State :=
  if parDiff old s 1 0x06 u 0x01 then
    let m := uModeL s u
    let v := uImmediate m (s.p 1 0x06 u 0x10) (s.pI 4 0x06 u 0x11)
    let s1 := if m = 3 then s.setP 1 0x06 u 0x12 (v.toNat % 2) else if isAo m then s.setPI 4 0x09 u 0x01 v else s
    { s1 with glade := { s1.glade with forces := s1.glade.forces.filter (fun f => f.target != u.val) } }
  else s

/-- What the logic side applied to the samples of a channel before an apply instant is kept where a commit changes it (R78,
R156). -/
def State.commitScale (s old : State) (apply : CellTime) (u : Fin 16) : State :=
  if scalingNow old u = scalingNow s u then s
  else { s with scales := s.scales.set u ((apply, scalingNow old u) :: s.scales[u]) }

/-- A group that MEMBERS leaves without members shows nothing and has no fault (R207). -/
def State.emptyGroup (s : State) (g : Fin 4) : State :=
  let faults : List Nat := [ident .lsw 2, ident .lsw 3, ident .lsw 8, ident .lsw 10, ident .lsw 11, ident .lsw 12, ident .lsw 13]
  let s1 := faults.foldl (fun (x : State) i => x.endFault i 4 g) (s.modSide g (fun _ => groupSideReset))
  let s2 := (((s1.setP 2 0x0B g 0x02 0).setP 1 0x0B g 0x04 0).setP 4 0x0B g 0x0F 0).setP 8 0x0B g 0x16 0
  ((s2.setP 8 0x0B g 0x17 0).setP 1 0x0B g 0x18 0).setP 2 0x0B g 0x19 0

/-- A bank that MEMBERS brings into a group that others have already is told its command and its holds. -/
def State.joinBank (s : State) (g b : Fin 4) : State :=
  let t := groupLaunch s g
  let s1 := s.sendDown b (.out (.grp g) (s.p 1 0x0B g 0x03) t)
  let s2 := if gBit s g 7 then s1.sendDown b (.hold g (.trip true) t) else s1
  if s.coppice[g].hot then s2.sendDown b (.hold g (.thermal true (decide (s.coppice[g].latch ≠ 0))) t) else s2

/-- The Firebreak safe state of a group whose members have changed reaches its banks: it stays active (R192), or it ends with the
channel whose record caused it. -/
def State.regroupSafe (s old : State) (g : Fin 4) : State :=
  let bit : BitVec 4 := 1#4 <<< g.val
  let bs := (groupBanks s g).filter (bankPresent s)
  if gSafeOn s g then bs.foldl (fun (x : State) b => x.sendSafe b 1 0 bit 1 0xFFFF) s
  else if gSafeOn old g then bs.foldl (fun (x : State) b => x.sendSafe b 2 0 bit 1 0xFFFF) s
  else s

/-- A group whose MEMBERS change (R192): its immediate value and its members', their Glade forces, the pending trip instant, the
masks of P0B, and what its banks are told. -/
def State.regroupSide (s old : State) (g : Fin 4) : State :=
  let moved := allLs.filter (fun l => natBit (membersOf old g) l.val != natBit (membersOf s g) l.val)
  let s1 := moved.foldl (fun (x : State) (l : Fin 8) => x.setP 1 0x0A l 0x01 (lImmediate (x.p 1 0x0A l 0x1D, x.p 1 0x0A l 0x1E)).toNat) s
  let s2 := if membersOf old g = 0 then s1.setP 1 0x0B g 0x03 (lImmediate (s1.p 1 0x0B g 0x0D, s1.p 1 0x0B g 0x0E)).toNat else s1
  let gone (f : GladeForce) : Bool := f.target == 24 + g.val || moved.any (fun l => f.target == 16 + l.val)
  let s3 : State := { s2 with glade := { s2.glade with forces := s2.glade.forces.filter (fun f => !gone f) } }
  let s4 := ((s3.modSide g (fun k => { k with locked := false })).setBytes 0x0B g 0x1A 0 (List.replicate 9 0)).gFlag g 8 (isCross s3 g)
  if membersOf s g = 0 then s4.emptyGroup g
  else
    let joined := (groupBanks s g).filter (fun b => bankPresent s b && !(groupBanks old g).contains b && membersOf old g != 0)
    (joined.foldl (fun (x : State) b => x.joinBank g b) s4).regroupSafe old g

/-- A commit acts on a group: a change of MEMBERS, which readmits every excluded member (R201), and GROUP_LIMIT (R207). -/
def State.commitG (s old : State) (g : Fin 4) : State :=
  if parDiff old s 1 0x0B g 0x01 then (s.regroupSide old g).memberMasks g 0
  else if parDiff old s 2 0x0B g 0x05 then s.memberMasks g (s.p 1 0x0B g 0x15)
  else s

/-- The subscription entries that a change of SUB_TABLE ends and begins: those whose node, group, count or base changes. -/
def sameSub (a b : SubEntry) (old s : State) : Bool :=
  a.node == b.node && a.count == b.count && a.base == b.base &&
    old.pAt 1 0x0E 0 0x05 (32 * a.index + 2) == s.pAt 1 0x0E 0 0x05 (32 * b.index + 2)

/-- Canopy: subscriptions, publication groups, the hashes and the source epoch (R269, R274, R278, R279), and FORCE_ENABLE 0
(R281). -/
def State.commitCanopy (s old : State) : State :=
  let olds := subscriptions old
  let news := subscriptions s
  let s1 := (olds.filter (fun e => !news.any (fun x => x.index == e.index && sameSub e x old s))).foldl
    (fun (x : State) e => x.removeSub e) s
  let s2 := (news.filter (fun e => !olds.any (fun x => x.index == e.index && sameSub x e old s))).foldl
    (fun (x : State) e => x.createSub e) s1
  let changed (g : Nat) : Bool := old.pBytes 16 0x0E 0 0x03 (16 * g) != s.pBytes 16 0x0E 0 0x03 (16 * g)
  let fresh : List PubState := ((List.range 64).filter changed).map (fun (g : Nat) =>
    { group := g, qualified := false, lastSent := none, mark := markNow s (now s), lastValues := [] })
  let s3 : State := { s2 with canopy := { s2.canopy with pubs := s2.canopy.pubs.filter (fun p => !changed p.group) ++ fresh } }
  let schema := (schemaHash s3.dict).toNat
  let s4 := if schemaHash old.dict != schemaHash s3.dict then
      let x : State := { s3 with canopy := { s3.canopy with sourceEpoch := s3.canopy.sourceEpoch + 1 } }
      x.setP 2 0x0E 0 0x08 x.canopy.sourceEpoch.toNat
    else s3
  let s5 := ((s4.setP 8 0x0E 0 0x06 schema).setP 8 0x0E 0 0x07 (layoutHash s4.dict).toNat).subCounts
  let s6 := if s5.p 1 0x0E 0 0x0A = 0 then s5.releaseAllPoints else s5
  s6.checkLayout

/-- The controller-liveness monitor: a commit that disables it disarms it and ends FSC-06 (R323). -/
def State.commitLive (s old : State) : State :=
  if parDiff old s 1 0x12 0 0x01 then
    let s1 := s.modFb (fun f => { f with liveArmed := false, liveExpired := false })
    if s.firebreak.liveExpired then s1.endFault (ident .fsc 6) 0 0 else s1
  else s

/-- The change time of a gate control list: the first instant BASE + k × CYCLE at or after the apply instant (R435). -/
def changeTime (base : CellTime) (cycle : Nat) (apply : CellTime) : CellTime :=
  let c := nsUnits cycle
  if apply.toNat ≤ base.toNat ∨ c = 0 then base
  else BitVec.ofNat 72 (base.toNat + (apply.toNat - base.toNat + c - 1) / c * c)

/-- A port: a change of its gate control list, and of its MODE (R435, R425, R443). -/
def State.commitPort (s old : State) (apply : CellTime) (p : Fin 3) : State :=
  let listDiff := parDiff old s 1 0x15 p 0x10 || old.pBytes 2048 0x15 p 0x11 0 != s.pBytes 2048 0x15 p 0x11 0 ||
    parDiff old s 2 0x15 p 0x12 || parDiff old s 4 0x15 p 0x13 || parDiff old s 9 0x15 p 0x14
  let s1 :=
    if !listDiff then s
    else if s.p 1 0x15 p 0x10 = 0 then s.modPort p (fun k => { k with oper := none, admin := none, entry := 0, gates := 0xFF })
    else
      let l : GateList := { entries := gateEntries s p, cycle := s.p 4 0x15 p 0x13, base := ctOfBytes (s.pBytes 9 0x15 p 0x14 0) }
      let t := changeTime l.base l.cycle apply
      s.modPort p (fun k => { k with admin := some (l, t), changeAt := t })
  if parDiff old s 1 0x15 p 0x01 then
    let s2 := (s1.linkDown p).modPort p (fun k => { k with badAt := s.tb.mono })
    if s.p 1 0x15 p 0x01 = 0 then s2.endFault (ident .bbs 1) 8 p else s2
  else s1

/-- The switch: the ring starts anew, and the streams whose entries change (R438, R440, R443). -/
def State.commitSwitch (s old : State) : State :=
  let s1 := if parDiff old s 1 0x16 0 0x0A || parDiff old s 1 0x16 0 0x0B then
      let x : State := { s with red := { s.red with blocked := none },
                                ports := s.ports.map (fun k => { k with held := false }),
                                sw := { s.sw with goodRun := 0, missRun := 0, ringAt := s.tb.mono } }
      let entered := isRoot x && ringState s != 2
      let y := x.setP 1 0x16 0 0x0C (if isRoot x then 2 else 0)
      if entered then (y.inc 4 0x16 0 0x14).sendRing 3 else y
    else s
  let changed (i : Nat) : Bool := old.pBytes 32 0x16 0 0x08 (32 * i) != s.pBytes 32 0x16 0 0x08 (32 * i)
  { s1 with sw := { s1.sw with streams := s1.sw.streams.filter (fun x => !changed x.index) } }

/-- A pair whose MASTER_NODES entry changes is in BOTH (R501); what its members were heard of is forgotten. -/
def State.commitPair (s old : State) (m : Fin 7) : State :=
  if masterNodes old m != masterNodes s m then
    let x := if pairState s m = 2 then s.leaveHeld m 1 else s
    (x.modPair m (fun p => { p with lastFrame := Vector.replicate 2 none, lastMissing := none })).setPAt 1 0x18 0 0x03 m.val
      (if isPair x m then 1 else 0)
  else s

/-- The cell link: GCL_STATE and OPER_VERSION (R466, R471). -/
def State.commitGcl (s old : State) : State :=
  let s1 := if parDiff old s 1 0x17 0 0x05 then s.setP 1 0x17 0 0x06 (s.p 1 0x17 0 0x05) else s
  let s2 := if !parDiff old s 2 0x17 0 0x01 then s1
    else if nodeAddress s1 = 0xFFFF then s1.setGclState 0 0
    else if gclState s1 = 0 ∨ gclState s1 = 3 then s1.setGclState (joinedState s1) 0
    else s1
  s2.rangerCheck.helloSoon

/-- The periodic swaps count from the commit that changes their period or their kinds (R505). -/
def State.commitSwaps (s old : State) : State :=
  if parDiff old s 4 0x18 0 0x0B || parDiff old s 1 0x18 0 0x0C then
    let m := markNow s (now s)
    { s with red := { s.red with swapMark := m, pairs := s.red.pairs.map (fun p => { p with swapMark := m }) } }
  else s

/-- What the apply instant does on the logic side, `old` being the state before it (R403 and the owning chapters). -/
def State.commitEffects (s old : State) (apply : CellTime) : State :=
  let s1 := s.commitTime old apply
  let s2 := allU.foldl (fun x u => (x.commitU old u).commitScale old apply u) s1
  let s3 := allGroups.foldl (fun x g => x.commitG old g) s2
  let s4 := (s3.commitCanopy old).commitLive old
  let s5 := allPorts.foldl (fun x p => x.commitPort old apply p) s4
  let s6 := allMasters.foldl (fun x m => x.commitPair old m) (s5.commitSwitch old)
  let s7 := ((s6.commitGcl old).commitSwaps old).followSafe
  let s8 := if old.pBytes 768 0x1B 0 0x0C 0 != s7.pBytes 768 0x1B 0 0x0C 0 then s7.calNow else s7
  s8.persistNow

/-- The banks whose report the commit awaits, and those that are silent and will not report (R403). -/
def commitAwait (s : State) (c : Commit) : Commit :=
  { c with
    waiting := c.waiting.filter (fun b => bankPresent s b && bankState s b != 4),
    late := (c.waiting.filter (fun b => bankPresent s b && bankState s b == 4)).foldl
      (fun (m : BitVec 4) b => m ||| (1#4 <<< b.val)) c.late }

/-- The pending content takes effect where its apply instant lies at or before an instant (R403). -/
def State.commitBy (s : State) (at_ : CellTime) : State :=
  match s.commit with
  | none => s
  | some c =>
    if reached c.apply at_ then
      let c' := commitAwait s c
      let s1 : State := { s.recordEpochs.withContent c.content with commit := none, journalCommits := s.journalCommits ++ [c'] }
      let last := ctBytes c.apply ++ leBytes 1 c.endpoint ++ [0, 0] ++ leBytes 8 c.hash.toNat ++ leBytes 1 c.late.toNat ++ [0, 0, 0]
      let s2 := (((s1.inc 4 0x01 0 0x11).setBytes 0x01 0 0x12 0 last).setP 1 0x01 0 0x0B 0).orP 0x01 0 0x15 1
      let s3 := ((s2.setP 8 0x01 0 0x08 c.hash.toNat).setP 8 0x01 0 0x0D 0).setPCt 0x01 0 0x0C 0
      (s3.commitEffects s c.apply).ringAll 5
    else s

/-- R403: the pending content takes effect. -/
def execCommitApply (s : State) : Host.Outcome State Fault Refusal := .next (s.commitBy (now s))

/-! ### The main lane of Glade (R287, R295, R297) -/

/-- What comes before the main pass of an instant: a commit of the same instant, the fast pass that is due with it, and the swap. -/
def State.mainStart (s : State) (at_ : CellTime) : State :=
  let s1 := s.commitBy at_
  State.swapDue (if fastInstant s = at_ then s1.fastDue else s1) at_

/-- R287: a main pass evaluates every rule, at an instant of its lane that has not been taken; an overrun is counted and raises
GLD-01. -/
def execMainPass (overran : Bool) (s : State) : Host.Outcome State Fault Refusal :=
  let t := mainInstant s
  if !freshInstant s s.glade.mainMark t then .next s
  else
    let s1 := (((s.mainStart t).pass false).passTime 0x0A).modGlade (fun g => { g with
      passes := g.passes + 1, lastOverran := overran, ready := g.active.isSome, mainMark := markNow s t })
    .next (if overran then ((s1.inc 4 0x0F 0 0x0C).orP 0x0F 0 0x12 1).raise (ident .gld 1) 0 0 else s1)

/-- R295: the start of the first main pass at or after the apply instant. -/
def execRuleSwapExecute (s : State) : Host.Outcome State Fault Refusal :=
  let t := mainInstant s
  .next (if freshInstant s s.glade.mainMark t then s.mainStart t else s)

/-- R403: a commit that every bank has reported is journalled with its apply instant. -/
def execCommitJournal (s : State) : Host.Outcome State Fault Refusal :=
  match s.journalCommits with
  | [] => .next s
  | c :: rest =>
    if c.waiting.isEmpty then
      let s1 : State := { s with journalCommits := rest }
      .next (s1.journal 3 (ctBytes c.apply ++ leBytes 8 c.hash.toNat ++ leBytes 1 c.endpoint ++ leBytes 1 c.late.toNat))
    else .next s

/-- R406, R529: the write of a configuration image ends; newer content is written after it. -/
def execPersistDone (ok : Bool) (s : State) : Host.Outcome State Fault Refusal :=
  match s.sup.persist with
  | none => .next s
  | some (slot, img) =>
    let size := (slotSizes (norDensity s)).1 * 1024
    let s1 : State := { s with sup := { s.sup with persist := none } }
    let (_, boot, fw) := headerSlots s
    let s2 :=
      if ok then
        ((State.writeNor (s1.eraseNor (configSlot s slot) size) (configSlot s slot) img).writeHeader
          (if slot then 1 else 0) boot fw).setP 1 0x01 0 0x10 0
      else (((s1.failRange (configSlot s slot) img.length).setP 1 0x01 0 0x10 2).orP 0x01 0 0x15 8).norFailed
    .next (if s.sup.persistAgain then s2.startPersist else s2)

end Sys2Proof.Machine
end

