-- ==== Sys2Proof/Machine/Cal.lean ====
section
/-! DEFINITION. The meanings of the rows of CALIBRATE and of the calibration record (Conversion, reference and
self-calibration). -/

namespace Sys2Proof.Machine

/-- The opcode of CALIBRATE. -/
def opCalibrate : Nat := 0x0080

/-- ROTATE_NOW: a priority request, sent to the bank; an ineligible channel is OUT_OF_RANGE (R133). -/
def rotateNow (s : State) (u : Fin 16) : CmdRes :=
  if bankPresent s (bankOfU u) && rotEligible s u then okRes (s.sendDown (bankOfU u) (.calRotate (uIn u)))
  else refuse s rcOutOfRange

/-- R133: CALIBRATE ROTATE_NOW. -/
def execRotateNow (q : Req) (u : Fin 16) (s : State) : Host.Outcome State Fault Refusal :=
  .next ((guardWrite s q (rotateNow s u)).finish q opCalibrate)

/-- TRIM_POINT: the DAC target in effect and the measured value, for the channel's output mode (R133). -/
def trimPoint (s : State) (u : Fin 16) (second : Bool) (measured : Int) : CmdRes :=
  let m := uModeL s u
  let k := s.u[u]
  let b := bankOfU u
  if !isAo m || !bankPresent s b then refuse s rcOutOfRange
  else if (bankNow (s.banks[b])).toNat < k.dacAt.toNat + nsUnits 10000000 then refuse s rcOutOfRange
  else
    let t := k.dacTarget
    let s1 := s.modU u (fun x => { x with
      points := x.points.filter (fun p => !(p.1 == m && p.2.1 == second)) ++ [(m, second, t, measured)] })
    { st := s1, code := 0, payload := leBytes 4 (ofSigned 32 t) ++ leBytes 4 (ofSigned 32 measured) }

/-- R133: CALIBRATE TRIM_POINT. -/
def execTrimPoint (q : Req) (u : Fin 16) (second : Bool) (measured : BitVec 32) (s : State) :
    Host.Outcome State Fault Refusal :=
  .next ((guardWrite s q (trimPoint s u second measured.toInt)).finish q opCalibrate)

/-- A recorded point of a channel. -/
def trimPointOf (s : State) (u : Fin 16) (m : Nat) (second : Bool) : Option (Int × Int) :=
  ((s.u[u]).points.find? (fun p => p.1 == m && p.2.1 == second)).map (fun p => p.2.2)

/-- TRIM_APPLY: the trim of the two points goes into the staged OUTPUT_TRIM (R131, R133). -/
def trimApply (s : State) (u : Fin 16) : CmdRes :=
  let m := uModeL s u
  match trimPointOf s u m false, trimPointOf s u m true with
  | some (s1, a1), some (s2, a2) =>
    if isAo m && trimOk (spanOf m) [s1, a1, s2, a2] then
      let l := [s1, a1, s2, a2].flatMap (fun v => leBytes 4 (ofSigned 32 v))
      { st := s.stageBytes 0x1B 0 0x0C (192 * (bankOfU u).val + 48 * (uIn u).val + 16 * stageOf m) l, code := 0, payload := l }
    else refuse s rcOutOfRange
  | _, _ => refuse s rcOutOfRange

/-- R133: CALIBRATE TRIM_APPLY. -/
def execTrimApply (q : Req) (u : Fin 16) (s : State) : Host.Outcome State Fault Refusal :=
  .next ((guardWrite s q (trimApply s u)).finish q opCalibrate)

/-- R135: the write and the read-back of a record end: it becomes the active record, or CNV-10 is raised; a change that came
meanwhile is written after it. -/
def execCalRecordWriteDone (ok : Bool) (s : State) : Host.Outcome State Fault Refusal :=
  match s.sup.calWrite with
  | none => .next s
  | some (slot, rec') =>
    let s1 : State := { s with sup := { s.sup with calWrite := none } }
    let s2 :=
      if ok then
        ((((s1.eraseNor (calSlot slot) 4096).writeNor (calSlot slot) rec').setP 1 0x1B 0 0x09 (if slot then 1 else 0)).setP 4 0x1B
          0 0x0A (leNat ((rec'.drop 8).take 4))).setP 8 0x1B 0 0x0B (leNat ((rec'.drop 1056).take 8))
      else (s1.failRange (calSlot slot) 1088).raise (ident .cnv 10) 0 0
    .next (if s.sup.calAgain then s2.startCalWrite else s2)

end Sys2Proof.Machine
end

