-- ==== Sys2Proof/Machine/FwOps.lean ====
section
/-! DEFINITION. Firmware slots (R528, R552) and the firmware update session (R564 to R566). -/

namespace Sys2Proof.Machine

/-- The opcodes of the FW_UPDATE commands. -/
def opFwBegin : Nat := 0x0070
/-- FW_UPDATE_DATA. -/
def opFwData : Nat := 0x0071
/-- FW_UPDATE_END. -/
def opFwEnd : Nat := 0x0072

/-- Bytes of the header of a firmware slot. -/
def fwField (s : State) (i : Bool) (off n : Nat) : Nat := leNat (norBytes s (fwSlot s i + off) n)

/-- MAGIC, FORMAT and CRC of an image header (R528). -/
def fwHeaderOk (s : State) (i : Bool) : Bool :=
  let h := norBytes s (fwSlot s i) 256
  h.take 4 == [0x47, 0x51, 0x46, 0x57] && leNat ((h.drop 4).take 2) == 1 &&
    leNat (h.drop 252) == (crc32 (h.take 252)).toNat

/-- The result code of R552 for a slot; `sigOk` tells whether its signature verifies with the key its header names. -/
def slotCheck (s : State) (i sigOk : Bool) : Nat :=
  let len := fwField s i 8 4
  let key := fwField s i 112 1
  if !fwHeaderOk s i then 2
  else if (slotSizes (norDensity s)).2.2 * 1024 < len + 256 ∨ len ≤ fwField s i 12 4 then 3
  else if 3 < key ∨ natBit s.sup.fuses.option.toNat (1 + key) then 4
  else if norBytes s (fwSlot s i + 16) 32 ≠ sha256 (norBytes s (fwSlot s i + 256) len) then 5
  else if !sigOk then 6
  else 1

/-- The session ends with its slot left invalid: its image header goes (R566). -/
def State.dropSession (s : State) : State :=
  match s.sup.session with
  | none => s
  | some f =>
    { s.eraseNor (fwSlot s f.slot) 4096 with
      sup := { s.sup with session := none },
      msp := { (s.eraseNor (fwSlot s f.slot) 4096).msp with
        norOp := if s.msp.norOp.any (fun o => o.update) then none else s.msp.norOp } }

/-- FW_UPDATE_BEGIN (R564, R565): the session opens on the slot that is not running, whose first 4 KiB are erased at once. -/
def fwBegin (s : State) (ep : Fin 8) (len : Nat) : CmdRes :=
  if !mayUpdate s ep then refuse s rcNotAuthority
  else if s.sup.session.isSome then refuse s rcLocked
  else if len = 0 ∨ (slotSizes (norDensity s)).2.2 * 1024 < len + 256 then refuse s rcOutOfRange
  else if norState s ≠ 1 then refuse s rcMemoryFailure
  else
    let slot := !s.sup.fwSlot
    let f : FwSession := { ep := ep.val, slot := slot, len := len, received := 0, erased := 0 }
    let s1 := s.eraseNor (fwSlot s slot) 4096
    let s2 : State := { s1 with sup := { s1.sup with session := some f } }
    { st := s2.eraseNextBlock, code := 0, payload := [if slot then 1 else 0, 0, 0, 0] }

/-- The checks 1 to 3 that DATA and END share, with the session where they pass (R564). -/
def fwSession (s : State) (ep : Fin 8) : BitVec 16 × Option FwSession :=
  if !mayUpdate s ep then (rcNotAuthority, none)
  else
    match s.sup.session with
    | none => (rcBadParam, none)
    | some f => if f.ep = ep.val then (0, some f) else (rcLocked, none)

/-- FW_UPDATE_DATA up to its programming: the state in which it runs, with the bytes programmed, and their range. -/
def fwData (s : State) (ep : Fin 8) (off : Nat) (data : List Byte) : CmdRes × (Nat × Nat) :=
  match fwSession s ep with
  | (code, none) => (refuse s code, (0, 0))
  | (_, some f) =>
    let n := data.length
    if n = 0 ∨ 1008 < n then (refuse s rcBadParam, (0, 0))
    else if off ≠ f.received ∨ f.len + 256 < off + n then (refuse s rcOutOfRange, (0, 0))
    else if f.erased ≤ (off + n - 1) / 65536 then (refuse s rcLocked, (0, 0))
    else
      let a := fwSlot s f.slot + off
      let s1 := s.writeNor a (programBytes (norBytes s a n) data)
      (okRes { s1 with sup := { s1.sup with session := some { f with received := off + n } } }, (a, n))

/-- A FW_UPDATE journal record: SLOT, RESULT and the image's FIRMWARE (R535). -/
def State.fwRecord (s : State) (slot : Bool) (code : BitVec 16) : State :=
  s.journalAt 0x0B (leBytes 1 (if slot then 1 else 0) ++ leBytes 2 code.toNat ++
    leBytes 2 (256 * fwField s slot 6 1 + fwField s slot 7 1))

/-- An END that reached its session ends it, whatever its result (R565). -/
def fwClose (s : State) (f : FwSession) (code : BitVec 16) (payload : List Byte) : CmdRes :=
  let s1 : State := { s with sup := { s.sup with session := none } }
  { st := s1.fwRecord f.slot code, code := code, payload := payload }

/-- FW_UPDATE_END up to the header write: the refusal, or the session that is verified. -/
def fwVerify (s : State) (ep : Fin 8) (sigOk : Bool) : CmdRes ⊕ FwSession :=
  match fwSession s ep with
  | (code, none) => .inl (refuse s code)
  | (_, some f) =>
    if f.received ≠ f.len + 256 then .inl (fwClose s f rcOutOfRange [])
    else if slotCheck s f.slot sigOk ≠ 1 then .inl (fwClose s f rcSignature [])
    else .inr f

/-- The header write of a verified END, which prefers the slot (R527, R565). -/
def fwPrefer (s : State) (f : FwSession) (norOk : Bool) : CmdRes :=
  let n := if f.slot then 1 else 0
  if norOk then
    let (cfg, boot, _) := headerSlots s
    fwClose (s.writeHeader cfg boot n) f 0 [BitVec.ofNat 8 n, 0, 0, 0]
  else fwClose s.norFailed f rcMemoryFailure []

/-- FW_UPDATE_END. -/
def fwEnd (s : State) (ep : Fin 8) (sigOk norOk : Bool) : CmdRes :=
  match fwVerify s ep sigOk with
  | .inl r => r
  | .inr f => fwPrefer s f norOk

end Sys2Proof.Machine
end

