-- ==== Sys2Proof/Machine/MailOps.lean ====
section
/-! DEFINITION. The shared operations of endpoint 0's completion queue, of the mailbox versions, of aborts and of the doorbells
(R367 to R382). -/

namespace Sys2Proof.Machine

/-! ### Endpoint 0's completion queue (R367, R368, R381) -/

/-- The completions in the order in which MBX_ACK shows them: under version 1.x strictly in posting order, a completion waiting
until every earlier posting has completed. -/
def ackQueue (s : State) : List Completion :=
  let p := s.mbx.eps[(0 : Fin 8)]
  if p.major = 1 then
    (p.outstanding.map (fun o => p.completions.find? (fun c => c.tag == o.tag))).takeWhile Option.isSome |>.filterMap id
  else p.completions

/-- Whether RESPONSE_READY follows MBX_CMD instead of the queue (R382). -/
def onEmptyMode (s : State) : Bool := (s.mbx.eps[(0 : Fin 8)]).major == 1 && s.p 1 0x13 0 0x0B == 1

/-- Device-to-host doorbell of an endpoint: bit 0 of endpoint 0 shows its completion queue (R368). -/
def dbOf (s : State) (e : Fin 8) : Word :=
  let p := s.mbx.eps[e]
  if e ≠ 0 ∨ onEmptyMode s then p.db else setBit32 p.db 0 (!(ackQueue s).isEmpty)

/-- Clear device-to-host bits, as W1C; bit 0 of endpoint 0 takes a write only in the interrupt-on-empty mode (R368, R382). A
NOTIFY that is being repeated follows the bits that stay set (R474). -/
def State.clearDb (s : State) (e : Fin 8) (mask : Word) : State :=
  let m := if e = 0 ∧ onEmptyMode s = false then mask &&& 0xFFFFFFFE else mask
  let s1 := s.modEp e (fun p => { p with db := p.db &&& ~~~ m })
  let left := (s1.mbx.eps[e]).db
  { s1 with gcl := { s1.gcl with
    notify := s1.gcl.notify.set e { s1.gcl.notify[e] with bits := s1.gcl.notify[e].bits &&& left } } }

/-- MBX_CMD under version 1.x becomes empty: RESPONSE_READY in the interrupt-on-empty mode (R382). -/
def State.cmdEmpty (s : State) : State :=
  let s1 := s.modEp 0 (fun p => { p with cmdHeld := none })
  if onEmptyMode s1 then s1.ringEp 0 1 else s1

/-- The tag that a version 1.x posting takes: the next in turn that is free (R381). -/
def nextFreeTag (p : Endpoint) : Nat :=
  (((List.range 32).map (fun i => (p.nextTag + i) % 32)).find? (fun t => (findTag p t).isNone)).getD p.nextTag

/-- The fields of a version 1.x word: SEQ, opcode, buffer number or 0xFF (R381). -/
def word1 (w : Word) : Word × Nat × Nat := (w >>> 16, w.toNat / 256 % 256, w.toNat % 256)

/-- The checks of R364 on a version 1.x word; the full command queue is the word's own wait. -/
def word1Check (s : State) (w : Word) : Option (BitVec 16) :=
  let (_, op, buf) := word1 w
  if !(s.mbx.eps[(0 : Fin 8)]).opened then some rcLocked
  else if buf = 0xFF ∧ singleOk op = false then some rcBadParam
  else if buf ≠ 0xFF ∧ heldBy s buf 0 = false then some rcNoBuffer
  else none

/-- The word that MBX_CMD holds is accepted while fewer than 32 commands are outstanding (R381). -/
def State.acceptHeld (s : State) : State :=
  let p := s.mbx.eps[(0 : Fin 8)]
  match p.cmdHeld with
  | none => s
  | some w =>
    if 32 ≤ p.outstanding.length then s
    else
      let (seq, op, buf) := word1 w
      let t := nextFreeTag p
      let s1 := s.cmdEmpty
      if buf ≠ 0xFF ∧ heldBy s1 buf 0 = false then s1.refusePosting 0 rcNoBuffer
      else (s1.accept 0 t seq (buf == 0xFF) (if buf = 0xFF then op else buf) op 0 0xFFFF 0 0).modEp 0
        (fun x => { x with nextTag := (t + 1) % 32 })

/-- A posting of endpoint 0 in the version in effect: the code, and the state after it (R349, R362 to R364, R381). -/
def postWord (s : State) (w : Word) : BitVec 16 × State :=
  let p := s.mbx.eps[(0 : Fin 8)]
  if p.major = 1 then
    match (if p.cmdHeld.isSome then some rcQueueFull else word1Check s w) with
    | some code => (code, s.refusePosting 0 code)
    | none => (0, (s.modEp 0 (fun x => { x with cmdHeld := some w })).acceptHeld)
  else
    let form := w.toNat / 2 ^ 14 % 4
    let tag := w.toNat / 256 % 32
    let ob := w.toNat % 256
    match postingCheck s 0 form tag ob with
    | some code => (code, s.refusePosting 0 code)
    | none =>
      let op := if form = 0 then ob else leNat (bufBytes s ob 0 2)
      (0, s.accept 0 tag (w >>> 16) (form == 0) ob op 0 0xFFFF 0 0)

/-- A write of MBX_ACK_POP: the head completion leaves and its tag is free; any other tag sets DIAG.BAD_POP (R367). -/
def State.ackPop (s : State) (tag : Nat) : State :=
  match ackQueue s with
  | [] => s.orP 0x13 0 0x15 4
  | c :: _ =>
    if c.tag = tag then
      (s.modEp 0 (fun p => { p with
        completions := p.completions.filter (fun x => x.tag != tag),
        outstanding := p.outstanding.filter (fun o => o.tag != tag) })).acceptHeld
    else s.orP 0x13 0 0x15 4

/-- A write of MBX_RELEASE (R371). -/
def State.releaseBuf (s : State) (buf : Nat) : State :=
  if heldBy s buf 0 then s.setBuf buf none else s.orP 0x13 0 0x15 8

/-- USER_IN bits are cleared (R379). -/
def State.clearUserIn (s : State) (e : Fin 8) (mask : Word) : State :=
  (s.modEp e (fun p => { p with h2d := p.h2d &&& ~~~ (mask &&& 0x00FF0000) })).userPoints

/-! ### Aborts (R374 to R376) -/

/-- The opcodes of the long commands that an abort ends (R366, R375). -/
def abortable : List Nat := [opJournalRead, opFwData, opFwEnd, opLoadRules, opRehearse]

/-- What the abort of a long command in progress leaves behind (R375). -/
def State.abortLong (s : State) (op : Nat) : State :=
  if op = opFwData ∨ op = opFwEnd then s.dropSession
  else if op = opLoadRules then
    (s.eraseNor (ruleSlot s (freeRuleSlot s)) 4096).modGlade (fun g => { g with inactive := 2, persisted := false })
  else s

/-- Abort one outstanding command: whether it ended ABORTED. -/
def State.abortTag (s : State) (ep : Fin 8) (tag : Nat) : State × Bool :=
  match findTag (s.mbx.eps[ep]) tag with
  | none => (s, false)
  | some o =>
    let q : Req := { ep := ep, tag := tag, seq := o.seq }
    if o.phase = 2 then (s, false)
    else if o.phase = 1 then
      match s.mbx.long.find? (fun j => j.ep == ep.val && j.tag == tag && abortable.contains j.opcode) with
      | none => (s, false)
      | some j =>
        let s1 : State := { s with mbx := { s.mbx with long := s.mbx.long.erase j } }
        ((s1.abortLong j.opcode).finish q j.opcode rcAborted [], true)
    else
      let s1 : State := { s with mbx := { s.mbx with queue := s.mbx.queue.filter (fun x => x != (ep.val, tag)) } }
      (s1.finish q o.opcode rcAborted [], true)

/-- Abort a list of tags of an endpoint; the number that ended ABORTED. -/
def State.abortTags (s : State) (ep : Fin 8) (tags : List Nat) : State × Nat :=
  tags.foldl (fun (x : State × Nat) t =>
    let r := x.1.abortTag ep t
    (r.1, if r.2 then x.2 + 1 else x.2)) (s, 0)

/-- The tags of the commands of an endpoint that have not completed. -/
def openTags (s : State) (ep : Fin 8) : List Nat :=
  (((s.mbx.eps[ep]).outstanding).filter (fun o => o.phase != 2)).map (fun o => o.tag)

/-- The opcode of ABORT. -/
def opAbort : Nat := 0x00F0

/-- ABORT: the command with a tag, or with 0xFF every other one of its endpoint (R374). -/
def abortCmd (s : State) (q : Req) (tag : Nat) : CmdRes :=
  if 31 < tag ∧ tag ≠ 0xFF then refuse s rcBadParam
  else
    let tags := (openTags s q.ep).filter (fun t => t != q.tag && (tag == 0xFF || t == tag))
    let (s1, n) := s.abortTags q.ep tags
    { st := s1, code := 0, payload := [BitVec.ofNat 8 n, 0, 0, 0] }

/-- Host-to-device bit 31 of endpoint 0 is rung: every outstanding command of endpoint 0 is covered; under version 1.x the word in
MBX_CMD is discarded (R374, R376, R381). -/
def State.ringAbort (s : State) : State :=
  let p := s.mbx.eps[(0 : Fin 8)]
  if p.h2d.getLsbD 31 then s
  else
    let tags := openTags s 0
    let s1 := (s.modEp 0 (fun x => { x with h2d := x.h2d ||| 0x80000000 })).abortTags 0 tags
    let s2 := if p.cmdHeld.isSome then s1.1.cmdEmpty else s1.1
    s2.modEp 0 (fun x => { x with aborting := some tags })

/-- Ring host-to-device bits of an endpoint: USER_IN on every endpoint, ABORT on endpoint 0 (R379). -/
def State.ringH2d (s : State) (e : Fin 8) (ring : Word) : State :=
  let s1 := (s.modEp e (fun p => { p with h2d := p.h2d ||| (ring &&& 0x00FF0000) })).userPoints
  if e = 0 ∧ ring.getLsbD 31 then s1.ringAbort else s1

/-! ### Versions (R380) -/

/-- The version that NEGOTIATE selects on an endpoint, `none` for VERSION. -/
def versionFor (ep : Fin 8) (major minor : Nat) : Option (Nat × Nat) :=
  if major = 2 ∧ 3 ≤ minor then some (2, 3)
  else if ep = 0 ∧ major = 2 then some (1, 2)
  else if ep = 0 ∧ major = 1 then some (1, min 2 minor)
  else none

/-- The opcode of mailbox NEGOTIATE. -/
def opNegotiate : Nat := 0x00F1

/-- NEGOTIATE: the code and the version returned, and the version in effect afterwards. -/
def negotiate (s : State) (q : Req) (major minor : Nat) : CmdRes × Option (Nat × Nat) :=
  let p := s.mbx.eps[q.ep]
  match versionFor q.ep major minor with
  | none => (refuse s rcVersion, none)
  | some v =>
    let answer (w : Nat × Nat) : CmdRes := { st := s, code := 0, payload := [BitVec.ofNat 8 w.1, BitVec.ofNat 8 w.2, 0, 0] }
    if p.outstanding.any (fun o => o.tag != q.tag) then (refuse s rcLocked, none)
    else if p.major = 1 then (answer (p.major, p.minor), none)
    else (answer v, some v)

/-- NEGOTIATE completes in the form of the version before it; the endpoint uses the new one from its next posting. -/
def State.negotiated (s : State) (q : Req) (major minor : Nat) : State :=
  let r := negotiate s q major minor
  let s1 := r.1.finish q opNegotiate
  match r.2 with
  | none => s1
  | some v => s1.modEp q.ep (fun p => { p with major := v.1, minor := v.2 })

end Sys2Proof.Machine
end

