-- ==== Sys2Proof/Machine/Mailbox.lean ====
section
/-! DEFINITION. The mailbox commands of their own rows: ABORT, NEGOTIATE, PING, FW_UPDATE, the completion of a long command, and
endpoint 0's claims, releases and acknowledgements (R366 to R383). -/

namespace Sys2Proof.Machine

/-- The opcode of PING. -/
def opPing : Nat := 0x0001

/-- PING: up to 64 bytes come back (R383). -/
def ping (s : State) (data : List Byte) : CmdRes :=
  if 64 < data.length then refuse s rcBadParam else { st := s, code := 0, payload := data }

/-- R383: PING returns its data. -/
def execPing (q : Req) (data : List Byte) (s : State) : Host.Outcome State Fault Refusal :=
  .next ((ping s data).finish q opPing)

/-- R374: ABORT ends the covered commands and completes with their number. -/
def execAbort (q : Req) (tag : Nat) (s : State) : Host.Outcome State Fault Refusal :=
  .next ((abortCmd s q tag).finish q opAbort)

/-- R376: when no covered command is left, ABORT_DONE is set and host-to-device bit 31 cleared. -/
def State.abortDone (s : State) (ep : Fin 8) : State :=
  let p := s.mbx.eps[ep]
  match p.aborting with
  | none => s
  | some tags =>
    if tags.any (fun t => p.outstanding.any (fun o => o.tag == t && o.phase == 1)) then s
    else s.modEp ep (fun x => { x with
      db := x.db ||| 0x80000000, h2d := x.h2d &&& 0x7FFFFFFF, aborting := none })

/-- R376: every command covered by an abort has completed. -/
def execAbortDone (ep : Fin 8) (s : State) : Host.Outcome State Fault Refusal := .next (s.abortDone ep)

/-- R380: mailbox NEGOTIATE. -/
def execNegotiate (q : Req) (major minor : Nat) (s : State) : Host.Outcome State Fault Refusal :=
  .next (s.negotiated q major minor)

/-- R367: a write of MBX_ACK_POP; the tag stands in bits 4 to 0. -/
def execMbxAckPop (tag : Word) (s : State) : Host.Outcome State Fault Refusal := .next (s.ackPop (tag.toNat % 32))

/-- R370: a read of MBX_CLAIM over the host serial link. -/
def execMbxClaim (s : State) : Host.Outcome State Fault Refusal := .next (s.claim 0).2

/-- R371: a write of MBX_RELEASE; the buffer number stands in bits 7 to 0. -/
def execMbxRelease (buf : Word) (s : State) : Host.Outcome State Fault Refusal := .next (s.releaseBuf (buf.toNat % 256))

/-- R379: a write of MBX_H2D_CLEAR (endpoint 0) or P13.ee.0A clears USER_IN bits. -/
def execMbxH2dClear (ep : Fin 8) (mask : Word) (s : State) : Host.Outcome State Fault Refusal := .next (s.clearUserIn ep mask)

/-- R564, R565: FW_UPDATE_BEGIN. -/
def execFwUpdateBegin (q : Req) (len : BitVec 32) (s : State) : Host.Outcome State Fault Refusal :=
  .next ((fwBegin s q.ep len.toNat).finish q opFwBegin)

/-- Start a FW_UPDATE_DATA: the long command carries the NOR bytes it programs. -/
def startFwData (s : State) (q : Req) (off : Nat) (data : List Byte) : State :=
  let (r, region) := fwData s q.ep off data
  if r.code ≠ 0 then r.finish q opFwData
  else
    let s1 := r.startLong q opFwData
    { s1 with mbx := { s1.mbx with long := s1.mbx.long.map (fun j =>
      if j.ep == q.ep.val && j.tag == q.tag then { j with region := region } else j) } }

/-- R564: FW_UPDATE_DATA starts its programming; it completes as a long command (R366). -/
def execFwUpdateData (q : Req) (off : BitVec 32) (data : List Byte) (s : State) : Host.Outcome State Fault Refusal :=
  .next (startFwData s q off.toNat data)

/-- R565: FW_UPDATE_END; `sigOk` is the outcome of the signature check of R552 and `norOk` that of the header write. -/
def execFwUpdateEnd (q : Req) (sigOk norOk : Bool) (s : State) : Host.Outcome State Fault Refusal :=
  .next ((fwEnd s q.ep sigOk norOk).finish q opFwEnd)

/-! ### The end of a long command (R366) -/

/-- What a long command gives at its end, by its opcode; `ok` is the outcome of its access to the memory. -/
def longResult (s : State) (j : LongRun) (ok : Bool) : CmdRes :=
  let done : CmdRes := { st := s, code := j.result, payload := j.payload }
  if j.opcode = opJournalRead then
    if ok then
      match j.cursor with
      | some c => { done with st := s.setP 4 0x13 (fin8 j.ep) 0x12 c.toNat }
      | none => done
    else refuse s rcMemoryFailure
  else if j.opcode = opFwData then
    if ok then done
    else
      let s1 := (s.failRange j.region.1 j.region.2).norFailed
      refuse { s1 with sup := { s1.sup with session := none } } rcMemoryFailure
  else if j.opcode = opFwEnd then
    match s.sup.session with
    | some f => fwPrefer s f ok
    | none => done
  else if j.opcode = opLoadRules then
    if ok && rulesFit s then
      let s1 := s.persistRules
      { st := s1, code := 0, payload := loadPayload s1 true }
    else refuse s.rulesFailed rcMemoryFailure
  else done

/-- R366: a long command finishes. A CANCEL_SCHEDULE waits for its banks' reports instead (R256). -/
def execLongCommandComplete (ep : Fin 8) (tag : Nat) (ok : Bool) (s : State) : Host.Outcome State Fault Refusal :=
  match s.mbx.long.find? (fun j => j.ep == ep.val && j.tag == tag && j.opcode != opCancel) with
  | none => .next s
  | some j =>
    let s1 : State := { s with mbx := { s.mbx with long := s.mbx.long.erase j } }
    .next ((longResult s1 j ok).finish (reqOf s ep tag) j.opcode)

end Sys2Proof.Machine
end

