-- ==== Sys2Proof/Machine/Attrs.lean ====
section
/-! DEFINITION. What an attribute of the dictionary reads as (R391 to R398): the parameter store, and the attributes that other
parts of the state decide. -/

namespace Sys2Proof.Machine

/-- `n` bytes from an offset of a table whose entry i is `f i`, of `size` bytes each. -/
def tableBytes (size : Nat) (f : Nat → List Byte) (off n : Nat) : List Byte :=
  (((List.range (n / size + 2)).flatMap (fun i => f (off / size + i))).drop (off % size)).take n

/-- `n` bytes from an offset of a value that is held whole. -/
def wholeBytes (l : List Byte) (off n : Nat) : List Byte := (l.drop off).take n

/-- A list padded or cut to a length. -/
def padTo (n : Nat) (l : List Byte) (fill : Byte) : List Byte := (l ++ List.replicate (n - l.length) fill).take n

/-- Bytes with a bit for each number of a list. -/
def bitBytes (n : Nat) (l : List Nat) : List Byte :=
  (List.range n).map (fun i => BitVec.ofNat 8 ((List.range 8).foldl (fun v j => v + if l.contains (8 * i + j) then 2 ^ j else 0) 0))

/-- A Boolean as a byte. -/
def boolByte (b : Bool) : List Byte := [if b then 1 else 0]

/-! ### Device and identity (R394, R415) -/

/-- The type code of an attribute (R393). -/
def typeCode (r : AttrRow) : Nat :=
  if r.count ≠ 1 then 0x30
  else match r.elem, r.signed with
    | 1, false => 1 | 2, false => 2 | 4, false => 3 | 8, false => 4
    | 1, true => 0x11 | 2, true => 0x12 | 4, true => 0x13 | 8, true => 0x14
    | 9, _ => 0x20
    | _, _ => 0x30

/-- The access code of R394. -/
def accessCode : Access → Nat
  | .ro => 0 | .rw => 1 | .rws => 2 | .w1c => 3 | .wo => 4

/-- The size in bytes of one instance of an attribute; the NOR window has the size of the NOR found (P19.00.11). -/
def attrSize (s : State) (cls : Nat) (r : AttrRow) : Nat :=
  if cls = 0x19 ∧ r.attr = 0x11 then s.p 2 0x19 0 0x02 * 131072 else r.size

/-- One entry of DIRECTORY (R394). -/
def dirEntry (s : State) (cls : Nat) (r : AttrRow) : List Byte :=
  leBytes 1 cls ++ leBytes 1 r.attr ++ leBytes 1 (classInstances cls) ++ leBytes 1 (typeCode r) ++ leBytes 1 (accessCode r.access)
    ++ [0, 0, 0] ++ leBytes 4 (attrSize s cls r)

/-- The whole directory. -/
def directory (s : State) : List Byte :=
  ((List.range 28).flatMap (fun c => (classAttrs c).map (dirEntry s c))).flatten

/-- The part number in ASCII with its grade. -/
def partNumber (s : State) : List Byte :=
  padTo 16 ([0x47, 0x51, 0x33, 0x32, 0x38, 0x30, 0x2D] ++ leBytes 1 s.sup.fuses.grade) 0

/-- Class 01. -/
def attr01 (s : State) (attr off n : Nat) : Option (List Byte) :=
  match attr with
  | 0x07 => some (wholeBytes (directory s) off n)
  | _ => none

/-- Class 02, from the fuse shadow. -/
def attr02 (s : State) (attr off n : Nat) : Option (List Byte) :=
  let f := s.sup.fuses
  match attr with
  | 0x01 => some (wholeBytes (leBytes 1 f.grade) off n)
  | 0x02 => some (wholeBytes (partNumber s) off n)
  | 0x03 => some (wholeBytes (leBytes 8 f.uniqueId.toNat) off n)
  | 0x04 => some (wholeBytes (padTo 108 f.dies 0) off n)
  | 0x05 => some (boolByte f.testLock)
  | 0x06 => some [f.option]
  | _ => none

/-- Class 03: the supplies measured are kept in the store (R416). -/
def attr03 (s : State) (attr off n : Nat) : Option (List Byte) :=
  match attr with
  | 0x04 => some (boolByte s.sup.vioLevel)
  | 0x07 => some (boolByte s.sup.holdReady)
  | 0x0A => some (wholeBytes (allBanks.flatMap (fun (b : Fin 4) =>
      if bankPresent s b then s.pBytes 4 0x03 0 0x0A (4 * b) else [0xFF, 0xFF, 0xFF, 0xFF])) off n)
  | _ => none

/-- Class 04, from the time base (P04.00.xx). GM_IDENTITY has its most significant byte first (DESIGN CHOICE, assumption log 17). -/
def attr04 (s : State) (attr off n : Nat) : Option (List Byte) :=
  let t := s.tb
  match attr with
  | 0x01 => some (leBytes 1 t.state)
  | 0x02 => some (wholeBytes (ctBytes (now s)) off n)
  | 0x03 => some (wholeBytes (leBytes 4 (ofSigned 32 (offsetEst s))) off n)
  | 0x04 => some (wholeBytes (leBytes 4 (ofSigned 32 t.rate)) off n)
  | 0x09 => some (leBytes 1 (clockClass s))
  | 0x15 => some (wholeBytes (leBytes 4 t.steps.toNat) off n)
  | 0x17 => some [t.reason]
  | 0x18 => some (wholeBytes (allBanks.flatMap (fun (b : Fin 4) =>
      if bankPresent s b then s.pBytes 2 0x04 0 0x18 (2 * b) else [0x00, 0x80])) off n)
  | 0x19 => some (wholeBytes (beBytes 8 t.gmIdentity.toNat) off n)
  | 0x1A => some (wholeBytes (leBytes 2 t.stepsRemoved.toNat) off n)
  | 0x1B => some (wholeBytes (ctBytes t.ppsIn) off n)
  | 0x1C => some (boolByte t.refType)
  | 0x1D => some (wholeBytes (ctBytes t.entryTime) off n)
  | _ => none

/-- The output rate of a channel in mHz, from its period (P08.xx.0C). -/
def outputRate (period : Nat) : Nat := (roundDiv 6144000000 period).toNat

/-- Class 08: what the configuration in effect decides, and the coefficients. -/
def attr08 (s : State) (inst attr off n : Nat) : Option (List Byte) :=
  let m := max 1 (s.p 2 0x08 inst 0x02)
  let shift := if s.p 1 0x08 inst 0x03 = 1 then some (s.p 1 0x08 inst 0x04) else none
  let g := mkGrid 4 0 m (s.p 4 0x08 inst 0x01) shift
  let coef (i : Nat) : Int := if i < 16 then halfTap 3 15 i else if i < 48 then halfTap 4 31 (i - 16) else polyCoef (i - 48)
  match attr with
  | 0x0A => some (wholeBytes (leBytes 4 g.delay) off n)
  | 0x0B => some (wholeBytes (leBytes 4 g.half) off n)
  | 0x0C => some (wholeBytes (leBytes 4 (outputRate g.period)) off n)
  | 0x14 => some (tableBytes 4 (fun i => if i < 4145 then leBytes 4 (ofSigned 32 (coef i)) else []) off n)
  | _ => none

/-- A capture as an entry of the queue (R223). -/
def captureBytes (c : Capture) : List Byte :=
  let flags := (if c.falling then 1 else 0) + (if c.opened then 2 else 0) + (if c.uncertain then 4 else 0) +
    (if c.latch then 8 else 0) + (if c.lossBefore then 16 else 0) + (if c.inexact then 32 else 0)
  ctBytes c.time ++ leBytes 1 flags ++ leBytes 2 c.seq.toNat ++ leBytes 4 c.value.toNat

/-- Class 0C: the capture queue (R226). -/
def attr0C (s : State) (inst attr off n : Nat) : Option (List Byte) :=
  let q := s.captures[fin8 inst]
  match attr with
  | 0x0D => some (leBytes 1 q.length)
  | 0x0E => some (wholeBytes (padTo 1024 (q.flatMap captureBytes) 0) off n)
  | 0x0F => some (wholeBytes [0, 0] off n)
  | _ => none

/-- Slots taken in a bank's queue (P0D.00.07). -/
def queueLevel (s : State) (b : Fin 4) : Nat := (s.sched.filter (fun r => r.bank == b)).length

/-- Entry i of SCHED_TABLE: bank i / 256, slot i mod 256. -/
def schedSlot (s : State) (i : Nat) : List Byte :=
  match s.sched.find? (fun r => r.bank.val == i / 256 && r.slot == i % 256) with
  | some r => schedBytes r
  | none => List.replicate 32 0

/-- Class 0D. -/
def attr0D (s : State) (attr off n : Nat) : Option (List Byte) :=
  match attr with
  | 0x07 => some (wholeBytes (allBanks.flatMap (fun b => leBytes 2 (if bankPresent s b then queueLevel s b else 0xFFFF))) off n)
  | 0x08 => some (tableBytes 32 (fun i => if i < 1024 then schedSlot s i else []) off n)
  | _ => none

/-- Class 0E: the point, group and force tables (R299). -/
def attr0E (s : State) (attr off n : Nat) : Option (List Byte) :=
  match attr with
  | 0x01 => some (tableBytes 8 (pointBytes s) off n)
  | 0x02 => some (tableBytes 16 (groupRec s) off n)
  | 0x08 => some (wholeBytes (leBytes 2 s.canopy.sourceEpoch.toNat) off n)
  | 0x0D => some (wholeBytes (padTo 256 (s.canopy.forces.flatMap (fun f => leBytes 4 f.handle)) 0xFF) off n)
  | _ => none

/-- An entry of FORCE_TABLE (R301). -/
def forceEntry (s : State) (t : Nat) : List Byte :=
  match s.glade.forces.find? (fun f => f.target == t) with
  | some f => leBytes 2 f.rule ++ boolByte f.delivered ++ [0] ++ leBytes 4 (ofSigned 32 f.value)
  | none => [0xFF, 0xFF, 0, 0, 0, 0, 0, 0]

/-- A number of the active rule table, 0 with none. -/
def activeNat (s : State) (f : Bool → Nat) : Nat := match s.glade.active with | some b => f b | none => 0

/-- Class 0F (R301). -/
def attr0F (s : State) (attr off n : Nat) : Option (List Byte) :=
  let g := s.glade
  match attr with
  | 0x01 => some (leBytes 1 g.state)
  | 0x02 => some (leBytes 1 (match g.active with | none => 0xFF | some b => if b then 1 else 0))
  | 0x03 => some (wholeBytes (leBytes 4 (activeNat s (tableId s))) off n)
  | 0x04 => some (wholeBytes (leBytes 8 (activeNat s (imageHash s))) off n)
  | 0x05 => some (leBytes 1 g.inactive)
  | 0x06 => some (wholeBytes (leBytes 4 (if g.inactive = 2 then tableId s (inactiveBank s) else 0)) off n)
  | 0x07 => some (wholeBytes (swapAtBytes g.swapAt) off n)
  | 0x08 => some (wholeBytes (leBytes 2 (activeNat s (ruleCount s))) off n)
  | 0x09 => some (wholeBytes (leBytes 2 (activeNat s (fun b => (laneRules s b true).length))) off n)
  | 0x0D => some (wholeBytes (bitBytes 512 g.results) off n)
  | 0x0E => some (wholeBytes (bitBytes 512 g.safeTaken) off n)
  | 0x0F => some (tableBytes 8 (fun t => if t < 28 then forceEntry s t else []) off n)
  | 0x11 => some (leBytes 1 (match g.bootSlot with | none => 0xFF | some b => if b then 1 else 0))
  | _ => none

/-- A safe-state record as SAFE_RECORDS shows it (R333). -/
def recordWord (r : SafeRecord) : Nat :=
  (if r.set then 0x8000 else 0) + (if r.resetOnly then 0x4000 else 0) + min 255 r.causes.length

/-- Class 10. -/
def attr10 (s : State) (attr off n : Nat) : Option (List Byte) :=
  match attr with
  | 0x01 => some (leBytes 1 (safeSummary s))
  | 0x02 => some (wholeBytes (s.firebreak.records.toList.flatMap (fun r => leBytes 2 (recordWord r))) off n)
  | 0x03 => some (wholeBytes (allBanks.flatMap (fun b =>
      if bankPresent s b then boolByte (isAutonomous s b) else [0xFF])) off n)
  | 0x0A => some (boolByte s.firebreak.safeInOn)
  | 0x0B => some (boolByte s.firebreak.failLow)
  | _ => none

/-- CRC-32 of the reaction table in effect (R337). -/
def reactCrc (s : State) : Word := crc32 (s.pBytes 384 0x11 0 0x01 0)

/-- The highest class among the active instances, `none` without any. -/
def highestActive (s : State) : Option Nat :=
  s.firebreak.active.foldl (fun (m : Option Nat) a => some (max (m.getD 0) (faultClass a.ident))) none

/-- One active instance (R334). -/
def activeBytes (a : ActiveFault) : List Byte :=
  leBytes 2 a.ident ++ leBytes 1 a.obj.kind ++ [0] ++ leBytes 2 a.obj.index ++ leBytes 2 (min 0xFFFF a.count)

/-- An unused entry of ACTIVE_FAULTS. -/
def noActive : List Byte := [0xFF, 0xFF, 0, 0, 0, 0, 0, 0]

/-- Class 11. -/
def attr11 (s : State) (attr off n : Nat) : Option (List Byte) :=
  let f := s.firebreak
  match attr with
  | 0x04 => some (wholeBytes (padTo 1536 (f.log.flatMap faultBytes) 0) off n)
  | 0x05 => some (leBytes 1 f.log.length)
  | 0x08 => some (tableBytes 8 (fun i => if i < 64 then ((f.active[i]?).map activeBytes).getD noActive else []) off n)
  | 0x0A => some (leBytes 1 ((highestActive s).getD 0xFF))
  | 0x0D => some (wholeBytes (leBytes 4 (reactCrc s).toNat) off n)
  | _ => none

/-- The image of Heartwood (R329); a content whose CRC does not match shows a free CRC. -/
def heartwoodBytes (s : State) : List Byte :=
  let h := s.heartwood
  let body := leBytes 2 h.wdtResets.toNat ++ [h.bootAttempts, h.resetCause] ++ padTo 24 h.lastFault 0 ++
    leBytes 2 h.monResets.toNat ++ List.replicate 30 0
  body ++ leBytes 4 (if h.crcGood then (crc32 body).toNat else Config.freeValue s.draws % 2 ^ 32)

/-- Class 12. -/
def attr12 (s : State) (attr off n : Nat) : Option (List Byte) :=
  let f := s.firebreak
  match attr with
  | 0x03 => some (leBytes 1 (if f.liveExpired then 2 else if f.liveArmed then 1 else 0))
  | 0x06 => some (boolByte s.wdt.enabled)
  | 0x07 => some (boolByte (s.sup.fuses.option.getLsbD 0))
  | 0x0A => some (wholeBytes (leBytes 2 s.heartwood.wdtResets.toNat) off n)
  | 0x0B => some (wholeBytes (heartwoodBytes s) off n)
  | _ => none

/-- Class 13 (R388); the attributes of endpoint 0 alone read 0 elsewhere. -/
def attr13 (s : State) (inst attr off n : Nat) : Option (List Byte) :=
  let e := fin8 inst
  let p := s.mbx.eps[e]
  match attr with
  | 0x01 => some (wholeBytes (leBytes 2 (p.major * 256 + p.minor)) off n)
  | 0x02 => some (boolByte p.opened)
  | 0x04 => some (leBytes 1 p.outstanding.length)
  | 0x05 => some (wholeBytes (leBytes 4 (p.outstanding.foldl (fun v o => v + 2 ^ o.tag) 0)) off n)
  | 0x07 => some (wholeBytes (leBytes 4 (dbOf s e).toNat) off n)
  | 0x08 => some (wholeBytes (leBytes 4 p.mask.toNat) off n)
  | 0x09 => some (wholeBytes (leBytes 4 p.h2d.toNat) off n)
  | 0x0B => if inst = 0 then none else some [0]
  | 0x0C => some (wholeBytes (leBytes 2 (buffersHeld s e)) off n)
  | 0x11 => some (wholeBytes (padTo 256 (p.window.flatMap (fun w => leBytes 4 w.seq.toNat)) 0) off n)
  | 0x13 => if inst = 0 then none else some [0]
  | 0x14 => if inst = 0 then none else some [0]
  | _ => none

/-- GCL_STATE of a port (P15.pp.17): off, change pending, running. -/
def gateState (s : State) (p : Fin 3) : Nat :=
  if s.p 1 0x15 p 0x10 = 0 then 0 else if s.ports[p].admin.isSome then 1 else 2

/-- LINK_STATE of a port (P15.pp.02). -/
def linkState (s : State) (p : Fin 3) : Nat := if s.p 1 0x15 p 0x01 = 0 then 2 else if s.ports[p].up then 1 else 0

/-- The entries of the gate list in effect. -/
def operEntries (s : State) (p : Fin 3) : List (Byte × Nat) := (s.ports[p].oper.map (fun l => l.entries)).getD []

/-- Class 15 (R452). -/
def attr15 (s : State) (inst attr off n : Nat) : Option (List Byte) :=
  let p : Fin 3 := ⟨inst % 3, by omega⟩
  let q := s.ports[p]
  match attr with
  | 0x02 => some (leBytes 1 (linkState s p))
  | 0x05 => some (wholeBytes (leBytes 2 (if q.up then q.speed else 0)) off n)
  | 0x0E => some (boolByte q.asCapable)
  | 0x0F => some (leBytes 1 q.ptpRole)
  | 0x17 => some (leBytes 1 (gateState s p))
  | 0x1D => some (wholeBytes (padTo 2048 ((operEntries s p).flatMap (fun x => [x.1, 0, 0, 0] ++ leBytes 4 x.2)) 0) off n)
  | _ => none

/-- An entry of MAC_TABLE (R454). -/
def macEntryBytes (s : State) (e : MacEntry) : List Byte :=
  let age := if e.static_ then 0 else min 0xFFFF ((s.tb.mono - e.seen).toNat / 2 ^ 32 / 1000000000)
  beBytes 6 e.mac.toNat ++ leBytes 2 e.vid.toNat ++ leBytes 1 e.ports.toNat ++ [if e.static_ then 3 else 1] ++ leBytes 2 age

/-- Class 16. -/
def attr16 (s : State) (attr off n : Nat) : Option (List Byte) :=
  match attr with
  | 0x05 =>
    let all := staticEntries s ++ s.sw.mac
    some (tableBytes 12 (fun i => if i < 4096 then ((all[i]?).map (macEntryBytes s)).getD (List.replicate 12 0) else []) off n)
  | _ => none

/-- An entry of NODE_TABLE (R470). -/
def nodeBytes (s : State) (a : Nat) : List Byte :=
  match s.gcl.nodes.find? (fun e => e.addr == a) with
  | none => List.replicate 24 0
  | some e =>
    leBytes 1 (if e.lost then 2 else 1) ++ leBytes 1 e.versionMax ++ leBytes 1 e.gclState ++ leBytes 1 e.role ++
      beBytes 6 e.mac.toNat ++ [0, 0] ++ leBytes 8 e.schema.toNat ++
      leBytes 4 (min 0xFFFFFFFF ((s.tb.mono - e.heard).toNat / 2 ^ 32 / 1000000))

/-- Class 17. -/
def attr17 (s : State) (attr off n : Nat) : Option (List Byte) :=
  match attr with
  | 0x0E => some (tableBytes 24 (fun a => if a < 4096 then nodeBytes s a else []) off n)
  | _ => none

/-- Class 18. -/
def attr18 (s : State) (attr : Nat) : Option (List Byte) :=
  match attr with
  | 0x07 => some (leBytes 1 (authMaster s))
  | 0x12 => some (leBytes 1 (match s.red.blocked with | some p => p.val | none => 0xFF))
  | _ => none

/-- ACTIVE (P19.00.10): configuration slot, running firmware slot, header copy in effect. -/
def activeSlots (s : State) : List Byte :=
  let b (x : Bool) : Byte := if x then 1 else 0
  [if s.sup.headerCopy.isSome then BitVec.ofNat 8 (headerSlots s).1 else 0xFF,
   if s.sup.phase = 0 then 0xFF else b s.sup.fwSlot,
   match s.sup.headerCopy with | some c => b c | none => 0xFF, 0]

/-- Class 19. -/
def attr19 (s : State) (attr off n : Nat) : Option (List Byte) :=
  match attr with
  | 0x01 => some (leBytes 1 (norState s))
  | 0x04 => some (boolByte s.jrn.present)
  | 0x0E => some (wholeBytes ((List.range 5).flatMap (fun r => leBytes 1 (mspLevel s r))) off n)
  | 0x10 => some (wholeBytes (activeSlots s) off n)
  | 0x11 => some (norBytes s off n)
  | _ => none

/-- The erase counts of the good blocks. -/
def goodErases (s : State) : List Nat :=
  ((List.range s.jrn.blockCount).filter (nandGood s)).map (fun b => (nandBlock s b).erases.toNat)

/-- BLOCKS of class 1A: good, factory bad, grown bad, free. -/
def blockCounts (s : State) : List Nat :=
  let all := List.range s.jrn.blockCount
  [(all.filter (nandGood s)).length, (all.filter (fun b => (nandBlock s b).factoryBad)).length,
   (all.filter (fun b => (nandBlock s b).bad && !(nandBlock s b).factoryBad)).length, (freeBlocks s).length]

/-- Class 1A (R542). -/
def attr1A (s : State) (attr off n : Nat) : Option (List Byte) :=
  let e := goodErases s
  let sum := e.foldl (· + ·) 0
  match attr with
  | 0x02 => some (wholeBytes (leBytes 4 s.jrn.next.toNat) off n)
  | 0x03 => some (wholeBytes (leBytes 4 (oldestNumber s).toNat) off n)
  | 0x04 => some (wholeBytes (leBytes 4 (heldRecords s).length) off n)
  | 0x05 => some (wholeBytes (leBytes 4 (((journalBlocks s).length - reserveBlocks s) * 3968)) off n)
  | 0x06 => some (wholeBytes (leBytes 2 s.jrn.ram.length) off n)
  | 0x0C => some (wholeBytes ((blockCounts s).flatMap (leBytes 2)) off n)
  | 0x0D => some (wholeBytes ([e.foldl min (e.headD 0), e.foldl max 0, if e.length = 0 then 0 else sum / e.length].flatMap
      (leBytes 4)) off n)
  | 0x10 => some (wholeBytes (bitBytes 1024 ((List.range s.jrn.blockCount).filter (fun b => !nandGood s b))) off n)
  | 0x11 => some (wholeBytes (leBytes 4 (opNow s).toNat) off n)
  | _ => none

/-- The elements of a four-bank attribute, with a value for absent banks. -/
def bankElems (s : State) (size cls attr : Nat) (absent : List Byte) : List Byte :=
  allBanks.flatMap (fun (b : Fin 4) => if bankPresent s b then s.pBytes size cls 0 attr (size * b) else absent)

/-- Class 1B (R139). -/
def attr1B (s : State) (attr off n : Nat) : Option (List Byte) :=
  match attr with
  | 0x05 => some (wholeBytes (bankElems s 4 0x1B 0x05 [0, 0, 0, 0x80]) off n)
  | 0x06 => some (wholeBytes (bankElems s 1 0x1B 0x06 [0xFF]) off n)
  | 0x07 => some (wholeBytes (bankElems s 1 0x1B 0x07 [0xFF]) off n)
  | 0x08 => some (wholeBytes (bankElems s 2 0x1B 0x08 [0, 0]) off n)
  | 0x0E => some (wholeBytes (bankElems s 1 0x1B 0x0E [0]) off n)
  | _ => none

/-- What other parts of the state decide of an attribute, `none` where the store holds it. -/
def computedAttr (s : State) (cls inst attr off n : Nat) : Option (List Byte) :=
  match cls with
  | 0x01 => attr01 s attr off n
  | 0x02 => attr02 s attr off n
  | 0x03 => attr03 s attr off n
  | 0x04 => attr04 s attr off n
  | 0x08 => attr08 s inst attr off n
  | 0x0C => attr0C s inst attr off n
  | 0x0D => attr0D s attr off n
  | 0x0E => attr0E s attr off n
  | 0x0F => attr0F s attr off n
  | 0x10 => attr10 s attr off n
  | 0x11 => attr11 s attr off n
  | 0x12 => attr12 s attr off n
  | 0x13 => attr13 s inst attr off n
  | 0x15 => attr15 s inst attr off n
  | 0x16 => attr16 s attr off n
  | 0x17 => attr17 s attr off n
  | 0x18 => attr18 s attr
  | 0x19 => attr19 s attr off n
  | 0x1A => attr1A s attr off n
  | 0x1B => attr1B s attr off n
  | _ => none

/-- Whether the bank of an instance is absent (R398); a group counts while every bank of its members is absent. -/
def objAbsent (s : State) (cls inst : Nat) : Bool :=
  if cls = 0x05 then !bankPresent s (fin4 inst)
  else if cls = 0x0B then
    !(groupBanks s (fin4 inst)).isEmpty && (groupBanks s (fin4 inst)).all (fun b => !bankPresent s b)
  else match ownerBank cls inst with
    | some b => !bankPresent s (fin4 b)
    | none => false

/-- The reset bytes of an attribute; CLAMP_LEVEL of a load switch resets to its budget in µJ (R205). -/
def resetBytes (s : State) (cls inst attr off n : Nat) : List Byte :=
  if cls = 0x0A ∧ attr = 0x11 then wholeBytes (leBytes 4 (s.p 2 0x0A inst 0x0D * 1000)) off n
  else (List.range n).map (fun i => attrReset cls inst attr (off + i))

/-- `n` bytes from an offset of an attribute, as any reader gets them: WO reads zeros (R396), a read-only attribute of an absent
bank its reset value (R398). -/
def attrBytes (s : State) (cls inst : Nat) (r : AttrRow) (off n : Nat) : List Byte :=
  if r.access = .wo then List.replicate n 0
  else if r.access = .ro ∧ objAbsent s cls inst then resetBytes s cls inst r.attr off n
  else match computedAttr s cls inst r.attr off n with
    | some l => l
    | none => s.pBytes n cls inst r.attr off

end Sys2Proof.Machine
end

