-- ==== Sys2Proof/Machine/Registers.lean ====
section
/-! DEFINITION. The direct register window: what each register reads as (R409 to R413 and the rules they name), and the latches of
R15 and R409. -/

namespace Sys2Proof.Machine

/-- A word from fields (value, lowest bit). -/
def fields (l : List (Nat × Nat)) : Word := BitVec.ofNat 32 (l.foldl (fun v f => v + f.1 * 2 ^ f.2) 0)

/-- 1 or 0. -/
def bit (b : Bool) : Nat := if b then 1 else 0

/-- Word k of a cell time: count low, count high, fraction (R64). -/
def ctWord (t : CellTime) (k : Nat) : Word :=
  if k = 0 then BitVec.ofNat 32 (ctNs t) else if k = 1 then BitVec.ofNat 32 (ctNs t / 2 ^ 32) else BitVec.ofNat 32 (ctFrac t)

/-- A dictionary value of a bank's channel, 0 while the bank is absent. -/
def shown (s : State) (b : Fin 4) (n cls inst attr : Nat) : Nat := if bankPresent s b then s.p n cls inst attr else 0

/-! ### HSL and MBX (R342, R359, R390) -/

/-- HSL_ATN is asserted (R353). -/
def attention (s : State) : Bool :=
  let p := s.mbx.eps[(0 : Fin 8)]
  dbOf s 0 &&& p.mask != 0

/-- FSC_SAFE_STATE (R337). -/
def safeStateWord (s : State) : Word :=
  let f := s.firebreak
  fields [(bit (recSet s 0), 0), (bit f.records[(0 : Fin 33)].resetOnly, 1), (bit f.failLow, 2), (bit f.safeInOn, 3),
    ((allBanks.foldl (fun v b => v + bit (recSet s (bankRec b)) * 2 ^ b.val) 0), 4),
    ((allBanks.foldl (fun v b => v + bit (isAutonomous s b) * 2 ^ b.val) 0), 8)]

/-- FSC_SAFE_OUT. -/
def safeOutWord (s : State) : Word :=
  fields [((allU.foldl (fun v u => v + bit (recSet s (uRec u)) * 2 ^ u.val) 0), 0),
    ((allLs.foldl (fun v l => v + bit (recSet s (lRec l)) * 2 ^ l.val) 0), 16),
    ((allGroups.foldl (fun v g => v + bit (recSet s (gRec g)) * 2 ^ g.val) 0), 28)]

/-- SAFE of the status byte (R342). -/
def anySafe (s : State) : Bool := (safeStateWord s &&& 0xFF1) != 0 || safeOutWord s != 0

/-- The status byte as it would be sent now (R342): a pending reply shows in REPLY and ERR. -/
def statusByte (s : State) (busy : Bool) : Byte :=
  let reply := !busy && s.hsl.pending.isSome
  let err := !busy && s.hsl.pending.any (fun r => r.result != 0)
  BitVec.ofNat 8 (0x40 + 32 * bit (s.mbx.eps[(0 : Fin 8)]).opened + 16 * bit (anySafe s) + 8 * bit busy + 4 * bit err +
    2 * bit reply + bit (attention s))

/-- The HSL registers. -/
def regHsl (s : State) (a : Nat) : Word :=
  match a with
  | 0 => fields [((statusByte s s.hsl.busy).toNat, 0), (bit s.hsl.inFrame, 8), (s.hsl.lastCmd.toNat, 16)]
  | 4 => fields [(min 0xFFFF (s.p 4 0x14 0 0x05), 0), (min 0xFFFF (s.p 4 0x14 0 0x06), 16)]
  | _ => 0

/-- The MBX registers (R390). A read of MBX_CLAIM that claims nothing returns 0xFFFF (R370). -/
def regMbx (s : State) (a : Nat) : Word :=
  let p := s.mbx.eps[(0 : Fin 8)]
  let head := (ackQueue s).head?
  match a with
  | 0x04 => match head with
    | none => 0
    | some c => fields [(if c.single then 0 else c.opBuf, 0), (c.tag, 8), (bit (!c.single), 14), (1, 15), (c.result.toNat, 16)]
  | 0x08 => match head with
    | none => 0
    | some c => fields [(c.data.toNat % 65536, 0), (c.seq.toNat % 65536, 16)]
  | 0x10 => 0xFFFF
  | 0x18 => dbOf s 0
  | 0x1C => p.mask
  | 0x20 => p.h2d
  | 0x28 => fields [(bit p.opened, 0), (bit (p.major == 1), 1), (bit p.cmdHeld.isSome, 2), (bit p.aborting.isSome, 3),
      ((ackQueue s).length, 8), (p.outstanding.length, 16), (buffersHeld s 0, 24)]
  | _ => 0

/-! ### TB, CAN, GLD, FSC (R64 to R67, R261 to R263, R302, R303, R336, R337) -/

/-- The earliest of the PENDING and ARMED entries (R261). -/
def schedHead (s : State) : Option SchedRec :=
  (s.sched.filter (fun r => r.state == 1 || r.state == 2)).foldl (fun (m : Option SchedRec) r =>
    match m with
    | none => some r
    | some x => if r.apply.toNat < x.apply.toNat then some r else some x) none

/-- QUEUE_LEVEL of a bank in TB_SCHED_LEVEL: 0 while absent (R262). -/
def schedLevel (s : State) (b : Fin 4) : Nat := if bankPresent s b then queueLevel s b else 0

/-- The TB registers. -/
def regTb (s : State) (a : Nat) : Word :=
  let t := s.tb
  match a with
  | 0x00 => ctWord (now s) 0 | 0x04 => ctWord (now s) 1 | 0x08 => ctWord (now s) 2
  | 0x0C => ctWord t.ppsIn 0 | 0x10 => ctWord t.ppsIn 1 | 0x14 => ctWord t.ppsIn 2
  | 0x18 => ctWord t.syncIn 0 | 0x1C => ctWord t.syncIn 1 | 0x20 => ctWord t.syncIn 2
  | 0x24 => fields [(t.state, 0), (bit t.refType, 3), (bit t.uncertain, 4), (t.reason.toNat % 8, 5),
      ((allBanks.foldl (fun v (b : Fin 4) => v + bit (bankPresent s b && (s.banks[b]).lock) * 2 ^ b.val) 0), 8), (t.stepsRemoved.toNat, 16)]
  | 0x28 => BitVec.ofInt 32 (offsetEst s)
  | 0x2C => BitVec.ofInt 32 t.rate
  | 0x30 => t.event.setWidth 32
  | 0x34 => match schedHead s with | some r => ctWord r.apply 0 | none => 0xFFFFFFFF
  | 0x38 => match schedHead s with | some r => ctWord r.apply 1 | none => 0xFFFFFFFF
  | 0x3C => match schedHead s with
    | some r => fields [(ctFrac r.apply, 0), (r.handle.toNat, 16)]
    | none => 0xFFFF00FF
  | 0x40 => fields [(schedLevel s 0, 0), (schedLevel s 1, 16)]
  | 0x44 => fields [(schedLevel s 2, 0), (schedLevel s 3, 16)]
  | 0x48 => BitVec.ofNat 32 (s.p 1 0x0D 0 0x11)
  | _ => 0

/-- CAN_STATE. -/
def regCan (s : State) : Word :=
  fields [(s.p 1 0x0E 0 0x0A, 0), (bit (!s.canopy.forces.isEmpty), 1), (min 0x3FFF (s.p 2 0x0E 0 0x0F), 2), (s.p 2 0x0E 0 0x0E, 16)]

/-- GLD_STATE. -/
def regGld (s : State) : Word :=
  let g := s.glade
  fields [(g.state, 0), (bit (g.active == some true), 3), (g.inactive, 4), (bit g.lastOverran, 6), (bit g.swapAt.isSome, 7),
    (g.forces.length, 8), (g.passes.toNat, 16)]

/-- µs that remain of the watchdog's interval. -/
def wdtRemain (s : State) : Nat := if s.wdt.enabled then (s.wdt.period * 1000 - wdtAge s) / 1000 else 0

/-- The FSC registers. -/
def regFsc (s : State) (a : Nat) : Word :=
  let w := s.wdt
  match a with
  | 0x00 => fields [(bit w.enabled, 0), (bit w.enabled, 1), (w.nextWindow, 4)]
  | 0x04 => BitVec.ofNat 32 w.nextPeriod
  | 0x0C => fields [(bit (windowOpen s), 0), (bit w.firstKey.isSome, 1), (bit w.privViolation, 2), (bit w.periodReject, 3),
      (wdtRemain s, 12)]
  | 0x10 => safeStateWord s
  | 0x14 => safeOutWord s
  | 0x18 => fields [((highestActive s).getD 7, 0), (s.firebreak.log.length, 8), (min 64 s.firebreak.active.length, 16)]
  | 0x1C => reactCrc s
  | _ => 0

/-! ### The banks (R33, R106, R140, R166, R209, R240, R418) -/

/-- A current in nA as mA in 16 bits, saturating. -/
def milliAmps (v : Int) : Nat := min 0xFFFF (v.toNat / 1000000)

/-- A budget in µJ as mJ in 16 bits, two's complement, saturating. -/
def milliJoules (v : Int) : Nat := ofSigned 16 (max (-0x8000) (min 0x7FFF (v / 1000)))

/-- Two halves of a register, from the two load switches of a bank. -/
def lswPair (s : State) (b : Fin 4) (f : Fin 8 → Nat) : Word :=
  if bankPresent s b then fields [(f (lOf b 0), 0), (f (lOf b 1), 16)] else 0

/-- Whether a bank holds a complete share that awaits its apply instant, as the logic side knows it: a commit is pending and every
cell of the bank's share has been acknowledged (R402, R418). -/
def commitArmed (s : State) (b : Fin 4) : Bool :=
  let part (c : DownCell) : Bool := match c with | .cfg _ => true | .cfgMark _ a => !a | .calTrim _ _ => true | _ => false
  let d := s.down[b]
  s.commit.isSome && decide (2 ≤ bankState s b) && !(d.queued.any part) && !(d.unacked.any (fun u => part u.2.2))

/-- The registers of a bank, by offset from its base. -/
def regBank (s : State) (b : Fin 4) (a : Nat) : Word :=
  match a with
  | 0x000 => BitVec.ofNat 32 (shown s b 4 0x05 b 0x0A)
  | 0x004 => fields [(bankState s b, 0), (bit (commitArmed s b), 7), (min 0xFFFF (s.p 4 0x05 b 0x03), 16)]
  | 0x100 => BitVec.ofNat 32 (([0, 1, 2, 3] : List (Fin 4)).foldl (fun v i =>
      v + shown s b 1 0x06 (uOf b i).val 0x02 * 256 ^ i.val) 0)
  | 0x200 => if bankPresent s b then s.links[b].rotState else 0
  | 0x300 => if bankPresent s b then s.links[b].dfcState else 0
  | 0x400 => lswPair s b (fun l => s.p 2 0x0A l 0x02)
  | 0x404 => lswPair s b (fun l => milliAmps (s.pI 8 0x0A l 0x17))
  | 0x408 => lswPair s b (fun l => s.p 2 0x0A l 0x15)
  | 0x40C => if s.links[b].lswSeen = false then 0 else lswPair s b (fun l => milliJoules (s.pI 4 0x0A l 0x11))
  | 0x500 => fields [(shown s b 1 0x0C (fOf b 0).val 0x02, 0), (shown s b 1 0x0C (fOf b 1).val 0x02, 8)]
  | 0x504 => BitVec.ofNat 32 (shown s b 4 0x0C (fOf b 0).val 0x06)
  | 0x508 => BitVec.ofNat 32 (shown s b 4 0x0C (fOf b 1).val 0x06)
  | 0x50C => if bankPresent s b then ctWord (ctOfBytes (s.pBytes 9 0x0C (fOf b 0) 0x07 0)) 0 else 0
  | 0x510 => if bankPresent s b then ctWord (ctOfBytes (s.pBytes 9 0x0C (fOf b 0) 0x07 0)) 1 else 0
  | 0x514 => if bankPresent s b then ctWord (ctOfBytes (s.pBytes 9 0x0C (fOf b 0) 0x07 0)) 2 else 0
  | _ => 0

/-! ### BBS (R455, R456) -/

/-- A port's registers, by offset from its base. -/
def regPort (s : State) (p : Fin 3) (a : Nat) : Word :=
  let q := s.ports[p]
  if a = 0x000 then
    fields [(linkState s p, 0), (s.p 1 0x15 p 0x01, 2), (s.p 1 0x15 p 0x03, 5), (bit (portRestricted s p), 7),
      (if q.up then q.speed else 0, 16)]
  else if a = 0x004 then fields [(q.ptpRole, 0), (bit q.asCapable, 2)]
  else if a = 0x008 then BitVec.ofNat 32 (s.p 4 0x15 p 0x0C)
  else if a = 0x00C then q.gates.setWidth 32
  else if 0x010 ≤ a ∧ a < 0x030 then BitVec.ofNat 32 (tcCells q (fin8 ((a - 0x010) / 4)))
  else if a = 0x030 then fields [(gateState s p, 0), (q.entry, 16)]
  else if 0x034 ≤ a ∧ a < 0x040 then ctWord q.changeAt ((a - 0x034) / 4)
  else if 0x040 ≤ a ∧ a < 0x1C0 then BitVec.ofNat 32 (s.pAt 4 0x15 p 0x19 (a - 0x040))
  else 0

/-- The switch registers at 0x4600. -/
def regSwitch (s : State) (a : Nat) : Word :=
  let bits (f : Fin 3 → Bool) : Nat := allPorts.foldl (fun v p => v + bit (f p) * 2 ^ p.val) 0
  match a with
  | 0x00 => fields [(bits (fun p => s.ports[p].up), 0), (bits (fun p => s.ports[p].asCapable), 4), (bit s.sup.tempLimit, 15)]
  | 0x04 => BitVec.ofNat 32 (s.p 1 0x16 0 0x15)
  | 0x08 => fields [(s.p 2 0x16 0 0x11, 0), (s.p 2 0x16 0 0x12, 16)]
  | 0x0C => fields [(s.p 2 0x16 0 0x04, 0), ((staticEntries s).length, 16)]
  | 0x10 => fields [(ringState s, 0), (s.p 1 0x16 0 0x0B, 2), (bit s.red.blocked.isSome, 3), (s.p 2 0x16 0 0x14, 16)]
  | 0x14 => fields [((streamsInUse s).length, 0), ((s.sw.streams.filter (fun x => x.latent)).length, 16)]
  | 0x18 => s.sw.ctMax[(0 : Fin 3)]
  | 0x1C => s.sw.ctMax[(1 : Fin 3)]
  | 0x20 => s.sw.ctMax[(2 : Fin 3)]
  | 0x24 => fields [((match s.tb.port with | some p => p.val | none => 3), 0), (s.sw.syncRx.toNat, 16)]
  | _ => 0

/-- BBS_STREAM_n. -/
def regStream (s : State) (n : Nat) : Word :=
  let x := streamSt s n
  fields [((x.recSeq.map (fun v => v.toNat)).getD 0, 0), (min 255 x.lost, 16), (bit x.latent, 30),
    (bit ((streamsInUse s).any (fun e => e.1 == n)), 31)]

/-- BBS_FILTER_n. -/
def regFilter (s : State) (n : Nat) : Word :=
  fields [(min 0xFFFFFF (s.pAt 4 0x16 0 0x09 (16 * n + 12)), 0), (bit (streamSt s n).blocked, 30),
    (bit ((streamsInUse s).any (fun e => e.1 == n) && natBit (s.pAt 1 0x16 0 0x08 (32 * n + 9)) 2), 31)]

/-- BBS_GCL_p_e_k. -/
def regGate (s : State) (p : Fin 3) (e k : Nat) : Word :=
  match (operEntries s p)[e]? with
  | none => 0
  | some x => if k = 0 then x.1.setWidth 32 else BitVec.ofNat 32 x.2

/-- The BBS block, by address. -/
def regBbs (s : State) (a : Nat) : Word :=
  let port (n : Nat) : Fin 3 := ⟨n % 3, by omega⟩
  if a < 0x4600 then regPort s (port ((a - 0x4000) / 0x200)) ((a - 0x4000) % 0x200)
  else if a < 0x4800 then regSwitch s (a - 0x4600)
  else if a < 0x4C00 then regStream s ((a - 0x4800) / 4)
  else if a < 0x5000 then regFilter s ((a - 0x4C00) / 4)
  else if a < 0x6800 then regGate s (port ((a - 0x5000) / 0x800)) ((a - 0x5000) % 0x800 / 8) (a % 8 / 4)
  else 0

/-! ### MSP (R543, R544) -/

/-- A byte of USER_SELECT of a select 2 or 3. -/
def userSel (s : State) (sel off : Nat) : Nat := s.pAt 1 0x19 0 0x08 (8 * (sel - 2) + off)

/-- Whether a select is in use. -/
def selEnabled (s : State) (sel : Nat) : Bool :=
  if sel = 0 then s.msp.norPresent else if sel = 1 then s.jrn.present else userSel s sel 0 == 1

/-- The code of a number of lanes. -/
def laneCode (n : Nat) : Nat := if n = 4 then 2 else if n = 2 then 1 else 0

/-- MSP_SEL_s: the clock is 200 MHz over the select's divider (R514). -/
def regSel (s : State) (sel : Nat) : Word :=
  if !selEnabled s sel then 0
  else if sel < 2 then fields [(1, 0), (2, 4), (200 / s.p 1 0x19 0 0x07, 8)]
  else fields [(1, 0), (laneCode (userSel s sel 3), 4), (bit (userSel s sel 2 == 3), 7), (200 / userSel s sel 1, 8)]

/-- The entry that holds the bus. -/
def mspActive (s : State) : Option MspEntry := s.msp.entries.find? (fun e => e.active)

/-- The entries that lie in the queue slots of MSP_Q. -/
def regQueue (s : State) (e k : Nat) : Word :=
  match s.msp.entries[e]? with
  | none => if k = 2 then fields [(0xFF, 16)] else 0
  | some x =>
    if k = 0 then
      fields [(x.bits % 65536, 0), (laneCode x.lanes, 22), (bit x.read, 24), (bit x.cont, 25), (x.select % 4, 26), (x.requester, 28), (1, 31)]
    else if k = 1 then x.target
    else
      let wait := if x.active then x.wait / 1000 else (s.tb.mono - x.queued).toNat / 2 ^ 32 / 1000
      fields [(min 0xFFFF wait, 0), (if x.requester = 4 then x.endpoint else 0xFF, 16), (if x.active then 2 else 1, 24)]

/-- The first seven MSP registers. -/
def regMspHead (s : State) (a : Nat) : Word :=
  let m := s.msp
  let act := mspActive s
  let holder := match act with | some e => e.requester | none => if m.cont.isSome then 4 else 7
  match a with
  | 0x00 => fields [((([0, 1, 2, 3] : List Nat).foldl (fun v i => v + bit (selEnabled s i) * 2 ^ i) 0), 0), (norState s, 4),
      (bit (m.norOp.any (fun o => o.suspended)), 6), (bit s.sup.powerFail, 7), (m.holdCount % 256, 8), (bit m.cont.isSome, 16),
      (bit (act.isSome || m.cont.isSome), 17), (((act.map (fun e => e.select)).getD 0) % 4, 18), (holder, 20), (m.entries.length, 24)]
  | 0x04 => BitVec.ofNat 32 (s.p 1 0x19 0 0x16)
  | 0x08 => fields [((List.range 5).foldl (fun v r => v + mspPrio s r * 8 ^ r) 0, 0),
      ((List.range 5).foldl (fun v r => v + bit (m.entries.any (fun e => e.requester == r && !e.active)) * 2 ^ r) 0, 16)]
  | 0x0C => (m.eraseReg &&& 0x7FFF0000) ||| fields [(bit m.norOp.isSome, 0), (bit m.gatherPage.isSome, 1), (bit m.norFail, 2),
      (bit (m.norOp.any (fun o => o.erase && !o.update)), 31)]
  | 0x10 => fields [(bit s.jrn.present, 0), (journalState s, 5), ((freeBlocks s).length, 16)]
  | 0x14 => s.jrn.next
  | 0x18 => oldestNumber s
  | _ => 0

/-- The MSP block, by offset. -/
def regMsp (s : State) (a : Nat) : Word :=
  if a < 0x20 then regMspHead s a
  else if a < 0x30 then regSel s ((a - 0x20) / 4)
  else if a = 0x30 then BitVec.ofNat 32 (s.p 4 0x19 0 0x03)
  else if a = 0x34 then BitVec.ofNat 32 (s.p 4 0x19 0 0x06)
  else if 0x40 ≤ a ∧ a < 0x68 then
    let r := (a - 0x40) / 8
    if a % 8 = 0 then fields [(mspLevel s r, 0), ((s.msp.grants[r]?.getD 0).toNat, 16)]
    else BitVec.ofNat 32 (s.pAt 4 0x19 0 0x13 (4 * r))
  else if 0x80 ≤ a ∧ a < 0xA4 then (s.msp.bchHist[(a - 0x80) / 4]?).getD 0
  else if 0x100 ≤ a ∧ a < 0x280 then regQueue s ((a - 0x100) / 12) ((a - 0x100) % 12 / 4)
  else 0

/-! ### SUP and PMU (R569, R570) -/

/-- µs since the end of the last reset. -/
def upTime (s : State) : Nat := (s.tb.mono - s.sup.since).toNat / 2 ^ 32 / 1000

/-- The SUP block, by offset. -/
def regSup (s : State) (a : Nat) : Word :=
  let u := s.sup
  match a with
  | 0x00 => fields [(bit (decide (1 ≤ u.phase)), 0), (bit u.fwSlot, 1), (bit s.firebreak.armed, 2), (bit u.endpointsOpen, 3),
      (bit u.linksStarted, 4), (bit u.bootFail.isSome, 5)]
  | 0x04 => fields [(s.heartwood.resetCause.toNat, 0), (s.heartwood.bootAttempts.toNat, 8)]
  | 0x08 => fields [(u.result0, 0), (u.result1, 4), (bit (u.headerCopy.isSome && (headerSlots s).2.2 == 1), 8),
      (bit (u.headerCopy == some true), 9), (bit u.headerCopy.isSome, 10)]
  | 0x0C => match u.session with
    | none => 0
    | some f => fields [(f.received, 0), (bit f.slot, 23), (min 64 f.erased, 24), (1, 31)]
  | 0x10 => fields [(u.cacheInval.toNat, 0), (u.cacheFills.toNat, 16)]
  | 0x14 => fields [(u.eccCorrected.toNat, 16)]
  | 0x18 => BitVec.ofNat 32 (upTime s)
  | 0x1C => BitVec.ofNat 32 (upTime s / 2 ^ 32)
  | _ =>
    if 0x20 ≤ a ∧ a < 0x100 then
      match u.bootLog[(a - 0x20) / 8]? with
      | none => 0
      | some e => if a % 8 = 0 then fields [(e.2.1, 16), (e.1, 24)] else e.2.2
    else 0

/-- The PMU block, by offset. -/
def regPmu (s : State) (a : Nat) : Word :=
  let u := s.sup
  let f := u.fuses
  match a with
  | 0x00 => fields [(u.supplyGood.toNat, 0), (bit u.holdReady, 4), (bit s.tb.refType, 5), (bit u.vioLevel, 6), (bit f.testLock, 7),
      (f.grade, 8)]
  | 0x04 => fields [(s.p 2 0x03 0 0x01, 0), (s.p 2 0x03 0 0x02, 16)]
  | 0x08 => fields [(s.p 2 0x03 0 0x03, 0), (s.p 2 0x03 0 0x05, 16)]
  | 0x0C => fields [(s.p 2 0x03 0 0x06, 0), (s.p 2 0x03 0 0x08, 16)]
  | 0x10 => fields [(s.p 1 0x03 0 0x0C % 8, 0), (bit u.fuseCorrected, 3), (bit u.fuseUncorrectable, 4)]
  | 0x14 => f.option.setWidth 32
  | 0x18 => f.uniqueId.setWidth 32
  | 0x1C => (f.uniqueId >>> 32).setWidth 32
  | _ =>
    if 0x20 ≤ a ∧ a < 0x60 then BitVec.ofNat 32 (leNat (((heartwoodBytes s).drop (a - 0x20)).take 4))
    else if 0x60 ≤ a ∧ a < 0xCC then
      let d := (f.dies.drop ((a - 0x60) / 12 * 12)).take 12
      let j := (a - 0x60) % 12 / 4
      if j = 0 then BitVec.ofNat 32 (leNat (d.take 4))
      else if j = 1 then fields [(leNat ((d.drop 4).take 2), 0), (leNat ((d.drop 6).take 1), 16), (leNat ((d.drop 7).take 1), 24)]
      else fields [(leNat ((d.drop 8).take 1), 0)]
    else if 0x100 ≤ a ∧ a < 0x434 then (f.cal[(a - 0x100) / 4]?).getD 0
    else 0

/-! ### The window (R411, R412) -/

/-- What the register at a byte address reads now; every other address reads 0. -/
def regNow (s : State) (a : Nat) : Word :=
  if a % 4 ≠ 0 then 0
  else if a < 0x400 then regSup s a
  else if a < 0x800 then regHsl s (a - 0x400)
  else if a < 0xC00 then regMbx s (a - 0x800)
  else if a < 0x1000 then regTb s (a - 0xC00)
  else if a < 0x1400 then (if a = 0x1000 then regCan s else 0)
  else if a < 0x1800 then (if a = 0x1400 then regGld s else 0)
  else if a < 0x1C00 then regFsc s (a - 0x1800)
  else if a < 0x2000 then regMsp s (a - 0x1C00)
  else if a < 0x2800 then regPmu s (a - 0x2000)
  else if a < 0x4000 then 0
  else if a < 0x8000 then regBbs s a
  else if a < 0xC000 then regBank s (fin4 ((a - 0x8000) / 0x1000)) ((a - 0x8000) % 0x1000)
  else 0

/-! ### Latches (R15, R409) -/

/-- The words that a read of a register latches, by the number that follow it (R15 and the rules of the groups). -/
def latchCount (a : Nat) : Nat :=
  if a = 0x0018 ∨ a = 0x0400 ∨ a = 0x0804 ∨ a = 0x1810 ∨ a = 0x2018 then 1
  else if a = 0x0C00 ∨ a = 0x0C0C ∨ a = 0x0C18 ∨ a = 0x0C34 then 2
  else if a = 0x2020 then 15
  else if 0x4000 ≤ a ∧ a < 0x4600 then
    let o := (a - 0x4000) % 0x200
    if o = 0x034 then 2 else if 0x040 ≤ o ∧ o < 0x1C0 ∧ o % 8 = 0 then 1 else 0
  else if 0x8000 ≤ a ∧ a < 0xC000 then
    let o := (a - 0x8000) % 0x1000
    if o = 0x400 then 3 else if o = 0x500 then 5 else if o = 0x50C then 2 else 0
  else 0

/-- Whether a latched group of a path holds a register above its lowest word. -/
def latchHolds (hsl : Bool) (a : Nat) (l : Bool × Nat × List Word) : Bool :=
  l.1 == hsl && decide (l.2.1 < a) && decide (a ≤ l.2.1 + 4 * l.2.2.length)

/-- A register of FTI_COUNT_0 to FTI_COUNT_TIME_0: its read leaves the words after it latched (R240). -/
def countWord (a : Nat) : Bool :=
  let o := (a - 0x8000) % 0x1000
  decide (0x8000 ≤ a) && decide (a < 0xC000) && (o == 0x504 || o == 0x508 || o == 0x50C)

/-- Latch the higher words of a group for an access path: the host serial link, or the firmware. Where the words of R240 are read
in order, those that remain stay latched. -/
def State.latchGroup (s : State) (hsl : Bool) (a : Nat) : State :=
  match s.tb.latches.find? (latchHolds hsl a) with
  | some l =>
    if countWord a then
      s.modTb (fun t => { t with latches := t.latches.map (fun x =>
        if x = l then (hsl, a, l.2.2.drop ((a - l.2.1) / 4)) else x) })
    else s
  | none =>
    let n := latchCount a
    if n = 0 then s
    else
      let words := (List.range n).map (fun i => regNow s (a + 4 * (i + 1)))
      s.modTb (fun t => { t with
        latches := t.latches.filter (fun l => !(l.1 == hsl && decide (a ≤ l.2.1) && decide (l.2.1 ≤ a + 4 * n))) ++ [(hsl, a, words)] })

/-- What a read over a path returns: a latched word of a group, else the register now. -/
def regShown (s : State) (hsl : Bool) (a : Nat) : Word :=
  match s.tb.latches.find? (latchHolds hsl a) with
  | some l => (l.2.2[(a - l.2.1) / 4 - 1]?).getD 0
  | none => regNow s a

/-- One word read over a path: its value, and the state with its latches. -/
def State.regRead (s : State) (hsl : Bool) (a : Nat) : Word × State := (regShown s hsl a, s.latchGroup hsl a)

/-- Words in ascending address order (R409). -/
def State.regReads (s : State) (hsl : Bool) : Nat → Nat → List Word × State
  | _, 0 => ([], s)
  | a, n + 1 =>
    let (w, s1) := s.regRead hsl a
    let (ws, s2) := State.regReads s1 hsl (a + 4) n
    (w :: ws, s2)

/-- R15: a read of the lowest word of a wider group latches the higher words for that access path. -/
def execLatchedRegisterRead (hsl : Bool) (addr : Nat) (s : State) : Host.Outcome State Fault Refusal :=
  .next (s.regRead hsl addr).2

end Sys2Proof.Machine
end

