-- ==== Sys2Proof/Machine/Hsl.lean ====
section
/-! DEFINITION. The host serial link: its frames, its commands, its time-outs, and the writes to the direct register window
(R338 to R359, R389). -/

namespace Sys2Proof.Machine

/-- Change the host serial link. -/
def State.modHsl (s : State) (g : Hsl → Hsl) : State := { s with hsl := g s.hsl }

/-! ### The register window on the link (R347, R389) -/

/-- The registers that endpoint 0 may write (R389). -/
def hslWritable (a : Nat) : Bool :=
  [0x0800, 0x080C, 0x0814, 0x0818, 0x081C, 0x0824, 0x0C30, 0x0C48, 0x1800, 0x1804, 0x1808, 0x180C].contains a

/-- One word written to a register of R389; any other address takes no write (R13). -/
def State.writeRegister (s : State) (a : Nat) (v : Word) : State :=
  if a = 0x0800 then (postWord s v).2
  else if a = 0x080C then s.ackPop (v.toNat % 32)
  else if a = 0x0814 then s.releaseBuf (v.toNat % 256)
  else if a = 0x0818 then s.clearDb 0 v
  else if a = 0x081C then s.modEp 0 (fun p => { p with mask := v })
  else if a = 0x0824 then s.clearUserIn 0 v
  else if a = 0x0C30 then s.modTb (fun t => { t with event := t.event &&& ~~~ (v.setWidth 8) })
  else if a = 0x0C48 then s.setP 1 0x0D 0 0x11 (s.p 1 0x0D 0 0x11 &&& (255 - v.toNat % 256))
  else if a = 0x1800 ∨ a = 0x1804 ∨ a = 0x1808 ∨ a = 0x180C then s.privViolation
  else s

/-- R13: a write to a register that has no row of its own. -/
def execRegisterWrite (addr : Nat) (v : Word) (s : State) : Host.Outcome State Fault Refusal :=
  .next (s.writeRegister addr v)

/-- One word read on the link: a read of MBX_CLAIM claims (R370). -/
def State.hslRead (s : State) (a : Nat) : Word × State :=
  if a = 0x0810 then
    let (g, s1) := s.claim 0
    (BitVec.ofNat 32 (g.getD 0xFFFF), s1)
  else s.regRead true a

/-- Words read on the link in ascending address order. -/
def State.hslReads (s : State) : Nat → Nat → List Word × State
  | _, 0 => ([], s)
  | a, n + 1 =>
    let (w, s1) := s.hslRead a
    let (ws, s2) := State.hslReads s1 (a + 4) n
    (w :: ws, s2)

/-! ### The commands (R347 to R351) -/

/-- READ_REG: the code and payload, and the state after it. -/
def hslReadReg (s : State) (a n : Nat) : CmdRes :=
  if a % 4 ≠ 0 ∨ n = 0 ∨ 64 < n then refuse s rcOutOfRange
  else
    let (ws, s1) := s.hslReads a n
    { st := s1, code := 0, payload := ws.flatMap (fun w => leBytes 4 w.toNat) }

/-- The addresses of a run of words. -/
def wordAddrs (a n : Nat) : List Nat := (List.range n).map (fun i => a + 4 * i)

/-- WRITE_REG: checked whole, then written in ascending order. -/
def hslWriteReg (s : State) (a : Nat) (ws : List Word) : CmdRes :=
  if a % 4 ≠ 0 ∨ ws.length = 0 ∨ 64 < ws.length then refuse s rcOutOfRange
  else if (wordAddrs a ws.length).any (fun x => !hslWritable x) then refuse s rcReadOnly
  else okRes (((wordAddrs a ws.length).zip ws).foldl (fun (t : State) x => t.writeRegister x.1 x.2) s)

/-- READ_BUF. -/
def hslReadBuf (s : State) (buf off len : Nat) : CmdRes :=
  if len = 0 ∨ 1024 < len ∨ 1024 < off + len then refuse s rcOutOfRange
  else if heldBy s buf 0 then { st := s, code := 0, payload := bufBytes s buf off len }
  else refuse s rcNoBuffer

/-- WRITE_BUF. -/
def hslWriteBuf (s : State) (buf off : Nat) (data : List Byte) : CmdRes :=
  if data.length = 0 ∨ 1024 < data.length ∨ 1024 < off + data.length then refuse s rcOutOfRange
  else if heldBy s buf 0 then okRes (s.writeBuf buf off data)
  else refuse s rcNoBuffer

/-- WORD: the acceptance of the posting. -/
def hslWord (s : State) (w : Word) : CmdRes :=
  let (code, s1) := postWord s w
  { st := s1, code := code, payload := [] }

/-- DOORBELL: sample, clear, ring, read. -/
def hslDoorbell (s : State) (clear ring : Word) : CmdRes :=
  let db := dbOf s 0
  let s1 := (s.clearDb 0 clear).ringH2d 0 ring
  { st := s1, code := 0, payload := leBytes 4 db.toNat ++ leBytes 4 (s1.mbx.eps[(0 : Fin 8)]).h2d.toNat }

/-- IDENT: MAGIC, PART, STEPPING, GRADE, FIRMWARE and MAILBOX. -/
def hslIdent (s : State) : CmdRes :=
  let p := s.mbx.eps[(0 : Fin 8)]
  let fw : List Byte := if p.opened then [3, 4] else [0, 0]
  { st := s, code := 0,
    payload := [0x47, 0x51, 0x48, 0x53, 0xD0, 0x0C, 0xC0] ++ leBytes 1 s.sup.fuses.grade ++ fw ++ leBytes 1 p.major ++
      leBytes 1 p.minor ++ [0, 0, 0, 0] }

/-- The reply a command gives; a reply whose RESULT is not OK carries no payload (R341). -/
def replyFor (cmd : Byte) (r : CmdRes) : HslReply :=
  { rcmd := cmd, result := r.code, payload := if r.code = 0 then r.payload else [] }

/-- The reply of REPEAT: the one that the frame before offered, or BAD_PARAM (R351). -/
def repeatedReply (s : State) : HslReply := s.hsl.offered.getD { rcmd := 0x08, result := rcBadParam, payload := [] }

/-- A frame ends with a reply: what was pending has been offered in it, and the new reply waits for the next (R344). -/
def State.hslReply (s : State) (cmd : Byte) (r : HslReply) : State :=
  s.modHsl (fun h => { h with offered := h.pending, pending := some r, lastCmd := cmd })

/-- A command that needs the endpoint open (R352). -/
def whenReady (s : State) (r : CmdRes) : CmdRes := if (s.mbx.eps[(0 : Fin 8)]).opened then r else refuse s rcLocked

/-- Complete a frame command. -/
def CmdRes.answer (r : CmdRes) (cmd : Byte) : State := r.st.hslReply cmd (replyFor cmd r)

/-- Command 0x00, NOP. -/
def State.runNop (s : State) : State := (okRes s).answer 0x00

/-- Command 0x01, READ_REG. -/
def State.runReadReg (s : State) (a n : Nat) : State := (hslReadReg s a n).answer 0x01

/-- Command 0x02, WRITE_REG. -/
def State.runWriteReg (s : State) (a : Nat) (ws : List Word) : State := (whenReady s (hslWriteReg s a ws)).answer 0x02

/-- Command 0x03, READ_BUF. -/
def State.runReadBuf (s : State) (buf off len : Nat) : State := (hslReadBuf s buf off len).answer 0x03

/-- Command 0x04, WRITE_BUF. -/
def State.runWriteBuf (s : State) (buf off : Nat) (data : List Byte) : State :=
  (whenReady s (hslWriteBuf s buf off data)).answer 0x04

/-- Command 0x05, WORD. -/
def State.runWord (s : State) (w : Word) : State := (whenReady s (hslWord s w)).answer 0x05

/-- Command 0x06, DOORBELL. -/
def State.runDoorbell (s : State) (clear ring : Word) : State := (whenReady s (hslDoorbell s clear ring)).answer 0x06

/-- Command 0x07, IDENT. -/
def State.runIdent (s : State) : State := (hslIdent s).answer 0x07

/-- Command 0x08, REPEAT. -/
def State.runRepeat (s : State) : State := s.hslReply 0x08 (repeatedReply s)

/-- R341: NOP. -/
def execNop (s : State) : Host.Outcome State Fault Refusal := .next s.runNop

/-- R347: READ_REG. -/
def execReadReg (addr : BitVec 32) (count : Byte) (s : State) : Host.Outcome State Fault Refusal :=
  .next (s.runReadReg addr.toNat count.toNat)

/-- R347: WRITE_REG. -/
def execWriteReg (addr : BitVec 32) (data : List Word) (s : State) : Host.Outcome State Fault Refusal :=
  .next (s.runWriteReg addr.toNat data)

/-- R348: READ_BUF. -/
def execReadBuf (buf : Byte) (off len : BitVec 16) (s : State) : Host.Outcome State Fault Refusal :=
  .next (s.runReadBuf buf.toNat off.toNat len.toNat)

/-- R348: WRITE_BUF. -/
def execWriteBuf (buf : Byte) (off : BitVec 16) (data : List Byte) (s : State) : Host.Outcome State Fault Refusal :=
  .next (s.runWriteBuf buf.toNat off.toNat data)

/-- R349: WORD. -/
def execWord (w : Word) (s : State) : Host.Outcome State Fault Refusal := .next (s.runWord w)

/-- R350: DOORBELL. -/
def execDoorbell (clear ring : Word) (s : State) : Host.Outcome State Fault Refusal := .next (s.runDoorbell clear ring)

/-- R351: IDENT. -/
def execIdent (s : State) : Host.Outcome State Fault Refusal := .next s.runIdent

/-- R351: REPEAT. -/
def execRepeatReply (s : State) : Host.Outcome State Fault Refusal := .next s.runRepeat

/-! ### Frames (R340 to R346) -/

/-- Little-endian field of a payload. -/
def fieldAt (pl : List Byte) (off n : Nat) : Nat := leNat ((pl.drop off).take n)

/-- The request LEN that the command table gives (R341), `none` for a CMD not in it; two LENs follow from the payload. -/
def requestLen (cmd : Nat) (pl : List Byte) : Option Nat :=
  match cmd with
  | 0 => some 0 | 1 => some 5 | 2 => some (5 + 4 * fieldAt pl 4 1) | 3 => some 5 | 4 => some (5 + fieldAt pl 3 2)
  | 5 => some 4 | 6 => some 8 | 7 => some 0 | 8 => some 0
  | _ => none

/-- Words of a little-endian byte string. -/
def wordsOf : Nat → List Byte → List Word
  | 0, _ => []
  | n + 1, l => BitVec.ofNat 32 (leNat (l.take 4)) :: wordsOf n (l.drop 4)

/-- Whether a frame has no framing error: CMD and LEN as the table gives them, and the CRC complete (R341, R346). -/
def frameFormOk (bytes : List Byte) : Bool :=
  let cmd := fieldAt bytes 0 1
  let len := fieldAt bytes 1 2
  let pl := (bytes.drop 3).take len
  decide (7 ≤ bytes.length) && decide (len ≤ 1029) && decide (len + 7 ≤ bytes.length) && requestLen cmd pl == some len

/-- Whether the CRC of a frame is right: over bytes 0 to 2 + LEN (R340). -/
def frameCrcOk (bytes : List Byte) : Bool :=
  let n := 3 + fieldAt bytes 1 2
  crc32 (bytes.take n) == BitVec.ofNat 32 (fieldAt bytes n 4)

/-- Execute the command of a good frame. -/
def State.runFrame (s : State) (cmd : Nat) (pl : List Byte) : State :=
  match cmd with
  | 0 => s.runNop
  | 1 => s.runReadReg (fieldAt pl 0 4) (fieldAt pl 4 1)
  | 2 => s.runWriteReg (fieldAt pl 0 4) (wordsOf (fieldAt pl 4 1) (pl.drop 5))
  | 3 => s.runReadBuf (fieldAt pl 0 1) (fieldAt pl 1 2) (fieldAt pl 3 2)
  | 4 => s.runWriteBuf (fieldAt pl 0 1) (fieldAt pl 1 2) (pl.drop 5)
  | 5 => s.runWord (BitVec.ofNat 32 (fieldAt pl 0 4))
  | 6 => s.runDoorbell (BitVec.ofNat 32 (fieldAt pl 0 4)) (BitVec.ofNat 32 (fieldAt pl 4 4))
  | 7 => s.runIdent
  | _ => s.runRepeat

/-- A frame that is not executed: its error reply, the counter and the DIAG bit, and its part in HSL-01 (R346, R356). -/
def State.badFrame (s : State) (first : Byte) (code : BitVec 16) (counter diag : Nat) : State :=
  (((s.inc 4 0x14 0 counter).orP 0x14 0 0x09 diag).occur (ident .hsl 1) 0 0).hslReply first
    { rcmd := first, result := code, payload := [] }

/-- A frame with a good CRC has ended: FRAMES, LAST_FRAME, and the end of HSL-03 (R355). -/
def State.goodFrame (s : State) : State :=
  let s1 := (s.inc 4 0x14 0 0x04).setPCt 0x14 0 0x08 (now s)
  let s2 := s1.modHsl (fun h => { h with goodSince := some s1.tb.mono, silent := false })
  if s.hsl.silent then s2.endFault (ident .hsl 3) 0 0 else s2

/-- What the complete bytes of a frame do at its end. -/
def State.frameEnd (s : State) (bytes : List Byte) : State :=
  match bytes with
  | [] => s
  | first :: _ =>
    if !frameFormOk bytes then s.badFrame first rcFrameError 0x06 2
    else if !frameCrcOk bytes then s.badFrame first rcFrameCrc 0x05 1
    else s.goodFrame.runFrame first.toNat ((bytes.drop 3).take (fieldAt bytes 1 2))

/-- The bytes of a reply on HSL_MISO, its CRC last (R343). -/
def replyBytes (r : HslReply) : List Byte :=
  let body := [r.rcmd] ++ leBytes 2 r.result.toNat ++ leBytes 2 r.payload.length ++ r.payload
  body ++ leBytes 4 (crc32 body).toNat

/-- What HSL_MISO carries in a frame of `n` complete bytes: the status byte presented at its start, the reply it offers, and 0x00
after that (R342, R343). -/
def misoBytes (s : State) (n : Nat) : List Byte :=
  let reply := match s.hsl.pending with
    | some r => if s.hsl.busy then [] else replyBytes r
    | none => []
  ((s.hsl.status :: reply) ++ List.replicate n 0).take n

/-- R342, R345, R352: HSL_CS_N falls, from the end of the reset on; the status byte is presented, and the pending reply unless the
frame is BUSY, as it can be within t_REPLY of the end of the frame before. -/
def execHslFrameStart (busy : Bool) (s : State) : Host.Outcome State Fault Refusal :=
  if s.hsl.inFrame ∨ s.sup.reset.isSome then .next s
  else
    let b := busy && s.hsl.pending.isSome && !elapsed s s.hsl.endedAt 1500
    .next (s.modHsl (fun h => { h with
      inFrame := true, busy := b, ended := false, status := statusByte s b, startedAt := s.tb.mono }))

/-- R345: HSL_CS_N rises. A null frame and a frame that a time-out ended do nothing more; a BUSY frame is counted only. -/
def execHslFrameEnd (bytes : List Byte) (s : State) : Host.Outcome State Fault Refusal :=
  if !s.hsl.inFrame then .next s
  else
    let s1 := s.modHsl (fun h => { h with inFrame := false, busy := false, ended := false })
    if s.hsl.ended ∨ bytes = [] then .next s1
    else
      let s2 := s1.modHsl (fun h => { h with miso := misoBytes s bytes.length, endedAt := s.tb.mono })
      if s.hsl.busy then
        .next (((s2.inc 4 0x14 0 0x07).orP 0x14 0 0x09 4).modHsl (fun h => { h with offered := none }))
      else .next (s2.frameEnd bytes)

/-- R354: no clock for FRAME_TIMEOUT ends the frame as a framing error; `first` is byte 0 where one is complete. The clock's last
edge comes no sooner than the fall of HSL_CS_N. -/
def execFrameTimeout (first : Option Byte) (s : State) : Host.Outcome State Fault Refusal :=
  if !s.hsl.inFrame ∨ s.hsl.ended ∨ !elapsed s s.hsl.startedAt (s.p 2 0x14 0 0x02 * 1000000) then .next s
  else
    let s1 := s.modHsl (fun h => { h with ended := true })
    match first with
    | none => .next s1
    | some c =>
      let s2 := (s1.orP 0x14 0 0x09 8).raise (ident .hsl 2) 9 0
      if s.hsl.busy then
        .next (((s2.inc 4 0x14 0 0x07).orP 0x14 0 0x09 4).modHsl (fun h => { h with offered := none }))
      else .next (s2.badFrame c rcFrameError 0x06 2)

/-- R355: the local host has been silent for HOST_TIMEOUT. -/
def execHostTimeout (s : State) : Host.Outcome State Fault Refusal :=
  let t := s.p 2 0x14 0 0x03
  match s.hsl.goodSince with
  | none => .next s
  | some since =>
    if t ≠ 0 ∧ s.hsl.silent = false ∧ elapsed s since (t * 1000000) then
      .next (((s.modHsl (fun h => { h with silent := true })).orP 0x14 0 0x09 16).raise (ident .hsl 3) 0 0)
    else .next s

end Sys2Proof.Machine
end

