-- ==== Sys2Proof/Machine/Startup.lean ====
section
/-! DEFINITION. The start of the logic side after a reset: boot ROM, firmware, configuration, Firebreak and endpoints
(R548 to R555, R562, and the start rules of the owning chapters). -/

namespace Sys2Proof.Machine

/-- Change PMU and SUP. -/
def State.modSup (s : State) (g : Startup → Startup) : State := { s with sup := g s.sup }

/-! ### SUP_BOOT_LOG -/

/-- An entry of SUP_BOOT_LOG: step, result and time in µs. -/
def State.bootStep (s : State) (code result : Nat) (time : Word) : State :=
  s.modSup (fun u => { u with bootLog := u.bootLog ++ [(code, result, time)] })

/-- A step that ends now. -/
def State.bootStepNow (s : State) (code : Nat) : State := s.bootStep code 1 (BitVec.ofNat 32 (upTime s))

/-- A step of the boot ROM: the instant within its run is a free value. -/
def State.bootStepRom (s : State) (code result : Nat) : State :=
  let (d, s1) := s.draw
  s1.bootStep code result (BitVec.ofNat 32 d)

/-! ### The end of the reset (R329, R330, R548) -/

/-- Heartwood whose supply was lost, or whose CRC is wrong, is set to 0 (R330). -/
def State.heartwoodCheck (s : State) : State :=
  if s.heartwood.crcGood ∧ s.sup.aonLost = false then s
  else
    let h : Heartwood := { wdtResets := 0, bootAttempts := 0, resetCause := 0, lastFault := [], monResets := 0, crcGood := true }
    (State.modSup { s with heartwood := h } (fun u => { u with aonLost := false })).orP 0x12 0 0x0D 8

/-- The end of a reset: Heartwood is checked and takes the cause, and BOOT_ATTEMPTS goes to 0 or is kept (R548). -/
def State.endReset (s : State) : State :=
  let cause := s.sup.reset.getD 1
  let s1 := s.heartwoodCheck.modHw (fun h => { h with
    resetCause := BitVec.ofNat 8 cause, bootAttempts := if cause ≤ 3 then 0 else h.bootAttempts })
  s1.modSup (fun u => { u with reset := none, resetEnd := none, since := s.tb.mono })

/-- Whether the reset in progress may end: the supplies are good, RESET_N is high and the reset has lasted (R546 to R548). -/
def resetOver (s : State) : Bool :=
  s.sup.reset.isSome && s.sup.supplyGood == 0xF && s.sup.resetPin.isNone && !s.sup.powerFail &&
    s.sup.resetEnd.any (fun e => decide (e.toNat ≤ s.tb.mono.toNat))

/-! ### Boot ROM (R550 to R553, R562) -/

/-- A word of the factory calibration mirror in NOR (R130, R527). -/
def mirrorWord (s : State) (i : Nat) : Word := BitVec.ofNat 32 (leNat (norBytes s (0xC000 + 4 * i) 4))

/-- The calibration fuse words in use: a word that cannot be corrected is replaced by its mirror word (R562). -/
def calWords (s : State) (cal : List Word) (bad : List Nat) : List Word :=
  (List.range 205).map (fun i => if bad.contains i then mirrorWord s i else cal.getD i 0)

/-- The fuses enter the shadow: PMU-04, PMU-05 and CNV-09 with FACTORY_CAL (R130, R562). -/
def State.readFuses (s : State) (f : Fuses) (corrected : Bool) (bad : List Nat) : State :=
  let s1 := s.modSup (fun u => { u with
    fuses := { f with cal := calWords s f.cal bad }, fuseCorrected := corrected, fuseUncorrectable := !bad.isEmpty })
  let s2 := if corrected then s1.raise (ident .pmu 4) 0 0 else s1
  let s3 := bad.foldl (fun (x : State) i => x.raise (ident .pmu 5) 0 0 (BitVec.ofNat 32 i)) s2
  let differ := (List.range 205).any (fun i => !bad.contains i && f.cal.getD i 0 != mirrorWord s i)
  if differ then (s3.setP 1 0x1B 0 0x0D 1).raise (ident .cnv 9) 0 0 else s3

/-- The bytes of LAYOUT for a density (R526, P19.00.0F). -/
def layoutBytes (d : Nat) : List Byte :=
  let (c, r, f) := slotSizes d
  let (cb, rb, fb) := slotBases d
  leBytes 2 d ++ [0, 0] ++ leBytes 4 (c * 1024) ++ leBytes 4 (r * 1024) ++ leBytes 4 (f * 1024) ++ leBytes 4 cb ++ leBytes 4 rb ++
    leBytes 4 fb ++ [0, 0, 0, 0]

/-- The NOR that answers: its density, identifier and layout (R513, R526). -/
def State.findNor (s : State) (density id : Nat) (suspend : Bool) : State :=
  let s1 := ((s.setP 2 0x19 0 0x02 density).setP 4 0x19 0 0x03 (id % 2 ^ 24)).setBytes 0x19 0 0x0F 0 (layoutBytes density)
  s1.modMsp (fun m => { m with norPresent := true, suspendOk := suspend })

/-- The NAND that answers and meets R512: 1 to 8 Gbit, of blocks of 1 Mbit. -/
def State.findNand (s : State) (nand : Option (Nat × Nat)) : State :=
  match nand with
  | none => s
  | some (d, id) =>
    if 1024 ≤ d ∧ d ≤ 8192 then
      ((s.setP 2 0x19 0 0x05 d).setP 4 0x19 0 0x06 (id % 2 ^ 24)).modJrn (fun j => { j with present := true, blockCount := d })
    else s

/-- Boot failure (R553). -/
def State.bootFailure (s : State) : State := s.modSup (fun u => { u with bootFail := some s.tb.mono })

/-- The order in which the slots are tried: P is the preferred slot, a is BOOT_ATTEMPTS (R551). -/
def bootOrder (p : Bool) (a : Nat) : List Bool := if a ≤ 2 then [p, !p] else if a ≤ 5 then [!p, p] else []

/-- Record the result of a slot in SUP_BOOT. -/
def State.slotResult (s : State) (i : Bool) (code : Nat) : State :=
  s.modSup (fun u => if i then { u with result1 := code } else { u with result0 := code })

/-- Try slots in order: the first valid one, with the results recorded (R551, R552). -/
def State.trySlots (s : State) (sigs : SlotSig) : List Bool → Option Bool × State
  | [] => (none, s)
  | i :: rest =>
    let code := slotCheck s i (if i then sigs.sig1 else sigs.sig0)
    let s1 := (s.slotResult i code).bootStepRom (if i then 6 else 5) code
    if code = 1 then (some i, s1) else State.trySlots s1 sigs rest

/-- The jump to the firmware of a slot (R550 event 6). -/
def State.bootJump (s : State) (p i : Bool) : State :=
  let s1 := s.modHw (fun h => { h with bootAttempts := if h.bootAttempts = 255 then 255 else h.bootAttempts + 1 })
  (s1.bootStepRom 7 1).modSup (fun u => { u with phase := 1, fwSlot := i, bootOther := i != p })

/-- The choice of a slot and the jump, or boot failure. -/
def State.bootSlots (s : State) (sigs : SlotSig) : State :=
  let p := (headerSlots s).2.2 == 1
  match s.trySlots sigs (bootOrder p s.heartwood.bootAttempts.toNat) with
  | (some i, s1) => s1.bootJump p i
  | (none, s1) => s1.bootFailure

/-- The boot ROM once the fuses are read: the NOR, its header copies and the slots. -/
def State.bootNor (s : State) (r : BootRead) : State :=
  match r.nor with
  | none => let (d, s1) := s.draw; (s1.bootStepRom 3 (d % 256)).bootFailure
  | some _ =>
    let s1 := s.bootStepRom 3 1
    let s2 := s1.modSup (fun u => { u with headerCopy := headerInEffect s1 })
    (s2.bootStepRom 4 1).bootSlots r.sigs

/-- The boot ROM from the end of the reset (R550 events 1 to 6): REF_TYPE is detected and VIO_LEVEL latched (R571). -/
def State.bootRom (s : State) (r : BootRead) : State :=
  let s0 := (s.endReset.modTb (fun t => { t with refType := r.refType })).modSup (fun u => { u with vioLevel := r.vio33 })
  let s1 := s0.bootStepRom 1 1
  let s2 := match r.nor with | none => s1 | some (d, id, susp) => s1.findNor d id susp
  match r.fuses with
  | none => ((s2.modSup (fun u => { u with fuseUncorrectable := true })).bootStepRom 2 2).bootFailure
  | some f =>
    let s3 := (s2.readFuses f r.corrected r.calBad).findNand r.nand
    let s4 := s3.modWdt (fun w => { w with enabled := f.option.getLsbD 0, start := s.tb.mono })
    (s4.bootStepRom 2 1).bootNor r

/-- R550: at the end of a reset the boot ROM reads fuses and NOR and verifies the slots. -/
def execBootRomStart (r : BootRead) (s : State) : Host.Outcome State Fault Refusal :=
  if resetOver s ∧ s.sup.phase = 0 then .next (s.bootRom r) else .next s

/-- R553: 10 ms after boot failure the MSP lands are released. -/
def execBootFailureRelease (s : State) : Host.Outcome State Fault Refusal :=
  match s.sup.bootFail with
  | none => .next s
  | some t => if elapsed s t 10000000 then .next (s.modMsp (fun m => { m with released := true })) else .next s

/-! ### Firmware (R550 event 7, R554) -/

/-- The records and faults of a start (R327, R535, R568). -/
def State.startRecords (s : State) : State :=
  let cause := s.heartwood.resetCause
  let s1 := s.journalAt 0x09 ([cause, s.heartwood.bootAttempts, if s.sup.fwSlot then 1 else 0] ++ leBytes 2 0x0304 ++
    leBytes 2 s.heartwood.wdtResets.toNat)
  let s2 := if cause = 4 then s1.journal 1 s.heartwood.lastFault else s1
  let s3 := if 4 ≤ cause.toNat ∧ cause.toNat ≤ 8 then s2.raise (ident .sup 7) 0 0 (cause.setWidth 32) else s2
  if s.sup.bootOther then s3.raise (ident .sup 4) 0 0 (if s.sup.fwSlot then 1 else 0) else s3

/-- The source epoch of this start (R269, R529). -/
def State.startEpoch (s : State) : State :=
  let v : BitVec 16 := BitVec.ofNat 16 ((storedEpoch s).getD 0 + 1)
  State.setP { s with canopy := { s.canopy with sourceEpoch := v, epochDue := [v.toNat] } } 2 0x0E 0 0x08 v.toNat

/-- The journal mounts from its NAND, or runs in RAM alone with MSP-05 (R513, R533). -/
def State.startJournal (s : State) : State :=
  let s1 := s.modJrn (fun j => { j with lastOp := s.tb.mono })
  if s.jrn.present then s1.setP 1 0x1A 0 0x01 1 else (s1.setP 1 0x1A 0 0x01 4).raise (ident .msp 5) 0 0

/-- R554: the firmware runs. -/
def execFirmwareStart (s : State) : Host.Outcome State Fault Refusal :=
  if s.sup.reset.isNone ∧ s.sup.phase = 1 then
    let s1 := (s.heartwoodCheck.startRecords.startEpoch.startJournal).modSup (fun u => { u with phase := 2 })
    .next (((s1.bootStepNow 0x10).bootStepNow 0x11).bootStepNow 0x12)
  else .next s

/-! ### Configuration (R135, R296, R529, R555) -/

/-- The bytes of a calibration-record slot. -/
def calBytes (s : State) (i : Bool) : List Byte := norBytes s (calSlot i) 1088

/-- A calibration record is valid (R135). -/
def calValid (s : State) (i : Bool) : Bool :=
  let r := calBytes s i
  s.msp.norPresent && r.take 4 == [0x47, 0x51, 0x43, 0x52] && leNat ((r.drop 4).take 2) == 1 && leNat ((r.drop 6).take 2) == 1088 &&
    leNat ((r.drop 12).take 8) == s.sup.fuses.uniqueId.toNat && leNat (r.drop 1084) == (crc32 (r.take 1084)).toNat

/-- SEQUENCE of a record. -/
def calSeq (s : State) (i : Bool) : Nat := leNat (((calBytes s i).drop 8).take 4)

/-- The active record: the valid one with the higher SEQUENCE. -/
def activeCal (s : State) : Option Bool :=
  match calValid s false, calValid s true with
  | true, true => some (decide (calSeq s false < calSeq s true))
  | true, false => some false
  | false, true => some true
  | false, false => none

/-- The factory trims as OUTPUT_TRIM lays them out (R130, R139). -/
def factoryTrims (s : State) : List Byte :=
  (List.range 16).flatMap (fun u => (List.range 3).flatMap (fun m => (List.range 4).flatMap (fun k =>
    leBytes 4 (ofSigned 32 (Config.factoryTrim s.sup.fuses.cal u m k)))))

/-- The trims that the start uses: the active record's, or the factory's. -/
def startTrims (s : State) : List Byte :=
  match activeCal s with
  | some i => (List.range 4).flatMap (fun b => ((calBytes s i).drop (32 + 256 * b)).take 192)
  | none => factoryTrims s

/-- The active record in class 1B, or CNV-08 (R135). -/
def State.startCal (s : State) : State :=
  match activeCal s with
  | some i =>
    ((s.setP 1 0x1B 0 0x09 (if i then 1 else 0)).setP 4 0x1B 0 0x0A (calSeq s i)).setP 8 0x1B 0 0x0B
      (leNat (((calBytes s i).drop 1056).take 8))
  | none => s.raise (ident .cnv 8) 0 0

/-- The content that holds the trims alone. -/
def trimContent (s : State) : Store := cellsWriteL parReset [] (parKey 0x1B 0 0x0C 0) (startTrims s)

/-- The entries of a configuration image: INDEX and value; `n` bounds their number. -/
def imageEntries : Nat → List Byte → Option (List (Nat × List Byte))
  | 0, _ => none
  | n + 1, l =>
    if l = [] then some []
    else
      let len := leNat ((l.drop 4).take 2)
      if l.length < 6 + len then none
      else (imageEntries n (l.drop (6 + len))).map (fun t => (leNat (l.take 4), (l.drop 6).take len) :: t)

/-- An INDEX with FLAGS 0 that schema 5 defines (R391), with a value no longer than the attribute. -/
def entryDefined (e : Nat × List Byte) : Bool :=
  decide (e.1 < 2 ^ 24) && decide (e.1 / 256 % 256 < classInstances (e.1 / 65536)) &&
    (findAttr (e.1 / 65536) (e.1 % 256)).any (fun r => decide (e.2.length ≤ r.size))

/-- The content of the configuration image of a slot, where it is valid (R555). -/
def imageContent (s : State) (i : Bool) : Option Store :=
  let base := configSlot s i
  let h := norBytes s base 48
  let len := leNat ((h.drop 8).take 4)
  if h.take 4 ≠ [0x47, 0x51, 0x43, 0x49] ∨ leNat ((h.drop 4).take 2) ≠ 1 ∨ len < 52 ∨ (slotSizes (norDensity s)).1 * 1024 < len
      ∨ leNat (norBytes s (base + len - 4) 4) ≠ (crc32 (norBytes s base (len - 4))).toNat then none
  else
    match imageEntries (len + 1) (norBytes s (base + 48) (len - 52)) with
    | none => none
    | some es =>
      let content := rwsPart (es.foldl (fun (m : Store) e => cellsWriteL parReset m (e.1 * 2 ^ 20) e.2) (trimContent s))
      if es.all entryDefined ∧ (configHash content).toNat = leNat ((h.drop 12).take 8) then some content else none

/-- The content that the start puts into effect, and the detail of SUP-05 where the active image is not valid. -/
def startContent (s : State) : Store × Option Nat :=
  match slotOf (headerSlots s).1 with
  | none => (trimContent s, none)
  | some i =>
    match imageContent s i, imageContent s (!i) with
    | some c, _ => (c, none)
    | none, some c => (c, some 0)
    | none, none => (trimContent s, some 1)

/-- What a configuration brings on the logic side at the start, `old` being the state with reset values. -/
def State.startEffects (s old : State) : State :=
  let s1 := allU.foldl (fun x u => x.commitU old u) s
  let s2 := allGroups.foldl (fun x g => x.commitG old g) s1
  let s3 := s2.commitCanopy old
  let s4 := State.setP { s3 with canopy := { s3.canopy with sourceEpoch := s.canopy.sourceEpoch } } 2 0x0E 0 0x08
    s.canopy.sourceEpoch.toNat
  let s5 := allPorts.foldl (fun x p => x.commitPort old (now x) p) s4
  let s6 := allMasters.foldl (fun x m => x.commitPair old m) (s5.commitSwitch old)
  (s6.commitGcl old).followSafe

/-- The immediate commands of the load switches and groups start from their safe values (R173, R205, R207). -/
def State.startCommands (s : State) : State :=
  let s1 := allLs.foldl (fun (x : State) (l : Fin 8) =>
    x.setP 1 0x0A l 0x01 (lImmediate (x.p 1 0x0A l 0x1D, x.p 1 0x0A l 0x1E)).toNat) s
  allGroups.foldl (fun (x : State) (g : Fin 4) =>
    x.setP 1 0x0B g 0x03 (lImmediate (x.p 1 0x0B g 0x0D, x.p 1 0x0B g 0x0E)).toNat) s1

/-- A content becomes the configuration in effect and the staged set (R555). -/
def State.startConfig (s : State) (content : Store) : State :=
  let h := (configHash content).toNat
  let s1 : State := { s.withContent content with staged := content }
  (((s1.setP 8 0x01 0 0x08 h).setP 8 0x01 0 0x09 h).setStagedState true).startCommands.startEffects s

/-- The image of a rule-table slot in rule bank 0, where it verifies. -/
def State.loadRuleSlot (s : State) (i : Bool) : Option State :=
  let n := leNat (norBytes s (ruleSlot s i + 6) 2)
  let len := 64 + 112 * n + 12
  let s1 := s.setRuleBank false (cellsWriteL zeroByte [] 0 (norBytes s (ruleSlot s i) len)) len
  if n ≤ 4096 ∧ len ≤ (slotSizes (norDensity s)).2.1 * 1024 ∧ imageOk s1 false then
    some ((s1.modGlade (fun g => { g with active := some false, state := 1, bootSlot := some i })).checkLayout)
  else none

/-- The boot rule table: slot BOOT_TABLE, or the other one with SUP-06 (R296, R555). -/
def State.startRules (s : State) : State :=
  match slotOf (headerSlots s).2.1 with
  | none => s
  | some i =>
    match s.loadRuleSlot i with
    | some s1 => s1
    | none => ((s.loadRuleSlot (!i)).getD s).raise (ident .sup 6) 0 0

/-- R555: configuration image, calibration record and boot rule table. -/
def execConfigImageLoad (s : State) : Host.Outcome State Fault Refusal :=
  if s.sup.reset.isNone ∧ s.sup.phase = 2 then
    let (content, bad) := startContent s
    let s1 := (s.startCal.startConfig content).startRules
    let s2 := match bad with | some d => s1.raise (ident .sup 5) 0 0 (BitVec.ofNat 32 d) | none => s1
    let s3 := s2.modSup (fun u => { u with phase := 3 })
    .next (((s3.bootStepNow 0x13).bootStepNow 0x14).bootStepNow 0x15)
  else .next s

/-- R321: Firebreak is armed and FAIL_N goes high, unless Firebreak's own store has failed (R313). -/
def execFirebreakArm (s : State) : Host.Outcome State Fault Refusal :=
  if s.sup.reset.isNone ∧ s.sup.phase = 3 then
    let s1 := s.modFb (fun f => { f with armed := true, failLow := f.records[(0 : Fin 33)].resetOnly })
    .next ((s1.modSup (fun u => { u with phase := 4 })).bootStepNow 0x16)
  else .next s

/-- R361: all eight endpoints open, and BOOT_ATTEMPTS is 0. -/
def execEndpointsOpen (s : State) : Host.Outcome State Fault Refusal :=
  if s.sup.reset.isNone ∧ s.sup.phase = 4 then
    let s1 : State := { s with mbx := { s.mbx with eps := s.mbx.eps.map (fun p => { p with opened := true }) } }
    let s2 := s1.modHw (fun h => { h with bootAttempts := 0 })
    .next ((s2.modSup (fun u => { u with phase := 5, endpointsOpen := true })).bootStepNow 0x17)
  else .next s

end Sys2Proof.Machine
end

