-- ==== Sys2Proof/Machine/Power.lean ====
section
/-! DEFINITION. Supplies, resets and temperatures: power-fail detection and commit, the logic-side reset, the supplies of the
banks, and the measurements of class 03 (R545 to R549, R557 to R561, R574 to R592). -/

namespace Sys2Proof.Machine

/-! ### Reset requests (R547, R548) -/

/-- A reset of a cause is requested, to start now. -/
def State.resetNow (s : State) (cause : Nat) : State :=
  s.modSup (fun u => { u with requests := u.requests ++ [(cause, s.tb.mono)] })

/-- R548: RESET_N has fallen. -/
def execResetNEdge (s : State) : Host.Outcome State Fault Refusal :=
  if s.sup.resetPin.isSome then .next s
  else .next ((s.modSup (fun u => { u with resetPin := some s.tb.mono })).resetNow 3)

/-- R548: RESET_N rises; the reset ends 10 µs later at the earliest. -/
def execResetNRise (s : State) : Host.Outcome State Fault Refusal :=
  if s.sup.resetPin.isNone then .next s
  else
    let e := s.tb.mono + BitVec.ofNat 96 (10000 * 2 ^ 32)
    .next (s.modSup (fun u => { u with
      resetPin := none,
      resetEnd := match u.resetEnd with
        | some x => some (if x.toNat < e.toNat then e else x)
        | none => if u.reset = some 3 then some e else none }))

/-- R548: a privileged write of 0x5EC0 to SUP_RESET.KEY; any other write does nothing. -/
def execSupResetKey (priv : Bool) (key : BitVec 16) (s : State) : Host.Outcome State Fault Refusal :=
  if priv ∧ key = 0x5EC0 then .next (s.resetNow 8) else .next s

/-! ### Supplies (R545 to R547, R574, R575) -/

/-- The supply is lost: Heartwood's content goes with VAUX3 (R545). -/
def State.dropRails (s : State) (rails : BitVec 4) : State :=
  let s1 := s.modSup (fun u => { u with
    supplyGood := u.supplyGood &&& ~~~rails, aonLost := u.aonLost || rails.getLsbD 3,
    holdReady := u.holdReady && !rails.getLsbD 3 })
  if rails.getLsbD 3 then { s1 with heartwood := { s1.heartwood with crcGood := false } } else s1

/-- A power-fail commit starts (R518, R519, R537), and VHOLD feeds VMEM and the MSP lands (R575, R579): a continued sequence
that holds the bus between entries is split. -/
def State.startPowerFail (s : State) : State :=
  let s1 := s.modSup (fun u => { u with powerFail := true, memSupply := .vhold })
  match s.msp.cont with
  | some (ep, _) => s1.mspSplit ep
  | none => s1

/-- R575: rails cross their power-fail thresholds. -/
def execPowerFailDetection (rails : BitVec 4) (s : State) : Host.Outcome State Fault Refusal :=
  let lost := rails &&& s.sup.supplyGood
  let low := natBit (s.p 1 0x03 0 0x0C) 0
  if lost = 0 then .next s
  else if s.sup.powerFail then .next (s.dropRails lost)
  else if s.sup.reset.isSome then .next ((s.dropRails lost).modSup (fun u => { u with
    reset := some (if u.aonLost then 1 else min 2 (u.reset.getD 2)), resetEnd := none }))
  else
    let s1 := s.modSup (fun u => { u with holdLow := low })
    if s.sup.holdReady then .next ((s1.dropRails lost).startPowerFail)
    else .next ((s1.dropRails lost).resetNow 2)

/-- The commit adds its record to the open page and programs it; later records are lost (R537). -/
def State.powerFailPage (s : State) : State :=
  let rs := s.jrn.ram.take 61
  let gone := s.jrn.ram.length - rs.length
  let (d, s1) := s.draw
  let s2 := s1.modJrn (fun j => { j with ram := rs, incoming := [] })
  let lost := gone + s.jrn.incoming.length
  let body := ctBytes (now s) ++ [0, BitVec.ofNat 8 rs.length] ++ leBytes 2 d ++ List.replicate 11 0
  let s3 := (s2.addRecord 0x0A s.tb.uncertain body)
  let s4 := flushPage s3 62 1
  if lost = 0 then s4 else s4.loseRecords lost 1

/-- The commit is over: VMEM is back on VIO where VIO is good, and on nothing where it is not (R579). -/
def State.endPowerFail (s : State) : State :=
  s.modSup (fun u => { u with powerFail := false, memSupply := if u.supplyGood.getLsbD 2 then .vio else .off })

/-- R537: the power-fail commit ends; the supply reset follows (R547). During the mount the records go to a fresh page of an erased
block (R539). -/
def execPowerFailCommitEnd (s : State) : Host.Outcome State Fault Refusal :=
  if !s.sup.powerFail then .next s
  else
    let s1 := if s.jrn.mounted then s.powerFailPage else if journalState s = 1 then s.mountNumbers.powerFailPage else s
    .next (s1.endPowerFail.resetNow 2)

/-- R575, R591: VHOLD reaches V_CUT first: the commit ends incomplete and its page is invalid. -/
def execVholdCut (s : State) : Host.Outcome State Fault Refusal :=
  if !s.sup.powerFail then .next s
  else .next ((s.endPowerFail.modSup (fun u => { u with holdReady := false })).resetNow 2)

/-- A supply crosses its good threshold (R574): VMEM and the MSP lands are on VIO from the moment it is good, but for a
power-fail commit in progress (R579). -/
def State.raiseRail (s : State) (rail : Fin 4) : State :=
  s.modSup (fun u => { u with
    supplyGood := u.supplyGood ||| 1#4 <<< rail.val
    memSupply := if rail = 2 && !u.powerFail then .vio else u.memSupply })

/-- R546, R547: a logic supply becomes good; with the last of the four a reset in progress lasts 1 ms more. -/
def execSupplyGood (rail : Fin 4) (s : State) : Host.Outcome State Fault Refusal :=
  if s.sup.supplyGood.getLsbD rail then .next s
  else
    let s1 := s.raiseRail rail
    let e := s.tb.mono + BitVec.ofNat 96 (1000000 * 2 ^ 32)
    if s1.sup.supplyGood = 0xF ∧ s1.sup.reset.isSome then .next (s1.modSup (fun u => { u with
      resetEnd := some e, resetAt := if u.aonLost then s.tb.mono else u.resetAt }))
    else .next s1

/-- R577: HOLD_READY changes; PMU-02 ends when it becomes 1. -/
def execHoldReadyChange (ready : Bool) (s : State) : Host.Outcome State Fault Refusal :=
  let s1 := s.modSup (fun u => { u with holdReady := ready, holdActive := u.holdActive && !ready })
  .next (if ready ∧ s.sup.holdActive then s1.endFault (ident .pmu 2) 0 0 else s1)

/-! ### The logic-side reset (R549) -/

/-- Causes in the order in which one of several is recorded (R567). -/
def causeOrder : List Nat := [1, 2, 6, 7, 5, 4, 3, 8]

/-- The requests whose instant has come. -/
def dueResets (s : State) : List Nat :=
  (s.sup.requests.filter (fun r => decide (r.2.toNat ≤ s.tb.mono.toNat))).map (fun r => r.1)

/-- The cause that a reset records: of those due and of a reset in progress, the first in the order; a supply reset in which
VAUX3 was lost is a power-on reset. -/
def resetCause (s : State) : Option Nat :=
  let all := dueResets s ++ s.sup.reset.toList
  (causeOrder.find? (fun c => all.contains c)).map (fun c => if c = 2 ∧ s.sup.aonLost then 1 else c)

/-- When a reset that starts now may end (R546 to R548). -/
def resetEndOf (s : State) (cause : Nat) : Option (BitVec 96) :=
  let after (ns : Nat) : BitVec 96 := s.tb.mono + BitVec.ofNat 96 (ns * 2 ^ 32)
  if s.sup.supplyGood ≠ 0xF then none
  else if cause ≤ 2 then some (after 1000000)
  else if cause = 3 then (if s.sup.resetPin.isSome then none else some (after 10000))
  else some (after 10000)

/-- What is being written to NOR is left invalid: images, records, rule tables and firmware slots (R135, R406, R537, R566), and
the bytes of a translated program or erase. -/
def State.breakWrites (s : State) : State :=
  let s1 := s.mbx.long.foldl (fun (x : State) j => x.abortLong j.opcode) s
  let s2 := match s1.sup.persist with | some (slot, _) => s1.eraseNor (configSlot s1 slot) 4096 | none => s1
  let s3 := match s2.sup.calWrite with | some (slot, _) => s2.eraseNor (calSlot slot) 4096 | none => s2
  let s4 := s3.dropSession
  match s4.msp.norOp with
  | some o => s4.failRange o.addr o.len
  | none => s4

/-- PMU and SUP after the start of a reset of a cause. -/
def supAfter (s : State) (cause : Nat) : Startup :=
  let u := s.sup
  { startupReset with
    supplyGood := u.supplyGood, aonLost := u.aonLost, reset := some cause, resetPin := u.resetPin,
    resetEnd := resetEndOf s cause, holdReady := u.holdReady, vioLevel := u.vioLevel, memSupply := u.memSupply,
    resetAt := if u.reset.isSome then u.resetAt else s.tb.mono, fuses := u.fuses, holdLow := u.holdLow }

/-- The journal after a reset: its NAND stays, its RAM records are lost. -/
def jrnAfter (j : Journal) : Journal := { journalReset with pages := j.pages, blocks := j.blocks }

/-- The field side as the logic side no longer knows it: the parts of the shared channel records that it keeps. -/
def State.forgetField (s : State) : State :=
  let s1 := allU.foldl (fun (x : State) u => x.modU u (fun k => { k with
    points := [], chain := { k.chain with syncRequest := none, syncRefused := false } })) s
  allLs.foldl (fun (x : State) f => x.modF f (fun k => { k with storedSeq := 0 })) s1

/-- The logic die is reset, AON and the banks apart; the lines of the bank links carry nothing more. -/
def State.resetLogic (s : State) (cause : Nat) : State :=
  let b := s.breakWrites
  let f := b.forgetField
  { State.reset with
    ports := Vector.replicate 3 { portReset with badAt := s.tb.mono },
    pending := s.pending, bankCfg := s.bankCfg, banks := s.banks, u := f.u, l := s.l, f := f.f,
    down := s.down.map (fun d => { linkReset with rxSeq := d.rxSeq, lastExp := d.lastExp }), up := s.up,
    tb := { timeReset with mono := s.tb.mono }, heartwood := s.heartwood, msp := { mspReset with nor := b.msp.nor },
    jrn := jrnAfter s.jrn, sup := supAfter s cause, wdt := { watchdogReset with enabled := false }, draws := b.draws }

/-- R549: a reset that is due starts; while a power-fail commit runs it waits for its end (R567). What the collector and Heartwood
take within 11 µs of a raise is taken before it (R307, R330). -/
def execLogicReset (s : State) : Host.Outcome State Fault Refusal :=
  if s.sup.powerFail ∨ dueResets s = [] then .next s
  else
    match resetCause s with
    | none => .next s
    | some c => .next (s.collectAll.heartNow.resetLogic c)

/-! ### Banks (R557 to R561, R580, R587) -/

/-- The channels of a bank after the loss or the return of its supply; what the logic side keeps in them stays. -/
def State.resetChannels (s : State) (b : Fin 4) : State :=
  let s1 := (bankU b).foldl (fun (x : State) u => x.modU u (fun k => { uchanReset with
    points := k.points, chain := { chainReset with
      syncRequest := k.chain.syncRequest, syncRefused := k.chain.syncRefused } })) s
  let s2 := (bankL b).foldl (fun (x : State) l => x.modL l (fun _ => lchanReset)) s1
  (bankF b).foldl (fun (x : State) f => x.modF f (fun k => { fchanReset with storedSeq := k.storedSeq })) s2

/-- The configuration that a bank held is gone. -/
def State.dropBankCfg (s : State) (b : Fin 4) : State :=
  { s with bankCfg := s.bankCfg.filter (fun c => !(decide (bankBase b ≤ c.1) && decide (c.1 < bankBase b + 2 ^ 48))) }

/-- R557: a bank starts with reset values and reports its start: its first link frame begins with a STATUS cell. Cells that the
logic side sent while the bank had no supply went by unheard; it hears them from the next SYNC cell on. -/
def execBankStart (b : Fin 4) (s : State) : Host.Outcome State Fault Refusal :=
  if (s.banks[b]).powered then .next s
  else
    let k : Bank := { bankReset with powered := true, reporting := true, startFlag := true }
    let s1 := (((s.dropBankCfg b).resetChannels b).modBank b (fun _ => k)).modUp b (fun d => { linkReset with
      rxSeq := d.rxSeq, lastExp := d.lastExp })
    let s2 := s1.turnUp b
    .next (if s.links[b].started then
        (s2.modDown b (fun d => { d with slot := 7, line := .idle, copy := none, rxSeq := 0, lastExp := none })).turnDown b
      else s2)

/-- R561: a bank loses its supply: outputs off, terminals at high impedance; it still reports the loss. -/
def execVfLoss (b : Fin 4) (s : State) : Host.Outcome State Fault Refusal :=
  if (s.banks[b]).powered then
    let k : Bank := { bankReset with reporting := true, vfLossFlag := true }
    let s1 := (((s.dropBankCfg b).resetChannels b).modBank b (fun _ => k)).modUp b (fun d => { d with
      queued := [], express := [], copy := none, unacked := [], again := [], slot := 7, line := .idle })
    .next (s1.turnUp b)
  else .next s

/-- R580: VF_x has lain out of range for 10 ms. -/
def execVfOutOfRange (b : Fin 4) (s : State) : Host.Outcome State Fault Refusal :=
  let k := s.banks[b]
  if k.powered ∧ k.vfLow = false then
    .next ((s.modBank b (fun k => { k with vfLow := true })).bankRaise b (ident .bkc 5) 1 b)
  else .next s

/-- R580: VF_x has been within range for 10 ms. -/
def execVfRangeRestored (b : Fin 4) (s : State) : Host.Outcome State Fault Refusal :=
  let k := s.banks[b]
  if k.powered ∧ k.vfLow then .next ((s.modBank b (fun k => { k with vfLow := false })).bankEnd b (ident .bkc 5) 1 b)
  else .next s

/-- The universal outputs of a bank follow its hold: DO drivers off, DAC stages at high impedance, LIMIT set (R587). -/
def State.hotOutputs (s : State) (b : Fin 4) (on : Bool) : State :=
  (bankU b).foldl (fun (x : State) u =>
    if isOutMode (uMode x u) then
      let x1 := if on then (x.uLive u 5 true).uDiag u 5 else x.uLive u 5 false
      if uMode x u = 3 then x1.driveDo u else x1
    else x) s

/-- R587: the field die's temperature against 150 °C and 140 °C. -/
def execFieldDieOvertemp (b : Fin 4) (t : Int) (s : State) : Host.Outcome State Fault Refusal :=
  let k := s.banks[b]
  if k.powered ∧ k.hotDie = false ∧ 15000 ≤ t then
    .next (((s.modBank b (fun k => { k with hotDie := true })).hotOutputs b true).bankRaise b (ident .bkc 6) 1 b)
  else if k.powered ∧ k.hotDie ∧ t < 14000 then
    .next (((s.modBank b (fun k => { k with hotDie := false })).hotOutputs b false).bankEnd b (ident .bkc 6) 1 b)
  else .next s

/-- R588: the logic die's temperature against 150 °C and 145 °C. -/
def execLogicDieOvertemp (t : Int) (s : State) : Host.Outcome State Fault Refusal :=
  if s.sup.hot = false ∧ 15000 ≤ t then
    .next ((s.modSup (fun u => { u with hot := true })).raise (ident .pmu 6) 0 0)
  else if s.sup.hot ∧ t < 14500 then .next ((s.modSup (fun u => { u with hot := false })).endFault (ident .pmu 6) 0 0)
  else .next s

/-! ### Measurements (R416, R449, R576) -/

/-- A logic supply lies outside the range of R571. -/
def outOfRange (vio33 : Bool) (m : Supplies) : Bool :=
  let out (v lo hi : Nat) : Bool := decide (v < lo) || decide (hi < v)
  out m.vdd08 760 840 || out m.vddsd 870 930 || (if vio33 then out m.vio 3135 3465 else out m.vio 1710 1890) ||
    out m.vaux3 3000 3600

/-- The values of class 03. -/
def State.storeSupplies (s : State) (m : Supplies) : State :=
  let banks := allBanks.foldl (fun n b => if bankPresent s b then n + m.powerBank[b] else n) 0
  let s1 := (((s.setP 2 0x03 0 0x01 m.vdd08).setP 2 0x03 0 0x02 m.vddsd).setP 2 0x03 0 0x03 m.vio).setP 2 0x03 0 0x05 m.vaux3
  let s2 := ((s1.setP 2 0x03 0 0x06 m.vhold).setPI 2 0x03 0 0x08 m.logicTemp).setP 4 0x03 0 0x09 m.powerLogic
  let s3 := allBanks.foldl (fun (x : State) (b : Fin 4) => x.setPAt 4 0x03 0 0x0A (4 * b) m.powerBank[b]) s2
  s3.setP 4 0x03 0 0x0B (m.powerLogic + banks)

/-- HOLD_READY at a measurement: DIAG bit 0, and PMU-02 from 1 s after the end of reset. -/
def State.checkHold (s : State) : State :=
  if s.sup.holdReady = false ∧ elapsed s s.sup.since 1000000000 then
    let s1 := s.orP 0x03 0 0x0C 1
    if s.sup.holdActive then s1 else (s1.modSup (fun u => { u with holdActive := true })).raise (ident .pmu 2) 0 0
  else s

/-- The supply ranges at a measurement: DIAG bit 1 and PMU-01 after 10 in a row. -/
def State.checkRange (s : State) (bad : Bool) : State :=
  let n := if bad then min 10 (s.sup.rangeRun + 1) else 0
  let s1 := s.modSup (fun u => { u with rangeRun := n, rangeActive := bad && (u.rangeActive || decide (10 ≤ n)) })
  if 10 ≤ n then
    let s2 := s1.orP 0x03 0 0x0C 2
    if s.sup.rangeActive then s2 else s2.raise (ident .pmu 1) 0 0
  else if s.sup.rangeActive ∧ bad = false then s1.endFault (ident .pmu 1) 0 0 else s1

/-- POWER_TOTAL at a measurement: DIAG bit 2 and PMU-03 after 10 in a row above 6,500 mW. -/
def State.checkPower (s : State) : State :=
  let bad := decide (6500 < s.p 4 0x03 0 0x0B)
  let n := if bad then min 10 (s.sup.powerRun + 1) else 0
  let s1 := s.modSup (fun u => { u with powerRun := n, powerActive := bad && (u.powerActive || decide (10 ≤ n)) })
  if 10 ≤ n then
    let s2 := s1.orP 0x03 0 0x0C 4
    if s.sup.powerActive then s2 else s2.raise (ident .pmu 3) 0 0
  else if s.sup.powerActive ∧ bad = false then s1.endFault (ident .pmu 3) 0 0 else s1

/-- BBS-13: the logic die at 140 °C while a port runs in MODE 1, until below 135 °C (R449). -/
def State.checkPorts (s : State) (t : Int) : State :=
  let fast := allPorts.any (fun p => s.p 1 0x15 p 0x01 == 1)
  if s.sup.tempLimit then
    if t < 13500 then (s.modSup (fun u => { u with tempLimit := false })).endFault (ident .bbs 13) 0 0 else s
  else if 14000 ≤ t ∧ fast then (s.modSup (fun u => { u with tempLimit := true })).raise (ident .bbs 13) 0 0
  else s

/-- R576: the measurements of one millisecond. -/
def execSupplyMeasurement (m : Supplies) (s : State) : Host.Outcome State Fault Refusal :=
  .next ((((s.storeSupplies m).checkHold.checkRange (outOfRange s.sup.vioLevel m)).checkPower).checkPorts m.logicTemp)

end Sys2Proof.Machine
end

