-- ==== Sys2Proof/Machine/Params.lean ====
section
/-! DEFINITION. The four parameter commands: GET_PARAM, SET_PARAM, GET_BLOCK and SET_BLOCK (R384, R391 to R398, R408, R413). -/

namespace Sys2Proof.Machine

/-! ### Parameter indices (R391, R392) -/

/-- The class, instance and attribute of an index. -/
def indexParts (i : Nat) : Nat × Nat × Nat := (i / 2 ^ 16 % 256, i / 2 ^ 8 % 256, i % 256)

/-- Whether an index asks for staged values. -/
def indexStaged (i : Nat) : Bool := natBit (i / 2 ^ 24) 0

/-- Whether an index asks for a span. -/
def indexSpan (i : Nat) : Bool := natBit (i / 2 ^ 24) 1

/-- The directory row of a defined index (R392); reserved FLAGS bits have no effect (R14). -/
def indexRow (i : Nat) : Option AttrRow :=
  let (cls, inst, attr) := indexParts i
  if inst < classInstances cls then findAttr cls attr else none

/-! ### Reading (R395 to R398, R408, R413) -/

/-- Bytes of an attribute in effect, or staged ones where the index asks for them and the attribute is RWS. -/
def readBytes (s : State) (staged : Bool) (cls inst : Nat) (r : AttrRow) (off n : Nat) : List Byte :=
  if staged ∧ r.access = .rws then s.stBytes n cls inst r.attr off else attrBytes s cls inst r off n

/-- GET_PARAM. -/
def getParamCmd (s : State) (i : Nat) : CmdRes :=
  let (cls, inst, _) := indexParts i
  match indexRow i with
  | none => refuse s rcBadParam
  | some r =>
    if 64 < attrSize s cls r then refuse s rcBadParam
    else { st := s, code := 0,
           payload := leBytes 2 r.size ++ [0, 0] ++ readBytes s (indexStaged i) cls inst r 0 r.size }

/-- The attributes of a span, from the named one upward (R397). -/
def spanRows (s : State) (cls attr : Nat) : List AttrRow :=
  (classAttrs cls).filter (fun r => decide (attr ≤ r.attr) && decide (attrSize s cls r ≤ 64))

/-- The response of GET_BLOCK. -/
def blockPayload (off : Nat) (data : List Byte) : List Byte := leBytes 4 off ++ leBytes 2 data.length ++ [0, 0] ++ data

/-- GET_BLOCK of REG_WINDOW: words in ascending order on the firmware's path (R413). -/
def getRegisters (s : State) (off len : Nat) : CmdRes :=
  if off % 4 ≠ 0 ∨ len % 4 ≠ 0 ∨ 49152 < off + len then refuse s rcOutOfRange
  else
    let (ws, s1) := s.regReads false off (len / 4)
    { st := s1, code := 0, payload := blockPayload off (ws.flatMap (fun w => leBytes 4 w.toNat)) }

/-- GET_BLOCK. -/
def getBlockCmd (s : State) (i off len : Nat) : CmdRes :=
  let (cls, inst, attr) := indexParts i
  if len = 0 ∨ 1000 < len then refuse s rcBadParam
  else match indexRow i with
    | none => refuse s rcBadParam
    | some r =>
      if indexSpan i then
        let data := (spanRows s cls attr).flatMap (fun a => readBytes s (indexStaged i) cls inst a 0 a.size)
        if data.length < off + len then refuse s rcOutOfRange
        else { st := s, code := 0, payload := blockPayload off (wholeBytes data off len) }
      else if cls = 0x01 ∧ attr = 0x14 then getRegisters s off len
      else if attrSize s cls r < off + len then refuse s rcOutOfRange
      else { st := s, code := 0, payload := blockPayload off (readBytes s (indexStaged i) cls inst r off len) }

/-! ### The sender of a write (R384) -/

/-- Check 1 of R395: the authority, endpoint 0 with HOST_CONFIG, any endpoint for a one written to a W1C attribute or for its own
class 13 instance, and the authority alone for commissioning forces (R280). -/
def mayWrite (s : State) (ep : Fin 8) (i : Nat) (value : List Byte) : Bool :=
  let (cls, inst, attr) := indexParts i
  let w1c := (indexRow i).any (fun r => r.access == .w1c) && value.any (fun b => b != 0)
  if cls = 0x0E ∧ (attr = 0x0B ∨ attr = 0x0C) then isAuthority s ep
  else mayConfigure s ep || w1c || (cls == 0x13 && inst == ep.val)

/-- Check 3: the access code admits writing; the attributes of endpoint 0 alone are read only elsewhere (R388). -/
def writable (cls inst : Nat) (r : AttrRow) : Bool :=
  r.access != .ro && !(cls == 0x13 && inst != 0 && [0x0B, 0x13, 0x14].contains r.attr)

/-! ### The ranges of a write (check 7 of R395) -/

/-- One element within the range of its attribute. -/
def elemOk (r : AttrRow) (l : List Byte) : Bool :=
  let v : Int := if r.signed then toSigned (8 * l.length) (leNat l) else leNat l
  r.ranges.isEmpty || r.ranges.any (fun p => decide (p.1 ≤ v) && decide (v ≤ p.2) && decide ((v - p.1) % (max 1 r.step : Nat) = 0))

/-- Byte k of an attribute as a write leaves it in the staged set. -/
def mergedByte (s : State) (cls inst attr off : Nat) (data : List Byte) (k : Nat) : Byte :=
  if off ≤ k ∧ k < off + data.length then (data[k - off]?).getD 0
  else BitVec.ofNat 8 (leNat (s.stBytes 1 cls inst attr k))

/-- The entries of `size` bytes that a write touches, each as the write leaves it. -/
def mergedEntries (s : State) (cls inst attr size off : Nat) (data : List Byte) : List (Nat × List Byte) :=
  let first := off / size
  let last := (off + data.length + size - 1) / size
  (List.range (last - first)).map (fun j =>
    (first + j, (List.range size).map (fun k => mergedByte s cls inst attr off data ((first + j) * size + k))))

/-- A field of an entry. -/
def entryField (l : List Byte) (off n : Nat) : Nat := leNat ((l.drop off).take n)

/-- An entry of USER_SELECT (P19.00.08): the ranges hold for a select that is enabled. -/
def userSelectOk (l : List Byte) : Bool :=
  let f := entryField l
  decide (f 0 1 ≤ 1) && (f 0 1 == 0 || (decide (2 ≤ f 1 1) && decide (f 1 1 ≤ 16) && [0, 3].contains (f 2 1) &&
    [1, 2, 4].contains (f 3 1) && decide (10 ≤ f 4 1) && decide (10 ≤ f 5 1) && decide (20 ≤ f 6 2) && decide (f 6 2 ≤ 10000)))

/-- An entry of MAC_STATIC, VLAN_TABLE or STREAM_TABLE in use (R454). -/
def switchEntryOk (attr : Nat) (l : List Byte) : Bool :=
  let f := entryField l
  let vid (v : Nat) : Bool := decide (1 ≤ v) && decide (v ≤ 4094)
  match attr with
  | 0x03 => !(natBit (f 9 1) 0) || vid (f 6 2)
  | 0x07 => decide (f 0 2 ≤ 4094)
  | 0x08 => f 8 1 == 0 || (decide (f 8 1 ≤ 2) && vid (f 6 2) && decide (f 11 1 ≤ 32))
  | _ => true

/-- What the owning chapters ask of an RWS write beyond the ranges of its elements (R97, R131, R453, R454, P15.pp.15, P19.00.08);
the rules that relate several attributes, and those of Canopy's tables and of the reactions, are the commit's. SAFE_VALUE is
checked against the staged MODE (DESIGN CHOICE, assumption log 9). -/
def stageOk (s : State) (cls inst attr off : Nat) (data : List Byte) : Bool :=
  match cls, attr with
  | 0x06, 0x11 =>
    let m := s.st 1 0x06 inst 0x01
    !isOutMode m || inRange m (toSigned 32 (leNat data))
  | 0x1B, 0x0C => (mergedEntries s cls inst attr 16 off data).all (fun e =>
      trimOk (spanOf (9 + e.1 % 3)) ((List.range 4).map (fun i => toSigned 32 (entryField e.2 (4 * i) 4))))
  | 0x15, 0x15 => (mergedEntries s cls inst attr 2 off data).all (fun e => decide (64 ≤ leNat e.2))
  | 0x16, 0x01 => !((data.headD 0).getLsbD 0)
  | 0x19, 0x08 => (mergedEntries s cls inst attr 8 off data).all (fun e => userSelectOk e.2)
  | 0x16, 0x03 => (mergedEntries s cls inst attr 12 off data).all (fun e => switchEntryOk attr e.2)
  | 0x16, 0x07 => (mergedEntries s cls inst attr 8 off data).all (fun e => switchEntryOk attr e.2)
  | 0x16, 0x08 => (mergedEntries s cls inst attr 32 off data).all (fun e => switchEntryOk attr e.2)
  | _, _ => true

/-- The bits of a table's byte that are not reserved (R14, R268, R300, R308, R454). -/
def fieldMask (cls attr off : Nat) : Byte :=
  match cls, attr with
  | 0x11, 0x01 => 0x3F
  | 0x0E, 0x03 => if 14 ≤ off % 16 then 0 else 0xFF
  | 0x0E, 0x05 => if off % 32 = 13 then 1 else if off % 32 = 14 ∨ off % 32 = 15 ∨ 28 ≤ off % 32 then 0 else 0xFF
  | 0x15, 0x11 => if 1 ≤ off % 8 ∧ off % 8 ≤ 3 then 0 else 0xFF
  | 0x16, 0x03 => if off % 12 = 8 then 0x0F else if off % 12 = 9 then 0x03 else 0xFF
  | 0x16, 0x07 => if off % 8 = 2 then 0x0F else if off % 8 = 3 then 0x07 else if 4 ≤ off % 8 then 0 else 0xFF
  | 0x16, 0x08 =>
    let k := off % 32
    if k = 9 then 0x0F else if k = 10 then 0x07 else if k = 24 then 1 else if k = 25 ∨ 28 ≤ k then 0 else 0xFF
  | _, _ => 0xFF

/-- Mask the reserved bits of what a write stores. -/
def maskFields (cls attr : Nat) : Nat → List Byte → List Byte
  | _, [] => []
  | off, b :: t => (b &&& fieldMask cls attr off) :: maskFields cls attr (off + 1) t

/-- A write of an RWS attribute: check 7, then the staged set (R399). -/
def stageWrite (s : State) (cls inst : Nat) (r : AttrRow) (off : Nat) (data : List Byte) : CmdRes :=
  if (mergedEntries s cls inst r.attr (max 1 r.elem) off data).all (fun e => elemOk r e.2) && stageOk s cls inst r.attr off data
  then okRes (s.stageBytes cls inst r.attr off (maskFields cls r.attr off data))
  else refuse s rcOutOfRange

/-! ### Attributes that act at once (R13) -/

/-- OUT_VALUE of a universal channel (P06.xx.12, R92). -/
def writeOutU (s : State) (u : Fin 16) (v : Nat) : CmdRes :=
  if uModeL s u = 3 ∧ v ≤ 1 then
    let s1 := s.setP 1 0x06 u 0x12 v
    okRes (if bankPresent s (bankOfU u) then s1.sendImmU u v else s1)
  else refuse s rcOutOfRange

/-- SETPOINT of an analogue output (P09.xx.01, R92): within the range of the mode in effect. -/
def writeSetpoint (s : State) (u : Fin 16) (v : Int) : CmdRes :=
  if isAo (uModeL s u) && inRange (uModeL s u) v then
    let s1 := s.setPI 4 0x09 u 0x01 v
    okRes (if bankPresent s (bankOfU u) then s1.sendImmU u v else s1)
  else refuse s rcOutOfRange

/-- OUT_VALUE of a load switch (P0A.xx.01): READ_ONLY for a group's member (R191). -/
def writeOutL (s : State) (l : Fin 8) (v : Nat) : CmdRes :=
  if (lGroupL s l).isSome then refuse s rcReadOnly
  else if 1 < v then refuse s rcOutOfRange
  else
    let s1 := s.setP 1 0x0A l 0x01 v
    okRes (if bankPresent s (bankOfL l) then s1.sendImmL l v else s1)

/-- OUT_VALUE of a coppice group (P0B.gg.03): the present member banks are told. -/
def writeOutG (s : State) (g : Fin 4) (v : Nat) : CmdRes :=
  if 1 < v then refuse s rcOutOfRange else okRes ((s.setP 1 0x0B g 0x03 v).sendImmG g v)

/-- COUNTER of a fast input (P0C.xx.06, R220): a CFG cell carries the value. -/
def writeCounter (s : State) (f : Fin 8) (v : Word) : CmdRes :=
  okRes (if bankPresent s (bankOfF f) then s.sendDown (bankOfF f) (.counter (fIn f) v) else s)

/-- The attributes of access RW and WO. -/
def writeNow (s : State) (ep : Fin 8) (cls inst attr : Nat) (data : List Byte) : CmdRes :=
  let v := leNat data
  match cls, attr with
  | 0x04, 0x0C => ppsTodSeconds s (BitVec.ofNat 64 v)
  | 0x04, 0x0D => epochSet s (BitVec.ofNat 64 v)
  | 0x06, 0x12 => writeOutU s (finU inst) v
  | 0x09, 0x01 => writeSetpoint s (finU inst) (toSigned 32 v)
  | 0x08, 0x09 => syncAt s (finU inst) (ctOfBytes data)
  | 0x0A, 0x01 => writeOutL s (fin8 inst) v
  | 0x0B, 0x03 => writeOutG s (fin4 inst) v
  | 0x0C, 0x06 => writeCounter s (fin8 inst) (BitVec.ofNat 32 v)
  | 0x0C, 0x0F => capturePop s (fin8 inst) (BitVec.ofNat 16 v)
  | 0x0C, 0x18 => latchAt s (fin8 inst) (ctOfBytes data)
  | 0x0E, 0x0B => forcePointCmd s ep (leNat (data.take 4)) (BitVec.ofNat 32 (leNat (data.drop 4)))
  | 0x0E, 0x0C => releasePointCmd s ep v
  | 0x11, 0x06 => logPop s (BitVec.ofNat 16 v)
  | 0x12, 0x0A => wdtResetCount s (BitVec.ofNat 16 v)
  | 0x13, 0x08 => okRes (s.modEp (fin8 inst) (fun p => { p with mask := BitVec.ofNat 32 v }))
  | 0x13, 0x0A => okRes (s.clearUserIn (fin8 inst) (BitVec.ofNat 32 v))
  | 0x13, 0x12 => okRes (s.setP 4 0x13 inst 0x12 v)
  | 0x16, 0x06 => macFlushCmd s (BitVec.ofNat 8 v)
  | 0x18, 0x05 => pairReadmit s v
  | 0x19, 0x09 => arbPriority s data
  | 0x19, 0x0C => userXfer s ep data
  | _, _ => okRes (s.setBytes cls inst attr 0 data)

/-! ### Bits cleared by a one -/

/-- Clear bits of an attribute of the store. -/
def State.clearBits (s : State) (n cls inst attr mask : Nat) : State :=
  let v := BitVec.ofNat 32 (s.p n cls inst attr) &&& ~~~ (BitVec.ofNat 32 mask)
  s.setP n cls inst attr v.toNat

/-- DIAG of a channel that its bank holds: an OUT cell carries the ones (R628). -/
def State.sendDiag (s : State) (b : Fin 4) (cls inst mask : Nat) : State :=
  if bankPresent s b then s.sendDown b (.diag cls inst (BitVec.ofNat 16 mask)) else s

/-- DIAG of a coppice group (R208, R628): an OUT cell takes the ones to every member bank, where bit 7 releases the group-trip hold;
across banks that clear has a common launch instant of its own. The bits that the logic side decides itself clear at once
(assumption log 41), and so do all of a group without members. -/
def State.clearGroupDiag (s : State) (g : Fin 4) (mask : Nat) : State :=
  let m := BitVec.ofNat 16 mask
  if membersOf s g = 0 then s.clearBits 2 0x0B g 0x11 mask
  else
    let s1 := s.clearBits 2 0x0B g 0x11 (m &&& 0x330).toNat
    let sent := if isCross s g then setBit16 m 7 false else m
    let s2 := if sent = 0 then s1 else (groupBanks s g).foldl (fun (x : State) b => x.sendDiag b 0x0B g sent.toNat) s1
    if isCross s g && natBit mask 7 then s2.sendHold g (.trip false) none else s2

/-- DIAG of the switch (P16.00.15): the highest buffer level and the skipped numbers start anew; bit 3 releases every blocked
stream (R440). -/
def State.clearSwitchDiag (s : State) (mask : Nat) : State :=
  let s1 := (s.clearBits 1 0x16 0 0x15 mask).setP 2 0x16 0 0x12 (s.p 2 0x16 0 0x11)
  let free (x : StreamSt) : StreamSt := { x with lost := 0, blocked := x.blocked && !(natBit mask 3) }
  { s1 with sw := { s1.sw with streams := s1.sw.streams.map free } }

/-- DIAG of a port (P15.pp.1E): the cut-through maximum of R430 starts anew. -/
def State.clearPortDiag (s : State) (p : Fin 3) (mask : Nat) : State :=
  let s1 := s.clearBits 1 0x15 p 0x1E mask
  { s1 with sw := { s1.sw with ctMax := s1.sw.ctMax.set p 0 } }

/-- DIAG of the memory port (P19.00.16): bit 2 also clears MAX_WAIT. -/
def State.clearMspDiag (s : State) (mask : Nat) : State :=
  let s1 := s.clearBits 1 0x19 0 0x16 mask
  if natBit mask 2 then s1.setBytes 0x19 0 0x13 0 (List.replicate 20 0) else s1

/-- A write of a W1C attribute (R13); ones in reserved bits have no effect (R14). -/
def State.clearAttr (s : State) (cls inst : Nat) (r : AttrRow) (data : List Byte) : State :=
  let v := leNat data
  if v = 0 then s
  else match cls, r.attr with
    | 0x06, 0x19 => s.sendDiag (bankOfU (finU inst)) 0x06 inst v
    | 0x0A, 0x20 => s.sendDiag (bankOfL (fin8 inst)) 0x0A inst v
    | 0x0C, 0x1F => s.sendDiag (bankOfF (fin8 inst)) 0x0C inst v
    | 0x0B, 0x11 => s.clearGroupDiag (fin4 inst) v
    | 0x07, 0x0F =>
      (s.clearBits 1 0x07 inst 0x0F v).modU (finU inst) (fun k => { k with
        rot := { k.rot with diag := k.rot.diag &&& ~~~ (BitVec.ofNat 8 v) } })
    | 0x13, 0x07 => s.clearDb (fin8 inst) (BitVec.ofNat 32 v)
    | 0x15, 0x1E => s.clearPortDiag ⟨inst % 3, by omega⟩ v
    | 0x16, 0x15 => s.clearSwitchDiag v
    | 0x19, 0x16 => s.clearMspDiag v
    | _, _ => s.clearBits r.size cls inst r.attr v

/-! ### SET_PARAM and SET_BLOCK (R395) -/

/-- SET_PARAM, its checks in their order. -/
def setParamCmd (s : State) (ep : Fin 8) (i : Nat) (value : List Byte) : CmdRes :=
  let (cls, inst, attr) := indexParts i
  if value.length = 0 ∨ 64 < value.length then refuse s rcBadParam
  else if !mayWrite s ep i value then refuse s rcNotAuthority
  else match indexRow i with
    | none => refuse s rcBadParam
    | some r =>
      if !writable cls inst r then refuse s rcReadOnly
      else if 64 < r.size ∨ value.length ≠ r.size then refuse s rcBadParam
      else match r.access with
        | .rws => stageWrite s cls inst r 0 value
        | .w1c => okRes (s.clearAttr cls inst r value)
        | .rw => writeNow s ep cls inst attr value
        | .wo => writeNow s ep cls inst attr value
        | .ro => refuse s rcReadOnly

/-- SET_BLOCK, its checks in their order. -/
def setBlockCmd (s : State) (ep : Fin 8) (i off : Nat) (data : List Byte) : CmdRes :=
  let (cls, inst, _) := indexParts i
  if data.length = 0 ∨ 1000 < data.length then refuse s rcBadParam
  else if !mayWrite s ep i data then refuse s rcNotAuthority
  else match indexRow i with
    | none => refuse s rcBadParam
    | some r =>
      if indexSpan i then refuse s rcBadParam
      else if !writable cls inst r then refuse s rcReadOnly
      else if r.size ≤ 64 ∨ r.access ≠ .rws then refuse s rcBadParam
      else if r.size < off + data.length then refuse s rcOutOfRange
      else stageWrite s cls inst r off data

/-! ### The rows -/

/-- The opcodes of the four commands (R383). -/
def opGetParam : Nat := 0x0010
/-- GET_BLOCK. -/
def opGetBlock : Nat := 0x0012
/-- SET_BLOCK. -/
def opSetBlock : Nat := 0x0013

/-- R396: GET_PARAM. -/
def execGetParam (q : Req) (index : BitVec 32) (s : State) : Host.Outcome State Fault Refusal :=
  .next ((getParamCmd s index.toNat).finish q opGetParam)

/-- R395: SET_PARAM. -/
def execSetParam (q : Req) (index : BitVec 32) (value : List Byte) (s : State) : Host.Outcome State Fault Refusal :=
  .next ((setParamCmd s q.ep index.toNat value).finish q opSetParam)

/-- R396, R397: GET_BLOCK. -/
def execGetBlock (q : Req) (index off : BitVec 32) (len : BitVec 16) (s : State) : Host.Outcome State Fault Refusal :=
  .next ((getBlockCmd s index.toNat off.toNat len.toNat).finish q opGetBlock)

/-- R395: SET_BLOCK. -/
def execSetBlock (q : Req) (index off : BitVec 32) (data : List Byte) (s : State) : Host.Outcome State Fault Refusal :=
  .next ((setBlockCmd s q.ep index.toNat off.toNat data).finish q opSetBlock)

end Sys2Proof.Machine
end

