-- ==== Sys2Proof/Machine/TakeUp.lean ====
section
/-! DEFINITION. The execution queue: a command is taken up, its descriptor taken apart, and the command run (R362 to R366, R381,
R383, R472). -/

namespace Sys2Proof.Machine

/-! ### The descriptor (R362, R363, R381) -/

/-- What a single word stands for as a descriptor payload: COMMIT_CONFIG applies at once with no hash check, ABORT covers every
other command (R362). -/
def singlePayload (op : Nat) : List Byte :=
  if op = opCommit then List.replicate 20 0 else if op = opAbort then [0xFF, 0, 0, 0] else []

/-- The opcode and payload of an accepted command; no payload where its LENGTH runs past the buffer. -/
def commandOf (s : State) (major : Nat) (o : Outstanding) : Nat × Option (List Byte) :=
  if o.single then (o.opcode, some (singlePayload o.opcode))
  else if major = 1 then
    let n := leNat (bufBytes s o.opBuf 0 2)
    (o.opcode, if n ≤ 1020 then some (bufBytes s o.opBuf 4 n) else none)
  else
    let n := leNat (bufBytes s o.opBuf 4 2)
    (leNat (bufBytes s o.opBuf 0 2), if n ≤ 1016 then some (bufBytes s o.opBuf 8 n) else none)

/-- A field of a payload. -/
def payField (p : List Byte) (off n : Nat) : Nat := leNat ((p.drop off).take n)

/-- Whether the opcode table admits a payload's LENGTH, with the counts it carries (R383); `none` for an unknown opcode. -/
def lengthOk (op : Nat) (p : List Byte) : Option Bool :=
  let n := p.length
  let f := payField p
  match op with
  | 0x0001 => some (decide (n ≤ 64))
  | 0x0010 => some (n == 4)
  | 0x0011 => some (decide (1 ≤ f 4 2) && decide (f 4 2 ≤ 64) && n == 8 + f 4 2)
  | 0x0012 => some (n == 12)
  | 0x0013 => some (decide (1 ≤ f 8 2) && decide (f 8 2 ≤ 1000) && n == 12 + f 8 2)
  | 0x0020 => some (n == 20)
  | 0x0021 => some (n == 0)
  | 0x0030 => some (decide (1 ≤ f 0 1) && decide (f 0 1 ≤ 32) && n == 4 + 24 * f 0 1)
  | 0x0031 => some (n == 8)
  | 0x0040 => some (n == 8)
  | 0x0050 => some (if f 0 1 = 2 then decide (9 ≤ n) && decide (n ≤ 1016) else n == 8)
  | 0x0051 => some (n == 12)
  | 0x0060 => some (n == 8)
  | 0x0070 => some (n == 8)
  | 0x0071 => some (decide (1 ≤ f 4 2) && decide (f 4 2 ≤ 1008) && n == 8 + f 4 2)
  | 0x0072 => some (n == 0)
  | 0x0080 => some (if f 0 1 = 2 then n == 8 else n == 4)
  | 0x0081 => some (n == 8)
  | 0x00F0 => some (n == 4)
  | 0x00F1 => some (n == 4)
  | 0x00F2 => some (n == 0)
  | _ => none

/-- The opcodes of version 1.x (R381). -/
def version1Opcodes : List Nat :=
  [0x0001, 0x0010, 0x0011, 0x0012, 0x0013, 0x0020, 0x0021, 0x0040, 0x0060, 0x00F0, 0x00F1, 0x00F2]

/-- The opcodes of a node in LIMITED (R472). -/
def limitedOpcodes : List Nat := [0x0001, 0x0010, 0x0012, 0x0060, 0x00F0, 0x00F1, 0x00F2]

/-- Whether the endpoint's version, or for a master the node's state, admits an opcode (R365, R472). -/
def opcodeAdmitted (s : State) (ep : Fin 8) (major op : Nat) : Bool :=
  (major != 1 || version1Opcodes.contains op) && (ep == 0 || gclState s != 2 || limitedOpcodes.contains op)

/-! ### The commands with operands taken from a payload (R383) -/

/-- One entry of SCHEDULE_OUTPUT. -/
def schedReqOf (p : List Byte) : SchedReq :=
  { kind := payField p 0 1, target := payField p 1 1, action := payField p 2 1, policy := payField p 3 1,
    apply := ctOfBytes ((p.drop 4).take 9), value := toSigned 32 (payField p 16 4), width := payField p 20 4 }

/-- The entries of SCHEDULE_OUTPUT. -/
def schedReqs (p : List Byte) : List SchedReq :=
  (List.range (payField p 0 1)).map (fun k => schedReqOf ((p.drop (4 + 24 * k)).take 24))

/-- COMMIT_CONFIG. -/
def runCommit (s : State) (q : Req) (p : List Byte) : State :=
  (commitConfig s q.ep (ctOfBytes (p.take 9)) (BitVec.ofNat 64 (payField p 12 8))).finish q opCommit

/-- LOAD_RULES: END with the persist flag is a long command (R366). -/
def runLoadRules (s : State) (q : Req) (p : List Byte) : State :=
  let arg := payField p 4 4
  match payField p 0 1 with
  | 1 => (loadBegin s q.ep arg).finish q opLoadRules
  | 2 => (loadData s q.ep arg (p.drop 8)).finish q opLoadRules
  | 3 =>
    if natBit (payField p 1 1) 0 then
      match loadVerify s q.ep with
      | some r => r.finish q opLoadRules
      | none => (okRes (s.modGlade (fun g => { g with inactive := 2 }))).startLong q opLoadRules
    else (loadEnd s q.ep false true).finish q opLoadRules
  | _ => s.finish q opLoadRules rcBadParam []

/-- JOURNAL_READ starts (R366); its cursor moves at its end. -/
def startJournalRead (s : State) (q : Req) (p : List Byte) : State :=
  let r := journalRead s q.ep (payField p 0 1) (payField p 1 1) (BitVec.ofNat 32 (payField p 4 4))
  if r.1.code ≠ 0 then r.1.finish q opJournalRead
  else
    let s1 := r.1.startLong q opJournalRead
    { s1 with mbx := { s1.mbx with long := s1.mbx.long.map (fun j =>
      if j.ep == q.ep.val && j.tag == q.tag then { j with cursor := r.2 } else j) } }

/-- FW_UPDATE_END starts (R366); whether the signature verifies is the firmware's arithmetic, a free value here
(assumption log 31). -/
def startFwEnd (s : State) (q : Req) : State :=
  let (v, s1) := s.draw
  match fwVerify s1 q.ep (v % 2 == 1) with
  | .inl r => r.finish q opFwEnd
  | .inr _ => (okRes s1).startLong q opFwEnd

/-- CALIBRATE (R133). -/
def runCalibrate (s : State) (q : Req) (p : List Byte) : State :=
  let ch := payField p 1 1
  let pt := payField p 2 1
  if 15 < ch then s.finish q opCalibrate rcBadParam []
  else match payField p 0 1 with
    | 1 => (guardWrite s q (rotateNow s (finU ch))).finish q opCalibrate
    | 2 =>
      if pt = 1 ∨ pt = 2 then
        (guardWrite s q (trimPoint s (finU ch) (pt == 2) (toSigned 32 (payField p 4 4)))).finish q opCalibrate
      else s.finish q opCalibrate rcBadParam []
    | 3 => (guardWrite s q (trimApply s (finU ch))).finish q opCalibrate
    | _ => s.finish q opCalibrate rcBadParam []

/-- REHEARSE_REACTION starts (R366). -/
def startRehearse (s : State) (q : Req) (p : List Byte) : State :=
  let t := payField p 0 1
  let a := payField p 1 1
  if 1 < t ∨ 1 < a then s.finish q opRehearse rcBadParam []
  else
    let r := rehearse s q.ep (t == 1) (a == 1) (payField p 2 1) (payField p 4 2) (payField p 6 2)
    if r.code ≠ 0 then r.finish q opRehearse else r.startLong q opRehearse

/-- Run a command whose descriptor the checks have passed. -/
def runCommand (s : State) (q : Req) (op : Nat) (p : List Byte) : State :=
  let f := payField p
  let index := f 0 4
  match op with
  | 0x0001 => (ping s p).finish q opPing
  | 0x0010 => (getParamCmd s index).finish q opGetParam
  | 0x0011 => (setParamCmd s q.ep index (p.drop 8)).finish q opSetParam
  | 0x0012 => (getBlockCmd s index (f 4 4) (f 8 2)).finish q opGetBlock
  | 0x0013 => (setBlockCmd s q.ep index (f 4 4) (p.drop 12)).finish q opSetBlock
  | 0x0020 => runCommit s q p
  | 0x0021 => (discardConfig s q.ep).finish q opDiscard
  | 0x0030 => (scheduleOutput s q.ep (schedReqs p)).finish q opSchedule
  | 0x0031 => cancelSchedule s q (f 0 1) (natBit (f 1 1) 0) (f 2 1) (f 3 1) (BitVec.ofNat 16 (f 4 2))
  | 0x0040 => (clearSafe s.collectAll q.ep (f 0 1) (f 1 1) (f 2 2) (BitVec.ofNat 16 (f 4 2))).finish q opClearSafe
  | 0x0050 => runLoadRules s q p
  | 0x0051 => (swapRules s q.ep (ctOfBytes (p.take 9))).finish q opSwapRules
  | 0x0060 => startJournalRead s q p
  | 0x0070 => (fwBegin s q.ep (f 0 4)).finish q opFwBegin
  | 0x0071 => startFwData s q (f 0 4) (p.drop 8)
  | 0x0072 => startFwEnd s q
  | 0x0080 => runCalibrate s q p
  | 0x0081 => startRehearse s q p
  | 0x00F0 => (abortCmd s q (f 0 1)).finish q opAbort
  | 0x00F1 => s.negotiated q (f 0 1) (f 1 1)
  | 0x00F2 => (liveness s q.ep q.tag).finish q opLiveness
  | _ => s.finish q op rcBadParam []

/-- Check a command's descriptor and run it (R365). -/
def State.perform (s : State) (q : Req) (o : Outstanding) : State :=
  let major := if q.ep = 0 then (s.mbx.eps[q.ep]).major else 2
  let (op, payload) := commandOf s major o
  match payload with
  | none => s.finish q op rcBadParam []
  | some p =>
    match lengthOk op p with
    | none => s.finish q op rcBadParam []
    | some ok =>
      if !ok then s.finish q op rcBadParam []
      else if !opcodeAdmitted s q.ep major op then s.finish q op rcVersion []
      else runCommand s q op p

/-- The highest sequence number that a pair has had taken up (R491). -/
def State.noteHighest (s : State) (ep : Fin 8) (seq : Word) : State :=
  if ep = 0 then s
  else s.modPair (masterFin (ep.val - 1)) (fun p => { p with
    highest := match p.highest with
      | some h => if 0 < (seq - h).toInt then some seq else some h
      | none => some seq })

/-- R365: the firmware takes up the next accepted command. Authority is judged against the epoch its frame carried (R464). -/
def State.takeCommand (s : State) : State :=
  match s.mbx.queue with
  | [] => s
  | (e, tag) :: rest =>
    let ep : Fin 8 := fin8 e
    let s1 : State := { s with mbx := { s.mbx with queue := rest } }
    match findTag (s.mbx.eps[ep]) tag with
    | none => s1
    | some o =>
      let q : Req := { ep := ep, tag := tag, seq := o.seq }
      State.underEpoch (((s1.noteHighest ep o.seq).underEpoch ep o.epoch).perform q o) 0 0

/-- R365: COMMAND_TAKE_UP; the swaps and the epoch of the cycle come first (R486, R508). -/
def execCommandTakeUp (s : State) : Host.Outcome State Fault Refusal := .next s.pairSwaps.adoptDue.takeCommand

end Sys2Proof.Machine
end

