-- ==== Sys2Proof/Machine/Dispatch.lean ====
section
/-! DEFINITION. One arm per command: the direct call of its meaning. -/

namespace Sys2Proof.Machine

/-- The effect of a command on everything but the queue. -/
def exec (i : Instr) (s : State) : Host.Outcome State Fault Refusal :=
  match i with
  | .linkStart b => Sys2Proof.Machine.execLinkStart b s
  | .linkStartSyncReceived b a => Sys2Proof.Machine.execLinkStartSyncReceived b a s
  | .syncCellReceived b hit flight => Sys2Proof.Machine.execSyncCellReceived b hit flight s
  | .statusCellReceived b hit vf flight => Sys2Proof.Machine.execStatusCellReceived b hit vf flight s
  | .idleCellReceived b up hit => Sys2Proof.Machine.execIdleCellReceived b up hit s
  | .sampleCellReceived b hit => Sys2Proof.Machine.execSampleCellReceived b hit s
  | .edgeCellReceived b hit => Sys2Proof.Machine.execEdgeCellReceived b hit s
  | .countCellReceived b hit => Sys2Proof.Machine.execCountCellReceived b hit s
  | .lswCellReceived b hit => Sys2Proof.Machine.execLswCellReceived b hit s
  | .faultCellReceived b hit => Sys2Proof.Machine.execFaultCellReceived b hit s
  | .calCellReceived b up hit => Sys2Proof.Machine.execCalCellReceived b up hit s
  | .cfgCellReceived b hit => Sys2Proof.Machine.execCfgCellReceived b hit s
  | .shareReportReceived b hit => Sys2Proof.Machine.execShareReportReceived b hit s
  | .outCellReceived b hit => Sys2Proof.Machine.execOutCellReceived b hit s
  | .forceCellReceived b hit => Sys2Proof.Machine.execForceCellReceived b hit s
  | .safeCellReceived b hit => Sys2Proof.Machine.execSafeCellReceived b hit s
  | .schedCellReceived b hit => Sys2Proof.Machine.execSchedCellReceived b hit s
  | .cancelMarkerReceived b hit => Sys2Proof.Machine.execCancelMarkerReceived b hit s
  | .outcomeReportReceived b hit => Sys2Proof.Machine.execOutcomeReportReceived b hit s
  | .cellResendTimeout b up => Sys2Proof.Machine.execCellResendTimeout b up s
  | .linkSilenceTimeout b => Sys2Proof.Machine.execLinkSilenceTimeout b s
  | .logicSilenceTimeout b => Sys2Proof.Machine.execLogicSilenceTimeout b s
  | .bankSyncGap b => Sys2Proof.Machine.execBankSyncGap b s
  | .gptpSyncReceived p rx gm demand => Sys2Proof.Machine.execGptpSyncReceived p rx gm demand s
  | .syncLossTimeout => Sys2Proof.Machine.execSyncLossTimeout s
  | .bestMasterChange c => Sys2Proof.Machine.execBestMasterChange c s
  | .announceReceiptTimeout p c => Sys2Proof.Machine.execAnnounceReceiptTimeout p c s
  | .holdoverEvaluation => Sys2Proof.Machine.execHoldoverEvaluation s
  | .ppsInEdge falling t demand => Sys2Proof.Machine.execPpsInEdge falling t demand s
  | .ppsLostTimeout => Sys2Proof.Machine.execPpsLostTimeout s
  | .ppsOutRise => Sys2Proof.Machine.execPpsOutRise s
  | .ppsOutFall => Sys2Proof.Machine.execPpsOutFall s
  | .syncIntervalBoundary => Sys2Proof.Machine.execSyncIntervalBoundary s
  | .epochSet q v => Sys2Proof.Machine.execEpochSet q v s
  | .ppsTodSeconds q v => Sys2Proof.Machine.execPpsTodSeconds q v s
  | .latchedRegisterRead hsl addr => Sys2Proof.Machine.execLatchedRegisterRead hsl addr s
  | .mclkRephaseEnd b => Sys2Proof.Machine.execMclkRephaseEnd b s
  | .diComparatorTransition u level t => Sys2Proof.Machine.execDiComparatorTransition u level t s
  | .debounceExpiry c => Sys2Proof.Machine.execDebounceExpiry c s
  | .wireBreakWindowExpiry c below cur => Sys2Proof.Machine.execWireBreakWindowExpiry c below cur s
  | .openTerminalTest u reading => Sys2Proof.Machine.execOpenTerminalTest u reading s
  | .wideTapWord b conv m => Sys2Proof.Machine.execWideTapWord b conv m s
  | .protectOff l => Sys2Proof.Machine.execProtectOff l s
  | .protectOffReclose u clean => Sys2Proof.Machine.execProtectOffReclose u clean s
  | .overRangePersist u => Sys2Proof.Machine.execOverRangePersist u s
  | .doScTimeExpiry l => Sys2Proof.Machine.execDoScTimeExpiry l s
  | .doRestart u clean => Sys2Proof.Machine.execDoRestart u clean s
  | .doOpenLoad u present => Sys2Proof.Machine.execDoOpenLoad u present s
  | .doShortToSupply u present => Sys2Proof.Machine.execDoShortToSupply u present s
  | .frontEndSettled u => Sys2Proof.Machine.execFrontEndSettled u s
  | .mainSampleDue u m => Sys2Proof.Machine.execMainSampleDue u m s
  | .rotationSlotStart b => Sys2Proof.Machine.execRotationSlotStart b s
  | .reliefCalEnd b => Sys2Proof.Machine.execReliefCalEnd b s
  | .rotationPhaseEnd b => Sys2Proof.Machine.execRotationPhaseEnd b s
  | .chCheckEnd b => Sys2Proof.Machine.execChCheckEnd b s
  | .overlapEnd b => Sys2Proof.Machine.execOverlapEnd b s
  | .rotationCutShort b => Sys2Proof.Machine.execRotationCutShort b s
  | .slotEndCrossCheck b => Sys2Proof.Machine.execSlotEndCrossCheck b s
  | .heavyClampStart u => Sys2Proof.Machine.execHeavyClampStart u s
  | .heavyClampEnd u => Sys2Proof.Machine.execHeavyClampEnd u s
  | .dieTemperatureRead b t => Sys2Proof.Machine.execDieTemperatureRead b t s
  | .rotateNow q u => Sys2Proof.Machine.execRotateNow q u s
  | .trimPoint q u second measured => Sys2Proof.Machine.execTrimPoint q u second measured s
  | .trimApply q u => Sys2Proof.Machine.execTrimApply q u s
  | .calRecordWriteDone ok => Sys2Proof.Machine.execCalRecordWriteDone ok s
  | .syncInEdge t => Sys2Proof.Machine.execSyncInEdge t s
  | .syncAt q u t => Sys2Proof.Machine.execSyncAt q u t s
  | .decimatorSyncInstant b => Sys2Proof.Machine.execDecimatorSyncInstant b s
  | .filterParityError u => Sys2Proof.Machine.execFilterParityError u s
  | .powerStageEvaluation l m => Sys2Proof.Machine.execPowerStageEvaluation l m s
  | .limitTimeExpiry l => Sys2Proof.Machine.execLimitTimeExpiry l s
  | .retryPeriodExpiry l => Sys2Proof.Machine.execRetryPeriodExpiry l s
  | .thermalShutdown l => Sys2Proof.Machine.execThermalShutdown l s
  | .thermalRestart l => Sys2Proof.Machine.execThermalRestart l s
  | .clampIntervalStart l => Sys2Proof.Machine.execClampIntervalStart l s
  | .clampIntervalEnd l => Sys2Proof.Machine.execClampIntervalEnd l s
  | .clampUnlock l => Sys2Proof.Machine.execClampUnlock l s
  | .lswOpenLoad o present => Sys2Proof.Machine.execLswOpenLoad o present s
  | .lswShortToSupply l present => Sys2Proof.Machine.execLswShortToSupply l present s
  | .lswReverseCurrent l present => Sys2Proof.Machine.execLswReverseCurrent l present s
  | .powerDieExchangeLost b => Sys2Proof.Machine.execPowerDieExchangeLost b s
  | .groupLaunchInstant b => Sys2Proof.Machine.execGroupLaunchInstant b s
  | .vfSpreadCheck g => Sys2Proof.Machine.execVfSpreadCheck g s
  | .balanceUpdate b g => Sys2Proof.Machine.execBalanceUpdate b g s
  | .balanceLost g => Sys2Proof.Machine.execBalanceLost g s
  | .memberExclusion l => Sys2Proof.Machine.execMemberExclusion l s
  | .groupTrip b g => Sys2Proof.Machine.execGroupTrip b g s
  | .groupOverloadEnd g => Sys2Proof.Machine.execGroupOverloadEnd g s
  | .groupThermal g restart => Sys2Proof.Machine.execGroupThermal g restart s
  | .fastInputEdge f level t => Sys2Proof.Machine.execFastInputEdge f level t s
  | .counterWrite b hit => Sys2Proof.Machine.execCounterWrite b hit s
  | .capturePop q f seq => Sys2Proof.Machine.execCapturePop q f seq s
  | .frequencyGateEnd f => Sys2Proof.Machine.execFrequencyGateEnd f s
  | .stopTimeout f => Sys2Proof.Machine.execStopTimeout f s
  | .latchTrigger f t => Sys2Proof.Machine.execLatchTrigger f t s
  | .latchAt q f t => Sys2Proof.Machine.execLatchAt q f t s
  | .namedLatchInstant f => Sys2Proof.Machine.execNamedLatchInstant f s
  | .scheduleOutput q es => Sys2Proof.Machine.execScheduleOutput q es s
  | .cancelSchedule q selector release kind target what => Sys2Proof.Machine.execCancelSchedule q selector release kind target what s
  | .scheduleApplyInstant b => Sys2Proof.Machine.execScheduleApplyInstant b s
  | .pulseRelease b => Sys2Proof.Machine.execPulseRelease b s
  | .heldEntryResume b => Sys2Proof.Machine.execHeldEntryResume b s
  | .holdLimitExpiry b => Sys2Proof.Machine.execHoldLimitExpiry b s
  | .publicationInstant g => Sys2Proof.Machine.execPublicationInstant g s
  | .eventGroupPublish g => Sys2Proof.Machine.execEventGroupPublish g s
  | .heartbeatExpiry g => Sys2Proof.Machine.execHeartbeatExpiry g s
  | .pubFrameReceived => Sys2Proof.Machine.execPubFrameReceived s
  | .staleCheck => Sys2Proof.Machine.execStaleCheck s
  | .forcePoint q handle value => Sys2Proof.Machine.execForcePoint q handle value s
  | .releasePoint q handle => Sys2Proof.Machine.execReleasePoint q handle s
  | .fastPass => Sys2Proof.Machine.execFastPass s
  | .mainPass overran => Sys2Proof.Machine.execMainPass overran s
  | .forceRepeat => Sys2Proof.Machine.execForceRepeat s
  | .loadRulesBegin q len => Sys2Proof.Machine.execLoadRulesBegin q len s
  | .loadRulesData q off data => Sys2Proof.Machine.execLoadRulesData q off data s
  | .loadRulesEnd q persist norOk => Sys2Proof.Machine.execLoadRulesEnd q persist norOk s
  | .swapRules q at_ => Sys2Proof.Machine.execSwapRules q at_ s
  | .ruleSwapExecute => Sys2Proof.Machine.execRuleSwapExecute s
  | .faultCollect => Sys2Proof.Machine.execFaultCollect s
  | .faultWindowExpiry => Sys2Proof.Machine.execFaultWindowExpiry s
  | .safeRefresh => Sys2Proof.Machine.execSafeRefresh s
  | .selfProtectionCheck bad => Sys2Proof.Machine.execSelfProtectionCheck bad s
  | .safeInAssertion => Sys2Proof.Machine.execSafeInAssertion s
  | .clearSafe q scope kind index key => Sys2Proof.Machine.execClearSafe q scope kind index key s
  | .clearAutonomousSend b => Sys2Proof.Machine.execClearAutonomousSend b s
  | .liveness q => Sys2Proof.Machine.execLiveness q s
  | .livenessTimeout => Sys2Proof.Machine.execLivenessTimeout s
  | .wdtEnable priv => Sys2Proof.Machine.execWdtEnable priv s
  | .wdtService priv v => Sys2Proof.Machine.execWdtService priv v s
  | .wdtPeriodWrite priv field v => Sys2Proof.Machine.execWdtPeriodWrite priv field v s
  | .wdtIntervalEnd => Sys2Proof.Machine.execWdtIntervalEnd s
  | .clockMonitorWindow edges gap => Sys2Proof.Machine.execClockMonitorWindow edges gap s
  | .heartwoodWrite => Sys2Proof.Machine.execHeartwoodWrite s
  | .wdtResetCount q v => Sys2Proof.Machine.execWdtResetCount q v s
  | .logPop q seq => Sys2Proof.Machine.execLogPop q seq s
  | .rehearseReaction q staged all kind ident index => Sys2Proof.Machine.execRehearseReaction q staged all kind ident index s
  | .hslFrameStart busy => Sys2Proof.Machine.execHslFrameStart busy s
  | .hslFrameEnd bytes => Sys2Proof.Machine.execHslFrameEnd bytes s
  | .nop => Sys2Proof.Machine.execNop s
  | .readReg addr count => Sys2Proof.Machine.execReadReg addr count s
  | .writeReg addr data => Sys2Proof.Machine.execWriteReg addr data s
  | .readBuf buf off len => Sys2Proof.Machine.execReadBuf buf off len s
  | .writeBuf buf off data => Sys2Proof.Machine.execWriteBuf buf off data s
  | .word w => Sys2Proof.Machine.execWord w s
  | .doorbell clear ring => Sys2Proof.Machine.execDoorbell clear ring s
  | .ident => Sys2Proof.Machine.execIdent s
  | .repeatReply => Sys2Proof.Machine.execRepeatReply s
  | .frameTimeout first => Sys2Proof.Machine.execFrameTimeout first s
  | .hostTimeout => Sys2Proof.Machine.execHostTimeout s
  | .commandTakeUp => Sys2Proof.Machine.execCommandTakeUp s
  | .longCommandComplete ep tag ok => Sys2Proof.Machine.execLongCommandComplete ep tag ok s
  | .ping q data => Sys2Proof.Machine.execPing q data s
  | .getParam q index => Sys2Proof.Machine.execGetParam q index s
  | .setParam q index value => Sys2Proof.Machine.execSetParam q index value s
  | .getBlock q index off len => Sys2Proof.Machine.execGetBlock q index off len s
  | .setBlock q index off data => Sys2Proof.Machine.execSetBlock q index off data s
  | .commitConfig q apply hash => Sys2Proof.Machine.execCommitConfig q apply hash s
  | .discardConfig q => Sys2Proof.Machine.execDiscardConfig q s
  | .journalRead q mode max start => Sys2Proof.Machine.execJournalRead q mode max start s
  | .fwUpdateBegin q len => Sys2Proof.Machine.execFwUpdateBegin q len s
  | .fwUpdateData q off data => Sys2Proof.Machine.execFwUpdateData q off data s
  | .fwUpdateEnd q sigOk norOk => Sys2Proof.Machine.execFwUpdateEnd q sigOk norOk s
  | .abort q tag => Sys2Proof.Machine.execAbort q tag s
  | .abortDone ep => Sys2Proof.Machine.execAbortDone ep s
  | .negotiate q major minor => Sys2Proof.Machine.execNegotiate q major minor s
  | .mbxAckPop tag => Sys2Proof.Machine.execMbxAckPop tag s
  | .mbxClaim => Sys2Proof.Machine.execMbxClaim s
  | .mbxRelease buf => Sys2Proof.Machine.execMbxRelease buf s
  | .mbxH2dClear ep mask => Sys2Proof.Machine.execMbxH2dClear ep mask s
  | .registerWrite addr v => Sys2Proof.Machine.execRegisterWrite addr v s
  | .stagedHashReady => Sys2Proof.Machine.execStagedHashReady s
  | .commitApply => Sys2Proof.Machine.execCommitApply s
  | .bankShareApply b => Sys2Proof.Machine.execBankShareApply b s
  | .commitJournal => Sys2Proof.Machine.execCommitJournal s
  | .persistDone ok => Sys2Proof.Machine.execPersistDone ok s
  | .portLinkDown p => Sys2Proof.Machine.execPortLinkDown p s
  | .portLinkUp p speed => Sys2Proof.Machine.execPortLinkUp p speed s
  | .frameReceived p f => Sys2Proof.Machine.execFrameReceived p f s
  | .gateIntervalBoundary p => Sys2Proof.Machine.execGateIntervalBoundary p s
  | .gateListChange p => Sys2Proof.Machine.execGateListChange p s
  | .macAgeing => Sys2Proof.Machine.execMacAgeing s
  | .macFlush q mask => Sys2Proof.Machine.execMacFlush q mask s
  | .latentTestPeriod n => Sys2Proof.Machine.execLatentTestPeriod n s
  | .recoveryResetTimeout n => Sys2Proof.Machine.execRecoveryResetTimeout n s
  | .tableEccRewrite table n => Sys2Proof.Machine.execTableEccRewrite table n s
  | .pdelayReq p d => Sys2Proof.Machine.execPdelayReq p d s
  | .ringTestInterval => Sys2Proof.Machine.execRingTestInterval s
  | .topologyFrameReceived => Sys2Proof.Machine.execTopologyFrameReceived s
  | .gclFrameReceived => Sys2Proof.Machine.execGclFrameReceived s
  | .helloReceived => Sys2Proof.Machine.execHelloReceived s
  | .helloSend => Sys2Proof.Machine.execHelloSend s
  | .nodeTimeout n => Sys2Proof.Machine.execNodeTimeout n s
  | .duplicateTimeout => Sys2Proof.Machine.execDuplicateTimeout s
  | .gclNegotiate => Sys2Proof.Machine.execGclNegotiate s
  | .cmdFrame => Sys2Proof.Machine.execCmdFrame s
  | .notify ep => Sys2Proof.Machine.execNotify ep s
  | .notifyRepeat ep => Sys2Proof.Machine.execNotifyRepeat ep s
  | .schedFrame => Sys2Proof.Machine.execSchedFrame s
  | .syncRequest => Sys2Proof.Machine.execSyncRequest s
  | .journalFrameSend => Sys2Proof.Machine.execJournalFrameSend s
  | .arbEpoch => Sys2Proof.Machine.execArbEpoch s
  | .epochEffective => Sys2Proof.Machine.execEpochEffective s
  | .arbSwap => Sys2Proof.Machine.execArbSwap s
  | .arbQuery => Sys2Proof.Machine.execArbQuery s
  | .arbReport => Sys2Proof.Machine.execArbReport s
  | .pairWaitExpiry m => Sys2Proof.Machine.execPairWaitExpiry m s
  | .takeover m => Sys2Proof.Machine.execTakeover m s
  | .queryRepeat m => Sys2Proof.Machine.execQueryRepeat m s
  | .arbTimeout m => Sys2Proof.Machine.execArbTimeout m s
  | .pairReadmit q m => Sys2Proof.Machine.execPairReadmit q m s
  | .rangerListenTimeout => Sys2Proof.Machine.execRangerListenTimeout s
  | .rangerEpochRepeat => Sys2Proof.Machine.execRangerEpochRepeat s
  | .pairSwapInstant m => Sys2Proof.Machine.execPairSwapInstant m s
  | .ringSwapInstant => Sys2Proof.Machine.execRingSwapInstant s
  | .ringCopyMissing => Sys2Proof.Machine.execRingCopyMissing s
  | .mspEntryComplete data => Sys2Proof.Machine.execMspEntryComplete data s
  | .xipFill addr => Sys2Proof.Machine.execXipFill addr s
  | .xipWriteGather priv addr data => Sys2Proof.Machine.execXipWriteGather priv addr data s
  | .xipGatherTimeout => Sys2Proof.Machine.execXipGatherTimeout s
  | .xipFlush priv => Sys2Proof.Machine.execXipFlush priv s
  | .xipErase priv v => Sys2Proof.Machine.execXipErase priv v s
  | .norStatusPoll busy => Sys2Proof.Machine.execNorStatusPoll busy s
  | .userXfer q v => Sys2Proof.Machine.execUserXfer q v s
  | .continueTimeout => Sys2Proof.Machine.execContinueTimeout s
  | .arbPriorityWrite q v => Sys2Proof.Machine.execArbPriorityWrite q v s
  | .journalRecord => Sys2Proof.Machine.execJournalRecord s
  | .journalFlush => Sys2Proof.Machine.execJournalFlush s
  | .nandOperationFail block erase => Sys2Proof.Machine.execNandOperationFail block erase s
  | .scrub block => Sys2Proof.Machine.execScrub block s
  | .patrolRead words => Sys2Proof.Machine.execPatrolRead words s
  | .journalMount => Sys2Proof.Machine.execJournalMount s
  | .powerFailDetection rails => Sys2Proof.Machine.execPowerFailDetection rails s
  | .powerFailCommitEnd => Sys2Proof.Machine.execPowerFailCommitEnd s
  | .epochSectorRecord => Sys2Proof.Machine.execEpochSectorRecord s
  | .logicReset => Sys2Proof.Machine.execLogicReset s
  | .resetNEdge => Sys2Proof.Machine.execResetNEdge s
  | .supResetKey priv key => Sys2Proof.Machine.execSupResetKey priv key s
  | .supplyGood rail => Sys2Proof.Machine.execSupplyGood rail s
  | .bootRomStart r => Sys2Proof.Machine.execBootRomStart r s
  | .bootFailureRelease => Sys2Proof.Machine.execBootFailureRelease s
  | .firmwareStart => Sys2Proof.Machine.execFirmwareStart s
  | .configImageLoad => Sys2Proof.Machine.execConfigImageLoad s
  | .firebreakArm => Sys2Proof.Machine.execFirebreakArm s
  | .endpointsOpen => Sys2Proof.Machine.execEndpointsOpen s
  | .bankStart b => Sys2Proof.Machine.execBankStart b s
  | .bankArrivalInstant b => Sys2Proof.Machine.execBankArrivalInstant b s
  | .vfLoss b => Sys2Proof.Machine.execVfLoss b s
  | .vfOutOfRange b => Sys2Proof.Machine.execVfOutOfRange b s
  | .supplyMeasurement m => Sys2Proof.Machine.execSupplyMeasurement m s
  | .holdReadyChange ready => Sys2Proof.Machine.execHoldReadyChange ready s
  | .fieldDieOvertemp b t => Sys2Proof.Machine.execFieldDieOvertemp b t s
  | .logicDieOvertemp t => Sys2Proof.Machine.execLogicDieOvertemp t s
  | .safeInRelease => Sys2Proof.Machine.execSafeInRelease s
  | .resetNRise => Sys2Proof.Machine.execResetNRise s
  | .rangerStandDownTimeout => Sys2Proof.Machine.execRangerStandDownTimeout s
  | .powerDieExchangeResumed b => Sys2Proof.Machine.execPowerDieExchangeResumed b s
  | .vfRangeRestored b => Sys2Proof.Machine.execVfRangeRestored b s
  | .vholdCut => Sys2Proof.Machine.execVholdCut s
  | .announceInterval p => Sys2Proof.Machine.execAnnounceInterval p s

end Sys2Proof.Machine
end

