-- ==== Sys2Proof/Machine/Tick.lean ====
section
/-! DEFINITION. One cycle of the time base: what happens while no command waits (assumption log 1). -/

namespace Sys2Proof.Machine

/-- What one 1 GHz cycle adds: 1 ns plus TB_RATE, in units of 2^-32 ns (R42). -/
def tickAmount (s : State) : BitVec 96 := BitVec.ofInt 96 (2 ^ 32 + s.tb.rate)

/-- One cycle: the counter and the counter that no step moves advance, the copies of the banks that have their supply run
on with them, and each port ends the transmission that is over. -/
def tick (s : State) : State :=
  let a := tickAmount s
  let s1 := { s with tb := { s.tb with counter := s.tb.counter + a, mono := s.tb.mono + a },
                     banks := s.banks.map (fun k => if k.powered then { k with copy := k.copy + a } else k) }
  allPorts.foldl (fun t p => t.endTx p) s1

end Sys2Proof.Machine
end

