-- ==== Sys2Proof/Safety.lean ====
section
/-! DEFINITION. What a safe run of the block is: it never stops, every byte store of the state keeps its canonical form, and
every bounded queue and window keeps its bound. -/

namespace Sys2Proof.Machine

/-- An outcome that goes on. -/
def Goes (o : Host.Outcome State Fault Refusal) : Prop := ∃ t, o = .next t

/-- The byte stores of the block, each canonical for what its unlisted bytes read as: the parameters in effect and staged, the
configuration of the banks, the message RAM, the NOR and its gather buffer, the points and groups of Canopy, the two rule banks of
Glade, and the content of a commit that waits. -/
structure StoresWf (dict staged bankCfg ram nor gather points groups rules0 rules1 : Store) (content : Option Store) :
    Prop where
  dict : cellsWf parReset dict = true
  staged : cellsWf parReset staged = true
  bankCfg : cellsWf bankReset' bankCfg = true
  ram : cellsWf ramReset ram = true
  nor : cellsWf norByte nor = true
  gather : cellsWf norByte gather = true
  points : cellsWf zeroByte points = true
  groups : cellsWf zeroByte groups = true
  rules0 : cellsWf zeroByte rules0 = true
  rules1 : cellsWf zeroByte rules1 = true
  content : ∀ c, content = some c → cellsWf parReset c = true

/-- What the spec bounds stays within its bound: FAULT_LOG at 64 records (R307), the records that wait for a JOURNAL frame at 64
(R482), the journal's RAM at 512 (R536), each replay window at 64 (R372), each capture queue at 64 (R223), and the unacknowledged
ordinary cells of each direction of a bank link at 32 (R26). -/
structure Bounds (log jq : List FaultRec) (ram : List JRec) (eps : Vector Endpoint 8) (caps : Vector (List Capture) 8)
    (down : Vector (LinkDir DownCell SyncCell) 4) (up : Vector (LinkDir UpCell StatusCell) 4) : Prop where
  log : log.length ≤ 64
  jq : jq.length ≤ 64
  ram : ram.length ≤ 512
  eps : ∀ e : Fin 8, (eps[e]).window.length ≤ 64
  caps : ∀ f : Fin 8, (caps[f]).length ≤ 64
  down : ∀ b : Fin 4, (down[b]).unacked.length ≤ 32
  up : ∀ b : Fin 4, (up[b]).unacked.length ≤ 32

/-- The invariant of the block: canonical stores, and every bound kept. -/
def State.Sound (s : State) : Prop :=
  StoresWf s.dict s.staged s.bankCfg s.mbx.ram s.msp.nor s.msp.gather s.canopy.points s.canopy.groups s.glade.bank0
      s.glade.bank1 (s.commit.map Commit.content) ∧
    Bounds s.firebreak.log s.gcl.journalQ s.jrn.ram s.mbx.eps s.captures s.down s.up

/-! ### The parts of the state, for the frame of a command -/

/-- Glade without the bytes of its rule banks. -/
@[reducible] def gladeRest (g : Glade) : Glade := { g with bank0 := [], bank1 := [] }

/-- The fault collector and Firebreak without the events on their way. -/
@[reducible] def firebreakRest (f : Firebreak) : Firebreak := { f with raises := [], windows := [] }

/-- The memory serial port without the bytes of the NOR. -/
@[reducible] def mspRest (m : Msp) : Msp := { m with nor := [] }

/-- The journal without the events on their way. -/
@[reducible] def journalRest (j : Journal) : Journal := { j with incoming := [] }

/-- A part of the state that a command may change or leave alone. -/
inductive Part where
  /-- every attribute of one class of the parameters in effect -/
  | params (cls : Fin 28)
  /-- the staged set -/
  | staged
  /-- the configuration each bank holds -/
  | bankCfg
  /-- the time base -/
  | tb
  /-- the banks, their queues and their end of the links -/
  | banks
  /-- the lines to the banks -/
  | down
  /-- the lines from the banks -/
  | up
  /-- the logic-side end of the bank links -/
  | links
  /-- the universal channels -/
  | u
  /-- the load switches -/
  | l
  /-- the fast inputs -/
  | f
  /-- the capture queues -/
  | captures
  /-- the points' scalings in effect before the newest -/
  | scales
  /-- what the logic side remembers of the coppice groups -/
  | coppice
  /-- the schedule entries and their numbers -/
  | sched
  /-- the points, groups and forces of Canopy -/
  | canopy
  /-- Glade, its rule banks apart -/
  | glade
  /-- the bytes of the rule banks -/
  | rules
  /-- the fault events on their way, with the windows of R625 -/
  | raises
  /-- the fault log, the active instances and the safe-state records -/
  | firebreak
  /-- the watchdogs -/
  | wdt
  /-- Heartwood -/
  | heartwood
  /-- the host serial link -/
  | hsl
  /-- the endpoints with their doorbells and windows -/
  | eps
  /-- the bytes of the message RAM -/
  | ram
  /-- the states of the message buffers -/
  | bufs
  /-- the execution queue and the long commands -/
  | mbxq
  /-- the commits that wait -/
  | commit
  /-- the ports and their queues -/
  | ports
  /-- the switch tables and streams -/
  | sw
  /-- the frames for the logic die -/
  | delivered
  /-- Grathiqua Cell Link -/
  | gcl
  /-- the pairs and the Ranger -/
  | red
  /-- the bytes of the NOR -/
  | nor
  /-- the memory serial port, the NOR apart -/
  | msp
  /-- the events on their way to the journal -/
  | incoming
  /-- the journal and its NAND -/
  | jrn
  /-- the supplies, the resets and the start -/
  | sup
  /-- the model's own count of free values -/
  | draws
  deriving DecidableEq, Repr

/-- A part is the same in two states. -/
def Part.same (q : Part) (s t : State) : Prop :=
  match q with
  | .params cls => ∀ inst attr off, inst < 256 → attr < 256 → off < 2 ^ 20 →
      t.pBytes 1 cls inst attr off = s.pBytes 1 cls inst attr off
  | .staged => t.staged = s.staged
  | .bankCfg => t.bankCfg = s.bankCfg
  | .tb => t.tb = s.tb
  | .banks => t.banks = s.banks
  | .down => t.down = s.down
  | .up => t.up = s.up
  | .links => t.links = s.links
  | .u => t.u = s.u
  | .l => t.l = s.l
  | .f => t.f = s.f
  | .captures => t.captures = s.captures
  | .scales => t.scales = s.scales
  | .coppice => t.coppice = s.coppice
  | .sched => t.sched = s.sched ∧ t.nextHandle = s.nextHandle ∧ t.nextBatch = s.nextBatch
  | .canopy => t.canopy = s.canopy
  | .glade => gladeRest t.glade = gladeRest s.glade
  | .rules => t.glade.bank0 = s.glade.bank0 ∧ t.glade.bank1 = s.glade.bank1
  | .raises => t.firebreak.raises = s.firebreak.raises ∧ t.firebreak.windows = s.firebreak.windows
  | .firebreak => firebreakRest t.firebreak = firebreakRest s.firebreak
  | .wdt => t.wdt = s.wdt
  | .heartwood => t.heartwood = s.heartwood
  | .hsl => t.hsl = s.hsl
  | .eps => t.mbx.eps = s.mbx.eps
  | .ram => t.mbx.ram = s.mbx.ram
  | .bufs => t.mbx.bufs = s.mbx.bufs
  | .mbxq => t.mbx.queue = s.mbx.queue ∧ t.mbx.stale = s.mbx.stale ∧ t.mbx.long = s.mbx.long
  | .commit => t.commit = s.commit ∧ t.journalCommits = s.journalCommits
  | .ports => t.ports = s.ports
  | .sw => t.sw = s.sw
  | .delivered => t.delivered = s.delivered
  | .gcl => t.gcl = s.gcl
  | .red => t.red = s.red
  | .nor => t.msp.nor = s.msp.nor
  | .msp => mspRest t.msp = mspRest s.msp
  | .incoming => t.jrn.incoming = s.jrn.incoming
  | .jrn => journalRest t.jrn = journalRest s.jrn
  | .sup => t.sup = s.sup
  | .draws => t.draws = s.draws

/-- Every class of the parameters in effect. -/
def paramParts : List Part := (List.finRange 28).map Part.params

/-- What sending a frame of Grathiqua Cell Link changes: its sequence number and counters (R460 to R464), and the port it leaves
by, with the queues, counters and faults of R420 to R443. -/
def sendParts : List Part := [.params 0x15, .params 0x16, .params 0x17, .raises, .ports, .sw, .gcl]

/-- What completing a command changes: its endpoint and buffers (R364, R369, R372), or the RESP frame of a peer (R472). -/
def replyParts : List Part := sendParts ++ [.params 0x13, .eps, .ram, .bufs, .mbxq]

/-- THE FRAME: the parts of the state that a command may change. It is the model's own summary of the rules of every row, taken
together: a part that is not listed stays as it is, whatever the state and the operands. -/
def mayChange : Instr → List Part
  | .linkStart .. => [.down, .up, .links, .sup]
  | .linkStartSyncReceived .. => [.params 0x05, .params 0x0D, .bankCfg, .banks, .down, .up, .links, .u, .l, .f, .sched,
      .raises, .draws]
  | .syncCellReceived .. => [.params 0x05, .params 0x0D, .bankCfg, .banks, .down, .up, .links, .u, .l, .f, .sched, .raises,
      .draws]
  | .statusCellReceived .. => replyParts ++ [.params 0x04, .params 0x05, .params 0x06, .params 0x07, .params 0x08,
      .params 0x09, .params 0x0A, .params 0x0B, .params 0x0D, .params 0x10, .params 0x1B, .banks, .down, .up, .links, .u,
      .f, .sched, .canopy, .firebreak, .commit, .incoming]
  | .idleCellReceived .. => [.params 0x05, .banks, .down, .up, .links, .u, .f, .raises]
  | .sampleCellReceived .. => [.params 0x05, .params 0x06, .banks, .down, .up, .links, .u, .f, .canopy, .raises]
  | .edgeCellReceived .. => [.params 0x05, .params 0x06, .banks, .down, .up, .links, .u, .f, .captures, .canopy, .raises,
      .eps]
  | .countCellReceived .. => [.params 0x05, .params 0x0C, .banks, .down, .up, .links, .u, .f, .canopy, .raises]
  | .lswCellReceived .. => [.params 0x05, .params 0x0A, .params 0x0B, .banks, .down, .up, .links, .u, .f, .coppice,
      .canopy, .raises]
  | .faultCellReceived .. => [.params 0x05, .params 0x0B, .banks, .down, .up, .links, .u, .f, .coppice, .raises]
  | .calCellReceived .. => [.params 0x05, .params 0x07, .params 0x1B, .banks, .down, .up, .links, .u, .f, .canopy, .raises]
  | .cfgCellReceived .. => [.params 0x05, .bankCfg, .banks, .down, .up, .links, .u, .l, .f, .raises]
  | .shareReportReceived .. => [.params 0x01, .params 0x05, .banks, .down, .up, .links, .u, .f, .canopy, .raises, .eps,
      .commit, .incoming]
  | .outCellReceived .. => [.params 0x05, .banks, .down, .up, .links, .u, .l, .f, .raises]
  | .forceCellReceived .. => [.params 0x05, .banks, .down, .up, .links, .u, .l, .raises]
  | .safeCellReceived .. => [.params 0x05, .banks, .down, .up, .links, .u, .l, .raises]
  | .schedCellReceived .. => [.params 0x05, .params 0x0D, .banks, .down, .up, .links, .u, .l, .f, .sched, .raises]
  | .cancelMarkerReceived .. => [.params 0x05, .banks, .down, .up, .links, .u, .l, .f, .raises]
  | .outcomeReportReceived .. => replyParts ++ [.params 0x05, .params 0x0D, .banks, .down, .up, .links, .u, .f, .sched,
      .incoming]
  | .cellResendTimeout .. => [.params 0x05, .down, .up]
  | .linkSilenceTimeout .. => [.banks, .up, .u, .l]
  | .logicSilenceTimeout .. => [.params 0x05, .down, .links, .canopy, .raises, .firebreak, .eps, .commit, .incoming]
  | .bankSyncGap .. => [.tb, .banks]
  | .gptpSyncReceived .. => [.params 0x15, .params 0x16, .tb, .canopy, .raises, .eps, .ports, .sw, .gcl, .incoming]
  | .syncLossTimeout .. => [.tb, .canopy, .eps, .gcl, .incoming]
  | .bestMasterChange .. => [.tb, .canopy, .eps, .ports, .gcl, .incoming]
  | .announceReceiptTimeout .. => [.tb, .canopy, .eps, .ports, .gcl, .incoming]
  | .holdoverEvaluation .. => [.tb, .eps, .gcl, .incoming]
  | .ppsInEdge .. => [.params 0x04, .tb, .canopy, .raises, .eps, .ports, .gcl, .incoming]
  | .ppsLostTimeout .. => [.tb, .canopy, .eps, .gcl, .incoming]
  | .ppsOutRise .. => [.tb]
  | .ppsOutFall .. => [.tb]
  | .syncIntervalBoundary .. => paramParts ++ [.tb, .raises, .ports, .sw]
  | .epochSet .. => replyParts ++ [.params 0x04, .tb, .incoming]
  | .ppsTodSeconds .. => replyParts ++ [.params 0x04, .tb]
  | .latchedRegisterRead .. => [.tb]
  | .mclkRephaseEnd .. => [.banks]
  | .diComparatorTransition .. => [.up, .u, .f]
  | .debounceExpiry .. => [.up, .u, .f]
  | .wireBreakWindowExpiry .. => [.up, .u, .f]
  | .openTerminalTest .. => [.up, .u]
  | .wideTapWord .. => [.banks, .up, .u, .draws]
  | .protectOff .. => [.up, .u]
  | .protectOffReclose .. => [.up, .u]
  | .overRangePersist .. => [.up, .u]
  | .doScTimeExpiry .. => [.up, .u]
  | .doRestart .. => [.up, .u]
  | .doOpenLoad .. => [.up, .u]
  | .doShortToSupply .. => [.up, .u]
  | .frontEndSettled .. => [.u]
  | .mainSampleDue .. => [.up, .u, .draws]
  | .rotationSlotStart .. => [.banks, .u]
  | .reliefCalEnd .. => [.banks, .up, .u]
  | .rotationPhaseEnd .. => [.banks, .u]
  | .chCheckEnd .. => [.banks, .up, .u]
  | .overlapEnd .. => [.banks, .up, .u]
  | .rotationCutShort .. => [.banks, .u]
  | .slotEndCrossCheck .. => [.banks, .up, .u]
  | .heavyClampStart .. => [.banks, .up, .u]
  | .heavyClampEnd .. => [.up, .u, .incoming]
  | .dieTemperatureRead .. => [.banks]
  | .rotateNow .. => replyParts ++ [.down]
  | .trimPoint .. => replyParts ++ [.u]
  | .trimApply .. => replyParts ++ [.params 0x01, .staged]
  | .calRecordWriteDone .. => [.params 0x1B, .raises, .nor, .sup, .draws]
  | .syncInEdge .. => [.params 0x08, .tb, .down, .u, .raises]
  | .syncAt .. => replyParts ++ [.params 0x08, .down, .u]
  | .decimatorSyncInstant .. => [.params 0x08, .bankCfg, .banks, .up, .u, .l, .f, .incoming]
  | .filterParityError .. => [.up, .u]
  | .powerStageEvaluation .. => [.banks, .up, .l]
  | .limitTimeExpiry .. => [.up, .l]
  | .retryPeriodExpiry .. => [.banks, .up, .l]
  | .thermalShutdown .. => [.banks, .up, .l]
  | .thermalRestart .. => [.banks, .up, .l]
  | .clampIntervalStart .. => [.l]
  | .clampIntervalEnd .. => [.up, .l]
  | .clampUnlock .. => [.banks, .up, .l]
  | .lswOpenLoad .. => [.params 0x0B, .up, .l, .raises]
  | .lswShortToSupply .. => [.banks, .up, .l]
  | .lswReverseCurrent .. => [.banks, .up, .l]
  | .powerDieExchangeLost .. => [.up, .l]
  | .groupLaunchInstant .. => [.banks, .up, .u, .l]
  | .vfSpreadCheck .. => [.params 0x0B, .down, .coppice, .raises]
  | .balanceUpdate .. => [.banks, .l]
  | .balanceLost .. => [.params 0x0B, .raises]
  | .memberExclusion .. => [.banks, .up, .l]
  | .groupTrip .. => [.banks, .up, .l]
  | .groupOverloadEnd .. => [.params 0x0B, .down]
  | .groupThermal .. => [.params 0x0B, .down, .coppice, .raises]
  | .fastInputEdge .. => [.up, .f]
  | .counterWrite .. => [.params 0x05, .banks, .down, .up, .links, .f, .raises]
  | .capturePop .. => replyParts ++ [.f, .captures]
  | .frequencyGateEnd .. => [.f]
  | .stopTimeout .. => [.f]
  | .latchTrigger .. => [.up, .f]
  | .latchAt .. => replyParts ++ [.down]
  | .namedLatchInstant .. => [.up, .f]
  | .scheduleOutput .. => replyParts ++ [.params 0x0D, .down, .sched]
  | .cancelSchedule .. => replyParts ++ [.params 0x0D, .down, .sched, .incoming]
  | .scheduleApplyInstant .. => [.params 0x0D, .bankCfg, .banks, .up, .u, .l, .f, .sched]
  | .pulseRelease .. => [.banks, .up, .u, .l]
  | .heldEntryResume .. => [.banks, .up, .u, .l]
  | .holdLimitExpiry .. => [.banks, .up]
  | .publicationInstant .. => sendParts ++ [.params 0x0E, .canopy, .nor]
  | .eventGroupPublish .. => sendParts ++ [.params 0x0E, .canopy, .nor]
  | .heartbeatExpiry .. => sendParts ++ [.params 0x0E, .canopy, .nor]
  | .pubFrameReceived .. => [.params 0x0E, .canopy, .raises, .gcl]
  | .staleCheck .. => [.params 0x0E, .canopy, .raises]
  | .forcePoint .. => replyParts ++ [.canopy]
  | .releasePoint .. => replyParts ++ [.canopy]
  | .fastPass .. => [.params 0x0F, .down, .canopy, .glade, .raises, .eps, .draws]
  | .mainPass .. => paramParts ++ [.tb, .down, .links, .coppice, .canopy, .glade, .raises, .firebreak, .eps, .ram, .bufs,
      .mbxq, .commit, .ports, .sw, .gcl, .red, .nor, .incoming, .sup, .draws, .scales]
  | .forceRepeat .. => [.down, .glade]
  | .loadRulesBegin .. => replyParts ++ [.glade, .rules]
  | .loadRulesData .. => replyParts ++ [.glade, .rules]
  | .loadRulesEnd .. => replyParts ++ [.params 0x19, .glade, .nor, .msp]
  | .swapRules .. => replyParts ++ [.glade]
  | .ruleSwapExecute .. => paramParts ++ [.tb, .down, .links, .coppice, .canopy, .glade, .raises, .firebreak, .eps, .ram,
      .bufs, .mbxq, .commit, .ports, .sw, .gcl, .red, .nor, .incoming, .sup, .draws, .scales]
  | .faultCollect .. => [.params 0x10, .params 0x11, .params 0x17, .down, .canopy, .raises, .firebreak, .eps, .gcl,
      .incoming, .sup]
  | .faultWindowExpiry .. => [.raises]
  | .safeRefresh .. => [.down, .firebreak]
  | .selfProtectionCheck .. => [.params 0x10, .down, .canopy, .raises, .firebreak, .heartwood, .eps, .sup]
  | .safeInAssertion .. => [.params 0x10, .down, .canopy, .raises, .firebreak, .eps]
  | .clearSafe .. => replyParts ++ [.params 0x10, .params 0x11, .down, .canopy, .firebreak, .incoming, .sup]
  | .clearAutonomousSend .. => [.down, .firebreak]
  | .liveness .. => replyParts ++ [.params 0x12, .firebreak]
  | .livenessTimeout .. => [.params 0x12, .raises, .firebreak]
  | .wdtEnable .. => [.params 0x12, .raises, .wdt]
  | .wdtService .. => [.params 0x10, .params 0x12, .down, .canopy, .raises, .firebreak, .wdt, .heartwood, .eps, .sup]
  | .wdtPeriodWrite .. => [.params 0x12, .raises, .wdt]
  | .wdtIntervalEnd .. => [.params 0x10, .down, .canopy, .raises, .firebreak, .wdt, .heartwood, .eps, .sup]
  | .clockMonitorWindow .. => [.params 0x10, .params 0x12, .down, .canopy, .raises, .firebreak, .wdt, .heartwood, .eps, .sup]
  | .heartwoodWrite .. => [.firebreak, .heartwood]
  | .wdtResetCount .. => replyParts ++ [.heartwood]
  | .logPop .. => replyParts ++ [.firebreak]
  | .rehearseReaction .. => replyParts ++ [.params 0x11, .firebreak, .incoming]
  | .hslFrameStart .. => [.hsl]
  | .hslFrameEnd .. => replyParts ++ [.params 0x0D, .params 0x12, .params 0x14, .tb, .canopy, .glade, .wdt, .hsl, .nor,
      .msp, .sup]
  | .nop .. => [.hsl]
  | .readReg .. => [.params 0x13, .tb, .raises, .hsl, .bufs]
  | .writeReg .. => replyParts ++ [.params 0x0D, .params 0x12, .tb, .canopy, .wdt, .hsl]
  | .readBuf .. => [.hsl]
  | .writeBuf .. => [.hsl, .ram]
  | .word .. => replyParts ++ [.hsl]
  | .doorbell .. => replyParts ++ [.canopy, .glade, .hsl, .nor, .msp, .sup]
  | .ident .. => [.hsl]
  | .repeatReply .. => [.hsl]
  | .frameTimeout .. => [.params 0x14, .raises, .hsl]
  | .hostTimeout .. => [.params 0x14, .raises, .hsl]
  | .commandTakeUp .. => paramParts ++ [.staged, .tb, .down, .links, .u, .f, .captures, .sched, .canopy, .glade, .rules,
      .raises, .firebreak, .heartwood, .eps, .ram, .bufs, .mbxq, .commit, .ports, .sw, .gcl, .red, .nor, .msp, .incoming,
      .sup, .draws]
  | .longCommandComplete .. => replyParts ++ [.params 0x19, .glade, .nor, .msp, .incoming, .sup, .draws]
  | .ping .. => replyParts
  | .getParam .. => replyParts
  | .setParam .. => paramParts ++ [.staged, .tb, .down, .u, .f, .captures, .canopy, .raises, .firebreak, .heartwood, .eps,
      .ram, .bufs, .mbxq, .ports, .sw, .gcl, .red, .msp, .incoming]
  | .getBlock .. => replyParts ++ [.tb]
  | .setBlock .. => replyParts ++ [.params 0x01, .staged]
  | .commitConfig .. => replyParts ++ [.params 0x01, .down, .links, .canopy, .commit]
  | .discardConfig .. => replyParts ++ [.params 0x01, .staged]
  | .journalRead .. => replyParts
  | .fwUpdateBegin .. => replyParts ++ [.nor, .msp, .sup]
  | .fwUpdateData .. => replyParts ++ [.nor, .sup]
  | .fwUpdateEnd .. => replyParts ++ [.params 0x19, .nor, .msp, .incoming, .sup]
  | .abort .. => replyParts ++ [.glade, .nor, .msp, .sup]
  | .abortDone .. => [.eps]
  | .negotiate .. => replyParts
  | .mbxAckPop .. => replyParts
  | .mbxClaim .. => [.params 0x13, .raises, .bufs]
  | .mbxRelease .. => [.params 0x13, .bufs]
  | .mbxH2dClear .. => [.canopy, .eps]
  | .registerWrite .. => replyParts ++ [.params 0x0D, .params 0x12, .tb, .canopy, .wdt]
  | .stagedHashReady .. => [.params 0x01]
  | .commitApply .. => paramParts ++ [.tb, .down, .links, .coppice, .canopy, .glade, .raises, .firebreak, .eps, .ram,
      .bufs, .mbxq, .commit, .ports, .sw, .gcl, .red, .nor, .incoming, .sup, .draws, .scales]
  | .bankShareApply .. => [.params 0x0D, .bankCfg, .banks, .up, .u, .l, .f, .sched]
  | .commitJournal .. => [.commit, .incoming]
  | .persistDone .. => [.params 0x01, .params 0x19, .raises, .nor, .msp, .sup, .draws]
  | .portLinkDown .. => sendParts ++ [.tb, .canopy, .eps, .red, .incoming, .draws]
  | .portLinkUp .. => [.raises, .eps, .ports, .gcl]
  | .frameReceived .. => [.params 0x15, .params 0x16, .raises, .ports, .sw, .delivered, .red]
  | .gateIntervalBoundary .. => [.ports]
  | .gateListChange .. => [.ports]
  | .macAgeing .. => [.params 0x16, .sw]
  | .macFlush .. => replyParts
  | .latentTestPeriod .. => [.params 0x16, .raises, .sw]
  | .recoveryResetTimeout .. => [.sw]
  | .tableEccRewrite .. => [.params 0x16, .raises, .sw]
  | .pdelayReq .. => [.params 0x15, .params 0x16, .tb, .canopy, .raises, .eps, .ports, .sw, .gcl, .incoming, .draws]
  | .ringTestInterval .. => sendParts ++ [.red, .draws]
  | .topologyFrameReceived .. => sendParts ++ [.delivered, .red, .draws]
  | .gclFrameReceived .. => [.params 0x15, .params 0x17, .raises, .delivered, .gcl, .red]
  | .helloReceived .. => sendParts ++ [.params 0x18, .red]
  | .helloSend .. => sendParts
  | .nodeTimeout .. => sendParts ++ [.params 0x18, .red]
  | .duplicateTimeout .. => [.params 0x17, .params 0x18, .raises, .gcl, .red]
  | .gclNegotiate .. => sendParts ++ [.params 0x18, .red]
  | .cmdFrame .. => replyParts ++ [.params 0x12, .params 0x18, .firebreak, .red, .incoming]
  | .notify .. => sendParts ++ [.draws]
  | .notifyRepeat .. => sendParts ++ [.draws]
  | .schedFrame .. => replyParts ++ [.params 0x12, .params 0x18, .firebreak, .red, .incoming]
  | .syncRequest .. => replyParts ++ [.params 0x08, .params 0x18, .down, .u, .firebreak, .red, .incoming, .draws]
  | .journalFrameSend .. => sendParts
  | .arbEpoch .. => replyParts ++ [.params 0x18, .firebreak, .red, .incoming]
  | .epochEffective .. => replyParts ++ [.params 0x18, .firebreak, .red, .incoming]
  | .arbSwap .. => [.gcl, .red]
  | .arbQuery .. => sendParts ++ [.params 0x18, .red]
  | .arbReport .. => sendParts ++ [.red]
  | .pairWaitExpiry .. => [.params 0x18, .raises, .eps, .mbxq, .red]
  | .takeover .. => [.params 0x18, .raises]
  | .queryRepeat .. => sendParts ++ [.params 0x18, .red]
  | .arbTimeout .. => [.raises, .red]
  | .pairReadmit .. => replyParts ++ [.params 0x18, .red]
  | .rangerListenTimeout .. => sendParts ++ [.params 0x18, .red]
  | .rangerEpochRepeat .. => sendParts ++ [.red]
  | .pairSwapInstant .. => [.params 0x18, .raises, .red]
  | .ringSwapInstant .. => sendParts ++ [.params 0x18, .red, .draws]
  | .ringCopyMissing .. => [.params 0x18, .raises, .red]
  | .mspEntryComplete .. => [.params 0x19, .raises, .msp, .sup]
  | .xipFill .. => [.params 0x19, .msp]
  | .xipWriteGather .. => [.params 0x19, .msp, .sup]
  | .xipGatherTimeout .. => [.msp]
  | .xipFlush .. => [.msp]
  | .xipErase .. => [.params 0x19, .msp, .sup]
  | .norStatusPoll .. => [.params 0x19, .raises, .nor, .msp, .sup, .draws]
  | .userXfer .. => replyParts ++ [.params 0x19, .msp]
  | .continueTimeout .. => [.params 0x19, .raises, .msp]
  | .arbPriorityWrite .. => replyParts ++ [.params 0x19]
  | .journalRecord .. => [.params 0x1A, .eps, .incoming, .jrn]
  | .journalFlush .. => [.params 0x1A, .raises, .jrn]
  | .nandOperationFail .. => [.params 0x1A, .raises, .incoming, .jrn]
  | .scrub .. => [.params 0x1A, .raises, .incoming, .jrn]
  | .patrolRead .. => [.params 0x1A, .raises, .msp, .incoming, .jrn]
  | .journalMount .. => [.params 0x1A, .raises, .incoming, .jrn, .draws]
  | .powerFailDetection .. => [.params 0x19, .raises, .heartwood, .msp, .sup]
  | .powerFailCommitEnd .. => [.params 0x1A, .eps, .incoming, .jrn, .sup, .draws]
  | .epochSectorRecord .. => [.canopy, .nor]
  | .logicReset .. => paramParts ++ [.staged, .tb, .down, .up, .links, .u, .f, .captures, .coppice, .sched, .canopy,
      .glade, .rules, .raises, .firebreak, .wdt, .heartwood, .hsl, .eps, .ram, .bufs, .mbxq, .commit, .ports, .sw,
      .delivered, .gcl, .red, .nor, .msp, .incoming, .jrn, .sup, .draws, .scales]
  | .resetNEdge .. => [.sup]
  | .supResetKey .. => [.sup]
  | .supplyGood .. => [.sup]
  | .bootRomStart .. => [.params 0x12, .params 0x19, .params 0x1B, .tb, .raises, .wdt, .heartwood, .msp, .jrn, .sup, .draws]
  | .bootFailureRelease .. => [.msp]
  | .firmwareStart .. => [.params 0x0E, .params 0x12, .params 0x1A, .canopy, .raises, .heartwood, .incoming, .jrn, .sup]
  | .configImageLoad .. => paramParts ++ [.staged, .tb, .down, .links, .coppice, .canopy, .glade, .rules, .raises, .eps,
      .ram, .bufs, .mbxq, .ports, .sw, .gcl, .red, .incoming, .sup, .draws]
  | .firebreakArm .. => [.firebreak, .sup]
  | .endpointsOpen .. => [.heartwood, .eps, .sup]
  | .bankStart .. => [.bankCfg, .banks, .down, .up, .links, .u, .l, .f]
  | .bankArrivalInstant .. => [.params 0x0D, .bankCfg, .banks, .up, .u, .l, .f, .sched]
  | .vfLoss .. => [.bankCfg, .banks, .up, .u, .l, .f]
  | .vfOutOfRange .. => [.banks, .up]
  | .supplyMeasurement .. => [.params 0x03, .raises, .sup]
  | .holdReadyChange .. => [.raises, .sup]
  | .fieldDieOvertemp .. => [.banks, .up, .u]
  | .logicDieOvertemp .. => [.raises, .sup]
  | .safeInRelease .. => [.raises, .firebreak]
  | .resetNRise .. => [.sup]
  | .rangerStandDownTimeout .. => [.params 0x18, .raises, .red]
  | .powerDieExchangeResumed .. => [.up, .l]
  | .vfRangeRestored .. => [.banks, .up]
  | .vholdCut .. => [.sup]
  | .announceInterval .. => [.params 0x15, .params 0x16, .raises, .ports, .sw]

/-! ### A cell taken from a bank link, for the statements about the cells -/

/-- The logic side after it has taken an ordinary cell in order: the cell's ACK and the silence timer are taken, and the next number
is expected (R26, R28). -/
def State.upTaken (s : State) (b : Fin 4) : State := (s.goodUp b).modUp b (fun d => { d with rxSeq := d.rxSeq + 1 })

/-- The same after the first good copy of an express cell (R25). -/
def State.upTakenX (s : State) (b : Fin 4) (q : BitVec 8) : State := (s.goodUp b).modUp b (fun d => { d with lastExp := some q })

/-- A bank after it has taken an ordinary cell in order (R26). -/
def State.downTaken (s : State) (b : Fin 4) : State := (s.goodDown b).modDown b (fun d => { d with rxSeq := d.rxSeq + 1 })

/-- The same after the first good copy of an express cell (R25). -/
def State.downTakenX (s : State) (b : Fin 4) (q : BitVec 8) : State :=
  (s.goodDown b).modDown b (fun d => { d with lastExp := some q })

/-- A state from which the next `n` steps all go on. -/
def SafeFor : Nat → State → Prop
  | 0, _ => True
  | n + 1, s => ∃ t, step s = .next t ∧ SafeFor n t

/-- The state after one step; a step that stops leaves the state. -/
def after (s : State) : State :=
  match step s with
  | .next t => t
  | .fault _ => s
  | .refused _ => s

end Sys2Proof.Machine
end

