-- ==== Sys2Proof/Certificates/Slice0/Obligations.lean ====
section
/-! DEFINITION. The statements for the provers: one per headline rule of the machine, then one per family of commands. Each says
what the machine does, in the model's own names; the docstring gives the statement in words and where the spec says it. -/

open Sys2Proof Sys2Proof.Machine

/-- A step runs the command at the front of the queue. For every command c and state s, the step of s with c put at the
front of its queue is exec of c on s, that is, on s with the queue's rest. Spec: 01_device_overview.md: Flows of data, time
and authority. -/
def Obligations.StepRunsTheFrontCommand : Prop :=
  ∀ (c : Instr) (s : State), step { s with pending := c :: s.pending } = exec c s

/-- An empty queue idles for one cycle of the time base (the model's choice, log 1). For every state whose queue is empty,
the step answers a next state, namely the state after one tick of the time base. That an idle step stands for one cycle of
the time base is the model's choice (DESIGN CHOICE, assumption log 1). Spec: 02_cell_time.md: Reference and time-base
counter. -/
def Obligations.AnEmptyQueueIdlesForOneCycle : Prop :=
  ∀ s : State, s.pending = [] → step s = .next (tick s)

/-- The state after reset meets the invariant and has an empty queue. State.reset meets the invariant Sound: every byte
store is in its canonical form and every bounded queue is within its bound. Its queue of commands is empty. Spec:
18_startup_identity.md: Reset sources; 18_startup_identity.md: Boot sequence. -/
def Obligations.ResetStateIsSound : Prop :=
  State.reset.Sound ∧ State.reset.pending = []

/-- Every step answers a next state and keeps the invariant. From every state that meets the invariant Sound, whether a run
reaches it or not, the step answers a next state, and that state meets Sound: the ten byte stores and the content of a
waiting commit are in canonical form, and the fault log (64), the journal-frame queue (64), the journal's RAM buffer (512),
each replay window (64), each capture queue (64) and the unacknowledged cells of each link direction (32) are within their
bounds. Spec: 01_device_overview.md: Bank links; 07_fast_inputs.md: Capture queue; 10_firebreak.md: Fault identifiers;
12_mailboxes.md: Sequence numbers and replay; 15_cell_link.md: Journal frames; 17_external_memory.md: Journal records. -/
def Obligations.EveryStepKeepsTheInvariant : Prop :=
  ∀ s : State, s.Sound → ∃ t, step s = .next t ∧ t.Sound

/-- Every command completes in every sound state, keeps the invariant and leaves the queue alone. For every command of the
table, with any operands, and every state that meets the invariant Sound, exec answers a next state; that state meets Sound
and its queue of waiting commands is the one before. No command ends in a fault or a refusal. Spec:
95_what_each_step_holds.md. -/
def Obligations.EveryCommandCompletesAndLeavesTheQueue : Prop :=
  ∀ (c : Instr) (s : State), s.Sound → ∃ t, exec c s = .next t ∧ t.Sound ∧ t.pending = s.pending

/-- The frame: a command changes no part of the state outside the parts it may change. For every command c, every sound
state s with exec c s = next t, and every part q of the state that is not among mayChange c, part q of t is part q of s.
mayChange names, for each command, the parts its rules let it change, out of 66 parts: each of the 28 classes of the
parameters in effect, the staged set, the bank configuration, the time base, the banks, the two lines and the logic-side
ends of the bank links, the universal channels, the load switches, the fast inputs, the capture queues, the scalings of the
points, what the logic side remembers of the coppice groups, the schedule, Canopy, Glade, its rule banks, the fault events,
the fault log with the safe-state records, the watchdogs, Heartwood, the host serial link, the endpoints, the message RAM,
its buffers, the execution queue, the waiting commits, the ports, the switch tables, the delivered frames, GCL, the pairs,
the NOR, the memory port, the events for the journal, the journal, the supplies with the start, and the model's own count of
free values. Spec: 95_what_each_step_holds.md. -/
def Obligations.CommandsChangeOnlyTheirParts : Prop :=
  ∀ (c : Instr) (s t : State) (q : Part), s.Sound → exec c s = .next t → q ∉ mayChange c → q.same s t

/-- No run from a sound state stops. For every number of steps n and every state that meets the invariant Sound, each of the
next n steps answers a next state. Spec: 95_what_each_step_holds.md. -/
def Obligations.NoRunStops : Prop :=
  ∀ (n : Nat) (s : State), s.Sound → SafeFor n s

/-- Parameter store, message RAM and NOR read back what was written, and nothing else changes. In every sound state: writing
bytes to an attribute and reading as many back gives those bytes and keeps the store canonical; reading an attribute of
another class, instance or number reads as before. Writing bytes into a message buffer and reading them back gives those
bytes; another buffer reads as before where both accesses lie within their 1,024 bytes. Writing bytes into the NOR content
and reading them back gives those bytes; every address range disjoint from them reads as before. Spec:
13_parameter_dictionary.md: Addressing; 12_mailboxes.md: Message buffers; 17_external_memory.md: NOR layout. -/
def Obligations.StoresReadBackWhatWasWritten : Prop :=
  ∀ (s : State), s.Sound →
      (∀ (cls inst attr off : Nat) (l : List Byte), (s.setBytes cls inst attr off l).pBytes l.length cls inst attr off
        = l ∧
        cellsWf parReset (s.setBytes cls inst attr off l).dict = true) ∧
      (∀ (cls inst attr off n cls' inst' attr' off' : Nat) (l : List Byte), inst < 256 → attr < 256 →
        inst' < 256 → attr' < 256 →
        off + l.length ≤ 2 ^ 20 → off' + n ≤ 2 ^ 20 → cls' ≠ cls ∨ inst' ≠ inst ∨ attr' ≠ attr →
        (s.setBytes cls inst attr off l).pAt n cls' inst' attr' off' = s.pAt n cls' inst' attr' off') ∧
      (∀ (buf off : Nat) (l : List Byte), bufBytes (s.writeBuf buf off l) buf off l.length = l ∧
        ∀ buf' off' n, buf' ≠ buf → off + l.length ≤ 1024 → off' + n ≤ 1024 →
          bufBytes (s.writeBuf buf off l) buf' off' n = bufBytes s buf' off' n) ∧
      (∀ (a : Nat) (l : List Byte), norBytes (s.writeNor a l) a l.length = l ∧
        ∀ a' n, a' + n ≤ a ∨ a + l.length ≤ a' → norBytes (s.writeNor a l) a' n = norBytes s a' n)

/-- The words of a wider value read after its lowest word belong to the same instant. For every register address a, access
path and k below the number of higher words latched with a. Where no group latched on that path holds a, and the latches of
a later state t are those a read of a left in state s, word a + 4(k + 1) read in t on that path is the value that word had
in s. And where one latched group of that path holds both a and the word a + 4(k + 1), a read of a leaves that later word
showing in t what the group had latched. Spec: 00_scope.md: Access codes; 13_parameter_dictionary.md: Coherence. -/
def Obligations.AWiderValueIsReadWhole : Prop :=
  (∀ (s t : State) (hsl : Bool) (a k : Nat), k < latchCount a → s.tb.latches.find? (latchHolds hsl a) = none →
        t.tb.latches = (s.regRead hsl a).2.tb.latches → regShown t hsl (a + 4 * (k + 1)) = regNow s (a + 4 * (k + 1)))
          ∧
      (∀ (s t : State) (hsl : Bool) (a k : Nat) (l : Bool × Nat × List Word),
        s.tb.latches.find? (latchHolds hsl a) = some l →
        s.tb.latches.find? (latchHolds hsl (a + 4 * (k + 1))) = some l →
          t.tb.latches = (s.regRead hsl a).2.tb.latches →
        regShown t hsl (a + 4 * (k + 1)) = regShown s hsl (a + 4 * (k + 1)))

/-- VALID is 1 exactly when no error bit is set. In every sample word, bit 0 (VALID) is 1 exactly when bits 1 to 5
(SETTLING, OVER, UNDER, OPEN and SHORT) are all 0, and the HANDOVER and TIME_UNCERTAIN flags of the sample do not change
VALID. Spec: R72. -/
def Obligations.AValidSampleHasNoErrorBit : Prop :=
  ∀ (y : Int) (sat : BitVec 8) (settling opened short handover unc : Bool),
      ((sampleWord y sat settling opened short handover unc).getLsbD 0 = true ↔
        (sampleWord y sat settling opened short handover unc).getLsbD 1 = false ∧
        (sampleWord y sat settling opened short handover unc).getLsbD 2 = false ∧
        (sampleWord y sat settling opened short handover unc).getLsbD 3 = false ∧
        (sampleWord y sat settling opened short handover unc).getLsbD 4 = false ∧
        (sampleWord y sat settling opened short handover unc).getLsbD 5 = false) ∧
      (∀ handover' unc' : Bool, (sampleWord y sat settling opened short handover' unc').getLsbD 0 =
        (sampleWord y sat settling opened short handover unc).getLsbD 0)

/-- An output follows its strongest source, and a weaker one waits. For a universal channel: an immediate value is kept in
the sources whatever drives the output; while a stronger source drives it, an immediate value changes neither the driven
value nor its rank; while a safe state or the autonomous safe state holds it, a Glade force does not change the driven
value; when the safe state is left with no other source, the output returns to the immediate value, and with a force present
to the force; and an immediate value and a change of the safe state give the same sources in either order, where the safe
value they set is one the channel already has or is its own configured value. Spec: 01_device_overview.md: Output authority;
03_universal_channels.md: Safe values. -/
def Obligations.OutputsFollowTheStrongestSource : Prop :=
  (∀ (s : State) (u : Fin 16) (v : Int), ((s.changeU u (.imm v)).u[u]).src = { (s.u[u]).src with imm := v }) ∧
      (∀ (s : State) (u : Fin 16) (v : Int), (s.u[u]).src.rank < 5 →
        ((s.changeU u (.imm v)).u[u]).src.value = (s.u[u]).src.value ∧
        ((s.changeU u (.imm v)).u[u]).src.rank = (s.u[u]).src.rank) ∧
      (∀ (s : State) (u : Fin 16) (v : Int), (s.u[u]).src.safe.isSome = true ∨ (s.u[u]).src.auton.isSome = true →
        ((s.changeU u (.force (some v))).u[u]).src.value = (s.u[u]).src.value) ∧
      (∀ (s : State) (u : Fin 16), (s.u[u]).src.auton = none → (s.u[u]).src.force = none → (s.u[u]).src.sched = none →
        ((s.changeU u (.safe false)).u[u]).src.value = (s.u[u]).src.imm) ∧
      (∀ (s : State) (u : Fin 16) (f : Int), (s.u[u]).src.auton = none → (s.u[u]).src.force = some f →
        ((s.changeU u (.safe false)).u[u]).src.value = f) ∧
      (∀ (s : State) (u : Fin 16) (v : Int) (b : Bool), (b = true → (s.u[u]).src.safe.isSome = true ∨
        (uSafe s u).1 = 0) →
        (((s.changeU u (.imm v)).changeU u (.safe b)).u[u]).src = (((s.changeU u (.safe b)).changeU u (.imm
          v)).u[u]).src)

/-- A counter wraps modulo 2^32, and a wrap sets WRAPPED and raises FTI-05. Adding plus or minus one to a counter gives the
old value plus or minus one as a 32-bit word, and counts a wrap exactly when the signed value does not follow. An accepted
edge adds nothing in mode 0; in modes 1 and 2 it adds plus and minus one where it is the counter's own edge and its polarity
is among the edges counted, and nothing otherwise. When a step of a fast input's count wraps and finds no new quadrature
error, DIAG.WRAPPED is set and the FTI-05 event goes out on the express lane of its bank's link. When it does not wrap,
DIAG.WRAPPED is as before; when it neither wraps nor finds a new quadrature error, DIAG and every link are as before. Spec:
07_fast_inputs.md: Modes and counting. -/
def Obligations.CountersWrapAndSaySo : Prop :=
  (∀ (c : CountSt) (d : Int), d = 1 ∨ d = -1 →
        (c.add d).counter = c.counter + BitVec.ofInt 32 d ∧
        ((c.add d).counter.toInt = c.counter.toInt + d → (c.add d).wraps = c.wraps) ∧
        ((c.add d).counter.toInt ≠ c.counter.toInt + d → (c.add d).wraps = c.wraps + 1)) ∧
      (∀ (c : CountSt) (t : CellTime) (own rising rev : Bool) (edges : Nat),
        c.take ⟨t, .edge own rising 0 edges rev⟩ = c ∧
        c.take ⟨t, .edge own rising 1 edges rev⟩ = (if (own && natBit edges (if rising then 0 else 1)) = true then
          c.add 1 else c) ∧
        c.take ⟨t, .edge own rising 2 edges rev⟩ = (if (own && natBit edges (if rising then 0 else 1)) = true then
          c.add (-1) else c)) ∧
      (∀ (s x : State) (f : Fin 8) (t : CellTime) (ev : CountEv), x = s.countStep f t ev →
        (s.f[f]).count.wraps < (x.f[f]).count.wraps → (x.f[f]).count.errors ≤ (s.f[f]).count.errors →
        (x.f[f]).diag.getLsbD 6 = true ∧
        x.up[bankOfF f] = linkExpress (s.up[bankOfF f])
          (.fault (bankEvent (s.banks[bankOfF f]) (ident .fti 5) 5 f 0 false) 0)) ∧
      (∀ (s x : State) (f : Fin 8) (t : CellTime) (ev : CountEv), x = s.countStep f t ev →
        (x.f[f]).count.wraps ≤ (s.f[f]).count.wraps → (x.f[f]).diag.getLsbD 6 = (s.f[f]).diag.getLsbD 6) ∧
      (∀ (s x : State) (f : Fin 8) (t : CellTime) (ev : CountEv), x = s.countStep f t ev →
        (x.f[f]).count.wraps ≤ (s.f[f]).count.wraps → (x.f[f]).count.errors ≤ (s.f[f]).count.errors →
        (x.f[f]).diag = (s.f[f]).diag ∧ x.up = s.up)

/-- CAPTURE_POP removes the queued captures up to the one named, or nothing. A pop of a sequence number that no queued
capture carries answers OUT_OF_RANGE and changes nothing. A pop of a number that a queued capture carries answers OK and
leaves exactly the captures after the first one that carries it; every other input's queue is as before. Spec:
07_fast_inputs.md: Capture queue. -/
def Obligations.CapturesArePoppedByNumber : Prop :=
  ∀ (s : State) (f : Fin 8) (q : BitVec 16),
      ((∀ c ∈ s.captures[f], c.seq ≠ q) → (capturePop s f q).code = rcOutOfRange ∧ (capturePop s f q).st = s) ∧
      (∀ (old rest : List Capture) (c : Capture), s.captures[f] = old ++ c :: rest → c.seq = q → (∀ x ∈ old,
        x.seq ≠ q) →
        (capturePop s f q).code = 0 ∧ (capturePop s f q).st.captures[f] = rest ∧
        ∀ g, g ≠ f → (capturePop s f q).st.captures[g] = s.captures[g])

/-- A full fault log loses its oldest record and says so once. Below 64 records a new record is appended and no counter
changes. At 64 the oldest record leaves, the new one is appended, LOG_LOST increments modulo 2^32, and FSC-08 is raised
unless the record itself is that of an FSC-08 raise. Spec: 10_firebreak.md: Fault identifiers. -/
def Obligations.TheFaultLogKeepsTheNewest : Prop :=
  ∀ (s : State) (r : FaultRec),
      (s.firebreak.log.length < 64 → (s.logFault r).firebreak.log = s.firebreak.log ++ [r] ∧
        (s.logFault r).dict = s.dict) ∧
      (s.firebreak.log.length = 64 → cellsWf parReset s.dict = true →
        (s.logFault r).firebreak.log = s.firebreak.log.tail ++ [r] ∧
        (s.logFault r).p 4 0x11 0 0x07 = (s.p 4 0x11 0 0x07 + 1) % 2 ^ 32 ∧
        ((s.logFault r).firebreak.raises = s.firebreak.raises ↔ r.ident = ident .fsc 8))

/-- A raise of an active instance only counts. When the collector takes a raise whose identifier is already active against
its object, the log, the safe-state records, the sequence count, the cells to the banks, the mailboxes, the journal and the
supervisor stay as they are, and FAULT_COUNTS of the identifier increments and saturates at 65,535. Spec: 10_firebreak.md:
Fault identifiers. -/
def Obligations.ActiveInstancesAreNotRaisedAgain : Prop :=
  ∀ (s : State) (r : Raise), isActive s r.ident r.obj = true →
      (s.collectRaise r).firebreak.log = s.firebreak.log ∧
      (s.collectRaise r).firebreak.records = s.firebreak.records ∧
      (s.collectRaise r).firebreak.seq = s.firebreak.seq ∧
      (s.collectRaise r).down = s.down ∧ (s.collectRaise r).mbx = s.mbx ∧ (s.collectRaise r).jrn = s.jrn ∧
      (s.collectRaise r).sup = s.sup ∧
      (cellsWf parReset s.dict = true → r.ident < 384 →
        (s.collectRaise r).pAt 2 0x11 0 0x09 (2 * r.ident) = min 0xFFFF (s.pAt 2 0x11 0 0x09 (2 * r.ident) + 1))

/-- A counted condition is raised at the occurrence that brings its 1 s window from 16 to 17. An occurrence enters the
window of its identifier and object; it is raised exactly when 16 occurrences lay in the window before it; and the window of
every other identifier or object is as before. Spec: 10_firebreak.md: Fault identifiers. -/
def Obligations.TheSeventeenthOccurrenceIsRaised : Prop :=
  ∀ (s : State) (id kind index : Nat),
      (windowOf (s.occur id kind index).firebreak id ⟨kind, index⟩ s.tb.mono =
        windowOf s.firebreak id ⟨kind, index⟩ s.tb.mono ++ [s.tb.mono]) ∧
      ((windowOf s.firebreak id ⟨kind, index⟩ s.tb.mono).length = 16 →
        (s.occur id kind index).firebreak.raises = s.firebreak.raises ++
          [{ ident := id, obj := ⟨kind, index⟩, time := now s, uncertain := s.tb.uncertain, detail := 0, ends := false }])
            ∧
      ((windowOf s.firebreak id ⟨kind, index⟩ s.tb.mono).length ≠ 16 →
        (s.occur id kind index).firebreak.raises = s.firebreak.raises) ∧
      (∀ id' o m, id' ≠ id ∨ o ≠ ⟨kind, index⟩ →
        windowOf (s.occur id kind index).firebreak id' o m = windowOf s.firebreak id' o m)

/-- The replay window keeps the 64 most recent completions. In a sound state: a completion with RESULT ABORTED and a
replayed completion leave every window as it was. Every other completion enters the window of its own endpoint with its
sequence number, opcode, RESULT, the first 32 bytes of the payload and the flag that the payload was longer; when 64 entries
are held the oldest leaves. The windows of the other endpoints stay. Spec: R372. -/
def Obligations.TheReplayWindowHoldsTheNewest64 : Prop :=
  ∀ (s : State), s.Sound → ∀ (q : Req) (opcode : Nat) (code : BitVec 16) (payload : List Byte),
      (code = rcAborted → ∀ e : Fin 8, ((s.finish q opcode code payload).mbx.eps[e]).window = (s.mbx.eps[e]).window) ∧
      (∀ (r : ReplayEntry) (e : Fin 8), ((s.finishReplay q r).mbx.eps[e]).window = (s.mbx.eps[e]).window) ∧
      (code ≠ rcAborted → ∀ e : Fin 8, e ≠ q.ep → ((s.finish q opcode code payload).mbx.eps[e]).window =
        (s.mbx.eps[e]).window) ∧
      (code ≠ rcAborted → ((s.finish q opcode code payload).mbx.eps[q.ep]).window =
        (if (s.mbx.eps[q.ep]).window.length < 64 then (s.mbx.eps[q.ep]).window else (s.mbx.eps[q.ep]).window.tail) ++
          [{ seq := q.seq, opcode := opcode, result := code, payload := payload.take 32,
             truncated := decide (payload.length > 32) }])

/-- Reads: size checks, WO attributes as zeros, and the STAGED flag. GET_PARAM of an attribute larger than 64 bytes is
refused with BAD_PARAM. GET_BLOCK with OFFSET + LENGTH beyond the size is refused with OUT_OF_RANGE, for a single attribute,
the register window and a span alike. A write-only attribute reads as zeros of the size asked for. With STAGED set, an RWS
attribute reads its staged value, and the flag changes nothing for any other attribute. A GET_PARAM or GET_BLOCK within the
size answers the bytes read under the index's STAGED flag. Spec: R396. -/
def Obligations.ReadsFollowTheStageAndTheAccess : Prop :=
  (∀ (s : State) (i : Nat) (r : AttrRow), indexRow i = some r → 64 < attrSize s (indexParts i).1 r →
        getParamCmd s i = refuse s rcBadParam) ∧
      (∀ (s : State) (i off len : Nat) (r : AttrRow), indexRow i = some r → 0 < len → len ≤ 1000 →
        indexSpan i = false →
        ¬((indexParts i).1 = 0x01 ∧ (indexParts i).2.2 = 0x14) → attrSize s (indexParts i).1 r < off + len →
        getBlockCmd s i off len = refuse s rcOutOfRange) ∧
      (∀ (s : State) (i off len : Nat) (r : AttrRow), indexRow i = some r → 0 < len → len ≤ 1000 →
        indexSpan i = false →
        (indexParts i).1 = 0x01 → (indexParts i).2.2 = 0x14 → 49152 < off + len →
        getBlockCmd s i off len = refuse s rcOutOfRange) ∧
      (∀ (s : State) (i off len : Nat) (r : AttrRow), indexRow i = some r → 0 < len → len ≤ 1000 →
        indexSpan i = true →
        ((spanRows s (indexParts i).1 (indexParts i).2.2).flatMap (fun a =>
          readBytes s (indexStaged i) (indexParts i).1 (indexParts i).2.1 a 0 a.size)).length < off + len →
        getBlockCmd s i off len = refuse s rcOutOfRange) ∧
      (∀ (s : State) (cls inst off n : Nat) (r : AttrRow) (st : Bool), r.access = .wo →
        readBytes s st cls inst r off n = List.replicate n 0) ∧
      (∀ (s : State) (cls inst off n : Nat) (r : AttrRow), r.access = .rws →
        readBytes s true cls inst r off n = s.stBytes n cls inst r.attr off) ∧
      (∀ (s : State) (cls inst off n : Nat) (r : AttrRow), r.access ≠ .rws →
        readBytes s true cls inst r off n = readBytes s false cls inst r off n) ∧
      (∀ (s : State) (i : Nat) (r : AttrRow), indexRow i = some r → attrSize s (indexParts i).1 r ≤ 64 →
        getParamCmd s i = { st := s, code := 0,
                            payload := leBytes 2 r.size ++ [0, 0] ++
                              readBytes s (indexStaged i) (indexParts i).1 (indexParts i).2.1 r 0 r.size }) ∧
      (∀ (s : State) (i off len : Nat) (r : AttrRow), indexRow i = some r → 0 < len → len ≤ 1000 →
        indexSpan i = false →
        ¬((indexParts i).1 = 0x01 ∧ (indexParts i).2.2 = 0x14) → off + len ≤ attrSize s (indexParts i).1 r →
        getBlockCmd s i off len = { st := s, code := 0,
                                    payload := leBytes 4 off ++
                                      leBytes 2 (readBytes s (indexStaged i) (indexParts i).1 (indexParts i).2.1 r off
                                        len).length ++
                                      [0, 0] ++ readBytes s (indexStaged i) (indexParts i).1 (indexParts i).2.1 r off
                                        len })

/-- SET_PARAM is checked in order: sender, attribute, access, length, range; an RWS write is staged. For a value of 1 to 64
bytes: a sender that may not write is refused with NOT_AUTHORITY; otherwise an unassigned index with BAD_PARAM; otherwise a
read-only attribute with READ_ONLY; otherwise a value of another length with BAD_PARAM; otherwise, for a staged attribute,
an element outside its range with OUT_OF_RANGE. An RWS write that completes OK puts the value, with its reserved fields
masked, into the staged set at the attribute, and sends nothing to a bank and changes no bank's configuration. Spec:
13_parameter_dictionary.md: Reading and writing; 13_parameter_dictionary.md: Staging and commit. -/
def Obligations.AWriteIsCheckedInOrder : Prop :=
  ∀ (s : State) (ep : Fin 8) (i : Nat) (v : List Byte), 0 < v.length → v.length ≤ 64 →
      (mayWrite s ep i v = false → setParamCmd s ep i v = refuse s rcNotAuthority) ∧
      (mayWrite s ep i v = true → indexRow i = none → setParamCmd s ep i v = refuse s rcBadParam) ∧
      (∀ r, mayWrite s ep i v = true → indexRow i = some r → r.access = .ro →
        setParamCmd s ep i v = refuse s rcReadOnly) ∧
      (∀ r, mayWrite s ep i v = true → indexRow i = some r → writable (indexParts i).1 (indexParts i).2.1 r = true →
        v.length ≠ r.size → setParamCmd s ep i v = refuse s rcBadParam) ∧
      (∀ r, mayWrite s ep i v = true → indexRow i = some r → r.access = .rws →
        writable (indexParts i).1 (indexParts i).2.1 r = true → r.size ≤ 64 → v.length = r.size →
        ((mergedEntries s (indexParts i).1 (indexParts i).2.1 r.attr (max 1 r.elem) 0 v).all (fun e => elemOk r e.2) =
          false →
          setParamCmd s ep i v = refuse s rcOutOfRange) ∧
        ((setParamCmd s ep i v).code = 0 → (setParamCmd s ep i v).st.staged =
            cellsWriteL parReset s.staged (parKey (indexParts i).1 (indexParts i).2.1 r.attr 0)
              (maskFields (indexParts i).1 r.attr 0 v) ∧
          (setParamCmd s ep i v).st.down = s.down ∧ (setParamCmd s ep i v).st.bankCfg = s.bankCfg))

/-- A refused commit applies nothing and leaves the staged set. A COMMIT_CONFIG that is refused leaves the staged set, the
waiting commit, the configuration of the banks and the cells to the banks as they were, and every attribute but LAST_REFUSAL
and DIAG of class 01 reads as before. Spec: 13_parameter_dictionary.md: Staging and commit. -/
def Obligations.RefusedCommitsChangeNothingInEffect : Prop :=
  ∀ (s : State) (ep : Fin 8) (t : CellTime) (h : BitVec 64), (commitConfig s ep t h).code ≠ 0 →
      (commitConfig s ep t h).st.staged = s.staged ∧ (commitConfig s ep t h).st.commit = s.commit ∧
      (commitConfig s ep t h).st.bankCfg = s.bankCfg ∧ (commitConfig s ep t h).st.down = s.down ∧
      (cellsWf parReset s.dict = true → ∀ cls inst attr off n, inst < 256 → attr < 256 → off + n ≤ 2 ^ 20 →
        ¬(cls = 1 ∧ inst = 0 ∧ (attr = 0x13 ∨ attr = 0x15)) →
        (commitConfig s ep t h).st.pAt n cls inst attr off = s.pAt n cls inst attr off)

/-- A claim grants a free buffer, the lowest of its pool, within the quota. When a claim of an endpoint grants buffer k: k
was free, is now HELD by that endpoint, and every other buffer is as before. From the general pool (below 248) the endpoint
was below its BUF_QUOTA and every lower buffer was taken. A buffer of 248 to 253 is granted to endpoint 0 only, with every
lower buffer of that range taken. Spec: 12_mailboxes.md: Message buffers. -/
def Obligations.BuffersAreClaimedOnce : Prop :=
  ∀ (s t : State) (ep : Fin 8) (k : Nat), s.claim ep = (some k, t) →
      bufState s k = none ∧ bufState t k = some (.held ep) ∧ (∀ j, j ≠ k → bufState t j = bufState s j) ∧
      (k < 248 → poolCount s ep < s.p 1 0x13 ep 0x06 ∧ ∀ j, j < k → bufState s j ≠ none) ∧
      (248 ≤ k → ep = 0 ∧ k < 254 ∧ ∀ j, 248 ≤ j → j < k → bufState s j ≠ none)

/-- A logic-side reset clears the logic die and leaves the banks and the AON domain. For every cause, in a sound state: the
banks, the load switches, the configuration the banks hold, the output sources and calibration coefficients of the universal
channels, the counts of the fast inputs, Heartwood and the hold-up state stay. The parameters in effect and staged and the
waiting commit are lost; Canopy, the mailboxes and the host serial link are as at reset; the schedule is empty; the time
base starts at 0 with rate 0 in its reset state. Spec: 18_startup_identity.md: Reset sources; 02_cell_time.md: Time states
and the servo. -/
def Obligations.ALogicResetLeavesTheBanks : Prop :=
  ∀ (s : State) (cause : Nat), s.Sound →
      (s.resetLogic cause).banks = s.banks ∧ (s.resetLogic cause).l = s.l ∧ (s.resetLogic cause).bankCfg = s.bankCfg ∧
      (s.resetLogic cause).heartwood = s.heartwood ∧ (s.resetLogic cause).sup.holdReady = s.sup.holdReady ∧
      (∀ u : Fin 16, ((s.resetLogic cause).u[u]).src = (s.u[u]).src ∧
        ((s.resetLogic cause).u[u]).coef = (s.u[u]).coef) ∧
      (∀ f : Fin 8, ((s.resetLogic cause).f[f]).count = (s.f[f]).count) ∧
      (s.resetLogic cause).dict = [] ∧ (s.resetLogic cause).staged = [] ∧ (s.resetLogic cause).commit = none ∧
      (s.resetLogic cause).canopy = State.reset.canopy ∧ (s.resetLogic cause).mbx = State.reset.mbx ∧
      (s.resetLogic cause).hsl = State.reset.hsl ∧ (s.resetLogic cause).sched = [] ∧
      (s.resetLogic cause).tb.counter = 0 ∧ (s.resetLogic cause).tb.rate = 0 ∧
      (s.resetLogic cause).tb.state = State.reset.tb.state

/-- Vector recovery passes a sequence number at most once in a row. For every history length of 1 to 32 and a reset time-out
above 0: when recovery has passed a frame with sequence number q, the same number received next, at the same time, is not
passed. Spec: 14_backbone_switch.md: Streams, IEEE 802.1CB and 802.1Qci. -/
def Obligations.ADuplicateOfAStreamIsDiscarded : Prop :=
  ∀ (s : State) (i : Nat) (c : StreamCfg) (q : BitVec 16), 0 < c.history → c.history ≤ 32 → 0 < c.timeoutMs →
      (s.recoverSeq i c q).2 = true → ((s.recoverSeq i c q).1.recoverSeq i c q).2 = false

/-- A pending authority epoch is replaced by a higher one only. An epoch at or below AUTH_EPOCH leaves the pending epoch,
the mailboxes and the pairs as they were. A higher one that exceeds the pending epoch becomes the pending one; one that does
not exceed it is ignored; so a pending epoch never falls. Spec: 15_cell_link.md: Arbitration frames; 16_redundancy.md:
Authority epochs. -/
def Obligations.APendingEpochOnlyRises : Prop :=
  ∀ (s : State) (e : Word) (m : Nat) (t : CellTime),
      (e.toNat ≤ authEpoch s → (s.takeEpoch e m t).gcl.pendingEpoch = s.gcl.pendingEpoch ∧
        (s.takeEpoch e m t).mbx = s.mbx ∧ (s.takeEpoch e m t).red = s.red) ∧
      (authEpoch s < e.toNat → (∀ x, s.gcl.pendingEpoch = some x → x.1 < e) →
        (s.takeEpoch e m t).gcl.pendingEpoch = some (e, m, t)) ∧
      (∀ x, s.gcl.pendingEpoch = some x → ¬ x.1 < e → (s.takeEpoch e m t).gcl.pendingEpoch = some x) ∧
      (∀ x y, s.gcl.pendingEpoch = some x → (s.takeEpoch e m t).gcl.pendingEpoch = some y → x.1 ≤ y.1)

/-- Journal records are numbered one after another, and a full RAM loses its oldest. Every record added takes the next
NUMBER, and the next number rises by one modulo 2^32. It is appended to the RAM buffer with its type and body; at 512
waiting records the oldest is discarded and counted in LOST, else LOST stays; the buffer never exceeds 512; the pages on the
NAND stay. Spec: 17_external_memory.md: Journal records. -/
def Obligations.JournalNumbersAreConsecutive : Prop :=
  ∀ (s : State) (typ : Nat) (unc : Bool) (body : List Byte),
      (s.addRecord typ unc body).jrn.next = s.jrn.next + 1 ∧
      (∃ r, (s.addRecord typ unc body).jrn.ram = (if 512 ≤ s.jrn.ram.length then s.jrn.ram.tail else s.jrn.ram) ++ [r]
        ∧
        r.number = s.jrn.next ∧ r.typ = typ ∧ r.body = body) ∧
      (s.jrn.ram.length ≤ 512 → (s.addRecord typ unc body).jrn.ram.length ≤ 512) ∧
      (s.addRecord typ unc body).jrn.pages = s.jrn.pages ∧
      (cellsWf parReset s.dict = true → (s.addRecord typ unc body).p 4 0x1A 0 0x0F =
        (if 512 ≤ s.jrn.ram.length then (s.p 4 0x1A 0 0x0F + 1) % 2 ^ 32 else s.p 4 0x1A 0 0x0F))

/-- Cells from a bank are taken up in their order and refresh the logic side; bad and repeated ones are not. The cell on the
line from a bank whose link is started is received. When its bytes pass the check, exec answers: for a STATUS frame and for
an idle cell of a bank that reports, the state after taking it; for a SAMPLE, COUNT, LSW, share report, outcome report or
CAL result cell that carries the expected SEQ, that SEQ is stepped and the content is handed to its receiver (a share report
to the one that is no arrival's); for an EDGE or FAULT cell of the express lane whose number is not the last one taken, the
number is noted and the content is handed on. A share report whose bytes fail the check counts a link error and nothing of
it is taken; one that passes but carries another SEQ than the expected one is heard and nothing of it is taken. In each case
the line then moves on to its next slot. Each clause gives the whole next state. Spec: 01_device_overview.md: Bank links;
08_coherent_io.md: Application; 07_fast_inputs.md: Edges, polarity and debounce. -/
def Obligations.CellsFromABankAreTaken : Prop :=
  (∀ (b : Fin 4) (hit : Noise) (vf flight : Nat) (c : StatusCell) (s : State), s.links[b].started = true →
      (s.banks[b]).reporting = true → (s.up[b]).line = .frame c → cellCheck (upBytes s.up[b]) hit = .good →
      exec (.statusCellReceived b hit vf flight) s = .next (((s.goodUp b).takeStatus b c vf flight).turnUp b)) ∧
  (∀ (b : Fin 4) (hit : Noise) (s : State), s.links[b].started = true → (s.banks[b]).reporting = true →
      (s.up[b]).line = .idle → cellCheck (upBytes s.up[b]) hit = .good →
      exec (.idleCellReceived b true hit) s = .next ((s.goodUp b).turnUp b)) ∧
  (∀ (b : Fin 4) (hit : Noise) (ss : List Sample) (s : State),
      s.links[b].started = true → (s.up[b]).line = .ord (s.up[b]).rxSeq (.sample ss) →
        cellCheck (upBytes s.up[b]) hit = .good →
      exec (.sampleCellReceived b hit) s = .next ((ss.foldl (fun y p => y.takeSample p) ((s.goodUp b).modUp b (fun d =>
        { d with rxSeq := d.rxSeq + 1 }))).turnUp b)) ∧
  (∀ (b : Fin 4) (hit : Noise) (q : BitVec 8) (again : Bool) (base : Nat) (rs : List EdgeWire) (s : State),
      s.links[b].started = true → (s.up[b]).line = .exp q again (.edge base rs) →
        cellCheck (upBytes s.up[b]) hit = .good → (s.up[b]).lastExp ≠ some q →
      exec (.edgeCellReceived b hit) s = .next ((rs.foldl (fun y r => y.takeEdge b (edgeBack base r)) ((s.goodUp
        b).modUp b (fun d => { d with lastExp := some q }))).turnUp b)) ∧
  (∀ (b : Fin 4) (hit : Noise) (cs : List CountFig) (s : State),
      s.links[b].started = true → (s.up[b]).line = .ord (s.up[b]).rxSeq (.count cs) →
        cellCheck (upBytes s.up[b]) hit = .good →
      exec (.countCellReceived b hit) s = .next ((((s.goodUp b).modUp b (fun d =>
        { d with rxSeq := d.rxSeq + 1 })).takeCount b cs).turnUp b)) ∧
  (∀ (b : Fin 4) (hit : Noise) (f : Figures) (ls : List GroupFig) (s : State),
      s.links[b].started = true → (s.up[b]).line = .ord (s.up[b]).rxSeq (.lsw f ls) →
        cellCheck (upBytes s.up[b]) hit = .good →
      exec (.lswCellReceived b hit) s = .next ((((s.goodUp b).modUp b (fun d =>
        { d with rxSeq := d.rxSeq + 1 })).takeLsw b f ls).turnUp b)) ∧
  (∀ (b : Fin 4) (hit : Noise) (q : BitVec 8) (again : Bool) (e : Raise) (n : Nat) (s : State),
      s.links[b].started = true → (s.up[b]).line = .exp q again (.fault e n) →
        cellCheck (upBytes s.up[b]) hit = .good → (s.up[b]).lastExp ≠ some q →
      exec (.faultCellReceived b hit) s = .next (((((s.goodUp b).modUp b (fun d =>
        { d with lastExp := some q })).pushRaise e).noteFault e n).turnUp b)) ∧
  (∀ (b : Fin 4) (hit : Noise) (a c : CellTime) (late : Bool) (s : State),
      s.links[b].started = true → (s.up[b]).line = .ord (s.up[b]).rxSeq (.share a c late) →
        cellCheck (upBytes s.up[b]) hit = .good → s.links[b].arrivalAt ≠ some a →
      exec (.shareReportReceived b hit) s = .next ((((s.goodUp b).modUp b (fun d =>
        { d with rxSeq := d.rxSeq + 1 })).shareReport b a late).turnUp b)) ∧
  (∀ (b : Fin 4) (hit : Noise) (h : BitVec 16) (code : Nat) (lag : Int) (t : CellTime) (unc frees : Bool) (s : State),
      s.links[b].started = true → (s.up[b]).line = .ord (s.up[b]).rxSeq (.outcome h code lag t unc frees) →
        cellCheck (upBytes s.up[b]) hit = .good →
      exec (.outcomeReportReceived b hit) s = .next ((((s.goodUp b).modUp b (fun d =>
        { d with rxSeq := d.rxSeq + 1 })).recordOutcome b h code lag t
        (recordUnc ((s.goodUp b).modUp b (fun d => { d with rxSeq := d.rxSeq + 1 })) t unc) frees).turnUp b)) ∧
  (∀ (b : Fin 4) (hit : Noise) (i : Fin 4) (f : Figures) (s : State),
      s.links[b].started = true → (s.up[b]).line = .ord (s.up[b]).rxSeq (.calResult i f) →
        cellCheck (upBytes s.up[b]) hit = .good →
      exec (.calCellReceived b true hit) s = .next ((((s.goodUp b).modUp b (fun d =>
        { d with rxSeq := d.rxSeq + 1 })).takeFigs [7] f).turnUp b)) ∧
  (∀ (b : Fin 4) (hit : Noise) (q : BitVec 8) (a c : CellTime) (late : Bool) (s : State), s.links[b].started = true →
      (s.up[b]).line = .ord q (.share a c late) → cellCheck (upBytes s.up[b]) hit ≠ .good →
      exec (.shareReportReceived b hit) s = .next ((s.linkError b).turnUp b)) ∧
  (∀ (b : Fin 4) (hit : Noise) (q : BitVec 8) (a c : CellTime) (late : Bool) (s : State), s.links[b].started = true →
      (s.up[b]).line = .ord q (.share a c late) → cellCheck (upBytes s.up[b]) hit = .good → q ≠ (s.up[b]).rxSeq →
      exec (.shareReportReceived b hit) s = .next ((s.goodUp b).turnUp b))

/-- Good cells to a bank are taken up in their order and act there. The cell on the line to a bank that hears its link is
received and its bytes pass the check. exec answers: for a CFG, counter write, OUT, SCHED, cancel marker or CAL trim cell
with the expected SEQ, that SEQ is stepped and the cell acts: its share is buffered, the counter written, the output's
immediate source changed at the instant it names, the schedule entry queued, the entries cancelled, the trims buffered; for
a FORCE or SAFE cell of the express lane whose number is not the last one taken, the number is noted and the force or safe
source is changed at the instant it names; an idle cell is only heard. In each case the line then moves on to its next slot.
Each clause gives the whole next state. Spec: 01_device_overview.md: Bank links; 01_device_overview.md: Output authority;
08_coherent_io.md: Cancellation. -/
def Obligations.CellsToABankAreTaken : Prop :=
  (∀ (b : Fin 4) (hit : Noise) (l : List Host.Cell) (s : State),
      bankHears s b = true → (s.down[b]).line = .ord (s.down[b]).rxSeq (.cfg l) →
        cellCheck (downBytes s.down[b]) hit = .good →
      exec (.cfgCellReceived b hit) s = .next ((((s.goodDown b).modDown b (fun d =>
        { d with rxSeq := d.rxSeq + 1 })).bufferShare b l).turnDown b)) ∧
  (∀ (b : Fin 4) (hit : Noise) (f : Fin 2) (v : Word) (s : State),
      bankHears s b = true → (s.down[b]).line = .ord (s.down[b]).rxSeq (.counter f v) →
        cellCheck (downBytes s.down[b]) hit = .good →
      exec (.counterWrite b hit) s = .next ((((s.goodDown b).modDown b (fun d =>
        { d with rxSeq := d.rxSeq + 1 })).writeCount (fOf b f) v).turnDown b)) ∧
  (∀ (b : Fin 4) (hit : Noise) (o : OutRef) (v : Int) (t : Option CellTime) (s : State),
      bankHears s b = true → (s.down[b]).line = .ord (s.down[b]).rxSeq (.out o v t) →
        cellCheck (downBytes s.down[b]) hit = .good →
      exec (.outCellReceived b hit) s = .next ((((s.goodDown b).modDown b (fun d =>
        { d with rxSeq := d.rxSeq + 1 })).deliver b o (.imm v) t).turnDown b)) ∧
  (∀ (b : Fin 4) (hit : Noise) (q : BitVec 8) (again : Bool) (o : OutRef) (v : Option Int) (t : Option CellTime) (s :
      State),
      bankHears s b = true → (s.down[b]).line = .exp q again (.force o v t) →
        cellCheck (downBytes s.down[b]) hit = .good → (s.down[b]).lastExp ≠ some q →
      exec (.forceCellReceived b hit) s = .next ((((s.goodDown b).modDown b (fun d =>
        { d with lastExp := some q })).deliver b o (.force v) t).turnDown b)) ∧
  (∀ (b : Fin 4) (hit : Noise) (q : BitVec 8) (again : Bool) (op : Nat) (outs : BitVec 8) (groups : BitVec 4) (level
      ident : Nat) (t : Option CellTime) (s : State),
      bankHears s b = true → (s.down[b]).line = .exp q again (.safe op outs groups level t ident) →
        cellCheck (downBytes s.down[b]) hit = .good → (s.down[b]).lastExp ≠ some q →
      exec (.safeCellReceived b hit) s = .next ((((s.goodDown b).modDown b (fun d =>
        { d with lastExp := some q })).safeCell b op outs groups t).turnDown b)) ∧
  (∀ (b : Fin 4) (hit : Noise) (r : SchedRec) (last : Bool) (s : State),
      bankHears s b = true → (s.down[b]).line = .ord (s.down[b]).rxSeq (.sched r last) →
        cellCheck (downBytes s.down[b]) hit = .good →
      exec (.schedCellReceived b hit) s = .next ((((s.goodDown b).modDown b (fun d =>
        { d with rxSeq := d.rxSeq + 1 })).takeSched b r last).turnDown b)) ∧
  (∀ (b : Fin 4) (hit : Noise) (sel kind target owner : Nat) (rel : Bool) (what : BitVec 16) (s : State),
      bankHears s b = true → (s.down[b]).line = .ord (s.down[b]).rxSeq (.cancel sel rel kind target what owner) →
        cellCheck (downBytes s.down[b]) hit = .good →
      exec (.cancelMarkerReceived b hit) s = .next ((((s.goodDown b).modDown b (fun d =>
        { d with rxSeq := d.rxSeq + 1 })).cancelIn b sel rel kind target what owner).turnDown b)) ∧
  (∀ (b : Fin 4) (hit : Noise) (i : Fin 4) (l : List Int) (s : State),
      bankHears s b = true → (s.down[b]).line = .ord (s.down[b]).rxSeq (.calTrim i l) →
        cellCheck (downBytes s.down[b]) hit = .good →
      exec (.calCellReceived b false hit) s = .next ((((s.goodDown b).modDown b (fun d =>
        { d with rxSeq := d.rxSeq + 1 })).bufferShare b (trimBytes b i l)).turnDown b)) ∧
  (∀ (b : Fin 4) (hit : Noise) (s : State), bankHears s b = true → (s.down[b]).line = .idle →
      cellCheck (downBytes s.down[b]) hit = .good → exec (.idleCellReceived b false hit) s = .next ((s.goodDown
        b).turnDown b))

/-- Bank links start, resend, fall silent and apply their shares at their instants. A link that has not started, 110 µs or
more after a reset and with the start past the firmware's phase, starts: its link-start SYNC is on the line in slot 0, both
SEQ counts it sends and the one it expects are 0, nothing is queued or unacknowledged, and the bank's own expected SEQ stays
until it hears the SYNC. A link-start SYNC with good bytes starts the link in the bank and sets its copy; one with bad bytes
only counts the error; a later SYNC sets the copy. 51.2 µs without a SYNC clears that bank's lock, and the end of a
rephasing its phase error, in that bank alone. A resend that is due puts the unacknowledged cells in line again and counts
it, in either direction. Silence for LINK_TIMEOUT makes a powered and arrived bank autonomous, and the logic side declare a
bank silent. A share, or an arrival, whose instant has come is applied, after the schedule entries due before it. Each
clause but those of the link start, the gap and the rephasing gives the whole next state. Spec: 01_device_overview.md: Bank
links; 02_cell_time.md: The bank copy of cell time; 10_firebreak.md: Bank autonomous safe state; 18_startup_identity.md:
Bank arrival. -/
def Obligations.BankLinkTimers : Prop :=
  (∀ (b : Fin 4) (s : State), s.sup.reset = none → 4 ≤ s.sup.phase → s.links[b].started = false →
      elapsed s s.sup.resetAt 110000000 = true → ∃ t, exec (.linkStart b) s = .next t ∧
        (t.down[b]).line = .frame (syncCell s b true) ∧ (t.down[b]).slot = 0 ∧
          (t.down[b]).ordSeq = 0 ∧ (t.down[b]).expSeq = 0 ∧
        (t.down[b]).unacked = [] ∧ (t.down[b]).queued = [] ∧ (t.down[b]).rxSeq = (s.down[b]).rxSeq ∧
        (t.up[b]).rxSeq = 0 ∧ (t.up[b]).lastExp = none ∧ t.links[b].started = true ∧ t.links[b].lastRx = s.tb.mono ∧
        t.links[b].delay = none ∧ t.sup.linksStarted = true) ∧
  (∀ (b : Fin 4) (a : Arrival) (c : SyncCell) (s : State), (s.down[b]).line = .frame c → c.start = true →
      bankHears s b = true → cellCheck (downBytes s.down[b]) a.hit = .good →
      exec (.linkStartSyncReceived b a) s =
        .next ((((s.goodDown b).linkStarted b).takeSync b c a.flight).turnDown b)) ∧
  (∀ (b : Fin 4) (a : Arrival) (c : SyncCell) (s : State), (s.down[b]).line = .frame c → c.start = true →
      bankHears s b = true → cellCheck (downBytes s.down[b]) a.hit ≠ .good →
      exec (.linkStartSyncReceived b a) s = .next ((s.linkError b).turnDown b)) ∧
  (∀ (b : Fin 4) (hit : Noise) (flight : Nat) (c : SyncCell) (s : State), (s.down[b]).line = .frame c →
      c.start = false →
      bankHears s b = true → cellCheck (downBytes s.down[b]) hit = .good →
      exec (.syncCellReceived b hit flight) s = .next (((s.goodDown b).takeSync b c flight).turnDown b)) ∧
  (∀ (b : Fin 4) (s : State), (s.banks[b]).powered = true → (s.banks[b]).everSync = true →
      elapsed s (s.banks[b]).lastSync 51200 = true →
      ∃ t, exec (.bankSyncGap b) s = .next t ∧ (t.banks[b]).syncs = 0 ∧ (t.banks[b]).lock = false ∧
        (t.banks[b]).copy = (s.banks[b]).copy ∧ ∀ c : Fin 4, c ≠ b → t.banks[c] = s.banks[c]) ∧
  (∀ (b : Fin 4) (s : State), phaseLeft (s.banks[b]) s.tb.mono = 0 →
      ∃ t, exec (.mclkRephaseEnd b) s = .next t ∧ (t.banks[b]).mclkErr = 0 ∧ ∀ c : Fin 4, c ≠ b →
        t.banks[c] = s.banks[c]) ∧
  (∀ (b : Fin 4) (s : State), resendDue s (s.up[b]) = true →
      exec (.cellResendTimeout b true) s = .next ((s.modUp b linkResend).inc 4 0x05 b 0x06)) ∧
  (∀ (b : Fin 4) (s : State), resendDue s (s.down[b]) = true →
      exec (.cellResendTimeout b false) s = .next ((s.modDown b linkResend).inc 4 0x05 b 0x06)) ∧
  (∀ (b : Fin 4) (s : State), (s.banks[b]).powered = true → (s.banks[b]).arrived = true →
      (s.banks[b]).autonomous = false →
      elapsed s (s.banks[b]).lastGood (leNat (s.bBytes b 4 0x10 0 0x05 (4 * b)) * 1000) = true →
      exec (.linkSilenceTimeout b) s = .next (s.setAutonomous b true)) ∧
  (∀ (b : Fin 4) (s : State), 1 ≤ bankState s b → bankState s b ≤ 3 →
      elapsed s s.links[b].lastRx (linkTimeout s b) = true → exec (.logicSilenceTimeout b) s = .next (s.goSilent b)) ∧
  (∀ (b : Fin 4) (a : CellTime) (s : State), (s.banks[b]).shareMark = some (a, false) →
      reached a (bankNow (s.banks[b])) = true →
      exec (.bankShareApply b) s = .next ((s.applyDue b false (some a)).applyShare b a false false)) ∧
  (∀ (b : Fin 4) (a : CellTime) (s : State), (s.banks[b]).shareMark = some (a, true) →
      reached a (bankNow (s.banks[b])) = true →
      exec (.bankArrivalInstant b) s = .next ((s.applyDue b false (some a)).applyShare b a true false))

/-- The time servo follows the grandmaster, loses it, and changes state as the rules say. exec answers the next state that
the rules give. A Sync on the selected and asCapable port in ACQUIRE, LOCKED or HOLDOVER is counted, its offset (receipt
less the grandmaster's time, the exchange delay and the asymmetry) updates the servo, and Sync is sent on; a Sync on another
port only counts. Three Sync intervals without an update move LOCKED to HOLDOVER and ACQUIRE to FREERUN. A choice of the
device itself where it is set as grandmaster and the state is FREERUN to HOLDOVER goes to GM_FREE; a choice of none in
ACQUIRE goes to FREERUN; another master on an asCapable port in FREERUN or a grandmaster state goes to ACQUIRE. Three
Announce intervals without an Announce on a port that had one clear its record and, on the selected port, the selection, and
the choice is made again. A holdover estimate beyond the bound sets TIME_UNCERTAIN. A Sync boundary passed sends Sync in a
grandmaster state with no role change waiting; one at or after the apply instant of a waiting role change, in another state,
takes the change up. A port in the master role sends an Announce when its interval has passed. Spec: 02_cell_time.md: Time
states and the servo; 02_cell_time.md: TIME_UNCERTAIN; 14_backbone_switch.md: gPTP on the ports. -/
def Obligations.TheServoFollowsTheGrandmaster : Prop :=
  (∀ (p : Fin 3) (rx : CellTime) (gm demand : Int) (s : State), s.tb.port = some p → s.ports[p].asCapable = true →
      (s.tb.state = 1 ∨ s.tb.state = 2 ∨ s.tb.state = 3) →
      exec (.gptpSyncReceived p rx gm demand) s =
        .next ((({ s.portCnt p 15 with sw := { s.sw with syncRx := s.sw.syncRx + 1 } } : State).servoUpdate
          (((ctGrid rx).toNat : Int) - (gm + (psUnits (s.p 4 0x15 p 0x0C) + psUnits (s.pI 4 0x15 p 0x09))))
            demand).sendSync (some p))) ∧
  (∀ (p : Fin 3) (rx : CellTime) (gm demand : Int) (s : State), s.tb.port ≠ some p →
      exec (.gptpSyncReceived p rx gm demand) s = .next (s.portCnt p 15)) ∧
  (∀ (s : State), elapsed s s.tb.lastUpdate (3 * syncInterval s) = true → s.tb.state = 2 →
      exec .syncLossTimeout s = .next (s.setTime 3)) ∧
  (∀ (s : State), elapsed s s.tb.lastUpdate (3 * syncInterval s) = true → s.tb.state = 1 →
      exec .syncLossTimeout s = .next (s.setTime 0)) ∧
  (∀ (s : State), s.p 1 0x04 0 0x06 = 1 → s.tb.state ≤ 3 →
      exec (.bestMasterChange .self) s = .next (((s.setGm (clockIdentity s) 0 none).ptpRoles none).setTime 4)) ∧
  (∀ (s : State), s.tb.state = 1 →
      exec (.bestMasterChange .noneFound) s = .next (((s.modTb (fun t => { t with port := none })).ptpRoles
        none).setTime 0)) ∧
  (∀ (p : Fin 3) (gm : BitVec 64) (steps : BitVec 16) (s : State), s.ports[p].asCapable = true →
      (s.tb.state = 0 ∨ s.tb.state ≥ 4) →
      exec (.bestMasterChange (.other p gm steps)) s = .next (((s.setGm gm steps (some p)).ptpRoles (some p)).toAcquire)) ∧
  (∀ (p : Fin 3) (c : MasterChoice) (s : State), s.tb.port = some p →
      s.ports[p].announceRx.any (fun t => elapsed s t (3 * announceInterval s)) = true →
      exec (.announceReceiptTimeout p c) s = .next (((s.modPort p (fun k => { k with announceRx := none })).modTb
        (fun t => { t with port := none })).selectMaster c)) ∧
  (∀ (p : Fin 3) (c : MasterChoice) (s : State), s.tb.port ≠ some p →
      s.ports[p].announceRx.any (fun t => elapsed s t (3 * announceInterval s)) = true →
      exec (.announceReceiptTimeout p c) s = .next ((s.modPort p (fun k => { k with announceRx := none })).selectMaster
        c)) ∧
  (∀ (s : State), (s.tb.state = 3 ∨ s.tb.state = 6) → uncBound s < holdoverEstimate s →
      exec .holdoverEvaluation s = .next (s.setUncertain 4)) ∧
  (∀ (s : State), syncBoundary s (now s) ≠ s.tb.boundary → s.tb.pendingRole = [] → 4 ≤ s.tb.state →
      exec .syncIntervalBoundary s = .next ((s.modTb (fun t => { t with boundary := syncBoundary s (now s) })).sendSync
        none)) ∧
  (∀ (s : State), syncBoundary s (now s) ≠ s.tb.boundary → s.tb.pendingRole ≠ [] → s.tb.state < 4 →
      reached s.tb.pendingAt (syncBoundary s (now s)) = true →
      exec .syncIntervalBoundary s = .next (s.modTb (fun t => { t with boundary := syncBoundary s (now s) })).takeRole) ∧
  (∀ (p : Fin 3) (s : State), s.ports[p].ptpRole = 1 → sinceLast s s.ports[p].announceAt (announceInterval s) = true →
      exec (.announceInterval p) s =
        .next ((s.modPort p (fun k => { k with announceAt := some s.tb.mono })).sendPtp p (ptpMessage 0xB 76)))

/-- PPS_IN sets the time base, PPS_OUT marks its seconds, and EPOCH_SET steps it. exec answers the next state that the rules
give, for an edge of the polarity set that is not within 40 ns of the one before and is captured on the 125 ps grid less
PPS_IN_DELAY. In GM_FREE with PPS as source the edge steps the time base, to the seconds written in PPS_TOD_SECONDS or else
to the nearest second, and goes to GM_PPS. In GM_PPS an edge within 10 µs of a whole second steers and records its offset,
and a waiting PPS_TOD_SECONDS then steps by whole seconds; an edge further away is only counted as rejected and sets its
event. 2.5 s without an accepted edge move GM_PPS to GM_HOLDOVER with its event. PPS_OUT rises within 2 ns of a second where
its mode lets it, and falls when its width has passed on the monotonic counter. EPOCH_SET of a sender that may configure
steps the time in GM_FREE and is READ_ONLY in every other state; its PPS_TOD_SECONDS is kept for the next edge. Spec:
02_cell_time.md: Grandmaster operation, PPS_IN and PPS_OUT. -/
def Obligations.PpsSetsAndIsSetByTheTimeBase : Prop :=
  (∀ (falling : Bool) (t : CellTime) (demand : Int) (cap : CellTime) (s : State),
      (s.p 1 0x04 0 0x0B == 1) = falling → tdcBlind s.tb.ppsArm (monoAt s t) = false →
      cap = ctGrid t - BitVec.ofNat 72 (nsUnits (s.p 2 0x04 0 0x14)) → s.tb.state = 4 →
      s.p 1 0x04 0 0x0A = 1 → s.tb.todPending = none →
      exec (.ppsInEdge falling t demand) s = .next ((((s.modTb (fun b =>
        { b with ppsIn := cap, ppsArm := some (monoAt s t) })).stepTime
          ((nearestSecond cap : Int) * secondUnits - cap.toNat)).modTb
          (fun b => { b with
              todApplied := b.todApplied || b.todPending.isSome, todPending := none, offset := 0,
              lastUpdate := b.mono })).setTime 5)) ∧
  (∀ (falling : Bool) (t : CellTime) (demand : Int) (cap : CellTime) (v : BitVec 64) (s : State),
      (s.p 1 0x04 0 0x0B == 1) = falling → tdcBlind s.tb.ppsArm (monoAt s t) = false →
      cap = ctGrid t - BitVec.ofNat 72 (nsUnits (s.p 2 0x04 0 0x14)) → s.tb.state = 4 →
      s.p 1 0x04 0 0x0A = 1 → s.tb.todPending = some v →
      exec (.ppsInEdge falling t demand) s = .next ((((s.modTb (fun b =>
        { b with ppsIn := cap, ppsArm := some (monoAt s t) })).stepTime
          ((v.toNat : Int) * secondUnits - cap.toNat)).modTb
          (fun b => { b with
              todApplied := b.todApplied || b.todPending.isSome, todPending := none, offset := 0,
              lastUpdate := b.mono })).setTime 5)) ∧
  (∀ (falling : Bool) (t : CellTime) (demand : Int) (cap : CellTime) (s : State),
      (s.p 1 0x04 0 0x0B == 1) = falling → tdcBlind s.tb.ppsArm (monoAt s t) = false →
      cap = ctGrid t - BitVec.ofNat 72 (nsUnits (s.p 2 0x04 0 0x14)) → s.tb.state = 5 →
      s.tb.todPending = none → ((cap.toNat : Int) - nearestSecond cap * secondUnits).natAbs ≤ nsUnits 10000 →
      exec (.ppsInEdge falling t demand) s = .next (((s.modTb (fun b =>
        { b with ppsIn := cap, ppsArm := some (monoAt s t) })).steer demand).modTb
        (fun b => { b with offset := (cap.toNat : Int) - nearestSecond cap * secondUnits, lastUpdate := b.mono }))) ∧
  (∀ (falling : Bool) (t : CellTime) (demand : Int) (cap : CellTime) (v : BitVec 64) (s : State),
      (s.p 1 0x04 0 0x0B == 1) = falling → tdcBlind s.tb.ppsArm (monoAt s t) = false →
      cap = ctGrid t - BitVec.ofNat 72 (nsUnits (s.p 2 0x04 0 0x14)) → s.tb.state = 5 →
      s.tb.todPending = some v → ((cap.toNat : Int) - nearestSecond cap * secondUnits).natAbs ≤ nsUnits 10000 →
      exec (.ppsInEdge falling t demand) s = .next (((((s.modTb (fun b =>
        { b with ppsIn := cap, ppsArm := some (monoAt s t) })).steer demand).modTb
        (fun b => { b with
            offset := (cap.toNat : Int) - nearestSecond cap * secondUnits, lastUpdate := b.mono })).stepTime
          (((v.toNat : Int) - nearestSecond cap) * secondUnits)).modTb (fun b =>
            { b with todApplied := true, todPending := none }))) ∧
  (∀ (falling : Bool) (t : CellTime) (demand : Int) (cap : CellTime) (s : State),
      (s.p 1 0x04 0 0x0B == 1) = falling → tdcBlind s.tb.ppsArm (monoAt s t) = false →
      cap = ctGrid t - BitVec.ofNat 72 (nsUnits (s.p 2 0x04 0 0x14)) → s.tb.state = 5 →
      nsUnits 10000 < ((cap.toNat : Int) - nearestSecond cap * secondUnits).natAbs →
      exec (.ppsInEdge falling t demand) s = .next (((s.modTb (fun b =>
        { b with ppsIn := cap, ppsArm := some (monoAt s t) })).inc 4 0x04 0 0x1E).tbEvent 6)) ∧
  (∀ (s : State), s.tb.state = 5 → elapsed s s.tb.lastUpdate 2500000000 = true →
      exec .ppsLostTimeout s = .next ((s.setTime 6).tbEvent 5)) ∧
  (∀ (s : State), s.tb.ppsOut = false → (ppsPhase s ≤ nsUnits 2 ∨ secondUnits - nsUnits 2 ≤ ppsPhase s) →
      (s.p 1 0x04 0 0x11 = 1 ∨ (s.p 1 0x04 0 0x11 = 2 ∧ s.tb.uncertain = false)) →
      ∃ t, exec .ppsOutRise s = .next t ∧ t.tb.ppsOut = true ∧ t.tb.ppsRiseAt = ctOf s.tb.mono) ∧
  (∀ (s : State), s.tb.ppsOut = true → nsUnits (s.p 4 0x04 0 0x12 * 1000) ≤ (ctOf s.tb.mono - s.tb.ppsRiseAt).toNat →
      ∃ t, exec .ppsOutFall s = .next t ∧ t.tb.ppsOut = false) ∧
  (∀ (q : Req) (v : BitVec 64) (s : State), mayConfigure s q.ep = true → s.tb.state = 4 →
      exec (.epochSet q v) s = .next (((s.setP 8 0x04 0 0x0D v.toNat).stepTime
        ((v.toNat : Int) * 256 - (now s).toNat)).finish q opSetParam 0 [])) ∧
  (∀ (q : Req) (v : BitVec 64) (s : State), mayConfigure s q.ep = true → s.tb.state ≠ 4 →
      exec (.epochSet q v) s = .next (s.finish q opSetParam rcReadOnly [])) ∧
  (∀ (q : Req) (v : BitVec 64) (s : State), mayConfigure s q.ep = true →
      exec (.ppsTodSeconds q v) s =
        .next (((s.setP 8 0x04 0 0x0C v.toNat).modTb (fun t => { t with todPending := some v })).finish q opSetParam 0
          []))

/-- Digital inputs are debounced, and a broken wire is found and ends. exec answers the next state that the rules give. A
comparator transition to the level already held does nothing; on a digital output it is stamped and the STATE bit follows
it; on a live digital input with a debounce it is stamped and no other channel changes; with DEBOUNCE 0 a new level is
accepted at once with its stamp. A debounce expiry of a universal input whose level has been held for DEBOUNCE accepts it at
the time it began, as an edge, or, when it is the first level after settling, as the state without an edge; where the time
has not passed or the level is the accepted one, nothing changes. The same for a fast input. A wire-break window of a
universal input stores the current; where WB_ENABLE is 0 or OPEN already says so, no more; a clean window clears OPEN and
ends UCF-01; a broken one sets OPEN and raises UCF-01, and a state of 1 then falls to 0 with a record, stamped at the
falling transition if the level is already 0 and at the window's end if not. For a fast input with wire-break watching a
clean window clears OPEN and ends FTI-01, a broken one sets OPEN, raises FTI-01 and stops the frequency, and a state of 1
falls to 0; otherwise nothing changes. Spec: 03_universal_channels.md: Digital inputs; 03_universal_channels.md: Wire break
on digital inputs; 07_fast_inputs.md: Edges, polarity and debounce; 07_fast_inputs.md: Wire break. -/
def Obligations.DigitalInputsAreDebouncedAndWatched : Prop :=
  (∀ (u : Fin 16) (level : Bool) (t : CellTime) (s : State), level = s.u[u].db.level →
      exec (.diComparatorTransition u level t) s = .next s) ∧
  (∀ (u : Fin 16) (level : Bool) (t : CellTime) (s : State), level ≠ s.u[u].db.level → uMode s u = 3 →
      (s.banks[bankOfU u]).arrived = true →
      exec (.diComparatorTransition u level t) s = .next ((s.comparatorU u level t).uLive u 0 level)) ∧
  (∀ (u : Fin 16) (level : Bool) (t : CellTime) (s : State), level ≠ s.u[u].db.level → diLive s u = true →
      s.b (bankOfU u) 2 0x06 u 0x0D ≠ 0 →
      ∃ x, exec (.diComparatorTransition u level t) s = .next x ∧ x.u[u].db.level = level ∧
        x.u[u].db.since = (stampU s.u[u].db level (bankMono s (bankOfU u) t) t).1 ∧ x.u[u].db.state = s.u[u].db.state ∧
        ∀ v : Fin 16, v ≠ u → x.u[v] = s.u[v]) ∧
  (∀ (u : Fin 16) (level : Bool) (t : CellTime) (s : State), level ≠ s.u[u].db.level → diLive s u = true →
      s.b (bankOfU u) 2 0x06 u 0x0D = 0 → level ≠ s.u[u].db.state → s.u[u].db.fresh = false →
      exec (.diComparatorTransition u level t) s =
        .next ((s.comparatorU u level t).acceptU u level (stampU s.u[u].db level (bankMono s (bankOfU u) t) t).1)) ∧
  (∀ (u : Fin 16) (s : State), diLive s u = true → nsUnits (s.b (bankOfU u) 2 0x06 u 0x0D * 1000) ≤ (bankNow
      (s.banks[bankOfU u]) - s.u[u].db.since).toNat → s.u[u].db.fresh = false → s.u[u].db.level ≠ s.u[u].db.state →
      exec (.debounceExpiry (.uni u)) s = .next (s.acceptU u s.u[u].db.level s.u[u].db.since)) ∧
  (∀ (u : Fin 16) (s : State), diLive s u = true → nsUnits (s.b (bankOfU u) 2 0x06 u 0x0D * 1000) ≤ (bankNow
      (s.banks[bankOfU u]) - s.u[u].db.since).toNat → s.u[u].db.fresh = true →
      exec (.debounceExpiry (.uni u)) s =
        .next ((s.modU u (fun k => { k with db := { k.db with fresh := false, state := k.db.level } })).uLive u 0
          s.u[u].db.level)) ∧
  (∀ (u : Fin 16) (s : State), ((bankNow (s.banks[bankOfU u]) - s.u[u].db.since).toNat < nsUnits (s.b (bankOfU u) 2
      0x06 u 0x0D * 1000) ∨ (s.u[u].db.fresh = false ∧ s.u[u].db.level = s.u[u].db.state)) →
      exec (.debounceExpiry (.uni u)) s = .next s) ∧
  (∀ (f : Fin 8) (s : State), (s.banks[bankOfF f]).arrived = true →
      nsUnits (s.b (bankOfF f) 2 0x0C f 0x04 * 1000) ≤ (bankNow (s.banks[bankOfF f]) - s.f[f].db.since).toNat →
      s.f[f].db.level ≠ s.f[f].db.state →
      exec (.debounceExpiry (.fast f)) s = .next (s.acceptF f s.f[f].db.level s.f[f].db.since)) ∧
  (∀ (f : Fin 8) (s : State), ((bankNow (s.banks[bankOfF f]) - s.f[f].db.since).toNat < nsUnits (s.b (bankOfF f) 2 0x0C
      f 0x04 * 1000) ∨ s.f[f].db.level = s.f[f].db.state) →
      exec (.debounceExpiry (.fast f)) s = .next s) ∧
  (∀ (u : Fin 16) (below : Bool) (cur : Int) (s : State), diLive s u = true →
      (s.b (bankOfU u) 1 0x06 u 0x0E = 0 ∨ below = uBit s u 1) →
      exec (.wireBreakWindowExpiry (.uni u) below cur) s = .next (s.modU u (fun k => { k with diCurrent := cur }))) ∧
  (∀ (u : Fin 16) (cur : Int) (s : State), diLive s u = true → s.b (bankOfU u) 1 0x06 u 0x0E ≠ 0 → uBit s u 1 = true →
      exec (.wireBreakWindowExpiry (.uni u) false cur) s =
        .next (((s.modU u (fun k => { k with diCurrent := cur })).uFlag u 1 false).bankEnd (bankOfU u) (ident .ucf 1) 2
          u)) ∧
  (∀ (u : Fin 16) (cur : Int) (s : State), diLive s u = true → s.b (bankOfU u) 1 0x06 u 0x0E ≠ 0 →
      uBit s u 1 = false → (s.u[u].db.fresh = true ∨ s.u[u].db.state = false) →
      exec (.wireBreakWindowExpiry (.uni u) true cur) s =
        .next (((s.modU u (fun k => { k with diCurrent := cur })).uFlag u 1 true).bankRaise (bankOfU u) (ident .ucf 1) 2
          u)) ∧
  (∀ (u : Fin 16) (cur : Int) (s : State), diLive s u = true → s.b (bankOfU u) 1 0x06 u 0x0E ≠ 0 →
      uBit s u 1 = false → s.u[u].db.fresh = false → s.u[u].db.state = true → s.u[u].db.level = false →
      exec (.wireBreakWindowExpiry (.uni u) true cur) s =
        .next ((((s.modU u (fun k => { k with diCurrent := cur })).uFlag u 1 true).bankRaise (bankOfU u) (ident .ucf 1)
          2 u).acceptU u
          false s.u[u].db.since)) ∧
  (∀ (u : Fin 16) (cur : Int) (s : State), diLive s u = true → s.b (bankOfU u) 1 0x06 u 0x0E ≠ 0 →
      uBit s u 1 = false → s.u[u].db.fresh = false → s.u[u].db.state = true → s.u[u].db.level = true →
      exec (.wireBreakWindowExpiry (.uni u) true cur) s =
        .next (((((s.modU u (fun k => { k with diCurrent := cur })).uFlag u 1 true).bankRaise (bankOfU u) (ident .ucf 1)
          2 u).acceptU u
          false (ctGrid (bankNow (s.banks[bankOfU u])))).modU u (fun k => { k with
            db := { k.db with since := ctGrid (bankNow (s.banks[bankOfU u])) } }))) ∧
  (∀ (f : Fin 8) (cur : Int) (s : State), (s.banks[bankOfF f]).arrived = true →
      s.b (bankOfF f) 1 0x0C f 0x1C = 1 → fBit s f 1 = true →
      exec (.wireBreakWindowExpiry (.fast f) false cur) s = .next ((s.fFlag f 1 false).bankEnd (bankOfF f) (ident .fti
        1) 5 f)) ∧
  (∀ (f : Fin 8) (cur : Int) (s : State), (s.banks[bankOfF f]).arrived = true →
      s.b (bankOfF f) 1 0x0C f 0x1C = 1 → fBit s f 1 = false → s.f[f].db.state = false →
      exec (.wireBreakWindowExpiry (.fast f) true cur) s = .next (((s.fFlag f 1 true).bankRaise (bankOfF f) (ident .fti
        1) 5 f).stopF f)) ∧
  (∀ (f : Fin 8) (cur : Int) (t : CellTime) (s : State), (s.banks[bankOfF f]).arrived = true →
      s.b (bankOfF f) 1 0x0C f 0x1C = 1 → fBit s f 1 = false → s.f[f].db.state = true →
      t = (bif s.f[f].db.level then ctGrid (bankNow (s.banks[bankOfF f])) else s.f[f].db.since) →
      exec (.wireBreakWindowExpiry (.fast f) true cur) s =
        .next (((((((s.fFlag f 1 true).bankRaise (bankOfF f) (ident .fti 1) 5 f).stopF f).fFlag f 0 false).modF f (fun x
          => { x with
          db := { x.db with state := false, since := bif s.f[f].db.level then t else x.db.since }
            })).syncAB (pairFirst f) t).triggerRecord
            f true t)) ∧
  (∀ (f : Fin 8) (below : Bool) (cur : Int) (s : State), (s.b (bankOfF f) 1 0x0C f 0x1C ≠ 1 ∨ below = fBit s f 1) →
      exec (.wireBreakWindowExpiry (.fast f) below cur) s = .next s)

/-- Analogue inputs are tested, protected, and settle before they sample. exec answers the next state that the rules give. A
settled voltage input with wire-break testing begins an open-terminal test at the next wide tap when 960 taps (10 ms) have
passed since the last, and puts it off where a rotation overlap is near. The result of a running test, when its slot has
ended, opens the input with UCF-01 when it lies above its limit and OPEN is not set, and closes it when it does not and OPEN
is set. A current input that is not opened enters and leaves its limiter; 10 ms in the limiter opens it, sets OVER and
raises UCF-05; after 1 s it closes again, and 1.01 s after the opening, without limiting, UCF-05 ends. A saturation of more
than 9,600 words raises UCF-09 once. A front end whose settling time has come is settled: a digital input with a debounce
begins it, without one takes its present level as the state; an analogue channel's filter chain starts. Spec:
03_universal_channels.md: Analogue inputs; 03_universal_channels.md: Channel faults; 05_filter_chain.md: Settling after a
change. -/
def Obligations.AnalogueInputsAreProtected : Prop :=
  (∀ (u : Fin 16) (s : State), (s.banks[bankOfU u]).arrived = true → isAiv (uMode s u) = true →
      s.u[u].settled = true → s.b (bankOfU u) 1 0x06 u 0x0E = 1 → overlapNear s u = false →
      s.u[u].testTap.all (fun t => decide (t + 960 ≤ tapNext (bankUnits s (bankOfU u)))) = true →
      exec (.openTerminalTest u none) s =
        .next (s.modU u (fun k => { k with testTap := some (tapNext (bankUnits s (bankOfU u))), testing := true }))) ∧
  (∀ (u : Fin 16) (s : State), (s.banks[bankOfU u]).arrived = true → isAiv (uMode s u) = true →
      s.u[u].settled = true → s.b (bankOfU u) 1 0x06 u 0x0E = 1 → overlapNear s u = true →
      exec (.openTerminalTest u none) s = .next s) ∧
  (∀ (u : Fin 16) (r : Int) (s : State), (s.banks[bankOfU u]).arrived = true →
      isAiv (uMode s u) = true → s.u[u].settled = true → s.b (bankOfU u) 1 0x06 u 0x0E = 1 →
      s.u[u].testing = true → s.u[u].testTap.any (fun t => decide (perTime (64 * (t + 2)) ≤ bankUnits s (bankOfU u))) =
      true → 200000 < r - physOfX (uMode s u) s.u[u].chain.lastX → uBit s u 1 = false →
      exec (.openTerminalTest u (some r)) s = .next ((s.modU u (fun k => { k with testing := false })).openA u (ident
        .ucf 1))) ∧
  (∀ (u : Fin 16) (r : Int) (s : State), (s.banks[bankOfU u]).arrived = true →
      isAiv (uMode s u) = true → s.u[u].settled = true → s.b (bankOfU u) 1 0x06 u 0x0E = 1 →
      s.u[u].testing = true → s.u[u].testTap.any (fun t => decide (perTime (64 * (t + 2)) ≤ bankUnits s (bankOfU u))) =
      true → r - physOfX (uMode s u) s.u[u].chain.lastX ≤ 200000 → uBit s u 1 = true →
      exec (.openTerminalTest u (some r)) s = .next ((s.modU u (fun k => { k with testing := false })).closeA u (ident
        .ucf 1))) ∧
  (∀ (u : Fin 16) (s : State), (s.banks[bankOfU u]).arrived = true → (uMode s u = 7 ∨ uMode s u = 8) →
      s.u[u].inputOpen = false →
      exec (.protectOff ⟨u, .enter⟩) s = .next (s.limitOn u)) ∧
  (∀ (u : Fin 16) (s : State), (s.banks[bankOfU u]).arrived = true → (uMode s u = 7 ∨ uMode s u = 8) →
      s.u[u].inputOpen = false →
      exec (.protectOff ⟨u, .leave⟩) s = .next (s.limitOff u)) ∧
  (∀ (u : Fin 16) (s : State), (s.banks[bankOfU u]).arrived = true → (uMode s u = 7 ∨ uMode s u = 8) →
      s.u[u].inputOpen = false → s.u[u].limitAt.any (fun t => decide (nsUnits 10000000 ≤ (bankNow (s.banks[bankOfU u]) -
      t).toNat)) = true →
      exec (.protectOff ⟨u, .expire⟩) s = .next ((((s.limitOff u).uFlag u 3 true).modU u (fun k => { k with
        inputOpen := true, offAt := bankNow (s.banks[bankOfU u]), lowRun := 0,
          highRun := 0 })).bankRaise (bankOfU u) (ident .ucf 5) 2 u)) ∧
  (∀ (u : Fin 16) (s : State), s.u[u].inputOpen = true → nsUnits 1000000000 ≤ (bankNow (s.banks[bankOfU u]) -
      s.u[u].offAt).toNat →
      exec (.protectOffReclose u false) s = .next ((s.uLive u 3 false).modU u (fun k => { k with inputOpen := false }))) ∧
  (∀ (u : Fin 16) (s : State), s.u[u].inputOpen = false → s.u[u].limitAt = none → s.u[u].offAt ≠ 0 →
      nsUnits 1010000000 ≤ (bankNow (s.banks[bankOfU u]) - s.u[u].offAt).toNat →
      exec (.protectOffReclose u true) s =
        .next ((s.modU u (fun k => { k with offAt := 0 })).bankEnd (bankOfU u) (ident .ucf 5) 2 u)) ∧
  (∀ (u : Fin 16) (s : State), isAi (uMode s u) = true → (s.u[u].status.getLsbD 3 = true ∨
      s.u[u].status.getLsbD 4 = true) → 9600 < s.u[u].satRun → s.u[u].rangeRaised = false →
      exec (.overRangePersist u) s =
        .next ((s.modU u (fun k => { k with rangeRaised := true })).bankRaise (bankOfU u) (ident .ucf 9) 2 u)) ∧
  (∀ (u : Fin 16) (s : State), (s.banks[bankOfU u]).arrived = true → s.u[u].settled = false →
      reached s.u[u].settleAt (bankNow (s.banks[bankOfU u])) = true → isDi (uMode s u) = true →
      s.b (bankOfU u) 2 0x06 u 0x0D ≠ 0 →
      exec (.frontEndSettled u) s = .next ((s.modU u (fun k => { k with settled := true })).modU u (fun k => { k with
        db := { k.db with since := bankNow (s.banks[bankOfU u]), fresh := true } }))) ∧
  (∀ (u : Fin 16) (s : State), (s.banks[bankOfU u]).arrived = true → s.u[u].settled = false →
      reached s.u[u].settleAt (bankNow (s.banks[bankOfU u])) = true → isDi (uMode s u) = true →
      s.b (bankOfU u) 2 0x06 u 0x0D = 0 →
      exec (.frontEndSettled u) s = .next (((s.modU u (fun k => { k with settled := true })).modU u (fun k => { k with
        db := { k.db with since := bankNow (s.banks[bankOfU u]), fresh := false, state := k.db.level }
          })).uLive u 0 s.u[u].db.level)) ∧
  (∀ (u : Fin 16) (s : State), (s.banks[bankOfU u]).arrived = true → s.u[u].settled = false →
      reached s.u[u].settleAt (bankNow (s.banks[bankOfU u])) = true → isDi (uMode s u) = false →
      isAnalogue (uMode s u) = true →
      exec (.frontEndSettled u) s = .next ((s.modU u (fun k => { k with settled := true })).modU u (fun k => { k with
        chain := { k.chain with
          holdAt := none, resetAt := perAfter s.u[u].settleAt.toNat, lastTap := none,
          state := if s.u[u].chain.state = 1 then 2 else s.u[u].chain.state } })))

/-- Digital outputs switch off on a short, retry, and report open loads and shorts to supply. exec answers the next state
that the rules give. A live digital output that is on enters and leaves its current limit. A limit that has lasted SC_TIME
switches it off: the first time, where DO_RETRY is 0, with UCF-02 and its latch; while the short stands and retries remain,
as one more retry; at the eighth, with its latch. A switched-off output that is not latched restarts 100 ms later, and when
it has then run 100 ms without limiting its short ends. With open-load testing an open load sets OPEN and raises UCF-03
while on, and its end clears and ends them; a short to supply sets SHORT and raises UCF-06 while off, and its end clears
SHORT, unless a short circuit stands, and ends UCF-06. Spec: 03_universal_channels.md: Digital output;
03_universal_channels.md: Channel faults. -/
def Obligations.DigitalOutputsProtectThemselves : Prop :=
  (∀ (u : Fin 16) (s : State), doLive s u = true → doOn s u = true →
      exec (.doScTimeExpiry ⟨u, .enter⟩) s = .next (s.limitOn u)) ∧
  (∀ (u : Fin 16) (s : State), doLive s u = true → doOn s u = true →
      exec (.doScTimeExpiry ⟨u, .leave⟩) s = .next (s.limitOff u)) ∧
  (∀ (u : Fin 16) (s : State), doLive s u = true → doOn s u = true →
      s.u[u].limitAt.any (fun t => decide (nsUnits (s.b (bankOfU u) 2 0x06 u 0x14 * 1000) ≤ (bankNow (s.banks[bankOfU
      u]) - t).toNat)) = true → s.u[u].scShort = false → s.b (bankOfU u) 1 0x06 u 0x15 = 0 →
      exec (.doScTimeExpiry ⟨u, .expire⟩) s = .next (((((s.uFlag u 2 true).modU u (fun k => { k with
        scShort := true, scOff := true, retries := s.u[u].retries, offAt := bankNow (s.banks[bankOfU u]) })).bankRaise
          (bankOfU u) (ident .ucf 2) 2 u).uFlag u 6 true).driveDo u)) ∧
  (∀ (u : Fin 16) (s : State), doLive s u = true → doOn s u = true →
      s.u[u].limitAt.any (fun t => decide (nsUnits (s.b (bankOfU u) 2 0x06 u 0x14 * 1000) ≤ (bankNow (s.banks[bankOfU
      u]) - t).toNat)) = true → s.u[u].scShort = true → s.b (bankOfU u) 1 0x06 u 0x15 ≠ 0 → s.u[u].retries + 1 < 8 →
      exec (.doScTimeExpiry ⟨u, .expire⟩) s = .next (((s.uFlag u 2 true).modU u (fun k => { k with
        scShort := true, scOff := true, retries := s.u[u].retries + 1,
          offAt := bankNow (s.banks[bankOfU u]) })).driveDo u)) ∧
  (∀ (u : Fin 16) (s : State), doLive s u = true → doOn s u = true →
      s.u[u].limitAt.any (fun t => decide (nsUnits (s.b (bankOfU u) 2 0x06 u 0x14 * 1000) ≤ (bankNow (s.banks[bankOfU
      u]) - t).toNat)) = true → s.u[u].scShort = true → 8 ≤ s.u[u].retries + 1 →
      exec (.doScTimeExpiry ⟨u, .expire⟩) s = .next ((((s.uFlag u 2 true).modU u (fun k => { k with
        scShort := true, scOff := true, retries := s.u[u].retries + 1,
          offAt := bankNow (s.banks[bankOfU u]) })).uFlag u 6 true).driveDo u)) ∧
  (∀ (u : Fin 16) (s : State), doLive s u = true → s.u[u].scShort = true →
      s.u[u].status.getLsbD 6 = false → s.u[u].scOff = true →
      nsUnits 100000000 ≤ (bankNow (s.banks[bankOfU u]) - s.u[u].offAt).toNat →
      exec (.doRestart u false) s =
        .next ((s.modU u (fun k => { k with scOff := false, doLimitRun := bankNow (s.banks[bankOfU u]) })).driveDo u)) ∧
  (∀ (u : Fin 16) (s : State), doLive s u = true → doOn s u = true → s.u[u].scShort = true →
      s.u[u].status.getLsbD 6 = false → s.u[u].scOff = false → s.u[u].limitAt = none →
      nsUnits 100000000 ≤ (bankNow (s.banks[bankOfU u]) - s.u[u].doLimitRun).toNat →
      exec (.doRestart u true) s = .next (s.scEnd u)) ∧
  (∀ (u : Fin 16) (s : State), doLive s u = true → doOn s u = true → s.b (bankOfU u) 1 0x06 u 0x16 = 1 →
      uBit s u 1 = false →
      exec (.doOpenLoad u true) s = .next ((s.uFlag u 1 true).bankRaise (bankOfU u) (ident .ucf 3) 2 u)) ∧
  (∀ (u : Fin 16) (s : State), doLive s u = true → uBit s u 1 = true →
      exec (.doOpenLoad u false) s = .next ((s.uFlag u 1 false).bankEnd (bankOfU u) (ident .ucf 3) 2 u)) ∧
  (∀ (u : Fin 16) (s : State), doLive s u = true → doOn s u = false → s.u[u].shortTest = false →
      exec (.doShortToSupply u true) s =
        .next (((s.uFlag u 2 true).modU u (fun k => { k with shortTest := true })).bankRaise (bankOfU u) (ident .ucf 6)
          2 u)) ∧
  (∀ (u : Fin 16) (s : State), doLive s u = true → s.u[u].shortTest = true →
      exec (.doShortToSupply u false) s = .next (((s.uLive u 2 s.u[u].scShort).modU u (fun k => { k with
        shortTest := false })).bankEnd (bankOfU u) (ident .ucf 6) 2 u))

/-- Channels decimate, deliver samples on their grid and synchronise their decimators. exec answers the next state that the
rules give, for a bank that has arrived. A wide-tap word drives its channel, or as the fifth the relief converter, when the
calibration is held. A main sample of an older grid that is due leaves the waiting ones and is delivered, or, from a chain
that was not good, suppressed. With none of those due, the due instant of the present grid is delivered once when the chain
is not settling; while it settles it is suppressed before half a filter length after the settled instant, and from there on
delivered with SETTLING cleared. A decimator synchronisation with nothing due does nothing; one that is due first applies a
share of the same instant, then restarts its channels, cuts the rotation short, drops the estimate and is journalled. A
coefficient parity error raises DFC-02 and restarts a chain that has a grid and is not held. A SYNC_IN edge requests a
synchronisation of every enabled channel and raises DFC-03 for those where one waits; one within 40 ns of the last does
nothing. SYNC_AT is answered, and refused with NOT_AUTHORITY from a sender that may not configure. Spec: 05_filter_chain.md:
The stages; 05_filter_chain.md: Output grid and resampler; 05_filter_chain.md: Decimator synchronisation;
04_precision_conversion.md: Converters and references. -/
def Obligations.ChannelsDecimateAndMeasure : Prop :=
  (∀ (b : Fin 4) (i : Fin 4) (m : List (BitVec 5)) (s : State), (s.banks[b]).arrived = true →
      (s.banks[b]).calHeld = true →
      exec (.wideTapWord b ⟨i.val, by omega⟩ m) s = .next (channelWord s (uOf b i) m)) ∧
  (∀ (b : Fin 4) (m : List (BitVec 5)) (s : State), (s.banks[b]).arrived = true → (s.banks[b]).calHeld = true →
      exec (.wideTapWord b 4 m) s = .next (reliefWord s b m)) ∧
  (∀ (u : Fin 16) (m : OutMeas) (o : OldSample) (s : State),
      (s.banks[bankOfU u]).arrived = true → s.u[u].chain.old.find? (fun o => decide (o.at_ + o.grid.delay ≤ perOf
      (bankUnits s (bankOfU u)))) = some o → o.good = true →
      exec (.mainSampleDue u m) s = .next ((s.modU u (fun k => { k with
        chain := { k.chain with old := k.chain.old.erase o } })).deliverMain u o.grid o.at_ o.held m)) ∧
  (∀ (u : Fin 16) (m : OutMeas) (o : OldSample) (s : State),
      (s.banks[bankOfU u]).arrived = true → s.u[u].chain.old.find? (fun o => decide (o.at_ + o.grid.delay ≤ perOf
      (bankUnits s (bankOfU u)))) = some o → o.good = false →
      exec (.mainSampleDue u m) s = .next ((s.modU u (fun k => { k with
        chain := { k.chain with old := k.chain.old.erase o } })).suppress u o.grid o.at_)) ∧
  (∀ (u : Fin 16) (m : OutMeas) (g : Grid) (t : Nat) (s : State),
      (s.banks[bankOfU u]).arrived = true → s.u[u].chain.old.find? (fun o => decide (o.at_ + o.grid.delay ≤ perOf
      (bankUnits s (bankOfU u)))) = none → s.u[u].chain.grid = some g →
      gridDue g (bankUnits s (bankOfU u)) = some t → s.u[u].chain.lastMain.any (fun l => decide (t ≤ l)) = false →
      s.u[u].chain.changeAt ≤ perTime t → s.u[u].chain.settling = false →
      exec (.mainSampleDue u m) s =
        .next ((s.modU u (fun k => { k with chain := { k.chain with lastMain := some t } })).deliverMain u g t none m)) ∧
  (∀ (u : Fin 16) (m : OutMeas) (g : Grid) (t : Nat) (s : State),
      (s.banks[bankOfU u]).arrived = true → s.u[u].chain.old.find? (fun o => decide (o.at_ + o.grid.delay ≤ perOf
      (bankUnits s (bankOfU u)))) = none → s.u[u].chain.grid = some g →
      gridDue g (bankUnits s (bankOfU u)) = some t → s.u[u].chain.lastMain.any (fun l => decide (t ≤ l)) = false →
      s.u[u].chain.changeAt ≤ perTime t → s.u[u].chain.settling = true →
      s.u[u].chain.settledAt + halfUnits g ≤ perTime t →
      exec (.mainSampleDue u m) s = .next (((((s.modU u (fun k =>
        { k with chain := { k.chain with lastMain := some t } })).uLive u 8 false).modU u
        (fun k => { k with chain := { k.chain with settling := false, oldGrid := none, state := 3 } })).deliverMain u g
          t none m))) ∧
  (∀ (u : Fin 16) (m : OutMeas) (g : Grid) (t : Nat) (s : State),
      (s.banks[bankOfU u]).arrived = true → s.u[u].chain.old.find? (fun o => decide (o.at_ + o.grid.delay ≤ perOf
      (bankUnits s (bankOfU u)))) = none → s.u[u].chain.grid = some g →
      gridDue g (bankUnits s (bankOfU u)) = some t → s.u[u].chain.lastMain.any (fun l => decide (t ≤ l)) = false →
      s.u[u].chain.changeAt ≤ perTime t → s.u[u].chain.settling = true →
      perTime t < s.u[u].chain.settledAt + halfUnits g →
      exec (.mainSampleDue u m) s =
        .next ((s.modU u (fun k => { k with chain := { k.chain with lastMain := some t } })).suppress u g t)) ∧
  (∀ (b : Fin 4) (s : State), (s.banks[b]).arrived = true → syncDue s b = [] →
      exec (.decimatorSyncInstant b) s = .next s) ∧
  (∀ (b : Fin 4) (d : Fin 16 × Nat) (ds : List (Fin 16 × Nat)) (s : State), (s.banks[b]).arrived = true →
      syncDue s b = d :: ds →
      exec (.decimatorSyncInstant b) s = .next ((((((d :: ds).foldl (fun x p => x.syncChannel p.1 p.2) (s.shareFirst b
          (perTime d.2))).cutShort b).dropEstimate b).modBank b (fun k => { k with reliefSinc := sincReset })).journalAt
            0x07
        (leBytes 2 (((d :: ds).map (·.1)).foldl (fun (n : Nat) (u : Fin 16) => n + 2 ^ u.val) 0) ++ leBytes 1
          s.u[d.1].chain.syncSource))) ∧
  (∀ (u : Fin 16) (s : State), (s.banks[bankOfU u]).arrived = true →
      s.u[u].chain.grid.isSome = true → s.u[u].chain.holdAt.isNone = true →
      exec (.filterParityError u) s = .next ((s.bankRaise (bankOfU u) (ident .dfc 2) 1 (bankOfU u)).restartU u
        (bankUnits s (bankOfU u)) (bankUnits s (bankOfU u)) false true)) ∧
  (∀ (u : Fin 16) (s : State), (s.banks[bankOfU u]).arrived = true → (s.u[u].chain.grid = none ∨
      s.u[u].chain.holdAt ≠ none) →
      exec (.filterParityError u) s = .next (s.bankRaise (bankOfU u) (ident .dfc 2) 1 (bankOfU u))) ∧
  (∀ (t : CellTime) (on : List (Fin 16)) (s : State), tdcBlind s.tb.syncArm (monoAt s t) = false →
      on = allU.filter (fun (u : Fin 16) => natBit (s.p 1 0x08 u 0x07) 0) →
      exec (.syncInEdge t) s = .next ((on.filter (fun u => !syncWaits s u 0)).foldl
        (fun x u => (x.requestSync [u] (ctAddNs (ctGrid t) (s.p 4 0x08 u 0x08 * 1000)) 0).2)
        ((on.filter (fun u => syncWaits s u 0)).foldl (fun x (u : Fin 16) => x.raise (ident .dfc 3) 2 u)
          (s.modTb (fun b => { b with syncIn := ctGrid t, syncArm := some (monoAt s t) }))))) ∧
  (∀ (t : CellTime) (s : State), tdcBlind s.tb.syncArm (monoAt s t) = true →
      exec (.syncInEdge t) s = .next s) ∧
  (∀ (q : Req) (u : Fin 16) (t : CellTime) (s : State), mayConfigure s q.ep = true →
      exec (.syncAt q u t) s = .next ((syncAt s u t).finish q opSetParam)) ∧
  (∀ (q : Req) (u : Fin 16) (t : CellTime) (s : State), mayConfigure s q.ep = false →
      exec (.syncAt q u t) s = .next (s.finish q opSetParam rcNotAuthority []))

/-- The relief converter rotates through the channels and calibrates them. exec answers what the rules give. A slot starts
on its grid, counts itself and starts without estimates. After 1,560 relief words a good relief calibration takes new
coefficients and a reference estimate; a bad one raises CNV-06, drops the chosen channel with a priority request and makes
the others ineligible. A word phase ends after its 16, 520, 520 or 24 words, an overlap within its bound after its 64,
storing the difference; the second ends the rotation of the channel and counts it. A check with a span in bounds accepts the
first coefficients of a channel; one out of bounds counts a reject, asks for priority and raises CNV-04 unless it is the
third. A rotation is cut short by its phase: nothing without a channel or late in the rotation, given up in the first two
phases, sent back through the overlap in the next. A slot end averages the estimates into the reference state, scales the
outputs and tells the logic side; without estimates it counts an empty slot. A heavy clamp marks the other channels, raises
CNV-07 for the first, cuts the rotation short, and at its end is journalled, ending CNV-07 for the last. A die temperature
is stored. ROTATE_NOW, TRIM_POINT and TRIM_APPLY are answered, and NOT_AUTHORITY without the right to configure. A
calibration record that verified is in its slot and named in effect. Spec: 04_precision_conversion.md: The rotation;
04_precision_conversion.md: When events coincide with a rotation; 04_precision_conversion.md: Reference cross-check;
04_precision_conversion.md: Output trims and bank calibration records; 04_precision_conversion.md: Over-range and recovery.
-/
def Obligations.CalibrationRotates : Prop :=
  (∀ (b : Fin 4) (start : Nat) (s : State), (s.banks[b]).arrived = true →
      (s.banks[b]).calHeld = true → (s.banks[b]).slotOpen = false → start = newSlot s b →
      (((s.banks[b]).slotCount = 0 ∨ (s.banks[b]).slotStart.toNat ≠ start)) →
      ∃ y, exec (.rotationSlotStart b) s = .next y ∧
        (y.banks[b]).slotOpen = true ∧ (y.banks[b]).slotStart = BitVec.ofNat 72 start ∧
          (y.banks[b]).slotEnd = start + nextPeriod s b start ∧
        (y.banks[b]).slotCount = (s.banks[b]).slotCount + 1 ∧ (y.banks[b]).phase = 0 ∧ (y.banks[b]).deltas = []) ∧
  (∀ (b : Fin 4) (s : State), (s.banks[b]).arrived = true → (s.banks[b]).slotOpen = true →
      (s.banks[b]).phase = 0 → 1560 ≤ (s.banks[b]).reliefWords →
      spanOk (s.banks[b]).cal (16 + b.val) (uMode s (reliefChan s b)) ((s.banks[b]).reliefDc - (s.banks[b]).reliefDz) =
      true → (s.banks[b]).reliefOut = false →
      exec (.reliefCalEnd b) s = .next ((s.modBank b (fun k => { k with
          relief := { dz := (s.banks[b]).reliefDz,
                      k := gainOf (s.banks[b]).cal b (16 + b.val) (uMode s (reliefChan s b)) (s.banks[b]).reliefTemp
                        ((s.banks[b]).reliefDc - (s.banks[b]).reliefDz),
                      checkSpan := (s.banks[b]).reliefDc - (s.banks[b]).reliefDz,
                      refSpan := (s.banks[b]).reliefDr - (s.banks[b]).reliefDz, temp := (s.banks[b]).reliefTemp,
                        source := 1 },
          deltas := k.deltas ++ [deltaOf (s.banks[b]).cal b (s.banks[b]).reliefDz (s.banks[b]).reliefDr
            (s.banks[b]).reliefDc (s.banks[b]).reliefTemp],
          reliefWords := 0, phase := if k.chosen.isSome then 1 else 8 })).refreshRot b)) ∧
  (∀ (b i : Fin 4) (s : State), (s.banks[b]).arrived = true → (s.banks[b]).slotOpen = true →
      (s.banks[b]).phase = 0 → 1560 ≤ (s.banks[b]).reliefWords → (s.banks[b]).chosen = some i →
      spanOk (s.banks[b]).cal (16 + b.val) (uMode s (reliefChan s b)) ((s.banks[b]).reliefDc - (s.banks[b]).reliefDz) =
      false →
      exec (.reliefCalEnd b) s = .next ((((s.bankRaise b (ident .cnv 6) 1 b).modBank b (fun k => { k with
          reliefOut := true, chosen := none, phase := 8, reliefWords := 0 })).refreshRot b).modRot (uOf b i) (fun r => {
            r with
          state := 1, priority := true, diag := setBit8 r.diag 4 true }))) ∧
  (∀ (b i : Fin 4) (s : State), (s.banks[b]).chosen = some i → (s.banks[b]).phase = 1 → 16 ≤ s.u[uOf b i].rot.words →
      exec (.rotationPhaseEnd b) s = .next ((s.modBank b (fun k => { k with phase := 2 })).modRot (uOf b i) (fun r =>
        { r with
        state := 3, words := 0, sum := 0, overlap := 0 }))) ∧
  (∀ (b i : Fin 4) (s : State), (s.banks[b]).chosen = some i → (s.banks[b]).phase = 3 → 520 ≤ s.u[uOf b i].rot.words →
      exec (.rotationPhaseEnd b) s = .next ((s.modBank b (fun k => { k with phase := 4 })).modRot (uOf b i) (fun r =>
        { r with
        state := 5, words := 0, sum := 0, overlap := 0 }))) ∧
  (∀ (b i : Fin 4) (s : State), (s.banks[b]).chosen = some i → (s.banks[b]).phase = 4 → 520 ≤ s.u[uOf b i].rot.words →
      exec (.rotationPhaseEnd b) s = .next ((s.modBank b (fun k => { k with phase := 5 })).modRot (uOf b i) (fun r =>
        { r with
        state := 6, words := 0, sum := 0, overlap := 0 }))) ∧
  (∀ (b i : Fin 4) (s : State), (s.banks[b]).chosen = some i → (s.banks[b]).phase = 6 → 24 ≤ s.u[uOf b i].rot.words →
      exec (.rotationPhaseEnd b) s = .next ((s.modBank b (fun k => { k with phase := 7 })).modRot (uOf b i) (fun r =>
        { r with
        state := 8, words := 0, sum := 0, overlap := 0 }))) ∧
  (∀ (b i : Fin 4) (s : State), (s.banks[b]).chosen = some i → (s.banks[b]).phase = 2 →
      64 ≤ s.u[uOf b i].rot.words → (roundDiv (s.u[uOf b i].rot.overlap * 10000000) (64 * 2 ^ 30)).natAbs ≤ s.b b 2 0x07
      (uOf b i) 0x0B * 10 →
      exec (.overlapEnd b) s = .next (((s.modRot (uOf b i) (fun r => { r with
          delta := roundDiv (s.u[uOf b i].rot.overlap * 10000000) (64 * 2 ^ 30), words := 0,
            sum := 0 })).modBank b (fun k => { k with
          phase := 3 })).modRot (uOf b i) (fun r => { r with state := 4 }))) ∧
  (∀ (b i : Fin 4) (s : State), (s.banks[b]).chosen = some i → (s.banks[b]).phase = 7 →
      64 ≤ s.u[uOf b i].rot.words → (roundDiv (s.u[uOf b i].rot.overlap * 10000000) (64 * 2 ^ 30)).natAbs ≤ s.b b 2 0x07
      (uOf b i) 0x0B * 10 → s.u[uOf b i].rot.cut = false →
      ∃ y, exec (.overlapEnd b) s = .next y ∧ (y.banks[b]).chosen = none ∧ (y.banks[b]).phase = 8 ∧
        (y.banks[b]).reliefX = none ∧
        y.u[uOf b i].rot.calCount = s.u[uOf b i].rot.calCount + 1 ∧
        y.u[uOf b i].rot.lastCal = (if s.u[uOf b i].rot.accepted then bankNow (s.banks[b]) else s.u[uOf b
          i].rot.lastCal) ∧
        y.u[uOf b i].rot.state = (if rotEligible s (uOf b i) then 1 else 0) ∧
        y.u[uOf b i].rot.delta = roundDiv (s.u[uOf b i].rot.overlap * 10000000) (64 * 2 ^ 30)) ∧
  (∀ (b : Fin 4) (s : State), (s.banks[b]).chosen = none →
      exec (.rotationCutShort b) s = .next s) ∧
  (∀ (b i : Fin 4) (s : State), (s.banks[b]).chosen = some i → 6 ≤ (s.banks[b]).phase →
      exec (.rotationCutShort b) s = .next s) ∧
  (∀ (b i : Fin 4) (s : State), (s.banks[b]).chosen = some i → (s.banks[b]).phase ≤ 1 →
      exec (.rotationCutShort b) s = .next ((s.modRot (uOf b i) (fun r => { r with
          state := if rotEligible s (uOf b i) then 1 else 0, priority := rotEligible s (uOf b i),
            diag := setBit8 r.diag 3 true, words := 0 })).modBank b (fun k => { k with
          chosen := none, lastChosen := i, phase := 8, reliefWords := 0, reliefX := none }))) ∧
  (∀ (b i : Fin 4) (s : State), (s.banks[b]).chosen = some i → 2 ≤ (s.banks[b]).phase → (s.banks[b]).phase ≤ 5 →
      exec (.rotationCutShort b) s = .next ((s.modRot (uOf b i) (fun r => { r with
          state := 7, priority := rotEligible s (uOf b i), cut := true, diag := setBit8 r.diag 3 true,
            words := 0 })).modBank b (fun k => { k with
          phase := 6 }))) ∧
  (∀ (b : Fin 4) (s : State), (s.banks[b]).arrived = true → (s.banks[b]).slotOpen = true →
      (s.banks[b]).slotEnd ≤ bankUnits s b → (s.banks[b]).deltas = [] → (s.banks[b]).emptyRun < 3 →
      ∃ y, exec (.slotEndCrossCheck b) s = .next y ∧ (y.banks[b]).slotOpen = false ∧
        (y.banks[b]).emptyRun = (s.banks[b]).emptyRun + 1 ∧
        (y.banks[b]).refState = (s.banks[b]).refState ∧ (y.up[b]).queued = (s.up[b]).queued ++ [.calSlot none
          (s.banks[b]).refState]) ∧
  (∀ (b : Fin 4) (d : Int) (ds : List Int) (avg : Int) (s1 s2 : State) (s : State),
      (s.banks[b]).arrived = true → (s.banks[b]).slotOpen = true →
      (s.banks[b]).slotEnd ≤ bankUnits s b → (s.banks[b]).deltas = d :: ds →
      avg = roundDiv ((d :: ds).foldl (· + ·) 0) (d :: ds).length →
      s1 = (s.modBank b (fun k => { k with slotOpen := false, reliefWords := 0 })).modBank b (fun k => { k with
        emptyRun := 0, refRun := if decide (avg.natAbs ≤ s.b b 2 0x1B 0 0x03 * 100) then k.refRun + 1 else 0,
        alarmRun := if decide (avg.natAbs ≤ s.b b 2 0x1B 0 0x03 * 100) then 0 else k.alarmRun + 1
          }) → s2 = (s1.setRef b (refNext (s1.banks[b]) (decide (avg.natAbs ≤ s.b b 2 0x1B 0 0x03 * 100))
        (decide (s.b b 2 0x1B 0 0x04 * 100 < avg.natAbs)))).scaleDacs b avg →
      exec (.slotEndCrossCheck b) s = .next (s2.sendUp b (.calSlot (some avg) (s2.banks[b]).refState))) ∧
  (∀ (b i : Fin 4) (r : Rotation) (new : Coef) (s : State), (s.banks[b]).chosen = some i → (s.banks[b]).phase = 5 →
      r = s.u[uOf b i].rot → 520 ≤ r.words → new =
      { dz := r.dz, k := gainOf (s.banks[b]).cal b (uOf b i) (uMode s (uOf b i)) r.temp (r.dc - r.dz), checkSpan := r.dc - r.dz, refSpan := r.dr - r.dz, temp := r.temp, source := 1 }
      → spanOk (s.banks[b]).cal (uOf b i) (uMode s (uOf b i)) (r.dc - r.dz) = true → s.u[uOf b i].coef.source = 0 →
      exec (.chCheckEnd b) s = .next ((s.modBank b (fun k => { k with
        phase := 6, deltas := k.deltas ++ [deltaOf k.cal b r.dz r.dr r.dc r.temp] })).modU (uOf b i) (fun k => { k with
          rot := { k.rot with state := 7, words := 0, sum := 0, accepted := true, rejects := 0 }, coef := new }))) ∧
  (∀ (b i : Fin 4) (r : Rotation) (s : State), (s.banks[b]).chosen = some i → (s.banks[b]).phase = 5 →
      r = s.u[uOf b i].rot → 520 ≤ r.words → spanOk (s.banks[b]).cal (uOf b i) (uMode s (uOf b i)) (r.dc - r.dz) = false
      → r.rejects ≠ 2 →
      exec (.chCheckEnd b) s = .next (((s.modBank b (fun k => { k with
        phase := 6, deltas := k.deltas ++ [deltaOf k.cal b r.dz r.dr r.dc r.temp] })).modU (uOf b i) (fun k => { k with
          rot := { k.rot with
            state := 7, words := 0, sum := 0, accepted := false, rejects := min 255 (k.rot.rejects + 1),
            priority := true, diag := setBit8 k.rot.diag 1 true },
          coef := { k.coef with refSpan := r.dr - r.dz } })).bankRaise b (ident .cnv 4) 2 (uOf b i))) ∧
  (∀ (b : Fin 4) (t : Int) (s : State), (s.banks[b]).powered = true →
      exec (.dieTemperatureRead b t) s = .next (s.modBank b (fun k => { k with dieTemp := t }))) ∧
  (∀ (u : Fin 16) (s : State), (s.banks[bankOfU u]).arrived = true → clampMode (uMode s u) = true →
      (bankU (bankOfU u)).all (fun v => s.u[v].clampAt.isNone) = true → s.u[u].clampAt = none →
      exec (.heavyClampStart u) s = .next ((((((bankU (bankOfU u)).filter (fun v => v != u && isAnalogue (uMode s
        v))).foldl
          (fun x v => x.modRot v (fun r => { r with diag := setBit8 r.diag 5 true })) s).modU u (fun k => { k with
            clampAt := some (bankNow (s.banks[bankOfU u]))
              })).bankRaise (bankOfU u) (ident .cnv 7) 1 (bankOfU u)).cutShort
              (bankOfU u) |>.dropEstimate (bankOfU u))) ∧
  (∀ (u v : Fin 16) (t : CellTime) (s : State), (s.banks[bankOfU u]).arrived = true →
      clampMode (uMode s u) = true → (bankU (bankOfU u)).contains v = true → s.u[v].clampAt = some t →
      s.u[u].clampAt = none →
      exec (.heavyClampStart u) s = .next (((((bankU (bankOfU u)).filter (fun v => v != u && isAnalogue (uMode s
        v))).foldl
          (fun x v => x.modRot v (fun r => { r with diag := setBit8 r.diag 5 true })) s).modU u (fun k => { k with
            clampAt := some (bankNow (s.banks[bankOfU u])) })).cutShort (bankOfU u) |>.dropEstimate (bankOfU u))) ∧
  (∀ (u : Fin 16) (t : CellTime) (s : State), s.u[u].clampAt = some t →
      exec (.heavyClampEnd u) s = .next (State.journalAt
        (bif (bankU (bankOfU u)).all (fun v => (s.modU u (fun k => { k with clampAt := none })).u[v].clampAt.isNone)
          then
          (s.modU u (fun k => { k with clampAt := none })).bankEnd (bankOfU u) (ident .cnv 7) 1 (bankOfU u)
          else s.modU u (fun k => { k with clampAt := none })) 0x08
        ([BitVec.ofNat 8 (bankOfU u).val, BitVec.ofNat 8 u.val] ++ leBytes 4 ((bankNow (s.banks[bankOfU u]) - t).toNat /
          256000)))) ∧
  (∀ (q : Req) (u : Fin 16) (s : State), mayConfigure s q.ep = true →
      exec (.rotateNow q u) s = .next ((rotateNow s u).finish q opCalibrate)) ∧
  (∀ (q : Req) (u : Fin 16) (s : State), mayConfigure s q.ep = false →
      exec (.rotateNow q u) s = .next (s.finish q opCalibrate rcNotAuthority [])) ∧
  (∀ (q : Req) (u : Fin 16) (second : Bool) (measured : BitVec 32) (s : State), mayConfigure s q.ep = true →
      exec (.trimPoint q u second measured) s = .next ((trimPoint s u second measured.toInt).finish q opCalibrate)) ∧
  (∀ (q : Req) (u : Fin 16) (second : Bool) (measured : BitVec 32) (s : State), mayConfigure s q.ep = false →
      exec (.trimPoint q u second measured) s = .next (s.finish q opCalibrate rcNotAuthority [])) ∧
  (∀ (q : Req) (u : Fin 16) (s : State), mayConfigure s q.ep = true →
      exec (.trimApply q u) s = .next ((trimApply s u).finish q opCalibrate)) ∧
  (∀ (q : Req) (u : Fin 16) (s : State), mayConfigure s q.ep = false →
      exec (.trimApply q u) s = .next (s.finish q opCalibrate rcNotAuthority [])) ∧
  (∀ (slot : Bool) (rec : List Byte) (s : State), s.sup.calWrite = some (slot, rec) → s.sup.calAgain = false →
      exec (.calRecordWriteDone true) s = .next ((((((({ s with sup := { s.sup with calWrite := none } } :
        State).eraseNor (calSlot slot) 4096).writeNor
        (calSlot slot) rec).setP 1 0x1B 0 0x09 (if slot then 1 else 0)).setP 4 0x1B 0 0x0A (leNat ((rec.drop 8).take
          4))).setP 8 0x1B 0
          0x0B (leNat ((rec.drop 1056).take 8)))))

/-- Load switches limit, retry, shut down thermally and clamp. exec answers the next state that the rules give, for a live
load switch. An evaluation steps sense, heat and the limit and retry timers, computes the limit in effect from the inrush
profile and sets the flags; INRUSH is cleared where the switch is off or its profile has run out. For a switch in no group
that is on: LIMIT_TIME used up holds it off and raises LSW-01, latched where it does not retry, to be retried with one more
retry counted after a failed retry that is not the eighth. An expired retry period ends LSW-01, and the switch acts on its
source again. A junction or sense temperature at the shutdown point sets THERMAL_OFF and raises LSW-02, and, where the count
of restarts is used up, the thermal latch and LSW-03; in a group it is the group that is shut down. A cooled switch that is
not latched, in mode 0 and in no hot group, restarts and ends LSW-02. A clamp interval starts on a switch that is off with
its energy at 0, ends with its account, and a budget back above its level unlocks a switch whose lock mode is 0. Spec:
06_load_switches.md: Current limit and overload; 06_load_switches.md: Inrush profiles; 06_load_switches.md: Junction
temperature; 06_load_switches.md: Clamp energy. -/
def Obligations.LoadSwitchesProtectThemselves : Prop :=
  (∀ (l : Fin 8) (m : StageMeas) (lim pk pt rt : Nat) (onFor : Nat) (s : State), lLive s l = true →
      lProfile s l = (lim, pk, pt, rt) → onFor = (bankNow (s.banks[bankOfL l]) - s.l[l].launchAt).toNat →
      s.l[l].on = true → onFor / 256000 < pt + rt →
      exec (.powerStageEvaluation l m) s = .next (((((s.modL l (senseStep s l m)).modL l (heatStep
          (s.b (bankOfL l) 2 0x0A l 0x0E) (s.b (bankOfL l) 2 0x0A l 0x0D))).modL l (timerStep m.limiting onFor
          (s.b (bankOfL l) 2 0x0A l 0x07))).modL l (fun k => { k with
            effLimit := effLimit lim pk pt rt (onFor / 256000) })).stageFlags l m.limiting)) ∧
  (∀ (l : Fin 8) (m : StageMeas) (lim pk pt rt : Nat) (onFor : Nat) (s : State), lLive s l = true →
      lProfile s l = (lim, pk, pt, rt) → onFor = (bankNow (s.banks[bankOfL l]) - s.l[l].launchAt).toNat →
      (s.l[l].on = false ∨ pt + rt ≤ onFor / 256000) →
      exec (.powerStageEvaluation l m) s = .next ((((((s.modL l (senseStep s l m)).modL l (heatStep
          (s.b (bankOfL l) 2 0x0A l 0x0E) (s.b (bankOfL l) 2 0x0A l 0x0D))).modL l (timerStep m.limiting onFor
          (s.b (bankOfL l) 2 0x0A l 0x07))).modL l (fun k => { k with
            effLimit := effLimit lim pk pt rt (onFor / 256000) })).lFlag l 12 false).stageFlags l m.limiting)) ∧
  (∀ (l : Fin 8) (s : State), lLive s l = true → lGroup s l = none → s.l[l].on = true →
      s.b (bankOfL l) 4 0x0A l 0x05 ≤ s.l[l].limitTime → s.b (bankOfL l) 1 0x0A l 0x06 = 0 → s.l[l].retried = false →
      exec (.limitTimeExpiry l) s = .next ((((s.modL l (fun k => { k with
        retries := s.l[l].retries, holdAt := bankNow (s.banks[bankOfL l]) })).lFlag l 3 true).bankRaise (bankOfL l)
          (ident .lsw 1) 3 l).relaunch l)) ∧
  (∀ (l : Fin 8) (s : State), lLive s l = true → lGroup s l = none → s.l[l].on = true →
      s.b (bankOfL l) 4 0x0A l 0x05 ≤ s.l[l].limitTime → s.b (bankOfL l) 1 0x0A l 0x06 ≠ 0 →
      s.l[l].retried = true → s.l[l].retries + 1 < 8 →
      exec (.limitTimeExpiry l) s = .next ((((s.modL l (fun k => { k with
        retries := s.l[l].retries + 1, holdAt := bankNow (s.banks[bankOfL l]) })).lFlag l 2 true).bankRaise (bankOfL l)
          (ident .lsw 1) 3 l).relaunch l)) ∧
  (∀ (l : Fin 8) (s : State), lBit s l 2 = true → nsUnits (s.b (bankOfL l) 2 0x0A l 0x07 * 1000000) ≤ (bankNow
      (s.banks[bankOfL l]) - s.l[l].holdAt).toNat →
      exec (.retryPeriodExpiry l) s = .next ((((s.lFlag l 2 false).bankEnd (bankOfL l) (ident .lsw 1) 3 l).rethink
        l).modL l
        (fun k => { k with retried := k.on }))) ∧
  (∀ (l : Fin 8) (n : Nat) (s : State), lLive s l = true → (shutdownAt l ≤ s.l[l].tJ ∨
      shutdownAt l ≤ s.l[l].tS) → lGroup s l = none → lBit s l 4 = false →
      thermalCount (s.b (bankOfL l) 1 0x0A l 0x13) s.l[l].restarts s.l[l].thermRestart (bankNow (s.banks[bankOfL l]) -
      s.l[l].launchAt).toNat = (n, false) →
      exec (.thermalShutdown l) s = .next ((((s.modL l (fun k => { k with restarts := n })).lFlag l 4 true).bankRaise
        (bankOfL l) (ident .lsw 2) 3 l).relaunch l)) ∧
  (∀ (l : Fin 8) (n : Nat) (s : State), lLive s l = true → (shutdownAt l ≤ s.l[l].tJ ∨
      shutdownAt l ≤ s.l[l].tS) → lGroup s l = none → lBit s l 4 = false →
      thermalCount (s.b (bankOfL l) 1 0x0A l 0x13) s.l[l].restarts s.l[l].thermRestart (bankNow (s.banks[bankOfL l]) -
      s.l[l].launchAt).toNat = (n, true) →
      exec (.thermalShutdown l) s = .next ((((((s.modL l (fun k => { k with restarts := n })).lFlag l 4 true).bankRaise
        (bankOfL l) (ident .lsw 2) 3 l).lFlag l 5 true).bankRaise (bankOfL l) (ident .lsw 3) 3 l).relaunch l)) ∧
  (∀ (l : Fin 8) (g : Fin 4) (s : State), lLive s l = true → (shutdownAt l ≤ s.l[l].tJ ∨
      shutdownAt l ≤ s.l[l].tS) → lGroup s l = some g → lBit s l 4 = false →
      exec (.thermalShutdown l) s = .next (s.groupShutdown l g)) ∧
  (∀ (l : Fin 8) (s : State), lBit s l 4 = true → lBit s l 5 = false → thermalMode s l = 0 →
      groupHot s l = false → lCool s l = true →
      exec (.thermalRestart l) s = .next ((((s.lFlag l 4 false).bankEnd (bankOfL l) (ident .lsw 2) 3 l).rethink l).modL
        l
        (fun k => { k with thermRestart := k.on }))) ∧
  (∀ (l : Fin 8) (s : State), lLive s l = true → s.l[l].on = false → lBit s l 13 = false →
      exec (.clampIntervalStart l) s = .next ((s.lFlag l 13 true).modL l (fun k =>
        { k with clampE := 0, clampJ0 := k.tJ }))) ∧
  (∀ (l : Fin 8) (s : State), lLive s l = true →
      exec (.clampIntervalEnd l) s = .next (s.clampEnd l)) ∧
  (∀ (l : Fin 8) (s : State), lBit s l 7 = true → s.b (bankOfL l) 1 0x0A l 0x0F = 0 →
      ((s.b (bankOfL l) 2 0x0A l 0x10 * 1000000 : Nat) : Int) ≤ s.l[l].budget →
      exec (.clampUnlock l) s = .next (s.unlock l))

/-- Open loads, shorts to supply, reverse currents and lost power dies are reported and end. exec answers the next state
that the rules give. With its test enabled a switch that is on, in no group and has no OPEN set reports an open load with
LSW-08, and its end clears and ends it; a group that is on with a threshold set reports and ends the same against the group.
A switch that is off, not clamping, reports a short to supply with LSW-09; a switch that is on reports a reverse current
with LSW-09 and is held off; the end of either clears what stood. A lost exchange with a power die holds each of its
switches not yet lost at the value its die holds and raises LSW-15 once; the return of the exchange releases those that were
lost and ends it. Spec: 06_load_switches.md: Load diagnostics; 06_load_switches.md: Faults; 06_load_switches.md: Structure.
-/
def Obligations.LoadTestsAndDieFaultsAreReported : Prop :=
  (∀ (l : Fin 8) (s : State), lLive s l = true → lBit s l 9 = false → s.l[l].on = true → lGroup s l = none →
      s.b (bankOfL l) 1 0x0A l 0x1B = 1 →
      exec (.lswOpenLoad (.ls l) true) s = .next ((s.lFlag l 9 true).bankRaise (bankOfL l) (ident .lsw 8) 3 l)) ∧
  (∀ (l : Fin 8) (s : State), lLive s l = true → lBit s l 9 = true →
      exec (.lswOpenLoad (.ls l) false) s = .next ((s.lFlag l 9 false).bankEnd (bankOfL l) (ident .lsw 8) 3 l)) ∧
  (∀ (g : Fin 4) (s : State), gBit s g 9 = false → gBit s g 0 = true → s.p 2 0x0B g 0x13 ≠ 0 → membersOf s g ≠ 0 →
      exec (.lswOpenLoad (.grp g) true) s = .next ((s.gFlag g 9 true).raise (ident .lsw 8) 4 g)) ∧
  (∀ (g : Fin 4) (s : State), gBit s g 9 = true →
      exec (.lswOpenLoad (.grp g) false) s = .next ((s.gFlag g 9 false).endFault (ident .lsw 8) 4 g)) ∧
  (∀ (l : Fin 8) (s : State), lLive s l = true → s.l[l].on = false → lBit s l 13 = false → lBit s l 10 = false →
      exec (.lswShortToSupply l true) s = .next ((s.lFlag l 10 true).bankRaise (bankOfL l) (ident .lsw 9) 3 l)) ∧
  (∀ (l : Fin 8) (s : State), lLive s l = true →
      exec (.lswShortToSupply l false) s = .next (s.shortGone l)) ∧
  (∀ (l : Fin 8) (s : State), lLive s l = true → s.l[l].on = true → lBit s l 10 = false →
      exec (.lswReverseCurrent l true) s = .next ((((s.lFlag l 10 true).modL l (fun k =>
        { k with reverseHold := true })).bankRaise
        (bankOfL l) (ident .lsw 9) 3 l).relaunch l)) ∧
  (∀ (l : Fin 8) (s : State), lLive s l = true →
      exec (.lswReverseCurrent l false) s = .next (s.shortGone l)) ∧
  (∀ (b : Fin 4) (l0 : Fin 8) (ls : List (Fin 8)) (s : State), (s.banks[b]).powered = true →
      (bankL b).filter (fun l => !(s.l[l].dieLost)) = l0 :: ls →
      exec (.powerDieExchangeLost b) s = .next (((l0 :: ls).foldl (fun x l =>
        (x.modL l (fun k => { k with dieLost := true, dieHeld := dieSafe x l })).relaunch l) s).bankRaise b (ident .lsw
          15) 1 b)) ∧
  (∀ (b : Fin 4) (l0 : Fin 8) (ls : List (Fin 8)) (s : State), (bankL b).filter (fun l => s.l[l].dieLost) = l0 :: ls →
      exec (.powerDieExchangeResumed b) s = .next (((l0 :: ls).foldl (fun x l =>
        (x.modL l (fun k => { k with dieLost := false })).relaunch l) s).bankEnd b (ident .lsw 15) 1 b))

/-- Coppice groups launch together, balance, exclude members and trip as one. exec answers the next state that the rules
give. Launches whose instant has come act at once in one step, each marking its group on time, and leave the waiting ones.
The VF spread of a cross-bank group is stored; above 500 mV for the sixteenth check in a row it trips the group with LSW-12,
at or below for the sixteenth in a row it ends LSW-12, before that it only counts. Balancing steps each active member of a
group that is on towards its share, the bank's own mean or, across banks, the share it was told. An imbalance above its
limit in a group that is on raises LSW-13, and one back within it, or a group without members, ends it. A member that
disagreed for 8 evaluations or lost its current for 16 is excluded with LSW-10, and the last member of a group within one
bank trips the group with LSW-11. A trip instant reached trips the bank's part of the group, and the bank of the lowest
member raises LSW-11. When no bank tells of overload any more the trips still told are withdrawn. A hot group not latched
restarts when all its members are cool, ending LSW-02; the first shutdown of a group is spread to all its banks, and a
further one while it is hot is only taken. Spec: 06_load_switches.md: Switching together; 06_load_switches.md: Active
balancing; 06_load_switches.md: Member failure and re-rating; 06_load_switches.md: Group protection. -/
def Obligations.GroupsActAsOneOutput : Prop :=
  (∀ (b : Fin 4) (s : State),
      exec (.groupLaunchInstant b) s = .next (((s.banks[b]).launches.filter (fun x => reached x.at_ (bankNow
        (s.banks[b])))).foldl
        (fun x c => (x.change b c.out c.change).onTime b c.out)
        (s.modBank b (fun k => { k with
            launches := k.launches.filter (fun x => !reached x.at_ (bankNow (s.banks[b]))) })))) ∧
  (∀ (g : Fin 4) (s : State), isCross s g = true → 500 < vfSpread s g → 15 ≤ s.coppice[g].vfHigh → gBit s g 4 = false →
      exec (.vfSpreadCheck g) s = .next (((((s.modSide g (fun k => { k with vfHigh := 16, vfLow := 0 })).setP 4 0x0B g
        0x0F
        (vfSpread s g)).gFlag g 4 true).tripped g).raise (ident .lsw 12) 4 g)) ∧
  (∀ (g : Fin 4) (s : State), isCross s g = true → vfSpread s g ≤ 500 → 15 ≤ s.coppice[g].vfLow → gBit s g 4 = true →
      exec (.vfSpreadCheck g) s = .next ((((s.modSide g (fun k => { k with vfHigh := 0, vfLow := 16 })).setP 4 0x0B g
        0x0F
        (vfSpread s g)).gFlag g 4 false).endFault (ident .lsw 12) 4 g)) ∧
  (∀ (g : Fin 4) (s : State), isCross s g = true → vfSpread s g ≤ 500 → s.coppice[g].vfLow < 15 →
      exec (.vfSpreadCheck g) s =
        .next ((s.modSide g (fun k => { k with vfHigh := 0, vfLow := s.coppice[g].vfLow + 1 })).setP 4 0x0B g 0x0F
          (vfSpread s g))) ∧
  (∀ (b g : Fin 4) (sh : Int) (s : State), (s.banks[b]).arrived = true →
      s.b b 1 0x0B g 0x12 = 1 → ((s.banks[b]).groups[g]).on = true →
      (sh = if crossB s b g then ((s.banks[b]).groups[g]).share else localShare s b g) →
      exec (.balanceUpdate b g) s = .next ((activeIn s b g).foldl (fun x l => balanceStep x b g sh l)
        (s.modGrp b g (fun k => { k with share := sh })))) ∧
  (∀ (g : Fin 4) (s : State), 100 < s.p 2 0x0B g 0x19 → membersOf s g ≠ 0 → gBit s g 5 = false → gBit s g 0 = true →
      exec (.balanceLost g) s = .next ((s.gFlag g 5 true).raise (ident .lsw 13) 4 g)) ∧
  (∀ (g : Fin 4) (s : State), (s.p 2 0x0B g 0x19 ≤ 100 ∨ membersOf s g = 0) → gBit s g 5 = true →
      exec (.balanceLost g) s = .next ((s.gFlag g 5 false).endFault (ident .lsw 13) 4 g)) ∧
  (∀ (l : Fin 8) (g : Fin 4) (y : State) (s : State), lGroup s l = some g → lLive s l = true → lBit s l 11 = false →
      (8 ≤ s.l[l].mismatchRun ∨ 16 ≤ s.l[l].lostRun) → y = ((((s.lFlag l 11 true).modL l (fun k =>
      { k with mismatchRun := 0, lostRun := 0, readmit := false })).relaunch l).gSee (bankOfL l) g).groupRaise (bankOfL
      l) (ident .lsw 10) g (1#8 <<< l.val) → (activeIn y (bankOfL l) g ≠ [] ∨ crossB y (bankOfL l) g = true) →
      exec (.memberExclusion l) s = .next y) ∧
  (∀ (l : Fin 8) (g : Fin 4) (y : State) (s : State), lGroup s l = some g → lLive s l = true → lBit s l 11 = false →
      (8 ≤ s.l[l].mismatchRun ∨ 16 ≤ s.l[l].lostRun) → y = ((((s.lFlag l 11 true).modL l (fun k =>
      { k with mismatchRun := 0, lostRun := 0, readmit := false })).relaunch l).gSee (bankOfL l) g).groupRaise (bankOfL
      l) (ident .lsw 10) g (1#8 <<< l.val) → activeIn y (bankOfL l) g = [] → crossB y (bankOfL l) g = false →
      exec (.memberExclusion l) s = .next ((y.changeG (bankOfL l) g (.trip true)).bankRaise (bankOfL l) (ident .lsw 11)
        4 g)) ∧
  (∀ (b g : Fin 4) (t : CellTime) (s : State), tripInstant s b g = some t → (s.banks[b]).arrived = true →
      reached t (bankNow (s.banks[b])) = true → ((s.banks[b]).groups[g]).tripped = false → firstBank s b g = true →
      exec (.groupTrip b g) s = .next ((s.changeG b g (.trip true)).bankRaise b (ident .lsw 11) 4 g)) ∧
  (∀ (b g : Fin 4) (t : CellTime) (s : State), tripInstant s b g = some t → (s.banks[b]).arrived = true →
      reached t (bankNow (s.banks[b])) = true → ((s.banks[b]).groups[g]).tripped = false → firstBank s b g = false →
      exec (.groupTrip b g) s = .next (s.changeG b g (.trip true))) ∧
  (∀ (g : Fin 4) (s : State), s.pBytes 9 0x0B g 0x1A 0 ≠ List.replicate 9 0 → gBit s g 7 = false →
      (groupBanks s g).any (overloadTold s g) = false →
      exec (.groupOverloadEnd g) s = .next ((groupBanks s g).foldl (fun x b => x.sendDown b (.trip g none))
        (s.setBytes 0x0B g 0x1A 0 (List.replicate 9 0)))) ∧
  (∀ (g : Fin 4) (s : State), s.coppice[g].hot = true → s.coppice[g].latch = 0 → membersOf s g ≠ 0 →
      groupCool s g = true →
      exec (.groupThermal g true) s = .next (((s.modSide g (fun k => { k with hot := false })).endFault (ident .lsw 2) 4
        g).sendHold g
        (.thermal false false) none)) ∧
  (∀ (g : Fin 4) (again : Bool) (s : State), s.coppice[g].shutdown = some again → s.coppice[g].hot = false →
      exec (.groupThermal g false) s = .next (s.spreadShutdown g again)) ∧
  (∀ (g : Fin 4) (again : Bool) (s : State), s.coppice[g].shutdown = some again → s.coppice[g].hot = true →
      exec (.groupThermal g false) s = .next (s.modSide g (fun k => { k with shutdown := none })))

/-- Fast inputs debounce, capture, count, measure frequency and latch. exec answers the next state that the rules give. An
edge of an unpowered bank's input or to the level already held does nothing; before the bank has arrived it sets level and
state; after it, with DEBOUNCE 0 and a new level it is accepted at its stamp, and otherwise only stamped. CAPTURE_POP and
LATCH_AT of a sender that may configure are answered and completed, and NOT_AUTHORITY from others. A frequency gate not yet
ended changes nothing. One that has ended starts the next gate at the last gate end passed; the frequency becomes: unchanged
where the input is stopped; the rises over the time between the first and last of them where there were rises and no time
step; the old value where the gate held a time step; where there were no rises the old value, held down by one rise over the
time since the last; and where more than one gate has passed, held down by that time as well. A stopped input is declared
stopped when STOP_TIME has passed since its last rise and not before, and once. A grid latch acts at the next instant of its
grid when that is reached; a latch trigger for any instant that is not due does nothing. A named latch acts at its instant,
frees a schedule entry that armed it with its outcome, and does nothing before. Spec: 07_fast_inputs.md: Edges, polarity and
debounce; 07_fast_inputs.md: Capture queue; 07_fast_inputs.md: Period and frequency; 07_fast_inputs.md: Latches. -/
def Obligations.FastInputsCountAndLatch : Prop :=
  (∀ (f : Fin 8) (level : Bool) (t : CellTime) (s : State), (s.banks[bankOfF f]).powered = false →
      exec (.fastInputEdge f level t) s = .next s) ∧
  (∀ (f : Fin 8) (level lvl : Bool) (t : CellTime) (s : State),
      lvl = (level != (s.b (bankOfF f) 1 0x0C f 0x03 == 1)) → lvl = s.f[f].db.level →
      exec (.fastInputEdge f level t) s = .next s) ∧
  (∀ (f : Fin 8) (level lvl : Bool) (t : CellTime) (s : State), (s.banks[bankOfF f]).powered = true →
      lvl = (level != (s.b (bankOfF f) 1 0x0C f 0x03 == 1)) → lvl ≠ s.f[f].db.level →
      (s.banks[bankOfF f]).arrived = false →
      exec (.fastInputEdge f level t) s = .next ((s.modF f (fun k => { k with
          db := { k.db with level := lvl, since := stampF f level t } })).modF f (fun k => { k with
        db := { k.db with state := lvl }, status := setBit16 k.status 0 lvl }))) ∧
  (∀ (f : Fin 8) (level lvl : Bool) (t : CellTime) (s : State), (s.banks[bankOfF f]).powered = true →
      lvl = (level != (s.b (bankOfF f) 1 0x0C f 0x03 == 1)) → lvl ≠ s.f[f].db.level →
      (s.banks[bankOfF f]).arrived = true → s.b (bankOfF f) 2 0x0C f 0x04 = 0 → lvl ≠ s.f[f].db.state →
      exec (.fastInputEdge f level t) s = .next ((s.modF f (fun k => { k with
          db := { k.db with level := lvl, since := stampF f level t } })).acceptF f lvl (stampF f level t))) ∧
  (∀ (f : Fin 8) (level lvl : Bool) (t : CellTime) (s : State), (s.banks[bankOfF f]).powered = true →
      lvl = (level != (s.b (bankOfF f) 1 0x0C f 0x03 == 1)) → lvl ≠ s.f[f].db.level →
      (s.banks[bankOfF f]).arrived = true → (s.b (bankOfF f) 2 0x0C f 0x04 ≠ 0 ∨ lvl = s.f[f].db.state) →
      exec (.fastInputEdge f level t) s = .next (s.modF f (fun k => { k with
          db := { k.db with level := lvl, since := stampF f level t } }))) ∧
  (∀ (q : Req) (f : Fin 8) (seq : BitVec 16) (s : State), mayConfigure s q.ep = true →
      exec (.capturePop q f seq) s = .next ((capturePop s f seq).finish q opSetParam)) ∧
  (∀ (q : Req) (f : Fin 8) (seq : BitVec 16) (s : State), mayConfigure s q.ep = false →
      exec (.capturePop q f seq) s = .next (s.finish q opSetParam rcNotAuthority [])) ∧
  (∀ (q : Req) (f : Fin 8) (t : CellTime) (s : State), mayConfigure s q.ep = true →
      exec (.latchAt q f t) s = .next ((latchAt s f t).finish q opSetParam)) ∧
  (∀ (q : Req) (f : Fin 8) (t : CellTime) (s : State), mayConfigure s q.ep = false →
      exec (.latchAt q f t) s = .next (s.finish q opSetParam rcNotAuthority [])) ∧
  (∀ (f : Fin 8) (gate first last : Nat) (s : State), gate = nsUnits (s.b (bankOfF f) 4 0x0C f 0x13 * 1000) →
      0 < gate → first = ((s.f[f].gateAt).toNat / gate + 1) * gate →
      last = (bankNow (s.banks[bankOfF f])).toNat / gate * gate → last < first →
      exec (.frequencyGateEnd f) s = .next s) ∧
  (∀ (f : Fin 8) (gate first last : Nat) (s : State), gate = nsUnits (s.b (bankOfF f) 4 0x0C f 0x13 * 1000) →
      0 < gate → first = ((s.f[f].gateAt).toNat / gate + 1) * gate →
      last = (bankNow (s.banks[bankOfF f])).toNat / gate * gate → first ≤ last → fBit s f 2 = true →
      exec (.frequencyGateEnd f) s = .next (s.modF f (fun k => { k with
          freq := s.f[f].freq, gateAt := BitVec.ofNat 72 last, gateStart := k.lastRise, gateRises := 0,
            gateStep := false }))) ∧
  (∀ (f : Fin 8) (gate first last : Nat) (s : State), gate = nsUnits (s.b (bankOfF f) 4 0x0C f 0x13 * 1000) →
      0 < gate → first = ((s.f[f].gateAt).toNat / gate + 1) * gate →
      last = (bankNow (s.banks[bankOfF f])).toNat / gate * gate → first = last → fBit s f 2 = false →
      s.f[f].gateRises ≠ 0 → s.f[f].gateStep = false →
      exec (.frequencyGateEnd f) s = .next (s.modF f (fun k => { k with
          freq := freqOf s.f[f].gateRises (s.f[f].lastRise - s.f[f].gateStart).toNat,
            gateAt := BitVec.ofNat 72 last, gateStart := k.lastRise, gateRises := 0, gateStep := false }))) ∧
  (∀ (f : Fin 8) (gate first last : Nat) (s : State), gate = nsUnits (s.b (bankOfF f) 4 0x0C f 0x13 * 1000) →
      0 < gate → first = ((s.f[f].gateAt).toNat / gate + 1) * gate →
      last = (bankNow (s.banks[bankOfF f])).toNat / gate * gate → first = last → fBit s f 2 = false →
      s.f[f].gateRises = 0 →
      exec (.frequencyGateEnd f) s = .next (s.modF f (fun k => { k with
          freq := min s.f[f].freq (freqOf 1 (first - (s.f[f].lastRise).toNat)),
            gateAt := BitVec.ofNat 72 last, gateStart := k.lastRise, gateRises := 0, gateStep := false }))) ∧
  (∀ (f : Fin 8) (gate first last : Nat) (s : State), gate = nsUnits (s.b (bankOfF f) 4 0x0C f 0x13 * 1000) →
      0 < gate → first = ((s.f[f].gateAt).toNat / gate + 1) * gate →
      last = (bankNow (s.banks[bankOfF f])).toNat / gate * gate → first = last → fBit s f 2 = false →
      s.f[f].gateRises ≠ 0 → s.f[f].gateStep = true →
      exec (.frequencyGateEnd f) s = .next (s.modF f (fun k => { k with
          freq := s.f[f].freq, gateAt := BitVec.ofNat 72 last, gateStart := k.lastRise, gateRises := 0,
            gateStep := false }))) ∧
  (∀ (f : Fin 8) (gate first last : Nat) (s : State), gate = nsUnits (s.b (bankOfF f) 4 0x0C f 0x13 * 1000) →
      0 < gate → first = ((s.f[f].gateAt).toNat / gate + 1) * gate →
      last = (bankNow (s.banks[bankOfF f])).toNat / gate * gate → first < last → fBit s f 2 = false →
      s.f[f].gateRises ≠ 0 → s.f[f].gateStep = false →
      exec (.frequencyGateEnd f) s = .next (s.modF f (fun k => { k with
          freq := min (freqOf s.f[f].gateRises (s.f[f].lastRise - s.f[f].gateStart).toNat) (freqOf 1 (last -
            (s.f[f].lastRise).toNat)), gateAt := BitVec.ofNat 72 last, gateStart := k.lastRise, gateRises := 0,
            gateStep := false }))) ∧
  (∀ (f : Fin 8) (gate first last : Nat) (s : State), gate = nsUnits (s.b (bankOfF f) 4 0x0C f 0x13 * 1000) →
      0 < gate → first = ((s.f[f].gateAt).toNat / gate + 1) * gate →
      last = (bankNow (s.banks[bankOfF f])).toNat / gate * gate → first < last → fBit s f 2 = false →
      s.f[f].gateRises = 0 →
      exec (.frequencyGateEnd f) s = .next (s.modF f (fun k => { k with
          freq := min (min s.f[f].freq (freqOf 1 (first - (s.f[f].lastRise).toNat))) (freqOf 1 (last -
            (s.f[f].lastRise).toNat)), gateAt := BitVec.ofNat 72 last, gateStart := k.lastRise, gateRises := 0,
            gateStep := false }))) ∧
  (∀ (f : Fin 8) (gate first last : Nat) (s : State), gate = nsUnits (s.b (bankOfF f) 4 0x0C f 0x13 * 1000) →
      0 < gate → first = ((s.f[f].gateAt).toNat / gate + 1) * gate →
      last = (bankNow (s.banks[bankOfF f])).toNat / gate * gate → first < last → fBit s f 2 = false →
      s.f[f].gateRises ≠ 0 → s.f[f].gateStep = true →
      exec (.frequencyGateEnd f) s = .next (s.modF f (fun k => { k with
          freq := min s.f[f].freq (freqOf 1 (last - (s.f[f].lastRise).toNat)), gateAt := BitVec.ofNat 72 last,
            gateStart := k.lastRise, gateRises := 0, gateStep := false }))) ∧
  (∀ (f : Fin 8) (s : State), fBit s f 2 = false → nsUnits (s.b (bankOfF f) 2 0x0C f 0x14 * 1000000) ≤ (bankNow
      (s.banks[bankOfF f]) - s.f[f].lastRise).toNat →
      exec (.stopTimeout f) s = .next (s.stopF f)) ∧
  (∀ (f : Fin 8) (s : State), (fBit s f 2 = true ∨ (bankNow (s.banks[bankOfF f]) - s.f[f].lastRise).toNat < nsUnits
      (s.b (bankOfF f) 2 0x0C f 0x14 * 1000000)) →
      exec (.stopTimeout f) s = .next s) ∧
  (∀ (f : Fin 8) (t : CellTime) (period : Nat) (s : State), s.b (bankOfF f) 1 0x0C f 0x15 = 0x40 →
      (s.banks[bankOfF f]).arrived = true → period = nsUnits (s.b (bankOfF f) 4 0x0C f 0x17 * 1000) → 0 < period →
      t = BitVec.ofNat 72 (((s.f[f].lastGrid).toNat / period + 1) * period) →
      ((s.f[f].lastGrid).toNat / period + 1) * period ≤ (bankNow (s.banks[bankOfF f])).toNat →
      exec (.latchTrigger f t) s = .next ((s.latch f t).modF f (fun k => { k with lastGrid := t }))) ∧
  (∀ (f : Fin 8) (t : CellTime) (s : State), latchDueAt s f ≠ some t →
      exec (.latchTrigger f t) s = .next s) ∧
  (∀ (f : Fin 8) (t : CellTime) (s : State), s.f[f].armed = some (t, 0) →
      reached t (bankNow (s.banks[bankOfF f])) = true →
      exec (.namedLatchInstant f) s = .next (s.latchNamed f t)) ∧
  (∀ (f : Fin 8) (t : CellTime) (h : BitVec 16) (s : State), s.f[f].armed = some (t, h) → h ≠ 0 →
      reached t (bankNow (s.banks[bankOfF f])) = true →
      exec (.namedLatchInstant f) s = .next ((s.latchNamed f t).sendUp (bankOfF f) (.outcome h 0 0 (bankNow
        (s.banks[bankOfF f]))
        (bankUnc s (bankOfF f)) true))) ∧
  (∀ (f : Fin 8) (s : State), (∀ t h, s.f[f].armed = some (t, h) → reached t (bankNow (s.banks[bankOfF f])) = false) →
      exec (.namedLatchInstant f) s = .next s)

/-- Resets, power failure and supply-good are taken in order. exec answers the next state that the rules give. RESET_N
falling resets with its cause once; its rise releases it and starts or extends the 10 µs delay, where that reset or another
with a running delay stands. The supervisor's key 0x5EC0 from a privileged access resets, and anything else does nothing. A
logic reset that is due, outside a power failure, is taken with the cause of the highest rank after the raises waiting and
the Heartwood record; with none due, or in a power failure, nothing happens. A rail failing that was not good does nothing;
in a power failure it is only noted; in a reset it makes the reset a power-fail reset; otherwise it starts the power-fail
commit where the hold-up is ready and resets at once where it is not. The end of the commit writes the last page, numbered
by the mount where that had not run and the journal is being mounted, and resets; the cut of VHOLD does so without it and
clears HOLD_READY; neither does anything outside a power failure. A supply that becomes good sets its bit, and VIO, outside
a power failure, feeds the memory again; where it is the last of the four in a reset, it starts the 1 ms delay and, after a
loss of VAUX3, counts the reset from then; one that is good already does nothing. HOLD_READY follows its event, and its
return ends PMU-02 where that was active. Spec: 18_startup_identity.md: Reset sources; 19_power_isolation_thermal.md: Supply
monitors and power-fail detection; 19_power_isolation_thermal.md: Hold-up: VHOLD and VMEM; 17_external_memory.md: Power-fail
commit. -/
def Obligations.ResetsAreTakenInOrder : Prop :=
  (∀ (s : State), s.sup.resetPin = none →
      exec .resetNEdge s = .next ((s.modSup (fun x => { x with resetPin := some s.tb.mono })).resetNow 3)) ∧
  (∀ (s : State), s.sup.resetPin ≠ none →
      exec .resetNEdge s = .next s) ∧
  (∀ (s : State), s.sup.resetPin = none →
      exec .resetNRise s = .next s) ∧
  (∀ (t e : BitVec 96) (s : State), s.sup.resetPin = some t →
      e = s.tb.mono + BitVec.ofNat 96 (10000 * 2 ^ 32) → s.sup.resetEnd = none → s.sup.reset = some 3 →
      exec .resetNRise s = .next (s.modSup (fun x => { x with resetPin := none, resetEnd := some e }))) ∧
  (∀ (t e : BitVec 96) (s : State), s.sup.resetPin = some t →
      e = s.tb.mono + BitVec.ofNat 96 (10000 * 2 ^ 32) → s.sup.resetEnd = none → s.sup.reset ≠ some 3 →
      exec .resetNRise s = .next (s.modSup (fun x => { x with resetPin := none, resetEnd := none }))) ∧
  (∀ (t e x : BitVec 96) (s : State), s.sup.resetPin = some t →
      e = s.tb.mono + BitVec.ofNat 96 (10000 * 2 ^ 32) → s.sup.resetEnd = some x →
      exec .resetNRise s = .next (s.modSup (fun u => { u with
          resetPin := none, resetEnd := some (if x.toNat < e.toNat then e else x) }))) ∧
  (∀ (s : State),
      exec (.supResetKey true 0x5EC0) s = .next (s.resetNow 8)) ∧
  (∀ (priv : Bool) (key : BitVec 16) (s : State), (priv = false ∨ key ≠ 0x5EC0) →
      exec (.supResetKey priv key) s = .next s) ∧
  (∀ (c : Nat) (s : State), s.sup.powerFail = false → dueResets s ≠ [] → resetCause s = some c →
      exec .logicReset s = .next (s.collectAll.heartNow.resetLogic c)) ∧
  (∀ (s : State), (s.sup.powerFail = true ∨ dueResets s = []) →
      exec .logicReset s = .next s) ∧
  (∀ (rails : BitVec 4) (s : State), rails &&& s.sup.supplyGood = 0 →
      exec (.powerFailDetection rails) s = .next s) ∧
  (∀ (rails : BitVec 4) (s : State), rails &&& s.sup.supplyGood ≠ 0 → s.sup.powerFail = true →
      exec (.powerFailDetection rails) s = .next (s.dropRails (rails &&& s.sup.supplyGood))) ∧
  (∀ (rails : BitVec 4) (c : Nat) (s : State), rails &&& s.sup.supplyGood ≠ 0 → s.sup.powerFail = false →
      s.sup.reset = some c →
      exec (.powerFailDetection rails) s = .next ((s.dropRails (rails &&& s.sup.supplyGood)).modSup (fun u => { u with
        reset := some (if u.aonLost then 1 else min 2 (u.reset.getD 2)), resetEnd := none }))) ∧
  (∀ (rails : BitVec 4) (s : State), rails &&& s.sup.supplyGood ≠ 0 → s.sup.powerFail = false →
      s.sup.reset = none → s.sup.holdReady = true →
      exec (.powerFailDetection rails) s = .next ((((s.modSup (fun x => { x with
        holdLow := natBit (s.p 1 0x03 0 0x0C) 0 })).dropRails (rails &&& s.sup.supplyGood)).startPowerFail))) ∧
  (∀ (rails : BitVec 4) (s : State), rails &&& s.sup.supplyGood ≠ 0 → s.sup.powerFail = false →
      s.sup.reset = none → s.sup.holdReady = false →
      exec (.powerFailDetection rails) s = .next (((s.modSup (fun x => { x with
        holdLow := natBit (s.p 1 0x03 0 0x0C) 0 })).dropRails (rails &&& s.sup.supplyGood)).resetNow 2)) ∧
  (∀ (s : State), s.sup.powerFail = true → s.jrn.mounted = true →
      exec .powerFailCommitEnd s = .next (s.powerFailPage.endPowerFail.resetNow 2)) ∧
  (∀ (s : State), s.sup.powerFail = true → s.jrn.mounted = false → journalState s = 1 →
      exec .powerFailCommitEnd s = .next (s.mountNumbers.powerFailPage.endPowerFail.resetNow 2)) ∧
  (∀ (s : State), s.sup.powerFail = true → s.jrn.mounted = false → journalState s ≠ 1 →
      exec .powerFailCommitEnd s = .next (s.endPowerFail.resetNow 2)) ∧
  (∀ (s : State), s.sup.powerFail = false →
      exec .powerFailCommitEnd s = .next s) ∧
  (∀ (s : State), s.sup.powerFail = true →
      exec .vholdCut s = .next ((s.endPowerFail.modSup (fun x => { x with holdReady := false })).resetNow 2)) ∧
  (∀ (s : State), s.sup.powerFail = false →
      exec .vholdCut s = .next s) ∧
  (∀ (rail : Fin 4) (s : State), s.sup.supplyGood.getLsbD rail = true →
      exec (.supplyGood rail) s = .next s) ∧
  (∀ (rail : Fin 4) (s : State), s.sup.supplyGood.getLsbD rail = false →
      (s.sup.supplyGood ||| 1#4 <<< rail.val ≠ 0xF ∨ s.sup.reset = none) →
      exec (.supplyGood rail) s = .next (s.modSup (fun x => { x with
        supplyGood := x.supplyGood ||| 1#4 <<< rail.val
        memSupply := if rail = 2 && !x.powerFail then .vio else x.memSupply }))) ∧
  (∀ (rail : Fin 4) (c : Nat) (s : State), s.sup.supplyGood.getLsbD rail = false →
      s.sup.supplyGood ||| 1#4 <<< rail.val = 0xF → s.sup.reset = some c →
      exec (.supplyGood rail) s = .next ((s.raiseRail rail).modSup (fun x => { x with
          resetEnd := some (s.tb.mono + BitVec.ofNat 96 (1000000 * 2 ^ 32)),
            resetAt := if x.aonLost then s.tb.mono else x.resetAt }))) ∧
  (∀ (s : State), s.sup.holdActive = true →
      exec (.holdReadyChange true) s = .next ((s.modSup (fun x => { x with
        holdReady := true, holdActive := x.holdActive && !true })).endFault (ident .pmu 2) 0 0)) ∧
  (∀ (s : State), s.sup.holdActive = false →
      exec (.holdReadyChange true) s = .next (s.modSup (fun x =>
        { x with holdReady := true, holdActive := x.holdActive && !true }))) ∧
  (∀ (s : State),
      exec (.holdReadyChange false) s = .next (s.modSup (fun x =>
        { x with holdReady := false, holdActive := x.holdActive && true })))

/-- The start runs boot ROM, firmware, configuration, Firebreak and endpoints in order. exec answers the next state that the
rules give. Each stage runs in its own phase, outside a reset, and moves to the next with its boot steps: the boot ROM when
the reset is over; the start of the firmware; the configuration image, with calibration, configuration and rules, and with
SUP-05 where the images were refused; the arming of Firebreak, which takes up FAIL_N's state; and the opening of the
endpoints, which clears the count of boot attempts. In any other phase or in a reset the command of a stage does nothing.
The release of the memory port after a failed boot comes 10 ms after the failure and not before or without one. An unpowered
bank that starts is at its reset values, powered and reporting, with its start flag and its ends of the link anew; where the
link was started, the line to it is emptied. A powered bank that loses VF falls back to its reset values with the VF-loss
flag, and what it had to send is gone. A powered bank does not start, and an unpowered one loses nothing. Spec:
18_startup_identity.md: Boot sequence; 18_startup_identity.md: Supervisor; 18_startup_identity.md: Bank arrival. -/
def Obligations.TheStartRunsInOrder : Prop :=
  (∀ (r : BootRead) (s : State), resetOver s = true → s.sup.phase = 0 →
      exec (.bootRomStart r) s = .next (s.bootRom r)) ∧
  (∀ (t : BitVec 96) (s : State), s.sup.bootFail = some t → elapsed s t 10000000 = true →
      exec .bootFailureRelease s = .next (s.modMsp (fun m => { m with released := true }))) ∧
  (∀ (s : State), s.sup.reset = none → s.sup.phase = 1 →
      exec .firmwareStart s = .next (((((s.heartwoodCheck.startRecords.startEpoch.startJournal).modSup (fun x =>
        { x with
        phase := 2 })).bootStepNow 0x10).bootStepNow 0x11).bootStepNow 0x12)) ∧
  (∀ (c : Store) (s1 : State) (s : State), s.sup.reset = none → s.sup.phase = 2 → startContent s = (c, none) →
      s1 = (s.startCal.startConfig c).startRules →
      exec .configImageLoad s = .next ((((s1.modSup (fun x => { x with phase := 3 })).bootStepNow 0x13).bootStepNow
        0x14).bootStepNow 0x15)) ∧
  (∀ (c : Store) (d : Nat) (s1 : State) (s : State), s.sup.reset = none → s.sup.phase = 2 → startContent s = (c,
      some d) → s1 = (s.startCal.startConfig c).startRules →
      exec .configImageLoad s = .next (((((s1.raise (ident .sup 5) 0 0 (BitVec.ofNat 32 d)).modSup (fun x => { x with
        phase := 3 })).bootStepNow 0x13).bootStepNow 0x14).bootStepNow 0x15)) ∧
  (∀ (s : State), s.sup.reset = none → s.sup.phase = 3 →
      exec .firebreakArm s = .next (((s.modFb (fun f => { f with
          armed := true, failLow := f.records[(0 : Fin 33)].resetOnly })).modSup (fun x => { x with
        phase := 4 })).bootStepNow 0x16)) ∧
  (∀ (s : State), s.sup.reset = none → s.sup.phase = 4 →
      exec .endpointsOpen s = .next (((({ s with mbx := { s.mbx with eps := s.mbx.eps.map (fun p => { p with
        opened := true }) } } : State).modHw (fun h => { h with bootAttempts := 0 })).modSup (fun x => { x with
          phase := 5, endpointsOpen := true })).bootStepNow 0x17)) ∧
  (∀ (r : BootRead) (s : State), (resetOver s = false ∨ s.sup.phase ≠ 0) →
      exec (.bootRomStart r) s = .next s) ∧
  (∀ (s : State), s.sup.bootFail = none →
      exec .bootFailureRelease s = .next s) ∧
  (∀ (t : BitVec 96) (s : State), s.sup.bootFail = some t → elapsed s t 10000000 = false →
      exec .bootFailureRelease s = .next s) ∧
  (∀ (s : State), (s.sup.reset ≠ none ∨ s.sup.phase ≠ 1) →
      exec .firmwareStart s = .next s) ∧
  (∀ (s : State), (s.sup.reset ≠ none ∨ s.sup.phase ≠ 2) →
      exec .configImageLoad s = .next s) ∧
  (∀ (s : State), (s.sup.reset ≠ none ∨ s.sup.phase ≠ 3) →
      exec .firebreakArm s = .next s) ∧
  (∀ (s : State), (s.sup.reset ≠ none ∨ s.sup.phase ≠ 4) →
      exec .endpointsOpen s = .next s) ∧
  (∀ (b : Fin 4) (s1 : State) (s : State), (s.banks[b]).powered = false →
      s1 = ((((s.dropBankCfg b).resetChannels b).modBank b (fun _ =>
          { bankReset with powered := true, reporting := true, startFlag := true })).modUp b (fun d => { linkReset with
          rxSeq := d.rxSeq, lastExp := d.lastExp })).turnUp b →
      exec (.bankStart b) s = .next (if s.links[b].started then
        (s1.modDown b (fun d => { d with
            slot := 7, line := .idle, copy := none, rxSeq := 0, lastExp := none })).turnDown b else s1)) ∧
  (∀ (b : Fin 4) (s : State), (s.banks[b]).powered = true →
      exec (.bankStart b) s = .next s) ∧
  (∀ (b : Fin 4) (s : State), (s.banks[b]).powered = true →
      exec (.vfLoss b) s = .next (((((s.dropBankCfg b).resetChannels b).modBank b (fun _ =>
        { bankReset with reporting := true, vfLossFlag := true })).modUp b (fun d => { d with
          queued := [], express := [], copy := none, unacked := [], again := [], slot := 7, line := .idle })).turnUp b)) ∧
  (∀ (b : Fin 4) (s : State), (s.banks[b]).powered = false →
      exec (.vfLoss b) s = .next s)

/-- Field supplies and die temperatures raise and end their faults. exec answers the next state that the rules give. A
powered bank whose VF leaves its range raises BKC-05, and one whose VF is back in range ends it; a powered field die at 150
°C or above takes its outputs off and raises BKC-06, and below 140 °C gives them back and ends it; the logic die at 150 °C
or above raises PMU-06 and below 145 °C ends it. Each does nothing where the fault already stands or does not stand, between
its two temperatures, and, for a bank, without power. A measurement of the supplies is stored and the hold-up, the ranges,
the power and the ports are checked by it. Spec: 19_power_isolation_thermal.md: Field supplies;
19_power_isolation_thermal.md: Supply monitors and power-fail detection; 19_power_isolation_thermal.md: Derating;
19_power_isolation_thermal.md: Faults. -/
def Obligations.SuppliesAndTemperaturesAreWatched : Prop :=
  (∀ (b : Fin 4) (s : State), (s.banks[b]).powered = true → (s.banks[b]).vfLow = false →
      exec (.vfOutOfRange b) s = .next ((s.modBank b (fun k => { k with vfLow := true })).bankRaise b (ident .bkc 5) 1
        b)) ∧
  (∀ (b : Fin 4) (s : State), (s.banks[b]).powered = true → (s.banks[b]).vfLow = true →
      exec (.vfRangeRestored b) s = .next ((s.modBank b (fun k => { k with vfLow := false })).bankEnd b (ident .bkc 5) 1
        b)) ∧
  (∀ (b : Fin 4) (t : Int) (s : State), (s.banks[b]).powered = true → (s.banks[b]).hotDie = false → 15000 ≤ t →
      exec (.fieldDieOvertemp b t) s = .next (((s.modBank b (fun k => { k with hotDie := true })).hotOutputs b
        true).bankRaise b (ident .bkc 6) 1 b)) ∧
  (∀ (b : Fin 4) (t : Int) (s : State), (s.banks[b]).powered = true → (s.banks[b]).hotDie = true → t < 14000 →
      exec (.fieldDieOvertemp b t) s = .next (((s.modBank b (fun k => { k with hotDie := false })).hotOutputs b
        false).bankEnd b (ident .bkc 6) 1 b)) ∧
  (∀ (t : Int) (s : State), s.sup.hot = false → 15000 ≤ t →
      exec (.logicDieOvertemp t) s = .next ((s.modSup (fun x => { x with hot := true })).raise (ident .pmu 6) 0 0)) ∧
  (∀ (t : Int) (s : State), s.sup.hot = true → t < 14500 →
      exec (.logicDieOvertemp t) s = .next ((s.modSup (fun x => { x with hot := false })).endFault (ident .pmu 6) 0 0)) ∧
  (∀ (b : Fin 4) (s : State), ((s.banks[b]).powered = false ∨ (s.banks[b]).vfLow = true) →
      exec (.vfOutOfRange b) s = .next s) ∧
  (∀ (b : Fin 4) (s : State), ((s.banks[b]).powered = false ∨ (s.banks[b]).vfLow = false) →
      exec (.vfRangeRestored b) s = .next s) ∧
  (∀ (b : Fin 4) (t : Int) (s : State), ((s.banks[b]).powered = false ∨ ((s.banks[b]).hotDie = false ∧
      t < 15000) ∨ ((s.banks[b]).hotDie = true ∧ 14000 ≤ t)) →
      exec (.fieldDieOvertemp b t) s = .next s) ∧
  (∀ (t : Int) (s : State), ((s.sup.hot = false ∧ t < 15000) ∨ (s.sup.hot = true ∧ 14500 ≤ t)) →
      exec (.logicDieOvertemp t) s = .next s) ∧
  (∀ (m : Supplies) (s : State),
      exec (.supplyMeasurement m) s = .next ((((s.storeSupplies m).checkHold.checkRange (outOfRange s.sup.vioLevel
        m)).checkPower).checkPorts m.logicTemp))

/-- The watchdog is served in its window, and it and the clock monitor bite otherwise. exec answers the next state that the
rules give. A write of the watchdog that is not privileged is a privilege violation and nothing else. Enabling takes the
values written and starts the interval, once. A service while disabled does nothing; enabled, the first key is noted; the
second key within 128 µs of it and in the open window restarts the interval with the values written; a first key again, a
second key without the first, late or outside the window, and any other value bite. PERIOD from 1,000 to 1,000,000 and
WINDOW are taken in the open window, PERIOD outside the range does nothing, and outside the window both are rejected with
PERIOD_REJECT and its event. A 1 written to bits 2 and 3 of the status clears PRIV_VIOLATION and PERIOD_REJECT. An interval
that has ended bites, and one that has not, or disabled, does nothing. A clock window is stored: from 90 to 110 edges clears
the run, outside starts it; the second outside in a row, or a stopped clock, sets the device safe state with FSC-03, drives
FAIL_N low, counts in Heartwood and resets. A pending fault record goes to Heartwood, once. WDT_RESET_COUNT is answered, and
NOT_AUTHORITY without the right to configure. Spec: 10_firebreak.md: Supervisor watchdog; 10_firebreak.md: Clock monitor;
10_firebreak.md: Heartwood. -/
def Obligations.TheWatchdogAndTheClockMonitorBite : Prop :=
  (∀ (s : State),
      exec (.wdtEnable false) s = .next s.privViolation) ∧
  (∀ (s : State), s.wdt.enabled = true →
      exec (.wdtEnable true) s = .next s) ∧
  (∀ (s : State), s.wdt.enabled = false →
      exec (.wdtEnable true) s = .next (s.modWdt (fun x => { x with
        enabled := true, start := s.tb.mono, period := x.nextPeriod, window := x.nextWindow }))) ∧
  (∀ (v : BitVec 32) (s : State),
      exec (.wdtService false v) s = .next s.privViolation) ∧
  (∀ (v : BitVec 32) (s : State), s.wdt.enabled = false →
      exec (.wdtService true v) s = .next s) ∧
  (∀ (v : BitVec 32) (s : State), s.wdt.enabled = true → v.toNat % 65536 = 0x3C5A → s.wdt.firstKey = none →
      exec (.wdtService true v) s = .next (s.modWdt (fun x => { x with firstKey := some s.tb.mono }))) ∧
  (∀ (v : BitVec 32) (t : BitVec 96) (s : State), s.wdt.enabled = true → v.toNat % 65536 = 0x3C5A →
      s.wdt.firstKey = some t →
      exec (.wdtService true v) s = .next s.bite) ∧
  (∀ (v : BitVec 32) (s : State), s.wdt.enabled = true → v.toNat % 65536 = 0xC3A5 → s.wdt.firstKey = none →
      exec (.wdtService true v) s = .next s.bite) ∧
  (∀ (v : BitVec 32) (t : BitVec 96) (s : State), s.wdt.enabled = true → v.toNat % 65536 = 0xC3A5 →
      s.wdt.firstKey = some t → (s.tb.mono - t).toNat ≤ 128 * 2 ^ 32 → windowOpen s = true →
      exec (.wdtService true v) s = .next (s.modWdt (fun x => { x with
        firstKey := none, start := s.tb.mono, period := x.nextPeriod, window := x.nextWindow }))) ∧
  (∀ (v : BitVec 32) (t : BitVec 96) (s : State), s.wdt.enabled = true → v.toNat % 65536 = 0xC3A5 →
      s.wdt.firstKey = some t → (128 * 2 ^ 32 < (s.tb.mono - t).toNat ∨ windowOpen s = false) →
      exec (.wdtService true v) s = .next s.bite) ∧
  (∀ (v : BitVec 32) (s : State), s.wdt.enabled = true → v.toNat % 65536 ≠ 0x3C5A → v.toNat % 65536 ≠ 0xC3A5 →
      exec (.wdtService true v) s = .next s.bite) ∧
  (∀ (fd : WdtField) (v : BitVec 32) (s : State),
      exec (.wdtPeriodWrite false fd v) s = .next s.privViolation) ∧
  (∀ (v : BitVec 32) (s : State), windowOpen s = true → 1000 ≤ v.toNat → v.toNat ≤ 1000000 →
      exec (.wdtPeriodWrite true .period v) s = .next (s.modWdt (fun x => { x with nextPeriod := v.toNat }))) ∧
  (∀ (v : BitVec 32) (s : State), windowOpen s = true → (v.toNat < 1000 ∨ 1000000 < v.toNat) →
      exec (.wdtPeriodWrite true .period v) s = .next s) ∧
  (∀ (v : BitVec 32) (s : State), windowOpen s = true →
      exec (.wdtPeriodWrite true .window v) s = .next (s.modWdt (fun x => { x with nextWindow := v.toNat % 16 }))) ∧
  (∀ (v : BitVec 32) (s : State), windowOpen s = false →
      exec (.wdtPeriodWrite true .period v) s = .next ((s.modWdt (fun x => { x with periodReject := true })).orP 0x12 0
        0x0D 4)) ∧
  (∀ (v : BitVec 32) (s : State), windowOpen s = false →
      exec (.wdtPeriodWrite true .window v) s = .next ((s.modWdt (fun x => { x with periodReject := true })).orP 0x12 0
        0x0D 4)) ∧
  (∀ (v : BitVec 32) (s : State),
      exec (.wdtPeriodWrite true .status v) s = .next (s.modWdt (fun x => { x with
        periodReject := x.periodReject && !v.getLsbD 3, privViolation := x.privViolation && !v.getLsbD 2 }))) ∧
  (∀ (s : State), s.wdt.enabled = true → s.wdt.period * 1000 ≤ wdtAge s →
      exec .wdtIntervalEnd s = .next s.bite) ∧
  (∀ (s : State), (s.wdt.enabled = false ∨ wdtAge s < s.wdt.period * 1000) →
      exec .wdtIntervalEnd s = .next s) ∧
  (∀ (edges : Nat) (s : State), (edges < 90 ∨ 110 < edges) → s.wdt.monBad = 0 →
      exec (.clockMonitorWindow edges false) s = .next ((s.modWdt (fun x => { x with monBad := x.monBad + 1 })).setP 2
        0x12 0 0x0C edges)) ∧
  (∀ (edges : Nat) (s : State), 90 ≤ edges → edges ≤ 110 →
      exec (.clockMonitorWindow edges false) s = .next ((s.modWdt (fun x => { x with monBad := 0 })).setP 2 0x12 0 0x0C
        edges)) ∧
  (∀ (edges : Nat) (s1 : State) (s : State), (s1 = (s.modWdt (fun x => { x with
        monBad := if edges < 90 ∨ 110 < edges then x.monBad + 1 else 0 })).setP 2 0x12 0 0x0C edges) →
      exec (.clockMonitorWindow edges true) s = .next ((((((s1.setRecord 0 none true (ident .fsc 3)).failLow).modHw (fun
        h => { h with
        monResets := satInc h.monResets })).raise (ident .fsc 3) 0 0).requestReset 5))) ∧
  (∀ (edges : Nat) (s1 : State) (s : State), (edges < 90 ∨ 110 < edges) → 1 ≤ s.wdt.monBad →
      s1 = (s.modWdt (fun x => { x with monBad := x.monBad + 1 })).setP 2 0x12 0 0x0C edges →
      exec (.clockMonitorWindow edges false) s = .next ((((((s1.setRecord 0 none true (ident .fsc 3)).failLow).modHw
        (fun h => { h with
        monResets := satInc h.monResets })).raise (ident .fsc 3) 0 0).requestReset 5))) ∧
  (∀ (r : FaultRec) (s : State), s.firebreak.heartPending = some r →
      exec .heartwoodWrite s = .next ((s.modFb (fun f => { f with heartPending := none })).modHw (fun h =>
        { h with lastFault := faultBytes r }))) ∧
  (∀ (s : State), s.firebreak.heartPending = none →
      exec .heartwoodWrite s = .next s) ∧
  (∀ (q : Req) (v : BitVec 16) (s : State), mayConfigure s q.ep = true →
      exec (.wdtResetCount q v) s = .next ((wdtResetCount s v).finish q opSetParam)) ∧
  (∀ (q : Req) (v : BitVec 16) (s : State), mayConfigure s q.ep = false →
      exec (.wdtResetCount q v) s = .next (s.finish q opSetParam rcNotAuthority []))

/-- Channel commands that complete OK have their effect, and the others their code. exec answers the next state that the
rules give, for a sender that may configure. CAPTURE_POP of a held number removes the captures up to it, clears the
queue-full bit and completes OK; of another number OUT_OF_RANGE. LATCH_AT to a present bank sends the latch. SYNC_AT of a
channel that allows it requests the synchronisation and completes OK, or LATE where the request says so. ROTATE_NOW of an
eligible channel of a present bank sends the request. TRIM_POINT of an analogue output that has stood for 10 ms takes the
point and answers target and measurement. TRIM_APPLY with two good points stages their trims and answers them.
WDT_RESET_COUNT of 0 clears both counts in Heartwood, of another value is OUT_OF_RANGE. LOG_POP of a held number removes the
records up to it and completes OK, of another is OUT_OF_RANGE. LOG_POP of a sender that may not configure is NOT_AUTHORITY.
Where the code is OUT_OF_RANGE or NOT_AUTHORITY nothing but the completion changes. Spec: 07_fast_inputs.md: Capture queue;
07_fast_inputs.md: Latches; 05_filter_chain.md: Decimator synchronisation; 04_precision_conversion.md: The rotation;
04_precision_conversion.md: Output trims and bank calibration records; 10_firebreak.md: Heartwood; 10_firebreak.md: Fault
identifiers. -/
def Obligations.ChannelCommandsComplete : Prop :=
  (∀ (q : Req) (f : Fin 8) (seq : BitVec 16) (i : Nat) (s : State), mayConfigure s q.ep = true →
      s.captures[f].findIdx? (fun c => c.seq == seq) = some i →
      exec (.capturePop q f seq) s = .next (State.finish
        (({ s with captures := s.captures.set f (s.captures[f].drop (i + 1)) } : State).fFlag f 3 false) q opSetParam 0
        ([]))) ∧
  (∀ (q : Req) (f : Fin 8) (seq : BitVec 16) (s : State), mayConfigure s q.ep = true →
      s.captures[f].findIdx? (fun c => c.seq == seq) = none →
      exec (.capturePop q f seq) s = .next (State.finish (s) q opSetParam rcOutOfRange ([]))) ∧
  (∀ (q : Req) (f : Fin 8) (t : CellTime) (s : State), mayConfigure s q.ep = true → bankPresent s (bankOfF f) = true →
      exec (.latchAt q f t) s = .next (State.finish (s.sendDown (bankOfF f) (.latch (fIn f) t true)) q opSetParam 0
        ([]))) ∧
  (∀ (q : Req) (u : Fin 16) (t : CellTime) (s : State), mayConfigure s q.ep = true →
      natBit (s.p 1 0x08 u 0x07) 1 = true → (s.requestSync [u] t 2).1 = true →
      exec (.syncAt q u t) s = .next (State.finish ((s.requestSync [u] t 2).2) q opSetParam 0 ([]))) ∧
  (∀ (q : Req) (u : Fin 16) (t : CellTime) (s : State), mayConfigure s q.ep = true →
      natBit (s.p 1 0x08 u 0x07) 1 = true → (s.requestSync [u] t 2).1 = false →
      exec (.syncAt q u t) s = .next (State.finish ((s.requestSync [u] t 2).2) q opSetParam rcLate ([]))) ∧
  (∀ (q : Req) (u : Fin 16) (s : State), mayConfigure s q.ep = true → bankPresent s (bankOfU u) = true →
      rotEligible s u = true →
      exec (.rotateNow q u) s = .next (State.finish (s.sendDown (bankOfU u) (.calRotate (uIn u))) q opCalibrate 0 ([]))) ∧
  (∀ (q : Req) (u : Fin 16) (second : Bool) (measured : BitVec 32) (s : State), mayConfigure s q.ep = true →
      isAo (uModeL s u) = true → bankPresent s (bankOfU u) = true →
      s.u[u].dacAt.toNat + nsUnits 10000000 ≤ (bankNow (s.banks[bankOfU u])).toNat →
      exec (.trimPoint q u second measured) s = .next (State.finish (s.modU u (fun x => { x with
          points := x.points.filter (fun p => !(p.1 == uModeL s u && p.2.1 == second)) ++ [(uModeL s u,
            second, s.u[u].dacTarget, measured.toInt)] })) q opCalibrate 0 (leBytes 4 (ofSigned 32 s.u[u].dacTarget) ++
        leBytes 4 (ofSigned 32 measured.toInt)))) ∧
  (∀ (q : Req) (u : Fin 16) (s1 a1 s2 a2 : Int) (l : List Byte) (s : State), mayConfigure s q.ep = true →
      trimPointOf s u (uModeL s u) false = some (s1, a1) → trimPointOf s u (uModeL s u) true = some (s2, a2) →
      isAo (uModeL s u) = true → trimOk (spanOf (uModeL s u)) [s1, a1, s2, a2] = true → l = [s1, a1, s2,
      a2].flatMap (fun v => leBytes 4 (ofSigned 32 v)) →
      exec (.trimApply q u) s = .next (State.finish (s.stageBytes 0x1B 0 0x0C (192 * (bankOfU u).val + 48 * (uIn u).val
        + 16 * stageOf (uModeL s u)) l) q opCalibrate 0 (l))) ∧
  (∀ (q : Req) (s : State), mayConfigure s q.ep = true →
      exec (.wdtResetCount q 0) s = .next (State.finish (s.modHw (fun h => { h with wdtResets := 0, monResets := 0 })) q
        opSetParam 0 ([]))) ∧
  (∀ (q : Req) (v : BitVec 16) (s : State), mayConfigure s q.ep = true → v ≠ 0 →
      exec (.wdtResetCount q v) s = .next (State.finish (s) q opSetParam rcOutOfRange ([]))) ∧
  (∀ (q : Req) (seq : BitVec 16) (s : State), mayConfigure s q.ep = true →
      s.firebreak.log.any (fun r => r.seq == seq) = true →
      exec (.logPop q seq) s = .next (State.finish (s.modFb (fun f =>
        { f with log := (f.log.dropWhile (fun r => r.seq != seq)).drop 1 })) q opSetParam 0 ([]))) ∧
  (∀ (q : Req) (seq : BitVec 16) (s : State), mayConfigure s q.ep = true →
      s.firebreak.log.any (fun r => r.seq == seq) = false →
      exec (.logPop q seq) s = .next (State.finish (s) q opSetParam rcOutOfRange ([]))) ∧
  (∀ (q : Req) (seq : BitVec 16) (s : State), mayConfigure s q.ep = false →
      exec (.logPop q seq) s = .next (s.finish q opSetParam rcNotAuthority []))

/-- Schedule entries are accepted, batched, cancelled, applied, held and released. exec answers the next state that the
rules give. A list of no or more than 32 entries is BAD_PARAM. One accepted entry, or 2 to 32 as a batch with the next free
batch number, are queued, sent to their banks and answered with their handles; a refused list is answered with the index and
code, counted, and LATE or full as an event. A cancellation that fails its check answers the code. One that passes cancels
at once, with its outcome, what has not left the logic side, and sends a marker to each present bank that holds a selected
entry or, with RELEASE, the selected targets; without such a bank it completes with what was cancelled and the outcome, with
one it waits for them as a long command. At an apply instant the due entries of a bank are applied in order: those before a
share that is due, the share, and those from it on; without a share due all of them; one pending entry alone is applied and
leaves the queue. A pulse that has ended gives its target back, or, where a due entry takes the target, only ends. Held
entries resume when the bank's time is certain, oldest first, where their hold limit has not passed, and not while it is
uncertain. A held entry past HOLD_LIMIT leaves the queue with TB-12 and its outcome. Spec: 08_coherent_io.md: Acceptance;
08_coherent_io.md: Application; 08_coherent_io.md: Late entries; 08_coherent_io.md: Uncertain time; 08_coherent_io.md:
Batches; 08_coherent_io.md: Cancellation. -/
def Obligations.TheScheduleRuns : Prop :=
  (∀ (q : Req) (es : List SchedReq) (s : State), (es = [] ∨ 32 < es.length) →
      exec (.scheduleOutput q es) s = .next (State.finish (s) q opSchedule rcBadParam ([]))) ∧
  (∀ (q : Req) (e : SchedReq) (hs : List (BitVec 16)) (s1 : State) (s : State),
      schedCheckAll s q.ep [] 0 [e] = none → s.queueAll q.ep 0 [e] = (hs, s1) →
      exec (.scheduleOutput q [e]) s = .next ((allBanks.foldl (fun t b => t.sendEntries b hs) s1).finish q opSchedule 0
        (leBytes 2 0 ++ [1, 0] ++ (hs.map (fun h => leBytes 2 h.toNat)).flatten))) ∧
  (∀ (q : Req) (es : List SchedReq) (batch : BitVec 16) (hs : List (BitVec 16)) (s1 : State) (s : State),
      2 ≤ es.length → es.length ≤ 32 → schedCheckAll s q.ep [] 0 es = none →
      batch = nextFree (fun v => v == 0 || s.sched.any (fun r => r.batch == v)) 2000 s.nextBatch →
      ({ s with nextBatch := batch + 1 } : State).queueAll q.ep batch es = (hs, s1) →
      exec (.scheduleOutput q es) s = .next ((allBanks.foldl (fun t b => t.sendEntries b hs) s1).finish q opSchedule 0
        (leBytes 2 batch.toNat ++ [BitVec.ofNat 8 es.length, 0] ++ (hs.map (fun h => leBytes 2 h.toNat)).flatten))) ∧
  (∀ (q : Req) (es : List SchedReq) (i : Nat) (c : BitVec 16) (s1 : State) (s : State), 1 ≤ es.length →
      es.length ≤ 32 → schedCheckAll s q.ep [] 0 es = some (i, c) →
      s1 = s.setP 4 0x0D 0 0x0F (s.p 4 0x0D 0 0x0F + es.length) →
      exec (.scheduleOutput q es) s = .next ((if c = rcLate then s1.schedEvent 7 else if c = rcScheduleFull then
        s1.schedEvent 5
        else s1).finish q opSchedule c [BitVec.ofNat 8 i, 0, 0, 0])) ∧
  (∀ (q : Req) (selector : Nat) (release : Bool) (kind target : Nat) (what c : BitVec 16) (s : State),
      cancelCheck s q.ep selector what = some c →
      exec (.cancelSchedule q selector release kind target what) s = .next (s.finish q opCancel c [])) ∧
  (∀ (q : Req) (selector : Nat) (release : Bool) (kind target : Nat) (what : BitVec 16) (tgt : Nat × Nat) (owner
      outcome : Nat) (live atOnce : List SchedRec) (banks : List (Fin 4)) (s1 s2 : State) (s : State),
      cancelCheck s q.ep selector what = none → tgt = schedTarget s ⟨kind, target, 0, 0, 0, 0, 0⟩ →
      (owner = (if selector = 2 ∧ isAuthority s q.ep = true then 0xFF else q.ep.val)) →
      live = s.sched.filter (selects selector tgt.1 tgt.2 what owner) →
      atOnce = live.filter (fun r => r.state == 1 && stillQueued s r) →
      banks = allBanks.filter (fun b => bankPresent s b && ((live.map (·.bank)).contains b ||
          (if release = true then (match selector with
            | 2 => if kind ≤ 2 then targetBanks s tgt.1 tgt.2 else []
            | 4 => allBanks
            | _ => []) else []).contains b)) → s1 = atOnce.foldl (fun t r => t.recordOutcome r.bank r.handle 6 0 (now s)
              s.tb.uncertain true) s → (s2 = banks.foldl (fun t b => t.sendDown b (.cancel selector release tgt.1 tgt.2
              (if selector ≤ 1 then what else 0xFFFF) owner)) (if release then s1.releasePending atOnce owner else s1))
              → (outcome = (if selector = 0 then (if atOnce = [] then (live.head?.map (·.outcome)).getD 0 else 6) else
              0xFF)) → banks = [] →
      exec (.cancelSchedule q selector release kind target what) s = .next (s2.finish q opCancel 0 (cancelPayload
        (atOnce.map (·.handle)).eraseDups.length 0 outcome))) ∧
  (∀ (q : Req) (selector : Nat) (release : Bool) (kind target : Nat) (what : BitVec 16) (tgt : Nat × Nat) (owner
      outcome : Nat) (live atOnce : List SchedRec) (banks : List (Fin 4)) (s1 s2 : State) (s : State),
      cancelCheck s q.ep selector what = none → tgt = schedTarget s ⟨kind, target, 0, 0, 0, 0, 0⟩ →
      (owner = (if selector = 2 ∧ isAuthority s q.ep = true then 0xFF else q.ep.val)) →
      live = s.sched.filter (selects selector tgt.1 tgt.2 what owner) →
      atOnce = live.filter (fun r => r.state == 1 && stillQueued s r) →
      banks = allBanks.filter (fun b => bankPresent s b && ((live.map (·.bank)).contains b ||
          (if release = true then (match selector with
            | 2 => if kind ≤ 2 then targetBanks s tgt.1 tgt.2 else []
            | 4 => allBanks
            | _ => []) else []).contains b)) → s1 = atOnce.foldl (fun t r => t.recordOutcome r.bank r.handle 6 0 (now s)
              s.tb.uncertain true) s → (s2 = banks.foldl (fun t b => t.sendDown b (.cancel selector release tgt.1 tgt.2
              (if selector ≤ 1 then what else 0xFFFF) owner)) (if release then s1.releasePending atOnce owner else s1))
              → (outcome = (if selector = 0 then (if atOnce = [] then (live.head?.map (·.outcome)).getD 0 else 6) else
              0xFF)) → banks ≠ [] →
      exec (.cancelSchedule q selector release kind target what) s = .next (({ s2.modEp q.ep (setPhase q.tag 1) with
          mbx := { (s2.modEp q.ep (setPhase q.tag 1)).mbx with long := (s2.modEp q.ep (setPhase q.tag 1)).mbx.long ++ [{
            ep := q.ep, tag := q.tag, opcode := opCancel, result := 0,
            payload := cancelPayload (atOnce.map (·.handle)).eraseDups.length 0 outcome,
            wait := banks.foldl (fun m b => m ||| (1#4 <<< b.val)) 0, cursor := none, region := (0, 0),
            handle := if selector = 0 then some what else none }] } } : State).clearPosted q.ep)) ∧
  (∀ (b : Fin 4) (a : CellTime) (arr : Bool) (s : State), (s.banks[b]).shareMark = some (a, arr) →
      reached a (bankNow (s.banks[b])) = true →
      exec (.scheduleApplyInstant b) s = .next (((s.applyDue b false (some a)).shareFirst b (a.toNat)).applyDue b false
        none)) ∧
  (∀ (b : Fin 4) (s : State), (∀ a arr, (s.banks[b]).shareMark = some (a, arr) →
      reached a (bankNow (s.banks[b])) = false) →
      exec (.scheduleApplyInstant b) s = .next (s.applyDue b false none)) ∧
  (∀ (b : Fin 4) (r : SchedRec) (s : State), (s.banks[b]).shareMark = none → (s.banks[b]).queue = [r] →
      r.state = 2 → reached r.apply (bankNow (s.banks[b])) = true → bankUnc s b = false →
      exec (.scheduleApplyInstant b) s = .next ((s.modBank b (fun k => { k with queue := [] })).applyEntry b r 0 0
        false)) ∧
  (∀ (b : Fin 4) (s : State),
      exec (.pulseRelease b) s = .next (((s.banks[b]).pulses.filter (fun p => reached p.2 (bankNow (s.banks[b])))).foldl
        (fun t p => if ((dueEntries s b none).filter (takesTarget s b false)).any (fun r => sameTarget r p.1) = true
          then t.endPulses b p.1.kind p.1.target else t.releaseTarget b (p.1.kind, p.1.target)) s)) ∧
  (∀ (b : Fin 4) (s : State), bankUnc s b = true →
      exec (.heldEntryResume b) s = .next s) ∧
  (∀ (b : Fin 4) (go : SchedRec → Bool) (s : State), bankUnc s b = false →
      go = (fun (r : SchedRec) => r.state == 3 && reached (bankNow (s.banks[b])) (ctAddNs r.apply (s.b b 4 0x0D 0 0x03 *
      1000))) →
      exec (.heldEntryResume b) s = .next
        ((s.modBank b (fun k => { k with queue := k.queue.filter (fun r => !go r) })).resumeEntries b (sortByApply
          ((s.banks[b]).queue.filter go)))) ∧
  (∀ (b : Fin 4) (go : SchedRec → Bool) (s : State), go = (fun (r : SchedRec) => r.state == 3 && reached (ctAddNs
      r.apply (s.b b 4 0x0D 0 0x03 * 1000)) (bankNow (s.banks[b]))) →
      exec (.holdLimitExpiry b) s = .next (((s.banks[b]).queue.filter go).foldl
        (fun t r => (t.bankRaise b (ident .tb 12) (targetObj r.kind) r.target).report b r 4 0 true)
        (s.modBank b (fun k => { k with queue := k.queue.filter (fun r => !go r) }))))

/-- Points are published by their group kind, received, declared stale, forced and released. exec answers the next state
that the rules give. A group of a periodic kind publishes at an instant of its grid that is new, and otherwise not. An event
group publishes when an event has qualified and its minimum gap has passed or its frame still waits, and at its heartbeat,
and otherwise not. The oldest PUB frame that passed the checks is taken and received by its version; without one nothing
happens. The stale check visits every subscription. FORCE_POINT of the authority, with forcing enabled, a forceable point
and room in the list of 64 or a force of that point already there, forces the point; it is NOT_AUTHORITY from others, LOCKED
with forcing not enabled, and OUT_OF_RANGE for a point that cannot be forced or with the list full. RELEASE_POINT of the
authority releases the point, or with 0xFFFFFFFF all of them, and is NOT_AUTHORITY from others. Spec: 09_canopy_glade.md:
Publication; 09_canopy_glade.md: Subscription; 09_canopy_glade.md: Quality; 09_canopy_glade.md: Commissioning forces. -/
def Obligations.PointsArePublishedAndReceived : Prop :=
  (∀ (g : Fin 64) (s : State), latestInstant s g = none →
      exec (.publicationInstant g) s = .next s) ∧
  (∀ (g : Fin 64) (t : CellTime) (s : State), latestInstant s g = some t → ((pubGroup s g).1 = 1 ∨
      (pubGroup s g).1 = 2) → freshInstant s (pubState s g).mark t = true →
      exec (.publicationInstant g) s = .next (s.publish g t false)) ∧
  (∀ (g : Fin 64) (t : CellTime) (s : State), latestInstant s g = some t → (((pubGroup s g).1 ≠ 1 ∧
      (pubGroup s g).1 ≠ 2) ∨ freshInstant s (pubState s g).mark t = false) →
      exec (.publicationInstant g) s = .next s) ∧
  (∀ (g : Fin 64) (s : State), (pubGroup s g).1 = 3 → (pubState s g).qualified = true →
      (frameWaits s g = true ∨ (pubState s g).lastSent.all (fun t => elapsed s t ((pubGroup s g).2.2.2.2.2 * 1000)) =
      true) →
      exec (.eventGroupPublish g) s = .next (s.publish g (now s) (frameWaits s g))) ∧
  (∀ (g : Fin 64) (s : State), ((pubGroup s g).1 ≠ 3 ∨ (pubState s g).qualified = false ∨
      (frameWaits s g || (pubState s g).lastSent.all (fun t => elapsed s t ((pubGroup s g).2.2.2.2.2 * 1000))) = false)
      →
      exec (.eventGroupPublish g) s = .next s) ∧
  (∀ (g : Fin 64) (s : State), (pubGroup s g).1 = 3 → (pubState s g).lastSent.all (fun t => elapsed s t ((pubGroup s
      g).2.2.2.1 * 1000)) = true →
      exec (.heartbeatExpiry g) s = .next (s.publish g (now s) false)) ∧
  (∀ (g : Fin 64) (s : State), ((pubGroup s g).1 ≠ 3 ∨ (pubState s g).lastSent.all (fun t => elapsed s t ((pubGroup s
      g).2.2.2.1 * 1000)) = false) →
      exec (.heartbeatExpiry g) s = .next s) ∧
  (∀ (f : GclFrame) (s : State), s.gcl.checked.find? (fun f => f.typ == 0x20) = some f →
      exec .pubFrameReceived s =
        .next (({ s with gcl := { s.gcl with checked := s.gcl.checked.erase f } } : State).receivePub f.version
          f.srcNode f.payload)) ∧
  (∀ (s : State), s.gcl.checked.find? (fun f => f.typ == 0x20) = none →
      exec .pubFrameReceived s = .next s) ∧
  (∀ (s : State),
      exec .staleCheck s = .next ((subscriptions s).foldl (fun t e => t.staleOne e) s)) ∧
  (∀ (q : Req) (handle value : BitVec 32) (s : State), isAuthority s q.ep = true → s.p 1 0x0E 0 0x0A = 1 →
      forceable s (handle.toNat) = true → (s.canopy.forces.any (fun f => f.handle == handle.toNat) = true ∨
      s.canopy.forces.length < 64) →
      exec (.forcePoint q handle value) s = .next (State.finish (s.forcePoint (handle.toNat) value) q opSetParam 0 ([]))) ∧
  (∀ (q : Req) (handle value : BitVec 32) (s : State), isAuthority s q.ep = false →
      exec (.forcePoint q handle value) s = .next (State.finish (s) q opSetParam rcNotAuthority ([]))) ∧
  (∀ (q : Req) (handle value : BitVec 32) (s : State), isAuthority s q.ep = true → s.p 1 0x0E 0 0x0A ≠ 1 →
      exec (.forcePoint q handle value) s = .next (State.finish (s) q opSetParam rcLocked ([]))) ∧
  (∀ (q : Req) (handle value : BitVec 32) (s : State), isAuthority s q.ep = true → s.p 1 0x0E 0 0x0A = 1 →
      forceable s (handle.toNat) = false →
      exec (.forcePoint q handle value) s = .next (State.finish (s) q opSetParam rcOutOfRange ([]))) ∧
  (∀ (q : Req) (handle value : BitVec 32) (s : State), isAuthority s q.ep = true → s.p 1 0x0E 0 0x0A = 1 →
      forceable s (handle.toNat) = true → s.canopy.forces.any (fun f => f.handle == handle.toNat) = false →
      64 ≤ s.canopy.forces.length →
      exec (.forcePoint q handle value) s = .next (State.finish (s) q opSetParam rcOutOfRange ([]))) ∧
  (∀ (q : Req) (handle : BitVec 32) (s : State), isAuthority s q.ep = false →
      exec (.releasePoint q handle) s = .next (State.finish (s) q opSetParam rcNotAuthority ([]))) ∧
  (∀ (q : Req) (s : State), isAuthority s q.ep = true →
      exec (.releasePoint q 0xFFFFFFFF) s = .next (State.finish (s.releaseAllPoints) q opSetParam 0 ([]))) ∧
  (∀ (q : Req) (handle : BitVec 32) (s : State), isAuthority s q.ep = true → handle.toNat ≠ 0xFFFFFFFF →
      exec (.releasePoint q handle) s = .next (State.finish (s.releasePoint (handle.toNat)) q opSetParam 0 ([])))

/-- Glade passes run, rule tables load, verify and swap. exec answers the next state that the rules give. A fast pass runs
at an instant of its grid that is new and when a main pass has made the table ready; not ready it only notes the instant,
and at no new instant it does nothing. A main pass runs at a new instant of its grid, counts itself and makes an active
table ready; an overrun counts and raises GLD-01. Forces are sent again to every present bank each 1 ms and not sooner.
LOAD_RULES and SWAP_RULES of a sender without the right are NOT_AUTHORITY. BEGIN is LOCKED while a swap waits, OUT_OF_RANGE
for a length outside 188 to 458,828, and otherwise clears the other bank and starts the load. DATA is BAD_PARAM with no load
open or no or over 1,008 bytes, OUT_OF_RANGE beyond the length, and otherwise stored. END is BAD_PARAM with no load open or
an image that does not verify, which ends the load as refused; a good image is ready and answered, and with persistence is
also written, or MEMORY_FAILURE where it does not fit or the NOR fails. SWAP_RULES is BAD_PARAM without a ready table,
TABLE_MISMATCH with a layout that does not fit, LATE below 100 µs ahead, and otherwise armed for now or its instant. At a
new main instant, after a commit of that instant and the fast pass due with it, an armed swap whose instant has come is
executed, or dropped where the layout does not fit any more; else nothing more happens. Spec: 09_canopy_glade.md: Lanes;
09_canopy_glade.md: Forces on outputs; 09_canopy_glade.md: Loading and swapping; 09_canopy_glade.md: Rule tables. -/
def Obligations.GladePassesAndSwaps : Prop :=
  (∀ (s : State), freshInstant s s.glade.fastMark (fastInstant s) = false →
      exec .fastPass s = .next s) ∧
  (∀ (s1 : State) (s : State), freshInstant s s.glade.fastMark (fastInstant s) = true → s.glade.ready = true →
      s1 = s.modGlade (fun g => { g with fastMark := markNow s (fastInstant s) }) →
      exec .fastPass s = .next ((s1.pass true).passTime 0x0B)) ∧
  (∀ (s : State), freshInstant s s.glade.fastMark (fastInstant s) = true → s.glade.ready = false →
      exec .fastPass s = .next (s.modGlade (fun g => { g with fastMark := markNow s (fastInstant s) }))) ∧
  (∀ (overran : Bool) (s : State), freshInstant s s.glade.mainMark (mainInstant s) = false →
      exec (.mainPass overran) s = .next s) ∧
  (∀ (t : CellTime) (s1 : State) (s : State), t = mainInstant s → freshInstant s s.glade.mainMark t = true →
      s1 = (((s.mainStart t).pass false).passTime 0x0A).modGlade (fun g => { g with
          passes := g.passes + 1, lastOverran := false, ready := g.active.isSome, mainMark := markNow s t }) →
      exec (.mainPass false) s = .next (s1)) ∧
  (∀ (t : CellTime) (s1 : State) (s : State), t = mainInstant s → freshInstant s s.glade.mainMark t = true →
      s1 = (((s.mainStart t).pass false).passTime 0x0A).modGlade (fun g => { g with
          passes := g.passes + 1, lastOverran := true, ready := g.active.isSome, mainMark := markNow s t }) →
      exec (.mainPass true) s = .next (((s1.inc 4 0x0F 0 0x0C).orP 0x0F 0 0x12 1).raise (ident .gld 1) 0 0)) ∧
  (∀ (s : State), elapsed s s.glade.repeatAt 1000000 = true →
      exec .forceRepeat s = .next ((allBanks.filter (bankPresent s)).foldl (fun t b => t.sendForceAll b)
        (s.modGlade (fun g => { g with repeatAt := s.tb.mono })))) ∧
  (∀ (s : State), elapsed s s.glade.repeatAt 1000000 = false →
      exec .forceRepeat s = .next s) ∧
  (∀ (q : Req) (len : BitVec 32) (s : State), mayRules s q.ep = false →
      exec (.loadRulesBegin q len) s = .next (s.finish q opLoadRules rcNotAuthority [])) ∧
  (∀ (q : Req) (len : BitVec 32) (s : State), mayRules s q.ep = true → s.glade.swapAt ≠ none →
      exec (.loadRulesBegin q len) s = .next (s.finish q opLoadRules rcLocked [])) ∧
  (∀ (q : Req) (len : BitVec 32) (s : State), mayRules s q.ep = true → s.glade.swapAt = none →
      (len.toNat < 188 ∨ 458828 < len.toNat) →
      exec (.loadRulesBegin q len) s = .next (s.finish q opLoadRules rcOutOfRange [])) ∧
  (∀ (q : Req) (len : BitVec 32) (s1 : State) (s : State), mayRules s q.ep = true → s.glade.swapAt = none →
      188 ≤ len.toNat → len.toNat ≤ 458828 → s1 = (s.setRuleBank (inactiveBank s) [] (len.toNat)).modGlade (fun g =>
      { g with inactive := 1, persisted := false }) →
      exec (.loadRulesBegin q len) s = .next (s1.finish q opLoadRules 0 (loadPayload s1 false))) ∧
  (∀ (q : Req) (off : BitVec 32) (data : List Byte) (s : State), mayRules s q.ep = false →
      exec (.loadRulesData q off data) s = .next (s.finish q opLoadRules rcNotAuthority [])) ∧
  (∀ (q : Req) (off : BitVec 32) (data : List Byte) (s : State), mayRules s q.ep = true → s.glade.inactive ≠ 1 →
      exec (.loadRulesData q off data) s = .next (s.finish q opLoadRules rcBadParam [])) ∧
  (∀ (q : Req) (off : BitVec 32) (data : List Byte) (s : State), mayRules s q.ep = true → s.glade.inactive = 1 →
      (data = [] ∨ 1008 < data.length) →
      exec (.loadRulesData q off data) s = .next (s.finish q opLoadRules rcBadParam [])) ∧
  (∀ (q : Req) (off : BitVec 32) (data : List Byte) (s : State), mayRules s q.ep = true → s.glade.inactive = 1 →
      data ≠ [] → data.length ≤ 1008 → imageLen s (inactiveBank s) < off.toNat + data.length →
      exec (.loadRulesData q off data) s = .next (s.finish q opLoadRules rcOutOfRange [])) ∧
  (∀ (q : Req) (off : BitVec 32) (data : List Byte) (s1 : State) (s : State), mayRules s q.ep = true →
      s.glade.inactive = 1 → data ≠ [] → data.length ≤ 1008 → off.toNat + data.length ≤ imageLen s (inactiveBank s) →
      s1 = s.setRuleBank (inactiveBank s) (cellsWriteL zeroByte (gladeBank s (inactiveBank s)) (off.toNat) data)
      (imageLen s (inactiveBank s)) →
      exec (.loadRulesData q off data) s = .next (s1.finish q opLoadRules 0 (loadPayload s1 false))) ∧
  (∀ (q : Req) (persist norOk : Bool) (s : State), mayRules s q.ep = false →
      exec (.loadRulesEnd q persist norOk) s = .next (s.finish q opLoadRules rcNotAuthority [])) ∧
  (∀ (q : Req) (persist norOk : Bool) (s : State), mayRules s q.ep = true → s.glade.inactive ≠ 1 →
      exec (.loadRulesEnd q persist norOk) s = .next (s.finish q opLoadRules rcBadParam [])) ∧
  (∀ (q : Req) (persist norOk : Bool) (s : State), mayRules s q.ep = true → s.glade.inactive = 1 →
      imageOk s (inactiveBank s) = false →
      exec (.loadRulesEnd q persist norOk) s = .next ((s.modGlade (fun g => { g with inactive := 3 })).finish q
        opLoadRules rcBadParam [])) ∧
  (∀ (q : Req) (norOk : Bool) (s1 : State) (s : State), mayRules s q.ep = true → s.glade.inactive = 1 →
      imageOk s (inactiveBank s) = true → s1 = s.modGlade (fun g => { g with inactive := 2 }) →
      exec (.loadRulesEnd q false norOk) s = .next (s1.finish q opLoadRules 0 (loadPayload s1 true))) ∧
  (∀ (q : Req) (s1 : State) (s : State), mayRules s q.ep = true → s.glade.inactive = 1 →
      imageOk s (inactiveBank s) = true → rulesFit s = true →
      s1 = (s.modGlade (fun g => { g with inactive := 2 })).persistRules →
      exec (.loadRulesEnd q true true) s = .next (s1.finish q opLoadRules 0 (loadPayload s1 true))) ∧
  (∀ (q : Req) (norOk : Bool) (s : State), mayRules s q.ep = true → s.glade.inactive = 1 →
      imageOk s (inactiveBank s) = true → (norOk = false ∨ rulesFit s = false) →
      exec (.loadRulesEnd q true norOk) s = .next ((s.modGlade (fun g => { g with inactive := 2 })).rulesFailed.finish q
        opLoadRules rcMemoryFailure [])) ∧
  (∀ (q : Req) (t : CellTime) (s : State), mayRules s q.ep = false →
      exec (.swapRules q t) s = .next (s.finish q opSwapRules rcNotAuthority [])) ∧
  (∀ (q : Req) (t : CellTime) (s : State), mayRules s q.ep = true → s.glade.inactive ≠ 2 →
      exec (.swapRules q t) s = .next (s.finish q opSwapRules rcBadParam [])) ∧
  (∀ (q : Req) (t : CellTime) (s : State), mayRules s q.ep = true → s.glade.inactive = 2 →
      layoutFits s (inactiveBank s) = false →
      exec (.swapRules q t) s = .next (s.finish q opSwapRules rcTableMismatch [])) ∧
  (∀ (q : Req) (t : CellTime) (s : State), mayRules s q.ep = true → s.glade.inactive = 2 →
      layoutFits s (inactiveBank s) = true → t ≠ 0 → ctDiff t (now s) < nsUnits 100000 →
      exec (.swapRules q t) s = .next (s.finish q opSwapRules rcLate [])) ∧
  (∀ (q : Req) (s : State), mayRules s q.ep = true → s.glade.inactive = 2 → layoutFits s (inactiveBank s) = true →
      exec (.swapRules q 0) s = .next ((s.modGlade (fun g => { g with swapAt := some none })).finish q opSwapRules 0
        (swapAtBytes (some none) ++ [0, 0, 0]))) ∧
  (∀ (q : Req) (t : CellTime) (s : State), mayRules s q.ep = true → s.glade.inactive = 2 →
      layoutFits s (inactiveBank s) = true → t ≠ 0 → nsUnits 100000 ≤ ctDiff t (now s) →
      exec (.swapRules q t) s = .next ((s.modGlade (fun g => { g with swapAt := some (some t) })).finish q opSwapRules 0
        (swapAtBytes (some (some t)) ++ [0, 0, 0]))) ∧
  (∀ (s : State), freshInstant s s.glade.mainMark (mainInstant s) = false →
      exec .ruleSwapExecute s = .next s) ∧
  (∀ (t : CellTime) (s1 : State) (s : State), t = mainInstant s → freshInstant s s.glade.mainMark t = true →
      (s1 = (if fastInstant s = t then (s.commitBy t).fastDue else s.commitBy t)) → s1.glade.swapAt = none →
      exec .ruleSwapExecute s = .next s1) ∧
  (∀ (t : CellTime) (s1 : State) (u : CellTime) (s : State), t = mainInstant s →
      freshInstant s s.glade.mainMark t = true → (s1 = (if fastInstant s = t then (s.commitBy t).fastDue else s.commitBy
      t)) → s1.glade.swapAt = some (some u) → reached u t = false →
      exec .ruleSwapExecute s = .next s1) ∧
  (∀ (t : CellTime) (s1 : State) (s : State), t = mainInstant s → freshInstant s s.glade.mainMark t = true →
      (s1 = (if fastInstant s = t then (s.commitBy t).fastDue else s.commitBy t)) →
      s1.glade.swapAt = some none → layoutFits s1 (inactiveBank s1) = true →
      exec .ruleSwapExecute s = .next s1.swapNow) ∧
  (∀ (t : CellTime) (s1 : State) (s : State), t = mainInstant s → freshInstant s s.glade.mainMark t = true →
      (s1 = (if fastInstant s = t then (s.commitBy t).fastDue else s.commitBy t)) →
      s1.glade.swapAt = some none → layoutFits s1 (inactiveBank s1) = false →
      exec .ruleSwapExecute s = .next (s1.modGlade (fun g => { g with swapAt := none }))) ∧
  (∀ (t : CellTime) (s1 : State) (u : CellTime) (s : State), t = mainInstant s →
      freshInstant s s.glade.mainMark t = true → (s1 = (if fastInstant s = t then (s.commitBy t).fastDue else s.commitBy
      t)) → s1.glade.swapAt = some (some u) → reached u t = true → layoutFits s1 (inactiveBank s1) = true →
      exec .ruleSwapExecute s = .next s1.swapNow) ∧
  (∀ (t : CellTime) (s1 : State) (u : CellTime) (s : State), t = mainInstant s →
      freshInstant s s.glade.mainMark t = true → (s1 = (if fastInstant s = t then (s.commitBy t).fastDue else s.commitBy
      t)) → s1.glade.swapAt = some (some u) → reached u t = true → layoutFits s1 (inactiveBank s1) = false →
      exec .ruleSwapExecute s = .next (s1.modGlade (fun g => { g with swapAt := none })))

/-- Faults are collected in order, safe states set, cleared with the key, and liveness watched. exec answers the next state
that the rules give. The first waiting raise or end is collected, and nothing without one. The 1 s windows drop their old
occurrences, and a windowed fault with at most 16 left ends. SAFE cells go to every present bank each 1 ms and not sooner. A
failed self-protection check sets the device safe state with FSC-01, drives FAIL_N low, counts in Heartwood and resets; a
good one does nothing. SAFE_IN_N asserted sets the device's or the chosen banks' safe state by its mode and raises FSC-05
once; its release ends it once. CLEAR_SAFE collects what waits, then is NOT_AUTHORITY without the right, BAD_KEY with FSC-07
for another key, BAD_PARAM for no such scope, SAFE_ACTIVE where a cause or a silent bank stands, and otherwise clears its
record and autonomous banks; with scope 3 it clears those that can be and answers how many could not. An autonomous bank
that is ready and was asked to be cleared, or clears by itself, is cleared, and no other. LIVENESS is NOT_AUTHORITY from
others than the authority, arms the monitor and ends FSC-06 where it is enabled and the sender is the active one, and else
only completes; 98 % of its time-out without one raises FSC-06 once. A rehearsal is NOT_AUTHORITY without the right,
BAD_PARAM for no such fault or object, and otherwise journals each of its cases and answers, and stores, the six counts.
Spec: 10_firebreak.md: Fault identifiers; 10_firebreak.md: Reactions; 10_firebreak.md: Self-protection; 10_firebreak.md:
Safe-state records; 10_firebreak.md: SAFE_IN_N and FAIL_N; 10_firebreak.md: Leaving a safe state; 10_firebreak.md:
Controller-liveness monitor; 10_firebreak.md: Rehearsal and test. -/
def Obligations.FaultsAreCollectedAndSafeStatesHeld : Prop :=
  (∀ (s : State), s.firebreak.raises = [] →
      exec .faultCollect s = .next s) ∧
  (∀ (r : Raise) (rest : List Raise) (s : State), s.firebreak.raises = r :: rest → r.ends = false →
      exec .faultCollect s = .next ((s.modFb (fun f => { f with raises := rest })).collectRaise r)) ∧
  (∀ (r : Raise) (rest : List Raise) (s : State), s.firebreak.raises = r :: rest → r.ends = true →
      exec .faultCollect s = .next ((s.modFb (fun f => { f with raises := rest })).collectEnd r)) ∧
  (∀ (gone : List ActiveFault) (s : State), gone = s.firebreak.active.filter (fun a => windowed.contains a.ident &&
      decide ((windowOf s.firebreak a.ident a.obj s.tb.mono).length ≤ 16)) →
      exec .faultWindowExpiry s = .next (gone.foldl (fun t a => t.endFault a.ident a.obj.kind a.obj.index) (s.modFb (fun
        f => { f with
        windows := (f.windows.map (fun w => { w with times := windowOf f w.ident w.obj s.tb.mono })).filter
          (fun w => !w.times.isEmpty) })))) ∧
  (∀ (s : State), elapsed s s.firebreak.refreshAt 1000000 = true →
      exec .safeRefresh s = .next ((presentBanks s).foldl (fun t b => t.sendDownExpress b (.safe 3 (bankSafe t b).1
        (bankSafe t b).2 0 none 0xFFFF))
        (s.modFb (fun f => { f with refreshAt := s.tb.mono })))) ∧
  (∀ (s : State), elapsed s s.firebreak.refreshAt 1000000 = false →
      exec .safeRefresh s = .next s) ∧
  (∀ (s : State),
      exec (.selfProtectionCheck false) s = .next s) ∧
  (∀ (s1 : State) (s : State), s1 = (s.setRecord 0 none true (ident .fsc 1)).failLow →
      exec (.selfProtectionCheck true) s = .next ((({ s1 with heartwood := { s1.heartwood with
        monResets := if s1.heartwood.monResets = 0xFFFF then 0xFFFF else s1.heartwood.monResets + 1,
          crcGood := true } } : State).raise
          (ident .fsc 1) 0 0).requestReset 6)) ∧
  (∀ (s : State), s.firebreak.safeInOn = true →
      exec .safeInAssertion s = .next s) ∧
  (∀ (s1 : State) (s : State), s.firebreak.safeInOn = false → s.p 1 0x10 0 0x08 = 1 →
      s1 = (s.modFb (fun f => { f with safeInOn := true })).orP 0x10 0 0x0F 16 →
      exec .safeInAssertion s = .next ((s1.setRecord 0 (some (ident .fsc 5,
        { kind := 0, index := 0 })) false (ident .fsc 5)).raise (ident .fsc 5) 0 0)) ∧
  (∀ (s1 : State) (s : State), s.firebreak.safeInOn = false → s.p 1 0x10 0 0x08 = 2 →
      s1 = (s.modFb (fun f => { f with safeInOn := true })).orP 0x10 0 0x0F 16 →
      exec .safeInAssertion s = .next (((allBanks.filter (fun b => natBit (s.p 1 0x10 0 0x09) b.val)).foldl (fun t b =>
        t.setRecord (bankRec b) (some (ident .fsc 5, { kind := 0, index := 0 })) false (ident .fsc 5)) s1).raise (ident
          .fsc 5) 0 0)) ∧
  (∀ (s1 : State) (s : State), s.firebreak.safeInOn = false → s.p 1 0x10 0 0x08 ≠ 1 → s.p 1 0x10 0 0x08 ≠ 2 →
      s1 = (s.modFb (fun f => { f with safeInOn := true })).orP 0x10 0 0x0F 16 →
      exec .safeInAssertion s = .next (s1.raise (ident .fsc 5) 0 0)) ∧
  (∀ (s : State), s.firebreak.safeInOn = true →
      exec .safeInRelease s = .next ((s.modFb (fun f => { f with safeInOn := false })).endFault (ident .fsc 5) 0 0)) ∧
  (∀ (s : State), s.firebreak.safeInOn = false →
      exec .safeInRelease s = .next s) ∧
  (∀ (q : Req) (scope kind index : Nat) (key : BitVec 16) (s1 : State) (s : State), s1 = s.collectAll →
      mayClear s1 q.ep = false →
      exec (.clearSafe q scope kind index key) s = .next (s1.finish q opClearSafe rcNotAuthority [])) ∧
  (∀ (q : Req) (scope kind index : Nat) (key : BitVec 16) (s1 : State) (s : State), s1 = s.collectAll →
      mayClear s1 q.ep = true → key.toNat ≠ s1.p 2 0x10 0 0x06 →
      exec (.clearSafe q scope kind index key) s = .next (((s1.orP 0x10 0 0x0F 8).raise (ident .fsc 7) 9 q.ep).finish q
        opClearSafe rcBadKey [])) ∧
  (∀ (q : Req) (scope kind index : Nat) (key : BitVec 16) (s1 : State) (s : State), s1 = s.collectAll →
      mayClear s1 q.ep = true → key.toNat = s1.p 2 0x10 0 0x06 → scope ≠ 3 → scopeRecord scope kind index = none →
      exec (.clearSafe q scope kind index key) s = .next (s1.finish q opClearSafe rcBadParam [])) ∧
  (∀ (q : Req) (scope kind index : Nat) (key : BitVec 16) (n : Nat) (s1 : State) (s : State),
      s1 = s.collectAll → mayClear s1 q.ep = true → key.toNat = s1.p 2 0x10 0 0x06 → scope ≠ 3 →
      scopeRecord scope kind index = some n → (recBlocked s1 n (scopeBanks scope index) || (scopeBanks scope index).any
      (bankSilentFault s1)) = true →
      exec (.clearSafe q scope kind index key) s = .next ((s1.orP 0x10 0 0x0F 4).finish q opClearSafe rcSafeActive
        (clearPayload 0 ((if recSet s1 n then 1 else 0) + ((scopeBanks scope index).filter (isAutonomous s1)).length)))) ∧
  (∀ (q : Req) (scope kind index : Nat) (key : BitVec 16) (n : Nat) (s1 : State) (s : State),
      s1 = s.collectAll → mayClear s1 q.ep = true → key.toNat = s1.p 2 0x10 0 0x06 → scope ≠ 3 →
      scopeRecord scope kind index = some n → (recBlocked s1 n (scopeBanks scope index) || (scopeBanks scope index).any
      (bankSilentFault s1)) = false →
      exec (.clearSafe q scope kind index key) s = .next ((s1.doClear q.ep scope kind index (if recSet s1 n then [n]
        else []) ((scopeBanks scope index).filter (isAutonomous s1)) 0).finish q opClearSafe)) ∧
  (∀ (q : Req) (kind index : Nat) (key : BitVec 16) (setRecs recs : List Nat) (autos banks : List (Fin 4)) (s1 : State)
      (s : State), s1 = s.collectAll → mayClear s1 q.ep = true → key.toNat = s1.p 2 0x10 0 0x06 →
      setRecs = (List.range 33).filter (recSet s1) → recs = setRecs.filter (fun n => !recBlocked s1 n allBanks) →
      autos = allBanks.filter (isAutonomous s1) → banks = autos.filter (fun b => !bankSilentFault s1 b) →
      exec (.clearSafe q 3 kind index key) s = .next ((s1.doClear q.ep 3 kind index recs banks
        ((setRecs.length - recs.length) + (autos.length - banks.length))).finish q opClearSafe)) ∧
  (∀ (b : Fin 4) (s : State), isAutonomous s b = true → clearReady s b = true →
      (s.firebreak.clearPending[b] = true ∨ s.pAt 1 0x10 0 0x04 b = 1) →
      exec (.clearAutonomousSend b) s = .next (s.clearAutonomous b)) ∧
  (∀ (b : Fin 4) (s : State), (isAutonomous s b = false ∨ clearReady s b = false ∨
      (s.firebreak.clearPending[b] = false ∧ s.pAt 1 0x10 0 0x04 b ≠ 1)) →
      exec (.clearAutonomousSend b) s = .next s) ∧
  (∀ (q : Req) (s : State), isAuthority s q.ep = false →
      exec (.liveness q) s = .next (s.finish q opLiveness rcNotAuthority [])) ∧
  (∀ (q : Req) (s : State), isAuthority s q.ep = true → (s.p 1 0x12 0 0x01 = 0 ∨ fromActive s q.ep q.tag = false) →
      exec (.liveness q) s = .next (s.finish q opLiveness 0 [])) ∧
  (∀ (q : Req) (s : State), isAuthority s q.ep = true → s.p 1 0x12 0 0x01 ≠ 0 →
      fromActive s q.ep q.tag = true → s.firebreak.liveExpired = false →
      exec (.liveness q) s = .next (((s.modFb (fun f => { f with
        liveArmed := true, liveExpired := false, liveTimeout := s.p 2 0x12 0 0x02,
          liveSince := s.tb.mono })).setPCt 0x12 0 0x04
          (now s)).finish q opLiveness 0 [])) ∧
  (∀ (q : Req) (s1 : State) (s : State), isAuthority s q.ep = true → s.p 1 0x12 0 0x01 ≠ 0 →
      fromActive s q.ep q.tag = true → s.firebreak.liveExpired = true → s1 = s.endFault (ident .fsc 6) 0 0 →
      exec (.liveness q) s = .next (((s1.modFb (fun f => { f with
        liveArmed := true, liveExpired := false, liveTimeout := s.p 2 0x12 0 0x02,
          liveSince := s.tb.mono })).setPCt 0x12 0 0x04
          (now s)).finish q opLiveness 0 [])) ∧
  (∀ (s : State), s.firebreak.liveArmed = true → s.firebreak.liveExpired = false →
      elapsed s s.firebreak.liveSince (s.firebreak.liveTimeout * 980000) = true →
      exec .livenessTimeout s = .next ((((s.modFb (fun f => { f with liveExpired := true })).inc 4 0x12 0 0x05).orP 0x12
        0 0x0D 1).raise
        (ident .fsc 6) 0 0)) ∧
  (∀ (s : State), (s.firebreak.liveArmed = false ∨ s.firebreak.liveExpired = true ∨
      elapsed s s.firebreak.liveSince (s.firebreak.liveTimeout * 980000) = false) →
      exec .livenessTimeout s = .next s) ∧
  (∀ (q : Req) (staged all : Bool) (kind id index : Nat) (s : State), mayClear s q.ep = false →
      exec (.rehearseReaction q staged all kind id index) s = .next (s.finish q opRehearse rcNotAuthority [])) ∧
  (∀ (q : Req) (staged : Bool) (kind id index : Nat) (s : State), mayClear s q.ep = true → (384 ≤ id ∨
      (faultRow id).any (fun r => !r.kinds.contains kind || decide (kindCount kind ≤ index)) = true) →
      exec (.rehearseReaction q staged false kind id index) s = .next (s.finish q opRehearse rcBadParam [])) ∧
  (∀ (q : Req) (staged all : Bool) (kind id index : Nat) (byte : Nat →
      Nat) (cases_ : List (Nat × FaultObj)) (bytes : List Byte)
        (s1 : State) (s : State), mayClear s q.ep = true → (all = true ∨ (id < 384 ∧
          (faultRow id).any (fun r => !r.kinds.contains kind || decide (kindCount kind ≤ index)) = false)) →
          ((byte = (fun i => if staged = true then leNat (s.stBytes 1 0x11 0 0x01 i) else reaction s i))) →
          cases_ = rehearseCases all kind id index → s1 = cases_.foldl (fun (t : State) c => (t.modFb (fun f =>
          { f with seq := f.seq + 1 })).journal 0x01 (faultBytes
          { ident := c.1, obj := c.2, reaction := BitVec.ofNat 8 (byte c.1), rehearsal := true, uncertain := t.tb.uncertain,
            resetOnly := false, time := now t, seq := t.firebreak.seq, detail := caseOutputs t (byte c.1 % 4) c.2
              })) s → bytes = (([cases_.length, (cases_.filter (fun c => byte c.1 % 4 == 1)).length, (cases_.filter (fun c => byte c.1 % 4 == 2)).length,
          (cases_.filter (fun c => byte c.1 % 4 == 3)).length, (cases_.filter (fun c => natBit (byte c.1) 4)).length,
          ((List.range 384).filter (fun i => reactionBad i (leNat (s.stBytes 1 0x11 0 0x01 i)))).length] : List Nat).map
            (leBytes 2)).flatten →
      exec (.rehearseReaction q staged all kind id index) s = .next ((s1.setBytes 0x11 0 0x0B 0 bytes).finish q
        opRehearse 0 bytes))

/-- The commands of the host serial link act and reply. exec answers the next state that the rules give. NOP replies empty.
READ_REG of 1 to 64 words at an aligned address replies the words read, latching as it goes, and OUT_OF_RANGE otherwise.
WRITE_REG, WRITE_BUF, WORD and DOORBELL are LOCKED while endpoint 0 is closed. WRITE_REG is OUT_OF_RANGE for a misaligned
address or count outside 1 to 64, READ_ONLY where a word may not be written, and otherwise writes the words in order.
READ_BUF and WRITE_BUF are OUT_OF_RANGE outside the 1,024 bytes, NO_BUFFER for a buffer that endpoint 0 does not hold, and
otherwise reply or write the bytes. WORD posts the command and replies its code. DOORBELL clears and rings, and replies the
bits before the clear and the ones rung. IDENT replies its 16 bytes, with the grade, the version in use and, while open,
versions 3 and 4. REPEAT offers the last reply again, and BAD_PARAM with nothing offered (the model's reading, log 13). A
register write posts, pops, releases, clears, masks or clears event bits as its address says; at the watchdog's addresses it
is a privilege violation, and where nothing may be written it does nothing. A latched read of a word with nothing to latch,
or held by a latched group, changes nothing; of the lowest word of a wider value it latches the words above it in place of
groups it touches; of a count word held by a group it leaves the group from that word on. Spec: 11_host_serial_link.md:
Commands; 11_host_serial_link.md: Status byte and replies; 13_parameter_dictionary.md: Direct register window;
13_parameter_dictionary.md: Coherence. -/
def Obligations.HostLinkCommandsReply : Prop :=
  (∀ (s : State),
      exec .nop s = .next (State.hslReply (s) 0x00 { rcmd := 0x00, result := 0, payload := [] })) ∧
  (∀ (addr : BitVec 32) (count : Byte) (ws : List Word) (s1 : State) (s : State), addr.toNat % 4 = 0 →
      count.toNat ≠ 0 → count.toNat ≤ 64 → s.hslReads (addr.toNat) (count.toNat) = (ws, s1) →
      exec (.readReg addr count) s = .next (State.hslReply (s1) 0x01
        { rcmd := 0x01, result := 0, payload := ws.flatMap (fun w => leBytes 4 w.toNat) })) ∧
  (∀ (addr : BitVec 32) (count : Byte) (s : State), (addr.toNat % 4 ≠ 0 ∨ count.toNat = 0 ∨ 64 < count.toNat) →
      exec (.readReg addr count) s = .next (State.hslReply (s) 0x01
        { rcmd := 0x01, result := rcOutOfRange, payload := [] })) ∧
  (∀ (addr : BitVec 32) (data : List Word) (s : State), (s.mbx.eps[(0 : Fin 8)]).opened = false →
      exec (.writeReg addr data) s = .next (State.hslReply (s) 0x02 { rcmd := 0x02, result := rcLocked, payload := [] })) ∧
  (∀ (addr : BitVec 32) (data : List Word) (s : State), (s.mbx.eps[(0 : Fin 8)]).opened = true →
      (addr.toNat % 4 ≠ 0 ∨ data.length = 0 ∨ 64 < data.length) →
      exec (.writeReg addr data) s = .next (State.hslReply (s) 0x02
        { rcmd := 0x02, result := rcOutOfRange, payload := [] })) ∧
  (∀ (addr : BitVec 32) (data : List Word) (s : State), (s.mbx.eps[(0 : Fin 8)]).opened = true →
      addr.toNat % 4 = 0 → data.length ≠ 0 → data.length ≤ 64 →
      (wordAddrs (addr.toNat) data.length).any (fun x => !hslWritable x) = true →
      exec (.writeReg addr data) s = .next (State.hslReply (s) 0x02
        { rcmd := 0x02, result := rcReadOnly, payload := [] })) ∧
  (∀ (addr : BitVec 32) (data : List Word) (s : State), (s.mbx.eps[(0 : Fin 8)]).opened = true →
      addr.toNat % 4 = 0 → data.length ≠ 0 → data.length ≤ 64 →
      (wordAddrs (addr.toNat) data.length).any (fun x => !hslWritable x) = false →
      exec (.writeReg addr data) s = .next (State.hslReply (((wordAddrs (addr.toNat) data.length).zip data).foldl (fun
        (t : State) x => t.writeRegister x.1 x.2) s) 0x02 { rcmd := 0x02, result := 0, payload := [] })) ∧
  (∀ (buf : Byte) (off len : BitVec 16) (s : State), (len.toNat = 0 ∨ 1024 < len.toNat ∨
      1024 < off.toNat + len.toNat) →
      exec (.readBuf buf off len) s = .next (State.hslReply (s) 0x03
        { rcmd := 0x03, result := rcOutOfRange, payload := [] })) ∧
  (∀ (buf : Byte) (off len : BitVec 16) (s : State), len.toNat ≠ 0 → len.toNat ≤ 1024 →
      off.toNat + len.toNat ≤ 1024 → heldBy s (buf.toNat) 0 = false →
      exec (.readBuf buf off len) s = .next (State.hslReply (s) 0x03
        { rcmd := 0x03, result := rcNoBuffer, payload := [] })) ∧
  (∀ (buf : Byte) (off len : BitVec 16) (s : State), len.toNat ≠ 0 → len.toNat ≤ 1024 →
      off.toNat + len.toNat ≤ 1024 → heldBy s (buf.toNat) 0 = true →
      exec (.readBuf buf off len) s = .next (State.hslReply (s) 0x03
        { rcmd := 0x03, result := 0, payload := bufBytes s (buf.toNat) (off.toNat) (len.toNat) })) ∧
  (∀ (buf : Byte) (off : BitVec 16) (data : List Byte) (s : State), (s.mbx.eps[(0 : Fin 8)]).opened = false →
      exec (.writeBuf buf off data) s = .next (State.hslReply (s) 0x04
        { rcmd := 0x04, result := rcLocked, payload := [] })) ∧
  (∀ (buf : Byte) (off : BitVec 16) (data : List Byte) (s : State),
      (s.mbx.eps[(0 : Fin 8)]).opened = true → (data.length = 0 ∨ 1024 < data.length ∨ 1024 < off.toNat + data.length) →
      exec (.writeBuf buf off data) s = .next (State.hslReply (s) 0x04
        { rcmd := 0x04, result := rcOutOfRange, payload := [] })) ∧
  (∀ (buf : Byte) (off : BitVec 16) (data : List Byte) (s : State),
      (s.mbx.eps[(0 : Fin 8)]).opened = true → data.length ≠ 0 → data.length ≤ 1024 →
      off.toNat + data.length ≤ 1024 → heldBy s (buf.toNat) 0 = false →
      exec (.writeBuf buf off data) s = .next (State.hslReply (s) 0x04
        { rcmd := 0x04, result := rcNoBuffer, payload := [] })) ∧
  (∀ (buf : Byte) (off : BitVec 16) (data : List Byte) (s : State),
      (s.mbx.eps[(0 : Fin 8)]).opened = true → data.length ≠ 0 → data.length ≤ 1024 →
      off.toNat + data.length ≤ 1024 → heldBy s (buf.toNat) 0 = true →
      exec (.writeBuf buf off data) s = .next (State.hslReply (s.writeBuf (buf.toNat) (off.toNat) data) 0x04
        { rcmd := 0x04, result := 0, payload := [] })) ∧
  (∀ (w : Word) (s : State), (s.mbx.eps[(0 : Fin 8)]).opened = false →
      exec (.word w) s = .next (State.hslReply (s) 0x05 { rcmd := 0x05, result := rcLocked, payload := [] })) ∧
  (∀ (w : Word) (code : BitVec 16) (s1 : State) (s : State), (s.mbx.eps[(0 : Fin 8)]).opened = true →
      postWord s w = (code, s1) →
      exec (.word w) s = .next (State.hslReply (s1) 0x05 { rcmd := 0x05, result := code, payload := [] })) ∧
  (∀ (clear ring : Word) (s : State), (s.mbx.eps[(0 : Fin 8)]).opened = false →
      exec (.doorbell clear ring) s = .next (State.hslReply (s) 0x06
        { rcmd := 0x06, result := rcLocked, payload := [] })) ∧
  (∀ (clear ring : Word) (s1 : State) (s : State), (s.mbx.eps[(0 : Fin 8)]).opened = true →
      s1 = (s.clearDb 0 clear).ringH2d 0 ring →
      exec (.doorbell clear ring) s = .next (State.hslReply (s1) 0x06
        { rcmd := 0x06, result := 0, payload := leBytes 4 (dbOf s 0).toNat ++ leBytes 4 (s1.mbx.eps[(0 : Fin 8)]).h2d.toNat })) ∧
  (∀ (s : State), (s.mbx.eps[(0 : Fin 8)]).opened = true →
      exec .ident s = .next (State.hslReply (s) 0x07
        { rcmd := 0x07, result := 0, payload := [0x47, 0x51, 0x48, 0x53, 0xD0, 0x0C, 0xC0] ++ leBytes 1 s.sup.fuses.grade ++ [3, 4] ++ leBytes 1 (s.mbx.eps[(0 : Fin 8)]).major ++ leBytes 1 (s.mbx.eps[(0 : Fin 8)]).minor ++ [0, 0, 0, 0] })) ∧
  (∀ (s : State), (s.mbx.eps[(0 : Fin 8)]).opened = false →
      exec .ident s = .next (State.hslReply (s) 0x07
        { rcmd := 0x07, result := 0, payload := [0x47, 0x51, 0x48, 0x53, 0xD0, 0x0C, 0xC0] ++ leBytes 1 s.sup.fuses.grade ++ [0, 0] ++ leBytes 1 (s.mbx.eps[(0 : Fin 8)]).major ++ leBytes 1 (s.mbx.eps[(0 : Fin 8)]).minor ++ [0, 0, 0, 0] })) ∧
  (∀ (r : HslReply) (s : State), s.hsl.offered = some r →
      exec .repeatReply s = .next (s.hslReply 0x08 r)) ∧
  (∀ (s : State), s.hsl.offered = none →
      exec .repeatReply s = .next (State.hslReply (s) 0x08 { rcmd := 0x08, result := rcBadParam, payload := [] })) ∧
  (∀ (v : Word) (s : State),
      exec (.registerWrite 0x0800 v) s = .next (postWord s v).2 ∧
      exec (.registerWrite 0x080C v) s = .next (s.ackPop (v.toNat % 32)) ∧
      exec (.registerWrite 0x0814 v) s = .next (s.releaseBuf (v.toNat % 256)) ∧
      exec (.registerWrite 0x0818 v) s = .next (s.clearDb 0 v) ∧
      exec (.registerWrite 0x081C v) s = .next (s.modEp 0 (fun p => { p with mask := v })) ∧
      exec (.registerWrite 0x0824 v) s = .next (s.clearUserIn 0 v) ∧
      exec (.registerWrite 0x0C30 v) s = .next (s.modTb (fun t => { t with event := t.event &&& ~~~ (v.setWidth 8) })) ∧
      exec (.registerWrite 0x0C48 v) s = .next (s.setP 1 0x0D 0 0x11 (s.p 1 0x0D 0 0x11 &&& (255 - v.toNat % 256)))) ∧
  (∀ (addr : Nat) (v : Word) (s : State), (addr = 0x1800 ∨ addr = 0x1804 ∨ addr = 0x1808 ∨ addr = 0x180C) →
      exec (.registerWrite addr v) s = .next s.privViolation) ∧
  (∀ (addr : Nat) (v : Word) (s : State), hslWritable addr = false →
      exec (.registerWrite addr v) s = .next s) ∧
  (∀ (hsl : Bool) (addr : Nat) (s : State), s.tb.latches.find? (latchHolds hsl addr) = none → latchCount addr = 0 →
      exec (.latchedRegisterRead hsl addr) s = .next s) ∧
  (∀ (hsl : Bool) (addr n : Nat) (s : State), s.tb.latches.find? (latchHolds hsl addr) = none → latchCount addr = n →
      n ≠ 0 →
      exec (.latchedRegisterRead hsl addr) s = .next (s.modTb (fun t => { t with
        latches := t.latches.filter (fun l => !(l.1 == hsl && decide (addr ≤ l.2.1) && decide (l.2.1 ≤ addr + 4 * n)))
          ++
          [(hsl, addr, (List.range n).map (fun i => regNow s (addr + 4 * (i + 1))))] }))) ∧
  (∀ (hsl : Bool) (addr : Nat) (l : Bool × Nat × List Word) (s : State),
      s.tb.latches.find? (latchHolds hsl addr) = some l → countWord addr = false →
      exec (.latchedRegisterRead hsl addr) s = .next s) ∧
  (∀ (hsl : Bool) (addr : Nat) (l : Bool × Nat × List Word) (s : State),
      s.tb.latches.find? (latchHolds hsl addr) = some l → countWord addr = true →
      exec (.latchedRegisterRead hsl addr) s = .next (s.modTb (fun t => { t with
        latches := t.latches.map (fun x => if x = l then (hsl, addr, l.2.2.drop ((addr - l.2.1) / 4)) else x) })))

/-- Frames of the host serial link start, end, time out, and a silent host is noticed. exec answers the next state that the
rules give. A frame that starts, outside a reset and with none under way, shows the status byte, BUSY only where a command
waits and the frame before ended less than 1.5 µs ago; otherwise the start does nothing. The end of a frame without a start
does nothing; an empty one, or one that has timed out, only closes; a frame not taken while busy is executed, with what it
shifted out kept; one taken while busy is counted, sets its DIAG bit and offers nothing. A frame open for FRAME_TIMEOUT is
ended; with a first byte taken HSL-02 is raised and FRAME_ERROR offered, or, where it was busy, it is counted and offers
nothing; before that time, or without an open frame, nothing happens. A host silent for HOST_TIMEOUT since its last good
frame raises HSL-03 once; with HOST_TIMEOUT 0, before the time, or with no good frame yet, nothing happens. Spec:
11_host_serial_link.md: Frames; 11_host_serial_link.md: Errors and resynchronisation; 11_host_serial_link.md: Attention. -/
def Obligations.HostLinkFramesAreTaken : Prop :=
  (∀ (busy : Bool) (s : State), (s.hsl.inFrame = true ∨ s.sup.reset ≠ none) →
      exec (.hslFrameStart busy) s = .next s) ∧
  (∀ (busy v : Bool) (s : State), s.hsl.inFrame = false → s.sup.reset = none →
      v = (busy && s.hsl.pending.isSome && !elapsed s s.hsl.endedAt 1500) →
      exec (.hslFrameStart busy) s = .next (s.modHsl (fun h => { h with
        inFrame := true, busy := v, ended := false, status := statusByte s v, startedAt := s.tb.mono }))) ∧
  (∀ (bytes : List Byte) (s : State), s.hsl.inFrame = false →
      exec (.hslFrameEnd bytes) s = .next s) ∧
  (∀ (bytes : List Byte) (s : State), s.hsl.inFrame = true → (s.hsl.ended = true ∨ bytes = []) →
      exec (.hslFrameEnd bytes) s = .next (s.modHsl (fun h =>
        { h with inFrame := false, busy := false, ended := false }))) ∧
  (∀ (bytes : List Byte) (s1 : State) (s : State), s.hsl.inFrame = true → s.hsl.ended = false → bytes ≠ [] →
      s.hsl.busy = false → s1 = (s.modHsl (fun h => { h with inFrame := false, busy := false, ended := false })).modHsl
      (fun h => { h with miso := misoBytes s bytes.length, endedAt := s.tb.mono }) →
      exec (.hslFrameEnd bytes) s = .next (s1.frameEnd bytes)) ∧
  (∀ (bytes : List Byte) (s1 : State) (s : State), s.hsl.inFrame = true → s.hsl.ended = false → bytes ≠ [] →
      s.hsl.busy = true → s1 = (s.modHsl (fun h => { h with inFrame := false, busy := false, ended := false })).modHsl
      (fun h => { h with miso := misoBytes s bytes.length, endedAt := s.tb.mono }) →
      exec (.hslFrameEnd bytes) s = .next ((((s1).inc 4 0x14 0 0x07).orP 0x14 0 0x09 4).modHsl (fun h =>
        { h with offered := none }))) ∧
  (∀ (first : Option Byte) (s : State), (s.hsl.inFrame = false ∨ s.hsl.ended = true ∨
      elapsed s s.hsl.startedAt (s.p 2 0x14 0 0x02 * 1000000) = false) →
      exec (.frameTimeout first) s = .next s) ∧
  (∀ (s : State), s.hsl.inFrame = true → s.hsl.ended = false →
      elapsed s s.hsl.startedAt (s.p 2 0x14 0 0x02 * 1000000) = true →
      exec (.frameTimeout none) s = .next (s.modHsl (fun h => { h with ended := true }))) ∧
  (∀ (c : Byte) (s1 : State) (s : State), s.hsl.inFrame = true → s.hsl.ended = false →
      elapsed s s.hsl.startedAt (s.p 2 0x14 0 0x02 * 1000000) = true → s.hsl.busy = false →
      s1 = ((s.modHsl (fun h => { h with ended := true })).orP 0x14 0 0x09 8).raise (ident .hsl 2) 9 0 →
      exec (.frameTimeout (some c)) s = .next (s1.badFrame c rcFrameError 0x06 2)) ∧
  (∀ (c : Byte) (s1 : State) (s : State), s.hsl.inFrame = true → s.hsl.ended = false →
      elapsed s s.hsl.startedAt (s.p 2 0x14 0 0x02 * 1000000) = true → s.hsl.busy = true →
      s1 = ((s.modHsl (fun h => { h with ended := true })).orP 0x14 0 0x09 8).raise (ident .hsl 2) 9 0 →
      exec (.frameTimeout (some c)) s = .next ((((s1).inc 4 0x14 0 0x07).orP 0x14 0 0x09 4).modHsl (fun h =>
        { h with offered := none }))) ∧
  (∀ (s : State), s.hsl.goodSince = none →
      exec .hostTimeout s = .next s) ∧
  (∀ (since : BitVec 96) (s : State), s.hsl.goodSince = some since → s.p 2 0x14 0 0x03 ≠ 0 →
      s.hsl.silent = false → elapsed s since (s.p 2 0x14 0 0x03 * 1000000) = true →
      exec .hostTimeout s = .next (((s.modHsl (fun h => { h with silent := true })).orP 0x14 0 0x09 16).raise (ident
        .hsl 3) 0 0)) ∧
  (∀ (since : BitVec 96) (s : State), s.hsl.goodSince = some since → (s.p 2 0x14 0 0x03 = 0 ∨
      s.hsl.silent = true ∨ elapsed s since (s.p 2 0x14 0 0x03 * 1000000) = false) →
      exec .hostTimeout s = .next s)

/-- Commands are taken up in order; PING, ABORT, NEGOTIATE and the buffer registers act. exec answers the next state that
the rules give. A take-up first does the pair swaps and epochs that are due; then the first posted command leaves the queue
and is performed under its epoch, or is only dropped where its tag is open no more. PING answers up to 64 bytes, and
BAD_PARAM beyond. ABORT of a tag, or of all with 0xFF, answers how many it aborted, and BAD_PARAM for another number; its
doorbell rings when none of the aborted commands is at work any more, and not before. NEGOTIATE is VERSION for a version the
endpoint does not offer, LOCKED while another command is open, and otherwise answers and sets the version, which endpoint of
major 1 keeps. ACK_POP of the oldest completion's tag removes it and its command, of another tag or with none only notes it.
A claim takes the buffer that is granted, or notes it with an occurrence of MBX-04; a release frees a buffer that endpoint 0
holds, or notes it. An H2D clear clears bits 16 to 23 it names. A long command that ends completes with its result:
JOURNAL_READ moves its cursor where it has one, or is MEMORY_FAILURE where the read failed; FW_DATA that failed marks its
range, ends the session and is MEMORY_FAILURE; FW_END prefers its slot while its session stands; LOAD_RULES writes its
table, or is MEMORY_FAILURE; without such a command nothing happens. Spec: 12_mailboxes.md: Posting a command;
12_mailboxes.md: Completion and acknowledgement; 12_mailboxes.md: Message buffers; 12_mailboxes.md: Abort; 12_mailboxes.md:
Doorbells; 12_mailboxes.md: Version negotiation and GQ1640 mode. -/
def Obligations.TheMailboxServesItsCommands : Prop :=
  (∀ (s0 : State) (s : State), s0 = s.pairSwaps.adoptDue → s0.mbx.queue = [] →
      exec .commandTakeUp s = .next s0) ∧
  (∀ (e tag : Nat) (rest : List (Nat × Nat)) (s0 : State) (s : State), s0 = s.pairSwaps.adoptDue →
      s0.mbx.queue = (e, tag) :: rest → findTag (s0.mbx.eps[(fin8 e)]) tag = none →
      exec .commandTakeUp s = .next { s0 with mbx := { s0.mbx with queue := rest } }) ∧
  (∀ (e tag : Nat) (rest : List (Nat × Nat)) (o : Outstanding) (s0 s1 : State) (s : State),
      s0 = s.pairSwaps.adoptDue → s0.mbx.queue = (e, tag) :: rest → findTag (s0.mbx.eps[(fin8 e)]) tag = some o →
      s1 = { s0 with mbx := { s0.mbx with queue := rest } } →
      exec .commandTakeUp s = .next (State.underEpoch (((s1.noteHighest (fin8 e) o.seq).underEpoch (fin8 e)
        o.epoch).perform
        { ep := fin8 e, tag := tag, seq := o.seq } o) 0 0)) ∧
  (∀ (q : Req) (data : List Byte) (s : State), data.length ≤ 64 →
      exec (.ping q data) s = .next (State.finish (s) q opPing 0 (data))) ∧
  (∀ (q : Req) (data : List Byte) (s : State), 64 < data.length →
      exec (.ping q data) s = .next (State.finish (s) q opPing rcBadParam ([]))) ∧
  (∀ (q : Req) (tag : Nat) (s : State), 31 < tag → tag ≠ 0xFF →
      exec (.abort q tag) s = .next (s.finish q opAbort rcBadParam [])) ∧
  (∀ (q : Req) (tag : Nat) (s1 : State) (n : Nat) (s : State), (tag ≤ 31 ∨ tag = 0xFF) →
      s.abortTags q.ep ((openTags s q.ep).filter (fun t => t != q.tag && (tag == 0xFF || t == tag))) = (s1, n) →
      exec (.abort q tag) s = .next (s1.finish q opAbort 0 [BitVec.ofNat 8 n, 0, 0, 0])) ∧
  (∀ (ep : Fin 8) (s : State), (s.mbx.eps[ep]).aborting = none →
      exec (.abortDone ep) s = .next s) ∧
  (∀ (ep : Fin 8) (tags : List Nat) (s : State), (s.mbx.eps[ep]).aborting = some tags →
      tags.any (fun t => (s.mbx.eps[ep]).outstanding.any (fun o => o.tag == t && o.phase == 1)) = true →
      exec (.abortDone ep) s = .next s) ∧
  (∀ (ep : Fin 8) (tags : List Nat) (s : State), (s.mbx.eps[ep]).aborting = some tags →
      tags.any (fun t => (s.mbx.eps[ep]).outstanding.any (fun o => o.tag == t && o.phase == 1)) = false →
      exec (.abortDone ep) s = .next (s.modEp ep (fun x => { x with
        db := x.db ||| 0x80000000, h2d := x.h2d &&& 0x7FFFFFFF, aborting := none }))) ∧
  (∀ (q : Req) (major minor : Nat) (s : State), versionFor q.ep major minor = none →
      exec (.negotiate q major minor) s = .next (s.finish q opNegotiate rcVersion [])) ∧
  (∀ (q : Req) (major minor : Nat) (v : Nat × Nat) (s : State),
      versionFor q.ep major minor = some v → (s.mbx.eps[q.ep]).outstanding.any (fun o => o.tag != q.tag) = true →
      exec (.negotiate q major minor) s = .next (s.finish q opNegotiate rcLocked [])) ∧
  (∀ (q : Req) (major minor : Nat) (v : Nat × Nat) (s : State),
      versionFor q.ep major minor = some v → (s.mbx.eps[q.ep]).outstanding.any (fun o => o.tag != q.tag) = false →
      (s.mbx.eps[q.ep]).major = 1 →
      exec (.negotiate q major minor) s = .next (s.finish q opNegotiate 0 [BitVec.ofNat 8 (s.mbx.eps[q.ep]).major,
        BitVec.ofNat 8 (s.mbx.eps[q.ep]).minor, 0, 0])) ∧
  (∀ (q : Req) (major minor : Nat) (v : Nat × Nat) (s : State),
      versionFor q.ep major minor = some v → (s.mbx.eps[q.ep]).outstanding.any (fun o => o.tag != q.tag) = false →
      (s.mbx.eps[q.ep]).major ≠ 1 →
      exec (.negotiate q major minor) s = .next ((s.finish q opNegotiate 0 [BitVec.ofNat 8 v.1, BitVec.ofNat 8 v.2,
        0, 0]).modEp q.ep
        (fun p => { p with major := v.1, minor := v.2 }))) ∧
  (∀ (tag : Word) (c : Completion) (rest : List Completion) (s : State), ackQueue s = c :: rest →
      c.tag = tag.toNat % 32 →
      exec (.mbxAckPop tag) s = .next ((s.modEp 0 (fun p => { p with
        completions := p.completions.filter (fun x => x.tag != tag.toNat % 32),
        outstanding := p.outstanding.filter (fun o => o.tag != tag.toNat % 32) })).acceptHeld)) ∧
  (∀ (tag : Word) (c : Completion) (rest : List Completion) (s : State), ackQueue s = c :: rest →
      c.tag ≠ tag.toNat % 32 →
      exec (.mbxAckPop tag) s = .next (s.orP 0x13 0 0x15 4)) ∧
  (∀ (tag : Word) (s : State), ackQueue s = [] →
      exec (.mbxAckPop tag) s = .next (s.orP 0x13 0 0x15 4)) ∧
  (∀ (k : Nat) (s : State), claimGrant s 0 = some k →
      exec .mbxClaim s = .next (s.setBuf k (some (.held 0)))) ∧
  (∀ (s : State), claimGrant s 0 = none →
      exec .mbxClaim s = .next ((s.orP 0x13 0 0x15 2).occur (ident .mbx 4) 9 0)) ∧
  (∀ (buf : Word) (s : State), heldBy s (buf.toNat % 256) 0 = true →
      exec (.mbxRelease buf) s = .next (s.setBuf (buf.toNat % 256) none)) ∧
  (∀ (buf : Word) (s : State), heldBy s (buf.toNat % 256) 0 = false →
      exec (.mbxRelease buf) s = .next (s.orP 0x13 0 0x15 8)) ∧
  (∀ (ep : Fin 8) (mask : Word) (s : State),
      exec (.mbxH2dClear ep mask) s = .next ((s.modEp ep (fun p =>
        { p with h2d := p.h2d &&& ~~~ (mask &&& 0x00FF0000) })).userPoints)) ∧
  (∀ (ep : Fin 8) (tag : Nat) (ok : Bool) (s : State), s.mbx.long.find? (fun j => j.ep == ep.val && j.tag == tag &&
      j.opcode != opCancel) = none →
      exec (.longCommandComplete ep tag ok) s = .next s) ∧
  (∀ (ep : Fin 8) (tag : Nat) (j : LongRun) (s1 : State) (ok : Bool) (s : State),
      s.mbx.long.find? (fun j => j.ep == ep.val && j.tag == tag && j.opcode != opCancel) = some j →
      s1 = { s with mbx := { s.mbx with long := s.mbx.long.erase j } } → j.opcode ≠ opJournalRead →
      j.opcode ≠ opFwData → j.opcode ≠ opFwEnd → j.opcode ≠ opLoadRules →
      exec (.longCommandComplete ep tag ok) s = .next (s1.finish (reqOf s ep tag) j.opcode j.result j.payload)) ∧
  (∀ (ep : Fin 8) (tag : Nat) (j : LongRun) (s1 : State) (c : Word) (s : State),
      s.mbx.long.find? (fun j => j.ep == ep.val && j.tag == tag && j.opcode != opCancel) = some j →
      s1 = { s with mbx := { s.mbx with long := s.mbx.long.erase j } } → j.opcode = opJournalRead → j.cursor = some c →
      exec (.longCommandComplete ep tag true) s = .next ((s1.setP 4 0x13 (fin8 j.ep) 0x12 c.toNat).finish (reqOf s ep
        tag) j.opcode j.result j.payload)) ∧
  (∀ (ep : Fin 8) (tag : Nat) (j : LongRun) (s1 : State) (s : State),
      s.mbx.long.find? (fun j => j.ep == ep.val && j.tag == tag && j.opcode != opCancel) = some j →
      s1 = { s with mbx := { s.mbx with long := s.mbx.long.erase j } } → j.opcode = opJournalRead → j.cursor = none →
      exec (.longCommandComplete ep tag true) s = .next (s1.finish (reqOf s ep tag) j.opcode j.result j.payload)) ∧
  (∀ (ep : Fin 8) (tag : Nat) (j : LongRun) (s1 : State) (s : State),
      s.mbx.long.find? (fun j => j.ep == ep.val && j.tag == tag && j.opcode != opCancel) = some j →
      s1 = { s with mbx := { s.mbx with long := s.mbx.long.erase j } } → j.opcode = opJournalRead →
      exec (.longCommandComplete ep tag false) s = .next (s1.finish (reqOf s ep tag) j.opcode rcMemoryFailure [])) ∧
  (∀ (ep : Fin 8) (tag : Nat) (j : LongRun) (s1 : State) (s : State),
      s.mbx.long.find? (fun j => j.ep == ep.val && j.tag == tag && j.opcode != opCancel) = some j →
      s1 = { s with mbx := { s.mbx with long := s.mbx.long.erase j } } → j.opcode = opFwData →
      exec (.longCommandComplete ep tag true) s = .next (s1.finish (reqOf s ep tag) j.opcode j.result j.payload)) ∧
  (∀ (ep : Fin 8) (tag : Nat) (j : LongRun) (s1 : State) (s : State),
      s.mbx.long.find? (fun j => j.ep == ep.val && j.tag == tag && j.opcode != opCancel) = some j →
      s1 = { s with mbx := { s.mbx with long := s.mbx.long.erase j } } → j.opcode = opFwData →
      exec (.longCommandComplete ep tag false) s = .next ((let s2 := (s1.failRange j.region.1 j.region.2).norFailed;
        ({ s2 with sup := { s2.sup with session := none } } : State)).finish (reqOf s ep tag) j.opcode rcMemoryFailure
        [])) ∧
  (∀ (ep : Fin 8) (tag : Nat) (j : LongRun) (s1 : State) (ok : Bool) (f : FwSession) (s : State),
      s.mbx.long.find? (fun j => j.ep == ep.val && j.tag == tag && j.opcode != opCancel) = some j →
      s1 = { s with mbx := { s.mbx with long := s.mbx.long.erase j } } → j.opcode = opFwEnd → s.sup.session = some f →
      exec (.longCommandComplete ep tag ok) s = .next ((fwPrefer s1 f ok).finish (reqOf s ep tag) j.opcode)) ∧
  (∀ (ep : Fin 8) (tag : Nat) (j : LongRun) (s1 : State) (ok : Bool) (s : State),
      s.mbx.long.find? (fun j => j.ep == ep.val && j.tag == tag && j.opcode != opCancel) = some j →
      s1 = { s with mbx := { s.mbx with long := s.mbx.long.erase j } } → j.opcode = opFwEnd → s.sup.session = none →
      exec (.longCommandComplete ep tag ok) s = .next (s1.finish (reqOf s ep tag) j.opcode j.result j.payload)) ∧
  (∀ (ep : Fin 8) (tag : Nat) (j : LongRun) (s1 : State) (s : State),
      s.mbx.long.find? (fun j => j.ep == ep.val && j.tag == tag && j.opcode != opCancel) = some j →
      s1 = { s with mbx := { s.mbx with long := s.mbx.long.erase j } } → j.opcode = opLoadRules → rulesFit s1 = true →
      exec (.longCommandComplete ep tag true) s = .next (s1.persistRules.finish (reqOf s ep tag) j.opcode 0 (loadPayload
        s1.persistRules true))) ∧
  (∀ (ep : Fin 8) (tag : Nat) (j : LongRun) (s1 : State) (ok : Bool) (s : State),
      s.mbx.long.find? (fun j => j.ep == ep.val && j.tag == tag && j.opcode != opCancel) = some j →
      s1 = { s with mbx := { s.mbx with long := s.mbx.long.erase j } } → j.opcode = opLoadRules →
      (ok && rulesFit s1) = false →
      exec (.longCommandComplete ep tag ok) s = .next (s1.rulesFailed.finish (reqOf s ep tag) j.opcode rcMemoryFailure
        []))

/-- The four parameter commands complete with the bytes read or stage the bytes written. exec answers the next state that
the rules give; a refusal changes nothing but the completion. GET_PARAM is BAD_PARAM for an unassigned index and for more
than 64 bytes, and otherwise completes OK with size and bytes. SET_PARAM is BAD_PARAM for no or over 64 bytes, NOT_AUTHORITY
from a sender that may not write, BAD_PARAM for an unassigned index, READ_ONLY for an attribute that is not writable,
BAD_PARAM for another length than the attribute's; a staged attribute is then staged or refused by its range, a
write-1-to-clear attribute cleared, and an RW or WO attribute written at once. GET_BLOCK is BAD_PARAM for a length outside 1
to 1,000 and for an unassigned index; of a span OUT_OF_RANGE beyond its bytes, and else its bytes; of the register window
OUT_OF_RANGE where it is misaligned or beyond the window, and else its words read with their latches; of any other attribute
OUT_OF_RANGE beyond its size, and else its bytes. SET_BLOCK is BAD_PARAM for a length outside 1 to 1,000, NOT_AUTHORITY from
a sender that may not write, BAD_PARAM for an unassigned index and for a span, READ_ONLY where not writable, BAD_PARAM for
an attribute of up to 64 bytes or not staged, OUT_OF_RANGE beyond its size, and else staged. Spec:
13_parameter_dictionary.md: Addressing; 13_parameter_dictionary.md: Reading and writing; 13_parameter_dictionary.md: Staging
and commit. -/
def Obligations.ParametersAreReadAndWritten : Prop :=
  (∀ (q : Req) (index : BitVec 32) (s : State), indexRow index.toNat = none →
      exec (.getParam q index) s = .next (s.finish q opGetParam rcBadParam [])) ∧
  (∀ (q : Req) (index : BitVec 32) (r : AttrRow) (s : State), indexRow index.toNat = some r →
      64 < attrSize s (indexParts index.toNat).1 r →
      exec (.getParam q index) s = .next (s.finish q opGetParam rcBadParam [])) ∧
  (∀ (q : Req) (index : BitVec 32) (r : AttrRow) (s : State), indexRow index.toNat = some r →
      attrSize s (indexParts index.toNat).1 r ≤ 64 →
      exec (.getParam q index) s = .next (s.finish q opGetParam 0 (leBytes 2 r.size ++ [0, 0] ++
        readBytes s (indexStaged index.toNat) (indexParts index.toNat).1 (indexParts index.toNat).2.1 r 0 r.size))) ∧
  (∀ (q : Req) (index : BitVec 32) (value : List Byte) (s : State), (value.length = 0 ∨ 64 < value.length) →
      exec (.setParam q index value) s = .next (s.finish q opSetParam rcBadParam [])) ∧
  (∀ (q : Req) (index : BitVec 32) (value : List Byte) (s : State), 1 ≤ value.length → value.length ≤ 64 →
      mayWrite s q.ep index.toNat value = false →
      exec (.setParam q index value) s = .next (s.finish q opSetParam rcNotAuthority [])) ∧
  (∀ (q : Req) (index : BitVec 32) (value : List Byte) (s : State), 1 ≤ value.length → value.length ≤ 64 →
      mayWrite s q.ep index.toNat value = true → indexRow index.toNat = none →
      exec (.setParam q index value) s = .next (s.finish q opSetParam rcBadParam [])) ∧
  (∀ (q : Req) (index : BitVec 32) (value : List Byte) (r : AttrRow) (s : State), 1 ≤ value.length →
      value.length ≤ 64 → mayWrite s q.ep index.toNat value = true → indexRow index.toNat = some r →
      writable (indexParts index.toNat).1 (indexParts index.toNat).2.1 r = false →
      exec (.setParam q index value) s = .next (s.finish q opSetParam rcReadOnly [])) ∧
  (∀ (q : Req) (index : BitVec 32) (value : List Byte) (r : AttrRow) (s : State), 1 ≤ value.length →
      value.length ≤ 64 → mayWrite s q.ep index.toNat value = true → indexRow index.toNat = some r →
      writable (indexParts index.toNat).1 (indexParts index.toNat).2.1 r = true → (64 < r.size ∨
      value.length ≠ r.size) →
      exec (.setParam q index value) s = .next (s.finish q opSetParam rcBadParam [])) ∧
  (∀ (q : Req) (index : BitVec 32) (value : List Byte) (r : AttrRow) (s : State), 1 ≤ value.length →
      value.length ≤ 64 → mayWrite s q.ep index.toNat value = true → indexRow index.toNat = some r →
      writable (indexParts index.toNat).1 (indexParts index.toNat).2.1 r = true → r.size ≤ 64 →
      value.length = r.size → r.access = .rws →
      exec (.setParam q index value) s = .next ((stageWrite s (indexParts index.toNat).1 (indexParts index.toNat).2.1 r
        0 value).finish q opSetParam)) ∧
  (∀ (q : Req) (index : BitVec 32) (value : List Byte) (r : AttrRow) (s : State), 1 ≤ value.length →
      value.length ≤ 64 → mayWrite s q.ep index.toNat value = true → indexRow index.toNat = some r →
      writable (indexParts index.toNat).1 (indexParts index.toNat).2.1 r = true → r.size ≤ 64 →
      value.length = r.size → r.access = .w1c →
      exec (.setParam q index value) s = .next ((s.clearAttr (indexParts index.toNat).1 (indexParts index.toNat).2.1 r
        value).finish q opSetParam 0 [])) ∧
  (∀ (q : Req) (index : BitVec 32) (value : List Byte) (r : AttrRow) (s : State), 1 ≤ value.length →
      value.length ≤ 64 → mayWrite s q.ep index.toNat value = true → indexRow index.toNat = some r →
      writable (indexParts index.toNat).1 (indexParts index.toNat).2.1 r = true → r.size ≤ 64 →
      value.length = r.size → (r.access = .rw ∨ r.access = .wo) →
      exec (.setParam q index value) s = .next ((writeNow s q.ep (indexParts index.toNat).1 (indexParts index.toNat).2.1
        (indexParts index.toNat).2.2 value).finish q opSetParam)) ∧
  (∀ (q : Req) (index off : BitVec 32) (len : BitVec 16) (s : State), (len.toNat = 0 ∨ 1000 < len.toNat) →
      exec (.getBlock q index off len) s = .next (s.finish q opGetBlock rcBadParam [])) ∧
  (∀ (q : Req) (index off : BitVec 32) (len : BitVec 16) (s : State), 1 ≤ len.toNat → len.toNat ≤ 1000 →
      indexRow index.toNat = none →
      exec (.getBlock q index off len) s = .next (s.finish q opGetBlock rcBadParam [])) ∧
  (∀ (q : Req) (index off : BitVec 32) (len : BitVec 16) (r : AttrRow) (wb : List Byte) (s : State),
      1 ≤ len.toNat → len.toNat ≤ 1000 → indexRow index.toNat = some r → indexSpan index.toNat = true →
      wb = (spanRows s (indexParts index.toNat).1 (indexParts index.toNat).2.2).flatMap (fun a => readBytes s
      (indexStaged index.toNat) (indexParts index.toNat).1 (indexParts index.toNat).2.1 a 0 a.size) →
      wb.length < off.toNat + len.toNat →
      exec (.getBlock q index off len) s = .next (s.finish q opGetBlock rcOutOfRange [])) ∧
  (∀ (q : Req) (index off : BitVec 32) (len : BitVec 16) (r : AttrRow) (wb : List Byte) (s : State),
      1 ≤ len.toNat → len.toNat ≤ 1000 → indexRow index.toNat = some r → indexSpan index.toNat = true →
      wb = (spanRows s (indexParts index.toNat).1 (indexParts index.toNat).2.2).flatMap (fun a => readBytes s
      (indexStaged index.toNat) (indexParts index.toNat).1 (indexParts index.toNat).2.1 a 0 a.size) →
      off.toNat + len.toNat ≤ wb.length →
      exec (.getBlock q index off len) s = .next (s.finish q opGetBlock 0 (blockPayload off.toNat (wholeBytes wb
        off.toNat len.toNat)))) ∧
  (∀ (q : Req) (index off : BitVec 32) (len : BitVec 16) (r : AttrRow) (s : State), 1 ≤ len.toNat →
      len.toNat ≤ 1000 → indexRow index.toNat = some r → indexSpan index.toNat = false →
      (indexParts index.toNat).1 = 0x01 → (indexParts index.toNat).2.2 = 0x14 → (off.toNat % 4 ≠ 0 ∨
      len.toNat % 4 ≠ 0 ∨ 49152 < off.toNat + len.toNat) →
      exec (.getBlock q index off len) s = .next (s.finish q opGetBlock rcOutOfRange [])) ∧
  (∀ (q : Req) (index off : BitVec 32) (len : BitVec 16) (r : AttrRow) (ws : List Word) (s1 : State) (s : State),
      1 ≤ len.toNat → len.toNat ≤ 1000 → indexRow index.toNat = some r → indexSpan index.toNat = false →
      (indexParts index.toNat).1 = 0x01 → (indexParts index.toNat).2.2 = 0x14 → off.toNat % 4 = 0 →
      len.toNat % 4 = 0 → off.toNat + len.toNat ≤ 49152 → s.regReads false off.toNat (len.toNat / 4) = (ws, s1) →
      exec (.getBlock q index off len) s = .next (s1.finish q opGetBlock 0 (blockPayload off.toNat (ws.flatMap (fun w =>
        leBytes 4 w.toNat))))) ∧
  (∀ (q : Req) (index off : BitVec 32) (len : BitVec 16) (r : AttrRow) (s : State), 1 ≤ len.toNat →
      len.toNat ≤ 1000 → indexRow index.toNat = some r → indexSpan index.toNat = false →
      (¬ ((indexParts index.toNat).1 = 0x01 ∧ (indexParts index.toNat).2.2 = 0x14)) →
      attrSize s (indexParts index.toNat).1 r < off.toNat + len.toNat →
      exec (.getBlock q index off len) s = .next (s.finish q opGetBlock rcOutOfRange [])) ∧
  (∀ (q : Req) (index off : BitVec 32) (len : BitVec 16) (r : AttrRow) (s : State), 1 ≤ len.toNat →
      len.toNat ≤ 1000 → indexRow index.toNat = some r → indexSpan index.toNat = false →
      (¬ ((indexParts index.toNat).1 = 0x01 ∧ (indexParts index.toNat).2.2 = 0x14)) →
      off.toNat + len.toNat ≤ attrSize s (indexParts index.toNat).1 r →
      exec (.getBlock q index off len) s = .next (s.finish q opGetBlock 0 (blockPayload off.toNat (readBytes s
        (indexStaged index.toNat)
        (indexParts index.toNat).1 (indexParts index.toNat).2.1 r off.toNat len.toNat)))) ∧
  (∀ (q : Req) (index off : BitVec 32) (data : List Byte) (s : State), (data.length = 0 ∨ 1000 < data.length) →
      exec (.setBlock q index off data) s = .next (s.finish q opSetBlock rcBadParam [])) ∧
  (∀ (q : Req) (index off : BitVec 32) (data : List Byte) (s : State), 1 ≤ data.length → data.length ≤ 1000 →
      mayWrite s q.ep index.toNat data = false →
      exec (.setBlock q index off data) s = .next (s.finish q opSetBlock rcNotAuthority [])) ∧
  (∀ (q : Req) (index off : BitVec 32) (data : List Byte) (s : State), 1 ≤ data.length → data.length ≤ 1000 →
      mayWrite s q.ep index.toNat data = true → indexRow index.toNat = none →
      exec (.setBlock q index off data) s = .next (s.finish q opSetBlock rcBadParam [])) ∧
  (∀ (q : Req) (index off : BitVec 32) (data : List Byte) (r : AttrRow) (s : State), 1 ≤ data.length →
      data.length ≤ 1000 → mayWrite s q.ep index.toNat data = true → indexRow index.toNat = some r →
      indexSpan index.toNat = true →
      exec (.setBlock q index off data) s = .next (s.finish q opSetBlock rcBadParam [])) ∧
  (∀ (q : Req) (index off : BitVec 32) (data : List Byte) (r : AttrRow) (s : State), 1 ≤ data.length →
      data.length ≤ 1000 → mayWrite s q.ep index.toNat data = true → indexRow index.toNat = some r →
      indexSpan index.toNat = false → writable (indexParts index.toNat).1 (indexParts index.toNat).2.1 r = false →
      exec (.setBlock q index off data) s = .next (s.finish q opSetBlock rcReadOnly [])) ∧
  (∀ (q : Req) (index off : BitVec 32) (data : List Byte) (r : AttrRow) (s : State), 1 ≤ data.length →
      data.length ≤ 1000 → mayWrite s q.ep index.toNat data = true → indexRow index.toNat = some r →
      indexSpan index.toNat = false → writable (indexParts index.toNat).1 (indexParts index.toNat).2.1 r = true →
      (r.size ≤ 64 ∨ r.access ≠ .rws) →
      exec (.setBlock q index off data) s = .next (s.finish q opSetBlock rcBadParam [])) ∧
  (∀ (q : Req) (index off : BitVec 32) (data : List Byte) (r : AttrRow) (s : State), 1 ≤ data.length →
      data.length ≤ 1000 → mayWrite s q.ep index.toNat data = true → indexRow index.toNat = some r →
      indexSpan index.toNat = false → writable (indexParts index.toNat).1 (indexParts index.toNat).2.1 r = true →
      64 < r.size → r.access = .rws → r.size < off.toNat + data.length →
      exec (.setBlock q index off data) s = .next (s.finish q opSetBlock rcOutOfRange [])) ∧
  (∀ (q : Req) (index off : BitVec 32) (data : List Byte) (r : AttrRow) (s : State), 1 ≤ data.length →
      data.length ≤ 1000 → mayWrite s q.ep index.toNat data = true → indexRow index.toNat = some r →
      indexSpan index.toNat = false → writable (indexParts index.toNat).1 (indexParts index.toNat).2.1 r = true →
      64 < r.size → r.access = .rws → off.toNat + data.length ≤ r.size →
      exec (.setBlock q index off data) s = .next ((stageWrite s (indexParts index.toNat).1 (indexParts index.toNat).2.1
        r off.toNat data).finish q opSetBlock))

/-- A commit is checked, accepted, applied at its instant, journalled and persisted. exec answers the next state that the
rules give. A COMMIT_CONFIG that passes its checks waits for its instant (with APPLY 0, COMMIT_LEAD from now) and answers
the hash and the instant; a refused one records code and index in LAST_REFUSAL, sets its DIAG bit and answers the code.
DISCARD_CONFIG with the right to configure puts the staged set back to the waiting commit's or the present content with its
hash and sets its DIAG bit; without the right it is NOT_AUTHORITY. The staged hash, when ready, is that of the staged set. A
commit whose instant has come is in effect: its content is taken, counted and recorded, the pending state cleared, its
effects and its bells follow, and it waits for its banks; with none waiting or before its instant nothing happens. The
oldest commit all whose banks have reported is journalled, and none before it has. A configuration image that was written is
in its slot and named in the header; one that failed marks its range, sets PERSIST_STATE 2 and its DIAG bit; an image that
was asked for again starts again after either. Spec: 13_parameter_dictionary.md: Staging and commit; 17_external_memory.md:
NOR layout; 17_external_memory.md: Journal records. -/
def Obligations.ConfigurationsAreCommitted : Prop :=
  (∀ (q : Req) (apply : CellTime) (hash : BitVec 64) (t : CellTime) (s : State),
      commitCheck s q.ep apply hash = none → (t = if apply = 0 then ctAddNs (now s) (s.p 4 0x01 0 0x0E * 1000) else
      apply) →
      exec (.commitConfig q apply hash) s = .next ((s.acceptCommit q.ep t).finish q opCommit 0
        (leBytes 8 (s.p 8 0x01 0 0x09) ++ ctBytes t ++ [0, 0, 0]))) ∧
  (∀ (q : Req) (apply : CellTime) (hash : BitVec 64) (code : BitVec 16) (i : Nat) (s : State),
      commitCheck s q.ep apply hash = some (code, i) →
      exec (.commitConfig q apply hash) s = .next (((s.setBytes 0x01 0 0x13 0 (leBytes 2 code.toNat ++ leBytes 2
        opCommit ++
        leBytes 4 i)).orP 0x01 0 0x15 2).finish q opCommit code [])) ∧
  (∀ (q : Req) (h : Nat) (s : State), mayConfigure s q.ep = true →
      (h = if s.commit.isSome then s.p 8 0x01 0 0x0D else s.p 8 0x01 0 0x08) →
      exec (.discardConfig q) s = .next ((((State.setStagedState { s with staged := stagedBase s } true).setP 8 0x01 0
        0x09 h).orP 0x01 0
        0x15 16).finish q opDiscard 0 [])) ∧
  (∀ (q : Req) (s : State), mayConfigure s q.ep = false →
      exec (.discardConfig q) s = .next (s.finish q opDiscard rcNotAuthority [])) ∧
  (∀ (s : State),
      exec .stagedHashReady s = .next ((s.setP 8 0x01 0 0x09 (configHash s.staged).toNat).setStagedState true)) ∧
  (∀ (s : State), s.commit = none →
      exec .commitApply s = .next s) ∧
  (∀ (c : Commit) (s : State), s.commit = some c → reached c.apply (now s) = false →
      exec .commitApply s = .next s) ∧
  (∀ (c : Commit) (s1 : State) (s : State), s.commit = some c → reached c.apply (now s) = true → s1 =
      { s.recordEpochs.withContent c.content with
        commit := none, journalCommits := s.journalCommits ++ [commitAwait s c] } →
      exec .commitApply s = .next (((((((((s1.inc 4 0x01 0 0x11).setBytes 0x01 0 0x12 0 (ctBytes c.apply ++ leBytes 1
        c.endpoint ++ [0, 0] ++
          leBytes 8 c.hash.toNat ++ leBytes 1 c.late.toNat ++ [0, 0,
            0])).setP 1 0x01 0 0x0B 0).orP 0x01 0 0x15 1).setP 8 0x01 0 0x08
        c.hash.toNat).setP 8 0x01 0 0x0D 0).setPCt 0x01 0 0x0C 0).commitEffects s c.apply).ringAll 5)) ∧
  (∀ (s : State), s.journalCommits = [] →
      exec .commitJournal s = .next s) ∧
  (∀ (c : Commit) (rest : List Commit) (s : State), s.journalCommits = c :: rest → c.waiting.isEmpty = false →
      exec .commitJournal s = .next s) ∧
  (∀ (c : Commit) (rest : List Commit) (s : State), s.journalCommits = c :: rest → c.waiting.isEmpty = true →
      exec .commitJournal s = .next (({ s with journalCommits := rest } : State).journal 3
        (ctBytes c.apply ++ leBytes 8 c.hash.toNat ++ leBytes 1 c.endpoint ++ leBytes 1 c.late.toNat))) ∧
  (∀ (ok : Bool) (s : State), s.sup.persist = none →
      exec (.persistDone ok) s = .next s) ∧
  (∀ (slot : Bool) (img : List Byte) (a boot fw : Nat) (s2 : State) (s : State), s.sup.persist = some (slot,
      img) → headerSlots s = (a, boot, fw) → s.sup.persistAgain = false →
      s2 = (((State.writeNor ((({ s with sup := { s.sup with persist := none } } : State)).eraseNor
          (configSlot s slot) ((slotSizes (norDensity s)).1 * 1024)) (configSlot s slot) img).writeHeader (if slot then
            1 else 0) boot
          fw).setP 1 0x01 0 0x10 0) →
      exec (.persistDone true) s = .next s2) ∧
  (∀ (slot : Bool) (img : List Byte) (a boot fw : Nat) (s2 : State) (s : State), s.sup.persist = some (slot,
      img) → headerSlots s = (a, boot, fw) → s.sup.persistAgain = true →
      s2 = (((State.writeNor ((({ s with sup := { s.sup with persist := none } } : State)).eraseNor
          (configSlot s slot) ((slotSizes (norDensity s)).1 * 1024)) (configSlot s slot) img).writeHeader (if slot then
            1 else 0) boot
          fw).setP 1 0x01 0 0x10 0) →
      exec (.persistDone true) s = .next s2.startPersist) ∧
  (∀ (slot : Bool) (img : List Byte) (a boot fw : Nat) (s2 : State) (s : State), s.sup.persist = some (slot,
      img) → headerSlots s = (a, boot, fw) → s.sup.persistAgain = false →
      s2 = ((((({ s with sup := { s.sup with persist := none } } : State).failRange (configSlot s slot) img.length).setP
      1 0x01 0
          0x10 2).orP 0x01 0 0x15 8).norFailed) →
      exec (.persistDone false) s = .next s2) ∧
  (∀ (slot : Bool) (img : List Byte) (a boot fw : Nat) (s2 : State) (s : State), s.sup.persist = some (slot,
      img) → headerSlots s = (a, boot, fw) → s.sup.persistAgain = true →
      s2 = ((((({ s with sup := { s.sup with persist := none } } : State).failRange (configSlot s slot) img.length).setP
      1 0x01 0
          0x10 2).orP 0x01 0 0x15 8).norFailed) →
      exec (.persistDone false) s = .next s2.startPersist)

/-- Firmware updates begin, take data and end; the journal is read. exec answers the next state that the rules give. The
three update commands are NOT_AUTHORITY from a sender that may not update. FW_BEGIN is LOCKED with a session open,
OUT_OF_RANGE for a length of 0 or too long for the slot, MEMORY_FAILURE without a good NOR, and otherwise erases the start
of the other slot, opens the session and answers the slot. FW_DATA is BAD_PARAM without a session or for no or over 1,008
bytes, LOCKED from another endpoint and while its block is not erased, OUT_OF_RANGE where it does not follow or goes beyond
the image; otherwise its bytes are programmed and its long write begins. FW_END is BAD_PARAM without a session, LOCKED from
another endpoint; it ends the session with OUT_OF_RANGE where bytes are missing, SIGNATURE where the slot does not verify,
MEMORY_FAILURE where the NOR failed, and otherwise names the slot in the header and answers it, and journals each outcome.
JOURNAL_READ is BAD_PARAM for an undefined MODE (the model's reading, log 36), OUT_OF_RANGE for a MAX outside 1 to 31, and
otherwise begins its long read with the records from its start or the endpoint's cursor, up to MAX of them, and the cursor
behind them. Spec: 18_startup_identity.md: Firmware update; 17_external_memory.md: Journal records. -/
def Obligations.FirmwareUpdatesAndLogSessions : Prop :=
  (∀ (q : Req) (len : BitVec 32) (s : State), mayUpdate s q.ep = false →
      exec (.fwUpdateBegin q len) s = .next (State.finish (s) q opFwBegin rcNotAuthority [])) ∧
  (∀ (q : Req) (len : BitVec 32) (s : State), mayUpdate s q.ep = true → s.sup.session.isSome = true →
      exec (.fwUpdateBegin q len) s = .next (State.finish (s) q opFwBegin rcLocked [])) ∧
  (∀ (q : Req) (len : BitVec 32) (s : State), mayUpdate s q.ep = true → s.sup.session.isSome = false →
      (len.toNat = 0 ∨ (slotSizes (norDensity s)).2.2 * 1024 < len.toNat + 256) →
      exec (.fwUpdateBegin q len) s = .next (State.finish (s) q opFwBegin rcOutOfRange [])) ∧
  (∀ (q : Req) (len : BitVec 32) (s : State), mayUpdate s q.ep = true → s.sup.session.isSome = false →
      len.toNat ≠ 0 → len.toNat + 256 ≤ (slotSizes (norDensity s)).2.2 * 1024 → norState s ≠ 1 →
      exec (.fwUpdateBegin q len) s = .next (State.finish (s) q opFwBegin rcMemoryFailure [])) ∧
  (∀ (q : Req) (len : BitVec 32) (s2 : State) (s : State), mayUpdate s q.ep = true →
      s.sup.session.isSome = false → len.toNat ≠ 0 → len.toNat + 256 ≤ (slotSizes (norDensity s)).2.2 * 1024 →
      norState s = 1 → s2 = { s.eraseNor (fwSlot s (!s.sup.fwSlot)) 4096 with
        sup := { s.sup with
            session := some { ep := q.ep.val, slot := !s.sup.fwSlot, len := len.toNat, received := 0, erased := 0 } } }
      →
      exec (.fwUpdateBegin q len) s = .next (s2.eraseNextBlock.finish q opFwBegin 0 [if (!s.sup.fwSlot) then 1 else 0,
        0, 0, 0])) ∧
  (∀ (q : Req) (off : BitVec 32) (data : List Byte) (s : State), mayUpdate s q.ep = false →
      exec (.fwUpdateData q off data) s = .next (State.finish (s) q opFwData rcNotAuthority [])) ∧
  (∀ (q : Req) (off : BitVec 32) (data : List Byte) (s : State), mayUpdate s q.ep = true → s.sup.session = none →
      exec (.fwUpdateData q off data) s = .next (State.finish (s) q opFwData rcBadParam [])) ∧
  (∀ (q : Req) (off : BitVec 32) (data : List Byte) (f : FwSession) (s : State),
      mayUpdate s q.ep = true → s.sup.session = some f → f.ep ≠ q.ep.val →
      exec (.fwUpdateData q off data) s = .next (State.finish (s) q opFwData rcLocked [])) ∧
  (∀ (q : Req) (off : BitVec 32) (data : List Byte) (f : FwSession) (s : State),
      mayUpdate s q.ep = true → s.sup.session = some f → f.ep = q.ep.val → (data.length = 0 ∨ 1008 < data.length) →
      exec (.fwUpdateData q off data) s = .next (State.finish (s) q opFwData rcBadParam [])) ∧
  (∀ (q : Req) (off : BitVec 32) (data : List Byte) (f : FwSession) (s : State),
      mayUpdate s q.ep = true → s.sup.session = some f → f.ep = q.ep.val → data.length ≠ 0 →
      data.length ≤ 1008 → (off.toNat ≠ f.received ∨ f.len + 256 < off.toNat + data.length) →
      exec (.fwUpdateData q off data) s = .next (State.finish (s) q opFwData rcOutOfRange [])) ∧
  (∀ (q : Req) (off : BitVec 32) (data : List Byte) (f : FwSession) (s : State),
      mayUpdate s q.ep = true → s.sup.session = some f → f.ep = q.ep.val → data.length ≠ 0 →
      data.length ≤ 1008 → off.toNat = f.received → off.toNat + data.length ≤ f.len + 256 →
      f.erased ≤ (off.toNat + data.length - 1) / 65536 →
      exec (.fwUpdateData q off data) s = .next (State.finish (s) q opFwData rcLocked [])) ∧
  (∀ (q : Req) (off : BitVec 32) (data : List Byte) (f : FwSession) (a : Nat) (s1 s2 : State) (s : State),
      mayUpdate s q.ep = true → s.sup.session = some f → f.ep = q.ep.val → data.length ≠ 0 →
      data.length ≤ 1008 → off.toNat = f.received → off.toNat + data.length ≤ f.len + 256 →
      (off.toNat + data.length - 1) / 65536 < f.erased → a = fwSlot s f.slot + off.toNat →
      s1 = s.writeNor a (programBytes (norBytes s a data.length) data) → s2 = (okRes { s1 with
        sup := { s1.sup with session := some { f with received := off.toNat + data.length } } }).startLong q opFwData →
      exec (.fwUpdateData q off data) s = .next { s2 with mbx := { s2.mbx with long := s2.mbx.long.map (fun j =>
        if j.ep == q.ep.val && j.tag == q.tag then { j with region := (a, data.length) } else j) } }) ∧
  (∀ (q : Req) (sigOk norOk : Bool) (s : State), mayUpdate s q.ep = false →
      exec (.fwUpdateEnd q sigOk norOk) s = .next (State.finish (s) q opFwEnd rcNotAuthority [])) ∧
  (∀ (q : Req) (sigOk norOk : Bool) (s : State), mayUpdate s q.ep = true → s.sup.session = none →
      exec (.fwUpdateEnd q sigOk norOk) s = .next (State.finish (s) q opFwEnd rcBadParam [])) ∧
  (∀ (q : Req) (sigOk norOk : Bool) (f : FwSession) (s : State), mayUpdate s q.ep = true →
      s.sup.session = some f → f.ep ≠ q.ep.val →
      exec (.fwUpdateEnd q sigOk norOk) s = .next (State.finish (s) q opFwEnd rcLocked [])) ∧
  (∀ (q : Req) (sigOk norOk : Bool) (f : FwSession) (s1 : State) (s : State), mayUpdate s q.ep = true →
      s.sup.session = some f → f.ep = q.ep.val → f.received ≠ f.len + 256 →
      s1 = ({ (s) with sup := { (s).sup with session := none } } : State).fwRecord f.slot rcOutOfRange →
      exec (.fwUpdateEnd q sigOk norOk) s = .next (State.finish (s1) q opFwEnd rcOutOfRange [])) ∧
  (∀ (q : Req) (sigOk norOk : Bool) (f : FwSession) (s1 : State) (s : State), mayUpdate s q.ep = true →
      s.sup.session = some f → f.ep = q.ep.val → f.received = f.len + 256 → slotCheck s f.slot sigOk ≠ 1 →
      s1 = ({ (s) with sup := { (s).sup with session := none } } : State).fwRecord f.slot rcSignature →
      exec (.fwUpdateEnd q sigOk norOk) s = .next (State.finish (s1) q opFwEnd rcSignature [])) ∧
  (∀ (q : Req) (sigOk : Bool) (f : FwSession) (cfg boot pref : Nat) (s1 s2 : State) (s : State),
      mayUpdate s q.ep = true → s.sup.session = some f → f.ep = q.ep.val → f.received = f.len + 256 →
      slotCheck s f.slot sigOk = 1 → headerSlots s = (cfg, boot, pref) →
      (s1 = s.writeHeader cfg boot (if f.slot then 1 else 0)) →
      s2 = ({ (s1) with sup := { (s1).sup with session := none } } : State).fwRecord f.slot 0 →
      exec (.fwUpdateEnd q sigOk true) s = .next (State.finish (s2) q opFwEnd 0 [BitVec.ofNat 8 (if f.slot then 1 else
        0), 0, 0, 0])) ∧
  (∀ (q : Req) (sigOk : Bool) (f : FwSession) (s2 : State) (s : State), mayUpdate s q.ep = true →
      s.sup.session = some f → f.ep = q.ep.val → f.received = f.len + 256 → slotCheck s f.slot sigOk = 1 → s2 =
      ({ (s.norFailed) with
        sup := { (s.norFailed).sup with session := none } } : State).fwRecord f.slot rcMemoryFailure →
      exec (.fwUpdateEnd q sigOk false) s = .next (State.finish (s2) q opFwEnd rcMemoryFailure [])) ∧
  (∀ (q : Req) (mode max : Nat) (start : BitVec 32) (s : State), 1 < mode →
      exec (.journalRead q mode max start) s = .next (State.finish (s) q opJournalRead rcBadParam [])) ∧
  (∀ (q : Req) (mode max : Nat) (start : BitVec 32) (s : State), mode ≤ 1 → (max = 0 ∨ 31 < max) →
      exec (.journalRead q mode max start) s = .next (State.finish (s) q opJournalRead rcOutOfRange [])) ∧
  (∀ (q : Req) (mode max : Nat) (start from_ first next : BitVec 32) (early : Bool) (rs : List JRec) (pl : List Byte)
      (s1 : State) (s : State), mode ≤ 1 → 1 ≤ max → max ≤ 31 →
      (from_ = (if mode = 0 then BitVec.ofNat 32 (s.p 4 0x13 q.ep 0x12) else start)) → recordsFrom s from_ = (early,
      rs) → first = (((rs.take max).head?.map (fun r => r.number)).getD from_) →
      next = (((rs.take max).getLast?.map (fun r => r.number + 1)).getD from_) →
      (pl = leBytes 1 (rs.take max).length ++ leBytes 1 ((if max < rs.length then 1 else 0) + (if early then 2 else 0))
      ++
          leBytes 2 0 ++ leBytes 4 first.toNat ++ ((rs.take max).map recBytes).flatten) → s1 = CmdRes.startLong ⟨s,
            0, pl⟩ q opJournalRead →
      exec (.journalRead q mode max start) s = .next { s1 with mbx := { s1.mbx with long := s1.mbx.long.map (fun j =>
        if j.ep == q.ep.val && j.tag == q.tag then { j with cursor := if mode = 0 then some next else none } else j) } })

/-- The memory serial port serves fills, user transfers, gathered writes and erases. exec answers the next state that the
rules give. The entry on the port that completes leaves it: a user's write ends, a user's read stores its result with its
data, MEMORY_FAILURE where its sequence was broken, and a fill is counted and lets a suspended operation go on when no fill
is left; a read with another length than asked, or no entry, does nothing. A fill within the NOR and with room is queued,
and suspends a running operation where that is allowed. A gathered write without privilege or over the mirror is counted and
noted; one beyond the NOR does nothing; else it is written page by page: within the gathered page it is gathered, and a
write of another page programs the page and waits. The gather time-out of 2 µs and a privileged flush program the page while
the NOR is idle, and not otherwise. A privileged erase with its start bit begins, is refused over the mirror, and is only
stored while the NOR is busy or beyond its density; without the bit it is stored, without privilege nothing. A poll of a NOR
operation that is not suspended ends it when it is ready, and past its limit fails it, ending an update's session. USER_XFER
and ARB_PRIORITY are NOT_AUTHORITY without the right, BAD_PARAM for another length, then the code of the check, or
OUT_OF_RANGE for a rank above 7, and otherwise queue the entry or store the ranks. A held chip select is split after its
time, and not before. Spec: 17_external_memory.md: Queue entries; 17_external_memory.md: Arbitration; 17_external_memory.md:
User transfers; 17_external_memory.md: Execute-in-place window. -/
def Obligations.TheMemoryArbiterServesNor : Prop :=
  (∀ (data : List Byte) (s : State), s.msp.entries.find? (fun e => e.active) = none →
      exec (.mspEntryComplete data) s = .next s) ∧
  (∀ (data : List Byte) (e : MspEntry) (s : State), s.msp.entries.find? (fun e => e.active) = some e →
      e.requester = 4 → e.read = true → data.length ≠ e.dataBits / 8 →
      exec (.mspEntryComplete data) s = .next s) ∧
  (∀ (data : List Byte) (e : MspEntry) (s1 : State) (s : State),
      s.msp.entries.find? (fun e => e.active) = some e → e.requester = 4 → e.read = false →
      s1 = s.modMsp (fun m => { m with entries := m.entries.filter (fun x => !x.active) }) →
      exec (.mspEntryComplete data) s = .next (s1.endUser e)) ∧
  (∀ (data : List Byte) (e : MspEntry) (s1 : State) (s : State),
      s.msp.entries.find? (fun e => e.active) = some e → e.requester = 4 → e.read = true →
      data.length = e.dataBits / 8 → s1 = s.modMsp (fun m =>
      { m with entries := m.entries.filter (fun x => !x.active) }) →
      exec (.mspEntryComplete data) s = .next ((s1.setBytes 0x19 0 0x0D (1032 * (fin8 e.endpoint).val)
        (leBytes 4 e.number ++ leBytes 2 (if e.broken then rcMemoryFailure.toNat else 0) ++ leBytes 2 (e.dataBits / 8)
          ++
          (data ++ List.replicate 1024 0).take 1024)).endUser e)) ∧
  (∀ (data : List Byte) (e : MspEntry) (more : Bool) (s1 s2 : State) (s : State),
      s.msp.entries.find? (fun e => e.active) = some e → e.requester ≠ 4 →
      s1 = s.modMsp (fun m => { m with entries := m.entries.filter (fun x => !x.active) }) →
      more = s1.msp.entries.any (fun x => x.requester == 0) → s2 = (s1.modMsp (fun m => { m with
        norOp := m.norOp.map (fun o => { o with suspended := o.suspended && more }), holdCount := 0 })).incAt 4 0x19 0
      0x12 0 →
      exec (.mspEntryComplete data) s = .next (({ s2 with sup := { s2.sup with cacheFills := s2.sup.cacheFills + 1 } } :
        State).arbitrate)) ∧
  (∀ (addr : Nat) (s : State), (norSize s ≤ addr ∨ 2 ≤ mspLevel s 0) →
      exec (.xipFill addr) s = .next s) ∧
  (∀ (addr : Nat) (s : State), addr < norSize s → mspLevel s 0 < 2 → (s.msp.suspendOk = false ∨
      s.msp.norOp.any (fun o => !o.suspended) = false) →
      exec (.xipFill addr) s = .next (s.mspQueue (fillEntry s addr))) ∧
  (∀ (addr : Nat) (s : State), addr < norSize s → mspLevel s 0 < 2 → s.msp.suspendOk = true →
      s.msp.norOp.any (fun o => !o.suspended) = true →
      exec (.xipFill addr) s = .next ((s.suspendNor.incAt 4 0x19 0 0x12 8).mspQueue (fillEntry s addr))) ∧
  (∀ (priv : Bool) (addr : Nat) (data : List Byte) (s : State), (priv = false ∨
      touchesMirror addr data.length = true) →
      exec (.xipWriteGather priv addr data) s = .next ((s.inc 4 0x19 0 0x15).orP 0x19 0 0x16 8)) ∧
  (∀ (addr : Nat) (data : List Byte) (s : State), touchesMirror addr data.length = false →
      norSize s < addr + data.length →
      exec (.xipWriteGather true addr data) s = .next s) ∧
  (∀ (addr : Nat) (data : List Byte) (s : State), touchesMirror addr data.length = false →
      addr + data.length ≤ norSize s →
      exec (.xipWriteGather true addr data) s =
        .next ((pageParts data.length addr data).foldl (fun (t : State) w => t.pageWrite w.1 w.2) s)) ∧
  (∀ (addr : Nat) (data : List Byte) (s : State), touchesMirror addr data.length = false →
      addr + data.length ≤ norSize s → data ≠ [] → addr % 256 + data.length ≤ 256 → s.msp.stalled = [] →
      s.msp.norOp.any (fun o => !o.erase) = false → s.msp.gatherPage.all (fun p => p == addr / 256) = true →
      exec (.xipWriteGather true addr data) s = .next (s.gatherWrite addr data)) ∧
  (∀ (addr : Nat) (data : List Byte) (p : Nat) (s : State), touchesMirror addr data.length = false →
      addr + data.length ≤ norSize s → data ≠ [] → addr % 256 + data.length ≤ 256 → s.msp.stalled = [] →
      s.msp.norOp = none → s.msp.gatherPage = some p → p ≠ addr / 256 →
      exec (.xipWriteGather true addr data) s = .next (s.programGathered.modMsp (fun m =>
        { m with stalled := m.stalled ++ [(addr, data)] }))) ∧
  (∀ (s : State), s.msp.norOp = none → elapsed s s.msp.gatherAt 2000 = true →
      exec .xipGatherTimeout s = .next s.programGathered) ∧
  (∀ (s : State), (s.msp.norOp ≠ none ∨ elapsed s s.msp.gatherAt 2000 = false) →
      exec .xipGatherTimeout s = .next s) ∧
  (∀ (s : State), s.msp.norOp = none →
      exec (.xipFlush true) s = .next s.programGathered) ∧
  (∀ (priv : Bool) (s : State), (priv = false ∨ s.msp.norOp ≠ none) →
      exec (.xipFlush priv) s = .next s) ∧
  (∀ (v : Word) (s : State),
      exec (.xipErase false v) s = .next s) ∧
  (∀ (v : Word) (s1 : State) (s : State), s1 = s.modMsp (fun m => { m with eraseReg := v &&& 0x7FFF0000 }) →
      v.getLsbD 31 = false →
      exec (.xipErase true v) s = .next s1) ∧
  (∀ (v : Word) (addr len : Nat) (s1 : State) (s : State),
      (addr = (if v.getLsbD 30 = true then v.toNat / 65536 % 16384 / 16 * 65536 else v.toNat / 65536 % 16384 * 4096)) →
      (len = (if v.getLsbD 30 = true then 65536 else 4096)) →
      s1 = s.modMsp (fun m => { m with eraseReg := v &&& 0x7FFF0000 }) → v.getLsbD 31 = true →
      touchesMirror addr len = true →
      exec (.xipErase true v) s = .next ((s1.inc 4 0x19 0 0x15).orP 0x19 0 0x16 8)) ∧
  (∀ (v : Word) (addr len : Nat) (s1 : State) (s : State),
      (addr = (if v.getLsbD 30 = true then v.toNat / 65536 % 16384 / 16 * 65536 else v.toNat / 65536 % 16384 * 4096)) →
      (len = (if v.getLsbD 30 = true then 65536 else 4096)) →
      s1 = s.modMsp (fun m => { m with eraseReg := v &&& 0x7FFF0000 }) → v.getLsbD 31 = true →
      touchesMirror addr len = false → (s.msp.norOp ≠ none ∨ norSize s < addr + len) →
      exec (.xipErase true v) s = .next s1) ∧
  (∀ (v : Word) (addr len : Nat) (s1 : State) (s : State),
      (addr = (if v.getLsbD 30 = true then v.toNat / 65536 % 16384 / 16 * 65536 else v.toNat / 65536 % 16384 * 4096)) →
      (len = (if v.getLsbD 30 = true then 65536 else 4096)) →
      s1 = s.modMsp (fun m => { m with eraseReg := v &&& 0x7FFF0000 }) → v.getLsbD 31 = true →
      touchesMirror addr len = false → s.msp.norOp = none → addr + len ≤ norSize s →
      exec (.xipErase true v) s = .next ((s1.modMsp (fun m => { m with
          norOp := some ⟨addr, len, true, s.tb.mono, [], false, false⟩ })).invalidate addr len)) ∧
  (∀ (busy : Bool) (s : State), s.msp.norOp = none →
      exec (.norStatusPoll busy) s = .next s) ∧
  (∀ (busy : Bool) (o : NorOp) (s : State), s.msp.norOp = some o → o.suspended = true →
      exec (.norStatusPoll busy) s = .next s) ∧
  (∀ (o : NorOp) (s : State), s.msp.norOp = some o → o.suspended = false →
      exec (.norStatusPoll false) s = .next (s.norDone o)) ∧
  (∀ (o : NorOp) (s : State), s.msp.norOp = some o → o.suspended = false → elapsed s o.begun (norLimit o) = false →
      exec (.norStatusPoll true) s = .next s) ∧
  (∀ (o : NorOp) (s : State), s.msp.norOp = some o → o.suspended = false → o.update = false →
      elapsed s o.begun (norLimit o) = true →
      exec (.norStatusPoll true) s = .next ((s.modMsp (fun m => { m with norOp := none })).failRange o.addr
        o.len).norFailed.resumeWrites.arbitrate) ∧
  (∀ (o : NorOp) (s1 : State) (s : State), s.msp.norOp = some o → o.suspended = false → o.update = true →
      elapsed s o.begun (norLimit o) = true → s1 = ((s.modMsp (fun m => { m with norOp := none })).failRange o.addr
      o.len).norFailed →
      exec (.norStatusPoll true) s = .next ({ s1 with sup := { s1.sup with session := none } } :
        State).resumeWrites.arbitrate) ∧
  (∀ (q : Req) (v : List Byte) (s : State), mayConfigure s q.ep = false →
      exec (.userXfer q v) s = .next (s.finish q opSetParam rcNotAuthority [])) ∧
  (∀ (q : Req) (v : List Byte) (s : State), mayConfigure s q.ep = true → v.length ≠ 64 →
      exec (.userXfer q v) s = .next (State.finish (s) q opSetParam rcBadParam ([]))) ∧
  (∀ (q : Req) (v : List Byte) (c : BitVec 16) (s : State), mayConfigure s q.ep = true → v.length = 64 →
      xferCheck s q.ep (xferReq v) = some c →
      exec (.userXfer q v) s = .next (State.finish (s) q opSetParam c ([]))) ∧
  (∀ (q : Req) (v : List Byte) (s : State), mayConfigure s q.ep = true → v.length = 64 →
      xferCheck s q.ep (xferReq v) = none →
      exec (.userXfer q v) s = .next (State.finish ((s.modMsp (fun m => { m with
          userCount := m.userCount.set q.ep (m.userCount[q.ep] + 1) })).mspQueue (xferEntry s q.ep (xferReq v))) q
        opSetParam 0 ([]))) ∧
  (∀ (q : Req) (v : List Byte) (s : State), mayConfigure s q.ep = false →
      exec (.arbPriorityWrite q v) s = .next (s.finish q opSetParam rcNotAuthority [])) ∧
  (∀ (q : Req) (v : List Byte) (s : State), mayConfigure s q.ep = true → v.length ≠ 5 →
      exec (.arbPriorityWrite q v) s = .next (State.finish (s) q opSetParam rcBadParam ([]))) ∧
  (∀ (q : Req) (v : List Byte) (s : State), mayConfigure s q.ep = true → v.length = 5 →
      v.any (fun b => decide (7 < b.toNat)) = false →
      exec (.arbPriorityWrite q v) s = .next (State.finish (s.setBytes 0x19 0 0x09 0 v) q opSetParam 0 ([]))) ∧
  (∀ (q : Req) (v : List Byte) (s : State), mayConfigure s q.ep = true → v.length = 5 →
      v.any (fun b => decide (7 < b.toNat)) = true →
      exec (.arbPriorityWrite q v) s = .next (State.finish (s) q opSetParam rcOutOfRange ([]))) ∧
  (∀ (ep : Nat) (since : BitVec 96) (s : State), s.msp.cont = some (ep, since) →
      elapsed s since (s.p 2 0x19 0 0x0B * 1000) = true →
      exec .continueTimeout s = .next (s.mspSplit ep)) ∧
  (∀ (ep : Nat) (since : BitVec 96) (s : State), s.msp.cont = some (ep, since) →
      elapsed s since (s.p 2 0x19 0 0x0B * 1000) = false →
      exec .continueTimeout s = .next s) ∧
  (∀ (s : State), s.msp.cont = none →
      exec .continueTimeout s = .next s)

/-- The journal takes, flushes, moves, patrols and mounts its records. exec answers the next state that the rules give. The
first waiting record is taken and numbered. A flush that is due programs a page of up to 62 records, and none that is not. A
failed operation on a good block of a present NAND retires it; where its last program failed, that page is taken from it and
programmed elsewhere; on another block it does nothing. A block due for scrubbing, with the journal mounted, has its pages
with records copied, is erased, counted and journalled. A patrol read that is due reads the next of its blocks and counts
its codewords. The mount acts in the mounting state only: it numbers the pages, opens the block of the last page and
declares the journal mounted; after a page that a power failure wrote in time it takes that record's content over; after one
that is not of a power failure, where the reset cause was a power loss, it journals a lost page and raises MSP-07. The first
epoch that waits is appended to the epoch sector. Where there is nothing to take or nothing due, nothing changes. Spec:
17_external_memory.md: Journal records; 17_external_memory.md: NAND management; 17_external_memory.md: NOR layout. -/
def Obligations.TheJournalKeepsItsRecords : Prop :=
  (∀ (s : State), s.jrn.incoming = [] →
      exec .journalRecord s = .next s) ∧
  (∀ (typ : Nat) (unc : Bool) (body : List Byte) (rest : List (Nat × Bool × List Byte)) (s : State),
      s.jrn.incoming = (typ, unc, body) :: rest →
      exec .journalRecord s = .next ((s.modJrn (fun j => { j with incoming := rest })).addRecord typ unc body)) ∧
  (∀ (s : State), flushDue s = true →
      exec .journalFlush s = .next (flushPage s 62 0).wornCheck) ∧
  (∀ (s : State), flushDue s = false →
      exec .journalFlush s = .next s) ∧
  (∀ (block : Nat) (erase : Bool) (s : State), (s.jrn.present = false ∨ s.jrn.blockCount ≤ block ∨
      nandGood s block = false) →
      exec (.nandOperationFail block erase) s = .next s) ∧
  (∀ (block : Nat) (erase : Bool) (s : State), s.jrn.present = true → block < s.jrn.blockCount →
      nandGood s block = true → (erase = true ∨ blockPages s block = []) →
      exec (.nandOperationFail block erase) s = .next ((s.grownBad block 0).modJrn (fun j => { j with
        openBlock := if j.openBlock.any (fun o => o.1 == block) then none else j.openBlock }))) ∧
  (∀ (block : Nat) (i : Nat) (p : NandPage) (s1 : State) (s : State), s.jrn.present = true →
      block < s.jrn.blockCount → nandGood s block = true → (blockPages s block).getLast? = some (i, p) →
      (s1 = (s.grownBad block p.first).modJrn (fun j => { j with
        pages := j.pages.eraseIdx i,
        openBlock := if j.openBlock.any (fun o => o.1 == block) then none else j.openBlock })) →
      exec (.nandOperationFail block false) s = .next (s1.programPage p.flags p.records (pageAt i))) ∧
  (∀ (block : Nat) (s : State), (s.jrn.mounted = false ∨ scrubDue s block = false) →
      exec (.scrub block) s = .next s) ∧
  (∀ (block bits first : Nat) (src : List NandPage) (s1 : State) (s : State), s.jrn.mounted = true →
      scrubDue s block = true → src = (blockPages s block).map (fun x => x.2) →
      bits = ((s.jrn.scrubQueue.find? (fun x => x.1 == block)).map (fun x => x.2)).getD 0 →
      BitVec.ofNat 32 first = (src.head?.map (fun p => p.first)).getD 0 → (s1 = s.modJrn (fun j => { j with
        scrubQueue := j.scrubQueue.filter (fun x => x.1 != block),
        openBlock := if j.openBlock.any (fun o => o.1 == block) then none else j.openBlock })) →
      exec (.scrub block) s = .next (((((((src.filter (fun p => !p.records.isEmpty)).foldl (fun (t : State) p =>
        t.copyPage p)
        s1).eraseBlock block).inc 4 0x1A 0 0x0E).orP 0x1A 0 0x13 8).nandRecord block 2 bits (BitVec.ofNat 32
          first)).wornCheck)) ∧
  (∀ (words : List (Option Nat)) (s : State), (patrolBlocks s = [] ∨ patrolDue s = false) →
      exec (.patrolRead words) s = .next s) ∧
  (∀ (words : List (Option Nat)) (b : Nat) (s : State), ((patrolBlocks s).find? (fun b => decide (s.jrn.patrolNext ≤
      b))).or (patrolBlocks s).head? = some b → patrolDue s = true →
      exec (.patrolRead words) s = .next ((s.modJrn (fun j => { j with
        patrolNext := b + 1, patrolAt := some s.tb.mono })).patrolBlock b words)) ∧
  (∀ (s : State), journalState s ≠ 1 →
      exec .journalMount s = .next s) ∧
  (∀ (s2 : State) (s : State), journalState s = 1 → s.jrn.pages = [] → (s2 = ((s.mountNumbers.modJrn (fun j => { j with
        openBlock := none,
        blocks := j.blocks.map (fun x => if j.pages.any (fun p => p.block == x.block) then x else
          { x with erases := x.tableErases }) })).setP 1 0x1A 0 0x01 2).wornCheck) →
      exec .journalMount s = .next s2) ∧
  (∀ (p : NandPage) (s2 : State) (s : State), journalState s = 1 → s.jrn.pages.getLast? = some p →
      p.flags % 2 = 1 → p.records = [] → s2 = ((s.mountNumbers.modJrn (fun j => { j with
        openBlock := some (p.block, p.page + 1), blocks := j.blocks })).setP 1 0x1A 0 0x01 2).wornCheck →
      exec .journalMount s = .next s2) ∧
  (∀ (p : NandPage) (r : JRec) (s2 : State) (s : State), journalState s = 1 → s.jrn.pages.getLast? = some p →
      p.flags % 2 = 1 → p.records.getLast? = some r → s2 = ((s.mountNumbers.modJrn (fun j => { j with
        openBlock := some (p.block, p.page + 1), blocks := j.blocks })).setP 1 0x1A 0 0x01 2).wornCheck →
      exec .journalMount s = .next (s2.draw.2.setBytes 0x1A 0 0x12 0
        (r.body.take 9 ++ (r.body.drop 9).take 2 ++ [0] ++ leBytes 2 s2.draw.1 ++ [0, 0]))) ∧
  (∀ (p : NandPage) (s2 : State) (s : State), journalState s = 1 → s.jrn.pages.getLast? = some p →
      p.flags % 2 = 0 → (s.heartwood.resetCause == 1 || s.heartwood.resetCause == 2) = true →
      (s2 = ((s.mountNumbers.modJrn (fun j => { j with
        openBlock := some (p.block, p.page + 1),
        blocks := j.blocks.map (fun x => if j.pages.any (fun p => p.block == x.block) then x else
          { x with erases := x.tableErases }) })).setP 1 0x1A 0 0x01 2).wornCheck) →
      exec .journalMount s = .next (((s2.draw.2.journalAt 0x0A ([BitVec.ofNat 8 (if s.sup.holdLow then 2 else 1),
        0] ++ leBytes 2 s2.draw.1)).orP 0x1A 0
        0x13 16).raise (ident .msp 7) 0 0)) ∧
  (∀ (p : NandPage) (s2 : State) (s : State), journalState s = 1 → s.jrn.pages.getLast? = some p →
      p.flags % 2 = 0 → (s.heartwood.resetCause == 1 || s.heartwood.resetCause == 2) = false →
      (s2 = ((s.mountNumbers.modJrn (fun j => { j with
        openBlock := some (p.block, p.page + 1),
        blocks := j.blocks.map (fun x => if j.pages.any (fun p => p.block == x.block) then x else
          { x with erases := x.tableErases }) })).setP 1 0x1A 0 0x01 2).wornCheck) →
      exec .journalMount s = .next s2) ∧
  (∀ (s : State), s.canopy.epochDue = [] →
      exec .epochSectorRecord s = .next s) ∧
  (∀ (v : Nat) (rest : List Nat) (s : State), s.canopy.epochDue = v :: rest →
      exec .epochSectorRecord s = .next (State.appendEpoch { s with canopy := { s.canopy with epochDue := rest } } v))

/-- Ports go up and down, frames are received, gates follow, and tables age. exec answers the next state that the rules
give. A port that is up and loses its link drops and counts what it held, flushes its addresses, raises BBS-01 and ends
BBS-07, and in a ring says BREAK on the other ring port, which for the root also breaks the ring; a port that is down comes
up at a speed of its mode when its line was good for LINK_UP_HOLD, held closed on a ring port that is not the root's, and
otherwise nothing happens. A frame on a port that is down does nothing; on one that is up it is counted, and: outside 64
bytes to the maximum only counted; to a reserved address taken as gPTP or only counted, or with a bad FCS counted as that;
filtered by the port's class rules only counted; with a good FCS bridged; with a bad FCS counted, and, where it may be cut
through, stomped on the ports it goes to. A gate boundary, and a list change whose instant has come, take up the list and
follow it; before the instant, or without one, a change does nothing. MAC entries older than the ageing time leave; ageing 0
keeps them. MAC_FLUSH flushes all ports or those named, OUT_OF_RANGE for other masks, NOT_AUTHORITY without the right. A
table error raises BBS-12 and loses a MAC entry. A latent test due raises BBS-05 where the copies differ by more than
allowed, and starts again. An idle stream's history is reset. A pdelay request due sends its message, and its exchange, or
the third loss in a row, changes what the port measured and its asCapable. Spec: 14_backbone_switch.md: Ports and line
modes; 14_backbone_switch.md: Traffic classes and frame handling; 14_backbone_switch.md: Scheduled traffic, IEEE 802.1Qbv;
14_backbone_switch.md: Streams, IEEE 802.1CB and 802.1Qci; 14_backbone_switch.md: gPTP on the ports; 14_backbone_switch.md:
Faults. -/
def Obligations.TheSwitchForwardsAndAges : Prop :=
  (∀ (p : Fin 3) (s : State), s.ports[p].up = false →
      exec (.portLinkDown p) s = .next s) ∧
  (∀ (p : Fin 3) (dropped : List QFrame) (s1 s2 s3 s4 : State) (s : State), s.ports[p].up = true →
      dropped = s.ports[p].queue ++ (s.ports[p].sending.map (·.1)).toList →
      s1 = (s.loseCapable p false).modPort p (fun (k : Port) => { k with
          up := false, speed := 0, queue := [], sending := none, exchanges := [], okRun := 0, lostRun := 0,
            held := false, tests := 0,
          badAt := s.tb.mono, pdelayAt := none, announceAt := none, announceRx := none
            }) → (s2 = dropped.foldl (fun t x => if x.ptp = true then t else t.portCnt p (18 + 4 * x.tc.val)) s1) → s3 = ((s2.bufStat.flushPorts (1#4 <<< p.val)).ringAll 7).portCnt p 14 → s4 = ((s3.orP 0x15 p 0x1E 1).raise (ident .bbs 1) 8 p).endFault (ident .bbs 7) 8 p →
      exec (.portLinkDown p) s = .next (match inRing s, otherRing s p with
        | true, some o => if isRoot s = true then (s4.sendTopology 2 o).ringBreak else s4.sendTopology 2 o
        | _, _ => s4)) ∧
  (∀ (p : Fin 3) (speed : Nat) (s : State), s.ports[p].up = false →
      elapsed s s.ports[p].badAt (s.p 2 0x15 p 0x1A * 1000000) = true →
      (modeSpeeds (s.p 1 0x15 p 0x01)).contains speed = true → (s.p 1 0x15 p 0x01 == 1 && s.tb.refType) = false →
      exec (.portLinkUp p speed) s = .next ((((s.modPort p (fun k => { k with
        up := true, speed := speed, held := inRing s && !isRoot s && isRingPort s p
          })).ringAll 7).endFault (ident .bbs 1) 8 p).helloSoon)) ∧
  (∀ (p : Fin 3) (speed : Nat) (s : State), (s.ports[p].up = true ∨
      elapsed s s.ports[p].badAt (s.p 2 0x15 p 0x1A * 1000000) = false ∨
      (modeSpeeds (s.p 1 0x15 p 0x01)).contains speed = false ∨ (s.p 1 0x15 p 0x01 == 1 && s.tb.refType) = true) →
      exec (.portLinkUp p speed) s = .next s) ∧
  (∀ (p : Fin 3) (f : Frame) (s : State), s.ports[p].up = false →
      exec (.frameReceived p f) s = .next s) ∧
  (∀ (p : Fin 3) (f : Frame) (s : State), s.ports[p].up = true → (f.len < 64 ∨ s.p 2 0x15 p 0x16 < f.len) →
      exec (.frameReceived p f) s = .next (((s.portCnt p 0).portAdd p 1 f.len).portCnt p 5)) ∧
  (∀ (p : Fin 3) (f : Frame) (s1 : State) (s : State), s.ports[p].up = true → 64 ≤ f.len →
      f.len ≤ s.p 2 0x15 p 0x16 → isReserved f.dst = true → f.fcsOk = false → s1 = (s.portCnt p 0).portAdd p 1 f.len →
      exec (.frameReceived p f) s = .next (s1.badFcs p)) ∧
  (∀ (p : Fin 3) (f : Frame) (s1 : State) (s : State), s.ports[p].up = true → 64 ≤ f.len →
      f.len ≤ s.p 2 0x15 p 0x16 → isReserved f.dst = true → f.fcsOk = true → (f.dst = 0x0180C200000E ∧
      f.etype = 0x88F7 ∧ f.tag = none) → s1 = (s.portCnt p 0).portAdd p 1 f.len →
      exec (.frameReceived p f) s = .next (s1.takePtp p f)) ∧
  (∀ (p : Fin 3) (f : Frame) (s1 : State) (s : State), s.ports[p].up = true → 64 ≤ f.len →
      f.len ≤ s.p 2 0x15 p 0x16 → isReserved f.dst = true → f.fcsOk = true → (f.dst ≠ 0x0180C200000E ∨
      f.etype ≠ 0x88F7 ∨ f.tag ≠ none) → s1 = (s.portCnt p 0).portAdd p 1 f.len →
      exec (.frameReceived p f) s = .next (s1.portCnt p 7)) ∧
  (∀ (p : Fin 3) (f : Frame) (s1 : State) (s : State), s.ports[p].up = true → 64 ≤ f.len →
      f.len ≤ s.p 2 0x15 p 0x16 → isReserved f.dst = false → rxClass s p f = none →
      s1 = (s.portCnt p 0).portAdd p 1 f.len →
      exec (.frameReceived p f) s = .next (s1.portCnt p 6)) ∧
  (∀ (p : Fin 3) (f : Frame) (c : RxClass) (s1 : State) (s : State), s.ports[p].up = true → 64 ≤ f.len →
      f.len ≤ s.p 2 0x15 p 0x16 → isReserved f.dst = false → rxClass s p f = some c → f.fcsOk = true →
      s1 = (s.portCnt p 0).portAdd p 1 f.len →
      exec (.frameReceived p f) s = .next (s1.bridge p f c)) ∧
  (∀ (p : Fin 3) (f : Frame) (c : RxClass) (s1 : State) (s : State), s.ports[p].up = true → 64 ≤ f.len →
      f.len ≤ s.p 2 0x15 p 0x16 → isReserved f.dst = false → rxClass s p f = some c → f.fcsOk = false →
      (f.dst = gclRing ∨ (f.rtag.isNone && portRestricted s p) = true) → s1 = (s.portCnt p 0).portAdd p 1 f.len →
      exec (.frameReceived p f) s = .next (s1.badFcs p)) ∧
  (∀ (p : Fin 3) (f : Frame) (c : RxClass) (s2 : State) (s : State), s.ports[p].up = true → 64 ≤ f.len →
      f.len ≤ s.p 2 0x15 p 0x16 → isReserved f.dst = false → rxClass s p f = some c → f.fcsOk = false →
      f.dst ≠ gclRing → (f.rtag.isNone && portRestricted s p) = false →
      s2 = ((s.portCnt p 0).portAdd p 1 f.len).badFcs p →
      exec (.frameReceived p f) s = .next ((rxPorts s p f c).foldl (fun t q => t.stomp p f c s.sw.nextBuf q)
        ({ s2 with sw := { s2.sw with nextBuf := s2.sw.nextBuf + 1 } } : State))) ∧
  (∀ (p : Fin 3) (s : State),
      exec (.gateIntervalBoundary p) s = .next ((s.changeList p).followGates p)) ∧
  (∀ (p : Fin 3) (x : GateList) (t : CellTime) (s : State), (s.ports[p]).admin = some (x, t) →
      reached t (now s) = true →
      exec (.gateListChange p) s = .next ((s.changeList p).followGates p)) ∧
  (∀ (p : Fin 3) (x : GateList) (t : CellTime) (s : State), (s.ports[p]).admin = some (x, t) →
      reached t (now s) = false →
      exec (.gateListChange p) s = .next s) ∧
  (∀ (p : Fin 3) (s : State), (s.ports[p]).admin = none →
      exec (.gateListChange p) s = .next s) ∧
  (∀ (s : State), s.p 2 0x16 0 0x02 ≠ 0 →
      exec .macAgeing s = .next (s.setMac (s.sw.mac.filter (fun (e : MacEntry) => !elapsed s e.seen (s.p 2 0x16 0 0x02 *
        1000000000))))) ∧
  (∀ (s : State), s.p 2 0x16 0 0x02 = 0 →
      exec .macAgeing s = .next s) ∧
  (∀ (q : Req) (s : State), mayConfigure s q.ep = true →
      exec (.macFlush q 0xFF) s = .next (State.finish (s.flushPorts 0xF) q opSetParam 0 ([]))) ∧
  (∀ (q : Req) (mask : Byte) (s : State), mayConfigure s q.ep = true → mask ≠ 0 → mask ≤ 7 →
      exec (.macFlush q mask) s = .next (State.finish (s.flushPorts (mask.setWidth 4)) q opSetParam 0 ([]))) ∧
  (∀ (q : Req) (mask : Byte) (s : State), mayConfigure s q.ep = true → mask ≠ 0xFF → (mask = 0 ∨ 7 < mask) →
      exec (.macFlush q mask) s = .next (State.finish (s) q opSetParam rcOutOfRange ([]))) ∧
  (∀ (q : Req) (mask : Byte) (s : State), mayConfigure s q.ep = false →
      exec (.macFlush q mask) s = .next (s.finish q opSetParam rcNotAuthority [])) ∧
  (∀ (i : Nat) (s : State),
      exec (.tableEccRewrite 0 i) s = .next (((s.setMac (s.sw.mac.eraseIdx i)).orP 0x16 0 0x15 16).raise (ident .bbs 12)
        0 0)) ∧
  (∀ (table i : Nat) (s : State), table ≠ 0 →
      exec (.tableEccRewrite table i) s = .next ((s.orP 0x16 0 0x15 16).raise (ident .bbs 12) 0 0)) ∧
  (∀ (i : Fin 256) (s : State), ((streamCfg s i).idMode = 0 ∨ (streamCfg s i).latent = false ∨
      elapsed s (streamSt s i).testAt 2000000000 = false) →
      exec (.latentTestPeriod i) s = .next s) ∧
  (∀ (i : Fin 256) (y : StreamSt) (s : State), (streamCfg s i).idMode ≠ 0 → (streamCfg s i).latent = true →
      elapsed s (streamSt s i).testAt 2000000000 = true → (streamSt s i).testDup + (streamCfg s i).latentDiff <
      (streamSt s i).testPassed → y = { streamSt s i with testPassed := 0, testDup := 0, testAt := s.tb.mono } →
      exec (.latentTestPeriod i) s = .next (((s.setStream { y with latent := true }).orP 0x16 0 0x15 4).raise
        (ident .bbs 5) 0 0 (BitVec.ofNat 32 i))) ∧
  (∀ (i : Fin 256) (y : StreamSt) (s : State), (streamCfg s i).idMode ≠ 0 → (streamCfg s i).latent = true →
      elapsed s (streamSt s i).testAt 2000000000 = true → (streamSt s i).testPassed ≤ (streamSt s i).testDup +
      (streamCfg s i).latentDiff → y = { streamSt s i with testPassed := 0, testDup := 0, testAt := s.tb.mono } →
      exec (.latentTestPeriod i) s = .next (s.setStream y)) ∧
  (∀ (i : Fin 256) (s : State), ((streamCfg s i).idMode = 0 ∨ (streamCfg s i).recover = false) →
      exec (.recoveryResetTimeout i) s = .next s) ∧
  (∀ (i : Fin 256) (s : State), (streamCfg s i).idMode ≠ 0 → (streamCfg s i).recover = true →
      exec (.recoveryResetTimeout i) s = .next (s.setStream (if elapsed s (streamSt s i).lastPass
        ((streamCfg s i).timeoutMs * 1000000) = true then { streamSt s i with history := [] } else streamSt s i))) ∧
  (∀ (p : Fin 3) (d : Option Nat) (s : State), (s.ports[p].up = false ∨
      sinceLast s s.ports[p].pdelayAt (logSeconds (s.pI 1 0x15 p 0x0A)) = false) →
      exec (.pdelayReq p d) s = .next s) ∧
  (∀ (p : Fin 3) (s0 s1 : State) (s : State), s.ports[p].up = true →
      sinceLast s s.ports[p].pdelayAt (logSeconds (s.pI 1 0x15 p 0x0A)) = true →
      s0 = (s.modPort p (fun k => { k with pdelayAt := some s.tb.mono })).sendPtp p (ptpMessage 0x2 54) →
      s1 = s0.modPort p (fun k => { k with okRun := 0, lostRun := k.lostRun + 1 }) →
      exec (.pdelayReq p none) s = .next (if 3 ≤ (s0.ports[p]).lostRun + 1 then s1.loseCapable p true else s1)) ∧
  (∀ (p : Fin 3) (v mean r limit : Nat) (ex : List Nat) (s0 s1 s2 : State) (s : State),
      s.ports[p].up = true → sinceLast s s.ports[p].pdelayAt (logSeconds (s.pI 1 0x15 p 0x0A)) = true →
      s0 = (s.modPort p (fun k => { k with pdelayAt := some s.tb.mono })).sendPtp p (ptpMessage 0x2 54) →
      ex = ((s0.ports[p]).exchanges ++ [v]).drop ((s0.ports[p]).exchanges.length + 1 - 8) → mean = meanDelay ex →
      ((r, s1) = (if 1 ≤ (s0.ports[p]).okRun then s0.draw else (s0.p 4 0x15 p 0x0D, s0))) →
      s2 = ((s1.modPort p (fun k => { k with exchanges := ex, okRun := k.okRun + 1, lostRun := 0 })).setP 4 0x15 p 0x0C
      mean).setP 4 0x15 p 0x0D r → limit = s0.p 4 0x15 p 0x0B * 1000 →
      exec (.pdelayReq p (some v)) s = .next (if limit < v ∨ limit < mean then s2.loseCapable p true
        else if 1 ≤ (s0.ports[p]).okRun ∧ (s0.ports[p]).asCapable = false then
          (s2.modPort p (fun k => { k with asCapable := true })).endFault (ident .bbs 7) 8 p
        else s2))

/-- The ring root tests the ring and opens it on a break; topology frames and swaps act. exec answers the next state that
the rules give. The root, each ring test interval and not sooner, counts the tests that came back, clears them and sends the
next: in a closed ring, tests on all ring ports clear the run of misses, and the third miss in a row breaks the ring; in a
broken one, the third full round in a row closes it, and a miss clears that run. The oldest ring frame delivered on a ring
port is taken: one of the device's own, and for the root a test or break, is received and acted on without being passed on;
any other is first sent on to the other ring port with its tag (or the class of an untagged one) and then acted on where its
checks pass; one on another port is only dropped; without one nothing happens. A ring swap due at the root of a closed ring
moves the blocked port, says so, is counted and kept as the last swap; in another place or state it is refused and kept as
that; none due does nothing. A ring copy missing for 1 ms is counted against its direction with an occurrence of BBS-21,
where the device is in a ring and both ports are up, and only forgotten where not. Spec: 14_backbone_switch.md: Chains,
rings and trees; 15_cell_link.md: Ring topology frames; 15_cell_link.md: Receiving a frame; 16_redundancy.md: Role swaps. -/
def Obligations.TheRingIsTestedAndClosed : Prop :=
  (∀ (s : State), (isRoot s = false ∨ elapsed s s.sw.ringAt (s.p 2 0x16 0 0x0D * 1000) = false) →
      exec .ringTestInterval s = .next s) ∧
  (∀ (s1 s2 : State) (s : State), isRoot s = true → elapsed s s.sw.ringAt (s.p 2 0x16 0 0x0D * 1000) = true →
      ringState s = 1 → (ringPorts s).all (fun p => decide (0 < (s.ports[p]).tests)) = true →
      s1 = (ringPorts s).foldl (fun (t : State) p => t.modPort p (fun k => { k with tests := 0 }))
      (({ s with sw := { s.sw with missRun := 0 } } : State)) → s2 = { s1 with
        sw := { s1.sw with testSeq := s1.sw.testSeq + 1, ringAt := s1.tb.mono } } →
      exec .ringTestInterval s = .next (s2.sendRing 1)) ∧
  (∀ (s1 s2 : State) (s : State), isRoot s = true → elapsed s s.sw.ringAt (s.p 2 0x16 0 0x0D * 1000) = true →
      ringState s = 1 → (ringPorts s).all (fun p => decide (0 < (s.ports[p]).tests)) = false → 2 ≤ s.sw.missRun →
      s1 = (ringPorts s).foldl (fun (t : State) p => t.modPort p (fun k => { k with tests := 0 })) (s.ringBreak) → s2 =
      { s1 with
        sw := { s1.sw with testSeq := s1.sw.testSeq + 1, ringAt := s1.tb.mono } } →
      exec .ringTestInterval s = .next (s2.sendRing 1)) ∧
  (∀ (s1 s2 : State) (s : State), isRoot s = true → elapsed s s.sw.ringAt (s.p 2 0x16 0 0x0D * 1000) = true →
      ringState s = 1 → (ringPorts s).all (fun p => decide (0 < (s.ports[p]).tests)) = false → s.sw.missRun < 2 →
      s1 = (ringPorts s).foldl (fun (t : State) p => t.modPort p (fun k => { k with tests := 0 }))
      (({ s with sw := { s.sw with missRun := s.sw.missRun + 1 } } : State)) → s2 = { s1 with
        sw := { s1.sw with testSeq := s1.sw.testSeq + 1, ringAt := s1.tb.mono } } →
      exec .ringTestInterval s = .next (s2.sendRing 1)) ∧
  (∀ (s1 s2 : State) (s : State), isRoot s = true → elapsed s s.sw.ringAt (s.p 2 0x16 0 0x0D * 1000) = true →
      ringState s ≠ 1 → (ringPorts s).all (fun p => decide (0 < (s.ports[p]).tests)) = true → 2 ≤ s.sw.goodRun →
      s1 = (ringPorts s).foldl (fun (t : State) p => t.modPort p (fun k => { k with tests := 0 })) (s.ringClose) → s2 =
      { s1 with
        sw := { s1.sw with testSeq := s1.sw.testSeq + 1, ringAt := s1.tb.mono } } →
      exec .ringTestInterval s = .next (s2.sendRing 1)) ∧
  (∀ (s1 s2 : State) (s : State), isRoot s = true → elapsed s s.sw.ringAt (s.p 2 0x16 0 0x0D * 1000) = true →
      ringState s ≠ 1 → (ringPorts s).all (fun p => decide (0 < (s.ports[p]).tests)) = true → s.sw.goodRun < 2 →
      s1 = (ringPorts s).foldl (fun (t : State) p => t.modPort p (fun k => { k with tests := 0 }))
      (({ s with sw := { s.sw with goodRun := s.sw.goodRun + 1 } } : State)) → s2 = { s1 with
        sw := { s1.sw with testSeq := s1.sw.testSeq + 1, ringAt := s1.tb.mono } } →
      exec .ringTestInterval s = .next (s2.sendRing 1)) ∧
  (∀ (s1 s2 : State) (s : State), isRoot s = true → elapsed s s.sw.ringAt (s.p 2 0x16 0 0x0D * 1000) = true →
      ringState s ≠ 1 → (ringPorts s).all (fun p => decide (0 < (s.ports[p]).tests)) = false →
      s1 = (ringPorts s).foldl (fun (t : State) p => t.modPort p (fun k => { k with tests := 0 }))
      (({ s with sw := { s.sw with goodRun := 0 } } : State)) → s2 = { s1 with
        sw := { s1.sw with testSeq := s1.sw.testSeq + 1, ringAt := s1.tb.mono } } →
      exec .ringTestInterval s = .next (s2.sendRing 1)) ∧
  (∀ (s : State), s.delivered.find? (fun d => d.frame.dst == gclRing) = none →
      exec .topologyFrameReceived s = .next s) ∧
  (∀ (d : Delivered) (s1 : State) (s : State), s.delivered.find? (fun d => d.frame.dst == gclRing) = some d →
      otherRing s d.port = none → s1 = { s with delivered := s.delivered.erase d } →
      exec .topologyFrameReceived s = .next s1) ∧
  (∀ (d : Delivered) (o : Fin 3) (s1 s4 : State) (g : GclFrame) (s : State),
      s.delivered.find? (fun d => d.frame.dst == gclRing) = some d → otherRing s d.port = some o →
      s1 = { s with delivered := s.delivered.erase d } → ((parseGcl d).srcNode == nodeAddress s || (isRoot s &&
      ((parseGcl d).kind == 1 || (parseGcl d).kind == 2))) = true → s1.gclReceive d = (s4, some g) →
      exec .topologyFrameReceived s = .next (s4.actTopology g o)) ∧
  (∀ (d : Delivered) (o : Fin 3) (s1 s4 : State) (s : State),
      s.delivered.find? (fun d => d.frame.dst == gclRing) = some d → otherRing s d.port = some o →
      s1 = { s with delivered := s.delivered.erase d } → ((parseGcl d).srcNode == nodeAddress s || (isRoot s &&
      ((parseGcl d).kind == 1 || (parseGcl d).kind == 2))) = true → s1.gclReceive d = (s4, none) →
      exec .topologyFrameReceived s = .next s4) ∧
  (∀ (d : Delivered) (o : Fin 3) (pcp : Fin 8) (vid : BitVec 12) (members untagged : Nat) (s1 s3 s4 : State) (s :
      State), s.delivered.find? (fun d => d.frame.dst == gclRing) = some d → otherRing s d.port = some o →
      s1 = { s with delivered := s.delivered.erase d } → ((parseGcl d).srcNode == nodeAddress s || (isRoot s &&
      ((parseGcl d).kind == 1 || (parseGcl d).kind == 2))) = false → d.frame.tag = some (pcp, vid) →
      vlanOf s vid.toNat = some (members, untagged) → s3 = { s1 with sw := { s1.sw with nextBuf := s1.sw.nextBuf + 1 } }
      → s4 = s3.sendOn o d.frame pcp vid untagged false none s1.sw.nextBuf →
      exec .topologyFrameReceived s = .next (match (s4.gclReceive d).2 with
        | some g => (s4.gclReceive d).1.actTopology g o
        | none => (s4.gclReceive d).1)) ∧
  (∀ (d : Delivered) (o : Fin 3) (pcp : Fin 8) (vid : BitVec 12) (s1 s3 s4 : State) (s : State),
      s.delivered.find? (fun d => d.frame.dst == gclRing) = some d → otherRing s d.port = some o →
      s1 = { s with delivered := s.delivered.erase d } → ((parseGcl d).srcNode == nodeAddress s || (isRoot s &&
      ((parseGcl d).kind == 1 || (parseGcl d).kind == 2))) = false → ((d.frame.tag = some (pcp, vid) ∧
      vlanOf s vid.toNat = none) ∨ (d.frame.tag = none ∧ pcp = 7 ∧ vid = 0)) →
      s3 = { s1 with sw := { s1.sw with nextBuf := s1.sw.nextBuf + 1 } } →
      s4 = s3.sendOn o d.frame pcp vid 0 false none s1.sw.nextBuf →
      exec .topologyFrameReceived s = .next (match (s4.gclReceive d).2 with
        | some g => (s4.gclReceive d).1.actTopology g o
        | none => (s4.gclReceive d).1)) ∧
  (∀ (s : State), swapReady s 2 0 (swapPeriod s / 2) s.red.swapMark = none →
      exec .ringSwapInstant s = .next s) ∧
  (∀ (t : CellTime) (s0 s1 s2 : State) (p o : Fin 3) (s : State),
      swapReady s 2 0 (swapPeriod s / 2) s.red.swapMark = some (t, s0) → isRoot s = true →
      ringState s = 1 → s.red.blocked = some p → otherRing s p = some o →
      s1 = { s0 with red := { s0.red with swapMark := markNow s t } } → s2 = { s1 with
        red := { s1.red with blocked := some o, ringGuard := some (o, s1.tb.mono) } } →
      exec .ringSwapInstant s = .next (((s2.sendRing 3).redCnt 5).lastSwap t 2 0 0)) ∧
  (∀ (t : CellTime) (s0 : State) (s : State), swapReady s 2 0 (swapPeriod s / 2) s.red.swapMark = some (t,
      s0) → (isRoot s = false ∨ ringState s ≠ 1 ∨ s.red.blocked.bind (otherRing s) = none) →
      exec .ringSwapInstant s = .next (({ s0 with red := { s0.red with swapMark := markNow s t } } : State).lastSwap t 2
        0 2)) ∧
  (∀ (s : State), s.red.ringWatch.find? (fun x => elapsed s x.at_ 1000000) = none →
      exec .ringCopyMissing s = .next s) ∧
  (∀ (x : RingMark) (o : Fin 3) (s1 : State) (s : State), s.red.ringWatch.find? (fun x => elapsed s x.at_ 1000000) =
      some x → otherRing s x.port = some o → inRing s = true → s.ports[x.port].up = true → s.ports[o].up = true →
      s1 = { s with red := { s.red with ringWatch := s.red.ringWatch.erase x } } →
      exec .ringCopyMissing s = .next (((s1.redCnt (if (ringPorts s).head? = some o then 9 else 10)).orP 0x18 0 0x17
        16).occur (ident .bbs 21) 8 o)) ∧
  (∀ (x : RingMark) (s : State), s.red.ringWatch.find? (fun x => elapsed s x.at_ 1000000) = some x → (∀ o,
      otherRing s x.port = some o → (inRing s && s.ports[x.port].up && s.ports[o].up) = false) →
      exec .ringCopyMissing s = .next { s with red := { s.red with ringWatch := s.red.ringWatch.erase x } })

/-- GCL frames are checked, and HELLO, NEGOTIATE, CMD, SCHED and SYNC act and are answered. exec answers the next state that
the rules give; without the frame or before the time named, a command changes nothing. The oldest delivered frame outside
the ring address leaves; of another EtherType or failing its checks no more happens than those say; one that passes all is
noted of its member and kept for its receiver; one discarded by the later checks is counted with an occurrence of BBS-17. A
HELLO is counted, and one of an address up to 4095 updates the nodes. HELLO is sent when due or its interval has passed and
a port is up. A node silent for its time-out is marked lost, with BBS-16 where it is listed. A duplicate address that has
been gone for that time ends the conflict. NEGOTIATE of the authority sets version, features and what is missing, joins
where the state lets it and is answered; of others it is only answered. CMD and SCHED frames post their command under the
frame's endpoint; a SCHED without entries for this node only leaves. NOTIFY of an endpoint but 0 is sent for enabled bits
not yet told, and repeated at its interval. A SYNC that is known is compared and counted; a refused one is compared, seen,
counted and answered with its code; another requests its synchronisation and answers the channels, where asked to, or LATE.
Up to 32 waiting fault records go out in a JOURNAL frame with the next sequence number. Spec: 15_cell_link.md: Receiving a
frame; 15_cell_link.md: Node addresses and discovery; 15_cell_link.md: Versions and features; 15_cell_link.md: Commands and
responses; 15_cell_link.md: Schedules and synchronisation across nodes; 15_cell_link.md: Journal frames. -/
def Obligations.GclFramesAreTakenAndAnswered : Prop :=
  (∀ (s : State), s.delivered.find? (fun d => d.frame.dst != gclRing) = none →
      exec .gclFrameReceived s = .next s) ∧
  (∀ (d : Delivered) (s : State), s.delivered.find? (fun d => d.frame.dst != gclRing) = some d →
      d.frame.etype ≠ BitVec.ofNat 16 (s.p 2 0x17 0 0x03) →
      exec .gclFrameReceived s = .next { s with delivered := s.delivered.erase d }) ∧
  (∀ (d : Delivered) (s1 s2 : State) (s : State), s.delivered.find? (fun d => d.frame.dst != gclRing) = some d →
      s1 = { s with delivered := s.delivered.erase d } → d.frame.etype = BitVec.ofNat 16 (s.p 2 0x17 0 0x03) →
      s1.gclReceive d = (s2, none) →
      exec .gclFrameReceived s = .next s2) ∧
  (∀ (d : Delivered) (s1 s2 : State) (f : GclFrame) (s : State),
      s.delivered.find? (fun d => d.frame.dst != gclRing) = some d →
      s1 = { s with delivered := s.delivered.erase d } → d.frame.etype = BitVec.ofNat 16 (s.p 2 0x17 0 0x03) →
      s1.gclReceive d = (s2, some f) → laterVerdict s2 f = .taken →
      exec .gclFrameReceived s = .next { s2.heardMember f with gcl := { (s2.heardMember f).gcl with
        checked := (s2.heardMember f).gcl.checked ++ [f] } }) ∧
  (∀ (d : Delivered) (s1 s2 : State) (f : GclFrame) (s : State),
      s.delivered.find? (fun d => d.frame.dst != gclRing) = some d →
      s1 = { s with delivered := s.delivered.erase d } → d.frame.etype = BitVec.ofNat 16 (s.p 2 0x17 0 0x03) →
      s1.gclReceive d = (s2, some f) → laterVerdict s2 f = .ignored →
      exec .gclFrameReceived s = .next s2) ∧
  (∀ (d : Delivered) (s1 s2 : State) (f : GclFrame) (k : Nat) (s : State),
      s.delivered.find? (fun d => d.frame.dst != gclRing) = some d →
      s1 = { s with delivered := s.delivered.erase d } → d.frame.etype = BitVec.ofNat 16 (s.p 2 0x17 0 0x03) →
      s1.gclReceive d = (s2, some f) → laterVerdict s2 f = .discarded k →
      exec .gclFrameReceived s = .next ((s2.gclDiscard f.port k).occur (ident .bbs 17) 0 0)) ∧
  (∀ (s : State), s.takeFrame 0x01 0 = none →
      exec .helloReceived s = .next s) ∧
  (∀ (f : GclFrame) (s1 : State) (s : State), s.takeFrame 0x01 0 = some (f, s1) → 4095 < f.srcNode →
      exec .helloReceived s = .next (s1.gclCnt 9)) ∧
  (∀ (f : GclFrame) (s1 : State) (s : State), s.takeFrame 0x01 0 = some (f, s1) → f.srcNode ≤ 4095 →
      exec .helloReceived s = .next (((s1.gclCnt 9).hello f).rangerSucceed)) ∧
  (∀ (s1 : State) (s : State), (s.gcl.helloDue || sinceLast s s.gcl.helloAt (s.p 2 0x17 0 0x0B * 1000000)) = true →
      s.ports.toList.any (fun p => p.up) = true → s1 = { s with
        gcl := { s.gcl with helloDue := false, helloAt := some s.tb.mono } } →
      exec .helloSend s = .next ((s1.sendGcl (ownFrame 0x01 0 gclAll 0xFFFE (helloPayload s1))).gclCnt 10)) ∧
  (∀ (s : State), ((s.gcl.helloDue || sinceLast s s.gcl.helloAt (s.p 2 0x17 0 0x0B * 1000000)) = false ∨
      s.ports.toList.any (fun p => p.up) = false) →
      exec .helloSend s = .next s) ∧
  (∀ (n : Nat) (s : State), presentNode s n = none →
      exec (.nodeTimeout n) s = .next s) ∧
  (∀ (n : Nat) (e : NodeEntry) (s : State), presentNode s n = some e → elapsed s e.heard (nodeTimeoutNs s) = false →
      exec (.nodeTimeout n) s = .next s) ∧
  (∀ (n : Nat) (e : NodeEntry) (s1 : State) (s : State), presentNode s n = some e →
      elapsed s e.heard (nodeTimeoutNs s) = true → (s1 = s.setNodes (s.gcl.nodes.map (fun (x : NodeEntry) => if x.addr
      == n then { x with lost := true } else x))) → (listedNodes s).contains n = false →
      exec (.nodeTimeout n) s = .next s1.rangerSucceed) ∧
  (∀ (n : Nat) (e : NodeEntry) (s1 : State) (s : State), presentNode s n = some e →
      elapsed s e.heard (nodeTimeoutNs s) = true → (s1 = s.setNodes (s.gcl.nodes.map (fun (x : NodeEntry) => if x.addr
      == n then { x with lost := true } else x))) → (listedNodes s).contains n = true →
      exec (.nodeTimeout n) s = .next ((s1.orP 0x17 0 0x15 4).raise (ident .bbs 16) 0 0 (BitVec.ofNat 32
        n)).rangerSucceed) ∧
  (∀ (s : State), gclState s = 3 → elapsed s s.gcl.conflictAt (nodeTimeoutNs s) = true →
      exec .duplicateTimeout s = .next (s.setGclState (joinedState s) 0)) ∧
  (∀ (s : State), (gclState s ≠ 3 ∨ elapsed s s.gcl.conflictAt (nodeTimeoutNs s) = false) →
      exec .duplicateTimeout s = .next s) ∧
  (∀ (s : State), s.takeFrame 0x03 1 = none →
      exec .gclNegotiate s = .next s) ∧
  (∀ (f : GclFrame) (s1 : State) (s : State), s.takeFrame 0x03 1 = some (f, s1) → frameAuthority s f = false →
      exec .gclNegotiate s = .next (s1.answerNegotiate f 0xFF)) ∧
  (∀ (f : GclFrame) (s1 s2 : State) (v required missing : Nat) (s : State), s.takeFrame 0x03 1 = some (f,
      s1) → frameAuthority s f = true → v = chooseVersion (beAt f.payload 0 1) →
      required = beAt f.payload 4 4 → (missing = if beAt f.payload 0 1 < 0x20 then required else required &&&
      (0xFFFFFFFF ^^^ featuresAt v)) → s2 = (((s1.setP 1 0x17 0 0x06 v).setP 4 0x17 0 0x08 required).setP 4 0x17 0 0x09
      missing).setBytes 0x17 0 0x16 0 (leBytes 2 f.srcNode ++ leBytes 1 f.masterId ++ leBytes 1 v ++ leBytes 4 required
      ++ leBytes 4 missing ++ leBytes 4 (ctNs (now s))) → (gclState s = 1 ∨ gclState s = 2) →
      exec .gclNegotiate s = .next ((s2.setGclState (joinedState s2) 0).answerNegotiate f (gclState (s2.setGclState
        (joinedState s2) 0)))) ∧
  (∀ (f : GclFrame) (s1 s2 : State) (v required missing : Nat) (s : State), s.takeFrame 0x03 1 = some (f,
      s1) → frameAuthority s f = true → v = chooseVersion (beAt f.payload 0 1) →
      required = beAt f.payload 4 4 → (missing = if beAt f.payload 0 1 < 0x20 then required else required &&&
      (0xFFFFFFFF ^^^ featuresAt v)) → s2 = (((s1.setP 1 0x17 0 0x06 v).setP 4 0x17 0 0x08 required).setP 4 0x17 0 0x09
      missing).setBytes 0x17 0 0x16 0 (leBytes 2 f.srcNode ++ leBytes 1 f.masterId ++ leBytes 1 v ++ leBytes 4 required
      ++ leBytes 4 missing ++ leBytes 4 (ctNs (now s))) → gclState s ≠ 1 → gclState s ≠ 2 →
      exec .gclNegotiate s = .next (s2.answerNegotiate f (gclState s2))) ∧
  (∀ (s : State), s.adoptDue.takeFrame 0x10 0 = none →
      exec .cmdFrame s = .next s.adoptDue) ∧
  (∀ (f : GclFrame) (s1 : State) (s : State), s.adoptDue.takeFrame 0x10 0 = some (f, s1) →
      exec .cmdFrame s = .next (s1.postFrame (masterFin f.masterId) f f.payload)) ∧
  (∀ (s : State), s.adoptDue.takeFrame 0x30 0 = none →
      exec .schedFrame s = .next s.adoptDue) ∧
  (∀ (f : GclFrame) (s1 : State) (s : State), s.adoptDue.takeFrame 0x30 0 = some (f, s1) →
      (schedEntries s f).isEmpty = true →
      exec .schedFrame s = .next s1) ∧
  (∀ (f : GclFrame) (s1 : State) (body : List Byte) (s : State), s.adoptDue.takeFrame 0x30 0 = some (f,
      s1) → (schedEntries s f).isEmpty = false → body = ([BitVec.ofNat 8 (schedEntries s f).length, 0, 0,
      0] ++ (schedEntries s f).flatten).take 1016 →
      exec .schedFrame s = .next (s1.postFrame (masterFin f.masterId) f (leBytes 2 0x0030 ++ [0,
        0] ++ leBytes 2 body.length ++ [0, 0] ++ body))) ∧
  (∀ (ep : Fin 8) (s : State), ep ≠ 0 → enabledBits s ep &&& ~~~(s.gcl.notify[ep]).bits ≠ 0 →
      exec (.notify ep) s = .next (s.sendNotify ep)) ∧
  (∀ (ep : Fin 8) (s : State), (ep = 0 ∨ enabledBits s ep &&& ~~~(s.gcl.notify[ep]).bits = 0) →
      exec (.notify ep) s = .next s) ∧
  (∀ (ep : Fin 8) (s : State), ep ≠ 0 → s.p 2 0x17 0 0x12 ≠ 0 → enabledBits s ep ≠ 0 →
      elapsed s (s.gcl.notify[ep]).at_ (s.p 2 0x17 0 0x12 * 1000000) = true →
      exec (.notifyRepeat ep) s = .next (s.sendNotify ep)) ∧
  (∀ (ep : Fin 8) (s : State), (ep = 0 ∨ s.p 2 0x17 0 0x12 = 0 ∨ enabledBits s ep = 0 ∨
      elapsed s (s.gcl.notify[ep]).at_ (s.p 2 0x17 0 0x12 * 1000000) = false) →
      exec (.notifyRepeat ep) s = .next s) ∧
  (∀ (s : State), s.adoptDue.takeFrame 0x40 1 = none →
      exec .syncRequest s = .next s.adoptDue) ∧
  (∀ (f : GclFrame) (s1 : State) (s : State), s.adoptDue.takeFrame 0x40 1 = some (f, s1) → syncKnown s f = true →
      exec .syncRequest s = .next ((s1.compareSync f).gclCnt 7)) ∧
  (∀ (f : GclFrame) (s1 : State) (code : BitVec 16) (s : State), s.adoptDue.takeFrame 0x40 1 = some (f, s1) →
      syncKnown s f = false → syncRefusal s1 f = some code →
      exec .syncRequest s = .next ((((s1.compareSync f).seeSync f).gclCnt 14).sendSyncResult f code 0 0)) ∧
  (∀ (f : GclFrame) (s1 : State) (t : CellTime) (ok : Bool) (s2 : State) (s : State),
      s.adoptDue.takeFrame 0x40 1 = some (f, s1) → syncKnown s f = false → syncRefusal s1 f = none →
      t = ctMk (beAt f.payload 0 8) (beAt f.payload 8 1) → (ok,
      s2) = ((s1.compareSync f).seeSync f).requestSync (syncChannels s) t 1 →
      exec .syncRequest s = .next (if ok = false then (s2.gclCnt 14).sendSyncResult f rcLate 0 (syncActual t)
        else if natBit f.flags 0 = true then s2.sendSyncResult f 0 (channelMask (syncChannels s)) (syncActual t)
        else s2)) ∧
  (∀ (s : State), s.gcl.journalQ = [] →
      exec .journalFrameSend s = .next s) ∧
  (∀ (s1 : State) (s : State), (s.gcl.journalQ.take 32).isEmpty = false →
      (s1 = ((s.sendGcl (ownFrame 0x60 0 gclMasters 0xFFFE (beBytes 1 (s.gcl.journalQ.take 32).length ++ [if
      s.gcl.journalLostFlag then 1 else 0, 0, 0] ++ beBytes 4 s.gcl.journalSeq.toNat ++ ((s.gcl.journalQ.take 32).map
      faultBytes).flatten))).gclCnt 12).setP 4 0x17 0 0x13 s.gcl.journalSeq.toNat) →
      exec .journalFrameSend s = .next { s1 with gcl := { s1.gcl with
        journalQ := s.gcl.journalQ.drop 32, journalLostFlag := false, journalSeq := s.gcl.journalSeq + 1 } })

/-- Epochs are adopted, pairs hold, take over and swap, and the Ranger issues epochs. exec answers the next state that the
rules give; without the frame, or where what it waits for has not come, a command changes nothing. An EPOCH frame of a
master up to 6 is taken and adopted if due, of another dropped. A pending epoch is adopted at its instant, after the pair
swaps due. A SWAP frame of a pair up to 6 or of the ring is noted, another dropped. A QUERY makes the Ranger that holds the
role, with no issued epoch waiting, issue the next one. A REPORT of a lower epoch than the issued one has it sent again. A
copy alone for PAIR_WAIT is released and marked; in the running state it is counted, with its DIAG bit and the pair's fault.
The other member takes over with BBS-23 where the active one is silent and it is not. A held pair's query is repeated at its
interval where a Ranger is set, and raises BBS-19 once after its time-out. PAIR_READMIT is NOT_AUTHORITY without the right,
OUT_OF_RANGE above 6, and readmits a pair that is one. The Ranger that has listened for the node time-out takes the role and
issues the epoch after the highest heard; it repeats its epoch each second; one that stood down and heard no other for the
time-out ends BBS-22 and listens again. A pair swap that is due is noted and first does the takeover due; in the running
state, where that changed nothing, both members were heard within 1 s and no copy was missing, the active member changes and
the swap is counted, and otherwise it is refused, counted and raised; in other states nothing more happens. Spec:
16_redundancy.md: Master pairs; 16_redundancy.md: Active member and liveness; 16_redundancy.md: Disagreement;
16_redundancy.md: Authority epochs; 16_redundancy.md: Hosting the Ranger; 16_redundancy.md: Role swaps; 15_cell_link.md:
Arbitration frames. -/
def Obligations.AuthorityAndPairsChangeHands : Prop :=
  (∀ (s : State), s.takeFrame 0x50 1 = none →
      exec .arbEpoch s = .next s) ∧
  (∀ (f : GclFrame) (s1 : State) (s : State), s.takeFrame 0x50 1 = some (f, s1) → 6 < beAt f.payload 4 1 →
      exec .arbEpoch s = .next s1) ∧
  (∀ (f : GclFrame) (s1 : State) (s : State), s.takeFrame 0x50 1 = some (f, s1) → beAt f.payload 4 1 ≤ 6 →
      exec .arbEpoch s = .next ((s1.takeEpoch (BitVec.ofNat 32 (beAt f.payload 0 4)) (beAt f.payload 4 1) (ctMk (beAt
        f.payload 8 8) (beAt f.payload 16 1))).adoptDue)) ∧
  (∀ (s : State), s.gcl.pendingEpoch = none →
      exec .epochEffective s = .next s) ∧
  (∀ (e : Word) (m : Nat) (t : CellTime) (s : State), s.gcl.pendingEpoch = some (e, m, t) → (t = 0 ∨
      reached t (now s) = true) →
      exec .epochEffective s = .next (s.pairSwaps.adoptEpoch e m)) ∧
  (∀ (e : Word) (m : Nat) (t : CellTime) (s : State), s.gcl.pendingEpoch = some (e, m, t) → t ≠ 0 →
      reached t (now s) = false →
      exec .epochEffective s = .next s) ∧
  (∀ (s : State), s.takeFrame 0x50 3 = none →
      exec .arbSwap s = .next s) ∧
  (∀ (f : GclFrame) (s1 : State) (s : State), s.takeFrame 0x50 3 = some (f, s1) → beAt f.payload 0 1 = 1 →
      beAt f.payload 1 1 ≤ 6 →
      exec .arbSwap s = .next { s1 with
          red := { s1.red with
              swaps := s1.red.swaps ++ [(1, beAt f.payload 1 1, ctMk (beAt f.payload 4 8) (beAt f.payload 12 1))] } }) ∧
  (∀ (f : GclFrame) (s1 : State) (s : State), s.takeFrame 0x50 3 = some (f, s1) → beAt f.payload 0 1 = 2 →
      exec .arbSwap s = .next { s1 with
          red := { s1.red with swaps := s1.red.swaps ++ [(2, 0, ctMk (beAt f.payload 4 8) (beAt f.payload 12 1))] } }) ∧
  (∀ (f : GclFrame) (s1 : State) (s : State), s.takeFrame 0x50 3 = some (f, s1) → beAt f.payload 0 1 ≠ 2 →
      (beAt f.payload 0 1 ≠ 1 ∨ 6 < beAt f.payload 1 1) →
      exec .arbSwap s = .next s1) ∧
  (∀ (s : State), s.takeFrame 0x50 2 = none →
      exec .arbQuery s = .next s) ∧
  (∀ (f : GclFrame) (s1 : State) (s : State), s.takeFrame 0x50 2 = some (f, s1) →
      (rangerState s1 ≠ 2 ∨ s1.red.issued.any (fun (x : Word × Nat × CellTime) => !reached x.2.2 (now s1)) = true) →
      exec .arbQuery s = .next s1) ∧
  (∀ (f : GclFrame) (s1 : State) (s : State), s.takeFrame 0x50 2 = some (f, s1) →
      rangerState s1 = 2 → s1.red.issued.any (fun (x : Word × Nat × CellTime) => !reached x.2.2 (now s1)) = false →
      exec .arbQuery s = .next (s1.issueEpoch ((rangerEpoch s1).1 + 1) (rangerEpoch s1).2)) ∧
  (∀ (s : State), s.takeFrame 0x50 4 = none →
      exec .arbReport s = .next s) ∧
  (∀ (f : GclFrame) (s1 : State) (s : State), s.takeFrame 0x50 4 = some (f, s1) → (rangerState s ≠ 2 ∨
      s.red.issued = none) →
      exec .arbReport s = .next s1) ∧
  (∀ (f : GclFrame) (s1 : State) (e : Word) (m : Nat) (t : CellTime) (s : State), s.takeFrame 0x50 4 = some (f,
      s1) → s.red.issued = some (e, m, t) → e.toNat ≤ beAt f.payload 0 4 →
      exec .arbReport s = .next s1) ∧
  (∀ (f : GclFrame) (s1 : State) (e : Word) (m : Nat) (t : CellTime) (s : State), s.takeFrame 0x50 4 = some (f,
      s1) → s.red.issued = some (e, m, t) → rangerState s = 2 → beAt f.payload 0 4 < e.toNat →
      exec .arbReport s = .next (s1.sendEpoch e m t)) ∧
  (∀ (m : Fin 7) (s : State), (s.red.pairs[m]).copies.find? (fun c => !c.both && !c.missing && elapsed s c.at_ (s.p 2
      0x18 0 0x02 * 1000)) = none →
      exec (.pairWaitExpiry m) s = .next s) ∧
  (∀ (m : Fin 7) (c : PairCopy) (s1 : State) (s : State), (s.red.pairs[m]).copies.find? (fun c => !c.both && !c.missing
      && elapsed s c.at_ (s.p 2 0x18 0 0x02 * 1000)) = some c → pairState s m = 1 → (s1 = (s.modPair m (fun p =>
      { p with
        copies := p.copies.map (fun (x : PairCopy) => if x.seq == c.seq then { x with missing := true } else x)
          })).modPair m (fun p => { p with lastMissing := some s.tb.mono })) →
      exec (.pairWaitExpiry m) s = .next ((((s1.redCnt 4).orP 0x18 0 0x17 2).raisePair m (1 - c.member)).releaseFirst m
        c.tag)) ∧
  (∀ (m : Fin 7) (c : PairCopy) (s : State), (s.red.pairs[m]).copies.find? (fun c => !c.both && !c.missing && elapsed s
      c.at_ (s.p 2 0x18 0 0x02 * 1000)) = some c → pairState s m ≠ 1 →
      exec (.pairWaitExpiry m) s = .next ((s.modPair m (fun p => { p with
        copies := p.copies.map (fun (x : PairCopy) => if x.seq == c.seq then { x with missing := true } else x)
          })).releaseFirst m c.tag)) ∧
  (∀ (m : Fin 7) (a : Nat) (s : State), (pairState s m = 1 ∨ pairState s m = 2) → a = activeMember s m →
      memberHeard s m a (s.p 2 0x18 0 0x0F * 1000000) = false →
      memberHeard s m (1 - a) (s.p 2 0x18 0 0x0F * 1000000) = true →
      exec (.takeover m) s = .next ((((s.setPAt 1 0x18 0 0x04 m.val (1 - a)).redCnt 11).orP 0x18 0 0x17 8).raise (ident
        .bbs 23) 0 0
        (BitVec.ofNat 32 m.val))) ∧
  (∀ (m : Fin 7) (s : State), (¬ ((pairState s m = 1 ∨ pairState s m = 2) ∧
      memberHeard s m (activeMember s m) (s.p 2 0x18 0 0x0F * 1000000) = false ∧
      memberHeard s m (1 - activeMember s m) (s.p 2 0x18 0 0x0F * 1000000) = true)) →
      exec (.takeover m) s = .next s) ∧
  (∀ (m : Fin 7) (s : State), pairState s m = 2 → s.p 2 0x18 0 0x08 ≠ 0xFFFF →
      (s.red.pairs[m]).querySent.all (fun t => elapsed s t (s.p 2 0x18 0 0x0E * 1000000)) = true →
      exec (.queryRepeat m) s = .next (s.sendQuery m)) ∧
  (∀ (m : Fin 7) (s : State), (pairState s m ≠ 2 ∨ s.p 2 0x18 0 0x08 = 0xFFFF ∨
      (s.red.pairs[m]).querySent.all (fun t => elapsed s t (s.p 2 0x18 0 0x0E * 1000000)) = false) →
      exec (.queryRepeat m) s = .next s) ∧
  (∀ (m : Fin 7) (s : State), pairState s m = 2 → (s.red.pairs[m]).arbRaised = false →
      elapsed s (s.red.pairs[m]).heldAt (s.p 2 0x18 0 0x0D * 1000000) = true →
      exec (.arbTimeout m) s = .next ((s.modPair m (fun k => { k with arbRaised := true })).raise (ident .bbs 19) 0 0
        (BitVec.ofNat 32 m.val))) ∧
  (∀ (m : Fin 7) (s : State), (pairState s m ≠ 2 ∨ (s.red.pairs[m]).arbRaised = true ∨
      elapsed s (s.red.pairs[m]).heldAt (s.p 2 0x18 0 0x0D * 1000000) = false) →
      exec (.arbTimeout m) s = .next s) ∧
  (∀ (q : Req) (m : Nat) (s : State), mayConfigure s q.ep = false →
      exec (.pairReadmit q m) s = .next (s.finish q opSetParam rcNotAuthority [])) ∧
  (∀ (q : Req) (m : Nat) (s : State), mayConfigure s q.ep = true → m ≤ 6 → isPair s (masterFin m) = true →
      exec (.pairReadmit q m) s = .next (State.finish (s.leaveHeld (masterFin m) 1) q opSetParam 0 ([]))) ∧
  (∀ (q : Req) (m : Nat) (s : State), mayConfigure s q.ep = true → m ≤ 6 → isPair s (masterFin m) = false →
      exec (.pairReadmit q m) s = .next (State.finish (s) q opSetParam 0 ([]))) ∧
  (∀ (q : Req) (m : Nat) (s : State), mayConfigure s q.ep = true → 6 < m →
      exec (.pairReadmit q m) s = .next (State.finish (s) q opSetParam rcOutOfRange ([]))) ∧
  (∀ (e : Word) (m : Nat) (s : State), rangerState s = 1 →
      elapsed s s.red.rangerSince (nodeTimeoutNs s) = true → heardEpoch s = (e, m) →
      exec .rangerListenTimeout s = .next (((s.setP 1 0x18 0 0x13 2).issueEpoch (e + 1) (if e = 0 then s.p 1 0x18 0 0x06
        else m)).rangerSucceed)) ∧
  (∀ (s : State), (rangerState s ≠ 1 ∨ elapsed s s.red.rangerSince (nodeTimeoutNs s) = false) →
      exec .rangerListenTimeout s = .next s) ∧
  (∀ (s : State), s.red.issued = none →
      exec .rangerEpochRepeat s = .next s) ∧
  (∀ (e : Word) (m : Nat) (t : CellTime) (s : State), s.red.issued = some (e, m, t) → rangerState s = 2 →
      elapsed s s.red.lastRepeat 1000000000 = true →
      exec .rangerEpochRepeat s = .next (s.sendEpoch e m t)) ∧
  (∀ (e : Word) (m : Nat) (t : CellTime) (s : State), s.red.issued = some (e, m, t) → (rangerState s ≠ 2 ∨
      elapsed s s.red.lastRepeat 1000000000 = false) →
      exec .rangerEpochRepeat s = .next s) ∧
  (∀ (s1 : State) (s : State), rangerState s = 3 → elapsed s s.red.rangerHeard (nodeTimeoutNs s) = true →
      s1 = (s.setP 1 0x18 0 0x13 1).endFault (ident .bbs 22) 0 0 →
      exec .rangerStandDownTimeout s = .next { s1 with red := { s1.red with rangerSince := s1.tb.mono } }) ∧
  (∀ (s : State), (rangerState s ≠ 3 ∨ elapsed s s.red.rangerHeard (nodeTimeoutNs s) = false) →
      exec .rangerStandDownTimeout s = .next s) ∧
  (∀ (m : Fin 7) (s : State), swapReady s 1 m.val 0 (s.red.pairs[m]).swapMark = none →
      exec (.pairSwapInstant m) s = .next s) ∧
  (∀ (m : Fin 7) (t : CellTime) (s0 s1 : State) (s : State),
      swapReady s 1 m.val 0 (s.red.pairs[m]).swapMark = some (t, s0) →
      s1 = (s0.modPair m (fun p => { p with swapMark := markNow s t })).takeover m → pairState s m ≠ 1 →
      exec (.pairSwapInstant m) s = .next s1) ∧
  (∀ (m : Fin 7) (t : CellTime) (s0 s1 : State) (s : State),
      swapReady s 1 m.val 0 (s.red.pairs[m]).swapMark = some (t, s0) →
      s1 = (s0.modPair m (fun p => { p with swapMark := markNow s t })).takeover m → pairState s m = 1 →
      (activeMember s1 m == activeMember s m && memberHeard s m 0 1000000000 && memberHeard s m 1 1000000000 &&
      !(s.red.pairs[m]).lastMissing.any (fun x => !elapsed s x 1000000000)) = true →
      exec (.pairSwapInstant m) s = .next (((s1.setPAt 1 0x18 0 0x04 m.val (1 - activeMember s m)).redCnt 5).lastSwap t
        1 m.val 0)) ∧
  (∀ (m : Fin 7) (t : CellTime) (s0 s1 : State) (s : State),
      swapReady s 1 m.val 0 (s.red.pairs[m]).swapMark = some (t, s0) →
      s1 = (s0.modPair m (fun p => { p with swapMark := markNow s t })).takeover m → pairState s m = 1 →
      (activeMember s1 m == activeMember s m && memberHeard s m 0 1000000000 && memberHeard s m 1 1000000000 &&
      !(s.red.pairs[m]).lastMissing.any (fun x => !elapsed s x 1000000000)) = false →
      exec (.pairSwapInstant m) s = .next ((((s1.redCnt 6).orP 0x18 0 0x17 4).raisePair m (1 - activeMember s
        m)).lastSwap t 1 m.val 1))
end

