-- ==== Sys2Proof/Laws/Store.lean ====
section
/-! SUPPORT. The laws of the byte stores: a write keeps the canonical form, is read back, and leaves every other address alone;
and the laws of the little-endian byte strings of R8. -/

namespace Sys2Proof.Machine

variable {d : Nat → Byte}

theorem cellsAbove_trans {a b : Nat} (h : a ≤ b) : ∀ {m : Store}, cellsAbove b m = true → cellsAbove a m = true
  | [], _ => rfl
  | (k, v) :: t, hm => by
    simp only [cellsAbove, Bool.and_eq_true, decide_eq_true_eq] at hm ⊢
    exact ⟨by omega, cellsAbove_trans h hm.2⟩

theorem cellsAbove_iff {a : Nat} : ∀ {m : Store}, cellsAbove a m = true ↔ ∀ c ∈ m, a < c.1
  | [] => by simp [cellsAbove]
  | (k, v) :: t => by simp [cellsAbove, cellsAbove_iff (m := t)]

theorem cellsAbove_write {a k : Nat} {v : Byte} (hk : a < k) :
    ∀ {m : Store}, cellsAbove a m = true → cellsAbove a (cellsWrite d m k v) = true
  | [], _ => by
    simp only [cellsWrite]; split <;> simp [cellsAbove, hk]
  | (j, w) :: t, hm => by
    simp only [cellsAbove, Bool.and_eq_true, decide_eq_true_eq] at hm
    simp only [cellsWrite]
    split
    · split <;> simp [cellsAbove, hk, hm.1, hm.2]
    · split
      · split
        · exact hm.2
        · simp [cellsAbove, hk, hm.2]
      · simp [cellsAbove, hm.1, cellsAbove_write hk hm.2]

/-- A write keeps the canonical form. -/
theorem cellsWf_write {a : Nat} {v : Byte} : ∀ {m : Store}, cellsWf d m = true → cellsWf d (cellsWrite d m a v) = true
  | [], _ => by
    simp only [cellsWrite]; split <;> simp_all [cellsWf, cellsAbove]
  | (k, w) :: t, hm => by
    simp only [cellsWf, Bool.and_eq_true, decide_eq_true_eq] at hm
    obtain ⟨⟨hw, hk⟩, ht⟩ := hm
    simp only [cellsWrite]
    split
    · rename_i hlt
      split
      · simp [cellsWf, hw, hk, ht]
      · rename_i hv
        simp [cellsWf, hw, hk, ht, hv, cellsAbove, hlt, cellsAbove_trans (Nat.le_of_lt hlt) hk]
    · split
      · rename_i he
        split
        · exact ht
        · rename_i hv; subst he; simp [cellsWf, hv, hk, ht]
      · have : k < a := by omega
        simp [cellsWf, hw, cellsAbove_write this hk, cellsWf_write ht]

/-- Below its first address a store reads as unlisted. -/
theorem cellsRead_above {a : Nat} : ∀ {m : Store}, cellsAbove a m = true → cellsRead d m a = d a
  | [], _ => rfl
  | (k, v) :: t, hm => by
    simp only [cellsAbove, Bool.and_eq_true, decide_eq_true_eq] at hm
    simp [cellsRead, hm.1]

/-- The byte written is read back. -/
theorem cellsRead_write_same {a : Nat} {v : Byte} :
    ∀ {m : Store}, cellsWf d m = true → cellsRead d (cellsWrite d m a v) a = v
  | [], _ => by
    simp only [cellsWrite]; split <;> simp_all [cellsRead]
  | (k, w) :: t, hm => by
    simp only [cellsWf, Bool.and_eq_true, decide_eq_true_eq] at hm
    simp only [cellsWrite]
    split
    · rename_i hlt
      split
      · rename_i hv; simp [cellsRead, hlt, hv]
      · simp [cellsRead]
    · split
      · rename_i he
        split
        · rename_i hv; rw [hv, he]; rw [he] at *; exact cellsRead_above hm.1.2
        · simp [cellsRead]
      · rename_i h1 h2
        simp [cellsRead, h1, h2, cellsRead_write_same hm.2]

/-- A write leaves every other address alone. -/
theorem cellsRead_write_ne {a b : Nat} {v : Byte} (hab : b ≠ a) :
    ∀ {m : Store}, cellsWf d m = true → cellsRead d (cellsWrite d m a v) b = cellsRead d m b
  | [], _ => by
    simp only [cellsWrite]; split
    · rfl
    · simp only [cellsRead]; split
      · rfl
      · simp [hab]
  | (k, w) :: t, hm => by
    simp only [cellsWf, Bool.and_eq_true, decide_eq_true_eq] at hm
    simp only [cellsWrite]
    split
    · rename_i hlt
      split
      · rfl
      · simp only [cellsRead, hab, if_false]
        split
        · rw [if_pos (by omega)]
        · rfl
    · split
      · rename_i he
        split
        · subst he; simp only [cellsRead]
          by_cases h : b < a
          · simp [h, cellsRead_above (cellsAbove_trans (Nat.le_of_lt h) hm.1.2)]
          · simp [h]
            omega
        · subst he; simp [cellsRead, hab]
      · simp [cellsRead, cellsRead_write_ne hab hm.2]

/-- The empty store is canonical. -/
theorem cellsWf_nil : cellsWf d [] = true := rfl

/-- Writing a byte string keeps the canonical form. -/
theorem cellsWf_writeL : ∀ {l : List Byte} {m : Store} {a : Nat},
    cellsWf d m = true → cellsWf d (cellsWriteL d m a l) = true
  | [], _, _, h => h
  | _ :: _, _, _, h => by rw [cellsWriteL]; exact cellsWf_writeL (cellsWf_write h)

/-- Writing bytes one by one keeps the canonical form. -/
theorem cellsWf_foldl {α : Type} {k : α → Nat} {v : α → Byte} : ∀ {l : List α} {m : Store},
    cellsWf d m = true → cellsWf d (l.foldl (fun m c => cellsWrite d m (k c) (v c)) m) = true
  | [], _, h => h
  | _ :: _, _, h => by rw [List.foldl_cons]; exact cellsWf_foldl (cellsWf_write h)

/-- Leaving entries out keeps the canonical form. -/
theorem cellsWf_filter {p : Host.Cell → Bool} : ∀ {m : Store}, cellsWf d m = true → cellsWf d (m.filter p) = true
  | [], _ => rfl
  | (k, w) :: t, hm => by
    simp only [cellsWf, Bool.and_eq_true, decide_eq_true_eq] at hm
    simp only [List.filter]
    split
    · have : cellsAbove k (t.filter p) = true := by
        rw [cellsAbove_iff] at *
        exact fun c hc => hm.1.2 c (List.mem_filter.1 hc).1
      simp [cellsWf, hm.1.1, this, cellsWf_filter hm.2]
    · exact cellsWf_filter hm.2

/-- A byte string written leaves every address outside it alone. -/
theorem cellsRead_writeL_out : ∀ {l : List Byte} {m : Store} {a b : Nat}, cellsWf d m = true →
    (b < a ∨ a + l.length ≤ b) → cellsRead d (cellsWriteL d m a l) b = cellsRead d m b
  | [], _, _, _, _, _ => rfl
  | x :: t, m, a, b, h, ho => by
    simp only [List.length_cons] at ho
    rw [cellsWriteL, cellsRead_writeL_out (cellsWf_write h) (by omega), cellsRead_write_ne (by omega) h]

/-- A byte string written is read back byte by byte. -/
theorem cellsRead_writeL_in : ∀ {l : List Byte} {m : Store} {a i : Nat} (hi : i < l.length), cellsWf d m = true →
    cellsRead d (cellsWriteL d m a l) (a + i) = l[i]
  | x :: t, m, a, 0, _, h => by
    rw [cellsWriteL, cellsRead_writeL_out (cellsWf_write h) (by omega)]
    exact cellsRead_write_same h
  | x :: t, m, a, i + 1, hi, h => by
    rw [cellsWriteL, show a + (i + 1) = (a + 1) + i by omega,
      cellsRead_writeL_in (by simpa using hi) (cellsWf_write h)]
    rfl

/-- A byte string written is read back whole. -/
theorem cellsReadN_writeL : ∀ {l : List Byte} {m : Store} {a : Nat}, cellsWf d m = true →
    cellsReadN d (cellsWriteL d m a l) a l.length = l
  | [], _, _, _ => rfl
  | x :: t, m, a, h => by
    simp only [List.length_cons, cellsReadN]
    have h1 := cellsRead_writeL_in (l := x :: t) (a := a) (i := 0) (by simp) h
    have h2 := cellsReadN_writeL (l := t) (a := a + 1) (cellsWf_write (a := a) (v := x) h)
    simp only [Nat.add_zero, List.getElem_cons_zero] at h1
    rw [h1]
    simp only [cellsWriteL]
    rw [h2]

/-- Reading outside a byte string written gives what it gave before. -/
theorem cellsReadN_writeL_out {l : List Byte} : ∀ {n b : Nat} {m : Store} {a : Nat}, cellsWf d m = true →
    (b + n ≤ a ∨ a + l.length ≤ b) → cellsReadN d (cellsWriteL d m a l) b n = cellsReadN d m b n
  | 0, _, _, _, _, _ => rfl
  | n + 1, b, m, a, h, ho => by
    simp only [cellsReadN]
    rw [cellsRead_writeL_out h (by omega), cellsReadN_writeL_out h (by omega)]

@[simp] theorem leBytes_length : ∀ n v, (leBytes n v).length = n
  | 0, _ => rfl
  | n + 1, v => by simp [leBytes, leBytes_length n]

/-- The little-endian bytes of a number stand for it, modulo 256^n. -/
theorem leNat_leBytes : ∀ n v, leNat (leBytes n v) = v % 256 ^ n
  | 0, v => by simp [leBytes, leNat, Nat.mod_one]
  | n + 1, v => by
    rw [leBytes, leNat, leNat_leBytes n, Nat.pow_succ, Nat.mul_comm (256 ^ n), Nat.mod_mul]
    simp [BitVec.toNat_ofNat]

@[simp] theorem cellsReadN_length (m : Store) : ∀ n a, (cellsReadN d m a n).length = n
  | 0, _ => rfl
  | n + 1, a => by simp [cellsReadN, cellsReadN_length m n]

end Sys2Proof.Machine
end

