-- ==== Sys2Proof/Laws/Cells.lean ====
section
/-! SUPPORT. A cell of a bank link that no noise meets is good, whatever it carries. -/

namespace Sys2Proof.Machine

theorem body_good (body : List Byte) (c : Word) (hc : crc32 body = c) (hl : body.length = 60)
    (h0 : (body.getD 0 0).toNat < 0xE0) (h2 : (body.getD 2 0).toNat % 64 ≤ 56) :
    cellCheck (body ++ leBytes 4 c.toNat) [] = .good := by
  have h4 : BitVec.ofNat 32 (leNat (leBytes 4 c.toNat)) = c := by
    apply BitVec.eq_of_toNat_eq
    rw [leNat_leBytes, BitVec.toNat_ofNat]
    have := c.isLt
    omega
  have e : ∀ i, i < 60 → (body ++ leBytes 4 c.toNat).getD i 0 = body.getD i 0 := by
    intro i hi
    simp only [List.getD_eq_getElem?_getD]
    rw [List.getElem?_append_left (by omega)]
  have n0 : ¬ 0xE0 ≤ (body.getD 0 0).toNat := by omega
  have n2 : ¬ 56 < (body.getD 2 0).toNat % 64 := by omega
  simp only [cellCheck, received, List.foldl_nil, List.take_left' hl, List.drop_left' hl, hc, h4, e 0 (by omega), e 2 (by omega),
    ne_eq, not_true_eq_false, if_false, n0, n2]

theorem cellBytes_good (typ sub : Nat) (seq : BitVec 8) (express again : Bool) (ack : BitVec 8) (p : List Byte) (h : typ < 14) :
    cellCheck (cellBytes typ sub seq express again ack p) [] = .good := by
  have hp : (p.take 56).length ≤ 56 := by simp
  simp only [cellBytes]
  apply body_good _ _ rfl
  · simp
  · simp
    omega
  · simp only [List.cons_append, List.getD_cons_succ, List.getD_cons_zero, BitVec.toNat_ofNat]
    split <;> split <;> omega

/-- A cell that arrives with a reserved TYPE is not good. -/
theorem cellCheck_reserved (l : List Byte) (hit : Noise) (h : 0xE0 ≤ ((received l hit).getD 0 0).toNat) :
    cellCheck l hit ≠ .good := by
  simp only [cellCheck, h, if_true]
  split <;> simp

/-- The TYPE of a cell to a bank is one of R22's. -/
theorem downCode_typ (c : DownCell) : (downCode c).1 < 14 := by cases c <;> simp [downCode]

/-- The TYPE of a cell from a bank is one of R22's. -/
theorem upCode_typ (c : UpCell) : (upCode c).1 < 14 := by cases c <;> simp [upCode]

theorem downBytes_good (d : LinkDir DownCell SyncCell) : cellCheck (downBytes d) [] = .good := by
  unfold downBytes
  split
  · exact cellBytes_good _ _ _ _ _ _ _ (by decide)
  · exact cellBytes_good _ _ _ _ _ _ _ (by decide)
  · exact cellBytes_good _ _ _ _ _ _ _ (downCode_typ _)
  · exact cellBytes_good _ _ _ _ _ _ _ (downCode_typ _)

theorem upBytes_good (d : LinkDir UpCell StatusCell) : cellCheck (upBytes d) [] = .good := by
  unfold upBytes
  split
  · exact cellBytes_good _ _ _ _ _ _ _ (by decide)
  · exact cellBytes_good _ _ _ _ _ _ _ (by decide)
  · exact cellBytes_good _ _ _ _ _ _ _ (upCode_typ _)
  · exact cellBytes_good _ _ _ _ _ _ _ (upCode_typ _)

end Sys2Proof.Machine
end

