-- ==== Sys2Proof/Laws/Keeps.lean ====
section
/-! SUPPORT. The queue and the invariant under one operation: what it is to keep them, the rules by which the lemma of an
      operation
follows from those of the operations it calls, and the operations that write a store or a bounded list. -/

namespace Sys2Proof.Machine

set_option Elab.async false

/-- Whether a value is the same, or its part of the state (a bit of `W`) may change. -/
def Same {α : Type} (W i : Nat) (a b : α) : Prop := W.testBit i = true ∨ b = a

theorem sameRfl {α : Type} {W i : Nat} {a : α} : Same W i a a := Or.inr rfl

theorem Same.trans {α : Type} {W i : Nat} {a b c : α} (h : Same W i a b) (k : Same W i b c) : Same W i a c := by
  rcases h with h | h
  · exact Or.inl h
  · subst h; exact k

/-- Every part of `A` is a part of `W`. -/
def Sub (A W : Nat) : Prop := ∀ i, A.testBit i = true → W.testBit i = true

/-- A smaller set of parts. -/
theorem su {A B W : Nat} (hw : Sub B W) (h : A &&& B = A := by with_unfolding_all exact rfl) : Sub A W := by
  intro i hi
  refine hw i ?_
  have := congrArg (fun n => Nat.testBit n i) h
  simp only [Nat.testBit_and, hi, Bool.true_and] at this
  exact this

theorem sameIn {α : Type} {A W i : Nat} {a b : α} (hw : Sub A W) (h : A.testBit i = true := by with_unfolding_all exact rfl) : Same W i a b :=
  Or.inl (hw i h)

/-- The two states agree on every part outside `W`. -/
structure Agree (W : Nat) (s t : State) : Prop where
  params : ∀ c, c < 28 → W.testBit c = true ∨
    ∀ k, k / 2 ^ 36 = c → cellsRead parReset t.dict k = cellsRead parReset s.dict k
  staged : Same W 29 s.staged t.staged
  bankCfg : Same W 30 s.bankCfg t.bankCfg
  tb : Same W 31 s.tb t.tb
  banks : Same W 32 s.banks t.banks
  down : Same W 33 s.down t.down
  up : Same W 34 s.up t.up
  links : Same W 35 s.links t.links
  u : Same W 36 s.u t.u
  l : Same W 37 s.l t.l
  f : Same W 38 s.f t.f
  captures : Same W 39 s.captures t.captures
  coppice : Same W 40 s.coppice t.coppice
  sched : Same W 41 (s.sched, s.nextHandle, s.nextBatch) (t.sched, t.nextHandle, t.nextBatch)
  canopy : Same W 42 s.canopy t.canopy
  glade : Same W 43 (gladeRest s.glade) (gladeRest t.glade)
  rules : Same W 44 (s.glade.bank0, s.glade.bank1) (t.glade.bank0, t.glade.bank1)
  raises : Same W 45 (s.firebreak.raises, s.firebreak.windows) (t.firebreak.raises, t.firebreak.windows)
  firebreak : Same W 46 (firebreakRest s.firebreak) (firebreakRest t.firebreak)
  wdt : Same W 47 s.wdt t.wdt
  heartwood : Same W 48 s.heartwood t.heartwood
  hsl : Same W 49 s.hsl t.hsl
  eps : Same W 50 s.mbx.eps t.mbx.eps
  ram : Same W 51 s.mbx.ram t.mbx.ram
  bufs : Same W 52 s.mbx.bufs t.mbx.bufs
  mbxq : Same W 53 (s.mbx.queue, s.mbx.stale, s.mbx.long) (t.mbx.queue, t.mbx.stale, t.mbx.long)
  commit : Same W 54 (s.commit, s.journalCommits) (t.commit, t.journalCommits)
  ports : Same W 55 s.ports t.ports
  sw : Same W 56 s.sw t.sw
  delivered : Same W 57 s.delivered t.delivered
  gcl : Same W 58 s.gcl t.gcl
  red : Same W 59 s.red t.red
  nor : Same W 60 s.msp.nor t.msp.nor
  msp : Same W 61 (mspRest s.msp) (mspRest t.msp)
  incoming : Same W 62 s.jrn.incoming t.jrn.incoming
  jrn : Same W 63 (journalRest s.jrn) (journalRest t.jrn)
  sup : Same W 64 s.sup t.sup
  draws : Same W 65 s.draws t.draws
  scales : Same W 66 s.scales t.scales

theorem Agree.refl (W : Nat) (s : State) : Agree W s s :=
  ⟨fun _ _ => Or.inr (fun _ _ => rfl), sameRfl, sameRfl, sameRfl, sameRfl, sameRfl, sameRfl, sameRfl, sameRfl, sameRfl,
      sameRfl, sameRfl, sameRfl, sameRfl, sameRfl, sameRfl, sameRfl, sameRfl, sameRfl, sameRfl, sameRfl, sameRfl, sameRfl,
      sameRfl, sameRfl, sameRfl, sameRfl, sameRfl, sameRfl, sameRfl, sameRfl, sameRfl, sameRfl, sameRfl, sameRfl, sameRfl,
      sameRfl, sameRfl, sameRfl⟩

/-- The queue is that of `s0`, the invariant holds, and every part outside `W` is that of `s0`. -/
def Keeps (W : Nat) (s0 s : State) : Prop := s.pending = s0.pending ∧ s.Sound ∧ Agree W s0 s

/-- The same of what a command gives. -/
def KeepsR (W : Nat) (s0 : State) (r : CmdRes) : Prop := Keeps W s0 r.st

/-- A command goes on, to a state that keeps them. -/
def KeepsO (W : Nat) (s0 : State) (o : Host.Outcome State Fault Refusal) : Prop := ∃ t, o = .next t ∧ Keeps W s0 t

variable {W : Nat} {s0 : State}

theorem keeps_refl (W : Nat) (s : State) (h : s.Sound) : Keeps W s s := ⟨rfl, h, Agree.refl W s⟩

theorem keepsO_next {s : State} (h : Keeps W s0 s) : KeepsO W s0 (.next s) := ⟨s, rfl, h⟩

theorem keepsR_st {r : CmdRes} (h : KeepsR W s0 r) : Keeps W s0 r.st := h

theorem keepsR_mk {s : State} {c : BitVec 16} {l : List Byte} (h : Keeps W s0 s) :
    KeepsR W s0 { st := s, code := c, payload := l } := h

theorem keepsIte {α : Type} {Q : α → Prop} {c : Prop} [Decidable c] {a b : α} (ha : Q a) (hb : Q b) :
    Q (if c then a else b) := by split <;> assumption

theorem keepsLet {α β : Type} {Q : β → Prop} {x : α} {f : α → β} (h : ∀ y, Q (f y)) : Q (let y := x; f y) := h x

theorem keepsLetS {β : Type} {Q : β → Prop} {x : State} {f : State → β} (hx : Keeps W s0 x)
    (h : ∀ y, Keeps W s0 y → Q (f y)) : Q (let y := x; f y) := h x hx

theorem keepsLetR {β : Type} {Q : β → Prop} {x : CmdRes} {f : CmdRes → β} (hx : KeepsR W s0 x)
    (h : ∀ y, KeepsR W s0 y → Q (f y)) : Q (let y := x; f y) := h x hx

theorem keepsFold {α : Type} {f : State → α → State} (hf : ∀ s a, Keeps W s0 s → Keeps W s0 (f s a)) :
    ∀ {l : List α} {s : State}, Keeps W s0 s → Keeps W s0 (l.foldl f s)
  | [], _, h => h
  | a :: t, s, h => keepsFold hf (l := t) (hf s a h)

theorem keepsFoldR {α : Type} {f : α → State → State} (hf : ∀ a s, Keeps W s0 s → Keeps W s0 (f a s)) :
    ∀ {l : List α} {s : State}, Keeps W s0 s → Keeps W s0 (l.foldr f s)
  | [], _, h => h
  | a :: t, s, h => hf a _ (keepsFoldR hf (l := t) h)

/-! ### One field of the state changes -/

theorem keeps_tb {s : State} {tb} (hw : Sub 0x80000000 W) (h : Keeps W s0 s) :
    Keeps W s0 { s with tb := tb } :=
  ⟨h.1, h.2.1, { h.2.2 with tb := sameIn hw }⟩

theorem keeps_banks {s : State} {banks} (hw : Sub 0x100000000 W) (h : Keeps W s0 s) :
    Keeps W s0 { s with banks := banks } :=
  ⟨h.1, h.2.1, { h.2.2 with banks := sameIn hw }⟩

theorem keeps_links {s : State} {links} (hw : Sub 0x800000000 W) (h : Keeps W s0 s) :
    Keeps W s0 { s with links := links } :=
  ⟨h.1, h.2.1, { h.2.2 with links := sameIn hw }⟩

theorem keeps_u {s : State} {u} (hw : Sub 0x1000000000 W) (h : Keeps W s0 s) :
    Keeps W s0 { s with u := u } :=
  ⟨h.1, h.2.1, { h.2.2 with u := sameIn hw }⟩

theorem keeps_l {s : State} {l} (hw : Sub 0x2000000000 W) (h : Keeps W s0 s) :
    Keeps W s0 { s with l := l } :=
  ⟨h.1, h.2.1, { h.2.2 with l := sameIn hw }⟩

theorem keeps_f {s : State} {f} (hw : Sub 0x4000000000 W) (h : Keeps W s0 s) :
    Keeps W s0 { s with f := f } :=
  ⟨h.1, h.2.1, { h.2.2 with f := sameIn hw }⟩

theorem keeps_coppice {s : State} {coppice} (hw : Sub 0x10000000000 W) (h : Keeps W s0 s) :
    Keeps W s0 { s with coppice := coppice } :=
  ⟨h.1, h.2.1, { h.2.2 with coppice := sameIn hw }⟩

theorem keeps_scales {s : State} {scales} (hw : Sub 0x40000000000000000 W) (h : Keeps W s0 s) :
    Keeps W s0 { s with scales := scales } :=
  ⟨h.1, h.2.1, { h.2.2 with scales := sameIn hw }⟩

theorem keeps_wdt {s : State} {wdt} (hw : Sub 0x800000000000 W) (h : Keeps W s0 s) :
    Keeps W s0 { s with wdt := wdt } :=
  ⟨h.1, h.2.1, { h.2.2 with wdt := sameIn hw }⟩

theorem keeps_heartwood {s : State} {heartwood} (hw : Sub 0x1000000000000 W) (h : Keeps W s0 s) :
    Keeps W s0 { s with heartwood := heartwood } :=
  ⟨h.1, h.2.1, { h.2.2 with heartwood := sameIn hw }⟩

theorem keeps_hsl {s : State} {hsl} (hw : Sub 0x2000000000000 W) (h : Keeps W s0 s) :
    Keeps W s0 { s with hsl := hsl } :=
  ⟨h.1, h.2.1, { h.2.2 with hsl := sameIn hw }⟩

theorem keeps_ports {s : State} {ports} (hw : Sub 0x80000000000000 W) (h : Keeps W s0 s) :
    Keeps W s0 { s with ports := ports } :=
  ⟨h.1, h.2.1, { h.2.2 with ports := sameIn hw }⟩

theorem keeps_sw {s : State} {sw} (hw : Sub 0x100000000000000 W) (h : Keeps W s0 s) :
    Keeps W s0 { s with sw := sw } :=
  ⟨h.1, h.2.1, { h.2.2 with sw := sameIn hw }⟩

theorem keeps_delivered {s : State} {delivered} (hw : Sub 0x200000000000000 W) (h : Keeps W s0 s) :
    Keeps W s0 { s with delivered := delivered } :=
  ⟨h.1, h.2.1, { h.2.2 with delivered := sameIn hw }⟩

theorem keeps_red {s : State} {red} (hw : Sub 0x800000000000000 W) (h : Keeps W s0 s) :
    Keeps W s0 { s with red := red } :=
  ⟨h.1, h.2.1, { h.2.2 with red := sameIn hw }⟩

theorem keeps_sup {s : State} {sup} (hw : Sub 0x10000000000000000 W) (h : Keeps W s0 s) :
    Keeps W s0 { s with sup := sup } :=
  ⟨h.1, h.2.1, { h.2.2 with sup := sameIn hw }⟩

theorem keeps_draws {s : State} {draws} (hw : Sub 0x20000000000000000 W) (h : Keeps W s0 s) :
    Keeps W s0 { s with draws := draws } :=
  ⟨h.1, h.2.1, { h.2.2 with draws := sameIn hw }⟩

theorem keeps_nextHandle {s : State} {nextHandle} (hw : Sub 0x20000000000 W) (h : Keeps W s0 s) :
    Keeps W s0 { s with nextHandle := nextHandle } :=
  ⟨h.1, h.2.1, { h.2.2 with sched := sameIn hw }⟩

theorem keeps_nextBatch {s : State} {nextBatch} (hw : Sub 0x20000000000 W) (h : Keeps W s0 s) :
    Keeps W s0 { s with nextBatch := nextBatch } :=
  ⟨h.1, h.2.1, { h.2.2 with sched := sameIn hw }⟩

theorem keeps_sched {s : State} {sched} (hw : Sub 0x20000000000 W) (h : Keeps W s0 s) :
    Keeps W s0 { s with sched := sched } :=
  ⟨h.1, h.2.1, { h.2.2 with sched := sameIn hw }⟩

theorem keeps_journalCommits {s : State} {journalCommits} (hw : Sub 0x40000000000000 W) (h : Keeps W s0 s) :
    Keeps W s0 { s with journalCommits := journalCommits } :=
  ⟨h.1, h.2.1, { h.2.2 with commit := sameIn hw }⟩

theorem keeps_tb_banks {s : State} {tb banks} (hw : Sub 0x180000000 W) (h : Keeps W s0 s) :
    Keeps W s0 { s with tb := tb, banks := banks } :=
  ⟨h.1, h.2.1, { h.2.2 with tb := sameIn hw, banks := sameIn hw }⟩

theorem keeps_sw_red {s : State} {sw red} (hw : Sub 0x900000000000000 W) (h : Keeps W s0 s) :
    Keeps W s0 { s with sw := sw, red := red } :=
  ⟨h.1, h.2.1, { h.2.2 with sw := sameIn hw, red := sameIn hw }⟩

theorem keeps_ports_sw_red {s : State} {ports sw red} (hw : Sub 0x980000000000000 W) (h : Keeps W s0 s) :
    Keeps W s0 { s with ports := ports, sw := sw, red := red } :=
  ⟨h.1, h.2.1, { h.2.2 with ports := sameIn hw, sw := sameIn hw, red := sameIn hw }⟩

theorem keeps_sw_delivered {s : State} {sw delivered} (hw : Sub 0x300000000000000 W) (h : Keeps W s0 s) :
    Keeps W s0 { s with sw := sw, delivered := delivered } :=
  ⟨h.1, h.2.1, { h.2.2 with sw := sameIn hw, delivered := sameIn hw }⟩

theorem keeps_canopy {s : State} {canopy} (h1 : canopy.points = s.canopy.points) (h2 : canopy.groups = s.canopy.groups)
    (hw : Sub 0x40000000000 W) (h : Keeps W s0 s) : Keeps W s0 { s with canopy := canopy } :=
  ⟨h.1,
    ⟨{ h.2.1.1 with points := (by simp only [h1]; exact h.2.1.1.points), groups := (by simp only [h2]; exact h.2.1.1.groups) }, h.2.1.2⟩,
    { h.2.2 with canopy := sameIn hw }⟩

theorem keeps_gcl {s : State} {gcl} (h1 : gcl.journalQ = s.gcl.journalQ) (hw : Sub 0x400000000000000 W) (h : Keeps W s0 s) :
    Keeps W s0 { s with gcl := gcl } :=
  ⟨h.1, ⟨h.2.1.1, { h.2.1.2 with jq := (by simp only [h1]; exact h.2.1.2.jq) }⟩, { h.2.2 with gcl := sameIn hw }⟩

theorem keeps_gcl_red {s : State} {gcl red} (h1 : gcl.journalQ = s.gcl.journalQ) (hw : Sub 0xC00000000000000 W) (h : Keeps W s0 s) :
    Keeps W s0 { s with gcl := gcl, red := red } :=
  ⟨h.1, ⟨h.2.1.1, { h.2.1.2 with jq := (by simp only [h1]; exact h.2.1.2.jq) }⟩,
    { h.2.2 with gcl := sameIn hw, red := sameIn hw }⟩

theorem keeps_mbx {s : State} {mbx} (h1 : mbx.eps = s.mbx.eps) (h2 : mbx.ram = s.mbx.ram)
    (a1 : Same W 52 s.mbx.bufs mbx.bufs)
    (a2 : Same W 53 (s.mbx.queue, s.mbx.stale, s.mbx.long) (mbx.queue, mbx.stale, mbx.long)) (h : Keeps W s0 s) :
    Keeps W s0 { s with mbx := mbx } :=
  ⟨h.1,
    ⟨{ h.2.1.1 with ram := (by simp only [h2]; exact h.2.1.1.ram) },
     { h.2.1.2 with eps := (by simp only [h1]; exact h.2.1.2.eps) }⟩,
    { h.2.2 with
      eps := (by simp only [h1]; exact h.2.2.eps), ram := (by simp only [h2]; exact h.2.2.ram),
      bufs := h.2.2.bufs.trans a1, mbxq := h.2.2.mbxq.trans a2 }⟩

theorem keeps_glade {s : State} {glade} (h1 : glade.bank0 = s.glade.bank0) (h2 : glade.bank1 = s.glade.bank1)
    (hw : Sub 0x80000000000 W) (h : Keeps W s0 s) : Keeps W s0 { s with glade := glade } :=
  ⟨h.1,
    ⟨{ h.2.1.1 with rules0 := (by simp only [h1]; exact h.2.1.1.rules0), rules1 := (by simp only [h2]; exact h.2.1.1.rules1) }, h.2.1.2⟩,
    { h.2.2 with rules := (by simp only [h1, h2]; exact h.2.2.rules), glade := sameIn hw }⟩

theorem keeps_firebreak {s : State} {firebreak} (h1 : firebreak.log = s.firebreak.log)
    (a1 : Same W 45 (s.firebreak.raises, s.firebreak.windows) (firebreak.raises, firebreak.windows))
    (a2 : Same W 46 (firebreakRest s.firebreak) (firebreakRest firebreak)) (h : Keeps W s0 s) :
    Keeps W s0 { s with firebreak := firebreak } :=
  ⟨h.1, ⟨h.2.1.1, { h.2.1.2 with log := (by simp only [h1]; exact h.2.1.2.log) }⟩,
    { h.2.2 with raises := h.2.2.raises.trans a1, firebreak := h.2.2.firebreak.trans a2 }⟩

theorem keeps_msp {s : State} {msp} (h1 : msp.nor = s.msp.nor) (h2 : msp.gather = s.msp.gather)
    (hw : Sub 0x2000000000000000 W) (h : Keeps W s0 s) : Keeps W s0 { s with msp := msp } :=
  ⟨h.1,
    ⟨{ h.2.1.1 with nor := (by simp only [h1]; exact h.2.1.1.nor), gather := (by simp only [h2]; exact h.2.1.1.gather) }, h.2.1.2⟩,
    { h.2.2 with msp := sameIn hw, nor := (by simp only [h1]; exact h.2.2.nor) }⟩

theorem keeps_msp_sup {s : State} {msp sup} (h1 : msp.nor = s.msp.nor) (h2 : msp.gather = s.msp.gather)
    (hw : Sub 0x12000000000000000 W) (h : Keeps W s0 s) : Keeps W s0 { s with msp := msp, sup := sup } :=
  ⟨h.1,
    ⟨{ h.2.1.1 with nor := (by simp only [h1]; exact h.2.1.1.nor), gather := (by simp only [h2]; exact h.2.1.1.gather) }, h.2.1.2⟩,
    { h.2.2 with msp := sameIn hw, nor := (by simp only [h1]; exact h.2.2.nor), sup := sameIn hw }⟩

theorem keeps_jrn {s : State} {jrn} (h1 : jrn.ram = s.jrn.ram) (a1 : Same W 62 s.jrn.incoming jrn.incoming)
    (a2 : Same W 63 (journalRest s.jrn) (journalRest jrn)) (h : Keeps W s0 s) : Keeps W s0 { s with jrn := jrn } :=
  ⟨h.1, ⟨h.2.1.1, { h.2.1.2 with ram := (by simp only [h1]; exact h.2.1.2.ram) }⟩,
    { h.2.2 with incoming := h.2.2.incoming.trans a1, jrn := h.2.2.jrn.trans a2 }⟩

/-- Results with a second part: the state is the second. -/
theorem keepsSnd {α : Type} {x : α × State} {a : α} {t : State} (e : x = (a, t)) (h : Keeps W s0 x.2) :
    Keeps W s0 t := by subst e; exact h

theorem keepsFst {α : Type} {x : State × α} {a : α} {t : State} (e : x = (t, a)) (h : Keeps W s0 x.1) :
    Keeps W s0 t := by subst e; exact h

theorem keepsFstR {α : Type} {x : CmdRes × α} {a : α} {t : CmdRes} (e : x = (t, a)) (h : KeepsR W s0 x.1) :
    KeepsR W s0 t := by subst e; exact h

/-- Results that may be missing. -/
def KeepsOpt (W : Nat) (s0 : State) (x : Option State) : Prop := ∀ t, x = some t → Keeps W s0 t

def KeepsOptSnd {α : Type} (W : Nat) (s0 : State) (x : Option (α × State)) : Prop := ∀ a t, x = some (a, t) → Keeps W s0 t

def KeepsOptR (W : Nat) (s0 : State) (x : Option CmdRes) : Prop := ∀ t, x = some t → KeepsR W s0 t

theorem keepsOpt {x : Option State} {t : State} (e : x = some t) (h : KeepsOpt W s0 x) : Keeps W s0 t := h t e

theorem keepsOptSnd {α : Type} {x : Option (α × State)} {a : α} {t : State} (e : x = some (a, t))
    (h : KeepsOptSnd W s0 x) : Keeps W s0 t := h a t e

theorem keepsOptR {x : Option CmdRes} {t : CmdRes} (e : x = some t) (h : KeepsOptR W s0 x) : KeepsR W s0 t := h t e

/-! ### The parts that hold a store or a bounded list -/

/-- The replay window of an endpoint keeps its bound. -/
def EpOk (e : Endpoint) : Prop := e.window.length ≤ 64

theorem epOkMk {e : Endpoint} {opened major minor nextTag cmdHeld outstanding completions window db mask h2d aborting lastSrc}
    (h : EpOk e) (hw : window = e.window) :
    EpOk (Endpoint.mk opened major minor nextTag cmdHeld outstanding completions window db mask h2d aborting lastSrc) := by
  subst hw; exact h

/-- The memory serial port after a change: the NOR alone, the gather buffer canonical, the rest within what may change. -/
def MspOk (W : Nat) (a m : Msp) : Prop :=
  m.nor = a.nor ∧ cellsWf norByte m.gather = true ∧ Same W 61 (mspRest a) (mspRest m)

theorem mspOkRefl {m : Msp} (h : cellsWf norByte m.gather = true) : MspOk W m m := ⟨rfl, h, sameRfl⟩

theorem mspOkMk {m : Msp} {entries holdCount cont gatherPage gather gatherAt stalled norOp norFail eraseReg userCount grants bchHist
      nor norPresent suspendOk released}
    (h : cellsWf norByte m.gather = true) (h1 : gather = m.gather) (h2 : nor = m.nor)
    (a : Same W 61 (mspRest m) (mspRest (Msp.mk entries holdCount cont gatherPage gather gatherAt stalled norOp norFail eraseReg
      userCount grants bchHist nor norPresent suspendOk released))) :
    MspOk W m (Msp.mk entries holdCount cont gatherPage gather gatherAt stalled norOp norFail eraseReg userCount grants bchHist nor
      norPresent suspendOk released) := by
  subst h1; subst h2; exact ⟨rfl, h, a⟩

/-- The journal after a change: its RAM within its bound, the rest within what may change. -/
def JrnOk (W : Nat) (a j : Journal) : Prop :=
  j.ram.length ≤ 512 ∧ Same W 62 a.incoming j.incoming ∧ Same W 63 (journalRest a) (journalRest j)

theorem jrnOkRefl {j : Journal} (h : j.ram.length ≤ 512) : JrnOk W j j := ⟨h, sameRfl, sameRfl⟩

theorem jrnOkMk {j : Journal} {incoming ram next pages blocks blockCount present mounted pageSeq openBlock scrubQueue
      patrolNext patrolAt opSeconds lastOp sinceTable} (h : j.ram.length ≤ 512)
    (h1 : ram = j.ram) (a1 : Same W 62 j.incoming incoming)
    (a2 : Same W 63 (journalRest j) (journalRest (Journal.mk incoming ram next pages blocks blockCount present mounted
      pageSeq openBlock scrubQueue patrolNext patrolAt opSeconds lastOp sinceTable))) :
    JrnOk W j (Journal.mk incoming ram next pages blocks blockCount present mounted pageSeq openBlock scrubQueue patrolNext patrolAt
      opSeconds lastOp sinceTable) := by
  subst h1; exact ⟨h, a1, a2⟩

/-- Glade after a change: its rule banks canonical, the rest within what may change. -/
def GladeOk (W : Nat) (a g : Glade) : Prop :=
  cellsWf zeroByte g.bank0 = true ∧ cellsWf zeroByte g.bank1 = true ∧
    Same W 44 (a.bank0, a.bank1) (g.bank0, g.bank1) ∧ Same W 43 (gladeRest a) (gladeRest g)

theorem gladeOkMk {g : Glade} {bank0 bank1 len0 len1 active state inactive swapAt results safeTaken timers forces conflicts
      ignored passes lastOverran ready persisted bootSlot fastMark mainMark repeatAt}
    (h : cellsWf zeroByte g.bank0 = true ∧ cellsWf zeroByte g.bank1 = true) (h1 : bank0 = g.bank0) (h2 : bank1 = g.bank1)
    (a : Same W 43 (gladeRest g) (gladeRest (Glade.mk bank0 bank1 len0 len1 active state inactive swapAt results safeTaken
      timers forces conflicts ignored passes lastOverran ready persisted bootSlot fastMark mainMark repeatAt))) :
    GladeOk W g (Glade.mk bank0 bank1 len0 len1 active state inactive swapAt results safeTaken timers forces conflicts
      ignored passes lastOverran ready persisted bootSlot fastMark mainMark repeatAt) := by
  subst h1; subst h2; exact ⟨h.1, h.2, sameRfl, a⟩

theorem gladeOkRefl {g : Glade} (h : cellsWf zeroByte g.bank0 = true ∧ cellsWf zeroByte g.bank1 = true) : GladeOk W g g :=
  ⟨h.1, h.2, sameRfl, sameRfl⟩

/-- Firebreak after a change: FAULT_LOG within its bound, the rest within what may change. -/
def FbOk (W : Nat) (a f : Firebreak) : Prop :=
  f.log.length ≤ 64 ∧ Same W 45 (a.raises, a.windows) (f.raises, f.windows) ∧
    Same W 46 (firebreakRest a) (firebreakRest f)

theorem fbOkRefl {f : Firebreak} (h : f.log.length ≤ 64) : FbOk W f f := ⟨h, sameRfl, sameRfl⟩

theorem fbOkMk {f : Firebreak} {raises active windows log seq records failLow armed safeInOn clearPending statusRun liveArmed
      liveExpired liveTimeout liveSince heartPending refreshAt} (h : f.log.length ≤ 64)
    (h1 : log = f.log) (a1 : Same W 45 (f.raises, f.windows) (raises, windows))
    (a2 : Same W 46 (firebreakRest f) (firebreakRest (Firebreak.mk raises active windows log seq records failLow armed
      safeInOn clearPending statusRun liveArmed liveExpired liveTimeout liveSince heartPending refreshAt))) :
    FbOk W f (Firebreak.mk raises active windows log seq records failLow armed safeInOn clearPending statusRun liveArmed
      liveExpired liveTimeout liveSince heartPending refreshAt) := by
  subst h1; exact ⟨h, a1, a2⟩

/-- A direction of a bank link keeps its bound. -/
def LinkOk {π σ : Type} (d : LinkDir π σ) : Prop := d.unacked.length ≤ 32

theorem linkOkMk {π σ : Type} {d : LinkDir π σ} {ordSeq expSeq queued express copy unacked again slot line ack rxSeq lastExp}
    (h : LinkOk d) (h1 : unacked = d.unacked) :
    LinkOk (LinkDir.mk (σ := σ) ordSeq expSeq queued express copy unacked again slot line ack rxSeq lastExp) := by
  subst h1; exact h

end Sys2Proof.Machine
end

