-- ==== Sys2Proof/Laws/Frame.lean ====
section
/-! SUPPORT. What agreement outside a set of parts says of each part: a part outside the set reads as before. -/

namespace Sys2Proof.Machine

theorem Same.eq {α : Type} {W i : Nat} {a b : α} (h : Same W i a b) (hw : W.testBit i = false) : b = a := by
  rcases h with h | h
  · rw [hw] at h; cases h
  · exact h

variable {W : Nat} {s t : State}

/-- Bytes of a class outside the set read as before. -/
theorem Agree.pAt_eq (h : Agree W s t) {n cls inst attr off : Nat} (hc : cls < 28) (hi : inst < 256) (ha : attr < 256)
    (ho : off + n ≤ 1048576) (hw : W.testBit cls = false) : t.pAt n cls inst attr off = s.pAt n cls inst attr off := by
  rcases h.params cls hc with hp | hp
  · rw [hw] at hp; cases hp
  · simp only [State.pAt, State.pBytes]
    congr 1
    have key : ∀ m k, (∀ j, j < m → cellsRead parReset t.dict (k + j) = cellsRead parReset s.dict (k + j)) →
        cellsReadN parReset t.dict k m = cellsReadN parReset s.dict k m := by
      intro m
      induction m with
      | zero => intros; rfl
      | succ m ih =>
        intro k hk
        simp only [cellsReadN]
        have h0 := hk 0 (by omega)
        simp only [Nat.add_zero] at h0
        rw [h0]
        rw [ih (k + 1) (fun j hj => by have := hk (j + 1) (by omega); rwa [Nat.add_assoc, Nat.add_comm 1 j])]
    refine key n _ fun j hj => hp _ ?_
    simp only [parKey]
    show ((cls * 65536 + inst * 256 + attr) * 1048576 + off + j) / 68719476736 = cls
    omega

theorem Agree.p_eq (h : Agree W s t) {n cls inst attr : Nat} (hc : cls < 28) (hi : inst < 256) (ha : attr < 256)
    (ho : n ≤ 1048576) (hw : W.testBit cls = false) : t.p n cls inst attr = s.p n cls inst attr :=
  h.pAt_eq hc hi ha (by omega) hw

theorem Agree.staged_eq (h : Agree W s t) (hw : W.testBit 29 = false := by rfl) : t.staged = s.staged := h.staged.eq hw

theorem Agree.bankCfg_eq (h : Agree W s t) (hw : W.testBit 30 = false := by rfl) : t.bankCfg = s.bankCfg := h.bankCfg.eq hw

theorem Agree.tb_eq (h : Agree W s t) (hw : W.testBit 31 = false := by rfl) : t.tb = s.tb := h.tb.eq hw

theorem Agree.banks_eq (h : Agree W s t) (hw : W.testBit 32 = false := by rfl) : t.banks = s.banks := h.banks.eq hw

theorem Agree.down_eq (h : Agree W s t) (hw : W.testBit 33 = false := by rfl) : t.down = s.down := h.down.eq hw

theorem Agree.up_eq (h : Agree W s t) (hw : W.testBit 34 = false := by rfl) : t.up = s.up := h.up.eq hw

theorem Agree.links_eq (h : Agree W s t) (hw : W.testBit 35 = false := by rfl) : t.links = s.links := h.links.eq hw

theorem Agree.u_eq (h : Agree W s t) (hw : W.testBit 36 = false := by rfl) : t.u = s.u := h.u.eq hw

theorem Agree.l_eq (h : Agree W s t) (hw : W.testBit 37 = false := by rfl) : t.l = s.l := h.l.eq hw

theorem Agree.f_eq (h : Agree W s t) (hw : W.testBit 38 = false := by rfl) : t.f = s.f := h.f.eq hw

theorem Agree.captures_eq (h : Agree W s t) (hw : W.testBit 39 = false := by rfl) : t.captures = s.captures := h.captures.eq hw

theorem Agree.coppice_eq (h : Agree W s t) (hw : W.testBit 40 = false := by rfl) : t.coppice = s.coppice := h.coppice.eq hw

theorem Agree.sched_eq (h : Agree W s t) (hw : W.testBit 41 = false := by rfl) :
    t.sched = s.sched ∧ t.nextHandle = s.nextHandle ∧ t.nextBatch = s.nextBatch := by
  have := h.sched.eq hw; simpa only [Prod.mk.injEq] using this

theorem Agree.canopy_eq (h : Agree W s t) (hw : W.testBit 42 = false := by rfl) : t.canopy = s.canopy := h.canopy.eq hw

theorem Agree.glade_eq (h : Agree W s t) (hw : W.testBit 43 = false := by rfl) : gladeRest t.glade = gladeRest s.glade := h.glade.eq hw

theorem Agree.rules_eq (h : Agree W s t) (hw : W.testBit 44 = false := by rfl) :
    t.glade.bank0 = s.glade.bank0 ∧ t.glade.bank1 = s.glade.bank1 := by
  have := h.rules.eq hw; simpa only [Prod.mk.injEq] using this

theorem Agree.raises_eq (h : Agree W s t) (hw : W.testBit 45 = false := by rfl) :
    t.firebreak.raises = s.firebreak.raises ∧ t.firebreak.windows = s.firebreak.windows := by
  have := h.raises.eq hw; simpa only [Prod.mk.injEq] using this

theorem Agree.firebreak_eq (h : Agree W s t) (hw : W.testBit 46 = false := by rfl) : firebreakRest t.firebreak = firebreakRest s.firebreak := h.firebreak.eq hw

theorem Agree.wdt_eq (h : Agree W s t) (hw : W.testBit 47 = false := by rfl) : t.wdt = s.wdt := h.wdt.eq hw

theorem Agree.heartwood_eq (h : Agree W s t) (hw : W.testBit 48 = false := by rfl) : t.heartwood = s.heartwood := h.heartwood.eq hw

theorem Agree.hsl_eq (h : Agree W s t) (hw : W.testBit 49 = false := by rfl) : t.hsl = s.hsl := h.hsl.eq hw

theorem Agree.eps_eq (h : Agree W s t) (hw : W.testBit 50 = false := by rfl) : t.mbx.eps = s.mbx.eps := h.eps.eq hw

theorem Agree.ram_eq (h : Agree W s t) (hw : W.testBit 51 = false := by rfl) : t.mbx.ram = s.mbx.ram := h.ram.eq hw

theorem Agree.bufs_eq (h : Agree W s t) (hw : W.testBit 52 = false := by rfl) : t.mbx.bufs = s.mbx.bufs := h.bufs.eq hw

theorem Agree.mbxq_eq (h : Agree W s t) (hw : W.testBit 53 = false := by rfl) :
    t.mbx.queue = s.mbx.queue ∧ t.mbx.stale = s.mbx.stale ∧ t.mbx.long = s.mbx.long := by
  have := h.mbxq.eq hw; simpa only [Prod.mk.injEq] using this

theorem Agree.commit_eq (h : Agree W s t) (hw : W.testBit 54 = false := by rfl) :
    t.commit = s.commit ∧ t.journalCommits = s.journalCommits := by
  have := h.commit.eq hw; simpa only [Prod.mk.injEq] using this

theorem Agree.ports_eq (h : Agree W s t) (hw : W.testBit 55 = false := by rfl) : t.ports = s.ports := h.ports.eq hw

theorem Agree.sw_eq (h : Agree W s t) (hw : W.testBit 56 = false := by rfl) : t.sw = s.sw := h.sw.eq hw

theorem Agree.delivered_eq (h : Agree W s t) (hw : W.testBit 57 = false := by rfl) : t.delivered = s.delivered := h.delivered.eq hw

theorem Agree.gcl_eq (h : Agree W s t) (hw : W.testBit 58 = false := by rfl) : t.gcl = s.gcl := h.gcl.eq hw

theorem Agree.red_eq (h : Agree W s t) (hw : W.testBit 59 = false := by rfl) : t.red = s.red := h.red.eq hw

theorem Agree.nor_eq (h : Agree W s t) (hw : W.testBit 60 = false := by rfl) : t.msp.nor = s.msp.nor := h.nor.eq hw

theorem Agree.msp_eq (h : Agree W s t) (hw : W.testBit 61 = false := by rfl) : mspRest t.msp = mspRest s.msp := h.msp.eq hw

theorem Agree.incoming_eq (h : Agree W s t) (hw : W.testBit 62 = false := by rfl) : t.jrn.incoming = s.jrn.incoming := h.incoming.eq hw

theorem Agree.jrn_eq (h : Agree W s t) (hw : W.testBit 63 = false := by rfl) : journalRest t.jrn = journalRest s.jrn := h.jrn.eq hw

theorem Agree.sup_eq (h : Agree W s t) (hw : W.testBit 64 = false := by rfl) : t.sup = s.sup := h.sup.eq hw

theorem Agree.draws_eq (h : Agree W s t) (hw : W.testBit 65 = false := by rfl) : t.draws = s.draws := h.draws.eq hw

theorem Agree.scales_eq (h : Agree W s t) (hw : W.testBit 66 = false := by rfl) : t.scales = s.scales := h.scales.eq hw

end Sys2Proof.Machine
end

