-- ==== Sys2Proof/Laws/KeepsOps.lean ====
section
/-! SUPPORT. The queue and the invariant are kept, and every part outside a set of parts: the shared operations: parameters, points, the NOR, the switch, the mailboxes, time, outputs. One lemma per operation and per meaning. -/

namespace Sys2Proof.Machine

set_option Elab.async false

variable {W : Nat} {s0 : State}

/-! ### Ops -/

theorem inn {A W i : Nat} (hw : Sub A W)
    (h : A.testBit i = true := by with_unfolding_all exact rfl) : W.testBit i = true := hw i h

/-- The bytes of one attribute lie apart from every other class. -/
theorem par_key_apart {cls inst attr off n k c : Nat} (hcc : c ≠ cls) (hi : inst < 256) (ha : attr < 256)
    (ho : off + n ≤ 1048576) (hk : k / 68719476736 = c) :
    k < (cls * 65536 + inst * 256 + attr) * 1048576 + off ∨
      (cls * 65536 + inst * 256 + attr) * 1048576 + off + n ≤ k := by omega

/-- Bytes of one attribute are written: no other class changes. -/
theorem State.setBytes_keeps (s : State) (cls inst attr off : Nat) (l : List Byte) (hc : W.testBit cls = true)
    (hi : inst < 256) (ha : attr < 256) (ho : off + l.length ≤ 2 ^ 20) (h : Keeps W s0 s) :
    Keeps W s0 (s.setBytes cls inst attr off l) := by
  refine ⟨h.1, ⟨{ h.2.1.1 with dict := cellsWf_writeL h.2.1.1.dict }, h.2.1.2⟩, { h.2.2 with params := ?_ }⟩
  intro c hlt
  by_cases hcc : c = cls
  · subst hcc; exact Or.inl hc
  · rcases h.2.2.params c hlt with hp | hp
    · exact Or.inl hp
    · refine Or.inr fun k hk => ?_
      rw [← hp k hk]
      refine cellsRead_writeL_out h.2.1.1.dict ?_
      exact par_key_apart hcc hi ha ho hk

/-- Every class may change. -/
def AllParams (W : Nat) : Prop := ∀ c, c < 28 → W.testBit c = true

theorem allParams {A : Nat} (hw : Sub A W)
    (h : A &&& 0xFFFFFFF = 0xFFFFFFF := by with_unfolding_all exact rfl) : AllParams W := by
  intro c hc
  refine hw c ?_
  have := congrArg (fun n => Nat.testBit n c) h
  have h2 : Nat.testBit 0xFFFFFFF c = true := by
    have : (0xFFFFFFF : Nat) = 2 ^ 28 - 1 := by decide
    rw [this, Nat.testBit_two_pow_sub_one]; simpa using hc
  simp only [Nat.testBit_and, h2, Bool.and_true] at this
  exact this

/-- Replacing the parameters in effect by a canonical store. -/
theorem dict_keeps (s : State) (m : Store) (ha : AllParams W) (hm : cellsWf parReset m = true) (h : Keeps W s0 s) :
    Keeps W s0 { s with dict := m } :=
  ⟨h.1, ⟨{ h.2.1.1 with dict := hm }, h.2.1.2⟩, { h.2.2 with params := fun c hc => Or.inl (ha c hc) }⟩

theorem State.setBytes_any (s : State) (cls inst attr off : Nat) (l : List Byte) (ha : AllParams W) (h : Keeps W s0 s) :
    Keeps W s0 (s.setBytes cls inst attr off l) := dict_keeps s _ ha (cellsWf_writeL h.2.1.1.dict) h

theorem State.setPAt_keeps (s : State) (n cls inst attr off v : Nat) (hc : W.testBit cls = true) (hi : inst < 256)
    (ha : attr < 256)
    (ho : off + n ≤ 2 ^ 20) (h : Keeps W s0 s) : Keeps W s0 (s.setPAt n cls inst attr off v) :=
  State.setBytes_keeps _ _ _ _ _ _ hc hi ha (by simpa using ho) h

theorem State.setPAt_any (s : State) (n cls inst attr off v : Nat) (ha : AllParams W) (h : Keeps W s0 s) :
    Keeps W s0 (s.setPAt n cls inst attr off v) := State.setBytes_any _ _ _ _ _ _ ha h

theorem State.setP_keeps (s : State) (n cls inst attr v : Nat) (hc : W.testBit cls = true) (hi : inst < 256) (ha : attr < 256)
    (hn : n ≤ 2 ^ 20) (h : Keeps W s0 s) : Keeps W s0 (s.setP n cls inst attr v) :=
  State.setBytes_keeps _ _ _ _ _ _ hc hi ha (by simpa using hn) h

theorem State.setP_any (s : State) (n cls inst attr v : Nat) (ha : AllParams W) (h : Keeps W s0 s) :
    Keeps W s0 (s.setP n cls inst attr v) := State.setBytes_any _ _ _ _ _ _ ha h

theorem State.setPI_keeps (s : State) (n cls inst attr : Nat) (v : Int) (hc : W.testBit cls = true) (hi : inst < 256)
    (ha : attr < 256)
    (hn : n ≤ 2 ^ 20) (h : Keeps W s0 s) : Keeps W s0 (s.setPI n cls inst attr v) :=
  State.setBytes_keeps _ _ _ _ _ _ hc hi ha (by simpa using hn) h

theorem State.setPI_any (s : State) (n cls inst attr : Nat) (v : Int) (ha : AllParams W) (h : Keeps W s0 s) :
    Keeps W s0 (s.setPI n cls inst attr v) := State.setBytes_any _ _ _ _ _ _ ha h

@[simp] theorem ctBytes_length (t : CellTime) : (ctBytes t).length = 9 := by simp [ctBytes]

theorem State.setPCt_keeps (s : State) (cls inst attr : Nat) (t : CellTime) (hc : W.testBit cls = true) (hi : inst < 256)
    (ha : attr < 256) (h : Keeps W s0 s) : Keeps W s0 (s.setPCt cls inst attr t) :=
  State.setBytes_keeps _ _ _ _ _ _ hc hi ha (by simp) h

theorem State.incAt_keeps (s : State) (n cls inst attr off : Nat) (hc : W.testBit cls = true) (hi : inst < 256)
    (ha : attr < 256)
    (ho : off + n ≤ 2 ^ 20) (h : Keeps W s0 s) : Keeps W s0 (s.incAt n cls inst attr off) :=
  State.setBytes_keeps _ _ _ _ _ _ hc hi ha (by simpa using ho) h

theorem State.incAt_any (s : State) (n cls inst attr off : Nat) (ha : AllParams W) (h : Keeps W s0 s) :
    Keeps W s0 (s.incAt n cls inst attr off) := State.setBytes_any _ _ _ _ _ _ ha h

theorem State.inc_keeps (s : State) (n cls inst attr : Nat) (hc : W.testBit cls = true) (hi : inst < 256) (ha : attr < 256)
    (hn : n ≤ 2 ^ 20) (h : Keeps W s0 s) : Keeps W s0 (s.inc n cls inst attr) :=
  State.setBytes_keeps _ _ _ _ _ _ hc hi ha (by simpa using hn) h

theorem State.inc_any (s : State) (n cls inst attr : Nat) (ha : AllParams W) (h : Keeps W s0 s) :
    Keeps W s0 (s.inc n cls inst attr) := State.setBytes_any _ _ _ _ _ _ ha h

theorem State.orP_keeps (s : State) (cls inst attr bits : Nat) (hc : W.testBit cls = true) (hi : inst < 256) (ha : attr < 256)
    (h : Keeps W s0 s) : Keeps W s0 (s.orP cls inst attr bits) :=
  State.setBytes_keeps _ _ _ _ _ _ hc hi ha (by simp) h

theorem State.modBank_keeps (s : State) (b : Fin 4) (g : Bank → Bank) (hw : Sub 0x100000000 W) (hk_s : Keeps W s0 s) :
    Keeps W s0 (State.modBank s b g) := by
  unfold State.modBank
  repeat' (with_reducible first | assumption | exact su hw | extract_lets | refine keeps_banks ?_ ?_)

theorem State.modU_keeps (s : State) (i : Fin 16) (g : UChan → UChan) (hw : Sub 0x1000000000 W) (hk_s : Keeps W s0 s) :
    Keeps W s0 (State.modU s i g) := by
  unfold State.modU
  repeat' (with_reducible first | assumption | exact su hw | extract_lets | refine keeps_u ?_ ?_)

theorem State.modL_keeps (s : State) (i : Fin 8) (g : LChan → LChan) (hw : Sub 0x2000000000 W) (hk_s : Keeps W s0 s) :
    Keeps W s0 (State.modL s i g) := by
  unfold State.modL
  repeat' (with_reducible first | assumption | exact su hw | extract_lets | refine keeps_l ?_ ?_)

theorem State.modF_keeps (s : State) (i : Fin 8) (g : FChan → FChan) (hw : Sub 0x4000000000 W) (hk_s : Keeps W s0 s) :
    Keeps W s0 (State.modF s i g) := by
  unfold State.modF
  repeat' (with_reducible first | assumption | exact su hw | extract_lets | refine keeps_f ?_ ?_)

theorem State.modLink_keeps (s : State) (b : Fin 4) (g : LogicLink → LogicLink) (hw : Sub 0x800000000 W) (hk_s : Keeps W s0 s) :
    Keeps W s0 (State.modLink s b g) := by
  unfold State.modLink
  repeat' (with_reducible first | assumption | exact su hw | extract_lets | refine keeps_links ?_ ?_)

theorem State.modGrp_keeps (s : State) (b : Fin 4) (g : Fin 4) (h : GroupBank → GroupBank) (hw : Sub 0x100000000 W)
    (hk_s : Keeps W s0 s) :
    Keeps W s0 (State.modGrp s b g h) := by
  unfold State.modGrp
  repeat' (with_reducible first | assumption | exact su hw | intro _ | extract_lets | apply State.modBank_keeps)

theorem State.draw_keeps (s : State) (hw : Sub 0x20000000000000000 W) (hk_s : Keeps W s0 s) :
    Keeps W s0 ((State.draw s).2) := by
  unfold State.draw
  repeat' (with_reducible first | assumption | exact su hw | extract_lets | dsimp only | refine keeps_draws ?_ ?_)

theorem State.pushRaise_keeps (s : State) (r : Raise) (hw : Sub 0x200000000000 W) (hk_s : Keeps W s0 s) :
    Keeps W s0 (State.pushRaise s r) := by
  unfold State.pushRaise
  repeat' (with_reducible
    first | assumption | exact su hw | extract_lets | refine keeps_firebreak rfl ?_ ?_ ?_ | exact sameRfl | exact sameIn hw)

theorem State.raise_keeps (s : State) (id : Nat) (kind index : Nat) (detail : Word) (hw : Sub 0x200000000000 W)
    (hk_s : Keeps W s0 s) :
    Keeps W s0 (State.raise s id kind index detail) := by
  unfold State.raise
  repeat' (with_reducible first | assumption | exact su hw | apply State.pushRaise_keeps)

theorem State.endFault_keeps (s : State) (id : Nat) (kind index : Nat) (hw : Sub 0x200000000000 W) (hk_s : Keeps W s0 s) :
    Keeps W s0 (State.endFault s id kind index) := by
  unfold State.endFault
  repeat' (with_reducible first | assumption | exact su hw | apply State.pushRaise_keeps)

theorem State.occur_keeps (s : State) (id : Nat) (kind index : Nat) (hw : Sub 0x200000000000 W) (hk_s : Keeps W s0 s) :
    Keeps W s0 (State.occur s id kind index) := by
  unfold State.occur
  repeat' (with_reducible
    first | assumption | exact su hw | intro _ | extract_lets | apply State.raise_keeps | apply keepsIte | split
          | dsimp +zetaDelta only | refine keeps_firebreak rfl ?_ ?_ ?_ | exact sameRfl | exact sameIn hw)

theorem eps_keeps (s : State) (v : Vector Endpoint 8) (hw : Sub 0x4000000000000 W) (hv : ∀ e : Fin 8, EpOk (v[e]))
    (h : Keeps W s0 s) :
    Keeps W s0 { s with mbx := { s.mbx with eps := v } } :=
  ⟨h.1, ⟨h.2.1.1, { h.2.1.2 with eps := hv }⟩, { h.2.2 with eps := sameIn hw }⟩

theorem State.modEp_keeps (s : State) (e : Fin 8) (g : Endpoint → Endpoint) (hw : Sub 0x4000000000000 W)
    (hg : ∀ x, EpOk x → EpOk (g x))
    (h : Keeps W s0 s) : Keeps W s0 (s.modEp e g) := by
  refine eps_keeps s _ hw ?_ h
  intro i
  have h1 := h.2.1.2.eps i
  simp only [Fin.getElem_fin, Vector.getElem_set]
  split
  · exact hg _ (h.2.1.2.eps e)
  · exact h1

theorem State.ringEp_keeps (s : State) (e : Fin 8) (bits : Word) (hw : Sub 0x4000000000000 W) (hk_s : Keeps W s0 s) :
    Keeps W s0 (State.ringEp s e bits) := by
  unfold State.ringEp
  repeat' (with_reducible
    first | assumption | exact su hw | intro _ | extract_lets | apply State.modEp_keeps | refine epOkMk ?_ rfl)

theorem State.ringAll_keeps (s : State) (bit : Nat) (hw : Sub 0x4000000000000 W) (h : Keeps W s0 s) : Keeps W s0
    (s.ringAll bit) := by
  refine eps_keeps s _ hw ?_ h
  intro i
  simpa [EpOk] using h.2.1.2.eps i

theorem State.journal_keeps (s : State) (typ : Nat) (body : List Byte) (hw : Sub 0x4000000000000000 W) (hk_s : Keeps W s0 s) :
    Keeps W s0 (State.journal s typ body) := by
  unfold State.journal
  repeat' (with_reducible
    first | assumption | exact su hw | intro _ | extract_lets | refine keeps_jrn rfl ?_ ?_ ?_ | exact sameRfl
          | exact sameIn hw)

theorem State.journalAt_keeps (s : State) (typ : Nat) (rest : List Byte) (hw : Sub 0x4000000000000000 W) (hk_s : Keeps W s0 s) :
    Keeps W s0 (State.journalAt s typ rest) := by
  unfold State.journalAt
  repeat' (with_reducible first | assumption | exact su hw | apply State.journal_keeps)

theorem State.helloSoon_keeps (s : State) (hw : Sub 0x400000000000000 W) (hk_s : Keeps W s0 s) :
    Keeps W s0 (State.helloSoon s) := by
  unfold State.helloSoon
  repeat' (with_reducible first | assumption | exact su hw | extract_lets | refine keeps_gcl rfl ?_ ?_)

theorem linkPut_ok {π σ : Type} (d : LinkDir π σ) (c : π) (h : LinkOk d) : LinkOk (linkPut d c) := h

theorem linkExpress_ok {π σ : Type} (d : LinkDir π σ) (c : π) (h : LinkOk d) : LinkOk (linkExpress d c) := h

theorem linkTurn_ok {π σ : Type} (k : SlotKind) (fr : σ) (mono : BitVec 96) (a : BitVec 8) (d : LinkDir π σ) (h : LinkOk d) :
    LinkOk (linkTurn k fr mono a d) := by
  unfold linkTurn
  extract_lets e
  repeat' split
  all_goals first | exact h | (simp only [LinkOk, List.length_map] at *; exact h) | (simp only [LinkOk, List.length_append, List.length_singleton] at *; omega)

theorem linkAck_ok {π σ : Type} (a : BitVec 8) (d : LinkDir π σ) (h : LinkOk d) : LinkOk (linkAck a d) := by
  simp only [LinkOk, linkAck, List.length_drop] at *; omega

theorem linkOkNil {π σ : Type} {ordSeq expSeq queued express copy again slot line ack rxSeq lastExp} :
    LinkOk (LinkDir.mk (π := π) (σ := σ) ordSeq expSeq queued express copy [] again slot line ack rxSeq lastExp) := Nat.zero_le _

theorem linkReset_ok {π σ : Type} : LinkOk (linkReset : LinkDir π σ) := Nat.zero_le _

theorem linkResend_ok {π σ : Type} (d : LinkDir π σ) (h : LinkOk d) : LinkOk (linkResend d) := h

/-- Changing one direction of one link by a change that keeps its bound. -/
theorem down_keeps (s : State) (b : Fin 4) (x : LinkDir DownCell SyncCell) (hw : Sub 0x200000000 W) (hx : LinkOk x)
    (h : Keeps W s0 s) :
    Keeps W s0 { s with down := s.down.set b x } := by
  refine ⟨h.1, ⟨h.2.1.1, { h.2.1.2 with down := ?_ }⟩, { h.2.2 with down := sameIn hw }⟩
  intro i
  have h1 := h.2.1.2.down i
  simp only [Fin.getElem_fin, Vector.getElem_set]
  split
  · exact hx
  · exact h1

theorem up_keeps (s : State) (b : Fin 4) (x : LinkDir UpCell StatusCell) (hw : Sub 0x400000000 W) (hx : LinkOk x)
    (h : Keeps W s0 s) :
    Keeps W s0 { s with up := s.up.set b x } := by
  refine ⟨h.1, ⟨h.2.1.1, { h.2.1.2 with up := ?_ }⟩, { h.2.2 with up := sameIn hw }⟩
  intro i
  have h1 := h.2.1.2.up i
  simp only [Fin.getElem_fin, Vector.getElem_set]
  split
  · exact hx
  · exact h1

theorem State.sendDown_keeps (s : State) (b : Fin 4) (c : DownCell) (hw : Sub 0x200000000 W)
    (h : Keeps W s0 s) : Keeps W s0 (s.sendDown b c) :=
  down_keeps s b _ hw (linkPut_ok _ c (h.2.1.2.down b)) h

theorem State.sendDownExpress_keeps (s : State) (b : Fin 4) (c : DownCell) (hw : Sub 0x200000000 W)
    (h : Keeps W s0 s) : Keeps W s0 (s.sendDownExpress b c) :=
  down_keeps s b _ hw (linkExpress_ok _ c (h.2.1.2.down b)) h

theorem State.sendUp_keeps (s : State) (b : Fin 4) (c : UpCell) (hw : Sub 0x400000000 W) (h : Keeps W s0 s) : Keeps W s0
    (s.sendUp b c) :=
  up_keeps s b _ hw (linkPut_ok _ c (h.2.1.2.up b)) h

theorem State.sendUpExpress_keeps (s : State) (b : Fin 4) (c : UpCell) (hw : Sub 0x400000000 W)
    (h : Keeps W s0 s) : Keeps W s0 (s.sendUpExpress b c) :=
  up_keeps s b _ hw (linkExpress_ok _ c (h.2.1.2.up b)) h

theorem State.bankRaise_keeps (s : State) (b : Fin 4) (id kind index : Nat) (detail : Word) (hw : Sub 0x400000000 W)
    (hk_s : Keeps W s0 s) :
    Keeps W s0 (State.bankRaise s b id kind index detail) := by
  unfold State.bankRaise
  repeat' (with_reducible first | assumption | exact su hw | apply State.sendUpExpress_keeps)

theorem State.groupRaise_keeps (s : State) (b : Fin 4) (id : Nat) (g : Fin 4) (note : BitVec 8) (hw : Sub 0x400000000 W)
    (hk_s : Keeps W s0 s) :
    Keeps W s0 (State.groupRaise s b id g note) := by
  unfold State.groupRaise
  repeat' (with_reducible first | assumption | exact su hw | apply State.sendUpExpress_keeps)

theorem State.bankEnd_keeps (s : State) (b : Fin 4) (id kind index : Nat) (hw : Sub 0x400000000 W) (hk_s : Keeps W s0 s) :
    Keeps W s0 (State.bankEnd s b id kind index) := by
  unfold State.bankEnd
  repeat' (with_reducible first | assumption | exact su hw | apply State.sendUpExpress_keeps)

theorem refuse_keeps (s : State) (code : BitVec 16) (hw : Sub 0x0 W) (hk_s : Keeps W s0 s) :
    KeepsR W s0 (refuse s code) := by
  unfold refuse
  repeat' (with_reducible first | assumption | exact su hw | apply keepsR_mk)

theorem okRes_keeps (s : State) (hw : Sub 0x0 W) (hk_s : Keeps W s0 s) :
    KeepsR W s0 (okRes s) := by
  unfold okRes
  repeat' (with_reducible first | assumption | exact su hw | apply keepsR_mk)

/-! ### Points -/

theorem State.setPub_keeps (s : State) (p : PubState) (hw : Sub 0x40000000000 W) (hk_s : Keeps W s0 s) :
    Keeps W s0 (State.setPub s p) := by
  unfold State.setPub
  repeat' (with_reducible
    first | assumption | exact su hw | intro _ | extract_lets | dsimp +zetaDelta only | refine keeps_canopy rfl rfl ?_ ?_)

theorem State.qualify_keeps (s : State) (h : Nat) (oldQ newQ : Byte) (v : Int) (hw : Sub 0x40000000000 W)
    (hk_s : Keeps W s0 s) :
    Keeps W s0 (State.qualify s h oldQ newQ v) := by
  unfold State.qualify
  repeat' (with_reducible
    first | assumption | exact su hw | intro _ | extract_lets | apply State.setPub_keeps | apply keepsIte | split)

/-- Replacing the store of point records by a canonical one. -/
theorem points_keeps (s : State) (m : Store) (hw : Sub 0x40000000000 W) (hm : cellsWf zeroByte m = true) (h : Keeps W s0 s) :
    Keeps W s0 { s with canopy := { s.canopy with points := m } } :=
  ⟨h.1, ⟨{ h.2.1.1 with points := hm }, h.2.1.2⟩, { h.2.2 with canopy := sameIn hw }⟩

theorem State.storePoint_keeps (s : State) (h : Nat) (v : Int) (q : Byte) (epoch : Nat) (hw : Sub 0x40000000000 W)
    (hs : Keeps W s0 s) : Keeps W s0 (s.storePoint h v q epoch) := by
  unfold State.storePoint
  exact State.qualify_keeps _ _ _ _ _ (su hw) (points_keeps s _ (su hw) (cellsWf_writeL hs.2.1.1.points) hs)

theorem State.writePoint_keeps (s : State) (h : Nat) (v : Int) (q : Byte) (epoch : Nat) (hw : Sub 0x40000000000 W)
    (hk_s : Keeps W s0 s) :
    Keeps W s0 (State.writePoint s h v q epoch) := by
  unfold State.writePoint
  repeat' (with_reducible
    first | assumption | exact su hw | intro _ | extract_lets | apply State.storePoint_keeps | apply keepsIte | split
          | dsimp +zetaDelta only | refine keeps_canopy rfl rfl ?_ ?_)

theorem State.ownPoint_keeps (s : State) (h : Nat) (v : Int) (q : Byte) (hw : Sub 0x40000000000 W) (hk_s : Keeps W s0 s) :
    Keeps W s0 (State.ownPoint s h v q) := by
  unfold State.ownPoint
  repeat' (with_reducible first | assumption | exact su hw | apply State.writePoint_keeps)

theorem State.syncPoint_keeps (s : State) (h : Nat) (v : Int) (q : Byte) (hw : Sub 0x40000000000 W) (hk_s : Keeps W s0 s) :
    Keeps W s0 (State.syncPoint s h v q) := by
  unfold State.syncPoint
  repeat' (with_reducible first | assumption | exact su hw | apply State.ownPoint_keeps | apply keepsIte)

theorem State.devicePoint_keeps (s : State) (h : Nat) (v : Int) (hw : Sub 0x40000000000 W) (hk_s : Keeps W s0 s) :
    Keeps W s0 (State.devicePoint s h v) := by
  unfold State.devicePoint
  repeat' (with_reducible first | assumption | exact su hw | apply State.syncPoint_keeps)

theorem State.userPoints_keeps (s : State) (hw : Sub 0x40000000000 W) (hk_s : Keeps W s0 s) :
    Keeps W s0 (State.userPoints s) := by
  unfold State.userPoints
  repeat' (with_reducible
    first | assumption | exact su hw | intro _ | apply State.devicePoint_keeps | apply keepsIte | apply keepsFold)

theorem State.clearPoint_keeps (s : State) (h : Nat) (hw : Sub 0x40000000000 W) (hk_s : Keeps W s0 s) :
    Keeps W s0 (State.clearPoint s h) := by
  unfold State.clearPoint
  repeat' (with_reducible first | assumption | exact su hw | apply State.syncPoint_keeps)

/-! ### Nor -/

theorem nor_keeps (s : State) (m : Store) (hw : Sub 0x1000000000000000 W) (hm : cellsWf norByte m = true) (h : Keeps W s0 s) :
    Keeps W s0 { s with msp := { s.msp with nor := m } } :=
  ⟨h.1, ⟨{ h.2.1.1 with nor := hm }, h.2.1.2⟩, { h.2.2 with nor := sameIn hw }⟩

theorem State.writeNor_keeps (s : State) (addr : Nat) (l : List Byte) (hw : Sub 0x1000000000000000 W) (h : Keeps W s0 s) :
    Keeps W s0 (s.writeNor addr l) := nor_keeps s _ hw (cellsWf_writeL h.2.1.1.nor) h

theorem State.eraseNor_keeps (s : State) (addr n : Nat) (hw : Sub 0x1000000000000000 W) (h : Keeps W s0 s) :
    Keeps W s0 (s.eraseNor addr n) := nor_keeps s _ hw (cellsWf_filter h.2.1.1.nor) h

theorem State.writeHeader_keeps (s : State) (cfg boot fw : Nat) (hw : Sub 0x11000000000000000 W) (hk_s : Keeps W s0 s) :
    Keeps W s0 (State.writeHeader s cfg boot fw) := by
  unfold State.writeHeader
  repeat' (with_reducible
    first | assumption | exact su hw | extract_lets | apply State.writeNor_keeps | apply State.eraseNor_keeps | split
          | dsimp +zetaDelta only | refine keeps_sup ?_ ?_)

theorem State.appendEpoch_keeps (s : State) (v : Nat) (hw : Sub 0x1000000000000000 W) (hk_s : Keeps W s0 s) :
    Keeps W s0 (State.appendEpoch s v) := by
  unfold State.appendEpoch
  repeat' (with_reducible
    first | assumption | exact su hw | extract_lets | apply State.writeNor_keeps | apply State.eraseNor_keeps
          | apply keepsIte)

theorem State.recordEpoch_keeps (s : State) (hw : Sub 0x1000040000000000 W) (hk_s : Keeps W s0 s) :
    Keeps W s0 (State.recordEpoch s) := by
  unfold State.recordEpoch
  repeat' (with_reducible
    first | assumption | exact su hw | extract_lets | apply State.appendEpoch_keeps | split
          | refine keeps_canopy rfl rfl ?_ ?_)

theorem State.recordEpochs_keeps (s : State) (hw : Sub 0x1000040000000000 W) (hk_s : Keeps W s0 s) :
    Keeps W s0 (State.recordEpochs s) := by
  unfold State.recordEpochs
  repeat' (with_reducible first | assumption | exact su hw | intro _ | apply State.recordEpoch_keeps | apply keepsFold)

/-! ### SwitchOps -/

theorem State.modPort_keeps (s : State) (p : Fin 3) (g : Port → Port) (hw : Sub 0x80000000000000 W) (hk_s : Keeps W s0 s) :
    Keeps W s0 (State.modPort s p g) := by
  unfold State.modPort
  repeat' (with_reducible first | assumption | exact su hw | extract_lets | refine keeps_ports ?_ ?_)

theorem State.portCnt_keeps (s : State) (p : Fin 3) (k : Nat) (hw : Sub 0x200000 W) (hb : k < 4096) (hk_s : Keeps W s0 s) :
    Keeps W s0 (State.portCnt s p k) := by
  unfold State.portCnt
  repeat' (with_reducible first | assumption | exact su hw | apply State.incAt_keeps | exact inn hw | omega)

theorem State.portAdd_keeps (s : State) (p : Fin 3) (k v : Nat) (hw : Sub 0x200000 W) (hb : k < 4096) (hk_s : Keeps W s0 s) :
    Keeps W s0 (State.portAdd s p k v) := by
  unfold State.portAdd
  repeat' (with_reducible first | assumption | exact su hw | apply State.setPAt_keeps | exact inn hw | omega)

theorem State.setMac_keeps (s : State) (t : List MacEntry) (hw : Sub 0x100000000400000 W) (hk_s : Keeps W s0 s) :
    Keeps W s0 (State.setMac s t) := by
  unfold State.setMac
  repeat' (with_reducible
    first | assumption | exact su hw | extract_lets | apply State.setP_keeps | refine keeps_sw ?_ ?_ | exact inn hw | omega)

theorem State.learn_keeps (s : State) (p : Fin 3) (m : BitVec 48) (vid : BitVec 12) (hw : Sub 0x100200000400000 W)
    (hk_s : Keeps W s0 s) :
    Keeps W s0 (State.learn s p m vid) := by
  unfold State.learn
  repeat' (with_reducible
    first | assumption | exact su hw | intro _ | extract_lets | apply State.inc_keeps | apply State.orP_keeps
          | apply State.raise_keeps | apply State.setMac_keeps | apply keepsIte | split | dsimp +zetaDelta only | exact inn hw
          | omega)

theorem State.flushPorts_keeps (s : State) (mask : BitVec 4) (hw : Sub 0x100000000400000 W) (hk_s : Keeps W s0 s) :
    Keeps W s0 (State.flushPorts s mask) := by
  unfold State.flushPorts
  repeat' (with_reducible first | assumption | exact su hw | intro _ | apply State.setMac_keeps)

theorem State.bufStat_keeps (s : State) (hw : Sub 0x400000 W) (hk_s : Keeps W s0 s) :
    Keeps W s0 (State.bufStat s) := by
  unfold State.bufStat
  repeat' (with_reducible
    first | assumption | exact su hw | extract_lets | apply State.setP_keeps | dsimp +zetaDelta only | exact inn hw | omega)

theorem State.startTx_keeps (s : State) (p : Fin 3) (hw : Sub 0x80000000000000 W) (hk_s : Keeps W s0 s) :
    Keeps W s0 (State.startTx s p) := by
  unfold State.startTx
  repeat' (with_reducible first | assumption | exact su hw | intro _ | extract_lets | apply State.modPort_keeps | split)

theorem State.endTx_keeps (s : State) (p : Fin 3) (hw : Sub 0x80000000600000 W) (hk_s : Keeps W s0 s) :
    Keeps W s0 (State.endTx s p) := by
  unfold State.endTx
  repeat' (with_reducible
    first | assumption | exact su hw | intro _ | extract_lets | apply State.modPort_keeps | apply State.portCnt_keeps
          | apply State.portAdd_keeps | apply State.bufStat_keeps | apply State.startTx_keeps | apply keepsIte | split
          | dsimp +zetaDelta only | omega)

theorem State.stomped_keeps (s : State) (p : Fin 3) (hw : Sub 0x200000200000 W) (hk_s : Keeps W s0 s) :
    Keeps W s0 (State.stomped s p) := by
  unfold State.stomped
  repeat' (with_reducible
    first | assumption | exact su hw | apply State.orP_keeps | apply State.raise_keeps | apply State.portCnt_keeps
          | exact inn hw | omega)

theorem State.enqueue_keeps (s : State) (p : Fin 3) (x : QFrame) (hw : Sub 0x80200000600000 W) (hk_s : Keeps W s0 s) :
    Keeps W s0 (State.enqueue s p x) := by
  unfold State.enqueue
  repeat' (with_reducible
    first | assumption | exact su hw | intro _ | extract_lets | apply State.orP_keeps | apply State.raise_keeps
          | apply State.modPort_keeps | apply State.portCnt_keeps | apply State.bufStat_keeps | apply State.startTx_keeps
          | apply State.stomped_keeps | apply keepsIte | split | exact inn hw | omega)

theorem State.followGates_keeps (s : State) (p : Fin 3) (hw : Sub 0x80000000000000 W) (hk_s : Keeps W s0 s) :
    Keeps W s0 (State.followGates s p) := by
  unfold State.followGates
  repeat' (with_reducible
    first | assumption | exact su hw | intro _ | extract_lets | apply State.modPort_keeps | apply State.startTx_keeps)

theorem State.changeList_keeps (s : State) (p : Fin 3) (hw : Sub 0x80000000000000 W) (hk_s : Keeps W s0 s) :
    Keeps W s0 (State.changeList s p) := by
  unfold State.changeList
  repeat' (with_reducible
    first | assumption | exact su hw | intro _ | extract_lets | apply State.modPort_keeps | apply keepsIte | split)

theorem State.stepGates_keeps (s : State) (hw : Sub 0x80000000000000 W) (hk_s : Keeps W s0 s) :
    Keeps W s0 (State.stepGates s) := by
  unfold State.stepGates
  repeat' (with_reducible
    first | assumption | exact su hw | intro _ | apply State.followGates_keeps | apply State.changeList_keeps
          | apply keepsFold)

theorem State.sendOn_keeps (s : State) (p : Fin 3) (f : Frame) (pcp : Fin 8) (vid : BitVec 12) (untagged : Nat)
    (cut : Bool) (pub : Option Nat) (buf : Nat) (hw : Sub 0x80200000600000 W) (hk_s : Keeps W s0 s) :
    Keeps W s0 (State.sendOn s p f pcp vid untagged cut pub buf) := by
  unfold State.sendOn
  repeat' (with_reducible first | assumption | exact su hw | extract_lets | apply State.enqueue_keeps)

theorem State.sendOwn_keeps (s : State) (dst : BitVec 48) (express : Bool) (payload : List Byte) (pub : Option Nat)
    (hw : Sub 0x180200000600000 W) (hk_s : Keeps W s0 s) :
    Keeps W s0 (State.sendOwn s dst express payload pub) := by
  unfold State.sendOwn
  repeat' (with_reducible
    first | assumption | exact su hw | intro _ | extract_lets | apply State.sendOn_keeps | apply keepsIte | apply keepsFold
          | split | dsimp +zetaDelta only | refine keeps_sw ?_ ?_)

theorem State.sendTopo_keeps (s : State) (p : Fin 3) (payload : List Byte) (hw : Sub 0x180200000600000 W)
    (hk_s : Keeps W s0 s) :
    Keeps W s0 (State.sendTopo s p payload) := by
  unfold State.sendTopo
  repeat' (with_reducible
    first | assumption | exact su hw | extract_lets | apply State.sendOn_keeps | dsimp +zetaDelta only
          | refine keeps_sw ?_ ?_)

theorem State.sendPtp_keeps (s : State) (p : Fin 3) (payload : List Byte) (hw : Sub 0x180200000600000 W) (hk_s : Keeps W s0 s) :
    Keeps W s0 (State.sendPtp s p payload) := by
  unfold State.sendPtp
  repeat' (with_reducible
    first | assumption | exact su hw | extract_lets | apply State.portCnt_keeps | apply State.enqueue_keeps
          | dsimp +zetaDelta only | refine keeps_sw ?_ ?_ | omega)

/-! ### GclOps -/

theorem State.gclCnt_keeps (s : State) (k : Nat) (hw : Sub 0x800000 W) (hb : k < 4096) (hk_s : Keeps W s0 s) :
    Keeps W s0 (State.gclCnt s k) := by
  unfold State.gclCnt
  repeat' (with_reducible first | assumption | exact su hw | apply State.incAt_keeps | exact inn hw | omega)

theorem State.sendGcl_keeps (s : State) (f : OwnFrame) (hw : Sub 0x580200000E00000 W) (hk_s : Keeps W s0 s) :
    Keeps W s0 (State.sendGcl s f) := by
  unfold State.sendGcl
  repeat' (with_reducible
    first | assumption | exact su hw | extract_lets | apply State.sendOwn_keeps | apply State.gclCnt_keeps | apply keepsIte
          | split | dsimp +zetaDelta only | refine keeps_gcl rfl ?_ ?_ | omega)

theorem State.sendMaster_keeps (s : State) (m srcNode : Nat) (srcMac : BitVec 48) (f : BitVec 48 → Nat → OwnFrame)
    (hw : Sub 0x580200000E00000 W) (hk_s : Keeps W s0 s) :
    Keeps W s0 (State.sendMaster s m srcNode srcMac f) := by
  unfold State.sendMaster
  repeat' (with_reducible first | assumption | exact su hw | intro _ | apply State.sendGcl_keeps | apply keepsFold)

/-! ### MbxOps -/

theorem State.writeBuf_keeps (s : State) (buf off : Nat) (l : List Byte) (hw : Sub 0x8000000000000 W) (h : Keeps W s0 s) :
    Keeps W s0 (s.writeBuf buf off l) :=
  ⟨h.1, ⟨{ h.2.1.1 with ram := cellsWf_writeL h.2.1.1.ram }, h.2.1.2⟩, { h.2.2 with ram := sameIn hw }⟩

theorem State.setBuf_keeps (s : State) (buf : Nat) (v : Option BufState) (hw : Sub 0x10000000000000 W) (hk_s : Keeps W s0 s) :
    Keeps W s0 (State.setBuf s buf v) := by
  unfold State.setBuf
  repeat' (with_reducible
    first | assumption | exact su hw | extract_lets | refine keeps_mbx rfl rfl ?_ ?_ ?_ | exact sameRfl | exact sameIn hw)

theorem State.claim_keeps (s : State) (ep : Fin 8) (hw : Sub 0x10200000080000 W) (hk_s : Keeps W s0 s) :
    Keeps W s0 ((State.claim s ep).2) := by
  unfold State.claim
  repeat' (with_reducible
    first | assumption | exact su hw | extract_lets | apply State.orP_keeps | apply State.occur_keeps
          | apply State.setBuf_keeps | dsimp only | split | exact inn hw | omega)

theorem State.refusePosting_keeps (s : State) (ep : Fin 8) (code : BitVec 16) (hw : Sub 0x200000080000 W)
    (hk_s : Keeps W s0 s) :
    Keeps W s0 (State.refusePosting s ep code) := by
  unfold State.refusePosting
  repeat' (with_reducible
    first | assumption | exact su hw | extract_lets | apply State.inc_keeps | apply State.orP_keeps | apply State.occur_keeps
          | apply keepsIte | split | dsimp +zetaDelta only | exact inn hw | omega)

theorem setPhase_ok (tag ph : Nat) (x : Endpoint) (h : EpOk x) : EpOk (setPhase tag ph x) := h

theorem State.clearPosted_keeps (s : State) (ep : Fin 8) (hw : Sub 0x4000000000000 W) (hk_s : Keeps W s0 s) :
    Keeps W s0 (State.clearPosted s ep) := by
  unfold State.clearPosted
  repeat' (with_reducible
    first | assumption | exact su hw | intro _ | extract_lets | apply State.modEp_keeps | apply keepsIte | split
          | refine epOkMk ?_ rfl)

theorem State.sendRsp_keeps (s : State) (ep : Fin 8) (tag : Nat) (seq : Word) (opcode : Nat) (code : BitVec 16)
    (payload : List Byte) (srcNode : Nat) (srcMac : BitVec 48) (hw : Sub 0x580200000E00000 W) (hk_s : Keeps W s0 s) :
    Keeps W s0 (State.sendRsp s ep tag seq opcode code payload srcNode srcMac) := by
  unfold State.sendRsp
  repeat' (with_reducible first | assumption | exact su hw | intro _ | extract_lets | apply State.sendMaster_keeps)

theorem State.pushCompletion_keeps (s : State) (c : Completion) (hw : Sub 0x4000000000000 W) (hk_s : Keeps W s0 s) :
    Keeps W s0 (State.pushCompletion s c) := by
  unfold State.pushCompletion
  repeat' (with_reducible
    first | assumption | exact su hw | intro _ | extract_lets | apply State.modEp_keeps | refine epOkMk ?_ rfl)

theorem State.finishRaw_keeps (s : State) (q : Req) (opcode : Nat) (code : BitVec 16) (payload : List Byte) (data : Word)
    (hw : Sub 0x59C200000E00000 W) (hk_s : Keeps W s0 s) :
    Keeps W s0 (State.finishRaw s q opcode code payload data) := by
  unfold State.finishRaw
  repeat' (with_reducible
    first | assumption | exact su hw | intro _ | extract_lets | apply State.modEp_keeps | apply State.writeBuf_keeps
          | apply State.setBuf_keeps | apply State.clearPosted_keeps | apply State.sendRsp_keeps
          | apply State.pushCompletion_keeps | apply keepsIte | apply setPhase_ok | split | refine epOkMk ?_ rfl
          | dsimp +zetaDelta only)

theorem State.finishReplay_keeps (s : State) (q : Req) (e : ReplayEntry) (hw : Sub 0x59C200000E80000 W) (hk_s : Keeps W s0 s) :
    Keeps W s0 (State.finishReplay s q e) := by
  unfold State.finishReplay
  repeat' (with_reducible
    first | assumption | exact su hw | extract_lets | apply State.inc_keeps | apply State.finishRaw_keeps | apply keepsIte
          | split | dsimp +zetaDelta only | exact inn hw | omega)

theorem State.accept_keeps (s : State) (ep : Fin 8) (tag : Nat) (seq : Word) (single : Bool) (opBuf opcode phase : Nat)
    (srcNode : Nat) (srcMac : BitVec 48) (epoch : Word) (hw : Sub 0x5BC200000E80000 W) (hk_s : Keeps W s0 s) :
    Keeps W s0 (State.accept s ep tag seq single opBuf opcode phase srcNode srcMac epoch) := by
  unfold State.accept
  repeat' (with_reducible
    first | assumption | exact su hw | intro _ | extract_lets | apply State.inc_keeps | apply State.modEp_keeps
          | apply State.setBuf_keeps | apply State.finishReplay_keeps | apply keepsIte | split | refine epOkMk ?_ rfl
          | dsimp +zetaDelta only | refine keeps_mbx rfl rfl ?_ ?_ ?_ | exact inn hw | omega | exact sameRfl
          | exact sameIn hw)

theorem windowPush_length (w : List ReplayEntry) (e : ReplayEntry) : (windowPush w e).length ≤ 64 := by
  simp [windowPush]; omega

theorem State.finish_keeps (s : State) (q : Req) (opcode : Nat) (code : BitVec 16) (payload : List Byte)
    (hw : Sub 0x5BC200000E80000 W)
    (h : Keeps W s0 s) : Keeps W s0 (s.finish q opcode code payload) := by
  unfold State.finish
  extract_lets s1 s2 e s2'
  have h1 : Keeps W s0 s1 := State.finishRaw_keeps _ _ _ _ _ _ (su hw) h
  clear_value s1
  have h2 : Keeps W s0 s2 := by
    repeat' (with_reducible first | assumption | exact su hw | intro _ | extract_lets | apply State.inc_keeps | exact inn hw | omega)
  clear_value s2
  split
  · split
    · exact h2
    · extract_lets s3
      have h3 : Keeps W s0 s3 := State.modEp_keeps _ _ _ (su hw) (fun _ hx => hx) h2
      clear_value s3
      exact ⟨h3.1, h3.2.1, { h3.2.2 with mbxq := sameIn hw }⟩
  · exact keepsFold (fun s _ hs => State.finishReplay_keeps s _ _ (su hw) hs)
      (State.modEp_keeps _ _ _ (su hw) (fun _ _ => windowPush_length _ _) h1)

theorem CmdRes.finish_keeps (r : CmdRes) (q : Req) (opcode : Nat) (hw : Sub 0x5BC200000E80000 W) (hk_r : KeepsR W s0 r) :
    Keeps W s0 (CmdRes.finish r q opcode) := by
  unfold CmdRes.finish
  repeat' (with_reducible first | assumption | exact su hw | apply State.finish_keeps | apply keepsR_mk | apply keepsR_st)

theorem CmdRes.startLong_keeps (r : CmdRes) (q : Req) (opcode : Nat) (hw : Sub 0x3C000000000000 W) (hk_r : KeepsR W s0 r) :
    Keeps W s0 (CmdRes.startLong r q opcode) := by
  unfold CmdRes.startLong
  repeat' (with_reducible
    first | assumption | exact su hw | intro _ | extract_lets | apply State.modEp_keeps | apply State.clearPosted_keeps
          | apply setPhase_ok | apply keepsR_mk | apply keepsR_st | refine epOkMk ?_ rfl | dsimp +zetaDelta only
          | refine keeps_mbx rfl rfl ?_ ?_ ?_ | exact sameRfl | exact sameIn hw)

/-! ### Tick -/

theorem tick_keeps (s : State) (hw : Sub 0x80000180600000 W) (hk_s : Keeps W s0 s) :
    Keeps W s0 (tick s) := by
  unfold tick
  repeat' (with_reducible
    first | assumption | exact su hw | intro _ | extract_lets | apply State.endTx_keeps | apply keepsIte | apply keepsFold
          | split | dsimp +zetaDelta only | refine keeps_tb_banks ?_ ?_)

/-! ### Time -/

theorem State.modTb_keeps (s : State) (g : TimeBase → TimeBase) (hw : Sub 0x80000000 W) (hk_s : Keeps W s0 s) :
    Keeps W s0 (State.modTb s g) := by
  unfold State.modTb
  repeat' (with_reducible first | assumption | exact su hw | extract_lets | refine keeps_tb ?_ ?_)

theorem State.tbEvent_keeps (s : State) (i : Nat) (hw : Sub 0x80000000 W) (hk_s : Keeps W s0 s) :
    Keeps W s0 (State.tbEvent s i) := by
  unfold State.tbEvent
  repeat' (with_reducible first | assumption | exact su hw | intro _ | extract_lets | apply State.modTb_keeps)

theorem State.journalTime_keeps (s : State) (old new ev : Nat) (amount : Int) (hw : Sub 0x4000000000000000 W)
    (hk_s : Keeps W s0 s) :
    Keeps W s0 (State.journalTime s old new ev amount) := by
  unfold State.journalTime
  repeat' (with_reducible first | assumption | exact su hw | apply State.journalAt_keeps)

theorem State.setUncertain_keeps (s : State) (reason : BitVec 8) (hw : Sub 0x4404000080000000 W) (hk_s : Keeps W s0 s) :
    Keeps W s0 (State.setUncertain s reason) := by
  unfold State.setUncertain
  repeat' (with_reducible
    first | assumption | exact su hw | intro _ | extract_lets | apply State.ringAll_keeps | apply State.helloSoon_keeps
          | apply State.finish_keeps | apply CmdRes.finish_keeps | apply State.modTb_keeps | apply State.tbEvent_keeps
          | apply State.journalTime_keeps | apply keepsIte)

theorem State.setTime_keeps (s : State) (st : Nat) (hw : Sub 0x4404040080000000 W) (hk_s : Keeps W s0 s) :
    Keeps W s0 (State.setTime s st) := by
  unfold State.setTime
  repeat' (with_reducible
    first | assumption | exact su hw | intro _ | extract_lets | apply State.ringAll_keeps | apply State.helloSoon_keeps
          | apply State.devicePoint_keeps | apply State.modTb_keeps | apply State.journalTime_keeps
          | apply State.setUncertain_keeps | apply keepsIte)

theorem State.stepTime_keeps (s : State) (amount : Int) (hw : Sub 0x4080000080000000 W) (hk_s : Keeps W s0 s) :
    Keeps W s0 (State.stepTime s amount) := by
  unfold State.stepTime
  repeat' (with_reducible
    first | assumption | exact su hw | intro _ | extract_lets | apply State.stepGates_keeps | apply State.modTb_keeps
          | apply State.tbEvent_keeps | apply State.journalTime_keeps)

theorem State.steer_keeps (s : State) (demand : Int) (hw : Sub 0x200080000000 W) (hk_s : Keeps W s0 s) :
    Keeps W s0 (State.steer s demand) := by
  unfold State.steer
  repeat' (with_reducible
    first | assumption | exact su hw | intro _ | extract_lets | apply State.raise_keeps | apply State.modTb_keeps
          | apply State.tbEvent_keeps | apply keepsIte)

theorem State.lockedUncertain_keeps (s : State) (off : Int) (hw : Sub 0x4404000080000000 W) (hk_s : Keeps W s0 s) :
    Keeps W s0 (State.lockedUncertain s off) := by
  unfold State.lockedUncertain
  repeat' (with_reducible
    first | assumption | exact su hw | intro _ | extract_lets | apply State.modTb_keeps | apply State.setUncertain_keeps
          | apply keepsIte)

theorem State.servoUpdate_keeps (s : State) (off demand : Int) (hw : Sub 0x4484240080000000 W) (hk_s : Keeps W s0 s) :
    Keeps W s0 (State.servoUpdate s off demand) := by
  unfold State.servoUpdate
  repeat' (with_reducible
    first | assumption | exact su hw | intro _ | extract_lets | apply State.modTb_keeps | apply State.setUncertain_keeps
          | apply State.setTime_keeps | apply State.stepTime_keeps | apply State.steer_keeps
          | apply State.lockedUncertain_keeps | apply keepsIte | split)

theorem State.sendSync_keeps (s : State) (except : Option (Fin 3)) (hw : Sub 0x180200000600000 W) (hk_s : Keeps W s0 s) :
    Keeps W s0 (State.sendSync s except) := by
  unfold State.sendSync
  repeat' (with_reducible first | assumption | exact su hw | intro _ | apply State.sendPtp_keeps | apply keepsFold)

theorem execGptpSyncReceived_keeps (p : Fin 3) (rx : CellTime) (gm demand : Int) (s : State)
    (hw : Sub 0x4584240080600000 W) (hk_s : Keeps W s0 s) :
    KeepsO W s0 (execGptpSyncReceived p rx gm demand s) := by
  unfold execGptpSyncReceived
  repeat' (with_reducible
    first | assumption | exact su hw | extract_lets | apply State.portCnt_keeps | apply State.servoUpdate_keeps
          | apply State.sendSync_keeps | apply keepsIte | apply keepsO_next | split | dsimp +zetaDelta only
          | refine keeps_sw ?_ ?_ | omega)

theorem execSyncLossTimeout_keeps (s : State) (hw : Sub 0x4404040080000000 W) (hk_s : Keeps W s0 s) :
    KeepsO W s0 (execSyncLossTimeout s) := by
  unfold execSyncLossTimeout
  repeat' (with_reducible first | assumption | exact su hw | apply State.setTime_keeps | apply keepsIte | apply keepsO_next)

theorem State.setGm_keeps (s : State) (gm : BitVec 64) (steps : BitVec 16) (port : Option (Fin 3)) (hw : Sub 0x80000000 W)
    (hk_s : Keeps W s0 s) :
    Keeps W s0 (State.setGm s gm steps port) := by
  unfold State.setGm
  repeat' (with_reducible
    first | assumption | exact su hw | intro _ | extract_lets | apply State.modTb_keeps | apply State.tbEvent_keeps
          | apply keepsIte)

theorem State.ptpRoles_keeps (s : State) (slave : Option (Fin 3)) (hw : Sub 0x80000000000000 W) (hk_s : Keeps W s0 s) :
    Keeps W s0 (State.ptpRoles s slave) := by
  unfold State.ptpRoles
  repeat' (with_reducible
    first | assumption | exact su hw | intro _ | extract_lets | apply keepsIte | split | refine keeps_ports ?_ ?_)

theorem State.toAcquire_keeps (s : State) (hw : Sub 0x4404040080000000 W) (hk_s : Keeps W s0 s) :
    Keeps W s0 (State.toAcquire s) := by
  unfold State.toAcquire
  repeat' (with_reducible
    first | assumption | exact su hw | intro _ | extract_lets | apply State.modTb_keeps | apply State.setTime_keeps)

theorem State.selectMaster_keeps (s : State) (c : MasterChoice) (hw : Sub 0x4484040080000000 W) (hk_s : Keeps W s0 s) :
    Keeps W s0 (State.selectMaster s c) := by
  unfold State.selectMaster
  repeat' (with_reducible
    first | assumption | exact su hw | intro _ | extract_lets | apply State.modTb_keeps | apply State.setTime_keeps
          | apply State.setGm_keeps | apply State.ptpRoles_keeps | apply State.toAcquire_keeps | apply keepsIte | split)

theorem execBestMasterChange_keeps (c : MasterChoice) (s : State) (hw : Sub 0x4484040080000000 W) (hk_s : Keeps W s0 s) :
    KeepsO W s0 (execBestMasterChange c s) := by
  unfold execBestMasterChange
  repeat' (with_reducible first | assumption | exact su hw | apply State.selectMaster_keeps | apply keepsO_next)

theorem execAnnounceReceiptTimeout_keeps (p : Fin 3) (c : MasterChoice) (s : State) (hw : Sub 0x4484040080000000 W)
    (hk_s : Keeps W s0 s) :
    KeepsO W s0 (execAnnounceReceiptTimeout p c s) := by
  unfold execAnnounceReceiptTimeout
  repeat' (with_reducible
    first | assumption | exact su hw | intro _ | extract_lets | apply State.modPort_keeps | apply State.modTb_keeps
          | apply State.selectMaster_keeps | apply keepsIte | apply keepsO_next)

theorem execHoldoverEvaluation_keeps (s : State) (hw : Sub 0x4404000080000000 W) (hk_s : Keeps W s0 s) :
    KeepsO W s0 (execHoldoverEvaluation s) := by
  unfold execHoldoverEvaluation
  repeat' (with_reducible
    first | assumption | exact su hw | apply State.setUncertain_keeps | apply keepsIte | apply keepsO_next)

theorem execPpsInEdge_keeps (falling : Bool) (t : CellTime) (demand : Int) (s : State) (hw : Sub 0x4484240080000010 W)
    (hk_s : Keeps W s0 s) :
    KeepsO W s0 (execPpsInEdge falling t demand s) := by
  unfold execPpsInEdge
  repeat' (with_reducible
    first | assumption | exact su hw | intro _ | extract_lets | apply State.inc_keeps | apply State.modTb_keeps
          | apply State.tbEvent_keeps | apply State.setTime_keeps | apply State.stepTime_keeps | apply State.steer_keeps
          | apply keepsIte | apply keepsO_next | split | dsimp +zetaDelta only | exact inn hw | omega)

theorem execPpsLostTimeout_keeps (s : State) (hw : Sub 0x4404040080000000 W) (hk_s : Keeps W s0 s) :
    KeepsO W s0 (execPpsLostTimeout s) := by
  unfold execPpsLostTimeout
  repeat' (with_reducible
    first | assumption | exact su hw | apply State.tbEvent_keeps | apply State.setTime_keeps | apply keepsIte
          | apply keepsO_next)

theorem execPpsOutRise_keeps (s : State) (hw : Sub 0x80000000 W) (hk_s : Keeps W s0 s) :
    KeepsO W s0 (execPpsOutRise s) := by
  unfold execPpsOutRise
  repeat' (with_reducible
    first | assumption | exact su hw | intro _ | extract_lets | apply State.modTb_keeps | apply keepsIte | apply keepsO_next)

theorem execPpsOutFall_keeps (s : State) (hw : Sub 0x80000000 W) (hk_s : Keeps W s0 s) :
    KeepsO W s0 (execPpsOutFall s) := by
  unfold execPpsOutFall
  repeat' (with_reducible
    first | assumption | exact su hw | intro _ | extract_lets | apply State.modTb_keeps | apply keepsIte | apply keepsO_next)

theorem State.takeRole_keeps (s : State) (hw : Sub 0x8FFFFFFF W) (h : Keeps W s0 s) : Keeps W s0 s.takeRole := by
  unfold State.takeRole
  exact State.modTb_keeps _ _ (su hw) (dict_keeps s _ (allParams hw) (cellsWf_foldl h.2.1.1.dict) h)

theorem execSyncIntervalBoundary_keeps (s : State) (hw : Sub 0x18020008FFFFFFF W) (hk_s : Keeps W s0 s) :
    KeepsO W s0 (execSyncIntervalBoundary s) := by
  unfold execSyncIntervalBoundary
  repeat' (with_reducible
    first | assumption | exact su hw | intro _ | extract_lets | apply State.modTb_keeps | apply State.sendSync_keeps
          | apply State.takeRole_keeps | apply keepsIte | apply keepsO_next)

theorem guardWrite_keeps (s : State) (q : Req) (r : CmdRes) (hw : Sub 0x0 W) (hk_s : Keeps W s0 s) (hk_r : KeepsR W s0 r) :
    KeepsR W s0 (guardWrite s q r) := by
  unfold guardWrite
  repeat' (with_reducible first | assumption | exact su hw | apply refuse_keeps | apply keepsIte)

theorem epochSet_keeps (s : State) (v : BitVec 64) (hw : Sub 0x4080000080000010 W) (hk_s : Keeps W s0 s) :
    KeepsR W s0 (epochSet s v) := by
  unfold epochSet
  repeat' (with_reducible
    first | assumption | exact su hw | apply State.setP_keeps | apply refuse_keeps | apply okRes_keeps
          | apply State.stepTime_keeps | apply keepsIte | split | apply keepsR_mk | exact inn hw | omega)

theorem execEpochSet_keeps (q : Req) (v : BitVec 64) (s : State) (hw : Sub 0x45BC200080E80010 W) (hk_s : Keeps W s0 s) :
    KeepsO W s0 (execEpochSet q v s) := by
  unfold execEpochSet
  repeat' (with_reducible
    first | assumption | exact su hw | apply State.finish_keeps | apply CmdRes.finish_keeps | apply guardWrite_keeps
          | apply epochSet_keeps | apply keepsO_next)

theorem ppsTodSeconds_keeps (s : State) (v : BitVec 64) (hw : Sub 0x80000010 W) (hk_s : Keeps W s0 s) :
    KeepsR W s0 (ppsTodSeconds s v) := by
  unfold ppsTodSeconds
  repeat' (with_reducible
    first | assumption | exact su hw | intro _ | extract_lets | apply State.setP_keeps | apply okRes_keeps
          | apply State.modTb_keeps | apply keepsR_mk | exact inn hw | omega)

theorem execPpsTodSeconds_keeps (q : Req) (v : BitVec 64) (s : State) (hw : Sub 0x5BC200080E80010 W) (hk_s : Keeps W s0 s) :
    KeepsO W s0 (execPpsTodSeconds q v s) := by
  unfold execPpsTodSeconds
  repeat' (with_reducible
    first | assumption | exact su hw | apply State.finish_keeps | apply CmdRes.finish_keeps | apply guardWrite_keeps
          | apply ppsTodSeconds_keeps | apply keepsO_next)

theorem execAnnounceInterval_keeps (p : Fin 3) (s : State) (hw : Sub 0x180200000600000 W) (hk_s : Keeps W s0 s) :
    KeepsO W s0 (execAnnounceInterval p s) := by
  unfold execAnnounceInterval
  repeat' (with_reducible
    first | assumption | exact su hw | intro _ | extract_lets | apply State.modPort_keeps | apply State.sendPtp_keeps
          | apply keepsIte | apply keepsO_next)

/-! ### Flags -/

theorem State.uFlag_keeps (s : State) (u : Fin 16) (i : Nat) (on : Bool) (hw : Sub 0x1000000000 W) (hk_s : Keeps W s0 s) :
    Keeps W s0 (State.uFlag s u i on) := by
  unfold State.uFlag
  repeat' (with_reducible first | assumption | exact su hw | intro _ | extract_lets | apply State.modU_keeps)

theorem State.uLive_keeps (s : State) (u : Fin 16) (i : Nat) (on : Bool) (hw : Sub 0x1000000000 W) (hk_s : Keeps W s0 s) :
    Keeps W s0 (State.uLive s u i on) := by
  unfold State.uLive
  repeat' (with_reducible first | assumption | exact su hw | intro _ | extract_lets | apply State.modU_keeps)

theorem State.uDiag_keeps (s : State) (u : Fin 16) (i : Nat) (hw : Sub 0x1000000000 W) (hk_s : Keeps W s0 s) :
    Keeps W s0 (State.uDiag s u i) := by
  unfold State.uDiag
  repeat' (with_reducible first | assumption | exact su hw | intro _ | extract_lets | apply State.modU_keeps)

theorem State.lFlag_keeps (s : State) (l : Fin 8) (i : Nat) (on : Bool) (hw : Sub 0x2000000000 W) (hk_s : Keeps W s0 s) :
    Keeps W s0 (State.lFlag s l i on) := by
  unfold State.lFlag
  repeat' (with_reducible first | assumption | exact su hw | intro _ | extract_lets | apply State.modL_keeps)

theorem State.fFlag_keeps (s : State) (f : Fin 8) (i : Nat) (on : Bool) (hw : Sub 0x4000000000 W) (hk_s : Keeps W s0 s) :
    Keeps W s0 (State.fFlag s f i on) := by
  unfold State.fFlag
  repeat' (with_reducible first | assumption | exact su hw | intro _ | extract_lets | apply State.modF_keeps)

theorem State.gFlag_keeps (s : State) (g : Fin 4) (i : Nat) (on : Bool) (hw : Sub 0x800 W) (hk_s : Keeps W s0 s) :
    Keeps W s0 (State.gFlag s g i on) := by
  unfold State.gFlag
  repeat' (with_reducible
    first | assumption | exact su hw | extract_lets | apply State.setP_keeps | apply keepsIte | split | dsimp +zetaDelta only
          | exact inn hw | omega)

/-! ### OutOps -/

theorem State.driveDo_keeps (s : State) (u : Fin 16) (hw : Sub 0x1000000000 W) (hk_s : Keeps W s0 s) :
    Keeps W s0 (State.driveDo s u) := by
  unfold State.driveDo
  repeat' (with_reducible
    first | assumption | exact su hw | intro _ | extract_lets | apply State.modU_keeps | apply State.uLive_keeps
          | apply keepsIte)

theorem State.driveDac_keeps (s : State) (u : Fin 16) (target : Int) (t : CellTime) (hw : Sub 0x1000000000 W)
    (hk_s : Keeps W s0 s) :
    Keeps W s0 (State.driveDac s u target t) := by
  unfold State.driveDac
  repeat' (with_reducible first | assumption | exact su hw | intro _ | extract_lets | apply State.modU_keeps)

theorem State.setSrcU_keeps (s : State) (u : Fin 16) (g : OutSrc → OutSrc) (hw : Sub 0x1000000000 W) (hk_s : Keeps W s0 s) :
    Keeps W s0 (State.setSrcU s u g) := by
  unfold State.setSrcU
  repeat' (with_reducible
    first | assumption | exact su hw | intro _ | extract_lets | apply State.modU_keeps | apply State.driveDo_keeps
          | apply State.driveDac_keeps | apply keepsIte)

theorem State.changeU_keeps (s : State) (u : Fin 16) (ch : OutChange) (hw : Sub 0x1000000000 W) (hk_s : Keeps W s0 s) :
    Keeps W s0 (State.changeU s u ch) := by
  unfold State.changeU
  repeat' (with_reducible
    first | assumption | exact su hw | intro _ | extract_lets | apply State.modU_keeps | apply State.setSrcU_keeps
          | apply keepsIte | split)

theorem State.clampEnd_keeps (s : State) (l : Fin 8) (hw : Sub 0x2400000000 W) (hk_s : Keeps W s0 s) :
    Keeps W s0 (State.clampEnd s l) := by
  unfold State.clampEnd
  repeat' (with_reducible
    first | assumption | exact su hw | intro _ | extract_lets | apply State.modL_keeps | apply State.bankRaise_keeps
          | apply State.lFlag_keeps | apply keepsIte)

theorem State.turnOn_keeps (s : State) (l : Fin 8) (hw : Sub 0x2400000000 W) (hk_s : Keeps W s0 s) :
    Keeps W s0 (State.turnOn s l) := by
  unfold State.turnOn
  repeat' (with_reducible
    first | assumption | exact su hw | intro _ | extract_lets | apply State.modL_keeps | apply State.lFlag_keeps
          | apply State.clampEnd_keeps)

theorem State.turnOff_keeps (s : State) (l : Fin 8) (hw : Sub 0x2000000000 W) (hk_s : Keeps W s0 s) :
    Keeps W s0 (State.turnOff s l) := by
  unfold State.turnOff
  repeat' (with_reducible
    first | assumption | exact su hw | intro _ | extract_lets | apply State.modL_keeps | apply State.lFlag_keeps)

theorem State.relaunch_keeps (s : State) (l : Fin 8) (hw : Sub 0x2400000000 W) (hk_s : Keeps W s0 s) :
    Keeps W s0 (State.relaunch s l) := by
  unfold State.relaunch
  repeat' (with_reducible
    first | assumption | exact su hw | extract_lets | apply State.turnOn_keeps | apply State.turnOff_keeps | split)

theorem State.gSee_keeps (s : State) (b g : Fin 4) (hw : Sub 0x100000000 W) (hk_s : Keeps W s0 s) :
    Keeps W s0 (State.gSee s b g) := by
  unfold State.gSee
  repeat' (with_reducible first | assumption | exact su hw | intro _ | extract_lets | apply State.modGrp_keeps)

theorem State.relaunchGroup_keeps (s : State) (b g : Fin 4) (hw : Sub 0x2500000000 W) (hk_s : Keeps W s0 s) :
    Keeps W s0 (State.relaunchGroup s b g) := by
  unfold State.relaunchGroup
  repeat' (with_reducible
    first | assumption | exact su hw | intro _ | extract_lets | apply State.modL_keeps | apply State.modGrp_keeps
          | apply State.lFlag_keeps | apply State.relaunch_keeps | apply State.gSee_keeps | apply keepsIte | apply keepsFold)

theorem State.changeG_keeps (s : State) (b g : Fin 4) (ch : OutChange) (hw : Sub 0x2500000000 W) (hk_s : Keeps W s0 s) :
    Keeps W s0 (State.changeG s b g ch) := by
  unfold State.changeG
  repeat' (with_reducible
    first | assumption | exact su hw | intro _ | extract_lets | apply State.modGrp_keeps | apply State.bankEnd_keeps
          | apply State.lFlag_keeps | apply State.relaunchGroup_keeps | apply State.latch_keeps | apply State.tripped_keeps
          | apply keepsIte | apply keepsFold | split)

theorem State.changeL_keeps (s : State) (l : Fin 8) (ch : OutChange) (hw : Sub 0x2400000000 W) (hk_s : Keeps W s0 s) :
    Keeps W s0 (State.changeL s l ch) := by
  unfold State.changeL
  repeat' (with_reducible
    first | assumption | exact su hw | intro _ | extract_lets | apply State.modL_keeps | apply State.relaunch_keeps
          | apply keepsIte | split)

theorem State.change_keeps (s : State) (b : Fin 4) (o : OutRef) (ch : OutChange) (hw : Sub 0x3500000000 W)
    (hk_s : Keeps W s0 s) :
    Keeps W s0 (State.change s b o ch) := by
  unfold State.change
  repeat' (with_reducible
    first | assumption | exact su hw | extract_lets | apply State.changeU_keeps | apply State.changeG_keeps
          | apply State.changeL_keeps | split)

theorem State.skewed_keeps (s : State) (b g : Fin 4) (hw : Sub 0x500000000 W) (hk_s : Keeps W s0 s) :
    Keeps W s0 (State.skewed s b g) := by
  unfold State.skewed
  repeat' (with_reducible
    first | assumption | exact su hw | intro _ | extract_lets | apply State.modGrp_keeps | apply State.bankRaise_keeps
          | apply State.gSee_keeps)

theorem State.deliver_keeps (s : State) (b : Fin 4) (o : OutRef) (ch : OutChange) (launch : Option CellTime)
    (hw : Sub 0x3500000000 W) (hk_s : Keeps W s0 s) :
    Keeps W s0 (State.deliver s b o ch launch) := by
  unfold State.deliver
  repeat' (with_reducible
    first | assumption | exact su hw | intro _ | extract_lets | apply State.modBank_keeps | apply State.change_keeps
          | apply State.skewed_keeps | apply keepsIte | split)

theorem State.setAutonomous_keeps (s : State) (b : Fin 4) (on : Bool) (hw : Sub 0x3500000000 W) (hk_s : Keeps W s0 s) :
    Keeps W s0 (State.setAutonomous s b on) := by
  unfold State.setAutonomous
  repeat' (with_reducible
    first | assumption | exact su hw | intro _ | extract_lets | apply State.modBank_keeps | apply State.modL_keeps
          | apply State.modGrp_keeps | apply State.setSrcU_keeps | apply State.relaunch_keeps
          | apply State.relaunchGroup_keeps | apply keepsIte | apply keepsFold)

theorem State.safeOutputs_keeps (s : State) (b : Fin 4) (mask : BitVec 8) (on : Bool) (hw : Sub 0x3400000000 W)
    (hk_s : Keeps W s0 s) :
    Keeps W s0 (State.safeOutputs s b mask on) := by
  unfold State.safeOutputs
  repeat' (with_reducible
    first | assumption | exact su hw | intro _ | extract_lets | apply State.changeU_keeps | apply State.changeL_keeps
          | apply keepsIte | apply keepsFold)

theorem State.safeGroups_keeps (s : State) (b : Fin 4) (mask : BitVec 4) (on : Bool) (launch : Option CellTime)
    (hw : Sub 0x3500000000 W) (hk_s : Keeps W s0 s) :
    Keeps W s0 (State.safeGroups s b mask on launch) := by
  unfold State.safeGroups
  repeat' (with_reducible
    first | assumption | exact su hw | intro _ | apply State.deliver_keeps | apply keepsIte | apply keepsFold)

theorem State.safeCell_keeps (s : State) (b : Fin 4) (op : Nat) (outputs : BitVec 8) (groups : BitVec 4)
    (launch : Option CellTime) (hw : Sub 0x3500000000 W) (hk_s : Keeps W s0 s) :
    Keeps W s0 (State.safeCell s b op outputs groups launch) := by
  unfold State.safeCell
  repeat' (with_reducible
    first | assumption | exact su hw | intro _ | extract_lets | apply State.modBank_keeps | apply State.changeG_keeps
          | apply State.setAutonomous_keeps | apply State.safeOutputs_keeps | apply State.safeGroups_keeps | apply keepsIte
          | apply keepsFold | split)

theorem State.sendImmU_keeps (s : State) (u : Fin 16) (v : Int) (hw : Sub 0x200000000 W) (hk_s : Keeps W s0 s) :
    Keeps W s0 (State.sendImmU s u v) := by
  unfold State.sendImmU
  repeat' (with_reducible first | assumption | exact su hw | apply State.sendDown_keeps)

theorem State.sendImmL_keeps (s : State) (l : Fin 8) (v : Int) (hw : Sub 0x200000000 W) (hk_s : Keeps W s0 s) :
    Keeps W s0 (State.sendImmL s l v) := by
  unfold State.sendImmL
  repeat' (with_reducible first | assumption | exact su hw | apply State.sendDown_keeps)

theorem State.sendImmG_keeps (s : State) (g : Fin 4) (v : Int) (hw : Sub 0x200000000 W) (hk_s : Keeps W s0 s) :
    Keeps W s0 (State.sendImmG s g v) := by
  unfold State.sendImmG
  repeat' (with_reducible
    first | assumption | exact su hw | intro _ | extract_lets | apply State.sendDown_keeps | apply keepsFold)

theorem State.sendHold_keeps (s : State) (g : Fin 4) (ch : OutChange) (except : Option (Fin 4)) (hw : Sub 0x200000000 W)
    (hk_s : Keeps W s0 s) :
    Keeps W s0 (State.sendHold s g ch except) := by
  unfold State.sendHold
  repeat' (with_reducible
    first | assumption | exact su hw | intro _ | extract_lets | apply State.sendDown_keeps | apply keepsFold)

theorem State.modSide_keeps (s : State) (g : Fin 4) (h : GroupSide → GroupSide) (hw : Sub 0x10000000000 W)
    (hk_s : Keeps W s0 s) :
    Keeps W s0 (State.modSide s g h) := by
  unfold State.modSide
  repeat' (with_reducible first | assumption | exact su hw | extract_lets | refine keeps_coppice ?_ ?_)

theorem State.memberMasks_keeps (s : State) (g : Fin 4) (excluded : Nat) (hw : Sub 0x200000000800 W) (hk_s : Keeps W s0 s) :
    Keeps W s0 (State.memberMasks s g excluded) := by
  unfold State.memberMasks
  repeat' (with_reducible
    first | assumption | exact su hw | extract_lets | apply State.setP_keeps | apply State.endFault_keeps | apply keepsIte
          | split | dsimp +zetaDelta only | exact inn hw | omega)

/-! ### FastOps -/

theorem State.captureLost_keeps (s : State) (f : Fin 8) (hw : Sub 0x204000000000 W) (hk_s : Keeps W s0 s) :
    Keeps W s0 (State.captureLost s f) := by
  unfold State.captureLost
  repeat' (with_reducible
    first | assumption | exact su hw | intro _ | extract_lets | apply State.modF_keeps | apply State.raise_keeps)

theorem State.capture_keeps (s : State) (f : Fin 8) (source : Nat) (falling inexact : Bool) (t : CellTime) (v : Word)
    (hw : Sub 0x4400000000 W) (hk_s : Keeps W s0 s) :
    Keeps W s0 (State.capture s f source falling inexact t v) := by
  unfold State.capture
  repeat' (with_reducible
    first | assumption | exact su hw | intro _ | extract_lets | apply State.modF_keeps | apply State.bankRaise_keeps
          | apply keepsIte)

theorem State.triggerRecord_keeps (s : State) (f : Fin 8) (falling : Bool) (t : CellTime) (hw : Sub 0x4000000000 W)
    (hk_s : Keeps W s0 s) :
    Keeps W s0 (State.triggerRecord s f falling t) := by
  unfold State.triggerRecord
  repeat' (with_reducible
    first | assumption | exact su hw | intro _ | extract_lets | apply State.modF_keeps | apply State.capture_keeps
          | apply keepsIte)

theorem State.recount_keeps (s : State) (f : Fin 8) (log : List CountStep) (hw : Sub 0x4400000000 W) (hk_s : Keeps W s0 s) :
    Keeps W s0 (State.recount s f log) := by
  unfold State.recount
  repeat' (with_reducible
    first | assumption | exact su hw | intro _ | extract_lets | apply State.modF_keeps | apply State.bankRaise_keeps
          | apply State.fFlag_keeps | apply keepsIte)

theorem State.countStep_keeps (s : State) (f : Fin 8) (t : CellTime) (ev : CountEv) (hw : Sub 0x4400000000 W)
    (hk_s : Keeps W s0 s) :
    Keeps W s0 (State.countStep s f t ev) := by
  unfold State.countStep
  repeat' (with_reducible first | assumption | exact su hw | apply State.recount_keeps)

theorem State.countEdge_keeps (s : State) (f : Fin 8) (rising : Bool) (t : CellTime) (hw : Sub 0x4400000000 W)
    (hk_s : Keeps W s0 s) :
    Keeps W s0 (State.countEdge s f rising t) := by
  unfold State.countEdge
  repeat' (with_reducible first | assumption | exact su hw | extract_lets | apply State.countStep_keeps | apply keepsIte)

theorem State.syncAB_keeps (s : State) (f : Fin 8) (t : CellTime) (hw : Sub 0x4400000000 W) (hk_s : Keeps W s0 s) :
    Keeps W s0 (State.syncAB s f t) := by
  unfold State.syncAB
  repeat' (with_reducible first | assumption | exact su hw | apply State.countStep_keeps)

theorem State.latch_keeps (s : State) (f : Fin 8) (t : CellTime) (hw : Sub 0x4400000000 W) (hk_s : Keeps W s0 s) :
    Keeps W s0 (State.latch s f t) := by
  unfold State.latch
  repeat' (with_reducible
    first | assumption | exact su hw | intro _ | extract_lets | apply State.modF_keeps | apply State.bankRaise_keeps
          | apply State.fFlag_keeps | apply State.capture_keeps | apply State.countStep_keeps | apply keepsIte)

theorem State.triggerIn_keeps (s : State) (b : Fin 4) (code : Nat) (t : CellTime) (hw : Sub 0x4400000000 W)
    (hk_s : Keeps W s0 s) :
    Keeps W s0 (State.triggerIn s b code t) := by
  unfold State.triggerIn
  repeat' (with_reducible
    first | assumption | exact su hw | intro _ | apply State.latch_keeps | apply keepsIte | apply keepsFold)

theorem State.closeGates_keeps (s : State) (f : Fin 8) (upto : Nat) (hw : Sub 0x4000000000 W) (hk_s : Keeps W s0 s) :
    Keeps W s0 (State.closeGates s f upto) := by
  unfold State.closeGates
  repeat' (with_reducible first | assumption | exact su hw | intro _ | extract_lets | apply State.modF_keeps | apply keepsIte)

theorem State.riseEdge_keeps (sx : State) (f : Fin 8) (t : CellTime) (hw : Sub 0x4000000000 W) (hk_sx : Keeps W s0 sx) :
    Keeps W s0 (State.riseEdge sx f t) := by
  unfold State.riseEdge
  repeat' (with_reducible
    first | assumption | exact su hw | intro _ | extract_lets | apply State.modF_keeps | apply State.fFlag_keeps
          | apply State.closeGates_keeps | apply keepsIte)

theorem State.stopF_keeps (s : State) (f : Fin 8) (hw : Sub 0x4000000000 W) (hk_s : Keeps W s0 s) :
    Keeps W s0 (State.stopF s f) := by
  unfold State.stopF
  repeat' (with_reducible
    first | assumption | exact su hw | intro _ | extract_lets | apply State.modF_keeps | apply State.fFlag_keeps)

theorem State.acceptF_keeps (s : State) (f : Fin 8) (rising : Bool) (t : CellTime) (hw : Sub 0x4400000000 W)
    (hk_s : Keeps W s0 s) :
    Keeps W s0 (State.acceptF s f rising t) := by
  unfold State.acceptF
  repeat' (with_reducible
    first | assumption | exact su hw | intro _ | extract_lets | apply State.modF_keeps | apply State.fFlag_keeps
          | apply State.capture_keeps | apply State.triggerRecord_keeps | apply State.countEdge_keeps
          | apply State.triggerIn_keeps | apply State.riseEdge_keeps | apply keepsIte)

theorem State.acceptU_keeps (s : State) (u : Fin 16) (rising : Bool) (t : CellTime) (hw : Sub 0x5400000000 W)
    (hk_s : Keeps W s0 s) :
    Keeps W s0 (State.acceptU s u rising t) := by
  unfold State.acceptU
  repeat' (with_reducible
    first | assumption | exact su hw | intro _ | extract_lets | apply State.modU_keeps | apply State.uFlag_keeps
          | apply State.uLive_keeps | apply State.capture_keeps | apply State.triggerIn_keeps | apply keepsIte)

theorem State.latchNamed_keeps (s : State) (f : Fin 8) (t : CellTime) (hw : Sub 0x4400000000 W) (hk_s : Keeps W s0 s) :
    Keeps W s0 (State.latchNamed s f t) := by
  unfold State.latchNamed
  repeat' (with_reducible
    first | assumption | exact su hw | intro _ | extract_lets | apply State.modF_keeps | apply State.fFlag_keeps
          | apply State.latch_keeps)

end Sys2Proof.Machine
end

