-- ==== Sys2Proof/Laws/KeepsField.lean ====
section
/-! SUPPORT. The queue and the invariant are kept, and every part outside a set of parts: the field side: schedules, fast inputs, universal channels, filters, conversion, load switches and groups. One lemma per operation and per meaning. -/

namespace Sys2Proof.Machine

set_option Elab.async false

variable {W : Nat} {s0 : State}

/-! ### SchedOps -/

theorem State.schedEvent_keeps (s : State) (i : Nat) (hw : Sub 0x2000 W) (hk_s : Keeps W s0 s) :
    Keeps W s0 (State.schedEvent s i) := by
  unfold State.schedEvent
  repeat' (with_reducible first | assumption | exact su hw | apply State.orP_keeps | exact inn hw | omega)

theorem State.modSched_keeps (s : State) (b : Fin 4) (h : BitVec 16) (g : SchedRec → SchedRec) (hw : Sub 0x20000000000 W)
    (hk_s : Keeps W s0 s) :
    Keeps W s0 (State.modSched s b h g) := by
  unfold State.modSched
  repeat' (with_reducible
    first | assumption | exact su hw | intro _ | extract_lets | apply keepsIte | split | refine keeps_sched ?_ ?_)

theorem State.tellCancel_keeps (s : State) (h : BitVec 16) (code : Nat) (hw : Sub 0x20000000000000 W) (hk_s : Keeps W s0 s) :
    Keeps W s0 (State.tellCancel s h code) := by
  unfold State.tellCancel
  repeat' (with_reducible
    first | assumption | exact su hw | intro _ | extract_lets | apply keepsIte | split | refine keeps_mbx rfl rfl ?_ ?_ ?_
          | exact sameRfl | exact sameIn hw)

theorem State.recordOutcome_keeps (s : State) (b : Fin 4) (h : BitVec 16) (code : Nat) (lag : Int) (time : CellTime)
    (unc frees : Bool) (hw : Sub 0x4024020000002000 W) (hk_s : Keeps W s0 s) :
    Keeps W s0 (State.recordOutcome s b h code lag time unc frees) := by
  unfold State.recordOutcome
  repeat' (with_reducible
    first | assumption | exact su hw | intro _ | extract_lets | apply State.setBytes_keeps | apply State.inc_keeps
          | apply State.ringAll_keeps | apply State.schedEvent_keeps | apply State.modSched_keeps
          | apply State.tellCancel_keeps | apply keepsIte | split | dsimp +zetaDelta only | refine keeps_jrn rfl ?_ ?_ ?_
          | refine keeps_sched ?_ ?_ | exact inn hw | omega | (simp; done) | (simp; omega) | exact sameRfl | exact sameIn hw)

theorem State.report_keeps (s : State) (b : Fin 4) (r : SchedRec) (code : Nat) (lag : Int) (frees : Bool)
    (hw : Sub 0x400000000 W) (hk_s : Keeps W s0 s) :
    Keeps W s0 (State.report s b r code lag frees) := by
  unfold State.report
  repeat' (with_reducible first | assumption | exact su hw | apply State.sendUp_keeps)

theorem State.setSched_keeps (s : State) (b : Fin 4) (kind target : Nat) (v : Option Int) (hw : Sub 0x3500000000 W)
    (hk_s : Keeps W s0 s) :
    Keeps W s0 (State.setSched s b kind target v) := by
  unfold State.setSched
  repeat' (with_reducible
    first | assumption | exact su hw | intro _ | extract_lets | apply State.modL_keeps | apply State.modGrp_keeps
          | apply State.setSrcU_keeps | apply State.relaunch_keeps | apply State.relaunchGroup_keeps | split)

theorem State.endPulses_keeps (s : State) (b : Fin 4) (kind target : Nat) (hw : Sub 0x500000000 W) (hk_s : Keeps W s0 s) :
    Keeps W s0 (State.endPulses s b kind target) := by
  unfold State.endPulses
  repeat' (with_reducible
    first | assumption | exact su hw | intro _ | extract_lets | apply State.modBank_keeps | apply State.report_keeps
          | apply keepsFold)

theorem State.applyEntry_keeps (s : State) (b : Fin 4) (r : SchedRec) (code : Nat) (lag : Int) (quiet : Bool)
    (hw : Sub 0x3500000000 W) (hk_s : Keeps W s0 s) :
    Keeps W s0 (State.applyEntry s b r code lag quiet) := by
  unfold State.applyEntry
  repeat' (with_reducible
    first | assumption | exact su hw | intro _ | extract_lets | apply State.modBank_keeps | apply State.bankRaise_keeps
          | apply State.report_keeps | apply State.setSched_keeps | apply State.endPulses_keeps | apply keepsIte)

theorem State.meetPolicy_keeps (s : State) (b : Fin 4) (r : SchedRec) (code : Nat) (lag : Int) (quiet : Bool)
    (hw : Sub 0x23500002000 W) (hk_s : Keeps W s0 s) :
    Keeps W s0 (State.meetPolicy s b r code lag quiet) := by
  unfold State.meetPolicy
  repeat' (with_reducible
    first | assumption | exact su hw | intro _ | extract_lets | apply State.modBank_keeps | apply State.bankRaise_keeps
          | apply State.schedEvent_keeps | apply State.modSched_keeps | apply State.report_keeps | apply State.setSched_keeps
          | apply State.endPulses_keeps | apply State.applyEntry_keeps | apply keepsIte)

theorem State.consider_keeps (s : State) (b : Fin 4) (r : SchedRec) (quiet : Bool) (hw : Sub 0x23500002000 W)
    (hk_s : Keeps W s0 s) :
    Keeps W s0 (State.consider s b r quiet) := by
  unfold State.consider
  repeat' (with_reducible
    first | assumption | exact su hw | extract_lets | apply State.bankRaise_keeps | apply State.report_keeps
          | apply State.meetPolicy_keeps | apply keepsIte)

theorem State.takeEntries_keeps (s : State) (b : Fin 4) (late : Bool) (l : List SchedRec) (hw : Sub 0x23500002000 W)
    (h : Keeps W s0 s) : Keeps W s0 (s.takeEntries b late l) := by
  induction l generalizing s with
  | nil => exact h
  | cons r rest ih =>
    unfold State.takeEntries
    extract_lets quiet s1
    refine ih s1 ?_
    with_reducible apply keepsIte
    · exact State.consider_keeps _ _ _ _ (su hw) h
    · exact State.meetPolicy_keeps _ _ _ _ _ _ (su hw) h

theorem State.armLatch_keeps (s : State) (b : Fin 4) (f : Fin 8) (t : CellTime) (h : BitVec 16) (hw : Sub 0x4400000000 W)
    (hk_s : Keeps W s0 s) :
    Keeps W s0 (State.armLatch s b f t h) := by
  unfold State.armLatch
  repeat' (with_reducible
    first | assumption | exact su hw | intro _ | extract_lets | apply State.modF_keeps | apply State.sendUp_keeps
          | apply State.fFlag_keeps | apply State.latchNamed_keeps | apply keepsIte | split | dsimp +zetaDelta only)

theorem State.armEntry_keeps (s : State) (b : Fin 4) (r : SchedRec) (hw : Sub 0x27500002000 W) (hk_s : Keeps W s0 s) :
    Keeps W s0 (State.armEntry s b r) := by
  unfold State.armEntry
  repeat' (with_reducible
    first | assumption | exact su hw | intro _ | extract_lets | apply State.modBank_keeps | apply State.modSched_keeps
          | apply State.consider_keeps | apply State.armLatch_keeps | apply keepsIte)

theorem State.takeSched_keeps (s : State) (b : Fin 4) (r : SchedRec) (last : Bool) (hw : Sub 0x27500002000 W)
    (hk_s : Keeps W s0 s) :
    Keeps W s0 (State.takeSched s b r last) := by
  unfold State.takeSched
  repeat' (with_reducible
    first | assumption | exact su hw | intro _ | extract_lets | apply State.modBank_keeps | apply State.armEntry_keeps
          | apply keepsIte | apply keepsFold)

theorem State.applyDue_keeps (s : State) (b : Fin 4) (late : Bool) (limit : Option CellTime) (hw : Sub 0x23500002000 W)
    (hk_s : Keeps W s0 s) :
    Keeps W s0 (State.applyDue s b late limit) := by
  unfold State.applyDue
  repeat' (with_reducible
    first | assumption | exact su hw | intro _ | extract_lets | apply State.modBank_keeps | apply State.takeEntries_keeps)

theorem State.releaseTarget_keeps (s : State) (b : Fin 4) (t : Nat × Nat) (hw : Sub 0x3500000000 W) (hk_s : Keeps W s0 s) :
    Keeps W s0 (State.releaseTarget s b t) := by
  unfold State.releaseTarget
  repeat' (with_reducible first | assumption | exact su hw | apply State.setSched_keeps | apply State.endPulses_keeps)

theorem State.cancelIn_keeps (s : State) (b : Fin 4) (selector : Nat) (release : Bool) (kind target : Nat)
    (what : BitVec 16) (owner : Nat) (hw : Sub 0x7500000000 W) (hk_s : Keeps W s0 s) :
    Keeps W s0 (State.cancelIn s b selector release kind target what owner) := by
  unfold State.cancelIn
  repeat' (with_reducible
    first | assumption | exact su hw | intro _ | extract_lets | apply State.modBank_keeps | apply State.modF_keeps
          | apply State.sendUp_keeps | apply State.fFlag_keeps | apply State.releaseTarget_keeps | apply keepsIte
          | apply keepsFold)

theorem State.dropTarget_keeps (s : State) (b : Fin 4) (kind target code : Nat) (hw : Sub 0x3500000000 W)
    (hk_s : Keeps W s0 s) :
    Keeps W s0 (State.dropTarget s b kind target code) := by
  unfold State.dropTarget
  repeat' (with_reducible
    first | assumption | exact su hw | intro _ | extract_lets | apply State.modBank_keeps | apply State.report_keeps
          | apply State.releaseTarget_keeps | apply keepsFold)

theorem State.queueEntry_keeps (s : State) (ep : Fin 8) (batch : BitVec 16) (e : SchedReq) (hw : Sub 0x20000002000 W)
    (hk_s : Keeps W s0 s) :
    Keeps W s0 ((State.queueEntry s ep batch e).2) := by
  unfold State.queueEntry
  repeat' (with_reducible
    first | assumption | exact su hw | intro _ | extract_lets | apply State.inc_keeps | apply keepsIte | dsimp only
          | apply keepsFold | split | dsimp +zetaDelta only | refine keeps_sched ?_ ?_ | refine keeps_nextHandle ?_ ?_
          | exact inn hw | omega)

theorem State.queueAll_keeps (ep : Fin 8) (batch : BitVec 16) (hw : Sub 0x20000002000 W) : ∀ (es : List SchedReq) (s : State),
    Keeps W s0 s → Keeps W s0 (State.queueAll s ep batch es).2
  | [], _, h => h
  | e :: rest, s, h => State.queueAll_keeps ep batch hw rest _ (State.queueEntry_keeps s ep batch e (su hw) h)

theorem State.sendEntries_keeps (s : State) (b : Fin 4) (hs : List (BitVec 16)) (hw : Sub 0x200000000 W) (hk_s : Keeps W s0 s) :
    Keeps W s0 (State.sendEntries s b hs) := by
  unfold State.sendEntries
  repeat' (with_reducible
    first | assumption | exact su hw | intro _ | extract_lets | apply State.sendDown_keeps | apply keepsFold)

theorem scheduleOutput_keeps (s : State) (ep : Fin 8) (es : List SchedReq) (hw : Sub 0x20200002000 W) (hk_s : Keeps W s0 s) :
    KeepsR W s0 (scheduleOutput s ep es) := by
  unfold scheduleOutput
  repeat' (with_reducible
    first | assumption | exact su hw | intro _ | extract_lets | apply State.setP_keeps | apply refuse_keeps
          | apply State.schedEvent_keeps | apply State.queueAll_keeps | apply State.sendEntries_keeps | apply keepsIte
          | apply keepsFold | refine keepsSnd (by assumption) ?_ | split | apply keepsR_mk | dsimp +zetaDelta only
          | refine keeps_nextBatch ?_ ?_ | exact inn hw | omega)

/-! ### Schedule -/

theorem execScheduleOutput_keeps (q : Req) (es : List SchedReq) (s : State) (hw : Sub 0x5BC220200E82000 W)
    (hk_s : Keeps W s0 s) :
    KeepsO W s0 (execScheduleOutput q es s) := by
  unfold execScheduleOutput
  repeat' (with_reducible
    first | assumption | exact su hw | apply State.finish_keeps | apply CmdRes.finish_keeps | apply scheduleOutput_keeps
          | apply keepsO_next)

theorem State.releasePending_keeps (s : State) (gone : List SchedRec) (owner : Nat) (hw : Sub 0x200000000 W)
    (hk_s : Keeps W s0 s) :
    Keeps W s0 (State.releasePending s gone owner) := by
  unfold State.releasePending
  repeat' (with_reducible
    first | assumption | exact su hw | intro _ | extract_lets | apply State.sendDown_keeps | apply keepsFold)

theorem cancelSchedule_keeps (s : State) (q : Req) (selector : Nat) (release : Bool) (kind target : Nat)
    (what : BitVec 16) (hw : Sub 0x45BC220200E82000 W) (hk_s : Keeps W s0 s) :
    Keeps W s0 (cancelSchedule s q selector release kind target what) := by
  unfold cancelSchedule
  repeat' (with_reducible
    first | assumption | exact su hw | intro _ | extract_lets | apply State.modEp_keeps | apply State.sendDown_keeps
          | apply State.clearPosted_keeps | apply State.finish_keeps | apply CmdRes.finish_keeps
          | apply State.recordOutcome_keeps | apply State.releasePending_keeps | apply keepsIte | apply setPhase_ok
          | apply keepsFold | split | refine epOkMk ?_ rfl | dsimp +zetaDelta only | refine keeps_mbx rfl rfl ?_ ?_ ?_
          | exact sameRfl | exact sameIn hw)

theorem execCancelSchedule_keeps (q : Req) (selector : Nat) (release : Bool) (kind target : Nat) (what : BitVec 16)
    (s : State) (hw : Sub 0x45BC220200E82000 W) (hk_s : Keeps W s0 s) :
    KeepsO W s0 (execCancelSchedule q selector release kind target what s) := by
  unfold execCancelSchedule
  repeat' (with_reducible first | assumption | exact su hw | apply cancelSchedule_keeps | apply keepsO_next)

theorem State.cancelReport_keeps (s : State) (b : Fin 4) (cancelled already : Nat) (handles : List (BitVec 16))
    (unc : Bool) (hw : Sub 0x45BC220000E82000 W) (hk_s : Keeps W s0 s) :
    Keeps W s0 (State.cancelReport s b cancelled already handles unc) := by
  unfold State.cancelReport
  repeat' (with_reducible
    first | assumption | exact su hw | intro _ | extract_lets | apply State.finish_keeps | apply CmdRes.finish_keeps
          | apply State.recordOutcome_keeps | apply keepsIte | apply keepsFold | split | dsimp +zetaDelta only
          | refine keeps_mbx rfl rfl ?_ ?_ ?_ | exact sameRfl | exact sameIn hw)

theorem execPulseRelease_keeps (b : Fin 4) (s : State) (hw : Sub 0x3500000000 W) (hk_s : Keeps W s0 s) :
    KeepsO W s0 (execPulseRelease b s) := by
  unfold execPulseRelease
  repeat' (with_reducible
    first | assumption | exact su hw | intro _ | extract_lets | apply State.endPulses_keeps | apply State.releaseTarget_keeps
          | apply keepsIte | apply keepsO_next | apply keepsFold)

theorem State.resumeEntries_keeps (s : State) (b : Fin 4) (l : List SchedRec) (hw : Sub 0x3500000000 W)
    (h : Keeps W s0 s) : Keeps W s0 (s.resumeEntries b l) := by
  induction l generalizing s with
  | nil => exact h
  | cons r rest ih =>
    unfold State.resumeEntries
    exact ih _ (State.applyEntry_keeps _ _ _ _ _ _ (su hw) h)

theorem execHeldEntryResume_keeps (b : Fin 4) (s : State) (hw : Sub 0x3500000000 W) (hk_s : Keeps W s0 s) :
    KeepsO W s0 (execHeldEntryResume b s) := by
  unfold execHeldEntryResume
  repeat' (with_reducible
    first | assumption | exact su hw | intro _ | extract_lets | apply State.modBank_keeps | apply State.resumeEntries_keeps
          | apply keepsIte | apply keepsO_next)

theorem execHoldLimitExpiry_keeps (b : Fin 4) (s : State) (hw : Sub 0x500000000 W) (hk_s : Keeps W s0 s) :
    KeepsO W s0 (execHoldLimitExpiry b s) := by
  unfold execHoldLimitExpiry
  repeat' (with_reducible
    first | assumption | exact su hw | intro _ | extract_lets | apply State.modBank_keeps | apply State.bankRaise_keeps
          | apply State.report_keeps | apply keepsO_next | apply keepsFold)

/-! ### FastInput -/

theorem execFastInputEdge_keeps (f : Fin 8) (level : Bool) (t : CellTime) (s : State) (hw : Sub 0x4400000000 W)
    (hk_s : Keeps W s0 s) :
    KeepsO W s0 (execFastInputEdge f level t s) := by
  unfold execFastInputEdge
  repeat' (with_reducible
    first | assumption | exact su hw | intro _ | extract_lets | apply State.modF_keeps | apply State.acceptF_keeps
          | apply State.arrived_keeps | apply keepsIte | apply keepsO_next)

/-- Replacing one capture queue by one within its bound. -/
theorem captures_keeps (s : State) (f : Fin 8) (q : List Capture) (hw : Sub 0x8000000000 W) (hq : q.length ≤ 64)
    (h : Keeps W s0 s) : Keeps W s0 { s with captures := s.captures.set f q } := by
  refine ⟨h.1, ⟨h.2.1.1, { h.2.1.2 with caps := ?_ }⟩, { h.2.2 with captures := sameIn hw }⟩
  intro i
  have h1 := h.2.1.2.caps i
  simp only [Fin.getElem_fin, Vector.getElem_set]
  split
  · exact hq
  · exact h1

theorem capturePop_keeps (s : State) (f : Fin 8) (seq : BitVec 16) (hw : Sub 0xC000000000 W) (h : Keeps W s0 s) :
    KeepsR W s0 (capturePop s f seq) := by
  unfold capturePop
  extract_lets q
  have hq := h.2.1.2.caps f
  split
  · exact refuse_keeps _ _ (su hw) h
  · exact okRes_keeps _ (su hw) (State.fFlag_keeps _ _ _ _ (su hw) (captures_keeps _ _ _ (su hw)
      (by rw [List.length_drop]; exact Nat.le_trans (Nat.sub_le _ _) hq) h))

theorem execCapturePop_keeps (q : Req) (f : Fin 8) (seq : BitVec 16) (s : State) (hw : Sub 0x5BC20C000E80000 W)
    (hk_s : Keeps W s0 s) :
    KeepsO W s0 (execCapturePop q f seq s) := by
  unfold execCapturePop
  repeat' (with_reducible
    first | assumption | exact su hw | apply State.finish_keeps | apply CmdRes.finish_keeps | apply guardWrite_keeps
          | apply capturePop_keeps | apply keepsO_next)

theorem execFrequencyGateEnd_keeps (f : Fin 8) (s : State) (hw : Sub 0x4000000000 W) (hk_s : Keeps W s0 s) :
    KeepsO W s0 (execFrequencyGateEnd f s) := by
  unfold execFrequencyGateEnd
  repeat' (with_reducible first | assumption | exact su hw | apply State.closeGates_keeps | apply keepsO_next)

theorem execStopTimeout_keeps (f : Fin 8) (s : State) (hw : Sub 0x4000000000 W) (hk_s : Keeps W s0 s) :
    KeepsO W s0 (execStopTimeout f s) := by
  unfold execStopTimeout
  repeat' (with_reducible
    first | assumption | exact su hw | extract_lets | apply State.stopF_keeps | apply keepsIte | apply keepsO_next)

theorem State.latchGrid_keeps (s : State) (f : Fin 8) (hw : Sub 0x4400000000 W) (hk_s : Keeps W s0 s) :
    Keeps W s0 (State.latchGrid s f) := by
  unfold State.latchGrid
  repeat' (with_reducible
    first | assumption | exact su hw | intro _ | extract_lets | apply State.modF_keeps | apply State.latch_keeps | split)

theorem execLatchTrigger_keeps (f : Fin 8) (t : CellTime) (s : State) (hw : Sub 0x4400000000 W) (hk_s : Keeps W s0 s) :
    KeepsO W s0 (execLatchTrigger f t s) := by
  unfold execLatchTrigger
  repeat' (with_reducible first | assumption | exact su hw | apply State.latchGrid_keeps | apply keepsIte | apply keepsO_next)

theorem latchAt_keeps (s : State) (f : Fin 8) (t : CellTime) (hw : Sub 0x200000000 W) (hk_s : Keeps W s0 s) :
    KeepsR W s0 (latchAt s f t) := by
  unfold latchAt
  repeat' (with_reducible
    first | assumption | exact su hw | apply State.sendDown_keeps | apply okRes_keeps | apply State.latch_keeps
          | apply keepsIte)

theorem execLatchAt_keeps (q : Req) (f : Fin 8) (t : CellTime) (s : State) (hw : Sub 0x5BC200200E80000 W)
    (hk_s : Keeps W s0 s) :
    KeepsO W s0 (execLatchAt q f t s) := by
  unfold execLatchAt
  repeat' (with_reducible
    first | assumption | exact su hw | apply State.finish_keeps | apply CmdRes.finish_keeps | apply guardWrite_keeps
          | apply latchAt_keeps | apply keepsO_next)

theorem State.latchArmed_keeps (s : State) (f : Fin 8) (hw : Sub 0x4400000000 W) (hk_s : Keeps W s0 s) :
    Keeps W s0 (State.latchArmed s f) := by
  unfold State.latchArmed
  repeat' (with_reducible
    first | assumption | exact su hw | extract_lets | apply State.sendUp_keeps | apply State.latchNamed_keeps | apply keepsIte
          | split)

theorem execNamedLatchInstant_keeps (f : Fin 8) (s : State) (hw : Sub 0x4400000000 W) (hk_s : Keeps W s0 s) :
    KeepsO W s0 (execNamedLatchInstant f s) := by
  unfold execNamedLatchInstant
  repeat' (with_reducible first | assumption | exact su hw | apply State.latchArmed_keeps | apply keepsO_next)

theorem State.writeCount_keeps (s : State) (f : Fin 8) (v : Word) (hw : Sub 0x4400000000 W) (hk_s : Keeps W s0 s) :
    Keeps W s0 (State.writeCount s f v) := by
  unfold State.writeCount
  repeat' (with_reducible
    first | assumption | exact su hw | extract_lets | apply State.countStep_keeps | apply State.latchGrid_keeps
          | apply State.latchArmed_keeps)

/-! ### Universal -/

theorem State.openA_keeps (s : State) (u : Fin 16) (id : Nat) (hw : Sub 0x1400000000 W) (hk_s : Keeps W s0 s) :
    Keeps W s0 (State.openA s u id) := by
  unfold State.openA
  repeat' (with_reducible
    first | assumption | exact su hw | intro _ | extract_lets | apply State.modU_keeps | apply State.bankRaise_keeps
          | apply State.uFlag_keeps)

theorem State.closeA_keeps (s : State) (u : Fin 16) (id : Nat) (hw : Sub 0x1400000000 W) (hk_s : Keeps W s0 s) :
    Keeps W s0 (State.closeA s u id) := by
  unfold State.closeA
  repeat' (with_reducible
    first | assumption | exact su hw | intro _ | extract_lets | apply State.modU_keeps | apply State.bankEnd_keeps
          | apply State.uFlag_keeps)

theorem State.shortA_keeps (s : State) (u : Fin 16) (hw : Sub 0x1400000000 W) (hk_s : Keeps W s0 s) :
    Keeps W s0 (State.shortA s u) := by
  unfold State.shortA
  repeat' (with_reducible
    first | assumption | exact su hw | intro _ | extract_lets | apply State.modU_keeps | apply State.bankRaise_keeps
          | apply State.uFlag_keeps)

theorem State.unshortA_keeps (s : State) (u : Fin 16) (hw : Sub 0x1400000000 W) (hk_s : Keeps W s0 s) :
    Keeps W s0 (State.unshortA s u) := by
  unfold State.unshortA
  repeat' (with_reducible
    first | assumption | exact su hw | intro _ | extract_lets | apply State.modU_keeps | apply State.bankEnd_keeps
          | apply State.uFlag_keeps)

theorem State.comparatorU_keeps (s : State) (u : Fin 16) (level : Bool) (t : CellTime) (hw : Sub 0x1000000000 W)
    (hk_s : Keeps W s0 s) :
    Keeps W s0 (State.comparatorU s u level t) := by
  unfold State.comparatorU
  repeat' (with_reducible first | assumption | exact su hw | intro _ | extract_lets | apply State.modU_keeps)

theorem execDiComparatorTransition_keeps (u : Fin 16) (level : Bool) (t : CellTime) (s : State) (hw : Sub 0x5400000000 W)
    (hk_s : Keeps W s0 s) :
    KeepsO W s0 (execDiComparatorTransition u level t s) := by
  unfold execDiComparatorTransition
  repeat' (with_reducible
    first | assumption | exact su hw | extract_lets | apply State.uLive_keeps | apply State.acceptU_keeps
          | apply State.comparatorU_keeps | apply State.arrived_keeps | apply keepsIte | apply keepsO_next)

theorem debounceU_keeps (s : State) (u : Fin 16) (hw : Sub 0x5400000000 W) (hk_s : Keeps W s0 s) :
    Keeps W s0 (debounceU s u) := by
  unfold debounceU
  repeat' (with_reducible
    first | assumption | exact su hw | intro _ | extract_lets | apply State.modU_keeps | apply State.uLive_keeps
          | apply State.acceptU_keeps | apply keepsIte)

theorem debounceF_keeps (s : State) (f : Fin 8) (hw : Sub 0x4400000000 W) (hk_s : Keeps W s0 s) :
    Keeps W s0 (debounceF s f) := by
  unfold debounceF
  repeat' (with_reducible
    first | assumption | exact su hw | extract_lets | apply State.acceptF_keeps | apply State.arrived_keeps | apply keepsIte)

theorem execDebounceExpiry_keeps (c : DiRef) (s : State) (hw : Sub 0x5400000000 W) (hk_s : Keeps W s0 s) :
    KeepsO W s0 (execDebounceExpiry c s) := by
  unfold execDebounceExpiry
  repeat' (with_reducible
    first | assumption | exact su hw | extract_lets | apply debounceU_keeps | apply debounceF_keeps | apply keepsO_next
          | split)

theorem wireBreakU_keeps (s : State) (u : Fin 16) (below : Bool) (cur : Int) (hw : Sub 0x5400000000 W) (hk_s : Keeps W s0 s) :
    Keeps W s0 (wireBreakU s u below cur) := by
  unfold wireBreakU
  repeat' (with_reducible
    first | assumption | exact su hw | intro _ | extract_lets | apply State.modU_keeps | apply State.bankRaise_keeps
          | apply State.bankEnd_keeps | apply State.uFlag_keeps | apply State.acceptU_keeps | apply keepsIte)

theorem wireBreakF_keeps (s : State) (f : Fin 8) (below : Bool) (hw : Sub 0x4400000000 W) (hk_s : Keeps W s0 s) :
    Keeps W s0 (wireBreakF s f below) := by
  unfold wireBreakF
  repeat' (with_reducible
    first | assumption | exact su hw | intro _ | extract_lets | apply State.modF_keeps | apply State.bankRaise_keeps
          | apply State.bankEnd_keeps | apply State.fFlag_keeps | apply State.triggerRecord_keeps | apply State.syncAB_keeps
          | apply State.stopF_keeps | apply State.arrived_keeps | apply keepsIte)

theorem execWireBreakWindowExpiry_keeps (c : DiRef) (below : Bool) (cur : Int) (s : State) (hw : Sub 0x5400000000 W)
    (hk_s : Keeps W s0 s) :
    KeepsO W s0 (execWireBreakWindowExpiry c below cur s) := by
  unfold execWireBreakWindowExpiry
  repeat' (with_reducible
    first | assumption | exact su hw | extract_lets | apply wireBreakU_keeps | apply wireBreakF_keeps | apply keepsO_next
          | split)

theorem execOpenTerminalTest_keeps (u : Fin 16) (reading : Option Int) (s : State) (hw : Sub 0x1400000000 W)
    (hk_s : Keeps W s0 s) :
    KeepsO W s0 (execOpenTerminalTest u reading s) := by
  unfold execOpenTerminalTest
  repeat' (with_reducible
    first | assumption | exact su hw | intro _ | extract_lets | apply State.modU_keeps | apply State.openA_keeps
          | apply State.closeA_keeps | apply State.arrived_keeps | apply keepsIte | apply keepsO_next | split)

theorem State.limitOn_keeps (s : State) (u : Fin 16) (hw : Sub 0x1000000000 W) (hk_s : Keeps W s0 s) :
    Keeps W s0 (State.limitOn s u) := by
  unfold State.limitOn
  repeat' (with_reducible
    first | assumption | exact su hw | intro _ | extract_lets | apply State.modU_keeps | apply State.uFlag_keeps)

theorem State.limitOff_keeps (s : State) (u : Fin 16) (hw : Sub 0x1000000000 W) (hk_s : Keeps W s0 s) :
    Keeps W s0 (State.limitOff s u) := by
  unfold State.limitOff
  repeat' (with_reducible
    first | assumption | exact su hw | intro _ | extract_lets | apply State.modU_keeps | apply State.uLive_keeps)

theorem execProtectOff_keeps (l : LimitEvent) (s : State) (hw : Sub 0x1400000000 W) (hk_s : Keeps W s0 s) :
    KeepsO W s0 (execProtectOff l s) := by
  unfold execProtectOff
  repeat' (with_reducible
    first | assumption | exact su hw | intro _ | extract_lets | apply State.modU_keeps | apply State.bankRaise_keeps
          | apply State.uFlag_keeps | apply State.limitOn_keeps | apply State.limitOff_keeps | apply State.arrived_keeps
          | apply keepsIte | apply keepsO_next | split)

theorem execProtectOffReclose_keeps (u : Fin 16) (clean : Bool) (s : State) (hw : Sub 0x1400000000 W) (hk_s : Keeps W s0 s) :
    KeepsO W s0 (execProtectOffReclose u clean s) := by
  unfold execProtectOffReclose
  repeat' (with_reducible
    first | assumption | exact su hw | intro _ | extract_lets | apply State.modU_keeps | apply State.bankEnd_keeps
          | apply State.uLive_keeps | apply keepsIte | apply keepsO_next)

theorem execOverRangePersist_keeps (u : Fin 16) (s : State) (hw : Sub 0x1400000000 W) (hk_s : Keeps W s0 s) :
    KeepsO W s0 (execOverRangePersist u s) := by
  unfold execOverRangePersist
  repeat' (with_reducible
    first | assumption | exact su hw | intro _ | extract_lets | apply State.modU_keeps | apply State.bankRaise_keeps
          | apply keepsIte | apply keepsO_next)

theorem State.scOffU_keeps (s : State) (u : Fin 16) (hw : Sub 0x1400000000 W) (hk_s : Keeps W s0 s) :
    Keeps W s0 (State.scOffU s u) := by
  unfold State.scOffU
  repeat' (with_reducible
    first | assumption | exact su hw | intro _ | extract_lets | apply State.modU_keeps | apply State.bankRaise_keeps
          | apply State.uFlag_keeps | apply State.driveDo_keeps | apply keepsIte)

theorem execDoScTimeExpiry_keeps (l : LimitEvent) (s : State) (hw : Sub 0x1400000000 W) (hk_s : Keeps W s0 s) :
    KeepsO W s0 (execDoScTimeExpiry l s) := by
  unfold execDoScTimeExpiry
  repeat' (with_reducible
    first | assumption | exact su hw | extract_lets | apply State.limitOn_keeps | apply State.limitOff_keeps
          | apply State.scOffU_keeps | apply keepsIte | apply keepsO_next | split)

theorem State.scEnd_keeps (s : State) (u : Fin 16) (hw : Sub 0x1400000000 W) (hk_s : Keeps W s0 s) :
    Keeps W s0 (State.scEnd s u) := by
  unfold State.scEnd
  repeat' (with_reducible
    first | assumption | exact su hw | intro _ | extract_lets | apply State.modU_keeps | apply State.bankEnd_keeps
          | apply State.uLive_keeps | apply keepsIte)

theorem execDoRestart_keeps (u : Fin 16) (clean : Bool) (s : State) (hw : Sub 0x1400000000 W) (hk_s : Keeps W s0 s) :
    KeepsO W s0 (execDoRestart u clean s) := by
  unfold execDoRestart
  repeat' (with_reducible
    first | assumption | exact su hw | intro _ | extract_lets | apply State.modU_keeps | apply State.driveDo_keeps
          | apply State.scEnd_keeps | apply keepsIte | apply keepsO_next)

theorem State.unlatch_keeps (s : State) (u : Fin 16) (hw : Sub 0x1400000000 W) (hk_s : Keeps W s0 s) :
    Keeps W s0 (State.unlatch s u) := by
  unfold State.unlatch
  repeat' (with_reducible
    first | assumption | exact su hw | apply State.uLive_keeps | apply State.driveDo_keeps | apply State.scEnd_keeps
          | apply keepsIte)

theorem execDoOpenLoad_keeps (u : Fin 16) (present : Bool) (s : State) (hw : Sub 0x1400000000 W) (hk_s : Keeps W s0 s) :
    KeepsO W s0 (execDoOpenLoad u present s) := by
  unfold execDoOpenLoad
  repeat' (with_reducible
    first | assumption | exact su hw | extract_lets | apply State.bankRaise_keeps | apply State.bankEnd_keeps
          | apply State.uFlag_keeps | apply keepsIte | apply keepsO_next)

theorem execDoShortToSupply_keeps (u : Fin 16) (present : Bool) (s : State) (hw : Sub 0x1400000000 W) (hk_s : Keeps W s0 s) :
    KeepsO W s0 (execDoShortToSupply u present s) := by
  unfold execDoShortToSupply
  repeat' (with_reducible
    first | assumption | exact su hw | intro _ | extract_lets | apply State.modU_keeps | apply State.bankRaise_keeps
          | apply State.bankEnd_keeps | apply State.uFlag_keeps | apply State.uLive_keeps | apply keepsIte
          | apply keepsO_next)

theorem execFrontEndSettled_keeps (u : Fin 16) (s : State) (hw : Sub 0x1000000000 W) (hk_s : Keeps W s0 s) :
    KeepsO W s0 (execFrontEndSettled u s) := by
  unfold execFrontEndSettled
  repeat' (with_reducible
    first | assumption | exact su hw | intro _ | extract_lets | apply State.modU_keeps | apply State.uLive_keeps
          | apply State.arrived_keeps | apply keepsIte | apply keepsO_next)

/-! ### FilterOps -/

theorem reliefWord_keeps (s : State) (b : Fin 4) (ms : List (BitVec 5)) (hw : Sub 0x100000000 W) (hk_s : Keeps W s0 s) :
    Keeps W s0 (reliefWord s b ms) := by
  unfold reliefWord
  repeat' (with_reducible
    first | assumption | exact su hw | intro _ | extract_lets | apply State.modBank_keeps | apply keepsIte)

theorem State.loopOpen_keeps (s : State) (u : Fin 16) (x : Int) (hw : Sub 0x1400000000 W) (hk_s : Keeps W s0 s) :
    Keeps W s0 (State.loopOpen s u x) := by
  unfold State.loopOpen
  repeat' (with_reducible
    first | assumption | exact su hw | intro _ | extract_lets | apply State.modU_keeps | apply State.openA_keeps
          | apply State.closeA_keeps | apply keepsIte)

theorem State.satLive_keeps (s : State) (u : Fin 16) (sat : BitVec 8) (hw : Sub 0x1400000000 W) (hk_s : Keeps W s0 s) :
    Keeps W s0 (State.satLive s u sat) := by
  unfold State.satLive
  repeat' (with_reducible
    first | assumption | exact su hw | intro _ | extract_lets | apply State.modU_keeps | apply State.bankEnd_keeps
          | apply State.uFlag_keeps | apply keepsIte)

theorem State.pushSample_keeps (s : State) (u : Fin 16) (x : Sample) (hw : Sub 0x1000000000 W) (hk_s : Keeps W s0 s) :
    Keeps W s0 (State.pushSample s u x) := by
  unfold State.pushSample
  repeat' (with_reducible first | assumption | exact su hw | intro _ | extract_lets | apply State.modU_keeps)

theorem State.reliefAt_keeps (s : State) (b : Fin 4) (tap ph : Nat) (hw : Sub 0x20000000000000000 W) (hk_s : Keeps W s0 s) :
    Keeps W s0 ((State.reliefAt s b tap ph).2) := by
  unfold State.reliefAt
  repeat' (with_reducible
    first | assumption | exact su hw | extract_lets | apply State.draw_keeps | apply keepsIte | dsimp only
          | refine keepsSnd (by assumption) ?_ | split)

theorem channelWord_keeps (s : State) (u : Fin 16) (ms : List (BitVec 5)) (hw : Sub 0x20000001400000000 W)
    (hk_s : Keeps W s0 s) :
    Keeps W s0 (channelWord s u ms) := by
  unfold channelWord
  repeat' (with_reducible
    first | assumption | exact su hw | intro _ | extract_lets | apply State.modU_keeps | apply State.loopOpen_keeps
          | apply State.satLive_keeps | apply State.pushSample_keeps | apply State.reliefAt_keeps | apply keepsIte)

theorem State.outCheck_keeps (s : State) (u : Fin 16) (m : OutMeas) (hw : Sub 0x1400000000 W) (hk_s : Keeps W s0 s) :
    Keeps W s0 (State.outCheck s u m) := by
  unfold State.outCheck
  repeat' (with_reducible
    first | assumption | exact su hw | intro _ | extract_lets | apply State.modU_keeps | apply State.uFlag_keeps
          | apply State.openA_keeps | apply State.closeA_keeps | apply State.shortA_keeps | apply State.unshortA_keeps
          | apply keepsIte)

theorem State.compareRb_keeps (s : State) (u : Fin 16) (w : Word) (t : Nat) (hw : Sub 0x1400000000 W) (hk_s : Keeps W s0 s) :
    Keeps W s0 (State.compareRb s u w t) := by
  unfold State.compareRb
  repeat' (with_reducible
    first | assumption | exact su hw | intro _ | extract_lets | apply State.modU_keeps | apply State.bankRaise_keeps
          | apply State.bankEnd_keeps | apply State.uFlag_keeps | apply keepsIte)

/-! ### Filter -/

theorem State.restartU_keeps (s : State) (u : Fin 16) (a st : Nat) (hold clear : Bool) (hw : Sub 0x1000000000 W)
    (hk_s : Keeps W s0 s) :
    Keeps W s0 (State.restartU s u a st hold clear) := by
  unfold State.restartU
  repeat' (with_reducible
    first | assumption | exact su hw | intro _ | extract_lets | apply State.modU_keeps | apply State.uFlag_keeps
          | apply State.uLive_keeps | apply keepsIte)

theorem execWideTapWord_keeps (b : Fin 4) (conv : Fin 5) (m : List (BitVec 5)) (s : State)
    (hw : Sub 0x20000001500000000 W) (hk_s : Keeps W s0 s) :
    KeepsO W s0 (execWideTapWord b conv m s) := by
  unfold execWideTapWord
  repeat' (with_reducible
    first | assumption | exact su hw | apply reliefWord_keeps | apply channelWord_keeps | apply State.arrived_keeps
          | apply keepsIte | apply keepsO_next | split)

theorem State.pushMain_keeps (s : State) (u : Fin 16) (g : Grid) (t : Nat) (y : Int) (fl : BitVec 8) (settling : Bool)
    (hw : Sub 0x1000000000 W) (hk_s : Keeps W s0 s) :
    Keeps W s0 (State.pushMain s u g t y fl settling) := by
  unfold State.pushMain
  repeat' (with_reducible first | assumption | exact su hw | apply State.pushSample_keeps)

theorem State.suppress_keeps (s : State) (u : Fin 16) (g : Grid) (t : Nat) (hw : Sub 0x1000000000 W) (hk_s : Keeps W s0 s) :
    Keeps W s0 (State.suppress s u g t) := by
  unfold State.suppress
  repeat' (with_reducible
    first | assumption | exact su hw | intro _ | extract_lets | apply State.modU_keeps | apply State.pushMain_keeps
          | apply keepsIte)

theorem State.deliverMain_keeps (s : State) (u : Fin 16) (g : Grid) (t : Nat) (held : Option (Int × Bool × BitVec 8))
    (m : OutMeas) (hw : Sub 0x20000001400000000 W) (hk_s : Keeps W s0 s) :
    Keeps W s0 (State.deliverMain s u g t held m) := by
  unfold State.deliverMain
  repeat' (with_reducible
    first | assumption | exact su hw | intro _ | extract_lets | apply State.draw_keeps | apply State.outCheck_keeps
          | apply State.compareRb_keeps | apply State.pushMain_keeps | apply keepsIte | refine keepsSnd (by assumption) ?_
          | split)

theorem execMainSampleDue_keeps (u : Fin 16) (m : OutMeas) (s : State) (hw : Sub 0x20000001400000000 W) (hk_s : Keeps W s0 s) :
    KeepsO W s0 (execMainSampleDue u m s) := by
  unfold execMainSampleDue
  repeat' (with_reducible
    first | assumption | exact su hw | intro _ | extract_lets | apply State.modU_keeps | apply State.uLive_keeps
          | apply State.suppress_keeps | apply State.deliverMain_keeps | apply State.arrived_keeps | apply keepsIte
          | apply keepsO_next | split)

theorem State.requestSync_keeps (s : State) (us : List (Fin 16)) (t : CellTime) (source : Nat) (hw : Sub 0x1200000100 W)
    (hk_s : Keeps W s0 s) :
    Keeps W s0 ((State.requestSync s us t source).2) := by
  unfold State.requestSync
  repeat' (with_reducible
    first | assumption | exact su hw | intro _ | extract_lets | apply State.setP_keeps | apply State.setPCt_keeps
          | apply State.modU_keeps | apply State.sendDown_keeps | apply keepsIte | dsimp only | apply keepsFold | split
          | dsimp +zetaDelta only | exact inn hw | omega)

theorem execSyncInEdge_keeps (t : CellTime) (s : State) (hw : Sub 0x201280000100 W) (hk_s : Keeps W s0 s) :
    KeepsO W s0 (execSyncInEdge t s) := by
  unfold execSyncInEdge
  repeat' (with_reducible
    first | assumption | exact su hw | intro _ | extract_lets | apply State.raise_keeps | apply State.modTb_keeps
          | apply State.requestSync_keeps | apply keepsIte | apply keepsO_next | apply keepsFold)

theorem syncAt_keeps (s : State) (u : Fin 16) (t : CellTime) (hw : Sub 0x1200000100 W) (h : Keeps W s0 s) :
    KeepsR W s0 (syncAt s u t) := by
  have hr : Keeps W s0 (s.requestSync [u] t 2).2 := State.requestSync_keeps s [u] t 2 (su hw) h
  unfold syncAt
  generalize s.requestSync [u] t 2 = r at hr
  split
  · dsimp only
    split
    · exact okRes_keeps _ (su hw) hr
    · exact keepsR_mk hr
  · exact refuse_keeps _ _ (su hw) h

theorem execSyncAt_keeps (q : Req) (u : Fin 16) (t : CellTime) (s : State) (hw : Sub 0x5BC201200E80100 W)
    (hk_s : Keeps W s0 s) :
    KeepsO W s0 (execSyncAt q u t s) := by
  unfold execSyncAt
  repeat' (with_reducible
    first | assumption | exact su hw | apply State.finish_keeps | apply CmdRes.finish_keeps | apply guardWrite_keeps
          | apply syncAt_keeps | apply keepsO_next)

theorem State.syncChannel_keeps (s : State) (u : Fin 16) (a : Nat) (hw : Sub 0x1000000000 W) (hk_s : Keeps W s0 s) :
    Keeps W s0 (State.syncChannel s u a) := by
  unfold State.syncChannel
  repeat' (with_reducible
    first | assumption | exact su hw | intro _ | extract_lets | apply State.modU_keeps | apply State.restartU_keeps
          | apply keepsIte)

theorem State.modRot_keeps (s : State) (u : Fin 16) (g : Rotation → Rotation) (hw : Sub 0x1000000000 W) (hk_s : Keeps W s0 s) :
    Keeps W s0 (State.modRot s u g) := by
  unfold State.modRot
  repeat' (with_reducible first | assumption | exact su hw | intro _ | extract_lets | apply State.modU_keeps)

theorem State.cutShort_keeps (s : State) (b : Fin 4) (hw : Sub 0x1100000000 W) (hk_s : Keeps W s0 s) :
    Keeps W s0 (State.cutShort s b) := by
  unfold State.cutShort
  repeat' (with_reducible
    first | assumption | exact su hw | intro _ | extract_lets | apply State.modBank_keeps | apply State.modRot_keeps
          | apply keepsIte | split)

theorem State.dropEstimate_keeps (s : State) (b : Fin 4) (hw : Sub 0x100000000 W) (hk_s : Keeps W s0 s) :
    Keeps W s0 (State.dropEstimate s b) := by
  unfold State.dropEstimate
  repeat' (with_reducible first | assumption | exact su hw | intro _ | extract_lets | apply State.modBank_keeps)

theorem execFilterParityError_keeps (u : Fin 16) (s : State) (hw : Sub 0x1400000000 W) (hk_s : Keeps W s0 s) :
    KeepsO W s0 (execFilterParityError u s) := by
  unfold execFilterParityError
  repeat' (with_reducible
    first | assumption | exact su hw | extract_lets | apply State.bankRaise_keeps | apply State.restartU_keeps
          | apply State.arrived_keeps | apply keepsIte | apply keepsO_next)

/-! ### Convert -/

theorem State.refreshRot_keeps (s : State) (b : Fin 4) (hw : Sub 0x1000000000 W) (hk_s : Keeps W s0 s) :
    Keeps W s0 (State.refreshRot s b) := by
  unfold State.refreshRot
  repeat' (with_reducible
    first | assumption | exact su hw | intro _ | extract_lets | apply State.modRot_keeps | apply keepsIte | apply keepsFold)

theorem execRotationSlotStart_keeps (b : Fin 4) (s : State) (hw : Sub 0x1100000000 W) (hk_s : Keeps W s0 s) :
    KeepsO W s0 (execRotationSlotStart b s) := by
  unfold execRotationSlotStart
  repeat' (with_reducible
    first | assumption | exact su hw | intro _ | extract_lets | apply State.modBank_keeps | apply State.modRot_keeps
          | apply State.refreshRot_keeps | apply State.arrived_keeps | apply keepsIte | apply keepsO_next | apply keepsFold
          | split)

theorem execReliefCalEnd_keeps (b : Fin 4) (s : State) (hw : Sub 0x1500000000 W) (hk_s : Keeps W s0 s) :
    KeepsO W s0 (execReliefCalEnd b s) := by
  unfold execReliefCalEnd
  repeat' (with_reducible
    first | assumption | exact su hw | intro _ | extract_lets | apply State.modBank_keeps | apply State.bankRaise_keeps
          | apply State.bankEnd_keeps | apply State.modRot_keeps | apply State.refreshRot_keeps | apply State.arrived_keeps
          | apply keepsIte | apply keepsO_next | split)

theorem execRotationPhaseEnd_keeps (b : Fin 4) (s : State) (hw : Sub 0x1100000000 W) (hk_s : Keeps W s0 s) :
    KeepsO W s0 (execRotationPhaseEnd b s) := by
  unfold execRotationPhaseEnd
  repeat' (with_reducible
    first | assumption | exact su hw | intro _ | extract_lets | apply State.modBank_keeps | apply State.modRot_keeps
          | apply keepsIte | apply keepsO_next | split)

theorem execChCheckEnd_keeps (b : Fin 4) (s : State) (hw : Sub 0x1500000000 W) (hk_s : Keeps W s0 s) :
    KeepsO W s0 (execChCheckEnd b s) := by
  unfold execChCheckEnd
  repeat' (with_reducible
    first | assumption | exact su hw | intro _ | extract_lets | apply State.modBank_keeps | apply State.modU_keeps
          | apply State.bankRaise_keeps | apply keepsIte | apply keepsO_next | split)

theorem execOverlapEnd_keeps (b : Fin 4) (s : State) (hw : Sub 0x1500000000 W) (hk_s : Keeps W s0 s) :
    KeepsO W s0 (execOverlapEnd b s) := by
  unfold execOverlapEnd
  repeat' (with_reducible
    first | assumption | exact su hw | intro _ | extract_lets | apply State.modBank_keeps | apply State.sendUp_keeps
          | apply State.bankRaise_keeps | apply State.modRot_keeps | apply keepsIte | apply keepsO_next | split)

theorem execRotationCutShort_keeps (b : Fin 4) (s : State) (hw : Sub 0x1100000000 W) (hk_s : Keeps W s0 s) :
    KeepsO W s0 (execRotationCutShort b s) := by
  unfold execRotationCutShort
  repeat' (with_reducible first | assumption | exact su hw | apply State.cutShort_keeps | apply keepsO_next)

theorem State.setRef_keeps (s : State) (b : Fin 4) (st : Nat) (hw : Sub 0x500000000 W) (hk_s : Keeps W s0 s) :
    Keeps W s0 (State.setRef s b st) := by
  unfold State.setRef
  repeat' (with_reducible
    first | assumption | exact su hw | intro _ | extract_lets | apply State.modBank_keeps | apply State.bankRaise_keeps
          | apply State.bankEnd_keeps | apply keepsIte)

theorem State.scaleDacs_keeps (s : State) (b : Fin 4) (avg : Int) (hw : Sub 0x1100000000 W) (hk_s : Keeps W s0 s) :
    Keeps W s0 (State.scaleDacs s b avg) := by
  unfold State.scaleDacs
  repeat' (with_reducible
    first | assumption | exact su hw | intro _ | extract_lets | apply State.modBank_keeps | apply State.driveDac_keeps
          | apply keepsIte | apply keepsFold)

theorem execSlotEndCrossCheck_keeps (b : Fin 4) (s : State) (hw : Sub 0x1500000000 W) (hk_s : Keeps W s0 s) :
    KeepsO W s0 (execSlotEndCrossCheck b s) := by
  unfold execSlotEndCrossCheck
  repeat' (with_reducible
    first | assumption | exact su hw | intro _ | extract_lets | apply State.modBank_keeps | apply State.sendUp_keeps
          | apply State.setRef_keeps | apply State.scaleDacs_keeps | apply State.arrived_keeps | apply keepsIte
          | apply keepsO_next | apply keepsFold | split)

theorem execHeavyClampStart_keeps (u : Fin 16) (s : State) (hw : Sub 0x1500000000 W) (hk_s : Keeps W s0 s) :
    KeepsO W s0 (execHeavyClampStart u s) := by
  unfold execHeavyClampStart
  repeat' (with_reducible
    first | assumption | exact su hw | intro _ | extract_lets | apply State.modU_keeps | apply State.bankRaise_keeps
          | apply State.modRot_keeps | apply State.cutShort_keeps | apply State.dropEstimate_keeps | apply State.arrived_keeps
          | apply keepsIte | apply keepsO_next | apply keepsFold)

theorem execHeavyClampEnd_keeps (u : Fin 16) (s : State) (hw : Sub 0x4000001400000000 W) (hk_s : Keeps W s0 s) :
    KeepsO W s0 (execHeavyClampEnd u s) := by
  unfold execHeavyClampEnd
  repeat' (with_reducible
    first | assumption | exact su hw | intro _ | extract_lets | apply State.modU_keeps | apply State.journalAt_keeps
          | apply State.bankEnd_keeps | apply keepsIte | apply keepsO_next | split)

theorem execDieTemperatureRead_keeps (b : Fin 4) (t : Int) (s : State) (hw : Sub 0x100000000 W) (hk_s : Keeps W s0 s) :
    KeepsO W s0 (execDieTemperatureRead b t s) := by
  unfold execDieTemperatureRead
  repeat' (with_reducible
    first | assumption | exact su hw | intro _ | extract_lets | apply State.modBank_keeps | apply keepsIte
          | apply keepsO_next)

/-! ### LoadSwitch -/

theorem State.rethink_keeps (s : State) (l : Fin 8) (hw : Sub 0x2500000000 W) (hk_s : Keeps W s0 s) :
    Keeps W s0 (State.rethink s l) := by
  unfold State.rethink
  repeat' (with_reducible
    first | assumption | exact su hw | extract_lets | apply State.relaunch_keeps | apply State.relaunchGroup_keeps | split)

theorem State.overloadStep_keeps (s : State) (b g : Fin 4) (hw : Sub 0x100000000 W) (hk_s : Keeps W s0 s) :
    Keeps W s0 (State.overloadStep s b g) := by
  unfold State.overloadStep
  repeat' (with_reducible
    first | assumption | exact su hw | intro _ | extract_lets | apply State.modGrp_keeps | apply State.gSee_keeps)

theorem State.stageFlags_keeps (s : State) (l : Fin 8) (limiting : Bool) (hw : Sub 0x2500000000 W) (hk_s : Keeps W s0 s) :
    Keeps W s0 (State.stageFlags s l limiting) := by
  unfold State.stageFlags
  repeat' (with_reducible
    first | assumption | exact su hw | intro _ | extract_lets | apply State.modL_keeps | apply State.bankRaise_keeps
          | apply State.bankEnd_keeps | apply State.lFlag_keeps | apply State.overloadStep_keeps | apply keepsIte | split)

theorem execPowerStageEvaluation_keeps (l : Fin 8) (m : StageMeas) (s : State) (hw : Sub 0x2500000000 W) (hk_s : Keeps W s0 s) :
    KeepsO W s0 (execPowerStageEvaluation l m s) := by
  unfold execPowerStageEvaluation
  repeat' (with_reducible
    first | assumption | exact su hw | intro _ | extract_lets | apply State.modL_keeps | apply State.lFlag_keeps
          | apply State.stageFlags_keeps | apply keepsIte | apply keepsO_next)

theorem execLimitTimeExpiry_keeps (l : Fin 8) (s : State) (hw : Sub 0x2400000000 W) (hk_s : Keeps W s0 s) :
    KeepsO W s0 (execLimitTimeExpiry l s) := by
  unfold execLimitTimeExpiry
  repeat' (with_reducible
    first | assumption | exact su hw | intro _ | extract_lets | apply State.modL_keeps | apply State.bankRaise_keeps
          | apply State.lFlag_keeps | apply State.relaunch_keeps | apply State.latch_keeps | apply keepsIte
          | apply keepsO_next)

theorem execRetryPeriodExpiry_keeps (l : Fin 8) (s : State) (hw : Sub 0x2500000000 W) (hk_s : Keeps W s0 s) :
    KeepsO W s0 (execRetryPeriodExpiry l s) := by
  unfold execRetryPeriodExpiry
  repeat' (with_reducible
    first | assumption | exact su hw | intro _ | extract_lets | apply State.modL_keeps | apply State.bankEnd_keeps
          | apply State.lFlag_keeps | apply State.rethink_keeps | apply keepsIte | apply keepsO_next)

theorem State.groupShutdown_keeps (s : State) (l : Fin 8) (g : Fin 4) (hw : Sub 0x2500000000 W) (hk_s : Keeps W s0 s) :
    Keeps W s0 (State.groupShutdown s l g) := by
  unfold State.groupShutdown
  repeat' (with_reducible
    first | assumption | exact su hw | extract_lets | apply State.groupRaise_keeps | apply State.lFlag_keeps
          | apply State.relaunch_keeps | apply State.changeG_keeps | apply keepsIte)

theorem execThermalShutdown_keeps (l : Fin 8) (s : State) (hw : Sub 0x2500000000 W) (hk_s : Keeps W s0 s) :
    KeepsO W s0 (execThermalShutdown l s) := by
  unfold execThermalShutdown
  repeat' (with_reducible
    first | assumption | exact su hw | intro _ | extract_lets | apply State.modL_keeps | apply State.bankRaise_keeps
          | apply State.lFlag_keeps | apply State.relaunch_keeps | apply State.latch_keeps | apply State.groupShutdown_keeps
          | apply keepsIte | apply keepsO_next | split)

theorem execThermalRestart_keeps (l : Fin 8) (s : State) (hw : Sub 0x2500000000 W) (hk_s : Keeps W s0 s) :
    KeepsO W s0 (execThermalRestart l s) := by
  unfold execThermalRestart
  repeat' (with_reducible
    first | assumption | exact su hw | intro _ | extract_lets | apply State.modL_keeps | apply State.bankEnd_keeps
          | apply State.lFlag_keeps | apply State.rethink_keeps | apply keepsIte | apply keepsO_next)

theorem State.unlatchThermal_keeps (s : State) (l : Fin 8) (hw : Sub 0x2500000000 W) (hk_s : Keeps W s0 s) :
    Keeps W s0 (State.unlatchThermal s l) := by
  unfold State.unlatchThermal
  repeat' (with_reducible
    first | assumption | exact su hw | intro _ | extract_lets | apply State.modL_keeps | apply State.bankEnd_keeps
          | apply State.lFlag_keeps | apply State.rethink_keeps | apply keepsIte)

theorem execClampIntervalStart_keeps (l : Fin 8) (s : State) (hw : Sub 0x2000000000 W) (hk_s : Keeps W s0 s) :
    KeepsO W s0 (execClampIntervalStart l s) := by
  unfold execClampIntervalStart
  repeat' (with_reducible
    first | assumption | exact su hw | intro _ | extract_lets | apply State.modL_keeps | apply State.lFlag_keeps
          | apply keepsIte | apply keepsO_next)

theorem execClampIntervalEnd_keeps (l : Fin 8) (s : State) (hw : Sub 0x2400000000 W) (hk_s : Keeps W s0 s) :
    KeepsO W s0 (execClampIntervalEnd l s) := by
  unfold execClampIntervalEnd
  repeat' (with_reducible first | assumption | exact su hw | apply State.clampEnd_keeps | apply keepsIte | apply keepsO_next)

theorem State.unlock_keeps (s : State) (l : Fin 8) (hw : Sub 0x2500000000 W) (hk_s : Keeps W s0 s) :
    Keeps W s0 (State.unlock s l) := by
  unfold State.unlock
  repeat' (with_reducible
    first | assumption | exact su hw | apply State.bankEnd_keeps | apply State.lFlag_keeps | apply State.rethink_keeps)

theorem execClampUnlock_keeps (l : Fin 8) (s : State) (hw : Sub 0x2500000000 W) (hk_s : Keeps W s0 s) :
    KeepsO W s0 (execClampUnlock l s) := by
  unfold execClampUnlock
  repeat' (with_reducible
    first | assumption | exact su hw | extract_lets | apply State.unlock_keeps | apply keepsIte | apply keepsO_next)

theorem execLswOpenLoad_keeps (o : LoadRef) (present : Bool) (s : State) (hw : Sub 0x202400000800 W) (hk_s : Keeps W s0 s) :
    KeepsO W s0 (execLswOpenLoad o present s) := by
  unfold execLswOpenLoad
  repeat' (with_reducible
    first | assumption | exact su hw | extract_lets | apply State.raise_keeps | apply State.endFault_keeps
          | apply State.bankRaise_keeps | apply State.bankEnd_keeps | apply State.lFlag_keeps | apply State.gFlag_keeps
          | apply keepsIte | apply keepsO_next | split)

theorem State.shortGone_keeps (s : State) (l : Fin 8) (hw : Sub 0x2500000000 W) (hk_s : Keeps W s0 s) :
    Keeps W s0 (State.shortGone s l) := by
  unfold State.shortGone
  repeat' (with_reducible
    first | assumption | exact su hw | intro _ | extract_lets | apply State.modL_keeps | apply State.bankEnd_keeps
          | apply State.lFlag_keeps | apply State.rethink_keeps | apply keepsIte)

theorem execLswShortToSupply_keeps (l : Fin 8) (present : Bool) (s : State) (hw : Sub 0x2500000000 W) (hk_s : Keeps W s0 s) :
    KeepsO W s0 (execLswShortToSupply l present s) := by
  unfold execLswShortToSupply
  repeat' (with_reducible
    first | assumption | exact su hw | apply State.bankRaise_keeps | apply State.lFlag_keeps | apply State.shortGone_keeps
          | apply keepsIte | apply keepsO_next)

theorem execLswReverseCurrent_keeps (l : Fin 8) (present : Bool) (s : State) (hw : Sub 0x2500000000 W) (hk_s : Keeps W s0 s) :
    KeepsO W s0 (execLswReverseCurrent l present s) := by
  unfold execLswReverseCurrent
  repeat' (with_reducible
    first | assumption | exact su hw | intro _ | extract_lets | apply State.modL_keeps | apply State.bankRaise_keeps
          | apply State.lFlag_keeps | apply State.relaunch_keeps | apply State.shortGone_keeps | apply keepsIte
          | apply keepsO_next)

theorem execPowerDieExchangeLost_keeps (b : Fin 4) (s : State) (hw : Sub 0x2400000000 W) (hk_s : Keeps W s0 s) :
    KeepsO W s0 (execPowerDieExchangeLost b s) := by
  unfold execPowerDieExchangeLost
  repeat' (with_reducible
    first | assumption | exact su hw | intro _ | extract_lets | apply State.modL_keeps | apply State.bankRaise_keeps
          | apply State.relaunch_keeps | apply keepsIte | apply keepsO_next | apply keepsFold | split | dsimp +zetaDelta only)

theorem execPowerDieExchangeResumed_keeps (b : Fin 4) (s : State) (hw : Sub 0x2400000000 W) (hk_s : Keeps W s0 s) :
    KeepsO W s0 (execPowerDieExchangeResumed b s) := by
  unfold execPowerDieExchangeResumed
  repeat' (with_reducible
    first | assumption | exact su hw | intro _ | extract_lets | apply State.modL_keeps | apply State.bankEnd_keeps
          | apply State.relaunch_keeps | apply keepsO_next | apply keepsFold | split | dsimp +zetaDelta only)

/-! ### Group -/

theorem State.onTime_keeps (s : State) (b : Fin 4) (o : OutRef) (hw : Sub 0x100000000 W) (hk_s : Keeps W s0 s) :
    Keeps W s0 (State.onTime s b o) := by
  unfold State.onTime
  repeat' (with_reducible first | assumption | exact su hw | intro _ | extract_lets | apply State.modGrp_keeps | split)

theorem execGroupLaunchInstant_keeps (b : Fin 4) (s : State) (hw : Sub 0x3500000000 W) (hk_s : Keeps W s0 s) :
    KeepsO W s0 (execGroupLaunchInstant b s) := by
  unfold execGroupLaunchInstant
  repeat' (with_reducible
    first | assumption | exact su hw | intro _ | extract_lets | apply State.modBank_keeps | apply State.change_keeps
          | apply State.onTime_keeps | apply keepsO_next | apply keepsFold)

theorem State.tripped_keeps (s : State) (g : Fin 4) (hw : Sub 0x200000800 W) (hk_s : Keeps W s0 s) :
    Keeps W s0 (State.tripped s g) := by
  unfold State.tripped
  repeat' (with_reducible
    first | assumption | exact su hw | apply State.setBytes_keeps | apply State.sendHold_keeps | exact inn hw | omega
          | (simp; done))

theorem execVfSpreadCheck_keeps (g : Fin 4) (s : State) (hw : Sub 0x210200000800 W) (hk_s : Keeps W s0 s) :
    KeepsO W s0 (execVfSpreadCheck g s) := by
  unfold execVfSpreadCheck
  repeat' (with_reducible
    first | assumption | exact su hw | intro _ | extract_lets | apply State.setP_keeps | apply State.raise_keeps
          | apply State.endFault_keeps | apply State.gFlag_keeps | apply State.modSide_keeps | apply State.tripped_keeps
          | apply keepsIte | apply keepsO_next | split | dsimp +zetaDelta only | exact inn hw | omega)

theorem balanceStep_keeps (s : State) (b g : Fin 4) (sh : Int) (l : Fin 8) (hw : Sub 0x2000000000 W) (hk_s : Keeps W s0 s) :
    Keeps W s0 (balanceStep s b g sh l) := by
  unfold balanceStep
  repeat' (with_reducible first | assumption | exact su hw | intro _ | extract_lets | apply State.modL_keeps | apply keepsIte)

theorem execBalanceUpdate_keeps (b g : Fin 4) (s : State) (hw : Sub 0x2100000000 W) (hk_s : Keeps W s0 s) :
    KeepsO W s0 (execBalanceUpdate b g s) := by
  unfold execBalanceUpdate
  repeat' (with_reducible
    first | assumption | exact su hw | intro _ | extract_lets | apply State.modGrp_keeps | apply balanceStep_keeps
          | apply State.arrived_keeps | apply keepsIte | apply keepsO_next | apply keepsFold)

theorem execBalanceLost_keeps (g : Fin 4) (s : State) (hw : Sub 0x200000000800 W) (hk_s : Keeps W s0 s) :
    KeepsO W s0 (execBalanceLost g s) := by
  unfold execBalanceLost
  repeat' (with_reducible
    first | assumption | exact su hw | extract_lets | apply State.raise_keeps | apply State.endFault_keeps
          | apply State.gFlag_keeps | apply keepsIte | apply keepsO_next)

theorem execMemberExclusion_keeps (l : Fin 8) (s : State) (hw : Sub 0x2500000000 W) (hk_s : Keeps W s0 s) :
    KeepsO W s0 (execMemberExclusion l s) := by
  unfold execMemberExclusion
  repeat' (with_reducible
    first | assumption | exact su hw | intro _ | extract_lets | apply State.modL_keeps | apply State.bankRaise_keeps
          | apply State.groupRaise_keeps | apply State.lFlag_keeps | apply State.relaunch_keeps | apply State.gSee_keeps
          | apply State.changeG_keeps | apply keepsIte | apply keepsO_next | split)

theorem State.bankTrip_keeps (s : State) (b g : Fin 4) (hw : Sub 0x2500000000 W) (hk_s : Keeps W s0 s) :
    Keeps W s0 (State.bankTrip s b g) := by
  unfold State.bankTrip
  repeat' (with_reducible
    first | assumption | exact su hw | extract_lets | apply State.bankRaise_keeps | apply State.changeG_keeps
          | apply keepsIte)

theorem execGroupTrip_keeps (b g : Fin 4) (s : State) (hw : Sub 0x2500000000 W) (hk_s : Keeps W s0 s) :
    KeepsO W s0 (execGroupTrip b g s) := by
  unfold execGroupTrip
  repeat' (with_reducible
    first | assumption | exact su hw | extract_lets | apply State.tripped_keeps | apply State.bankTrip_keeps
          | apply State.arrived_keeps | apply keepsIte | apply keepsO_next | split)

theorem execGroupOverloadEnd_keeps (g : Fin 4) (s : State) (hw : Sub 0x200000800 W) (hk_s : Keeps W s0 s) :
    KeepsO W s0 (execGroupOverloadEnd g s) := by
  unfold execGroupOverloadEnd
  repeat' (with_reducible
    first | assumption | exact su hw | intro _ | apply State.setBytes_keeps | apply State.sendDown_keeps | apply keepsIte
          | apply keepsO_next | apply keepsFold | split | exact inn hw | omega | (simp; done))

theorem State.spreadShutdown_keeps (s : State) (g : Fin 4) (again : Bool) (hw : Sub 0x210200000800 W) (hk_s : Keeps W s0 s) :
    Keeps W s0 (State.spreadShutdown s g again) := by
  unfold State.spreadShutdown
  repeat' (with_reducible
    first | assumption | exact su hw | intro _ | extract_lets | apply State.setP_keeps | apply State.raise_keeps
          | apply State.sendHold_keeps | apply State.modSide_keeps | apply State.latch_keeps | apply keepsIte | split
          | dsimp +zetaDelta only | exact inn hw | omega)

theorem execGroupThermal_keeps (g : Fin 4) (restart : Bool) (s : State) (hw : Sub 0x210200000800 W) (hk_s : Keeps W s0 s) :
    KeepsO W s0 (execGroupThermal g restart s) := by
  unfold execGroupThermal
  repeat' (with_reducible
    first | assumption | exact su hw | intro _ | extract_lets | apply State.endFault_keeps | apply State.sendHold_keeps
          | apply State.modSide_keeps | apply State.latch_keeps | apply State.spreadShutdown_keeps | apply keepsIte
          | apply keepsO_next | split)

end Sys2Proof.Machine
end

