-- ==== Sys2Proof/Laws/KeepsPoints.lean ====
section
/-! SUPPORT. The queue and the invariant are kept, and every part outside a set of parts: Canopy, Glade, Firebreak and the watchdogs. One lemma per operation and per meaning. -/

namespace Sys2Proof.Machine

set_option Elab.async false

variable {W : Nat} {s0 : State}

/-! ### CanopyOps -/

theorem groups_keeps (s : State) (m : Store) (hw : Sub 0x40000000000 W) (hm : cellsWf zeroByte m = true) (h : Keeps W s0 s) :
    Keeps W s0 { s with canopy := { s.canopy with groups := m } } :=
  ⟨h.1, ⟨{ h.2.1.1 with groups := hm }, h.2.1.2⟩, { h.2.2 with canopy := sameIn hw }⟩

theorem State.setGroupRec_keeps (s : State) (i : Nat) (t : CellTime) (st epoch updates : Nat) (hw : Sub 0x40000000000 W)
    (h : Keeps W s0 s) : Keeps W s0 (s.setGroupRec i t st epoch updates) := groups_keeps s _ hw (cellsWf_writeL h.2.1.1.groups) h

theorem State.setGroupState_keeps (s : State) (i st : Nat) (hw : Sub 0x40000000000 W) (hk_s : Keeps W s0 s) :
    Keeps W s0 (State.setGroupState s i st) := by
  unfold State.setGroupState
  repeat' (with_reducible first | assumption | exact su hw | apply State.setGroupRec_keeps)

theorem State.dropWaiting_keeps (s : State) (g : Nat) (hw : Sub 0x80000000400000 W) (hk_s : Keeps W s0 s) :
    Keeps W s0 ((State.dropWaiting s g).2) := by
  unfold State.dropWaiting
  repeat' (with_reducible
    first | assumption | exact su hw | intro _ | extract_lets | apply State.bufStat_keeps | apply keepsIte | dsimp only
          | split | dsimp +zetaDelta only | refine keeps_ports ?_ ?_)

theorem State.publish_keeps (s : State) (g : Nat) (t : CellTime) (carry : Bool) (hw : Sub 0x1580240000E04000 W)
    (hk_s : Keeps W s0 s) :
    Keeps W s0 (State.publish s g t carry) := by
  unfold State.publish
  repeat' (with_reducible
    first | assumption | exact su hw | intro _ | extract_lets | apply State.setP_keeps | apply State.inc_keeps
          | apply State.orP_keeps | apply State.raise_keeps | apply State.setPub_keeps | apply State.recordEpochs_keeps
          | apply State.sendGcl_keeps | apply State.setGroupRec_keeps | apply State.dropWaiting_keeps | apply keepsIte
          | refine keepsSnd (by assumption) ?_ | split | dsimp +zetaDelta only | exact inn hw | omega)

theorem State.subCounts_keeps (s : State) (hw : Sub 0x4000 W) (hk_s : Keeps W s0 s) :
    Keeps W s0 (State.subCounts s) := by
  unfold State.subCounts
  repeat' (with_reducible
    first | assumption | exact su hw | intro _ | extract_lets | apply State.setP_keeps | dsimp +zetaDelta only | exact inn hw
          | omega)

theorem State.setSub_keeps (s : State) (x : SubState) (hw : Sub 0x40000004000 W) (hk_s : Keeps W s0 s) :
    Keeps W s0 (State.setSub s x) := by
  unfold State.setSub
  repeat' (with_reducible
    first | assumption | exact su hw | intro _ | extract_lets | apply State.subCounts_keeps | dsimp +zetaDelta only
          | refine keeps_canopy rfl rfl ?_ ?_)

theorem State.stalePoints_keeps (s : State) (e : SubEntry) (hw : Sub 0x40000000000 W) (hk_s : Keeps W s0 s) :
    Keeps W s0 (State.stalePoints s e) := by
  unfold State.stalePoints
  repeat' (with_reducible
    first | assumption | exact su hw | intro _ | extract_lets | apply State.writePoint_keeps | apply keepsIte
          | apply keepsFold)

theorem State.createSub_keeps (s : State) (e : SubEntry) (hw : Sub 0x40000004000 W) (hk_s : Keeps W s0 s) :
    Keeps W s0 (State.createSub s e) := by
  unfold State.createSub
  repeat' (with_reducible
    first | assumption | exact su hw | intro _ | extract_lets | apply State.writePoint_keeps | apply State.setGroupRec_keeps
          | apply State.setSub_keeps | apply keepsIte | apply keepsFold)

theorem cellsWf_writes {d : Nat → Byte} {α : Type} {k : α → Nat} {v : α → List Byte} : ∀ {l : List α} {m : Store},
    cellsWf d m = true → cellsWf d (l.foldl (fun m c => cellsWriteL d m (k c) (v c)) m) = true
  | [], _, h => h
  | _ :: _, _, h => by rw [List.foldl_cons]; exact cellsWf_writes (cellsWf_writeL h)

theorem State.removeSub_keeps (s : State) (e : SubEntry) (hw : Sub 0x240000004000 W) (h : Keeps W s0 s) : Keeps W s0
    (s.removeSub e) := by
  unfold State.removeSub
  extract_lets st s1 s2 hs pts recs
  have h1 : Keeps W s0 s1 := by
    with_reducible apply keepsIte
    · exact State.endFault_keeps _ _ _ _ (su hw) h
    · exact h
  clear_value s1
  have h2 : Keeps W s0 s2 := by
    with_reducible apply keepsIte
    · exact State.endFault_keeps _ _ _ _ (su hw) h1
    · exact h1
  have hp : cellsWf zeroByte pts = true := cellsWf_writes h2.2.1.1.points
  have hr : cellsWf zeroByte recs = true := cellsWf_writeL h2.2.1.1.groups
  clear_value s2 pts recs
  refine State.subCounts_keeps _ (su hw) ?_
  exact ⟨h2.1, ⟨{ h2.2.1.1 with points := hp, groups := hr }, h2.2.1.2⟩, { h2.2.2 with canopy := sameIn hw }⟩

theorem State.takePub_keeps (s : State) (e : SubEntry) (p : PubIn) (hw : Sub 0x240000004000 W) (hk_s : Keeps W s0 s) :
    Keeps W s0 (State.takePub s e p) := by
  unfold State.takePub
  repeat' (with_reducible
    first | assumption | exact su hw | intro _ | extract_lets | apply State.inc_keeps | apply State.orP_keeps
          | apply State.raise_keeps | apply State.endFault_keeps | apply State.writePoint_keeps
          | apply State.setGroupRec_keeps | apply State.setSub_keeps | apply keepsIte | apply keepsFold | split
          | dsimp +zetaDelta only | exact inn hw | omega)

theorem State.discardPub_keeps (s : State) (hw : Sub 0x4000 W) (hk_s : Keeps W s0 s) :
    Keeps W s0 (State.discardPub s) := by
  unfold State.discardPub
  repeat' (with_reducible first | assumption | exact su hw | apply State.inc_keeps | exact inn hw | omega)

theorem State.receivePub_keeps (s : State) (version node : Nat) (payload : List Byte) (hw : Sub 0x240000004000 W)
    (hk_s : Keeps W s0 s) :
    Keeps W s0 (State.receivePub s version node payload) := by
  unfold State.receivePub
  repeat' (with_reducible
    first | assumption | exact su hw | intro _ | extract_lets | apply State.takePub_keeps | apply State.discardPub_keeps
          | apply keepsIte | split)

theorem State.staleOne_keeps (s : State) (e : SubEntry) (hw : Sub 0x240000004000 W) (hk_s : Keeps W s0 s) :
    Keeps W s0 (State.staleOne s e) := by
  unfold State.staleOne
  repeat' (with_reducible
    first | assumption | exact su hw | extract_lets | apply State.orP_keeps | apply State.raise_keeps
          | apply State.setGroupState_keeps | apply State.setSub_keeps | apply State.stalePoints_keeps | apply keepsIte
          | split | dsimp +zetaDelta only | exact inn hw | omega)

theorem State.forcePoint_keeps (s : State) (h : Nat) (v : Word) (hw : Sub 0x40000000000 W) (hk_s : Keeps W s0 s) :
    Keeps W s0 (State.forcePoint s h v) := by
  unfold State.forcePoint
  repeat' (with_reducible
    first | assumption | exact su hw | intro _ | extract_lets | apply State.storePoint_keeps | split | dsimp +zetaDelta only
          | refine keeps_canopy rfl rfl ?_ ?_)

theorem State.releasePoint_keeps (s : State) (h : Nat) (hw : Sub 0x40000000000 W) (hk_s : Keeps W s0 s) :
    Keeps W s0 (State.releasePoint s h) := by
  unfold State.releasePoint
  repeat' (with_reducible
    first | assumption | exact su hw | intro _ | extract_lets | apply State.storePoint_keeps | split | dsimp +zetaDelta only
          | refine keeps_canopy rfl rfl ?_ ?_)

theorem State.releaseAllPoints_keeps (s : State) (hw : Sub 0x40000000000 W) (hk_s : Keeps W s0 s) :
    Keeps W s0 (State.releaseAllPoints s) := by
  unfold State.releaseAllPoints
  repeat' (with_reducible first | assumption | exact su hw | intro _ | apply State.releasePoint_keeps | apply keepsFold)

theorem forcePointCmd_keeps (s : State) (ep : Fin 8) (h : Nat) (v : Word) (hw : Sub 0x40000000000 W) (hk_s : Keeps W s0 s) :
    KeepsR W s0 (forcePointCmd s ep h v) := by
  unfold forcePointCmd
  repeat' (with_reducible
    first | assumption | exact su hw | intro _ | apply refuse_keeps | apply okRes_keeps | apply State.forcePoint_keeps
          | apply keepsIte)

theorem releasePointCmd_keeps (s : State) (ep : Fin 8) (h : Nat) (hw : Sub 0x40000000000 W) (hk_s : Keeps W s0 s) :
    KeepsR W s0 (releasePointCmd s ep h) := by
  unfold releasePointCmd
  repeat' (with_reducible
    first | assumption | exact su hw | apply refuse_keeps | apply okRes_keeps | apply State.releasePoint_keeps
          | apply State.releaseAllPoints_keeps | apply keepsIte)

/-! ### Canopy -/

theorem execPublicationInstant_keeps (g : Fin 64) (s : State) (hw : Sub 0x1580240000E04000 W) (hk_s : Keeps W s0 s) :
    KeepsO W s0 (execPublicationInstant g s) := by
  unfold execPublicationInstant
  repeat' (with_reducible
    first | assumption | exact su hw | extract_lets | apply State.publish_keeps | apply keepsIte | apply keepsO_next | split)

theorem execEventGroupPublish_keeps (g : Fin 64) (s : State) (hw : Sub 0x1580240000E04000 W) (hk_s : Keeps W s0 s) :
    KeepsO W s0 (execEventGroupPublish g s) := by
  unfold execEventGroupPublish
  repeat' (with_reducible
    first | assumption | exact su hw | intro _ | extract_lets | apply State.publish_keeps | apply keepsIte
          | apply keepsO_next)

theorem execHeartbeatExpiry_keeps (g : Fin 64) (s : State) (hw : Sub 0x1580240000E04000 W) (hk_s : Keeps W s0 s) :
    KeepsO W s0 (execHeartbeatExpiry g s) := by
  unfold execHeartbeatExpiry
  repeat' (with_reducible
    first | assumption | exact su hw | intro _ | extract_lets | apply State.publish_keeps | apply keepsIte
          | apply keepsO_next)

theorem execPubFrameReceived_keeps (s : State) (hw : Sub 0x400240000004000 W) (hk_s : Keeps W s0 s) :
    KeepsO W s0 (execPubFrameReceived s) := by
  unfold execPubFrameReceived
  repeat' (with_reducible
    first | assumption | exact su hw | intro _ | extract_lets | apply State.receivePub_keeps | apply keepsO_next | split
          | dsimp +zetaDelta only | refine keeps_gcl rfl ?_ ?_)

theorem execStaleCheck_keeps (s : State) (hw : Sub 0x240000004000 W) (hk_s : Keeps W s0 s) :
    KeepsO W s0 (execStaleCheck s) := by
  unfold execStaleCheck
  repeat' (with_reducible
    first | assumption | exact su hw | intro _ | apply State.staleOne_keeps | apply keepsO_next | apply keepsFold)

theorem execForcePoint_keeps (q : Req) (handle value : BitVec 32) (s : State) (hw : Sub 0x5BC240000E80000 W)
    (hk_s : Keeps W s0 s) :
    KeepsO W s0 (execForcePoint q handle value s) := by
  unfold execForcePoint
  repeat' (with_reducible
    first | assumption | exact su hw | apply State.finish_keeps | apply CmdRes.finish_keeps | apply forcePointCmd_keeps
          | apply keepsO_next)

theorem execReleasePoint_keeps (q : Req) (handle : BitVec 32) (s : State) (hw : Sub 0x5BC240000E80000 W) (hk_s : Keeps W s0 s) :
    KeepsO W s0 (execReleasePoint q handle s) := by
  unfold execReleasePoint
  repeat' (with_reducible
    first | assumption | exact su hw | apply State.finish_keeps | apply CmdRes.finish_keeps | apply releasePointCmd_keeps
          | apply keepsO_next)

/-! ### GladeOps -/

theorem State.modGlade_keeps (s : State) (g : Glade → Glade)
    (hg : ∀ x : Glade, cellsWf zeroByte x.bank0 = true ∧ cellsWf zeroByte x.bank1 = true → GladeOk W x (g x))
    (h : Keeps W s0 s) : Keeps W s0 (s.modGlade g) := by
  obtain ⟨h1, h2, h3, h4⟩ := hg _ ⟨h.2.1.1.rules0, h.2.1.1.rules1⟩
  exact ⟨h.1, ⟨{ h.2.1.1 with rules0 := h1, rules1 := h2 }, h.2.1.2⟩,
    { h.2.2 with rules := h.2.2.rules.trans h3, glade := h.2.2.glade.trans h4 }⟩

theorem State.setRuleBank_keeps (s : State) (i : Bool) (m : Store) (len : Nat) (hw : Sub 0x180000000000 W)
    (hm : cellsWf zeroByte m = true) (h : Keeps W s0 s) : Keeps W s0 (s.setRuleBank i m len) := by
  refine State.modGlade_keeps s _ ?_ h
  intro g hg
  cases i
  · exact ⟨hm, hg.2, sameIn hw, sameIn hw⟩
  · exact ⟨hg.1, hm, sameIn hw, sameIn hw⟩

theorem gladeBank_wf {s : State} (i : Bool) (h : Keeps W s0 s) : cellsWf zeroByte (gladeBank s i) = true := by
  unfold gladeBank
  cases i
  · exact h.2.1.1.rules0
  · exact h.2.1.1.rules1

theorem State.setTimers_keeps (s : State) (r : Nat) (ts : List TimerState) (hw : Sub 0x80000000000 W) (hk_s : Keeps W s0 s) :
    Keeps W s0 (State.setTimers s r ts) := by
  unfold State.setTimers
  repeat' (with_reducible
    first | assumption | exact su hw | intro _ | extract_lets | apply State.modGlade_keeps | exact gladeOkRefl (by assumption)
          | refine gladeOkMk ?_ rfl rfl ?_ | exact sameRfl | exact sameIn hw)

theorem State.evalRule_keeps (s : State) (b : Bool) (r : Nat) (hw : Sub 0x40C0000000000 W) (hk_s : Keeps W s0 s) :
    Keeps W s0 (State.evalRule s b r) := by
  unfold State.evalRule
  repeat' (with_reducible
    first | assumption | exact su hw | intro _ | extract_lets | apply State.ringAll_keeps | apply State.ownPoint_keeps
          | apply State.modGlade_keeps | apply State.setTimers_keeps | apply keepsIte | exact gladeOkRefl (by assumption)
          | apply keepsFold | split | refine gladeOkMk ?_ rfl rfl ?_ | dsimp +zetaDelta only | exact sameRfl
          | exact sameIn hw)

theorem State.sendForce_keeps (s : State) (t : Nat) (v : Option Int) (hw : Sub 0x200000000 W) (hk_s : Keeps W s0 s) :
    Keeps W s0 (State.sendForce s t v) := by
  unfold State.sendForce
  repeat' (with_reducible
    first | assumption | exact su hw | intro _ | extract_lets | apply State.sendDownExpress_keeps | apply keepsIte
          | apply keepsFold)

theorem State.targetFaults_keeps (s : State) (old new : List Nat) (id attr bit : Nat) (hw : Sub 0x200000008000 W)
    (hb : attr < 256) (hk_s : Keeps W s0 s) :
    Keeps W s0 (State.targetFaults s old new id attr bit) := by
  unfold State.targetFaults
  repeat' (with_reducible
    first | assumption | exact su hw | intro _ | extract_lets | apply State.inc_keeps | apply State.orP_keeps
          | apply State.raise_keeps | apply State.endFault_keeps | apply keepsFold | dsimp +zetaDelta only | exact inn hw
          | omega)

theorem State.reforce_keeps (s : State) (hw : Sub 0x280200008000 W) (hk_s : Keeps W s0 s) :
    Keeps W s0 (State.reforce s) := by
  unfold State.reforce
  repeat' (with_reducible
    first | assumption | exact su hw | intro _ | extract_lets | apply State.modGlade_keeps | apply State.sendForce_keeps
          | apply State.targetFaults_keeps | exact gladeOkRefl (by assumption) | apply keepsFold
          | refine gladeOkMk ?_ rfl rfl ?_ | dsimp +zetaDelta only | omega | exact sameRfl | exact sameIn hw)

theorem State.sendForceAll_keeps (s : State) (b : Fin 4) (hw : Sub 0x200000000 W) (hk_s : Keeps W s0 s) :
    Keeps W s0 (State.sendForceAll s b) := by
  unfold State.sendForceAll
  repeat' (with_reducible first | assumption | exact su hw | intro _ | extract_lets | apply State.sendDownExpress_keeps)

theorem State.pass_keeps (s : State) (fastOnly : Bool) (hw : Sub 0x42C0200008000 W) (hk_s : Keeps W s0 s) :
    Keeps W s0 (State.pass s fastOnly) := by
  unfold State.pass
  repeat' (with_reducible
    first | assumption | exact su hw | intro _ | extract_lets | apply State.evalRule_keeps | apply State.reforce_keeps
          | apply keepsFold | split)

theorem loadBegin_keeps (s : State) (ep : Fin 8) (len : Nat) (hw : Sub 0x180000000000 W) (hk_s : Keeps W s0 s) :
    KeepsR W s0 (loadBegin s ep len) := by
  unfold loadBegin
  repeat' (with_reducible
    first | assumption | exact su hw | intro _ | extract_lets | apply refuse_keeps | apply State.modGlade_keeps
          | apply State.setRuleBank_keeps | apply keepsIte | exact gladeOkRefl (by assumption) | exact cellsWf_nil | split
          | apply keepsR_mk | refine gladeOkMk ?_ rfl rfl ?_ | dsimp +zetaDelta only | exact sameRfl | exact sameIn hw)

theorem loadData_keeps (s : State) (ep : Fin 8) (off : Nat) (data : List Byte) (hw : Sub 0x180000000000 W) (h : Keeps W s0 s) :
    KeepsR W s0 (loadData s ep off data) := by
  unfold loadData
  extract_lets b s1
  have h1 : Keeps W s0 s1 := State.setRuleBank_keeps _ _ _ _ (su hw) (cellsWf_writeL (gladeBank_wf b h)) h
  clear_value s1
  repeat' split
  all_goals first | exact refuse_keeps _ _ (su hw) h | exact keepsR_mk h1

theorem State.persistRules_keeps (s : State) (hw : Sub 0x1000080000000000 W) (hk_s : Keeps W s0 s) :
    Keeps W s0 (State.persistRules s) := by
  unfold State.persistRules
  repeat' (with_reducible
    first | assumption | exact su hw | intro _ | extract_lets | apply State.writeNor_keeps | apply State.eraseNor_keeps
          | apply State.modGlade_keeps | exact gladeOkRefl (by assumption) | refine gladeOkMk ?_ rfl rfl ?_
          | dsimp +zetaDelta only | exact sameRfl | exact sameIn hw)

theorem State.rulesFailed_keeps (s : State) (hw : Sub 0x2000200002000000 W) (hk_s : Keeps W s0 s) :
    Keeps W s0 (State.rulesFailed s) := by
  unfold State.rulesFailed
  repeat' (with_reducible
    first | assumption | exact su hw | extract_lets | apply State.orP_keeps | apply State.raise_keeps
          | refine keeps_msp rfl rfl ?_ ?_ | exact inn hw | omega)

theorem loadVerify_keeps (s : State) (ep : Fin 8) (hw : Sub 0x80000000000 W) (h : Keeps W s0 s) : KeepsOptR W s0
    (loadVerify s ep) := by
  intro t e
  unfold loadVerify at e
  split at e
  · cases e; exact h
  · split at e
    · cases e; exact h
    · split at e
      · cases e; exact State.modGlade_keeps s _ (fun _ hx => ⟨hx.1, hx.2, sameRfl, sameIn hw⟩) h
      · cases e

theorem loadEnd_keeps (s : State) (ep : Fin 8) (persist norOk : Bool) (hw : Sub 0x3000280002000000 W) (hk_s : Keeps W s0 s) :
    KeepsR W s0 (loadEnd s ep persist norOk) := by
  unfold loadEnd
  repeat' (with_reducible
    first | assumption | exact su hw | intro _ | extract_lets | apply refuse_keeps | apply State.modGlade_keeps
          | apply State.persistRules_keeps | apply State.rulesFailed_keeps | apply loadVerify_keeps | apply keepsIte
          | refine keepsOptR (by assumption) ?_ | exact gladeOkRefl (by assumption) | split | apply keepsR_mk
          | refine gladeOkMk ?_ rfl rfl ?_ | dsimp +zetaDelta only | exact sameRfl | exact sameIn hw)

theorem swapRules_keeps (s : State) (ep : Fin 8) (t : CellTime) (hw : Sub 0x80000000000 W) (hk_s : Keeps W s0 s) :
    KeepsR W s0 (swapRules s ep t) := by
  unfold swapRules
  repeat' (with_reducible
    first | assumption | exact su hw | intro _ | extract_lets | apply refuse_keeps | apply State.modGlade_keeps
          | apply keepsIte | exact gladeOkRefl (by assumption) | split | apply keepsR_mk | refine gladeOkMk ?_ rfl rfl ?_
          | dsimp +zetaDelta only | exact sameRfl | exact sameIn hw)

theorem State.swapNow_keeps (s : State) (hw : Sub 0x15000280000008000 W) (hk_s : Keeps W s0 s) :
    Keeps W s0 (State.swapNow s) := by
  unfold State.swapNow
  repeat' (with_reducible
    first | assumption | exact su hw | intro _ | extract_lets | apply State.orP_keeps | apply State.endFault_keeps
          | apply State.journalAt_keeps | apply State.writeHeader_keeps | apply State.modGlade_keeps | apply keepsIte
          | exact gladeOkRefl (by assumption) | split | refine gladeOkMk ?_ rfl rfl ?_ | dsimp +zetaDelta only | exact inn hw
          | omega | exact sameRfl | exact sameIn hw)

theorem State.swapDue_keeps (s : State) (at_ : CellTime) (hw : Sub 0x15000280000008000 W) (hk_s : Keeps W s0 s) :
    Keeps W s0 (State.swapDue s at_) := by
  unfold State.swapDue
  repeat' (with_reducible
    first | assumption | exact su hw | intro _ | extract_lets | apply State.modGlade_keeps | apply State.swapNow_keeps
          | apply keepsIte | exact gladeOkRefl (by assumption) | split | refine gladeOkMk ?_ rfl rfl ?_
          | dsimp +zetaDelta only | exact sameRfl | exact sameIn hw)

theorem State.checkLayout_keeps (s : State) (hw : Sub 0x280000008000 W) (hk_s : Keeps W s0 s) :
    Keeps W s0 (State.checkLayout s) := by
  unfold State.checkLayout
  repeat' (with_reducible
    first | assumption | exact su hw | intro _ | extract_lets | apply State.orP_keeps | apply State.raise_keeps
          | apply State.endFault_keeps | apply State.modGlade_keeps | apply keepsIte | exact gladeOkRefl (by assumption)
          | split | refine gladeOkMk ?_ rfl rfl ?_ | exact inn hw | omega | exact sameRfl | exact sameIn hw)

/-! ### Glade -/

theorem State.passTime_keeps (s : State) (attr : Nat) (hw : Sub 0x20000000000008000 W) (hb : attr < 256) (hk_s : Keeps W s0 s) :
    Keeps W s0 (State.passTime s attr) := by
  unfold State.passTime
  repeat' (with_reducible
    first | assumption | exact su hw | extract_lets | apply State.setP_keeps | apply State.draw_keeps
          | refine keepsSnd (by assumption) ?_ | split | dsimp +zetaDelta only | exact inn hw | omega)

theorem State.fastDue_keeps (s : State) (hw : Sub 0x200042C0200008000 W) (hk_s : Keeps W s0 s) :
    Keeps W s0 (State.fastDue s) := by
  unfold State.fastDue
  repeat' (with_reducible
    first | assumption | exact su hw | intro _ | extract_lets | apply State.modGlade_keeps | apply State.pass_keeps
          | apply State.passTime_keeps | apply keepsIte | exact gladeOkRefl (by assumption) | split
          | refine gladeOkMk ?_ rfl rfl ?_ | dsimp +zetaDelta only | omega | exact sameRfl | exact sameIn hw)

theorem execFastPass_keeps (s : State) (hw : Sub 0x200042C0200008000 W) (hk_s : Keeps W s0 s) :
    KeepsO W s0 (execFastPass s) := by
  unfold execFastPass
  repeat' (with_reducible first | assumption | exact su hw | apply State.fastDue_keeps | apply keepsO_next)

theorem execForceRepeat_keeps (s : State) (hw : Sub 0x80200000000 W) (hk_s : Keeps W s0 s) :
    KeepsO W s0 (execForceRepeat s) := by
  unfold execForceRepeat
  repeat' (with_reducible
    first | assumption | exact su hw | intro _ | extract_lets | apply State.modGlade_keeps | apply State.sendForceAll_keeps
          | apply keepsIte | apply keepsO_next | exact gladeOkRefl (by assumption) | apply keepsFold | split
          | refine gladeOkMk ?_ rfl rfl ?_ | exact sameRfl | exact sameIn hw)

theorem execLoadRulesBegin_keeps (q : Req) (len : BitVec 32) (s : State) (hw : Sub 0x5BC380000E80000 W) (hk_s : Keeps W s0 s) :
    KeepsO W s0 (execLoadRulesBegin q len s) := by
  unfold execLoadRulesBegin
  repeat' (with_reducible
    first | assumption | exact su hw | apply State.finish_keeps | apply CmdRes.finish_keeps | apply loadBegin_keeps
          | apply keepsO_next)

theorem execLoadRulesData_keeps (q : Req) (off : BitVec 32) (data : List Byte) (s : State) (hw : Sub 0x5BC380000E80000 W)
    (hk_s : Keeps W s0 s) :
    KeepsO W s0 (execLoadRulesData q off data s) := by
  unfold execLoadRulesData
  repeat' (with_reducible
    first | assumption | exact su hw | apply State.finish_keeps | apply CmdRes.finish_keeps | apply loadData_keeps
          | apply keepsO_next)

theorem execLoadRulesEnd_keeps (q : Req) (persist norOk : Bool) (s : State) (hw : Sub 0x35BC280002E80000 W)
    (hk_s : Keeps W s0 s) :
    KeepsO W s0 (execLoadRulesEnd q persist norOk s) := by
  unfold execLoadRulesEnd
  repeat' (with_reducible
    first | assumption | exact su hw | apply State.finish_keeps | apply CmdRes.finish_keeps | apply loadEnd_keeps
          | apply keepsO_next)

theorem execSwapRules_keeps (q : Req) (at_ : CellTime) (s : State) (hw : Sub 0x5BC280000E80000 W) (hk_s : Keeps W s0 s) :
    KeepsO W s0 (execSwapRules q at_ s) := by
  unfold execSwapRules
  repeat' (with_reducible
    first | assumption | exact su hw | apply State.finish_keeps | apply CmdRes.finish_keeps | apply swapRules_keeps
          | apply keepsO_next)

/-! ### SafeOps -/

theorem State.modFb_keeps (s : State) (g : Firebreak → Firebreak) (hg : ∀ x : Firebreak, x.log.length ≤ 64 → FbOk W x (g x))
    (h : Keeps W s0 s) : Keeps W s0 (s.modFb g) := by
  obtain ⟨h1, h2, h3⟩ := hg _ h.2.1.2.log
  exact ⟨h.1, ⟨h.2.1.1, { h.2.1.2 with log := h1 }⟩,
    { h.2.2 with raises := h.2.2.raises.trans h2, firebreak := h.2.2.firebreak.trans h3 }⟩

theorem State.sendSafe_keeps (s : State) (b : Fin 4) (op : Nat) (outs : BitVec 8) (groups : BitVec 4) (level id : Nat)
    (hw : Sub 0x200000000 W) (hk_s : Keeps W s0 s) :
    Keeps W s0 (State.sendSafe s b op outs groups level id) := by
  unfold State.sendSafe
  repeat' (with_reducible
    first | assumption | exact su hw | intro _ | extract_lets | apply State.sendDownExpress_keeps | apply keepsIte
          | apply keepsFold)

theorem State.safePoint_keeps (s : State) (hw : Sub 0x40000000000 W) (hk_s : Keeps W s0 s) :
    Keeps W s0 (State.safePoint s) := by
  unfold State.safePoint
  repeat' (with_reducible first | assumption | exact su hw | apply State.devicePoint_keeps)

theorem State.setRecord_keeps (s : State) (n : Nat) (cause : Option (Nat × FaultObj)) (resetOnly : Bool) (id : Nat)
    (hw : Sub 0x4440200010000 W) (hk_s : Keeps W s0 s) :
    Keeps W s0 (State.setRecord s n cause resetOnly id) := by
  unfold State.setRecord
  repeat' (with_reducible
    first | assumption | exact su hw | intro _ | extract_lets | apply State.inc_keeps | apply State.orP_keeps
          | apply State.ringAll_keeps | apply State.modFb_keeps | apply State.sendSafe_keeps | apply State.safePoint_keeps
          | apply keepsIte | exact fbOkRefl (by assumption) | apply keepsFold | split | refine fbOkMk ?_ rfl ?_ ?_
          | dsimp +zetaDelta only | exact inn hw | omega | exact sameRfl | exact sameIn hw)

theorem State.clearRecords_keeps (s : State) (ns : List Nat) (hw : Sub 0x440200010000 W) (hk_s : Keeps W s0 s) :
    Keeps W s0 (State.clearRecords s ns) := by
  unfold State.clearRecords
  repeat' (with_reducible
    first | assumption | exact su hw | intro _ | extract_lets | apply State.inc_keeps | apply State.modFb_keeps
          | apply State.sendSafe_keeps | apply State.safePoint_keeps | exact fbOkRefl (by assumption) | apply keepsFold
          | refine fbOkMk ?_ rfl ?_ ?_ | dsimp +zetaDelta only | exact inn hw | omega | exact sameRfl | exact sameIn hw)

theorem State.queueJournal_keeps (s : State) (r : FaultRec) (hw : Sub 0x400000000800000 W) (h : Keeps W s0 s) :
    Keeps W s0 (s.queueJournal r) := by
  unfold State.queueJournal
  split
  · exact ⟨h.1, ⟨h.2.1.1, { h.2.1.2 with jq := by simp; omega }⟩, { h.2.2 with gcl := sameIn hw }⟩
  · have h1 := State.gclCnt_keeps s 13 (su hw) (by decide) h
    refine ⟨h1.1, ⟨h1.2.1.1, { h1.2.1.2 with jq := ?_ }⟩, { h1.2.2 with gcl := sameIn hw }⟩
    have := h1.2.1.2.jq
    simp; omega

theorem State.logFault_keeps (s : State) (r : FaultRec) (hw : Sub 0x600000020000 W) (h : Keeps W s0 s) : Keeps W s0
    (s.logFault r) := by
  unfold State.logFault
  extract_lets l s1
  split
  · exact State.modFb_keeps s _ (fun _ _ => ⟨‹l.length ≤ 64›, sameRfl, sameIn hw⟩) h
  · have h1 : Keeps W s0 s1 := by
      have h0 := State.modFb_keeps s (fun f => { f with log := l.drop (l.length - 64) })
        (fun _ _ => ⟨by simp; omega, sameRfl, sameIn hw⟩) h
      repeat' (with_reducible first | assumption | exact su hw | intro _ | extract_lets | apply State.orP_keeps | apply State.inc_keeps | exact inn hw | omega)
    clear_value s1
    split
    · exact h1
    · exact State.raise_keeps _ _ _ _ _ (su hw) h1

theorem State.countFault_keeps (s : State) (id : Nat) (hw : Sub 0x20000 W) (hk_s : Keeps W s0 s) :
    Keeps W s0 (State.countFault s id) := by
  unfold State.countFault
  repeat' (with_reducible first | assumption | exact su hw | apply State.setPAt_keeps | split | exact inn hw | omega)

theorem State.failLow_keeps (s : State) (hw : Sub 0x400000000000 W) (hk_s : Keeps W s0 s) :
    Keeps W s0 (State.failLow s) := by
  unfold State.failLow
  repeat' (with_reducible
    first | assumption | exact su hw | intro _ | extract_lets | apply State.modFb_keeps | exact fbOkRefl (by assumption)
          | refine fbOkMk ?_ rfl ?_ ?_ | exact sameRfl | exact sameIn hw)

theorem State.requestReset_keeps (s : State) (cause : Nat) (hw : Sub 0x10000000000000000 W) (hk_s : Keeps W s0 s) :
    Keeps W s0 (State.requestReset s cause) := by
  unfold State.requestReset
  repeat' (with_reducible first | assumption | exact su hw | extract_lets | refine keeps_sup ?_ ?_)

theorem State.react_keeps (s : State) (r : FaultRec) (hw : Sub 0x4404440200810000 W) (hk_s : Keeps W s0 s) :
    Keeps W s0 (State.react s r) := by
  unfold State.react
  repeat' (with_reducible
    first | assumption | exact su hw | intro _ | extract_lets | apply State.ringAll_keeps | apply State.setRecord_keeps
          | apply State.queueJournal_keeps | apply State.failLow_keeps | apply keepsIte | apply keepsFold | split
          | dsimp +zetaDelta only | refine keeps_jrn rfl ?_ ?_ ?_ | exact sameRfl | exact sameIn hw)

theorem State.collectRaise_keeps (s : State) (r : Raise) (hw : Sub 0x14404640200830000 W) (hk_s : Keeps W s0 s) :
    Keeps W s0 (State.collectRaise s r) := by
  unfold State.collectRaise
  repeat' (with_reducible
    first | assumption | exact su hw | intro _ | extract_lets | apply State.orP_keeps | apply State.modFb_keeps
          | apply State.logFault_keeps | apply State.countFault_keeps | apply State.requestReset_keeps
          | apply State.react_keeps | apply keepsIte | exact fbOkRefl (by assumption) | split | refine fbOkMk ?_ rfl ?_ ?_
          | dsimp +zetaDelta only | exact inn hw | omega | exact sameRfl | exact sameIn hw)

theorem State.collectEnd_keeps (s : State) (r : Raise) (hw : Sub 0x400000000000 W) (hk_s : Keeps W s0 s) :
    Keeps W s0 (State.collectEnd s r) := by
  unfold State.collectEnd
  repeat' (with_reducible
    first | assumption | exact su hw | intro _ | extract_lets | apply State.modFb_keeps | exact fbOkRefl (by assumption)
          | refine fbOkMk ?_ rfl ?_ ?_ | dsimp +zetaDelta only | exact sameRfl | exact sameIn hw)

theorem State.collect_keeps (s : State) (r : Raise) (hw : Sub 0x14404640200830000 W) (hk_s : Keeps W s0 s) :
    Keeps W s0 (State.collect s r) := by
  unfold State.collect
  repeat' (with_reducible
    first | assumption | exact su hw | apply State.collectRaise_keeps | apply State.collectEnd_keeps | apply keepsIte)

theorem State.collectAll_keeps (s : State) (hw : Sub 0x14404640200830000 W) (hk_s : Keeps W s0 s) :
    Keeps W s0 (State.collectAll s) := by
  unfold State.collectAll
  repeat' (with_reducible
    first | assumption | exact su hw | intro _ | extract_lets | apply State.modFb_keeps | apply State.collect_keeps
          | exact fbOkRefl (by assumption) | apply keepsFold | refine fbOkMk ?_ rfl ?_ ?_ | exact sameRfl | exact sameIn hw)

theorem State.heartNow_keeps (s : State) (hw : Sub 0x1400000000000 W) (hk_s : Keeps W s0 s) :
    Keeps W s0 (State.heartNow s) := by
  unfold State.heartNow
  repeat' (with_reducible
    first | assumption | exact su hw | intro _ | extract_lets | apply State.modFb_keeps | exact fbOkRefl (by assumption)
          | split | refine fbOkMk ?_ rfl ?_ ?_ | refine keeps_heartwood ?_ ?_ | exact sameRfl | exact sameIn hw)

theorem State.clearAutonomous_keeps (s : State) (b : Fin 4) (hw : Sub 0x400200000000 W) (hk_s : Keeps W s0 s) :
    Keeps W s0 (State.clearAutonomous s b) := by
  unfold State.clearAutonomous
  repeat' (with_reducible
    first | assumption | exact su hw | intro _ | extract_lets | apply State.sendDownExpress_keeps | apply State.modFb_keeps
          | apply keepsIte | exact fbOkRefl (by assumption) | split | refine fbOkMk ?_ rfl ?_ ?_ | exact sameRfl
          | exact sameIn hw)

theorem State.doClear_keeps (s : State) (ep : Fin 8) (scope kind index : Nat) (recs : List Nat) (banks : List (Fin 4))
    (stuck : Nat) (hw : Sub 0x4000440200010000 W) (hk_s : Keeps W s0 s) :
    KeepsR W s0 (State.doClear s ep scope kind index recs banks stuck) := by
  unfold State.doClear
  repeat' (with_reducible
    first | assumption | exact su hw | intro _ | extract_lets | apply State.setBytes_keeps | apply State.journalAt_keeps
          | apply State.clearRecords_keeps | apply State.clearAutonomous_keeps | apply keepsIte | apply keepsFold | split
          | apply keepsR_mk | dsimp +zetaDelta only | exact inn hw | omega | (simp; done))

theorem clearSafe_keeps (s : State) (ep : Fin 8) (scope kind index : Nat) (key : BitVec 16)
    (hw : Sub 0x4000640200010000 W) (hk_s : Keeps W s0 s) :
    KeepsR W s0 (clearSafe s ep scope kind index key) := by
  unfold clearSafe
  repeat' (with_reducible
    first | assumption | exact su hw | intro _ | extract_lets | apply State.orP_keeps | apply State.raise_keeps
          | apply refuse_keeps | apply State.doClear_keeps | apply keepsIte | split | apply keepsR_mk | dsimp +zetaDelta only
          | exact inn hw | omega)

/-! ### Firebreak -/

theorem execFaultCollect_keeps (s : State) (hw : Sub 0x14404640200830000 W) (hk_s : Keeps W s0 s) :
    KeepsO W s0 (execFaultCollect s) := by
  unfold execFaultCollect
  repeat' (with_reducible
    first | assumption | exact su hw | intro _ | extract_lets | apply State.modFb_keeps | apply State.collect_keeps
          | apply keepsO_next | exact fbOkRefl (by assumption) | split | refine fbOkMk ?_ rfl ?_ ?_ | dsimp +zetaDelta only
          | exact sameRfl | exact sameIn hw)

theorem execFaultWindowExpiry_keeps (s : State) (hw : Sub 0x200000000000 W) (hk_s : Keeps W s0 s) :
    KeepsO W s0 (execFaultWindowExpiry s) := by
  unfold execFaultWindowExpiry
  repeat' (with_reducible
    first | assumption | exact su hw | intro _ | extract_lets | apply State.endFault_keeps | apply State.modFb_keeps
          | apply keepsO_next | exact fbOkRefl (by assumption) | apply keepsFold | refine fbOkMk ?_ rfl ?_ ?_
          | dsimp +zetaDelta only | exact sameRfl | exact sameIn hw)

theorem execSafeRefresh_keeps (s : State) (hw : Sub 0x400200000000 W) (hk_s : Keeps W s0 s) :
    KeepsO W s0 (execSafeRefresh s) := by
  unfold execSafeRefresh
  repeat' (with_reducible
    first | assumption | exact su hw | intro _ | extract_lets | apply State.sendDownExpress_keeps | apply State.modFb_keeps
          | apply keepsIte | apply keepsO_next | exact fbOkRefl (by assumption) | apply keepsFold | split
          | refine fbOkMk ?_ rfl ?_ ?_ | dsimp +zetaDelta only | exact sameRfl | exact sameIn hw)

theorem execSelfProtectionCheck_keeps (bad : Bool) (s : State) (hw : Sub 0x10005640200010000 W) (hk_s : Keeps W s0 s) :
    KeepsO W s0 (execSelfProtectionCheck bad s) := by
  unfold execSelfProtectionCheck
  repeat' (with_reducible
    first | assumption | exact su hw | extract_lets | apply State.raise_keeps | apply State.setRecord_keeps
          | apply State.failLow_keeps | apply State.requestReset_keeps | apply keepsIte | apply keepsO_next | split
          | dsimp +zetaDelta only | refine keeps_heartwood ?_ ?_)

theorem execSafeInAssertion_keeps (s : State) (hw : Sub 0x4640200010000 W) (hk_s : Keeps W s0 s) :
    KeepsO W s0 (execSafeInAssertion s) := by
  unfold execSafeInAssertion
  repeat' (with_reducible
    first | assumption | exact su hw | intro _ | extract_lets | apply State.orP_keeps | apply State.raise_keeps
          | apply State.modFb_keeps | apply State.setRecord_keeps | apply keepsIte | apply keepsO_next
          | exact fbOkRefl (by assumption) | apply keepsFold | split | refine fbOkMk ?_ rfl ?_ ?_ | dsimp +zetaDelta only
          | exact inn hw | omega | exact sameRfl | exact sameIn hw)

theorem execSafeInRelease_keeps (s : State) (hw : Sub 0x600000000000 W) (hk_s : Keeps W s0 s) :
    KeepsO W s0 (execSafeInRelease s) := by
  unfold execSafeInRelease
  repeat' (with_reducible
    first | assumption | exact su hw | intro _ | extract_lets | apply State.endFault_keeps | apply State.modFb_keeps
          | apply keepsIte | apply keepsO_next | exact fbOkRefl (by assumption) | split | refine fbOkMk ?_ rfl ?_ ?_
          | exact sameRfl | exact sameIn hw)

theorem execClearSafe_keeps (q : Req) (scope kind index : Nat) (key : BitVec 16) (s : State)
    (hw : Sub 0x145BC640200EB0000 W) (hk_s : Keeps W s0 s) :
    KeepsO W s0 (execClearSafe q scope kind index key s) := by
  unfold execClearSafe
  repeat' (with_reducible
    first | assumption | exact su hw | apply State.finish_keeps | apply CmdRes.finish_keeps | apply State.collectAll_keeps
          | apply clearSafe_keeps | apply keepsO_next)

theorem execClearAutonomousSend_keeps (b : Fin 4) (s : State) (hw : Sub 0x400200000000 W) (hk_s : Keeps W s0 s) :
    KeepsO W s0 (execClearAutonomousSend b s) := by
  unfold execClearAutonomousSend
  repeat' (with_reducible
    first | assumption | exact su hw | apply State.clearAutonomous_keeps | apply keepsIte | apply keepsO_next)

theorem liveness_keeps (s : State) (ep : Fin 8) (tag : Nat) (hw : Sub 0x600000040000 W) (hk_s : Keeps W s0 s) :
    KeepsR W s0 (liveness s ep tag) := by
  unfold liveness
  repeat' (with_reducible
    first | assumption | exact su hw | intro _ | extract_lets | apply State.setPCt_keeps | apply State.endFault_keeps
          | apply refuse_keeps | apply okRes_keeps | apply State.modFb_keeps | apply keepsIte | exact fbOkRefl (by assumption)
          | split | apply keepsR_mk | refine fbOkMk ?_ rfl ?_ ?_ | dsimp +zetaDelta only | exact inn hw | omega
          | exact sameRfl | exact sameIn hw)

theorem execLiveness_keeps (q : Req) (s : State) (hw : Sub 0x5BC600000EC0000 W) (hk_s : Keeps W s0 s) :
    KeepsO W s0 (execLiveness q s) := by
  unfold execLiveness
  repeat' (with_reducible
    first | assumption | exact su hw | apply State.finish_keeps | apply CmdRes.finish_keeps | apply liveness_keeps
          | apply keepsO_next)

theorem execLivenessTimeout_keeps (s : State) (hw : Sub 0x600000040000 W) (hk_s : Keeps W s0 s) :
    KeepsO W s0 (execLivenessTimeout s) := by
  unfold execLivenessTimeout
  repeat' (with_reducible
    first | assumption | exact su hw | intro _ | extract_lets | apply State.inc_keeps | apply State.orP_keeps
          | apply State.raise_keeps | apply State.modFb_keeps | apply keepsIte | apply keepsO_next
          | exact fbOkRefl (by assumption) | split | refine fbOkMk ?_ rfl ?_ ?_ | exact inn hw | omega | exact sameRfl
          | exact sameIn hw)

theorem dropWhile_length_le {α : Type} (q : α → Bool) : ∀ l : List α, (l.dropWhile q).length ≤ l.length
  | [] => Nat.le_refl _
  | a :: t => by
    rw [List.dropWhile]
    split
    · exact Nat.le_trans (dropWhile_length_le q t) (Nat.le_succ _)
    · exact Nat.le_refl _

theorem logPop_keeps (s : State) (seq : BitVec 16) (hw : Sub 0x400000000000 W) (h : Keeps W s0 s) : KeepsR W s0
    (logPop s seq) := by
  unfold logPop
  split
  · refine okRes_keeps _ (su hw) (State.modFb_keeps _ _ (fun f hf => ⟨?_, sameRfl, sameIn hw⟩) h)
    have := dropWhile_length_le (fun r : FaultRec => r.seq != seq) f.log
    simp only [List.length_drop] at hf ⊢
    omega
  · exact refuse_keeps _ _ (su hw) h

theorem execLogPop_keeps (q : Req) (seq : BitVec 16) (s : State) (hw : Sub 0x5BC600000E80000 W) (hk_s : Keeps W s0 s) :
    KeepsO W s0 (execLogPop q seq s) := by
  unfold execLogPop
  repeat' (with_reducible
    first | assumption | exact su hw | apply State.finish_keeps | apply CmdRes.finish_keeps | apply guardWrite_keeps
          | apply logPop_keeps | apply keepsO_next)

theorem rehearse_keeps (s : State) (ep : Fin 8) (staged all : Bool) (kind id index : Nat) (hw : Sub 0x4000400000020000 W)
    (hk_s : Keeps W s0 s) :
    KeepsR W s0 (rehearse s ep staged all kind id index) := by
  unfold rehearse
  repeat' (with_reducible
    first | assumption | exact su hw | intro _ | extract_lets | apply State.setBytes_keeps | apply State.journal_keeps
          | apply refuse_keeps | apply State.modFb_keeps | apply keepsIte | exact fbOkRefl (by assumption) | apply keepsFold
          | split | apply keepsR_mk | refine fbOkMk ?_ rfl ?_ ?_ | dsimp +zetaDelta only | exact inn hw | omega | (simp; done)
          | (simp; omega) | exact sameRfl | exact sameIn hw)

theorem execRehearseReaction_keeps (q : Req) (staged all : Bool) (kind ident index : Nat) (s : State)
    (hw : Sub 0x45BC600000EA0000 W) (hk_s : Keeps W s0 s) :
    KeepsO W s0 (execRehearseReaction q staged all kind ident index s) := by
  unfold execRehearseReaction
  repeat' (with_reducible
    first | assumption | exact su hw | apply State.finish_keeps | apply CmdRes.finish_keeps | apply rehearse_keeps
          | apply keepsO_next)

/-! ### Watchdog -/

theorem State.modWdt_keeps (s : State) (g : Watchdog → Watchdog) (hw : Sub 0x800000000000 W) (hk_s : Keeps W s0 s) :
    Keeps W s0 (State.modWdt s g) := by
  unfold State.modWdt
  repeat' (with_reducible first | assumption | exact su hw | extract_lets | refine keeps_wdt ?_ ?_)

theorem State.modHw_keeps (s : State) (g : Heartwood → Heartwood) (hw : Sub 0x1000000000000 W) (hk_s : Keeps W s0 s) :
    Keeps W s0 (State.modHw s g) := by
  unfold State.modHw
  repeat' (with_reducible first | assumption | exact su hw | extract_lets | refine keeps_heartwood ?_ ?_)

theorem State.privViolation_keeps (s : State) (hw : Sub 0xA00000040000 W) (hk_s : Keeps W s0 s) :
    Keeps W s0 (State.privViolation s) := by
  unfold State.privViolation
  repeat' (with_reducible
    first | assumption | exact su hw | intro _ | extract_lets | apply State.orP_keeps | apply State.raise_keeps
          | apply State.modWdt_keeps | exact inn hw | omega)

theorem State.bite_keeps (s : State) (hw : Sub 0x10005E40200010000 W) (hk_s : Keeps W s0 s) :
    Keeps W s0 (State.bite s) := by
  unfold State.bite
  repeat' (with_reducible
    first | assumption | exact su hw | intro _ | extract_lets | apply State.raise_keeps | apply State.setRecord_keeps
          | apply State.failLow_keeps | apply State.requestReset_keeps | apply State.modWdt_keeps | apply State.modHw_keeps
          | apply keepsIte)

theorem execWdtEnable_keeps (priv : Bool) (s : State) (hw : Sub 0xA00000040000 W) (hk_s : Keeps W s0 s) :
    KeepsO W s0 (execWdtEnable priv s) := by
  unfold execWdtEnable
  repeat' (with_reducible
    first | assumption | exact su hw | intro _ | extract_lets | apply State.modWdt_keeps | apply State.privViolation_keeps
          | apply keepsIte | apply keepsO_next)

theorem execWdtService_keeps (priv : Bool) (v : BitVec 32) (s : State) (hw : Sub 0x10005E40200050000 W) (hk_s : Keeps W s0 s) :
    KeepsO W s0 (execWdtService priv v s) := by
  unfold execWdtService
  repeat' (with_reducible
    first | assumption | exact su hw | intro _ | extract_lets | apply State.modWdt_keeps | apply State.privViolation_keeps
          | apply State.bite_keeps | apply keepsIte | apply keepsO_next | split)

theorem State.periodRejected_keeps (s : State) (hw : Sub 0x800000040000 W) (hk_s : Keeps W s0 s) :
    Keeps W s0 (State.periodRejected s) := by
  unfold State.periodRejected
  repeat' (with_reducible
    first | assumption | exact su hw | intro _ | extract_lets | apply State.orP_keeps | apply State.modWdt_keeps
          | exact inn hw | omega)

theorem State.clearWdtStatus_keeps (s : State) (v : BitVec 32) (hw : Sub 0x800000000000 W) (hk_s : Keeps W s0 s) :
    Keeps W s0 (State.clearWdtStatus s v) := by
  unfold State.clearWdtStatus
  repeat' (with_reducible first | assumption | exact su hw | intro _ | extract_lets | apply State.modWdt_keeps)

theorem execWdtPeriodWrite_keeps (priv : Bool) (field : WdtField) (v : BitVec 32) (s : State) (hw : Sub 0xA00000040000 W)
    (hk_s : Keeps W s0 s) :
    KeepsO W s0 (execWdtPeriodWrite priv field v s) := by
  unfold execWdtPeriodWrite
  repeat' (with_reducible
    first | assumption | exact su hw | intro _ | extract_lets | apply State.modWdt_keeps | apply State.privViolation_keeps
          | apply State.periodRejected_keeps | apply State.clearWdtStatus_keeps | apply keepsIte | apply keepsO_next | split)

theorem execWdtIntervalEnd_keeps (s : State) (hw : Sub 0x10005E40200010000 W) (hk_s : Keeps W s0 s) :
    KeepsO W s0 (execWdtIntervalEnd s) := by
  unfold execWdtIntervalEnd
  repeat' (with_reducible first | assumption | exact su hw | apply State.bite_keeps | apply keepsIte | apply keepsO_next)

theorem execClockMonitorWindow_keeps (edges : Nat) (gap : Bool) (s : State) (hw : Sub 0x10005E40200050000 W)
    (hk_s : Keeps W s0 s) :
    KeepsO W s0 (execClockMonitorWindow edges gap s) := by
  unfold execClockMonitorWindow
  repeat' (with_reducible
    first | assumption | exact su hw | intro _ | extract_lets | apply State.setP_keeps | apply State.raise_keeps
          | apply State.setRecord_keeps | apply State.failLow_keeps | apply State.requestReset_keeps
          | apply State.modWdt_keeps | apply State.modHw_keeps | apply keepsIte | apply keepsO_next | split
          | dsimp +zetaDelta only | exact inn hw | omega)

theorem execHeartwoodWrite_keeps (s : State) (hw : Sub 0x1400000000000 W) (hk_s : Keeps W s0 s) :
    KeepsO W s0 (execHeartwoodWrite s) := by
  unfold execHeartwoodWrite
  repeat' (with_reducible first | assumption | exact su hw | apply State.heartNow_keeps | apply keepsO_next)

theorem wdtResetCount_keeps (s : State) (v : BitVec 16) (hw : Sub 0x1000000000000 W) (hk_s : Keeps W s0 s) :
    KeepsR W s0 (wdtResetCount s v) := by
  unfold wdtResetCount
  repeat' (with_reducible
    first | assumption | exact su hw | intro _ | extract_lets | apply refuse_keeps | apply okRes_keeps
          | apply State.modHw_keeps | apply keepsIte)

theorem execWdtResetCount_keeps (q : Req) (v : BitVec 16) (s : State) (hw : Sub 0x5BD200000E80000 W) (hk_s : Keeps W s0 s) :
    KeepsO W s0 (execWdtResetCount q v s) := by
  unfold execWdtResetCount
  repeat' (with_reducible
    first | assumption | exact su hw | apply State.finish_keeps | apply CmdRes.finish_keeps | apply guardWrite_keeps
          | apply wdtResetCount_keeps | apply keepsO_next)

end Sys2Proof.Machine
end

