-- ==== Sys2Proof/Laws/KeepsLink.lean ====
section
/-! SUPPORT. The queue and the invariant are kept, and every part outside a set of parts: the bank links and the commit shares. One lemma per operation and per meaning. -/

namespace Sys2Proof.Machine

set_option Elab.async false

variable {W : Nat} {s0 : State}

/-! ### ShareOps -/

theorem bankCfg_keeps (s : State) (m : Store) (hw : Sub 0x40000000 W) (hm : cellsWf bankReset' m = true) (h : Keeps W s0 s) :
    Keeps W s0 { s with bankCfg := m } :=
  ⟨h.1, ⟨{ h.2.1.1 with bankCfg := hm }, h.2.1.2⟩, { h.2.2 with bankCfg := sameIn hw }⟩

theorem State.foldShare_keeps (s : State) (b : Fin 4) (hw : Sub 0x40000000 W) (h : Keeps W s0 s) : Keeps W s0 (s.foldShare b) :=
  bankCfg_keeps s _ hw (cellsWf_foldl h.2.1.1.bankCfg) h

theorem State.dropEntries_keeps (s : State) (b : Fin 4) (kind target code : Nat) (hw : Sub 0x500000000 W)
    (hk_s : Keeps W s0 s) :
    Keeps W s0 (State.dropEntries s b kind target code) := by
  unfold State.dropEntries
  repeat' (with_reducible
    first | assumption | exact su hw | intro _ | extract_lets | apply State.modBank_keeps | apply State.report_keeps
          | apply State.endPulses_keeps | apply keepsFold)

theorem State.endMode_keeps (s : State) (u : Fin 16) (m t : Nat) (hw : Sub 0x1400000000 W) (hk_s : Keeps W s0 s) :
    Keeps W s0 (State.endMode s u m t) := by
  unfold State.endMode
  repeat' (with_reducible
    first | assumption | exact su hw | intro _ | extract_lets | apply State.modU_keeps | apply State.bankEnd_keeps
          | apply keepsIte)

theorem State.abandonRot_keeps (s : State) (u : Fin 16) (hw : Sub 0x1100000000 W) (hk_s : Keeps W s0 s) :
    Keeps W s0 (State.abandonRot s u) := by
  unfold State.abandonRot
  repeat' (with_reducible
    first | assumption | exact su hw | intro _ | extract_lets | apply State.modBank_keeps | apply State.modRot_keeps
          | apply keepsIte)

theorem State.startMode_keeps (s : State) (u : Fin 16) (t : Nat) (hw : Sub 0x1000000000 W) (hk_s : Keeps W s0 s) :
    Keeps W s0 (State.startMode s u t) := by
  unfold State.startMode
  repeat' (with_reducible
    first | assumption | exact su hw | intro _ | extract_lets | apply State.modU_keeps | apply State.uLive_keeps
          | apply State.driveDo_keeps | apply State.driveDac_keeps | apply State.restartU_keeps | apply keepsIte)

theorem State.wbOff_keeps (s : State) (u : Fin 16) (hw : Sub 0x1400000000 W) (hk_s : Keeps W s0 s) :
    Keeps W s0 (State.wbOff s u) := by
  unfold State.wbOff
  repeat' (with_reducible
    first | assumption | exact su hw | extract_lets | apply State.bankEnd_keeps | apply State.uFlag_keeps
          | apply State.closeA_keeps | apply keepsIte)

theorem State.shareU_keeps (s old : State) (u : Fin 16) (t : Nat) (hw : Sub 0x1500000000 W) (hk_s : Keeps W s0 s)
    (hk_old : Keeps W s0 old) :
    Keeps W s0 (State.shareU s old u t) := by
  unfold State.shareU
  repeat' (with_reducible
    first | assumption | exact su hw | intro _ | extract_lets | apply State.modU_keeps | apply State.driveDac_keeps
          | apply State.setSrcU_keeps | apply State.restartU_keeps | apply State.dropEntries_keeps | apply State.endMode_keeps
          | apply State.abandonRot_keeps | apply State.startMode_keeps | apply State.wbOff_keeps | apply keepsIte)

theorem State.regroup_keeps (s : State) (l : Fin 8) (hw : Sub 0x2500000000 W) (hk_s : Keeps W s0 s) :
    Keeps W s0 (State.regroup s l) := by
  unfold State.regroup
  repeat' (with_reducible
    first | assumption | exact su hw | intro _ | extract_lets | apply State.modL_keeps | apply State.lFlag_keeps
          | apply State.turnOff_keeps | apply State.dropEntries_keeps)

theorem State.regroupG_keeps (s old : State) (b g : Fin 4) (hw : Sub 0x2500000000 W) (hk_s : Keeps W s0 s)
    (hk_old : Keeps W s0 old) :
    Keeps W s0 (State.regroupG s old b g) := by
  unfold State.regroupG
  repeat' (with_reducible
    first | assumption | exact su hw | intro _ | extract_lets | apply State.modL_keeps | apply State.modGrp_keeps
          | apply State.lFlag_keeps | apply State.safeGroups_keeps | apply State.dropEntries_keeps | apply keepsIte
          | apply keepsFold)

theorem State.shareL_keeps (s old : State) (b : Fin 4) (hw : Sub 0x2500000000 W) (hk_s : Keeps W s0 s)
    (hk_old : Keeps W s0 old) :
    Keeps W s0 (State.shareL s old b) := by
  unfold State.shareL
  repeat' (with_reducible
    first | assumption | exact su hw | intro _ | extract_lets | apply State.modL_keeps | apply State.modGrp_keeps
          | apply State.relaunch_keeps | apply State.relaunchGroup_keeps | apply State.regroup_keeps
          | apply State.regroupG_keeps | apply keepsIte | apply keepsFold)

theorem State.dropLatch_keeps (s : State) (f : Fin 8) (hw : Sub 0x4400000000 W) (hk_s : Keeps W s0 s) :
    Keeps W s0 (State.dropLatch s f) := by
  unfold State.dropLatch
  repeat' (with_reducible
    first | assumption | exact su hw | intro _ | extract_lets | apply State.modF_keeps | apply State.sendUp_keeps
          | apply State.fFlag_keeps | apply keepsIte | split)

theorem State.flipF_keeps (s old : State) (f : Fin 8) (hw : Sub 0x4000000000 W) (hk_s : Keeps W s0 s)
    (hk_old : Keeps W s0 old) :
    Keeps W s0 (State.flipF s old f) := by
  unfold State.flipF
  repeat' (with_reducible first | assumption | exact su hw | intro _ | extract_lets | apply State.modF_keeps | apply keepsIte)

theorem State.shareF_keeps (s old : State) (f : Fin 8) (t : Nat) (hw : Sub 0x4400000000 W) (hk_s : Keeps W s0 s)
    (hk_old : Keeps W s0 old) :
    Keeps W s0 (State.shareF s old f t) := by
  unfold State.shareF
  repeat' (with_reducible
    first | assumption | exact su hw | intro _ | extract_lets | apply State.modF_keeps | apply State.bankEnd_keeps
          | apply State.fFlag_keeps | apply State.syncAB_keeps | apply State.stopF_keeps | apply State.dropLatch_keeps
          | apply keepsIte)

theorem State.shareRot_keeps (s old : State) (b : Fin 4) (hw : Sub 0x1100000000 W) (hk_s : Keeps W s0 s)
    (hk_old : Keeps W s0 old) :
    Keeps W s0 (State.shareRot s old b) := by
  unfold State.shareRot
  repeat' (with_reducible
    first | assumption | exact su hw | extract_lets | apply State.cutShort_keeps | apply State.dropEstimate_keeps
          | apply State.refreshRot_keeps | apply keepsIte | split | dsimp +zetaDelta only)

theorem State.arriveBank_keeps (s : State) (b : Fin 4) (hw : Sub 0x7500000000 W) (hk_s : Keeps W s0 s) :
    Keeps W s0 (State.arriveBank s b) := by
  unfold State.arriveBank
  repeat' (with_reducible
    first | assumption | exact su hw | intro _ | extract_lets | apply State.modBank_keeps | apply State.modU_keeps
          | apply State.modL_keeps | apply State.modF_keeps | apply State.modGrp_keeps | apply State.fFlag_keeps
          | apply State.setSrcU_keeps | apply State.stopF_keeps | apply State.setSched_keeps | apply State.modRot_keeps
          | apply State.arrived_keeps | apply keepsFold)

theorem State.applyShare_keeps (s : State) (b : Fin 4) (a : CellTime) (arrival late : Bool) (hw : Sub 0x7540000000 W)
    (hk_s : Keeps W s0 s) :
    Keeps W s0 (State.applyShare s b a arrival late) := by
  unfold State.applyShare
  repeat' (with_reducible
    first | assumption | exact su hw | intro _ | extract_lets | apply State.modBank_keeps | apply State.sendUp_keeps
          | apply State.foldShare_keeps | apply State.shareU_keeps | apply State.shareL_keeps | apply State.flipF_keeps
          | apply State.shareF_keeps | apply State.shareRot_keeps | apply State.arriveBank_keeps | apply keepsIte
          | apply keepsFold)

theorem State.shareFirst_keeps (s : State) (b : Fin 4) (t : Nat) (hw : Sub 0x7540000000 W) (hk_s : Keeps W s0 s) :
    Keeps W s0 (State.shareFirst s b t) := by
  unfold State.shareFirst
  repeat' (with_reducible
    first | assumption | exact su hw | extract_lets | apply State.applyShare_keeps | apply keepsIte | split)

theorem State.shareDue_keeps (s : State) (b : Fin 4) (arrival : Bool) (hw : Sub 0x27540002000 W) (hk_s : Keeps W s0 s) :
    Keeps W s0 (State.shareDue s b arrival) := by
  unfold State.shareDue
  repeat' (with_reducible
    first | assumption | exact su hw | extract_lets | apply State.applyDue_keeps | apply State.applyShare_keeps
          | apply keepsIte | split)

theorem State.entriesAndShare_keeps (s : State) (b : Fin 4) (late : Bool) (hw : Sub 0x27540002000 W) (hk_s : Keeps W s0 s) :
    Keeps W s0 (State.entriesAndShare s b late) := by
  unfold State.entriesAndShare
  repeat' (with_reducible
    first | assumption | exact su hw | extract_lets | apply State.applyDue_keeps | apply State.shareFirst_keeps
          | apply keepsIte | split)

theorem execScheduleApplyInstant_keeps (b : Fin 4) (s : State) (hw : Sub 0x27540002000 W) (hk_s : Keeps W s0 s) :
    KeepsO W s0 (execScheduleApplyInstant b s) := by
  unfold execScheduleApplyInstant
  repeat' (with_reducible first | assumption | exact su hw | apply State.entriesAndShare_keeps | apply keepsO_next)

theorem execDecimatorSyncInstant_keeps (b : Fin 4) (s : State) (hw : Sub 0x4000007540000100 W) (hk_s : Keeps W s0 s) :
    KeepsO W s0 (execDecimatorSyncInstant b s) := by
  unfold execDecimatorSyncInstant
  repeat' (with_reducible
    first | assumption | exact su hw | intro _ | extract_lets | apply State.setP_keeps | apply State.setPCt_keeps
          | apply State.modBank_keeps | apply State.modU_keeps | apply State.journalAt_keeps | apply State.syncChannel_keeps
          | apply State.cutShort_keeps | apply State.dropEstimate_keeps | apply State.shareFirst_keeps
          | apply State.arrived_keeps | apply keepsIte | apply keepsO_next | apply keepsFold | split | dsimp +zetaDelta only
          | exact inn hw | omega)

/-! ### LinkOps -/

theorem State.modDown_keeps (s : State) (b : Fin 4) (g : LinkDir DownCell SyncCell → LinkDir DownCell SyncCell)
    (hw : Sub 0x200000000 W)
    (hg : ∀ x, LinkOk x → LinkOk (g x)) (h : Keeps W s0 s) : Keeps W s0 (s.modDown b g) :=
  down_keeps s b _ hw (hg _ (h.2.1.2.down b)) h

theorem State.modUp_keeps (s : State) (b : Fin 4) (g : LinkDir UpCell StatusCell → LinkDir UpCell StatusCell)
    (hw : Sub 0x400000000 W)
    (hg : ∀ x, LinkOk x → LinkOk (g x)) (h : Keeps W s0 s) : Keeps W s0 (s.modUp b g) :=
  up_keeps s b _ hw (hg _ (h.2.1.2.up b)) h

theorem linkFresh_ok {π σ : Type} (d : LinkDir π σ) : LinkOk (linkFresh d) := Nat.zero_le _

theorem State.linkError_keeps (s : State) (b : Fin 4) (hw : Sub 0x200000000020 W) (hk_s : Keeps W s0 s) :
    Keeps W s0 (State.linkError s b) := by
  unfold State.linkError
  repeat' (with_reducible
    first | assumption | exact su hw | apply State.inc_keeps | apply State.occur_keeps | exact inn hw | omega)

theorem State.goodDown_keeps (s : State) (b : Fin 4) (hw : Sub 0x500000000 W) (hk_s : Keeps W s0 s) :
    Keeps W s0 (State.goodDown s b) := by
  unfold State.goodDown
  repeat' (with_reducible
    first | assumption | exact su hw | intro _ | extract_lets | apply State.modBank_keeps | apply State.modUp_keeps
          | apply linkOkNil | exact linkReset_ok | apply linkAck_ok)

theorem State.goodUp_keeps (s : State) (b : Fin 4) (hw : Sub 0xA00000020 W) (hk_s : Keeps W s0 s) :
    Keeps W s0 (State.goodUp s b) := by
  unfold State.goodUp
  repeat' (with_reducible
    first | assumption | exact su hw | intro _ | extract_lets | apply State.setP_keeps | apply State.modLink_keeps
          | apply State.modDown_keeps | apply keepsIte | apply linkOkNil | exact linkReset_ok | apply linkAck_ok
          | apply linkTurn_ok | apply linkResend_ok | split | refine linkOkMk ?_ rfl | dsimp +zetaDelta only | exact inn hw
          | omega)

theorem State.sendContent_keeps (s : State) (b : Fin 4) (content : Store) (all : Bool) (hw : Sub 0xA00000000 W)
    (hk_s : Keeps W s0 s) :
    Keeps W s0 (State.sendContent s b content all) := by
  unfold State.sendContent
  repeat' (with_reducible
    first | assumption | exact su hw | intro _ | extract_lets | apply State.modLink_keeps | apply State.sendDown_keeps
          | apply keepsIte | apply keepsFold)

theorem State.sendShare_keeps (s : State) (b : Fin 4) (content : Store) (apply : CellTime) (hw : Sub 0xA00000000 W)
    (hk_s : Keeps W s0 s) :
    Keeps W s0 (State.sendShare s b content apply) := by
  unfold State.sendShare
  repeat' (with_reducible first | assumption | exact su hw | apply State.sendDown_keeps | apply State.sendContent_keeps)

theorem State.unawait_keeps (s : State) (b : Fin 4) (hw : Sub 0x40000000000000 W) (hk_s : Keeps W s0 s) :
    Keeps W s0 (State.unawait s b) := by
  unfold State.unawait
  repeat' (with_reducible
    first | assumption | exact su hw | intro _ | extract_lets | apply keepsIte | split | dsimp +zetaDelta only
          | refine keeps_journalCommits ?_ ?_)

theorem State.followSafe_keeps (s : State) (hw : Sub 0xA00000000 W) (hk_s : Keeps W s0 s) :
    Keeps W s0 (State.followSafe s) := by
  unfold State.followSafe
  repeat' (with_reducible
    first | assumption | exact su hw | intro _ | extract_lets | apply State.modLink_keeps | apply State.sendSafe_keeps
          | apply keepsIte | apply keepsFold)

theorem State.setBankState_keeps (s : State) (b : Fin 4) (new : Nat) (hw : Sub 0x4004040A00000020 W) (hk_s : Keeps W s0 s) :
    Keeps W s0 (State.setBankState s b new) := by
  unfold State.setBankState
  repeat' (with_reducible
    first | assumption | exact su hw | extract_lets | apply State.setP_keeps | apply State.ringAll_keeps
          | apply State.journalAt_keeps | apply State.devicePoint_keeps | apply State.followSafe_keeps | apply keepsIte
          | split | dsimp +zetaDelta only | exact inn hw | omega)

theorem State.lapseClear_keeps (s : State) (b : Fin 4) (hw : Sub 0x400000000000 W) (hk_s : Keeps W s0 s) :
    Keeps W s0 (State.lapseClear s b) := by
  unfold State.lapseClear
  repeat' (with_reducible
    first | assumption | exact su hw | intro _ | extract_lets | apply State.modFb_keeps | exact fbOkRefl (by assumption)
          | refine fbOkMk ?_ rfl ?_ ?_ | exact sameRfl | exact sameIn hw)

theorem State.loseEntries_keeps (s : State) (b : Fin 4) (hw : Sub 0x4024220000002000 W) (hk_s : Keeps W s0 s) :
    Keeps W s0 (State.loseEntries s b) := by
  unfold State.loseEntries
  repeat' (with_reducible
    first | assumption | exact su hw | intro _ | extract_lets | apply State.raise_keeps | apply State.recordOutcome_keeps
          | apply keepsIte | apply keepsFold)

theorem State.endCancels_keeps (s : State) (b : Fin 4) (hw : Sub 0x45BC220000E82000 W) (hk_s : Keeps W s0 s) :
    Keeps W s0 (State.endCancels s b) := by
  unfold State.endCancels
  repeat' (with_reducible
    first | assumption | exact su hw | intro _ | extract_lets | apply State.cancelReport_keeps | apply keepsFold)

theorem State.clearBankPoints_keeps (s : State) (b : Fin 4) (hw : Sub 0x40000000000 W) (hk_s : Keeps W s0 s) :
    Keeps W s0 (State.clearBankPoints s b) := by
  unfold State.clearBankPoints
  repeat' (with_reducible
    first | assumption | exact su hw | intro _ | extract_lets | apply State.clearPoint_keeps | apply keepsFold)

theorem State.goAbsent_keeps (s : State) (b : Fin 4) (hw : Sub 0x45FC660A00E82020 W) (hk_s : Keeps W s0 s) :
    Keeps W s0 (State.goAbsent s b) := by
  unfold State.goAbsent
  repeat' (with_reducible
    first | assumption | exact su hw | intro _ | extract_lets | apply State.orP_keeps | apply State.modLink_keeps
          | apply State.endFault_keeps | apply State.shareDue_keeps | apply State.unawait_keeps
          | apply State.setBankState_keeps | apply State.lapseClear_keeps | apply State.loseEntries_keeps
          | apply State.endCancels_keeps | apply State.clearBankPoints_keeps | apply keepsIte | split | dsimp +zetaDelta only
          | exact inn hw | omega)

theorem State.goSilent_keeps (s : State) (b : Fin 4) (hw : Sub 0x4044640A00000020 W) (hk_s : Keeps W s0 s) :
    Keeps W s0 (State.goSilent s b) := by
  unfold State.goSilent
  repeat' (with_reducible
    first | assumption | exact su hw | extract_lets | apply State.orP_keeps | apply State.raise_keeps
          | apply State.unawait_keeps | apply State.setBankState_keeps | apply State.lapseClear_keeps | dsimp +zetaDelta only
          | exact inn hw | omega)

theorem State.sendFactory_keeps (s : State) (b : Fin 4) (hw : Sub 0x200000000 W) (hk_s : Keeps W s0 s) :
    Keeps W s0 (State.sendFactory s b) := by
  unfold State.sendFactory
  repeat' (with_reducible
    first | assumption | exact su hw | intro _ | extract_lets | apply State.sendDown_keeps | apply keepsFold)

theorem State.enterStarting_keeps (s : State) (b : Fin 4) (fresh : Bool) (hw : Sub 0x4004040E00000020 W) (hk_s : Keeps W s0 s) :
    Keeps W s0 (State.enterStarting s b fresh) := by
  unfold State.enterStarting
  repeat' (with_reducible
    first | assumption | exact su hw | intro _ | extract_lets | apply State.setP_keeps | apply State.setPCt_keeps
          | apply State.inc_keeps | apply State.orP_keeps | apply State.modLink_keeps | apply State.sendDownExpress_keeps
          | apply State.sendForceAll_keeps | apply State.shareDue_keeps | apply State.modDown_keeps | apply State.modUp_keeps
          | apply State.sendContent_keeps | apply State.setBankState_keeps | apply State.sendFactory_keeps | apply keepsIte
          | apply linkOkNil | exact linkReset_ok | apply linkAck_ok | apply linkTurn_ok | apply linkResend_ok
          | exact linkFresh_ok _ | split | refine linkOkMk ?_ rfl | refine linkOkMk ?_ rfl | dsimp +zetaDelta only
          | exact inn hw | omega)

theorem State.sendArrival_keeps (s : State) (b : Fin 4) (hw : Sub 0xA00000000 W) (hk_s : Keeps W s0 s) :
    Keeps W s0 (State.sendArrival s b) := by
  unfold State.sendArrival
  repeat' (with_reducible
    first | assumption | exact su hw | intro _ | extract_lets | apply State.modLink_keeps | apply State.sendDown_keeps
          | apply keepsIte)

theorem State.arrived_keeps (s : State) (b : Fin 4) (hw : Sub 0x4004040A00000020 W) (hk_s : Keeps W s0 s) :
    Keeps W s0 (State.arrived s b) := by
  unfold State.arrived
  repeat' (with_reducible
    first | assumption | exact su hw | intro _ | extract_lets | apply State.modLink_keeps | apply State.shareDue_keeps
          | apply State.sendShare_keeps | apply State.setBankState_keeps | apply keepsIte | split)

theorem State.shareReport_keeps (s : State) (b : Fin 4) (apply : CellTime) (late : Bool) (hw : Sub 0x40200000000022 W)
    (h : Keeps W s0 s) : Keeps W s0 (s.shareReport b apply late) := by
  unfold State.shareReport
  extract_lets bit upd s1 s2 s3
  have h1 : Keeps W s0 s1 := by
    refine ⟨h.1, ⟨{ h.2.1.1 with content := ?_ }, h.2.1.2⟩, { h.2.2 with commit := sameIn hw }⟩
    intro c hc
    simp only [s1, Option.map_map] at hc
    refine h.2.1.1.content c ?_
    rw [← hc]
    congr 1
    funext x
    simp only [Function.comp, upd]
    split <;> rfl
  clear_value s1
  split
  · have h2 : Keeps W s0 s2 := by
      repeat' (with_reducible first | assumption | exact su hw | intro _ | extract_lets | apply State.orP_keeps | apply State.inc_keeps | exact inn hw | omega)
    clear_value s2
    have h3 : Keeps W s0 s3 := by
      with_reducible apply keepsIte
      all_goals repeat' (with_reducible first | assumption | exact su hw | intro _ | extract_lets | apply State.setPAt_keeps | exact inn hw | omega)
    exact State.raise_keeps _ _ _ _ _ (su hw) h3
  · exact h1

theorem State.statePoint_keeps (s : State) (h : Nat) (v : Int) (q : Byte) (unc : Bool) (hw : Sub 0x40000000000 W)
    (hk_s : Keeps W s0 s) :
    Keeps W s0 (State.statePoint s h v q unc) := by
  unfold State.statePoint
  repeat' (with_reducible first | assumption | exact su hw | extract_lets | apply State.ownPoint_keeps | apply keepsIte)

theorem State.takeSample_keeps (s : State) (x : Sample) (hw : Sub 0x40000000040 W) (hk_s : Keeps W s0 s) :
    Keeps W s0 (State.takeSample s x) := by
  unfold State.takeSample
  repeat' (with_reducible
    first | assumption | exact su hw | intro _ | extract_lets | apply State.setP_keeps | apply State.setPI_keeps
          | apply State.setPCt_keeps | apply State.ownPoint_keeps | apply keepsIte | split | dsimp +zetaDelta only
          | exact inn hw | omega)

theorem State.queueCapture_keeps (s : State) (f : Fin 8) (r : EdgeRec) (unc latch : Bool) (hw : Sub 0x420C000000000 W)
    (h : Keeps W s0 s) : Keeps W s0 (s.queueCapture f r unc latch) := by
  unfold State.queueCapture
  extract_lets q full drop e s1 q1 s2
  have hq : q.length ≤ 64 := h.2.1.2.caps f
  clear_value q
  split
  · exact State.captureLost_keeps _ _ (su hw) h
  · rename_i hn
    have h1 : Keeps W s0 s1 := by
      with_reducible apply keepsIte
      · exact State.captureLost_keeps _ _ (su hw) h
      · exact h
    have h2 : q1.length ≤ 64 := by
      by_cases hd : drop = true
      · simp only [q1, hd, if_true, List.length_append, List.length_drop, List.length_singleton]; omega
      · have hf : full = false := by
          cases hf : full
          · rfl
          · simp [hf, hd] at hn
        have : ¬ (q.length ≥ 64) := by simpa [full] using hf
        simp only [q1, hd, List.length_append, List.length_singleton]
        split <;> simp at * <;> omega
    clear_value s1 q1
    exact State.ringAll_keeps _ _ (su hw) (State.modF_keeps _ _ _ (su hw) (captures_keeps _ _ _ (su hw) h2 h1))

theorem State.forwardTrigger_keeps (s : State) (b : Fin 4) (code : Nat) (t : CellTime) (hw : Sub 0x200000000 W)
    (hk_s : Keeps W s0 s) :
    Keeps W s0 (State.forwardTrigger s b code t) := by
  unfold State.forwardTrigger
  repeat' (with_reducible
    first | assumption | exact su hw | intro _ | apply State.sendDown_keeps | apply State.latch_keeps | apply keepsFold)

theorem State.takeEdge_keeps (s : State) (b : Fin 4) (r : EdgeRec) (hw : Sub 0x424C200000040 W) (hk_s : Keeps W s0 s) :
    Keeps W s0 (State.takeEdge s b r) := by
  unfold State.takeEdge
  repeat' (with_reducible
    first | assumption | exact su hw | extract_lets | apply State.setPI_keeps | apply State.setPCt_keeps
          | apply State.ownPoint_keeps | apply State.capture_keeps | apply State.queueCapture_keeps
          | apply State.forwardTrigger_keeps | apply keepsIte | split | dsimp +zetaDelta only | exact inn hw | omega)

theorem State.dropEdge_keeps (s : State) (b : Fin 4) (r : EdgeRec) (hw : Sub 0x5000000000 W) (hk_s : Keeps W s0 s) :
    Keeps W s0 (State.dropEdge s b r) := by
  unfold State.dropEdge
  repeat' (with_reducible
    first | assumption | exact su hw | intro _ | extract_lets | apply State.modU_keeps | apply State.modF_keeps
          | apply State.uLive_keeps | apply keepsIte)

theorem State.formEdge_keeps (s : State) (b : Fin 4) (hw : Sub 0x5400000000 W) (hk_s : Keeps W s0 s) :
    Keeps W s0 (State.formEdge s b) := by
  unfold State.formEdge
  repeat' (with_reducible
    first | assumption | exact su hw | intro _ | extract_lets | apply State.sendUpExpress_keeps | apply State.dropEdge_keeps
          | apply keepsFold | split)

/-! ### Refresh -/

/-- Writing bytes within one class changes no other class. -/
theorem classWrite_keeps (s : State) (k : Nat) (l : List Byte) (hc : W.testBit (k / 2 ^ 36) = true)
    (ho : k % 2 ^ 36 + l.length ≤ 2 ^ 36) (h : Keeps W s0 s) :
    Keeps W s0 { s with dict := cellsWriteL parReset s.dict k l } := by
  refine ⟨h.1, ⟨{ h.2.1.1 with dict := cellsWf_writeL h.2.1.1.dict }, h.2.1.2⟩, { h.2.2 with params := ?_ }⟩
  intro c hlt
  by_cases hcc : c = k / 2 ^ 36
  · subst hcc; exact Or.inl hc
  · rcases h.2.2.params c hlt with hp | hp
    · exact Or.inl hp
    · refine Or.inr fun i hi => ?_
      rw [← hp i hi]
      refine cellsRead_writeL_out h.2.1.1.dict ?_
      omega

/-- Every class of a list may change. -/
def ClassesIn (W : Nat) (l : List Nat) : Prop := ∀ c ∈ l, W.testBit c = true

theorem figClasses {A W : Nat} {l : List Nat} (hw : Sub A W) (h : ∀ c ∈ l, A.testBit c = true) : ClassesIn W l :=
  fun c hc => hw c (h c hc)

theorem State.takeFigs_keeps (s : State) (classes : List Nat) (f : Figures) (hc : ClassesIn W classes)
    (hw : Sub 0x40000000000 W) (h : Keeps W s0 s) : Keeps W s0 (s.takeFigs classes f) := by
  unfold State.takeFigs
  extract_lets s1
  have h1 : Keeps W s0 s1 := by
    have go : ∀ (l : List (Nat × List Byte)) (x : State), (∀ a ∈ l, figIn classes a = true) → Keeps W s0 x →
        Keeps W s0 (l.foldl (fun (x : State) a => { x with dict := cellsWriteL parReset x.dict a.1 a.2 }) x) := by
      intro l
      induction l with
      | nil => intro x _ hx; exact hx
      | cons a t ih =>
        intro x ha hx
        have h0 := ha a (List.mem_cons_self ..)
        simp only [figIn, Bool.and_eq_true, List.contains_iff_mem, decide_eq_true_eq] at h0
        exact ih _ (fun b hb => ha b (List.mem_cons_of_mem _ hb)) (classWrite_keeps x a.1 a.2 (hc _ h0.1) h0.2 hx)
    exact go _ s (fun a ha => (List.mem_filter.mp ha).2) h
  clear_value s1
  exact keepsFold (fun x p hx => State.statePoint_keeps _ _ _ _ _ (su hw) hx) h1

theorem State.settlingPoint_keeps (s : State) (u : Fin 16) (hw : Sub 0x40000000000 W) (hk_s : Keeps W s0 s) :
    Keeps W s0 (State.settlingPoint s u) := by
  unfold State.settlingPoint
  repeat' (with_reducible first | assumption | exact su hw | extract_lets | apply State.ownPoint_keeps | apply keepsIte)

theorem State.takeSyncState_keeps (s : State) (u : Fin 16) (c : Nat × Option Nat) (hw : Sub 0x1000000100 W)
    (hk_s : Keeps W s0 s) :
    Keeps W s0 (State.takeSyncState s u c) := by
  unfold State.takeSyncState
  repeat' (with_reducible
    first | assumption | exact su hw | intro _ | extract_lets | apply State.setP_keeps | apply State.setPCt_keeps
          | apply State.modU_keeps | apply keepsIte | split | dsimp +zetaDelta only | exact inn hw | omega)

theorem State.refreshG_keeps (s : State) (g : Fin 4) (hw : Sub 0x40000000800 W) (hk_s : Keeps W s0 s) :
    Keeps W s0 (State.refreshG s g) := by
  unfold State.refreshG
  repeat' (with_reducible
    first | assumption | exact su hw | intro _ | extract_lets | apply State.setP_keeps | apply State.statePoint_keeps
          | apply keepsIte | split | dsimp +zetaDelta only | exact inn hw | omega)

theorem State.refreshShare_keeps (s : State) (g : Fin 4) (hw : Sub 0x800 W) (hk_s : Keeps W s0 s) :
    Keeps W s0 (State.refreshShare s g) := by
  unfold State.refreshShare
  repeat' (with_reducible
    first | assumption | exact su hw | intro _ | extract_lets | apply State.setP_keeps | apply State.setPI_keeps
          | apply keepsIte | apply keepsFold | split | dsimp +zetaDelta only | exact inn hw | omega)

theorem State.groupStatus_keeps (s : State) (g : Fin 4) (hw : Sub 0x800 W) (hk_s : Keeps W s0 s) :
    Keeps W s0 (State.groupStatus s g) := by
  unfold State.groupStatus
  repeat' (with_reducible
    first | assumption | exact su hw | intro _ | extract_lets | apply State.setP_keeps | apply keepsFold
          | dsimp +zetaDelta only | exact inn hw | omega)

theorem State.sendShareOf_keeps (s : State) (g : Fin 4) (hw : Sub 0x200000000 W) (hk_s : Keeps W s0 s) :
    Keeps W s0 (State.sendShareOf s g) := by
  unfold State.sendShareOf
  repeat' (with_reducible
    first | assumption | exact su hw | intro _ | extract_lets | apply State.sendDown_keeps | apply keepsIte | apply keepsFold)

theorem State.sendTripInstant_keeps (s : State) (g : Fin 4) (hw : Sub 0x200000800 W) (hk_s : Keeps W s0 s) :
    Keeps W s0 (State.sendTripInstant s g) := by
  unfold State.sendTripInstant
  repeat' (with_reducible
    first | assumption | exact su hw | intro _ | extract_lets | apply State.setBytes_keeps | apply State.setPCt_keeps
          | apply State.sendDown_keeps | apply keepsIte | apply keepsFold | split | dsimp +zetaDelta only | exact inn hw
          | omega | (simp; done))

theorem State.sendLock_keeps (s : State) (g : Fin 4) (hw : Sub 0x10200000000 W) (hk_s : Keeps W s0 s) :
    Keeps W s0 (State.sendLock s g) := by
  unfold State.sendLock
  repeat' (with_reducible
    first | assumption | exact su hw | intro _ | extract_lets | apply State.sendHold_keeps | apply State.modSide_keeps
          | apply keepsIte)

theorem State.latchTold_keeps (s : State) (g : Fin 4) (hw : Sub 0x210000000800 W) (hk_s : Keeps W s0 s) :
    Keeps W s0 (State.latchTold s g) := by
  unfold State.latchTold
  repeat' (with_reducible
    first | assumption | exact su hw | intro _ | extract_lets | apply State.setP_keeps | apply State.endFault_keeps
          | apply State.modSide_keeps | apply State.latch_keeps | apply keepsIte | split | dsimp +zetaDelta only
          | exact inn hw | omega)

theorem State.lswGroup_keeps (s : State) (g : Fin 4) (hw : Sub 0x250200000800 W) (hk_s : Keeps W s0 s) :
    Keeps W s0 (State.lswGroup s g) := by
  unfold State.lswGroup
  repeat' (with_reducible
    first | assumption | exact su hw | extract_lets | apply State.memberMasks_keeps | apply State.refreshG_keeps
          | apply State.refreshShare_keeps | apply State.groupStatus_keeps | apply State.sendShareOf_keeps
          | apply State.sendTripInstant_keeps | apply State.sendLock_keeps | apply State.latchTold_keeps)

theorem State.noteFault_keeps (s : State) (e : Raise) (note : BitVec 8) (hw : Sub 0x210200000800 W) (hk_s : Keeps W s0 s) :
    Keeps W s0 (State.noteFault s e note) := by
  unfold State.noteFault
  repeat' (with_reducible
    first | assumption | exact su hw | intro _ | extract_lets | apply State.raise_keeps | apply State.sendHold_keeps
          | apply State.modSide_keeps | apply State.memberMasks_keeps | apply State.refreshShare_keeps
          | apply State.sendShareOf_keeps | apply State.sendTripInstant_keeps | apply keepsIte)

theorem State.fastPoint_keeps (s : State) (f : Fin 8) (v : Int) (st : BitVec 16) (t : CellTime) (marked : Bool)
    (hw : Sub 0x40000000000 W) (hk_s : Keeps W s0 s) :
    Keeps W s0 (State.fastPoint s f v st t marked) := by
  unfold State.fastPoint
  repeat' (with_reducible first | assumption | exact su hw | apply State.statePoint_keeps)

theorem State.takeFast_keeps (s : State) (f : Fin 8) (st : BitVec 16) (t : CellTime) (marked : Bool)
    (hw : Sub 0x40000000000 W) (hk_s : Keeps W s0 s) :
    Keeps W s0 (State.takeFast s f st t marked) := by
  unfold State.takeFast
  repeat' (with_reducible first | assumption | exact su hw | apply State.fastPoint_keeps | apply keepsIte)

theorem State.takeCountFig_keeps (s : State) (f : Fin 8) (c : CountFig) (hw : Sub 0x40000001000 W) (hk_s : Keeps W s0 s) :
    Keeps W s0 (State.takeCountFig s f c) := by
  unfold State.takeCountFig
  repeat' (with_reducible
    first | assumption | exact su hw | intro _ | extract_lets | apply State.takeFigs_keeps | apply State.fastPoint_keeps
          | dsimp +zetaDelta only | exact figClasses hw (by decide))

theorem State.takeCount_keeps (s : State) (b : Fin 4) (cs : List CountFig) (hw : Sub 0x40000001000 W) (hk_s : Keeps W s0 s) :
    Keeps W s0 (State.takeCount s b cs) := by
  unfold State.takeCount
  repeat' (with_reducible first | assumption | exact su hw | intro _ | apply State.takeCountFig_keeps | apply keepsFold)

theorem State.refreshBank_keeps (s : State) (b : Fin 4) (c : StatusCell) (hw : Sub 0x41808000FF0 W) (hk_s : Keeps W s0 s) :
    Keeps W s0 (State.refreshBank s b c) := by
  unfold State.refreshBank
  repeat' (with_reducible
    first | assumption | exact su hw | intro _ | extract_lets | apply State.modLink_keeps | apply State.takeFigs_keeps
          | apply State.settlingPoint_keeps | apply State.takeSyncState_keeps | apply State.refreshG_keeps
          | apply State.takeFast_keeps | apply keepsFold | dsimp +zetaDelta only | exact figClasses hw (by decide))

theorem State.takeLsw_keeps (s : State) (b : Fin 4) (f : Figures) (groups : List GroupFig) (hw : Sub 0x250A00000C00 W)
    (hk_s : Keeps W s0 s) :
    Keeps W s0 (State.takeLsw s b f groups) := by
  unfold State.takeLsw
  repeat' (with_reducible
    first | assumption | exact su hw | intro _ | extract_lets | apply State.setP_keeps | apply State.modLink_keeps
          | apply State.takeFigs_keeps | apply State.lswGroup_keeps | apply keepsFold | split | dsimp +zetaDelta only
          | exact inn hw | omega | exact figClasses hw (by decide))

/-! ### LinkTurn -/

theorem State.turnDown_keeps (s : State) (b : Fin 4) (hw : Sub 0xA00000000 W) (hk_s : Keeps W s0 s) :
    Keeps W s0 (State.turnDown s b) := by
  unfold State.turnDown
  repeat' (with_reducible
    first | assumption | exact su hw | intro _ | extract_lets | apply State.modLink_keeps | apply State.modDown_keeps
          | apply State.sendArrival_keeps | apply keepsIte | apply linkOkNil | exact linkReset_ok | apply linkAck_ok
          | apply linkTurn_ok)

theorem State.endTimedBits_keeps (s : State) (f : Fin 8) (hw : Sub 0x4000000000 W) (hk_s : Keeps W s0 s) :
    Keeps W s0 (State.endTimedBits s f) := by
  unfold State.endTimedBits
  repeat' (with_reducible
    first | assumption | exact su hw | intro _ | extract_lets | apply State.modF_keeps | apply State.fFlag_keeps
          | apply keepsIte)

theorem State.formOrdinary_keeps (s : State) (b : Fin 4) (hw : Sub 0x5500000000 W) (hk_s : Keeps W s0 s) :
    Keeps W s0 (State.formOrdinary s b) := by
  unfold State.formOrdinary
  repeat' (with_reducible
    first | assumption | exact su hw | intro _ | extract_lets | apply State.modBank_keeps | apply State.modU_keeps
          | apply State.sendUp_keeps | apply State.endTimedBits_keeps | apply keepsIte | apply keepsFold | split)

theorem State.turnUp_keeps (s : State) (b : Fin 4) (hw : Sub 0x5500000000 W) (hk_s : Keeps W s0 s) :
    Keeps W s0 (State.turnUp s b) := by
  unfold State.turnUp
  repeat' (with_reducible
    first | assumption | exact su hw | intro _ | extract_lets | apply State.modBank_keeps | apply State.modUp_keeps
          | apply State.formEdge_keeps | apply State.formOrdinary_keeps | apply keepsIte | apply linkOkNil
          | exact linkReset_ok | apply linkAck_ok | apply linkTurn_ok | apply linkResend_ok | split | refine linkOkMk ?_ rfl
          | dsimp +zetaDelta only)

theorem State.takeDown_keeps (s : State) (b : Fin 4) (hit : Noise) (want : DownCell → Bool)
    (act : State → DownCell → State) (hw : Sub 0x200F00000020 W) (hk_s : Keeps W s0 s) (hk_act : ∀ s c, Keeps W s0 s → Keeps W s0 (act s c)) :
    Keeps W s0 (State.takeDown s b hit want act) := by
  unfold State.takeDown
  repeat' (with_reducible
    first | assumption | exact su hw | intro _ | extract_lets | apply State.modDown_keeps | apply State.linkError_keeps
          | apply State.goodDown_keeps | apply State.turnDown_keeps | apply keepsIte | apply linkOkNil | exact linkReset_ok
          | apply linkAck_ok | apply linkTurn_ok | apply linkResend_ok | apply hk_act | split | refine linkOkMk ?_ rfl)

theorem State.takeUp_keeps (s : State) (b : Fin 4) (hit : Noise) (want : UpCell → Bool) (act : State → UpCell → State)
    (hw : Sub 0x205F00000020 W) (hk_s : Keeps W s0 s) (hk_act : ∀ s c, Keeps W s0 s → Keeps W s0 (act s c)) :
    Keeps W s0 (State.takeUp s b hit want act) := by
  unfold State.takeUp
  repeat' (with_reducible
    first | assumption | exact su hw | intro _ | extract_lets | apply State.modUp_keeps | apply State.linkError_keeps
          | apply State.goodUp_keeps | apply State.turnUp_keeps | apply keepsIte | apply linkOkNil | exact linkReset_ok
          | apply linkAck_ok | apply linkTurn_ok | apply linkResend_ok | apply hk_act | split | refine linkOkMk ?_ rfl)

/-! ### Link -/

theorem execLinkStart_keeps (b : Fin 4) (s : State) (hw : Sub 0x10000000E00000000 W) (hk_s : Keeps W s0 s) :
    KeepsO W s0 (execLinkStart b s) := by
  unfold execLinkStart
  repeat' (with_reducible
    first | assumption | exact su hw | intro _ | extract_lets | apply State.reset_keeps | apply State.modLink_keeps
          | apply State.modDown_keeps | apply State.modUp_keeps | apply keepsIte | apply keepsO_next | apply linkOkNil
          | exact linkReset_ok | apply linkAck_ok | apply linkTurn_ok | apply linkResend_ok | split | refine linkOkMk ?_ rfl
          | refine linkOkMk ?_ rfl | dsimp +zetaDelta only | refine keeps_sup ?_ ?_)

theorem State.linkStarted_keeps (s : State) (b : Fin 4) (hw : Sub 0x5700000000 W) (hk_s : Keeps W s0 s) :
    Keeps W s0 (State.linkStarted s b) := by
  unfold State.linkStarted
  repeat' (with_reducible
    first | assumption | exact su hw | intro _ | extract_lets | apply State.modBank_keeps | apply State.modU_keeps
          | apply State.modF_keeps | apply State.uLive_keeps | apply State.modDown_keeps | apply State.modUp_keeps
          | apply linkOkNil | exact linkReset_ok | apply linkAck_ok | apply linkTurn_ok | apply linkResend_ok
          | apply keepsFold | refine linkOkMk ?_ rfl)

theorem State.takeSync_keeps (s : State) (b : Fin 4) (c : SyncCell) (flight : Nat) (hw : Sub 0x20000027540002000 W)
    (hk_s : Keeps W s0 s) :
    Keeps W s0 (State.takeSync s b c flight) := by
  unfold State.takeSync
  repeat' (with_reducible
    first | assumption | exact su hw | intro _ | extract_lets | apply State.modBank_keeps | apply State.modF_keeps
          | apply State.draw_keeps | apply State.finish_keeps | apply CmdRes.finish_keeps | apply State.countStep_keeps
          | apply State.entriesAndShare_keeps | apply step_keeps | apply keepsIte | apply keepsFold)

theorem State.syncArrives_keeps (s : State) (b : Fin 4) (hit : Noise) (flight : Nat) (c : SyncCell)
    (hw : Sub 0x20000227F40002020 W) (hk_s : Keeps W s0 s) :
    Keeps W s0 (State.syncArrives s b hit flight c) := by
  unfold State.syncArrives
  repeat' (with_reducible
    first | assumption | exact su hw | intro _ | extract_lets | apply State.linkError_keeps | apply State.goodDown_keeps
          | apply State.turnDown_keeps | apply State.linkStarted_keeps | apply State.takeSync_keeps | apply keepsIte)

theorem execLinkStartSyncReceived_keeps (b : Fin 4) (a : Arrival) (s : State)
    (hw : Sub 0x20000227F40002020 W) (hk_s : Keeps W s0 s) :
    KeepsO W s0 (execLinkStartSyncReceived b a s) := by
  unfold execLinkStartSyncReceived
  repeat' (with_reducible
    first | assumption | exact su hw | extract_lets | apply State.syncArrives_keeps | apply keepsIte | apply keepsO_next
          | split)

theorem execSyncCellReceived_keeps (b : Fin 4) (hit : Noise) (flight : Nat) (s : State) (hw : Sub 0x20000227F40002020 W)
    (hk_s : Keeps W s0 s) :
    KeepsO W s0 (execSyncCellReceived b hit flight s) := by
  unfold execSyncCellReceived
  repeat' (with_reducible
    first | assumption | exact su hw | extract_lets | apply State.syncArrives_keeps | apply keepsIte | apply keepsO_next
          | split)

theorem execBankSyncGap_keeps (b : Fin 4) (s : State) (hw : Sub 0x180000000 W) (hk_s : Keeps W s0 s) :
    KeepsO W s0 (execBankSyncGap b s) := by
  unfold execBankSyncGap
  repeat' (with_reducible
    first | assumption | exact su hw | intro _ | extract_lets | apply State.modBank_keeps | apply State.tbEvent_keeps
          | apply keepsIte | apply keepsO_next)

theorem execMclkRephaseEnd_keeps (b : Fin 4) (s : State) (hw : Sub 0x100000000 W) (hk_s : Keeps W s0 s) :
    KeepsO W s0 (execMclkRephaseEnd b s) := by
  unfold execMclkRephaseEnd
  repeat' (with_reducible
    first | assumption | exact su hw | intro _ | extract_lets | apply State.modBank_keeps | apply keepsIte
          | apply keepsO_next)

theorem State.statusState_keeps (s : State) (b : Fin 4) (c : StatusCell) (hw : Sub 0x45FC660F00E92020 W) (hk_s : Keeps W s0 s) :
    Keeps W s0 (State.statusState s b c) := by
  unfold State.statusState
  repeat' (with_reducible
    first | assumption | exact su hw | intro _ | extract_lets | apply State.orP_keeps | apply State.modBank_keeps
          | apply State.raise_keeps | apply State.endFault_keeps | apply State.modFb_keeps | apply State.setBankState_keeps
          | apply State.goAbsent_keeps | apply State.enterStarting_keeps | apply keepsIte | exact fbOkRefl (by assumption)
          | split | refine fbOkMk ?_ rfl ?_ ?_ | dsimp +zetaDelta only | exact inn hw | omega | exact sameRfl
          | exact sameIn hw)

theorem State.takeStatus_keeps (s : State) (b : Fin 4) (c : StatusCell) (vf flight : Nat) (hw : Sub 0x45FC661F08E92FF0 W)
    (hk_s : Keeps W s0 s) :
    Keeps W s0 (State.takeStatus s b c vf flight) := by
  unfold State.takeStatus
  repeat' (with_reducible
    first | assumption | exact su hw | intro _ | extract_lets | apply State.setP_keeps | apply State.setPCt_keeps
          | apply State.modLink_keeps | apply State.modFb_keeps | apply State.refreshBank_keeps
          | apply State.statusState_keeps | apply keepsIte | exact fbOkRefl (by assumption) | split
          | refine fbOkMk ?_ rfl ?_ ?_ | dsimp +zetaDelta only | exact inn hw | omega | exact sameRfl | exact sameIn hw)

theorem execStatusCellReceived_keeps (b : Fin 4) (hit : Noise) (vf flight : Nat) (s : State)
    (hw : Sub 0x45FC665F08E92FF0 W) (hk_s : Keeps W s0 s) :
    KeepsO W s0 (execStatusCellReceived b hit vf flight s) := by
  unfold execStatusCellReceived
  repeat' (with_reducible
    first | assumption | exact su hw | intro _ | extract_lets | apply State.modFb_keeps | apply State.linkError_keeps
          | apply State.goodUp_keeps | apply State.turnUp_keeps | apply State.takeStatus_keeps | apply keepsIte
          | apply keepsO_next | exact fbOkRefl (by assumption) | split | refine fbOkMk ?_ rfl ?_ ?_ | exact sameRfl
          | exact sameIn hw)

theorem execIdleCellReceived_keeps (b : Fin 4) (up : Bool) (hit : Noise) (s : State) (hw : Sub 0x205F00000020 W)
    (hk_s : Keeps W s0 s) :
    KeepsO W s0 (execIdleCellReceived b up hit s) := by
  unfold execIdleCellReceived
  repeat' (with_reducible
    first | assumption | exact su hw | apply State.linkError_keeps | apply State.goodDown_keeps | apply State.goodUp_keeps
          | apply State.turnDown_keeps | apply State.turnUp_keeps | apply keepsIte | apply keepsO_next)

theorem execCellResendTimeout_keeps (b : Fin 4) (up : Bool) (s : State) (hw : Sub 0x600000020 W) (hk_s : Keeps W s0 s) :
    KeepsO W s0 (execCellResendTimeout b up s) := by
  unfold execCellResendTimeout
  repeat' (with_reducible
    first | assumption | exact su hw | intro _ | apply State.inc_keeps | apply State.modDown_keeps | apply State.modUp_keeps
          | apply keepsIte | apply keepsO_next | apply linkOkNil | exact linkReset_ok | apply linkAck_ok | apply linkTurn_ok
          | apply linkResend_ok | split | refine linkOkMk ?_ rfl | refine linkOkMk ?_ rfl | exact inn hw | omega)

theorem execLinkSilenceTimeout_keeps (b : Fin 4) (s : State) (hw : Sub 0x3500000000 W) (hk_s : Keeps W s0 s) :
    KeepsO W s0 (execLinkSilenceTimeout b s) := by
  unfold execLinkSilenceTimeout
  repeat' (with_reducible
    first | assumption | exact su hw | extract_lets | apply State.setAutonomous_keeps | apply State.arrived_keeps
          | apply keepsIte | apply keepsO_next)

theorem execLogicSilenceTimeout_keeps (b : Fin 4) (s : State) (hw : Sub 0x4044640A00000020 W) (hk_s : Keeps W s0 s) :
    KeepsO W s0 (execLogicSilenceTimeout b s) := by
  unfold execLogicSilenceTimeout
  repeat' (with_reducible
    first | assumption | exact su hw | extract_lets | apply State.goSilent_keeps | apply keepsIte | apply keepsO_next)

theorem execSampleCellReceived_keeps (b : Fin 4) (hit : Noise) (s : State) (hw : Sub 0x245F00000060 W) (hk_s : Keeps W s0 s) :
    KeepsO W s0 (execSampleCellReceived b hit s) := by
  unfold execSampleCellReceived
  repeat' (with_reducible
    first | assumption | exact su hw | intro _ | extract_lets | apply State.takeSample_keeps | apply State.takeUp_keeps
          | apply keepsO_next | apply keepsFold | split)

theorem execEdgeCellReceived_keeps (b : Fin 4) (hit : Noise) (s : State) (hw : Sub 0x424DF00000060 W) (hk_s : Keeps W s0 s) :
    KeepsO W s0 (execEdgeCellReceived b hit s) := by
  unfold execEdgeCellReceived
  repeat' (with_reducible
    first | assumption | exact su hw | intro _ | extract_lets | apply State.takeEdge_keeps | apply State.takeUp_keeps
          | apply keepsO_next | apply keepsFold | split)

theorem execCountCellReceived_keeps (b : Fin 4) (hit : Noise) (s : State) (hw : Sub 0x245F00001020 W) (hk_s : Keeps W s0 s) :
    KeepsO W s0 (execCountCellReceived b hit s) := by
  unfold execCountCellReceived
  repeat' (with_reducible
    first | assumption | exact su hw | intro _ | extract_lets | apply State.takeCount_keeps | apply State.takeUp_keeps
          | apply keepsO_next | split)

theorem execLswCellReceived_keeps (b : Fin 4) (hit : Noise) (s : State) (hw : Sub 0x255F00000C20 W) (hk_s : Keeps W s0 s) :
    KeepsO W s0 (execLswCellReceived b hit s) := by
  unfold execLswCellReceived
  repeat' (with_reducible
    first | assumption | exact su hw | intro _ | extract_lets | apply State.takeLsw_keeps | apply State.takeUp_keeps
          | apply keepsO_next | split)

theorem execFaultCellReceived_keeps (b : Fin 4) (hit : Noise) (s : State) (hw : Sub 0x215F00000820 W) (hk_s : Keeps W s0 s) :
    KeepsO W s0 (execFaultCellReceived b hit s) := by
  unfold execFaultCellReceived
  repeat' (with_reducible
    first | assumption | exact su hw | intro _ | extract_lets | apply State.pushRaise_keeps | apply State.noteFault_keeps
          | apply State.takeUp_keeps | apply keepsO_next | split)

theorem execShareReportReceived_keeps (b : Fin 4) (hit : Noise) (s : State) (hw : Sub 0x4044245F00000022 W)
    (hk_s : Keeps W s0 s) :
    KeepsO W s0 (execShareReportReceived b hit s) := by
  unfold execShareReportReceived
  repeat' (with_reducible
    first | assumption | exact su hw | intro _ | extract_lets | apply State.arrived_keeps | apply State.shareReport_keeps
          | apply State.takeUp_keeps | apply keepsIte | apply keepsO_next | split)

theorem execOutcomeReportReceived_keeps (b : Fin 4) (hit : Noise) (s : State) (hw : Sub 0x45BC225F00E82020 W)
    (hk_s : Keeps W s0 s) :
    KeepsO W s0 (execOutcomeReportReceived b hit s) := by
  unfold execOutcomeReportReceived
  repeat' (with_reducible
    first | assumption | exact su hw | intro _ | extract_lets | apply State.recordOutcome_keeps
          | apply State.cancelReport_keeps | apply State.takeUp_keeps | apply keepsIte | apply keepsO_next | split)

theorem State.calSlotTaken_keeps (s : State) (b : Fin 4) (d : Option Int) (ref : Nat) (hw : Sub 0x8000000 W)
    (hk_s : Keeps W s0 s) :
    Keeps W s0 (State.calSlotTaken s b d ref) := by
  unfold State.calSlotTaken
  repeat' (with_reducible
    first | assumption | exact su hw | extract_lets | apply State.setPAt_keeps | split | dsimp +zetaDelta only | exact inn hw
          | omega)

theorem State.bufferShare_keeps (s : State) (b : Fin 4) (l : List Host.Cell) (hw : Sub 0x100000000 W) (hk_s : Keeps W s0 s) :
    Keeps W s0 (State.bufferShare s b l) := by
  unfold State.bufferShare
  repeat' (with_reducible first | assumption | exact su hw | intro _ | extract_lets | apply State.modBank_keeps)

theorem State.takeCal_keeps (s : State) (b : Fin 4) (c : DownCell) (hw : Sub 0x1100000000 W) (hk_s : Keeps W s0 s) :
    Keeps W s0 (State.takeCal s b c) := by
  unfold State.takeCal
  repeat' (with_reducible
    first | assumption | exact su hw | intro _ | extract_lets | apply State.modBank_keeps | apply State.modRot_keeps
          | apply State.bufferShare_keeps | apply keepsIte | split)

theorem execCalCellReceived_keeps (b : Fin 4) (up : Bool) (hit : Noise) (s : State) (hw : Sub 0x245F080000A0 W)
    (hk_s : Keeps W s0 s) :
    KeepsO W s0 (execCalCellReceived b up hit s) := by
  unfold execCalCellReceived
  repeat' (with_reducible
    first | assumption | exact su hw | intro _ | extract_lets | apply State.takeFigs_keeps | apply State.takeDown_keeps
          | apply State.takeUp_keeps | apply State.calSlotTaken_keeps | apply State.takeCal_keeps | apply keepsIte
          | apply keepsO_next | split | exact figClasses hw (by decide))

theorem State.takeSyncMark_keeps (s : State) (b : Fin 4) (mask : BitVec 4) (a source : Nat) (hw : Sub 0x1400000000 W)
    (hk_s : Keeps W s0 s) :
    Keeps W s0 (State.takeSyncMark s b mask a source) := by
  unfold State.takeSyncMark
  repeat' (with_reducible
    first | assumption | exact su hw | intro _ | extract_lets | apply State.modU_keeps | apply State.bankRaise_keeps
          | apply keepsIte | apply keepsFold)

theorem State.takeCfg_keeps (s : State) (b : Fin 4) (c : DownCell) (hw : Sub 0x7540000000 W) (hk_s : Keeps W s0 s) :
    Keeps W s0 (State.takeCfg s b c) := by
  unfold State.takeCfg
  repeat' (with_reducible
    first | assumption | exact su hw | intro _ | extract_lets | apply State.modBank_keeps | apply State.applyShare_keeps
          | apply State.bufferShare_keeps | apply State.takeSyncMark_keeps | apply keepsIte | split)

theorem execCfgCellReceived_keeps (b : Fin 4) (hit : Noise) (s : State) (hw : Sub 0x207F40000020 W) (hk_s : Keeps W s0 s) :
    KeepsO W s0 (execCfgCellReceived b hit s) := by
  unfold execCfgCellReceived
  repeat' (with_reducible
    first | assumption | exact su hw | intro _ | extract_lets | apply State.takeDown_keeps | apply State.takeCfg_keeps
          | apply keepsO_next)

theorem execCounterWrite_keeps (b : Fin 4) (hit : Noise) (s : State) (hw : Sub 0x204F00000020 W) (hk_s : Keeps W s0 s) :
    KeepsO W s0 (execCounterWrite b hit s) := by
  unfold execCounterWrite
  repeat' (with_reducible
    first | assumption | exact su hw | intro _ | extract_lets | apply State.writeCount_keeps | apply State.takeDown_keeps
          | apply keepsO_next | split)

theorem State.diagU_keeps (s : State) (u : Fin 16) (mask : BitVec 16) (hw : Sub 0x1400000000 W) (hk_s : Keeps W s0 s) :
    Keeps W s0 (State.diagU s u mask) := by
  unfold State.diagU
  repeat' (with_reducible
    first | assumption | exact su hw | intro _ | extract_lets | apply State.modU_keeps | apply State.unlatch_keeps
          | apply keepsIte)

theorem State.diagL_keeps (s : State) (l : Fin 8) (mask : BitVec 16) (hw : Sub 0x2500000000 W) (hk_s : Keeps W s0 s) :
    Keeps W s0 (State.diagL s l mask) := by
  unfold State.diagL
  repeat' (with_reducible
    first | assumption | exact su hw | intro _ | extract_lets | apply State.modL_keeps | apply State.bankEnd_keeps
          | apply State.lFlag_keeps | apply State.rethink_keeps | apply State.unlatchThermal_keeps | apply State.unlock_keeps
          | apply keepsIte)

theorem State.diagG_keeps (s : State) (b g : Fin 4) (mask : BitVec 16) (hw : Sub 0x2500000000 W) (hk_s : Keeps W s0 s) :
    Keeps W s0 (State.diagG s b g mask) := by
  unfold State.diagG
  repeat' (with_reducible
    first | assumption | exact su hw | intro _ | extract_lets | apply State.modGrp_keeps | apply State.changeG_keeps
          | apply keepsIte)

theorem State.takeDiag_keeps (s : State) (b : Fin 4) (cls inst : Nat) (mask : BitVec 16) (hw : Sub 0x7500000000 W)
    (hk_s : Keeps W s0 s) :
    Keeps W s0 (State.takeDiag s b cls inst mask) := by
  unfold State.takeDiag
  repeat' (with_reducible
    first | assumption | exact su hw | intro _ | extract_lets | apply State.modF_keeps | apply State.diagU_keeps
          | apply State.diagL_keeps | apply State.diagG_keeps | apply keepsIte | split)

theorem State.takeOut_keeps (s : State) (b : Fin 4) (c : DownCell) (hw : Sub 0x7500000000 W) (hk_s : Keeps W s0 s) :
    Keeps W s0 (State.takeOut s b c) := by
  unfold State.takeOut
  repeat' (with_reducible
    first | assumption | exact su hw | intro _ | extract_lets | apply State.modGrp_keeps | apply State.skewed_keeps
          | apply State.deliver_keeps | apply State.tripped_keeps | apply State.bankTrip_keeps | apply State.takeDiag_keeps
          | apply keepsIte | split)

theorem execOutCellReceived_keeps (b : Fin 4) (hit : Noise) (s : State) (hw : Sub 0x207F00000020 W) (hk_s : Keeps W s0 s) :
    KeepsO W s0 (execOutCellReceived b hit s) := by
  unfold execOutCellReceived
  repeat' (with_reducible
    first | assumption | exact su hw | intro _ | extract_lets | apply State.takeDown_keeps | apply State.takeOut_keeps
          | apply keepsO_next)

theorem State.takeForces_keeps (s : State) (b : Fin 4) (fs : List (OutRef × Int)) (hw : Sub 0x3500000000 W)
    (hk_s : Keeps W s0 s) :
    Keeps W s0 (State.takeForces s b fs) := by
  unfold State.takeForces
  repeat' (with_reducible
    first | assumption | exact su hw | intro _ | extract_lets | apply State.change_keeps | apply keepsFold)

theorem execForceCellReceived_keeps (b : Fin 4) (hit : Noise) (s : State) (hw : Sub 0x203F00000020 W) (hk_s : Keeps W s0 s) :
    KeepsO W s0 (execForceCellReceived b hit s) := by
  unfold execForceCellReceived
  repeat' (with_reducible
    first | assumption | exact su hw | intro _ | extract_lets | apply State.deliver_keeps | apply State.takeDown_keeps
          | apply State.takeForces_keeps | apply keepsO_next | split)

theorem execSafeCellReceived_keeps (b : Fin 4) (hit : Noise) (s : State) (hw : Sub 0x203F00000020 W) (hk_s : Keeps W s0 s) :
    KeepsO W s0 (execSafeCellReceived b hit s) := by
  unfold execSafeCellReceived
  repeat' (with_reducible
    first | assumption | exact su hw | intro _ | extract_lets | apply State.safeCell_keeps | apply State.takeDown_keeps
          | apply keepsO_next | split)

theorem execSchedCellReceived_keeps (b : Fin 4) (hit : Noise) (s : State) (hw : Sub 0x227F00002020 W) (hk_s : Keeps W s0 s) :
    KeepsO W s0 (execSchedCellReceived b hit s) := by
  unfold execSchedCellReceived
  repeat' (with_reducible
    first | assumption | exact su hw | intro _ | extract_lets | apply State.latch_keeps | apply State.armLatch_keeps
          | apply State.takeSched_keeps | apply State.takeDown_keeps | apply keepsIte | apply keepsO_next | split)

theorem execCancelMarkerReceived_keeps (b : Fin 4) (hit : Noise) (s : State) (hw : Sub 0x207F00000020 W) (hk_s : Keeps W s0 s) :
    KeepsO W s0 (execCancelMarkerReceived b hit s) := by
  unfold execCancelMarkerReceived
  repeat' (with_reducible
    first | assumption | exact su hw | intro _ | extract_lets | apply State.cancelIn_keeps | apply State.takeDown_keeps
          | apply keepsO_next | split)

theorem execBankShareApply_keeps (b : Fin 4) (s : State) (hw : Sub 0x27540002000 W) (hk_s : Keeps W s0 s) :
    KeepsO W s0 (execBankShareApply b s) := by
  unfold execBankShareApply
  repeat' (with_reducible first | assumption | exact su hw | apply State.shareDue_keeps | apply keepsO_next)

theorem execBankArrivalInstant_keeps (b : Fin 4) (s : State) (hw : Sub 0x27540002000 W) (hk_s : Keeps W s0 s) :
    KeepsO W s0 (execBankArrivalInstant b s) := by
  unfold execBankArrivalInstant
  repeat' (with_reducible first | assumption | exact su hw | apply State.shareDue_keeps | apply keepsO_next)

end Sys2Proof.Machine
end

