-- ==== Sys2Proof/Laws/KeepsNet.lean ====
section
/-! SUPPORT. The queue and the invariant are kept, and every part outside a set of parts: the switch, the streams, Grathiqua Cell Link and the redundancy. One lemma per operation and per meaning. -/

namespace Sys2Proof.Machine

set_option Elab.async false

variable {W : Nat} {s0 : State}

/-! ### GclRx -/

theorem State.gclDiscard_keeps (s : State) (p : Fin 3) (k : Nat) (hw : Sub 0xA00000 W) (hb : k < 4096) (hk_s : Keeps W s0 s) :
    Keeps W s0 (State.gclDiscard s p k) := by
  unfold State.gclDiscard
  repeat' (with_reducible
    first | assumption | exact su hw | apply State.orP_keeps | apply State.portCnt_keeps | apply State.gclCnt_keeps
          | exact inn hw | omega)

theorem State.markRing_keeps (s : State) (f : GclFrame) (hw : Sub 0x400000000000000 W) (hk_s : Keeps W s0 s) :
    Keeps W s0 (State.markRing s f) := by
  unfold State.markRing
  repeat' (with_reducible
    first | assumption | exact su hw | intro _ | extract_lets | split | dsimp +zetaDelta only | refine keeps_gcl rfl ?_ ?_)

theorem gclVerdict_lt {s : State} {d : Delivered} {f : GclFrame} {k : Nat} (h : gclVerdict s d f = .discarded k) :
    k < 4096 := by
  unfold gclVerdict at h
  extract_lets _ at h
  repeat' split at h
  all_goals first | cases h; done | (cases h; decide)

theorem State.gclReceive_keeps (s : State) (d : Delivered) (hw : Sub 0x400200000A00000 W) (hk_s : Keeps W s0 s) :
    Keeps W s0 ((State.gclReceive s d).1) := by
  unfold State.gclReceive
  repeat' (with_reducible
    first | assumption | exact su hw | intro _ | extract_lets | apply State.occur_keeps | apply State.gclCnt_keeps
          | apply State.gclDiscard_keeps | apply State.markRing_keeps | apply keepsIte | dsimp only | split
          | dsimp +zetaDelta only | omega | exact gclVerdict_lt (by assumption))

/-! ### StreamOps -/

theorem State.setStream_keeps (s : State) (x : StreamSt) (hw : Sub 0x100000000000000 W) (hk_s : Keeps W s0 s) :
    Keeps W s0 (State.setStream s x) := by
  unfold State.setStream
  repeat' (with_reducible
    first | assumption | exact su hw | intro _ | extract_lets | dsimp +zetaDelta only | refine keeps_sw ?_ ?_)

theorem State.streamCnt_keeps (s : State) (i k : Nat) (hw : Sub 0x400000 W) (hb2 : k < 64) (hk_s : Keeps W s0 s) :
    Keeps W s0 (State.streamCnt s i k) := by
  unfold State.streamCnt
  repeat' (with_reducible first | assumption | exact su hw | apply State.incAt_keeps | split | exact inn hw | omega)

theorem State.filterStream_keeps (s : State) (i : Nat) (c : StreamCfg) (len : Nat) (hw : Sub 0x100200000400000 W)
    (hk_s : Keeps W s0 s) :
    Keeps W s0 ((State.filterStream s i c len).1) := by
  unfold State.filterStream
  repeat' (with_reducible
    first | assumption | exact su hw | extract_lets | apply State.orP_keeps | apply State.raise_keeps
          | apply State.setStream_keeps | apply State.streamCnt_keeps | apply keepsIte | dsimp only | split
          | dsimp +zetaDelta only | exact inn hw | omega)

theorem State.recoverTake_keeps (s : State) (i : Nat) (x : StreamSt) (hist : Nat) (seq : BitVec 16) (v : Nat ⊕ Nat × Nat)
    (hw : Sub 0x100000000400000 W) (hk_s : Keeps W s0 s) :
    Keeps W s0 (State.recoverTake s i x hist seq v) := by
  unfold State.recoverTake
  repeat' (with_reducible
    first | assumption | exact su hw | extract_lets | apply State.setStream_keeps | apply State.streamCnt_keeps | split
          | omega)

theorem State.recoverSeq_keeps (s : State) (i : Nat) (c : StreamCfg) (seq : BitVec 16) (hw : Sub 0x100000000400000 W)
    (hk_s : Keeps W s0 s) :
    Keeps W s0 ((State.recoverSeq s i c seq).1) := by
  unfold State.recoverSeq
  repeat' (with_reducible first | assumption | exact su hw | extract_lets | apply State.recoverTake_keeps)

theorem State.sendTopology_keeps (s : State) (kind : Nat) (p : Fin 3) (hw : Sub 0x20580200000E00000 W) (hk_s : Keeps W s0 s) :
    Keeps W s0 (State.sendTopology s kind p) := by
  unfold State.sendTopology
  repeat' (with_reducible
    first | assumption | exact su hw | extract_lets | apply State.draw_keeps | apply State.sendTopo_keeps
          | apply State.gclCnt_keeps | apply keepsIte | refine keepsSnd (by assumption) ?_ | split | dsimp +zetaDelta only
          | refine keeps_gcl rfl ?_ ?_ | omega)

theorem State.sendRing_keeps (s : State) (kind : Nat) (hw : Sub 0x20580200000E00000 W) (hk_s : Keeps W s0 s) :
    Keeps W s0 (State.sendRing s kind) := by
  unfold State.sendRing
  repeat' (with_reducible first | assumption | exact su hw | intro _ | apply State.sendTopology_keeps | apply keepsFold)

theorem State.ringBreak_keeps (s : State) (hw : Sub 0x20D80200000E00000 W) (hk_s : Keeps W s0 s) :
    Keeps W s0 (State.ringBreak s) := by
  unfold State.ringBreak
  repeat' (with_reducible
    first | assumption | exact su hw | extract_lets | apply State.setP_keeps | apply State.inc_keeps | apply State.orP_keeps
          | apply State.raise_keeps | apply State.flushPorts_keeps | apply State.sendRing_keeps | apply keepsIte | split
          | dsimp +zetaDelta only | refine keeps_sw_red ?_ ?_ | exact inn hw | omega)

theorem State.ringClose_keeps (s : State) (hw : Sub 0x20D80200000E00000 W) (hk_s : Keeps W s0 s) :
    Keeps W s0 (State.ringClose s) := by
  unfold State.ringClose
  repeat' (with_reducible
    first | assumption | exact su hw | extract_lets | apply State.setP_keeps | apply State.endFault_keeps
          | apply State.sendRing_keeps | dsimp +zetaDelta only | refine keeps_sw_red ?_ ?_ | exact inn hw | omega)

theorem State.loseCapable_keeps (s : State) (p : Fin 3) (linkUp : Bool) (hw : Sub 0x4484240080200000 W) (hk_s : Keeps W s0 s) :
    Keeps W s0 (State.loseCapable s p linkUp) := by
  unfold State.loseCapable
  repeat' (with_reducible
    first | assumption | exact su hw | intro _ | extract_lets | apply State.orP_keeps | apply State.raise_keeps
          | apply State.modPort_keeps | apply State.modTb_keeps | apply State.setTime_keeps | apply State.linkUp_keeps
          | apply keepsIte | split | dsimp +zetaDelta only | exact inn hw | omega)

theorem State.linkDown_keeps (s : State) (p : Fin 3) (hw : Sub 0x24D84240080E00000 W) (hk_s : Keeps W s0 s) :
    Keeps W s0 (State.linkDown s p) := by
  unfold State.linkDown
  repeat' (with_reducible
    first | assumption | exact su hw | intro _ | extract_lets | apply State.orP_keeps | apply State.raise_keeps
          | apply State.endFault_keeps | apply State.ringAll_keeps | apply State.modPort_keeps | apply State.portCnt_keeps
          | apply State.flushPorts_keeps | apply State.bufStat_keeps | apply State.sendTopology_keeps
          | apply State.ringBreak_keeps | apply State.loseCapable_keeps | apply keepsIte | apply keepsFold | split
          | dsimp +zetaDelta only | exact inn hw | omega)

theorem State.linkUp_keeps (s : State) (p : Fin 3) (speed : Nat) (hw : Sub 0x484200000000000 W) (hk_s : Keeps W s0 s) :
    Keeps W s0 (State.linkUp s p speed) := by
  unfold State.linkUp
  repeat' (with_reducible
    first | assumption | exact su hw | intro _ | extract_lets | apply State.endFault_keeps | apply State.ringAll_keeps
          | apply State.helloSoon_keeps | apply State.modPort_keeps | apply keepsIte)

/-! ### Switch -/

theorem execPortLinkDown_keeps (p : Fin 3) (s : State) (hw : Sub 0x24D84240080E00000 W) (hk_s : Keeps W s0 s) :
    KeepsO W s0 (execPortLinkDown p s) := by
  unfold execPortLinkDown
  repeat' (with_reducible first | assumption | exact su hw | apply State.linkDown_keeps | apply keepsO_next)

theorem execPortLinkUp_keeps (p : Fin 3) (speed : Nat) (s : State) (hw : Sub 0x484200000000000 W) (hk_s : Keeps W s0 s) :
    KeepsO W s0 (execPortLinkUp p speed s) := by
  unfold execPortLinkUp
  repeat' (with_reducible first | assumption | exact su hw | apply State.linkUp_keeps | apply keepsO_next)

theorem State.takePtp_keeps (s : State) (p : Fin 3) (f : Frame) (hw : Sub 0x180200000600000 W) (hk_s : Keeps W s0 s) :
    Keeps W s0 (State.takePtp s p f) := by
  unfold State.takePtp
  repeat' (with_reducible
    first | assumption | exact su hw | intro _ | extract_lets | apply State.modPort_keeps | apply State.portCnt_keeps
          | apply State.sendPtp_keeps | apply keepsIte | split | dsimp +zetaDelta only | omega)

theorem State.badFcs_keeps (s : State) (p : Fin 3) (hw : Sub 0x200000200000 W) (hk_s : Keeps W s0 s) :
    Keeps W s0 (State.badFcs s p) := by
  unfold State.badFcs
  repeat' (with_reducible
    first | assumption | exact su hw | apply State.orP_keeps | apply State.occur_keeps | apply State.portCnt_keeps
          | exact inn hw | omega)

theorem State.countCut_keeps (s : State) (ingress p : Fin 3) (len : Nat) (hw : Sub 0x100000000200000 W) (hk_s : Keeps W s0 s) :
    Keeps W s0 (State.countCut s ingress p len) := by
  unfold State.countCut
  repeat' (with_reducible
    first | assumption | exact su hw | extract_lets | apply State.portCnt_keeps | split | dsimp +zetaDelta only
          | refine keeps_sw ?_ ?_ | omega)

theorem State.forward_keeps (s : State) (ingress : Fin 3) (f : Frame) (c : RxClass) (buf : Nat) (p : Fin 3)
    (hw : Sub 0x180200000600000 W) (hk_s : Keeps W s0 s) :
    Keeps W s0 (State.forward s ingress f c buf p) := by
  unfold State.forward
  repeat' (with_reducible
    first | assumption | exact su hw | extract_lets | apply State.sendOn_keeps | apply State.countCut_keeps | apply keepsIte)

theorem State.stomp_keeps (s : State) (ingress : Fin 3) (f : Frame) (c : RxClass) (buf : Nat) (p : Fin 3)
    (hw : Sub 0x180200000600000 W) (hk_s : Keeps W s0 s) :
    Keeps W s0 (State.stomp s ingress f c buf p) := by
  unfold State.stomp
  repeat' (with_reducible
    first | assumption | exact su hw | extract_lets | apply State.stomped_keeps | apply State.sendOn_keeps
          | apply State.countCut_keeps | apply keepsIte)

theorem State.toLogic_keeps (s : State) (p : Fin 3) (f : Frame) (c : RxClass) (hw : Sub 0x200000000000000 W)
    (hk_s : Keeps W s0 s) :
    Keeps W s0 (State.toLogic s p f c) := by
  unfold State.toLogic
  repeat' (with_reducible
    first | assumption | exact su hw | extract_lets | dsimp +zetaDelta only | refine keeps_delivered ?_ ?_)

theorem State.watchCopy_keeps (s : State) (p : Fin 3) (f : Frame) (hw : Sub 0x800000000000000 W) (hk_s : Keeps W s0 s) :
    Keeps W s0 (State.watchCopy s p f) := by
  unfold State.watchCopy
  repeat' (with_reducible
    first | assumption | exact su hw | intro _ | extract_lets | apply keepsIte | split | dsimp +zetaDelta only
          | refine keeps_red ?_ ?_)

theorem State.generateStream_keeps (s : State) (i : Nat) (cfg : StreamCfg) (p : Fin 3) (f : Frame) (c : RxClass)
    (buf : Nat) (hw : Sub 0x180200000600000 W) (hk_s : Keeps W s0 s) :
    Keeps W s0 (State.generateStream s i cfg p f c buf) := by
  unfold State.generateStream
  repeat' (with_reducible
    first | assumption | exact su hw | intro _ | extract_lets | apply State.setStream_keeps | apply State.streamCnt_keeps
          | apply State.forward_keeps | apply keepsFold | dsimp +zetaDelta only | omega)

theorem State.spread_keeps (s : State) (stream : Option (Nat × StreamCfg)) (p : Fin 3) (f : Frame) (c : RxClass)
    (buf : Nat) (branchOnly : Bool) (hw : Sub 0x380200000600000 W) (hk_s : Keeps W s0 s) :
    Keeps W s0 (State.spread s stream p f c buf branchOnly) := by
  unfold State.spread
  repeat' (with_reducible
    first | assumption | exact su hw | intro _ | extract_lets | apply State.pass_keeps | apply State.streamCnt_keeps
          | apply State.recoverSeq_keeps | apply State.forward_keeps | apply State.toLogic_keeps | apply keepsIte
          | apply keepsFold | refine keepsFst (by assumption) ?_ | split | dsimp +zetaDelta only | omega)

theorem State.bridge_keeps (s : State) (p : Fin 3) (f : Frame) (c : RxClass) (hw : Sub 0xB80200000600000 W)
    (hk_s : Keeps W s0 s) :
    Keeps W s0 (State.bridge s p f c) := by
  unfold State.bridge
  repeat' (with_reducible
    first | assumption | exact su hw | intro _ | extract_lets | apply State.portCnt_keeps | apply State.learn_keeps
          | apply State.filterStream_keeps | apply State.toLogic_keeps | apply State.watchCopy_keeps
          | apply State.generateStream_keeps | apply State.spread_keeps | apply keepsIte | refine keepsFst (by assumption) ?_
          | split | dsimp +zetaDelta only | refine keeps_sw ?_ ?_ | omega)

theorem State.receiveFrame_keeps (s : State) (p : Fin 3) (f : Frame) (hw : Sub 0xB80200000600000 W) (hk_s : Keeps W s0 s) :
    Keeps W s0 (State.receiveFrame s p f) := by
  unfold State.receiveFrame
  repeat' (with_reducible
    first | assumption | exact su hw | intro _ | extract_lets | apply State.portCnt_keeps | apply State.portAdd_keeps
          | apply State.takePtp_keeps | apply State.badFcs_keeps | apply State.stomp_keeps | apply State.bridge_keeps
          | apply keepsIte | apply keepsFold | split | dsimp +zetaDelta only | refine keeps_sw ?_ ?_ | omega)

theorem execFrameReceived_keeps (p : Fin 3) (f : Frame) (s : State) (hw : Sub 0xB80200000600000 W) (hk_s : Keeps W s0 s) :
    KeepsO W s0 (execFrameReceived p f s) := by
  unfold execFrameReceived
  repeat' (with_reducible
    first | assumption | exact su hw | apply State.receiveFrame_keeps | apply keepsIte | apply keepsO_next)

theorem execGateIntervalBoundary_keeps (p : Fin 3) (s : State) (hw : Sub 0x80000000000000 W) (hk_s : Keeps W s0 s) :
    KeepsO W s0 (execGateIntervalBoundary p s) := by
  unfold execGateIntervalBoundary
  repeat' (with_reducible
    first | assumption | exact su hw | apply State.followGates_keeps | apply State.changeList_keeps | apply keepsO_next)

theorem execGateListChange_keeps (p : Fin 3) (s : State) (hw : Sub 0x80000000000000 W) (hk_s : Keeps W s0 s) :
    KeepsO W s0 (execGateListChange p s) := by
  unfold execGateListChange
  repeat' (with_reducible
    first | assumption | exact su hw | extract_lets | apply State.followGates_keeps | apply State.changeList_keeps
          | apply keepsIte | apply keepsO_next | split)

theorem execMacAgeing_keeps (s : State) (hw : Sub 0x100000000400000 W) (hk_s : Keeps W s0 s) :
    KeepsO W s0 (execMacAgeing s) := by
  unfold execMacAgeing
  repeat' (with_reducible
    first | assumption | exact su hw | intro _ | extract_lets | apply State.setMac_keeps | apply keepsIte | apply keepsO_next)

theorem macFlushCmd_keeps (s : State) (mask : Byte) (hw : Sub 0x100000000400000 W) (hk_s : Keeps W s0 s) :
    KeepsR W s0 (macFlushCmd s mask) := by
  unfold macFlushCmd
  repeat' (with_reducible
    first | assumption | exact su hw | apply refuse_keeps | apply okRes_keeps | apply State.flushPorts_keeps | apply keepsIte)

theorem execMacFlush_keeps (q : Req) (mask : Byte) (s : State) (hw : Sub 0x5BC200000E80000 W) (hk_s : Keeps W s0 s) :
    KeepsO W s0 (execMacFlush q mask s) := by
  unfold execMacFlush
  repeat' (with_reducible
    first | assumption | exact su hw | apply State.finish_keeps | apply CmdRes.finish_keeps | apply guardWrite_keeps
          | apply macFlushCmd_keeps | apply keepsO_next)

theorem execTableEccRewrite_keeps (table i : Nat) (s : State) (hw : Sub 0x100200000400000 W) (hk_s : Keeps W s0 s) :
    KeepsO W s0 (execTableEccRewrite table i s) := by
  unfold execTableEccRewrite
  repeat' (with_reducible
    first | assumption | exact su hw | extract_lets | apply State.orP_keeps | apply State.raise_keeps
          | apply State.setMac_keeps | apply keepsIte | apply keepsO_next | split | dsimp +zetaDelta only | exact inn hw
          | omega)

theorem execLatentTestPeriod_keeps (i : Fin 256) (s : State) (hw : Sub 0x100200000400000 W) (hk_s : Keeps W s0 s) :
    KeepsO W s0 (execLatentTestPeriod i s) := by
  unfold execLatentTestPeriod
  repeat' (with_reducible
    first | assumption | exact su hw | extract_lets | apply State.orP_keeps | apply State.raise_keeps
          | apply State.setStream_keeps | apply keepsIte | apply keepsO_next | split | dsimp +zetaDelta only | exact inn hw
          | omega)

theorem execRecoveryResetTimeout_keeps (i : Fin 256) (s : State) (hw : Sub 0x100000000000000 W) (hk_s : Keeps W s0 s) :
    KeepsO W s0 (execRecoveryResetTimeout i s) := by
  unfold execRecoveryResetTimeout
  repeat' (with_reducible
    first | assumption | exact su hw | extract_lets | apply State.setStream_keeps | apply keepsIte | apply keepsO_next)

theorem State.pdelay_keeps (s : State) (p : Fin 3) (d : Option Nat) (hw : Sub 0x24484240080200000 W) (hk_s : Keeps W s0 s) :
    Keeps W s0 (State.pdelay s p d) := by
  unfold State.pdelay
  repeat' (with_reducible
    first | assumption | exact su hw | intro _ | extract_lets | apply State.setP_keeps | apply State.draw_keeps
          | apply State.endFault_keeps | apply State.modPort_keeps | apply State.loseCapable_keeps | apply keepsIte
          | refine keepsSnd (by assumption) ?_ | split | dsimp +zetaDelta only | exact inn hw | omega)

theorem execPdelayReq_keeps (p : Fin 3) (d : Option Nat) (s : State) (hw : Sub 0x24584240080600000 W) (hk_s : Keeps W s0 s) :
    KeepsO W s0 (execPdelayReq p d s) := by
  unfold execPdelayReq
  repeat' (with_reducible
    first | assumption | exact su hw | intro _ | extract_lets | apply State.modPort_keeps | apply State.sendPtp_keeps
          | apply State.pdelay_keeps | apply keepsIte | apply keepsO_next)

theorem execRingTestInterval_keeps (s : State) (hw : Sub 0x20D80200000E00000 W) (hk_s : Keeps W s0 s) :
    KeepsO W s0 (execRingTestInterval s) := by
  unfold execRingTestInterval
  repeat' (with_reducible
    first | assumption | exact su hw | intro _ | extract_lets | apply State.modPort_keeps | apply State.sendRing_keeps
          | apply State.ringBreak_keeps | apply State.ringClose_keeps | apply keepsIte | apply keepsO_next | apply keepsFold
          | split | dsimp +zetaDelta only | refine keeps_sw ?_ ?_)

theorem State.actTopology_keeps (s : State) (f : GclFrame) (o : Fin 3) (hw : Sub 0x20D80200000E00000 W) (hk_s : Keeps W s0 s) :
    Keeps W s0 (State.actTopology s f o) := by
  unfold State.actTopology
  repeat' (with_reducible
    first | assumption | exact su hw | intro _ | extract_lets | apply State.modPort_keeps | apply State.flushPorts_keeps
          | apply State.ringBreak_keeps | apply keepsIte | split | refine keeps_ports ?_ ?_)

theorem execTopologyFrameReceived_keeps (s : State) (hw : Sub 0x20F80200000E00000 W) (hk_s : Keeps W s0 s) :
    KeepsO W s0 (execTopologyFrameReceived s) := by
  unfold execTopologyFrameReceived
  repeat' (with_reducible
    first | assumption | exact su hw | intro _ | extract_lets | apply State.sendOn_keeps | apply State.gclReceive_keeps
          | apply State.actTopology_keeps | apply keepsIte | apply keepsO_next | refine keepsFst (by assumption) ?_ | split
          | dsimp +zetaDelta only | refine keeps_delivered ?_ ?_ | refine keeps_sw ?_ ?_ | refine keeps_sw_delivered ?_ ?_)

/-! ### PairOps -/

theorem State.modPair_keeps (s : State) (m : Fin 7) (g : Pair → Pair) (hw : Sub 0x800000000000000 W) (hk_s : Keeps W s0 s) :
    Keeps W s0 (State.modPair s m g) := by
  unfold State.modPair
  repeat' (with_reducible first | assumption | exact su hw | extract_lets | refine keeps_red ?_ ?_)

theorem State.redCnt_keeps (s : State) (k : Nat) (hw : Sub 0x1000000 W) (hb : k < 4096) (hk_s : Keeps W s0 s) :
    Keeps W s0 (State.redCnt s k) := by
  unfold State.redCnt
  repeat' (with_reducible first | assumption | exact su hw | apply State.incAt_keeps | exact inn hw | omega)

theorem State.sendRanger_keeps (s : State) (kind : Nat) (payload : List Byte) (hw : Sub 0x580200000E00000 W)
    (hk_s : Keeps W s0 s) :
    Keeps W s0 (State.sendRanger s kind payload) := by
  unfold State.sendRanger
  repeat' (with_reducible first | assumption | exact su hw | extract_lets | apply State.sendGcl_keeps | split)

theorem State.sendEpoch_keeps (s : State) (e : Word) (m : Nat) (t : CellTime) (hw : Sub 0xD80200000E00000 W)
    (hk_s : Keeps W s0 s) :
    Keeps W s0 (State.sendEpoch s e m t) := by
  unfold State.sendEpoch
  repeat' (with_reducible
    first | assumption | exact su hw | extract_lets | apply State.sendGcl_keeps | dsimp +zetaDelta only
          | refine keeps_red ?_ ?_)

theorem State.takeEpoch_keeps (s : State) (e : Word) (m : Nat) (t : CellTime) (hw : Sub 0x400000000800000 W)
    (hk_s : Keeps W s0 s) :
    Keeps W s0 (State.takeEpoch s e m t) := by
  unfold State.takeEpoch
  repeat' (with_reducible
    first | assumption | exact su hw | intro _ | extract_lets | apply State.orP_keeps | apply State.gclCnt_keeps
          | apply keepsIte | split | refine keeps_gcl rfl ?_ ?_ | exact inn hw | omega)

theorem State.issueEpoch_keeps (s : State) (e : Word) (m : Nat) (hw : Sub 0xD80200001E00000 W) (hk_s : Keeps W s0 s) :
    Keeps W s0 (State.issueEpoch s e m) := by
  unfold State.issueEpoch
  repeat' (with_reducible
    first | assumption | exact su hw | intro _ | extract_lets | apply State.setP_keeps | apply State.sendEpoch_keeps
          | apply State.takeEpoch_keeps | dsimp +zetaDelta only | refine keeps_red ?_ ?_ | exact inn hw | omega)

theorem State.rangerCheck_keeps (s : State) (hw : Sub 0x800200001000000 W) (hk_s : Keeps W s0 s) :
    Keeps W s0 (State.rangerCheck s) := by
  unfold State.rangerCheck
  repeat' (with_reducible
    first | assumption | exact su hw | extract_lets | apply State.setP_keeps | apply State.endFault_keeps | apply keepsIte
          | split | dsimp +zetaDelta only | refine keeps_red ?_ ?_ | exact inn hw | omega)

theorem State.rangerQuery_keeps (s : State) (hw : Sub 0xD80200001E00000 W) (hk_s : Keeps W s0 s) :
    Keeps W s0 (State.rangerQuery s) := by
  unfold State.rangerQuery
  repeat' (with_reducible first | assumption | exact su hw | intro _ | apply State.issueEpoch_keeps | apply keepsIte)

theorem State.rangerSucceed_keeps (s : State) (hw : Sub 0xD80200001E00000 W) (hk_s : Keeps W s0 s) :
    Keeps W s0 (State.rangerSucceed s) := by
  unfold State.rangerSucceed
  repeat' (with_reducible
    first | assumption | exact su hw | extract_lets | apply State.issueEpoch_keeps | apply keepsIte | split)

theorem State.cmdBuffer_keeps (s : State) (ep : Fin 8) (opcode : Nat) (hw : Sub 0x10200000080000 W) (hk_s : Keeps W s0 s) :
    Keeps W s0 ((State.cmdBuffer s ep opcode).2) := by
  unfold State.cmdBuffer
  repeat' (with_reducible
    first | assumption | exact su hw | extract_lets | apply State.setBuf_keeps | apply State.claim_keeps | apply keepsIte
          | dsimp only | refine keepsSnd (by assumption) ?_ | split)

theorem State.disagree_keeps (s : State) (m : Fin 7) (c : PairCopy) (hash : BitVec 64) (hw : Sub 0x800200001000000 W)
    (hk_s : Keeps W s0 s) :
    Keeps W s0 (State.disagree s m c hash) := by
  unfold State.disagree
  repeat' (with_reducible
    first | assumption | exact su hw | intro _ | extract_lets | apply State.setBytes_keeps | apply State.setPAt_keeps
          | apply State.orP_keeps | apply State.raise_keeps | apply State.modPair_keeps | apply State.redCnt_keeps
          | apply keepsIte | split | dsimp +zetaDelta only | exact inn hw | omega | (simp; done))

theorem State.holdFirst_keeps (s : State) (m : Fin 7) (tag : Nat) (hw : Sub 0x4000001000000 W) (hk_s : Keeps W s0 s) :
    Keeps W s0 (State.holdFirst s m tag) := by
  unfold State.holdFirst
  repeat' (with_reducible
    first | assumption | exact su hw | intro _ | extract_lets | apply State.modEp_keeps | apply State.redCnt_keeps
          | apply keepsIte | apply setPhase_ok | split | refine epOkMk ?_ rfl | omega)

theorem State.releaseFirst_keeps (s : State) (m : Fin 7) (tag : Nat) (hw : Sub 0x24000000000000 W) (hk_s : Keeps W s0 s) :
    Keeps W s0 (State.releaseFirst s m tag) := by
  unfold State.releaseFirst
  repeat' (with_reducible
    first | assumption | exact su hw | intro _ | extract_lets | apply State.modEp_keeps | apply keepsIte | apply setPhase_ok
          | split | refine epOkMk ?_ rfl | dsimp +zetaDelta only | refine keeps_mbx rfl rfl ?_ ?_ ?_ | exact sameRfl
          | exact sameIn hw)

theorem State.rememberCopy_keeps (s : State) (m : Fin 7) (c : PairCopy) (hw : Sub 0x800000000000000 W) (hk_s : Keeps W s0 s) :
    Keeps W s0 (State.rememberCopy s m c) := by
  unfold State.rememberCopy
  repeat' (with_reducible first | assumption | exact su hw | intro _ | extract_lets | apply State.modPair_keeps)

theorem State.bothSeen_keeps (s : State) (m : Fin 7) (seq : Word) (hw : Sub 0x800000000000000 W) (hk_s : Keeps W s0 s) :
    Keeps W s0 (State.bothSeen s m seq) := by
  unfold State.bothSeen
  repeat' (with_reducible first | assumption | exact su hw | intro _ | extract_lets | apply State.modPair_keeps)

theorem State.underEpoch_keeps (s : State) (ep : Fin 8) (epoch : Word) (hw : Sub 0x20000000000000 W) (hk_s : Keeps W s0 s) :
    Keeps W s0 (State.underEpoch s ep epoch) := by
  unfold State.underEpoch
  repeat' (with_reducible
    first | assumption | exact su hw | extract_lets | refine keeps_mbx rfl rfl ?_ ?_ ?_ | exact sameRfl | exact sameIn hw)

theorem State.liveCopy_keeps (s : State) (ep : Fin 8) (tag opcode : Nat) (epoch : Word) (hw : Sub 0x20600000040000 W)
    (hk_s : Keeps W s0 s) :
    Keeps W s0 (State.liveCopy s ep tag opcode epoch) := by
  unfold State.liveCopy
  repeat' (with_reducible
    first | assumption | exact su hw | apply liveness_keeps | apply State.underEpoch_keeps | apply keepsIte | split
          | apply keepsR_mk | apply keepsR_st)

theorem State.postPair_keeps (s : State) (m : Fin 7) (f : GclFrame) (buf opcode : Nat) (hw : Sub 0xDBC600001EC0000 W)
    (hk_s : Keeps W s0 s) :
    Keeps W s0 (State.postPair s m f buf opcode) := by
  unfold State.postPair
  repeat' (with_reducible
    first | assumption | exact su hw | extract_lets | apply State.accept_keeps | apply State.finish_keeps
          | apply CmdRes.finish_keeps | apply State.redCnt_keeps | apply State.disagree_keeps | apply State.holdFirst_keeps
          | apply State.releaseFirst_keeps | apply State.rememberCopy_keeps | apply State.bothSeen_keeps
          | apply State.liveCopy_keeps | apply keepsIte | split | dsimp +zetaDelta only | omega)

theorem State.postFrame_keeps (s : State) (m : Fin 7) (f : GclFrame) (desc : List Byte) (hw : Sub 0xDBC600001EC0000 W)
    (hk_s : Keeps W s0 s) :
    Keeps W s0 (State.postFrame s m f desc) := by
  unfold State.postFrame
  repeat' (with_reducible
    first | assumption | exact su hw | intro _ | extract_lets | apply State.modEp_keeps | apply State.writeBuf_keeps
          | apply State.refusePosting_keeps | apply State.sendRsp_keeps | apply State.accept_keeps
          | apply State.cmdBuffer_keeps | apply State.postPair_keeps | apply keepsIte | refine keepsSnd (by assumption) ?_
          | split | refine epOkMk ?_ rfl)

theorem State.raisePair_keeps (s : State) (m : Fin 7) (member : Nat) (hw : Sub 0x200000000000 W) (hk_s : Keeps W s0 s) :
    Keeps W s0 (State.raisePair s m member) := by
  unfold State.raisePair
  repeat' (with_reducible first | assumption | exact su hw | apply State.raise_keeps)

theorem State.takeover_keeps (s : State) (m : Fin 7) (hw : Sub 0x200001000000 W) (hk_s : Keeps W s0 s) :
    Keeps W s0 (State.takeover s m) := by
  unfold State.takeover
  repeat' (with_reducible
    first | assumption | exact su hw | extract_lets | apply State.setPAt_keeps | apply State.orP_keeps
          | apply State.raise_keeps | apply State.redCnt_keeps | apply keepsIte | split | dsimp +zetaDelta only | exact inn hw
          | omega)

theorem State.lastSwap_keeps (s : State) (t : CellTime) (kind m result : Nat) (hw : Sub 0x1000000 W) (hk_s : Keeps W s0 s) :
    Keeps W s0 (State.lastSwap s t kind m result) := by
  unfold State.lastSwap
  repeat' (with_reducible first | assumption | exact su hw | apply State.setBytes_keeps | exact inn hw | omega | (simp; done))

theorem swapReady_keeps (s : State) (kind m shift : Nat) (mark : GridMark) (hw : Sub 0x800000000000000 W) (h : Keeps W s0 s) :
    KeepsOptSnd W s0 (swapReady s kind m shift mark) := by
  intro a t e
  unfold swapReady at e
  split at e
  · cases e; exact ⟨h.1, h.2.1, { h.2.2 with red := sameIn hw }⟩
  · split at e
    · split at e
      · split at e
        · cases e; exact h
        · cases e
      · cases e
    · cases e

theorem State.pairSwap_keeps (s : State) (m : Fin 7) (hw : Sub 0x800200001000000 W) (hk_s : Keeps W s0 s) :
    Keeps W s0 (State.pairSwap s m) := by
  unfold State.pairSwap
  repeat' (with_reducible
    first | assumption | exact su hw | intro _ | extract_lets | apply State.setPAt_keeps | apply State.orP_keeps
          | apply State.modPair_keeps | apply State.redCnt_keeps | apply State.raisePair_keeps | apply State.takeover_keeps
          | apply State.lastSwap_keeps | apply swapReady_keeps | apply keepsIte | refine keepsOptSnd (by assumption) ?_
          | split | dsimp +zetaDelta only | exact inn hw | omega)

theorem State.pairSwaps_keeps (s : State) (hw : Sub 0x800200001000000 W) (hk_s : Keeps W s0 s) :
    Keeps W s0 (State.pairSwaps s) := by
  unfold State.pairSwaps
  repeat' (with_reducible first | assumption | exact su hw | intro _ | apply State.pairSwap_keeps | apply keepsFold)

theorem State.dropHeld_keeps (s : State) (m : Fin 7) (hw : Sub 0x5BC200000E80000 W) (hk_s : Keeps W s0 s) :
    Keeps W s0 (State.dropHeld s m) := by
  unfold State.dropHeld
  repeat' (with_reducible
    first | assumption | exact su hw | intro _ | apply State.finish_keeps | apply CmdRes.finish_keeps | apply keepsFold)

theorem State.leaveHeld_keeps (s : State) (m : Fin 7) (st : Nat) (hw : Sub 0xDBC200001E80000 W) (hk_s : Keeps W s0 s) :
    Keeps W s0 (State.leaveHeld s m st) := by
  unfold State.leaveHeld
  repeat' (with_reducible
    first | assumption | exact su hw | intro _ | extract_lets | apply State.setPAt_keeps | apply State.endFault_keeps
          | apply State.modPair_keeps | apply State.dropHeld_keeps | apply keepsIte | split | dsimp +zetaDelta only
          | exact inn hw | omega)

theorem State.adoptEpoch_keeps (s : State) (e : Word) (m : Nat) (hw : Sub 0x4DBC600001E80000 W) (hk_s : Keeps W s0 s) :
    Keeps W s0 (State.adoptEpoch s e m) := by
  unfold State.adoptEpoch
  repeat' (with_reducible
    first | assumption | exact su hw | intro _ | extract_lets | apply State.setP_keeps | apply State.journalAt_keeps
          | apply State.report_keeps | apply State.modFb_keeps | apply State.redCnt_keeps | apply State.sendRanger_keeps
          | apply State.leaveHeld_keeps | apply keepsIte | exact fbOkRefl (by assumption) | apply keepsFold | split
          | refine fbOkMk ?_ rfl ?_ ?_ | dsimp +zetaDelta only | refine keeps_gcl rfl ?_ ?_ | exact inn hw | omega
          | exact sameRfl | exact sameIn hw)

theorem State.adoptDue_keeps (s : State) (hw : Sub 0x4DBC600001E80000 W) (hk_s : Keeps W s0 s) :
    Keeps W s0 (State.adoptDue s) := by
  unfold State.adoptDue
  repeat' (with_reducible
    first | assumption | exact su hw | extract_lets | apply State.pairSwaps_keeps | apply State.adoptEpoch_keeps
          | apply keepsIte | split)

theorem State.setGclState_keeps (s : State) (st : Nat) (detail : Word) (hw : Sub 0xC00200001800000 W) (hk_s : Keeps W s0 s) :
    Keeps W s0 (State.setGclState s st detail) := by
  unfold State.setGclState
  repeat' (with_reducible
    first | assumption | exact su hw | extract_lets | apply State.setP_keeps | apply State.orP_keeps | apply State.raise_keeps
          | apply State.endFault_keeps | apply State.helloSoon_keeps | apply State.gclCnt_keeps
          | apply State.rangerCheck_keeps | apply keepsIte | split | dsimp +zetaDelta only | exact inn hw | omega)

/-! ### Gcl -/

theorem State.heardMember_keeps (s : State) (f : GclFrame) (hw : Sub 0x800000000000000 W) (hk_s : Keeps W s0 s) :
    Keeps W s0 (State.heardMember s f) := by
  unfold State.heardMember
  repeat' (with_reducible
    first | assumption | exact su hw | intro _ | extract_lets | apply State.modPair_keeps | apply keepsIte | split)

theorem laterVerdict_lt {s : State} {f : GclFrame} {k : Nat} (h : laterVerdict s f = .discarded k) : k < 4096 := by
  simp only [laterVerdict, arbVerdict] at h
  repeat' split at h
  all_goals first | (simp at h; done) | (simp at h; omega)

theorem execGclFrameReceived_keeps (s : State) (hw : Sub 0xE00200000A00000 W) (hk_s : Keeps W s0 s) :
    KeepsO W s0 (execGclFrameReceived s) := by
  unfold execGclFrameReceived
  repeat' (with_reducible
    first | assumption | exact su hw | intro _ | extract_lets | apply State.occur_keeps | apply State.gclDiscard_keeps
          | apply State.gclReceive_keeps | apply State.heardMember_keeps | apply keepsIte | apply keepsO_next
          | refine keepsFst (by assumption) ?_ | split | dsimp +zetaDelta only | refine keeps_delivered ?_ ?_
          | refine keeps_gcl rfl ?_ ?_ | omega | exact laterVerdict_lt (by assumption))

theorem State.takeFrame_keeps (s : State) (typ kind : Nat) (hw : Sub 0x400000000000000 W) (h : Keeps W s0 s) :
    KeepsOptSnd W s0 (s.takeFrame typ kind) := by
  intro a t e
  unfold State.takeFrame at e
  split at e
  · cases e
  · cases e; exact ⟨h.1, h.2.1, { h.2.2 with gcl := sameIn hw }⟩

theorem State.setNodes_keeps (s : State) (l : List NodeEntry) (hw : Sub 0x400000000800000 W) (hk_s : Keeps W s0 s) :
    Keeps W s0 (State.setNodes s l) := by
  unfold State.setNodes
  repeat' (with_reducible
    first | assumption | exact su hw | intro _ | extract_lets | apply State.setP_keeps | refine keeps_gcl rfl ?_ ?_
          | exact inn hw | omega)

theorem State.hello_keeps (s : State) (f : GclFrame) (hw : Sub 0xC00200001800000 W) (hk_s : Keeps W s0 s) :
    Keeps W s0 (State.hello s f) := by
  unfold State.hello
  repeat' (with_reducible
    first | assumption | exact su hw | intro _ | extract_lets | apply State.setP_keeps | apply State.orP_keeps
          | apply State.raise_keeps | apply State.endFault_keeps | apply State.setGclState_keeps | apply State.setNodes_keeps
          | apply keepsIte | split | dsimp +zetaDelta only | refine keeps_gcl rfl ?_ ?_ | refine keeps_red ?_ ?_
          | refine keeps_gcl_red rfl ?_ ?_ | exact inn hw | omega)

theorem execHelloReceived_keeps (s : State) (hw : Sub 0xD80200001E00000 W) (hk_s : Keeps W s0 s) :
    KeepsO W s0 (execHelloReceived s) := by
  unfold execHelloReceived
  repeat' (with_reducible
    first | assumption | exact su hw | intro _ | extract_lets | apply State.gclCnt_keeps | apply State.rangerSucceed_keeps
          | apply State.takeFrame_keeps | apply State.hello_keeps | apply keepsIte | refine keepsOptSnd (by assumption) ?_
          | apply keepsO_next | split | dsimp +zetaDelta only | omega)

theorem execHelloSend_keeps (s : State) (hw : Sub 0x580200000E00000 W) (hk_s : Keeps W s0 s) :
    KeepsO W s0 (execHelloSend s) := by
  unfold execHelloSend
  repeat' (with_reducible
    first | assumption | exact su hw | intro _ | extract_lets | apply State.gclCnt_keeps | apply State.sendGcl_keeps
          | apply keepsIte | apply keepsO_next | split | dsimp +zetaDelta only | refine keeps_gcl rfl ?_ ?_ | omega)

theorem execNodeTimeout_keeps (n : Nat) (s : State) (hw : Sub 0xD80200001E00000 W) (hk_s : Keeps W s0 s) :
    KeepsO W s0 (execNodeTimeout n s) := by
  unfold execNodeTimeout
  repeat' (with_reducible
    first | assumption | exact su hw | intro _ | extract_lets | apply State.orP_keeps | apply State.raise_keeps
          | apply State.rangerSucceed_keeps | apply State.setNodes_keeps | apply keepsIte | apply keepsO_next | split
          | dsimp +zetaDelta only | exact inn hw | omega)

theorem execDuplicateTimeout_keeps (s : State) (hw : Sub 0xC00200001800000 W) (hk_s : Keeps W s0 s) :
    KeepsO W s0 (execDuplicateTimeout s) := by
  unfold execDuplicateTimeout
  repeat' (with_reducible first | assumption | exact su hw | apply State.setGclState_keeps | apply keepsIte | apply keepsO_next)

theorem State.answerNegotiate_keeps (s : State) (f : GclFrame) (st : Nat) (hw : Sub 0x580200000E00000 W) (hk_s : Keeps W s0 s) :
    Keeps W s0 (State.answerNegotiate s f st) := by
  unfold State.answerNegotiate
  repeat' (with_reducible first | assumption | exact su hw | extract_lets | apply State.sendGcl_keeps)

theorem execGclNegotiate_keeps (s : State) (hw : Sub 0xD80200001E00000 W) (hk_s : Keeps W s0 s) :
    KeepsO W s0 (execGclNegotiate s) := by
  unfold execGclNegotiate
  repeat' (with_reducible
    first | assumption | exact su hw | intro _ | extract_lets | apply State.setBytes_keeps | apply State.setP_keeps
          | apply State.setGclState_keeps | apply State.takeFrame_keeps | apply State.answerNegotiate_keeps | apply keepsIte
          | refine keepsOptSnd (by assumption) ?_ | apply keepsO_next | split | dsimp +zetaDelta only | exact inn hw | omega
          | (simp; done))

theorem execCmdFrame_keeps (s : State) (hw : Sub 0x4DBC600001EC0000 W) (hk_s : Keeps W s0 s) :
    KeepsO W s0 (execCmdFrame s) := by
  unfold execCmdFrame
  repeat' (with_reducible
    first | assumption | exact su hw | intro _ | extract_lets | apply State.postFrame_keeps | apply State.adoptDue_keeps
          | apply State.takeFrame_keeps | refine keepsOptSnd (by assumption) ?_ | apply keepsO_next | split)

theorem execSchedFrame_keeps (s : State) (hw : Sub 0x4DBC600001EC0000 W) (hk_s : Keeps W s0 s) :
    KeepsO W s0 (execSchedFrame s) := by
  unfold execSchedFrame
  repeat' (with_reducible
    first | assumption | exact su hw | intro _ | extract_lets | apply State.postFrame_keeps | apply State.adoptDue_keeps
          | apply State.takeFrame_keeps | apply keepsIte | refine keepsOptSnd (by assumption) ?_ | apply keepsO_next | split)

theorem State.sendNotify_keeps (s : State) (ep : Fin 8) (hw : Sub 0x20580200000E00000 W) (hk_s : Keeps W s0 s) :
    Keeps W s0 (State.sendNotify s ep) := by
  unfold State.sendNotify
  repeat' (with_reducible
    first | assumption | exact su hw | intro _ | extract_lets | apply State.draw_keeps | apply State.gclCnt_keeps
          | apply State.sendGcl_keeps | apply keepsIte | apply keepsFold | refine keepsSnd (by assumption) ?_ | split
          | dsimp +zetaDelta only | refine keeps_gcl rfl ?_ ?_ | omega)

theorem execNotify_keeps (ep : Fin 8) (s : State) (hw : Sub 0x20580200000E00000 W) (hk_s : Keeps W s0 s) :
    KeepsO W s0 (execNotify ep s) := by
  unfold execNotify
  repeat' (with_reducible first | assumption | exact su hw | apply State.sendNotify_keeps | apply keepsIte | apply keepsO_next)

theorem execNotifyRepeat_keeps (ep : Fin 8) (s : State) (hw : Sub 0x20580200000E00000 W) (hk_s : Keeps W s0 s) :
    KeepsO W s0 (execNotifyRepeat ep s) := by
  unfold execNotifyRepeat
  repeat' (with_reducible
    first | assumption | exact su hw | extract_lets | apply State.sendNotify_keeps | apply keepsIte | apply keepsO_next)

theorem State.sendSyncResult_keeps (s : State) (f : GclFrame) (code : BitVec 16) (mask : Nat) (a : CellTime)
    (hw : Sub 0x20580200000E00000 W) (hk_s : Keeps W s0 s) :
    Keeps W s0 (State.sendSyncResult s f code mask a) := by
  unfold State.sendSyncResult
  repeat' (with_reducible
    first | assumption | exact su hw | intro _ | extract_lets | apply State.draw_keeps | apply State.sendMaster_keeps)

theorem State.seeSync_keeps (s : State) (f : GclFrame) (hw : Sub 0x400000000000000 W) (hk_s : Keeps W s0 s) :
    Keeps W s0 (State.seeSync s f) := by
  unfold State.seeSync
  repeat' (with_reducible
    first | assumption | exact su hw | intro _ | extract_lets | dsimp +zetaDelta only | refine keeps_gcl rfl ?_ ?_)

theorem State.compareSync_keeps (s : State) (f : GclFrame) (hw : Sub 0x800200001000000 W) (hk_s : Keeps W s0 s) :
    Keeps W s0 (State.compareSync s f) := by
  unfold State.compareSync
  repeat' (with_reducible
    first | assumption | exact su hw | extract_lets | apply State.redCnt_keeps | apply State.disagree_keeps
          | apply State.rememberCopy_keeps | apply State.bothSeen_keeps | apply keepsIte | split | dsimp +zetaDelta only
          | omega)

theorem State.answerSync_keeps (s : State) (f : GclFrame) (us : List (Fin 16)) (t : CellTime) (hw : Sub 0x20580201200E00100 W)
    (h : Keeps W s0 s) : Keeps W s0 (s.answerSync f us t) := by
  have hr : Keeps W s0 (s.requestSync us t 1).2 := State.requestSync_keeps s us t 1 (su hw) h
  unfold State.answerSync
  generalize s.requestSync us t 1 = r at hr
  dsimp only
  split
  · exact State.sendSyncResult_keeps _ _ _ _ _ (su hw) (State.gclCnt_keeps _ _ (su hw) (by decide) hr)
  · split
    · exact State.sendSyncResult_keeps _ _ _ _ _ (su hw) hr
    · exact hr

theorem execSyncRequest_keeps (s : State) (hw : Sub 0x24DBC601201E80100 W) (hk_s : Keeps W s0 s) :
    KeepsO W s0 (execSyncRequest s) := by
  unfold execSyncRequest
  repeat' (with_reducible
    first | assumption | exact su hw | intro _ | extract_lets | apply State.gclCnt_keeps | apply State.adoptDue_keeps
          | apply State.takeFrame_keeps | apply State.sendSyncResult_keeps | apply State.seeSync_keeps
          | apply State.compareSync_keeps | apply State.answerSync_keeps | apply keepsIte
          | refine keepsOptSnd (by assumption) ?_ | apply keepsO_next | split | dsimp +zetaDelta only | omega)

theorem execJournalFrameSend_keeps (s : State) (hw : Sub 0x580200000E00000 W) (h : Keeps W s0 s) :
    KeepsO W s0 (execJournalFrameSend s) := by
  unfold execJournalFrameSend
  extract_lets rs payload s1
  have hj : (s.gcl.journalQ.drop 32).length ≤ 64 := by
    rw [List.length_drop]; exact Nat.le_trans (Nat.sub_le _ _) h.2.1.2.jq
  have h1 : Keeps W s0 s1 := by
    repeat' (with_reducible first | assumption | exact su hw | intro _ | extract_lets | apply State.setP_keeps | apply State.gclCnt_keeps | apply State.sendGcl_keeps | exact inn hw | omega)
  clear_value s1
  split
  · exact keepsO_next h
  · exact keepsO_next ⟨h1.1, ⟨h1.2.1.1, { h1.2.1.2 with jq := hj }⟩, { h1.2.2 with gcl := sameIn hw }⟩

theorem execArbEpoch_keeps (s : State) (hw : Sub 0x4DBC600001E80000 W) (hk_s : Keeps W s0 s) :
    KeepsO W s0 (execArbEpoch s) := by
  unfold execArbEpoch
  repeat' (with_reducible
    first | assumption | exact su hw | intro _ | extract_lets | apply State.takeEpoch_keeps | apply State.adoptDue_keeps
          | apply State.takeFrame_keeps | apply keepsIte | refine keepsOptSnd (by assumption) ?_ | apply keepsO_next | split)

theorem execEpochEffective_keeps (s : State) (hw : Sub 0x4DBC600001E80000 W) (hk_s : Keeps W s0 s) :
    KeepsO W s0 (execEpochEffective s) := by
  unfold execEpochEffective
  repeat' (with_reducible first | assumption | exact su hw | apply State.adoptDue_keeps | apply keepsO_next)

theorem execArbSwap_keeps (s : State) (hw : Sub 0xC00000000000000 W) (hk_s : Keeps W s0 s) :
    KeepsO W s0 (execArbSwap s) := by
  unfold execArbSwap
  repeat' (with_reducible
    first | assumption | exact su hw | intro _ | extract_lets | apply State.takeFrame_keeps | apply keepsIte
          | refine keepsOptSnd (by assumption) ?_ | apply keepsO_next | split | dsimp +zetaDelta only
          | refine keeps_red ?_ ?_)

theorem execArbQuery_keeps (s : State) (hw : Sub 0xD80200001E00000 W) (hk_s : Keeps W s0 s) :
    KeepsO W s0 (execArbQuery s) := by
  unfold execArbQuery
  repeat' (with_reducible
    first | assumption | exact su hw | intro _ | extract_lets | apply State.rangerQuery_keeps | apply State.takeFrame_keeps
          | refine keepsOptSnd (by assumption) ?_ | apply keepsO_next | split)

theorem execArbReport_keeps (s : State) (hw : Sub 0xD80200000E00000 W) (hk_s : Keeps W s0 s) :
    KeepsO W s0 (execArbReport s) := by
  unfold execArbReport
  repeat' (with_reducible
    first | assumption | exact su hw | intro _ | extract_lets | apply State.sendEpoch_keeps | apply State.takeFrame_keeps
          | apply keepsIte | refine keepsOptSnd (by assumption) ?_ | apply keepsO_next | split)

/-! ### Redundancy -/

theorem execPairWaitExpiry_keeps (m : Fin 7) (s : State) (hw : Sub 0x824200001000000 W) (hk_s : Keeps W s0 s) :
    KeepsO W s0 (execPairWaitExpiry m s) := by
  unfold execPairWaitExpiry
  repeat' (with_reducible
    first | assumption | exact su hw | intro _ | extract_lets | apply State.orP_keeps | apply State.modPair_keeps
          | apply State.redCnt_keeps | apply State.releaseFirst_keeps | apply State.raisePair_keeps | apply keepsIte
          | apply keepsO_next | split | dsimp +zetaDelta only | exact inn hw | omega)

theorem execTakeover_keeps (m : Fin 7) (s : State) (hw : Sub 0x200001000000 W) (hk_s : Keeps W s0 s) :
    KeepsO W s0 (execTakeover m s) := by
  unfold execTakeover
  repeat' (with_reducible first | assumption | exact su hw | intro _ | apply State.takeover_keeps | apply keepsO_next)

theorem State.sendQuery_keeps (s : State) (m : Fin 7) (hw : Sub 0xD80200001E00000 W) (hk_s : Keeps W s0 s) :
    Keeps W s0 (State.sendQuery s m) := by
  unfold State.sendQuery
  repeat' (with_reducible
    first | assumption | exact su hw | intro _ | extract_lets | apply State.modPair_keeps | apply State.redCnt_keeps
          | apply State.sendRanger_keeps | apply State.rangerQuery_keeps | apply keepsIte | split | dsimp +zetaDelta only
          | omega)

theorem execQueryRepeat_keeps (m : Fin 7) (s : State) (hw : Sub 0xD80200001E00000 W) (hk_s : Keeps W s0 s) :
    KeepsO W s0 (execQueryRepeat m s) := by
  unfold execQueryRepeat
  repeat' (with_reducible
    first | assumption | exact su hw | intro _ | extract_lets | apply State.sendQuery_keeps | apply keepsIte
          | apply keepsO_next)

theorem execArbTimeout_keeps (m : Fin 7) (s : State) (hw : Sub 0x800200000000000 W) (hk_s : Keeps W s0 s) :
    KeepsO W s0 (execArbTimeout m s) := by
  unfold execArbTimeout
  repeat' (with_reducible
    first | assumption | exact su hw | intro _ | extract_lets | apply State.raise_keeps | apply State.modPair_keeps
          | apply keepsIte | apply keepsO_next)

theorem pairReadmit_keeps (s : State) (m : Nat) (hw : Sub 0xDBC200001E80000 W) (hk_s : Keeps W s0 s) :
    KeepsR W s0 (pairReadmit s m) := by
  unfold pairReadmit
  repeat' (with_reducible
    first | assumption | exact su hw | apply refuse_keeps | apply okRes_keeps | apply State.leaveHeld_keeps | apply keepsIte)

theorem execPairReadmit_keeps (q : Req) (m : Nat) (s : State) (hw : Sub 0xDBC200001E80000 W) (hk_s : Keeps W s0 s) :
    KeepsO W s0 (execPairReadmit q m s) := by
  unfold execPairReadmit
  repeat' (with_reducible
    first | assumption | exact su hw | apply State.finish_keeps | apply CmdRes.finish_keeps | apply guardWrite_keeps
          | apply pairReadmit_keeps | apply keepsO_next)

theorem execRangerListenTimeout_keeps (s : State) (hw : Sub 0xD80200001E00000 W) (hk_s : Keeps W s0 s) :
    KeepsO W s0 (execRangerListenTimeout s) := by
  unfold execRangerListenTimeout
  repeat' (with_reducible
    first | assumption | exact su hw | extract_lets | apply State.setP_keeps | apply State.issueEpoch_keeps
          | apply State.rangerSucceed_keeps | apply keepsIte | apply keepsO_next | split | dsimp +zetaDelta only
          | exact inn hw | omega)

theorem execRangerEpochRepeat_keeps (s : State) (hw : Sub 0xD80200000E00000 W) (hk_s : Keeps W s0 s) :
    KeepsO W s0 (execRangerEpochRepeat s) := by
  unfold execRangerEpochRepeat
  repeat' (with_reducible
    first | assumption | exact su hw | extract_lets | apply State.sendEpoch_keeps | apply keepsIte | apply keepsO_next
          | split)

theorem execRangerStandDownTimeout_keeps (s : State) (hw : Sub 0x800200001000000 W) (hk_s : Keeps W s0 s) :
    KeepsO W s0 (execRangerStandDownTimeout s) := by
  unfold execRangerStandDownTimeout
  repeat' (with_reducible
    first | assumption | exact su hw | extract_lets | apply State.setP_keeps | apply State.endFault_keeps | apply keepsIte
          | apply keepsO_next | split | dsimp +zetaDelta only | refine keeps_red ?_ ?_ | exact inn hw | omega)

theorem execPairSwapInstant_keeps (m : Fin 7) (s : State) (hw : Sub 0x800200001000000 W) (hk_s : Keeps W s0 s) :
    KeepsO W s0 (execPairSwapInstant m s) := by
  unfold execPairSwapInstant
  repeat' (with_reducible first | assumption | exact su hw | apply State.pairSwap_keeps | apply keepsO_next)

theorem execRingSwapInstant_keeps (s : State) (hw : Sub 0x20D80200001E00000 W) (hk_s : Keeps W s0 s) :
    KeepsO W s0 (execRingSwapInstant s) := by
  unfold execRingSwapInstant
  repeat' (with_reducible
    first | assumption | exact su hw | extract_lets | apply State.sendRing_keeps | apply State.redCnt_keeps
          | apply State.lastSwap_keeps | apply swapReady_keeps | refine keepsOptSnd (by assumption) ?_ | apply keepsO_next
          | split | dsimp +zetaDelta only | refine keeps_red ?_ ?_ | omega)

theorem execRingCopyMissing_keeps (s : State) (hw : Sub 0x800200001000000 W) (hk_s : Keeps W s0 s) :
    KeepsO W s0 (execRingCopyMissing s) := by
  unfold execRingCopyMissing
  repeat' (with_reducible
    first | assumption | exact su hw | intro _ | extract_lets | apply State.orP_keeps | apply State.occur_keeps
          | apply State.redCnt_keeps | apply keepsIte | apply keepsO_next | split | dsimp +zetaDelta only
          | refine keeps_red ?_ ?_ | exact inn hw | omega)

end Sys2Proof.Machine
end

