-- ==== Sys2Proof/Laws/KeepsMem.lean ====
section
/-! SUPPORT. The queue and the invariant are kept, and every part outside a set of parts: the memory serial port, the journal, the commit, the calibration record and the firmware. One lemma per operation and per meaning. -/

namespace Sys2Proof.Machine

set_option Elab.async false

variable {W : Nat} {s0 : State}

/-! ### MspOps -/

theorem State.modMsp_keeps (s : State) (g : Msp → Msp)
    (hg : ∀ x : Msp, cellsWf norByte x.gather = true → MspOk W x (g x)) (h : Keeps W s0 s) : Keeps W s0 (s.modMsp g) := by
  obtain ⟨h1, h2, h3⟩ := hg _ h.2.1.1.gather
  exact ⟨h.1, ⟨{ h.2.1.1 with nor := by simp only [State.modMsp, h1]; exact h.2.1.1.nor, gather := h2 }, h.2.1.2⟩,
    { h.2.2 with msp := h.2.2.msp.trans h3, nor := by simp only [State.modMsp, h1]; exact h.2.2.nor }⟩

theorem State.mspGrant_keeps (s : State) (i hold : Nat) (hw : Sub 0x2000000002000000 W) (hk_s : Keeps W s0 s) :
    Keeps W s0 (State.mspGrant s i hold) := by
  unfold State.mspGrant
  repeat' (with_reducible
    first | assumption | exact su hw | intro _ | extract_lets | apply State.setPAt_keeps | apply State.incAt_keeps
          | apply State.orP_keeps | apply State.modMsp_keeps | apply keepsIte | exact mspOkRefl (by assumption) | split
          | refine mspOkMk ?_ rfl rfl ?_ | dsimp +zetaDelta only | exact inn hw | omega | exact sameRfl | exact sameIn hw)

theorem State.arbitrate_keeps (s : State) (hw : Sub 0x2000000002000000 W) (hk_s : Keeps W s0 s) :
    Keeps W s0 (State.arbitrate s) := by
  unfold State.arbitrate
  repeat' (with_reducible
    first | assumption | exact su hw | intro _ | extract_lets | apply State.mspGrant_keeps | apply keepsIte | split)

theorem State.mspSplit_keeps (s : State) (ep : Nat) (hw : Sub 0x2000200002000000 W) (hk_s : Keeps W s0 s) :
    Keeps W s0 (State.mspSplit s ep) := by
  unfold State.mspSplit
  repeat' (with_reducible
    first | assumption | exact su hw | intro _ | extract_lets | apply State.inc_keeps | apply State.orP_keeps
          | apply State.raise_keeps | apply State.modMsp_keeps | apply State.arbitrate_keeps | apply keepsIte
          | exact mspOkRefl (by assumption) | split | refine mspOkMk ?_ rfl rfl ?_ | dsimp +zetaDelta only | exact inn hw
          | omega | exact sameRfl | exact sameIn hw)

theorem State.endUser_keeps (s : State) (e : MspEntry) (hw : Sub 0x2000200002000000 W) (hk_s : Keeps W s0 s) :
    Keeps W s0 (State.endUser s e) := by
  unfold State.endUser
  repeat' (with_reducible
    first | assumption | exact su hw | intro _ | extract_lets | apply State.modMsp_keeps | apply State.mspGrant_keeps
          | apply State.arbitrate_keeps | apply State.mspSplit_keeps | apply keepsIte | exact mspOkRefl (by assumption)
          | split | refine mspOkMk ?_ rfl rfl ?_ | exact sameRfl | exact sameIn hw)

theorem State.mspQueue_keeps (s : State) (e : MspEntry) (hw : Sub 0x2000000002000000 W) (hk_s : Keeps W s0 s) :
    Keeps W s0 (State.mspQueue s e) := by
  unfold State.mspQueue
  repeat' (with_reducible
    first | assumption | exact su hw | intro _ | extract_lets | apply State.modMsp_keeps | apply State.mspGrant_keeps
          | apply State.arbitrate_keeps | apply keepsIte | exact mspOkRefl (by assumption) | split
          | refine mspOkMk ?_ rfl rfl ?_ | dsimp +zetaDelta only | exact sameRfl | exact sameIn hw)

theorem State.suspendNor_keeps (s : State) (hw : Sub 0x2000000000000000 W) (hk_s : Keeps W s0 s) :
    Keeps W s0 (State.suspendNor s) := by
  unfold State.suspendNor
  repeat' (with_reducible
    first | assumption | exact su hw | intro _ | extract_lets | apply State.modMsp_keeps | exact mspOkRefl (by assumption)
          | refine mspOkMk ?_ rfl rfl ?_ | exact sameRfl | exact sameIn hw)

theorem userXfer_keeps (s : State) (ep : Fin 8) (v : List Byte) (hw : Sub 0x2000000002000000 W) (hk_s : Keeps W s0 s) :
    KeepsR W s0 (userXfer s ep v) := by
  unfold userXfer
  repeat' (with_reducible
    first | assumption | exact su hw | intro _ | extract_lets | apply refuse_keeps | apply okRes_keeps
          | apply State.modMsp_keeps | apply State.mspQueue_keeps | apply keepsIte | exact mspOkRefl (by assumption) | split
          | apply keepsR_mk | refine mspOkMk ?_ rfl rfl ?_ | dsimp +zetaDelta only | exact sameRfl | exact sameIn hw)

theorem arbPriority_keeps (s : State) (v : List Byte) (hw : Sub 0x2000000 W) (hk_s : Keeps W s0 s) :
    KeepsR W s0 (arbPriority s v) := by
  unfold arbPriority
  repeat' (with_reducible
    first | assumption | exact su hw | intro _ | apply State.setBytes_keeps | apply refuse_keeps | apply okRes_keeps | split
          | apply keepsR_mk | exact inn hw | omega)

theorem State.writeIgnored_keeps (s : State) (hw : Sub 0x2000000 W) (hk_s : Keeps W s0 s) :
    Keeps W s0 (State.writeIgnored s) := by
  unfold State.writeIgnored
  repeat' (with_reducible
    first | assumption | exact su hw | apply State.inc_keeps | apply State.orP_keeps | exact inn hw | omega)

theorem State.invalidate_keeps (s : State) (addr n : Nat) (hw : Sub 0x10000000000000000 W) (hk_s : Keeps W s0 s) :
    Keeps W s0 (State.invalidate s addr n) := by
  unfold State.invalidate
  repeat' (with_reducible first | assumption | exact su hw | extract_lets | apply keepsIte | split | refine keeps_sup ?_ ?_)

theorem State.programGathered_keeps (s : State) (hw : Sub 0x2000000000000000 W)
    (h : Keeps W s0 s) : Keeps W s0 s.programGathered := by
  unfold State.programGathered
  split
  · exact h
  · exact State.modMsp_keeps s _ (fun _ hm => ⟨rfl, rfl, sameIn hw⟩) h

theorem State.gatherWrite_keeps (s : State) (addr : Nat) (data : List Byte) (hw : Sub 0x12000000000000000 W)
    (h : Keeps W s0 s) :
    Keeps W s0 (s.gatherWrite addr data) :=
  State.invalidate_keeps _ _ _ (su hw) (State.modMsp_keeps s _ (fun _ hm => ⟨rfl, cellsWf_writeL hm, sameIn hw⟩) h)

theorem State.pageWrite_keeps (s : State) (addr : Nat) (data : List Byte) (hw : Sub 0x12000000000000000 W)
    (hk_s : Keeps W s0 s) :
    Keeps W s0 (State.pageWrite s addr data) := by
  unfold State.pageWrite
  repeat' (with_reducible
    first | assumption | exact su hw | intro _ | extract_lets | apply State.modMsp_keeps | apply State.programGathered_keeps
          | apply State.gatherWrite_keeps | apply keepsIte | exact mspOkRefl (by assumption) | split
          | refine mspOkMk ?_ rfl rfl ?_ | dsimp +zetaDelta only | exact sameRfl | exact sameIn hw)

theorem State.resumeWrites_keeps (s : State) (hw : Sub 0x12000000000000000 W) (hk_s : Keeps W s0 s) :
    Keeps W s0 (State.resumeWrites s) := by
  unfold State.resumeWrites
  repeat' (with_reducible
    first | assumption | exact su hw | intro _ | extract_lets | apply State.modMsp_keeps | apply State.pageWrite_keeps
          | exact mspOkRefl (by assumption) | apply keepsFold | refine mspOkMk ?_ rfl rfl ?_ | exact sameRfl
          | exact sameIn hw)

theorem State.failRange_keeps (s : State) (addr n : Nat) (hw : Sub 0x21000000000000000 W) (hk_s : Keeps W s0 s) :
    Keeps W s0 (State.failRange s addr n) := by
  unfold State.failRange
  repeat' (with_reducible
    first | assumption | exact su hw | intro _ | extract_lets | apply State.writeNor_keeps | dsimp +zetaDelta only
          | refine keeps_draws ?_ ?_)

theorem State.norFailed_keeps (s : State) (hw : Sub 0x2000200002000000 W) (hk_s : Keeps W s0 s) :
    Keeps W s0 (State.norFailed s) := by
  unfold State.norFailed
  repeat' (with_reducible
    first | assumption | exact su hw | intro _ | extract_lets | apply State.orP_keeps | apply State.raise_keeps
          | apply State.modMsp_keeps | exact mspOkRefl (by assumption) | refine mspOkMk ?_ rfl rfl ?_ | exact inn hw | omega
          | exact sameRfl | exact sameIn hw)

theorem State.eraseNextBlock_keeps (s : State) (hw : Sub 0x2000000000000000 W) (hk_s : Keeps W s0 s) :
    Keeps W s0 (State.eraseNextBlock s) := by
  unfold State.eraseNextBlock
  repeat' (with_reducible
    first | assumption | exact su hw | intro _ | extract_lets | apply State.modMsp_keeps | apply keepsIte
          | exact mspOkRefl (by assumption) | split | refine mspOkMk ?_ rfl rfl ?_ | dsimp +zetaDelta only | exact sameRfl
          | exact sameIn hw)

theorem State.norDone_keeps (s : State) (o : NorOp) (hw : Sub 0x13000000002000000 W) (hk_s : Keeps W s0 s) :
    Keeps W s0 (State.norDone s o) := by
  unfold State.norDone
  repeat' (with_reducible
    first | assumption | exact su hw | intro _ | extract_lets | apply State.incAt_keeps | apply State.writeNor_keeps
          | apply State.eraseNor_keeps | apply State.modMsp_keeps | apply State.arbitrate_keeps
          | apply State.resumeWrites_keeps | apply State.eraseNextBlock_keeps | apply keepsIte
          | exact mspOkRefl (by assumption) | split | refine mspOkMk ?_ rfl rfl ?_ | dsimp +zetaDelta only
          | refine keeps_sup ?_ ?_ | exact inn hw | omega | exact sameRfl | exact sameIn hw)

/-! ### Msp -/

theorem userRead_fits (n : Nat) (e : MspEntry) (l : List Byte) : 1032 * (fin8 n).val +
    (userReadElement e l).length ≤ 2 ^ 20 := by
  have h : (userReadElement e l).length = 1032 := by
    simp only [userReadElement, List.length_append, List.length_take, List.length_replicate, leBytes_length]
    omega
  have h8 := (fin8 n).isLt
  rw [h]
  omega

theorem execMspEntryComplete_keeps (data : List Byte) (s : State) (hw : Sub 0x12000200002000000 W) (hk_s : Keeps W s0 s) :
    KeepsO W s0 (execMspEntryComplete data s) := by
  unfold execMspEntryComplete
  repeat' (with_reducible
    first | assumption | exact su hw | intro _ | extract_lets | apply State.setBytes_keeps | apply State.incAt_keeps
          | apply State.modMsp_keeps | apply State.arbitrate_keeps | apply State.endUser_keeps | apply keepsIte
          | apply keepsO_next | exact mspOkRefl (by assumption) | split | refine mspOkMk ?_ rfl rfl ?_ | dsimp +zetaDelta only
          | refine keeps_sup ?_ ?_ | exact inn hw | omega | (simp; done) | (simp; omega) | exact sameRfl | exact sameIn hw
          | exact userRead_fits _ _ _)

theorem execXipFill_keeps (addr : Nat) (s : State) (hw : Sub 0x2000000002000000 W) (hk_s : Keeps W s0 s) :
    KeepsO W s0 (execXipFill addr s) := by
  unfold execXipFill
  repeat' (with_reducible
    first | assumption | exact su hw | intro _ | extract_lets | apply State.incAt_keeps | apply State.mspQueue_keeps
          | apply State.suspendNor_keeps | apply keepsIte | apply keepsO_next | split | dsimp +zetaDelta only | exact inn hw
          | omega)

theorem execXipWriteGather_keeps (priv : Bool) (addr : Nat) (data : List Byte) (s : State)
    (hw : Sub 0x12000000002000000 W) (hk_s : Keeps W s0 s) :
    KeepsO W s0 (execXipWriteGather priv addr data s) := by
  unfold execXipWriteGather
  repeat' (with_reducible
    first | assumption | exact su hw | intro _ | apply State.writeIgnored_keeps | apply State.pageWrite_keeps | apply keepsIte
          | apply keepsO_next | apply keepsFold)

theorem execXipGatherTimeout_keeps (s : State) (hw : Sub 0x2000000000000000 W) (hk_s : Keeps W s0 s) :
    KeepsO W s0 (execXipGatherTimeout s) := by
  unfold execXipGatherTimeout
  repeat' (with_reducible
    first | assumption | exact su hw | apply State.programGathered_keeps | apply keepsIte | apply keepsO_next)

theorem execXipFlush_keeps (priv : Bool) (s : State) (hw : Sub 0x2000000000000000 W) (hk_s : Keeps W s0 s) :
    KeepsO W s0 (execXipFlush priv s) := by
  unfold execXipFlush
  repeat' (with_reducible
    first | assumption | exact su hw | apply State.programGathered_keeps | apply keepsIte | apply keepsO_next)

theorem execXipErase_keeps (priv : Bool) (v : Word) (s : State) (hw : Sub 0x12000000002000000 W) (hk_s : Keeps W s0 s) :
    KeepsO W s0 (execXipErase priv v s) := by
  unfold execXipErase
  repeat' (with_reducible
    first | assumption | exact su hw | intro _ | extract_lets | apply State.modMsp_keeps | apply State.writeIgnored_keeps
          | apply State.invalidate_keeps | apply keepsIte | apply keepsO_next | exact mspOkRefl (by assumption) | split
          | refine mspOkMk ?_ rfl rfl ?_ | dsimp +zetaDelta only | exact sameRfl | exact sameIn hw)

theorem execNorStatusPoll_keeps (busy : Bool) (s : State) (hw : Sub 0x33000200002000000 W) (hk_s : Keeps W s0 s) :
    KeepsO W s0 (execNorStatusPoll busy s) := by
  unfold execNorStatusPoll
  repeat' (with_reducible
    first | assumption | exact su hw | intro _ | extract_lets | apply State.modMsp_keeps | apply State.arbitrate_keeps
          | apply State.resumeWrites_keeps | apply State.failRange_keeps | apply State.norFailed_keeps
          | apply State.norDone_keeps | apply keepsIte | apply keepsO_next | exact mspOkRefl (by assumption) | split
          | refine mspOkMk ?_ rfl rfl ?_ | dsimp +zetaDelta only | refine keeps_sup ?_ ?_ | exact sameRfl | exact sameIn hw)

theorem execUserXfer_keeps (q : Req) (v : List Byte) (s : State) (hw : Sub 0x25BC200002E80000 W) (hk_s : Keeps W s0 s) :
    KeepsO W s0 (execUserXfer q v s) := by
  unfold execUserXfer
  repeat' (with_reducible
    first | assumption | exact su hw | apply State.finish_keeps | apply CmdRes.finish_keeps | apply guardWrite_keeps
          | apply userXfer_keeps | apply keepsO_next)

theorem execContinueTimeout_keeps (s : State) (hw : Sub 0x2000200002000000 W) (hk_s : Keeps W s0 s) :
    KeepsO W s0 (execContinueTimeout s) := by
  unfold execContinueTimeout
  repeat' (with_reducible
    first | assumption | exact su hw | extract_lets | apply State.mspSplit_keeps | apply keepsIte | apply keepsO_next | split)

theorem execArbPriorityWrite_keeps (q : Req) (v : List Byte) (s : State) (hw : Sub 0x5BC200002E80000 W) (hk_s : Keeps W s0 s) :
    KeepsO W s0 (execArbPriorityWrite q v s) := by
  unfold execArbPriorityWrite
  repeat' (with_reducible
    first | assumption | exact su hw | apply State.finish_keeps | apply CmdRes.finish_keeps | apply guardWrite_keeps
          | apply arbPriority_keeps | apply keepsO_next)

/-! ### JournalOps -/

theorem State.modJrn_keeps (s : State) (g : Journal → Journal) (hg : ∀ x : Journal, x.ram.length ≤ 512 → JrnOk W x (g x))
    (h : Keeps W s0 s) : Keeps W s0 (s.modJrn g) := by
  obtain ⟨h1, h2, h3⟩ := hg _ h.2.1.2.ram
  exact ⟨h.1, ⟨h.2.1.1, { h.2.1.2 with ram := h1 }⟩,
    { h.2.2 with incoming := h.2.2.incoming.trans h2, jrn := h.2.2.jrn.trans h3 }⟩

theorem State.loseRecords_keeps (s : State) (n diag : Nat) (hw : Sub 0x4000000 W) (hk_s : Keeps W s0 s) :
    Keeps W s0 (State.loseRecords s n diag) := by
  unfold State.loseRecords
  repeat' (with_reducible
    first | assumption | exact su hw | apply State.setP_keeps | apply State.orP_keeps | exact inn hw | omega)

theorem State.ringJournal_keeps (s : State) (n : Word) (hw : Sub 0x4000000000000 W) (h : Keeps W s0 s) : Keeps W s0
    (s.ringJournal n) := by
  refine eps_keeps s _ hw ?_ h
  intro i
  have h1 := h.2.1.2.eps i
  simp only [Fin.getElem_fin, Vector.getElem_ofFn, EpOk]
  split
  · exact h1
  · exact h1

theorem State.addRecord_keeps (s : State) (typ : Nat) (unc : Bool) (body : List Byte) (hw : Sub 0x8004000004000000 W)
    (h : Keeps W s0 s) :
    Keeps W s0 (s.addRecord typ unc body) := by
  unfold State.addRecord
  extract_lets n r full s1
  have h1 : Keeps W s0 s1 := by
    refine ⟨h.1, ⟨h.2.1.1, { h.2.1.2 with ram := ?_ }⟩, { h.2.2 with jrn := sameIn hw }⟩
    have := h.2.1.2.ram
    simp only [s1, State.modJrn, full]
    split
    · simp; omega
    · rename_i hf; simp at hf ⊢; omega
  clear_value s1
  refine State.ringJournal_keeps _ _ (su hw) ?_
  split
  · exact State.loseRecords_keeps _ _ _ (su hw) h1
  · exact h1

theorem State.setNandBlock_keeps (s : State) (x : NandBlock) (hw : Sub 0x8000000000000000 W) (hk_s : Keeps W s0 s) :
    Keeps W s0 (State.setNandBlock s x) := by
  unfold State.setNandBlock
  repeat' (with_reducible
    first | assumption | exact su hw | intro _ | extract_lets | apply State.modJrn_keeps | exact jrnOkRefl (by assumption)
          | refine jrnOkMk ?_ rfl ?_ ?_ | exact sameRfl | exact sameIn hw)

theorem State.writeTable_keeps (s : State) (hw : Sub 0x8000000000000000 W) (hk_s : Keeps W s0 s) :
    Keeps W s0 (State.writeTable s) := by
  unfold State.writeTable
  repeat' (with_reducible
    first | assumption | exact su hw | intro _ | extract_lets | apply State.modJrn_keeps | exact jrnOkRefl (by assumption)
          | refine jrnOkMk ?_ rfl ?_ ?_ | exact sameRfl | exact sameIn hw)

theorem State.eraseBlock_keeps (s : State) (b : Nat) (hw : Sub 0x8000000000000000 W) (hk_s : Keeps W s0 s) :
    Keeps W s0 (State.eraseBlock s b) := by
  unfold State.eraseBlock
  repeat' (with_reducible
    first | assumption | exact su hw | intro _ | extract_lets | apply State.modJrn_keeps | apply State.setNandBlock_keeps
          | apply State.writeTable_keeps | apply keepsIte | exact jrnOkRefl (by assumption) | split
          | refine jrnOkMk ?_ rfl ?_ ?_ | dsimp +zetaDelta only | exact sameRfl | exact sameIn hw)

theorem State.takeBlock_keeps (s : State) (hw : Sub 0x8000000000000000 W) (hk_s : Keeps W s0 s) :
    Keeps W s0 (State.takeBlock s) := by
  unfold State.takeBlock
  repeat' (with_reducible
    first | assumption | exact su hw | intro _ | extract_lets | apply State.modJrn_keeps | apply State.eraseBlock_keeps
          | apply keepsIte | exact jrnOkRefl (by assumption) | split | refine jrnOkMk ?_ rfl ?_ ?_ | dsimp +zetaDelta only
          | exact sameRfl | exact sameIn hw)

theorem State.openPage_keeps (s : State) (hw : Sub 0x8000000000000000 W) (hk_s : Keeps W s0 s) :
    Keeps W s0 (State.openPage s) := by
  unfold State.openPage
  repeat' (with_reducible
    first | assumption | exact su hw | intro _ | extract_lets | apply State.takeBlock_keeps | apply keepsIte | split)

theorem State.programPage_keeps (s : State) (flags : Nat) (rs : List JRec)
    (place : NandPage → List NandPage → List NandPage) (hw : Sub 0x8000000000000000 W) (hk_s : Keeps W s0 s) :
    Keeps W s0 (State.programPage s flags rs place) := by
  unfold State.programPage
  repeat' (with_reducible
    first | assumption | exact su hw | intro _ | extract_lets | apply State.modJrn_keeps | apply State.openPage_keeps
          | apply keepsIte | exact jrnOkRefl (by assumption) | split | refine jrnOkMk ?_ rfl ?_ ?_ | dsimp +zetaDelta only
          | exact sameRfl | exact sameIn hw)

theorem jrnOkMap {j : Journal} {f : JRec → JRec} {incoming next pages blocks blockCount present mounted pageSeq openBlock scrubQueue
    patrolNext patrolAt opSeconds lastOp sinceTable} (h : j.ram.length ≤ 512) (a1 : Same W 62 j.incoming incoming)
    (a2 : Same W 63 (journalRest j) (journalRest (Journal.mk incoming (j.ram.map f) next pages blocks blockCount present
      mounted pageSeq openBlock scrubQueue patrolNext patrolAt opSeconds lastOp sinceTable))) :
    JrnOk W j (Journal.mk incoming (j.ram.map f) next pages blocks blockCount present mounted pageSeq openBlock scrubQueue
      patrolNext patrolAt opSeconds lastOp sinceTable) := ⟨by simpa using h, a1, a2⟩

theorem flushPage_keeps (s : State) (n flags : Nat) (hw : Sub 0x8000000000000000 W) (h : Keeps W s0 s) : Keeps W s0
    (flushPage s n flags) := by
  unfold flushPage
  extract_lets before s1
  have h1 : Keeps W s0 s1 := State.programPage_keeps _ _ _ _ (su hw) h
  clear_value s1
  split
  · exact h1
  · refine State.modJrn_keeps _ _ (fun j hj => ⟨?_, sameRfl, sameIn hw⟩) h1
    simp only [List.length_drop] at hj ⊢
    omega

theorem State.wornCheck_keeps (s : State) (hw : Sub 0x200004000000 W) (hk_s : Keeps W s0 s) :
    Keeps W s0 (State.wornCheck s) := by
  unfold State.wornCheck
  repeat' (with_reducible
    first | assumption | exact su hw | apply State.setP_keeps | apply State.raise_keeps | apply keepsIte | split
          | exact inn hw | omega)

theorem State.nandRecord_keeps (s : State) (b event corrected : Nat) (first : Word) (hw : Sub 0x4000000000000000 W)
    (hk_s : Keeps W s0 s) :
    Keeps W s0 (State.nandRecord s b event corrected first) := by
  unfold State.nandRecord
  repeat' (with_reducible first | assumption | exact su hw | apply State.journalAt_keeps)

theorem State.grownBad_keeps (s : State) (b : Nat) (first : Word) (hw : Sub 0xC000200004000000 W) (hk_s : Keeps W s0 s) :
    Keeps W s0 (State.grownBad s b first) := by
  unfold State.grownBad
  repeat' (with_reducible
    first | assumption | exact su hw | extract_lets | apply State.orP_keeps | apply State.raise_keeps
          | apply State.setNandBlock_keeps | apply State.writeTable_keeps | apply State.wornCheck_keeps
          | apply State.nandRecord_keeps | dsimp +zetaDelta only | exact inn hw | omega)

theorem State.copyPage_keeps (s : State) (p : NandPage) (hw : Sub 0x8000000000000000 W) (hk_s : Keeps W s0 s) :
    Keeps W s0 (State.copyPage s p) := by
  unfold State.copyPage
  repeat' (with_reducible first | assumption | exact su hw | intro _ | extract_lets | apply State.programPage_keeps)

theorem State.mountNumbers_keeps (s : State) (hw : Sub 0x8000000000000000 W) (hk_s : Keeps W s0 s) :
    Keeps W s0 (State.mountNumbers s) := by
  unfold State.mountNumbers
  repeat' (with_reducible
    first | assumption | exact su hw | intro _ | extract_lets | apply State.modJrn_keeps | exact jrnOkRefl (by assumption)
          | refine jrnOkMap ?_ ?_ ?_ | refine jrnOkMk ?_ rfl ?_ ?_ | dsimp +zetaDelta only | exact sameRfl | exact sameIn hw)

theorem State.countCodeword_keeps (s : State) (n : Nat) (hw : Sub 0x2000000000000000 W) (hk_s : Keeps W s0 s) :
    Keeps W s0 (State.countCodeword s n) := by
  unfold State.countCodeword
  repeat' (with_reducible
    first | assumption | exact su hw | intro _ | extract_lets | apply State.modMsp_keeps | apply keepsIte
          | exact mspOkRefl (by assumption) | split | refine mspOkMk ?_ rfl rfl ?_ | exact sameRfl | exact sameIn hw)

theorem State.losePage_keeps (s : State) (i : Nat) (p : NandPage) (hw : Sub 0xC000200004000000 W) (hk_s : Keeps W s0 s) :
    Keeps W s0 (State.losePage s i p) := by
  unfold State.losePage
  repeat' (with_reducible
    first | assumption | exact su hw | intro _ | extract_lets | apply State.raise_keeps | apply State.modJrn_keeps
          | apply State.loseRecords_keeps | apply State.nandRecord_keeps | exact jrnOkRefl (by assumption)
          | refine jrnOkMk ?_ rfl ?_ ?_ | dsimp +zetaDelta only | exact sameRfl | exact sameIn hw)

theorem State.patrolBlock_keeps (s : State) (b : Nat) (words : List (Option Nat)) (hw : Sub 0xE000200004000000 W)
    (hk_s : Keeps W s0 s) :
    Keeps W s0 (State.patrolBlock s b words) := by
  unfold State.patrolBlock
  repeat' (with_reducible
    first | assumption | exact su hw | intro _ | extract_lets | apply State.raise_keeps | apply State.modJrn_keeps
          | apply State.countCodeword_keeps | apply State.losePage_keeps | apply keepsIte | exact jrnOkRefl (by assumption)
          | apply keepsFold | split | refine jrnOkMk ?_ rfl ?_ ?_ | dsimp +zetaDelta only | exact sameRfl | exact sameIn hw)

theorem journalRead_keeps (s : State) (ep : Fin 8) (mode max : Nat) (start : Word) (hw : Sub 0x0 W) (hk_s : Keeps W s0 s) :
    KeepsR W s0 ((journalRead s ep mode max start).1) := by
  unfold journalRead
  repeat' (with_reducible
    first | assumption | exact su hw | intro _ | extract_lets | apply refuse_keeps | apply keepsIte | dsimp only | split
          | apply keepsR_mk)

/-! ### Journal -/

theorem execJournalRecord_keeps (s : State) (hw : Sub 0xC004000004000000 W) (hk_s : Keeps W s0 s) :
    KeepsO W s0 (execJournalRecord s) := by
  unfold execJournalRecord
  repeat' (with_reducible
    first | assumption | exact su hw | intro _ | extract_lets | apply State.modJrn_keeps | apply State.addRecord_keeps
          | apply keepsO_next | exact jrnOkRefl (by assumption) | split | refine jrnOkMk ?_ rfl ?_ ?_ | exact sameRfl
          | exact sameIn hw)

theorem execJournalFlush_keeps (s : State) (hw : Sub 0x8000200004000000 W) (hk_s : Keeps W s0 s) :
    KeepsO W s0 (execJournalFlush s) := by
  unfold execJournalFlush
  repeat' (with_reducible
    first | assumption | exact su hw | apply flushPage_keeps | apply State.wornCheck_keeps | apply keepsIte
          | apply keepsO_next)

theorem execNandOperationFail_keeps (block : Nat) (erase : Bool) (s : State) (hw : Sub 0xC000200004000000 W)
    (hk_s : Keeps W s0 s) :
    KeepsO W s0 (execNandOperationFail block erase s) := by
  unfold execNandOperationFail
  repeat' (with_reducible
    first | assumption | exact su hw | intro _ | extract_lets | apply State.modJrn_keeps | apply State.programPage_keeps
          | apply State.grownBad_keeps | apply keepsIte | apply keepsO_next | exact jrnOkRefl (by assumption) | split
          | refine jrnOkMk ?_ rfl ?_ ?_ | dsimp +zetaDelta only | exact sameRfl | exact sameIn hw)

theorem execScrub_keeps (block : Nat) (s : State) (hw : Sub 0xC000200004000000 W) (hk_s : Keeps W s0 s) :
    KeepsO W s0 (execScrub block s) := by
  unfold execScrub
  repeat' (with_reducible
    first | assumption | exact su hw | intro _ | extract_lets | apply State.inc_keeps | apply State.orP_keeps
          | apply State.modJrn_keeps | apply State.eraseBlock_keeps | apply State.wornCheck_keeps
          | apply State.nandRecord_keeps | apply State.copyPage_keeps | apply keepsIte | apply keepsO_next
          | exact jrnOkRefl (by assumption) | apply keepsFold | split | refine jrnOkMk ?_ rfl ?_ ?_ | dsimp +zetaDelta only
          | exact inn hw | omega | exact sameRfl | exact sameIn hw)

theorem execPatrolRead_keeps (words : List (Option Nat)) (s : State) (hw : Sub 0xE000200004000000 W) (hk_s : Keeps W s0 s) :
    KeepsO W s0 (execPatrolRead words s) := by
  unfold execPatrolRead
  repeat' (with_reducible
    first | assumption | exact su hw | intro _ | extract_lets | apply State.modJrn_keeps | apply State.patrolBlock_keeps
          | apply keepsIte | apply keepsO_next | exact jrnOkRefl (by assumption) | split | refine jrnOkMk ?_ rfl ?_ ?_
          | dsimp +zetaDelta only | exact sameRfl | exact sameIn hw)

theorem execJournalMount_keeps (s : State) (hw : Sub 0x2C000200004000000 W) (hk_s : Keeps W s0 s) :
    KeepsO W s0 (execJournalMount s) := by
  unfold execJournalMount
  repeat' (with_reducible
    first | assumption | exact su hw | intro _ | extract_lets | apply State.setBytes_keeps | apply State.setP_keeps
          | apply State.orP_keeps | apply State.draw_keeps | apply State.raise_keeps | apply State.journalAt_keeps
          | apply State.modJrn_keeps | apply State.wornCheck_keeps | apply State.mountNumbers_keeps | apply keepsIte
          | apply keepsO_next | exact jrnOkRefl (by assumption) | refine jrnOkMap ?_ ?_ ?_
          | refine keepsSnd (by assumption) ?_ | split | refine jrnOkMk ?_ rfl ?_ ?_ | dsimp +zetaDelta only | exact inn hw
          | omega | (simp; done) | (simp; omega) | exact sameRfl | exact sameIn hw)

theorem execJournalRead_keeps (q : Req) (mode max : Nat) (start : BitVec 32) (s : State) (hw : Sub 0x5BC200000E80000 W)
    (hk_s : Keeps W s0 s) :
    KeepsO W s0 (execJournalRead q mode max start s) := by
  unfold execJournalRead
  repeat' (with_reducible
    first | assumption | exact su hw | intro _ | extract_lets | apply State.finish_keeps | apply CmdRes.finish_keeps
          | apply CmdRes.startLong_keeps | apply journalRead_keeps | apply keepsIte | refine keepsFstR (by assumption) ?_
          | apply keepsO_next | split | dsimp +zetaDelta only | refine keeps_mbx rfl rfl ?_ ?_ ?_ | exact sameRfl
          | exact sameIn hw)

theorem execEpochSectorRecord_keeps (s : State) (hw : Sub 0x1000040000000000 W) (hk_s : Keeps W s0 s) :
    KeepsO W s0 (execEpochSectorRecord s) := by
  unfold execEpochSectorRecord
  repeat' (with_reducible first | assumption | exact su hw | apply State.recordEpoch_keeps | apply keepsO_next)

/-! ### CommitOps -/

theorem staged_keeps (s : State) (m : Store) (hw : Sub 0x20000000 W) (hm : cellsWf parReset m = true) (h : Keeps W s0 s) :
    Keeps W s0 { s with staged := m } :=
  ⟨h.1, ⟨{ h.2.1.1 with staged := hm }, h.2.1.2⟩, { h.2.2 with staged := sameIn hw }⟩

theorem stagedBase_wf {s : State} (h : Keeps W s0 s) : cellsWf parReset (stagedBase s) = true := by
  unfold stagedBase
  split
  · rename_i c hc; exact h.2.1.1.content _ (by rw [hc]; rfl)
  · exact cellsWf_filter (cellsWf_foldl h.2.1.1.dict)

theorem State.withContent_keeps (s : State) (content : Store) (hw : Sub 0xFFFFFFF W) (h : Keeps W s0 s) :
    Keeps W s0 (s.withContent content) :=
  dict_keeps s _ (allParams hw) (cellsWf_foldl (cellsWf_filter h.2.1.1.dict)) h

theorem State.setStagedState_keeps (s : State) (hashReady : Bool) (hw : Sub 0x2 W) (hk_s : Keeps W s0 s) :
    Keeps W s0 (State.setStagedState s hashReady) := by
  unfold State.setStagedState
  repeat' (with_reducible
    first | assumption | exact su hw | apply State.setP_keeps | apply keepsIte | split | exact inn hw | omega)

theorem State.stageBytes_keeps (s : State) (cls inst attr off : Nat) (l : List Byte) (hw : Sub 0x20000002 W)
    (h : Keeps W s0 s) :
    Keeps W s0 (s.stageBytes cls inst attr off l) :=
  State.setStagedState_keeps _ _ (su hw) (staged_keeps s _ (su hw) (cellsWf_writeL h.2.1.1.staged) h)

theorem refuseCommit_keeps (s : State) (code : BitVec 16) (index : Nat) (hw : Sub 0x2 W) (hk_s : Keeps W s0 s) :
    KeepsR W s0 (refuseCommit s code index) := by
  unfold refuseCommit
  repeat' (with_reducible
    first | assumption | exact su hw | apply State.setBytes_keeps | apply State.orP_keeps | apply keepsR_mk | exact inn hw
          | omega | (simp; done))

theorem State.acceptCommit_keeps (s : State) (ep : Fin 8) (t : CellTime) (hw : Sub 0x40040A00000002 W) (h : Keeps W s0 s) :
    Keeps W s0 (s.acceptCommit ep t) := by
  unfold State.acceptCommit
  extract_lets n c s1 cv s2
  have h0 : Keeps W s0 { s with commit := some c } :=
    ⟨h.1, ⟨{ h.2.1.1 with content := fun x hx => by cases hx; exact h.2.1.1.staged }, h.2.1.2⟩,
      { h.2.2 with commit := sameIn hw }⟩
  have h1 : Keeps W s0 s1 := by
    refine State.setP_keeps _ _ _ _ _ _ (inn hw) (by omega) (by omega) (by omega) ?_
    repeat' (with_reducible first | assumption | exact su hw | intro _ | extract_lets | apply State.setPCt_keeps | apply State.setP_keeps | apply State.setStagedState_keeps | exact inn hw | omega)
  clear_value s1
  have h2 : Keeps W s0 s2 := by
    with_reducible apply keepsIte
    · exact h1
    · exact keeps_canopy rfl rfl (su hw) h1
  clear_value s2
  refine keepsFold (fun x b hx => ?_) h2
  split
  · exact State.modLink_keeps _ _ _ (su hw) hx
  · exact State.sendShare_keeps _ _ _ _ (su hw) hx

theorem commitConfig_keeps (s : State) (ep : Fin 8) (apply : CellTime) (hash : BitVec 64) (hw : Sub 0x40040A00000002 W)
    (hk_s : Keeps W s0 s) :
    KeepsR W s0 (commitConfig s ep apply hash) := by
  unfold commitConfig
  repeat' (with_reducible
    first | assumption | exact su hw | extract_lets | apply refuseCommit_keeps | apply State.acceptCommit_keeps
          | apply keepsIte | split | apply keepsR_mk)

theorem discardConfig_keeps (s : State) (ep : Fin 8) (hw : Sub 0x20000002 W) (h : Keeps W s0 s) :
    KeepsR W s0 (discardConfig s ep) := by
  unfold discardConfig
  extract_lets n
  have h1 : Keeps W s0 { s with staged := stagedBase s } := staged_keeps s _ (su hw) (stagedBase_wf h) h
  split
  · exact refuse_keeps _ _ (su hw) h
  · refine okRes_keeps _ (su hw) ?_
    repeat' (with_reducible first | assumption | exact su hw | intro _ | extract_lets | apply State.orP_keeps | apply State.setP_keeps | apply State.setStagedState_keeps | exact inn hw | omega)

theorem State.startPersist_keeps (s : State) (hw : Sub 0x10000200000000002 W) (hk_s : Keeps W s0 s) :
    Keeps W s0 (State.startPersist s) := by
  unfold State.startPersist
  repeat' (with_reducible
    first | assumption | exact su hw | intro _ | extract_lets | apply State.setP_keeps | apply State.raise_keeps
          | apply keepsIte | split | dsimp +zetaDelta only | refine keeps_sup ?_ ?_ | exact inn hw | omega)

theorem State.persistNow_keeps (s : State) (hw : Sub 0x10000200000000002 W) (hk_s : Keeps W s0 s) :
    Keeps W s0 (State.persistNow s) := by
  unfold State.persistNow
  repeat' (with_reducible
    first | assumption | exact su hw | extract_lets | apply State.startPersist_keeps | apply keepsIte | split
          | refine keeps_sup ?_ ?_)

theorem State.startCalWrite_keeps (s : State) (hw : Sub 0x10000000000000000 W) (hk_s : Keeps W s0 s) :
    Keeps W s0 (State.startCalWrite s) := by
  unfold State.startCalWrite
  repeat' (with_reducible first | assumption | exact su hw | extract_lets | dsimp +zetaDelta only | refine keeps_sup ?_ ?_)

theorem State.calNow_keeps (s : State) (hw : Sub 0x10000000000000000 W) (hk_s : Keeps W s0 s) :
    Keeps W s0 (State.calNow s) := by
  unfold State.calNow
  repeat' (with_reducible
    first | assumption | exact su hw | extract_lets | apply State.startCalWrite_keeps | apply keepsIte | split
          | refine keeps_sup ?_ ?_)

/-! ### Commit -/

theorem execCommitConfig_keeps (q : Req) (apply : CellTime) (hash : BitVec 64) (s : State) (hw : Sub 0x5FC240A00E80002 W)
    (hk_s : Keeps W s0 s) :
    KeepsO W s0 (execCommitConfig q apply hash s) := by
  unfold execCommitConfig
  repeat' (with_reducible
    first | assumption | exact su hw | apply State.finish_keeps | apply CmdRes.finish_keeps | apply commitConfig_keeps
          | apply keepsO_next)

theorem execDiscardConfig_keeps (q : Req) (s : State) (hw : Sub 0x5BC200020E80002 W) (hk_s : Keeps W s0 s) :
    KeepsO W s0 (execDiscardConfig q s) := by
  unfold execDiscardConfig
  repeat' (with_reducible
    first | assumption | exact su hw | apply State.finish_keeps | apply CmdRes.finish_keeps | apply discardConfig_keeps
          | apply keepsO_next)

theorem execStagedHashReady_keeps (s : State) (hw : Sub 0x2 W) (hk_s : Keeps W s0 s) :
    KeepsO W s0 (execStagedHashReady s) := by
  unfold execStagedHashReady
  repeat' (with_reducible
    first | assumption | exact su hw | apply State.setP_keeps | apply State.setStagedState_keeps | apply keepsO_next
          | exact inn hw | omega)

/-- No commit waits any more. -/
theorem commitNone_keeps (s : State) (l : List Commit) (hw : Sub 0x40000000000000 W) (h : Keeps W s0 s) :
    Keeps W s0 { s with commit := none, journalCommits := l } :=
  ⟨h.1, ⟨{ h.2.1.1 with content := fun _ hc => by cases hc }, h.2.1.2⟩, { h.2.2 with commit := sameIn hw }⟩

theorem State.commitTime_keeps (s old : State) (at_ : CellTime) (hw : Sub 0x440404008FFFFFFF W)
    (h : Keeps W s0 s) : Keeps W s0 (s.commitTime old at_) := by
  unfold State.commitTime
  extract_lets later cells back waits src s1
  have h1 : Keeps W s0 s1 := by
    have hd := dict_keeps s back (allParams hw) (cellsWf_foldl h.2.1.1.dict) h
    exact ⟨hd.1, hd.2.1, { hd.2.2 with tb := sameIn hw }⟩
  clear_value s1
  split
  · exact State.setTime_keeps _ _ (su hw) h1
  · exact h1

theorem State.commitU_keeps (s old : State) (u : Fin 16) (hw : Sub 0x80000000240 W) (hk_s : Keeps W s0 s)
    (hk_old : Keeps W s0 old) :
    Keeps W s0 (State.commitU s old u) := by
  unfold State.commitU
  repeat' (with_reducible
    first | assumption | exact su hw | intro _ | extract_lets | apply State.setP_keeps | apply State.setPI_keeps
          | apply keepsIte | split | dsimp +zetaDelta only | refine keeps_glade rfl rfl ?_ ?_ | exact inn hw | omega)

theorem State.commitScale_keeps (s old : State) (apply : CellTime) (u : Fin 16) (hw : Sub 0x40000000000000000 W)
    (hk_s : Keeps W s0 s) (hk_old : Keeps W s0 old) :
    Keeps W s0 (State.commitScale s old apply u) := by
  unfold State.commitScale
  repeat' (with_reducible first | assumption | exact su hw | extract_lets | apply keepsIte | split | refine keeps_scales ?_ ?_)

theorem State.emptyGroup_keeps (s : State) (g : Fin 4) (hw : Sub 0x210000000800 W) (hk_s : Keeps W s0 s) :
    Keeps W s0 (State.emptyGroup s g) := by
  unfold State.emptyGroup
  repeat' (with_reducible
    first | assumption | exact su hw | intro _ | extract_lets | apply State.setP_keeps | apply State.endFault_keeps
          | apply State.modSide_keeps | apply keepsFold | dsimp +zetaDelta only | exact inn hw | omega)

theorem State.joinBank_keeps (s : State) (g b : Fin 4) (hw : Sub 0x200000000 W) (hk_s : Keeps W s0 s) :
    Keeps W s0 (State.joinBank s g b) := by
  unfold State.joinBank
  repeat' (with_reducible
    first | assumption | exact su hw | extract_lets | apply State.sendDown_keeps | apply State.latch_keeps | apply keepsIte)

theorem State.regroupSafe_keeps (s old : State) (g : Fin 4) (hw : Sub 0x200000000 W) (hk_s : Keeps W s0 s)
    (hk_old : Keeps W s0 old) :
    Keeps W s0 (State.regroupSafe s old g) := by
  unfold State.regroupSafe
  repeat' (with_reducible
    first | assumption | exact su hw | intro _ | extract_lets | apply State.sendSafe_keeps | apply keepsIte | apply keepsFold)

theorem State.regroupSide_keeps (s old : State) (g : Fin 4) (hw : Sub 0x290200000C00 W) (hk_s : Keeps W s0 s)
    (hk_old : Keeps W s0 old) :
    Keeps W s0 (State.regroupSide s old g) := by
  unfold State.regroupSide
  repeat' (with_reducible
    first | assumption | exact su hw | intro _ | extract_lets | apply State.setBytes_keeps | apply State.setP_keeps
          | apply State.gFlag_keeps | apply State.modSide_keeps | apply State.emptyGroup_keeps | apply State.joinBank_keeps
          | apply State.regroupSafe_keeps | apply keepsIte | apply keepsFold | split | dsimp +zetaDelta only
          | refine keeps_glade rfl rfl ?_ ?_ | exact inn hw | omega | (simp; done))

theorem State.commitG_keeps (s old : State) (g : Fin 4) (hw : Sub 0x290200000C00 W) (hk_s : Keeps W s0 s)
    (hk_old : Keeps W s0 old) :
    Keeps W s0 (State.commitG s old g) := by
  unfold State.commitG
  repeat' (with_reducible
    first | assumption | exact su hw | apply State.memberMasks_keeps | apply State.regroupSide_keeps | apply keepsIte)

theorem State.commitCanopy_keeps (s old : State) (hw : Sub 0x2C000000C000 W) (hk_s : Keeps W s0 s) (hk_old : Keeps W s0 old) :
    Keeps W s0 (State.commitCanopy s old) := by
  unfold State.commitCanopy
  repeat' (with_reducible
    first | assumption | exact su hw | intro _ | extract_lets | apply State.setP_keeps | apply State.subCounts_keeps
          | apply State.createSub_keeps | apply State.removeSub_keeps | apply State.releaseAllPoints_keeps
          | apply State.checkLayout_keeps | apply keepsIte | apply keepsFold | split | dsimp +zetaDelta only
          | refine keeps_canopy rfl rfl ?_ ?_ | exact inn hw | omega)

theorem State.commitLive_keeps (s old : State) (hw : Sub 0x600000000000 W) (hk_s : Keeps W s0 s) (hk_old : Keeps W s0 old) :
    Keeps W s0 (State.commitLive s old) := by
  unfold State.commitLive
  repeat' (with_reducible
    first | assumption | exact su hw | intro _ | extract_lets | apply State.endFault_keeps | apply State.modFb_keeps
          | apply keepsIte | exact fbOkRefl (by assumption) | split | refine fbOkMk ?_ rfl ?_ ?_ | dsimp +zetaDelta only
          | exact sameRfl | exact sameIn hw)

theorem State.commitPort_keeps (s old : State) (apply : CellTime) (p : Fin 3) (hw : Sub 0x24D84240080E00000 W)
    (hk_s : Keeps W s0 s) (hk_old : Keeps W s0 old) :
    Keeps W s0 (State.commitPort s old apply p) := by
  unfold State.commitPort
  repeat' (with_reducible
    first | assumption | exact su hw | intro _ | extract_lets | apply State.endFault_keeps | apply State.modPort_keeps
          | apply State.linkDown_keeps | apply keepsIte)

theorem State.commitSwitch_keeps (s old : State) (hw : Sub 0x20D80200000E00000 W) (hk_s : Keeps W s0 s)
    (hk_old : Keeps W s0 old) :
    Keeps W s0 (State.commitSwitch s old) := by
  unfold State.commitSwitch
  repeat' (with_reducible
    first | assumption | exact su hw | intro _ | extract_lets | apply State.setP_keeps | apply State.inc_keeps
          | apply State.sendRing_keeps | apply keepsIte | split | dsimp +zetaDelta only | refine keeps_ports_sw_red ?_ ?_
          | refine keeps_sw ?_ ?_ | exact inn hw | omega)

theorem State.commitPair_keeps (s old : State) (m : Fin 7) (hw : Sub 0xDBC200001E80000 W) (hk_s : Keeps W s0 s)
    (hk_old : Keeps W s0 old) :
    Keeps W s0 (State.commitPair s old m) := by
  unfold State.commitPair
  repeat' (with_reducible
    first | assumption | exact su hw | intro _ | extract_lets | apply State.setPAt_keeps | apply State.modPair_keeps
          | apply State.leaveHeld_keeps | apply keepsIte | split | dsimp +zetaDelta only | exact inn hw | omega)

theorem State.commitGcl_keeps (s old : State) (hw : Sub 0xC00200001800000 W) (hk_s : Keeps W s0 s) (hk_old : Keeps W s0 old) :
    Keeps W s0 (State.commitGcl s old) := by
  unfold State.commitGcl
  repeat' (with_reducible
    first | assumption | exact su hw | extract_lets | apply State.setP_keeps | apply State.helloSoon_keeps
          | apply State.rangerCheck_keeps | apply State.setGclState_keeps | apply keepsIte | split | dsimp +zetaDelta only
          | exact inn hw | omega)

theorem State.commitSwaps_keeps (s old : State) (hw : Sub 0x800000000000000 W) (hk_s : Keeps W s0 s) (hk_old : Keeps W s0 old) :
    Keeps W s0 (State.commitSwaps s old) := by
  unfold State.commitSwaps
  repeat' (with_reducible
    first | assumption | exact su hw | intro _ | extract_lets | apply keepsIte | split | dsimp +zetaDelta only
          | refine keeps_red ?_ ?_)

theorem State.commitEffects_keeps (s old : State) (apply : CellTime) (hw : Sub 0x74DBC6D0A8FFFFFFF W)
    (hk_s : Keeps W s0 s) (hk_old : Keeps W s0 old) :
    Keeps W s0 (State.commitEffects s old apply) := by
  unfold State.commitEffects
  repeat' (with_reducible
    first | assumption | exact su hw | intro _ | extract_lets | apply State.followSafe_keeps | apply State.persistNow_keeps
          | apply State.calNow_keeps | apply State.commitTime_keeps | apply State.commitU_keeps
          | apply State.commitScale_keeps | apply State.commitG_keeps | apply State.commitCanopy_keeps
          | apply State.commitLive_keeps | apply State.commitPort_keeps | apply State.commitSwitch_keeps
          | apply State.commitPair_keeps | apply State.commitGcl_keeps | apply State.commitSwaps_keeps | apply keepsIte
          | apply keepsFold)

theorem State.commitBy_keeps (s : State) (at_ : CellTime) (hw : Sub 0x75DFC6D0A8FFFFFFF W) (hk_s : Keeps W s0 s) :
    Keeps W s0 (State.commitBy s at_) := by
  unfold State.commitBy
  repeat' (with_reducible
    first | assumption | exact su hw | extract_lets | apply State.setBytes_any | apply State.setP_any
          | apply State.setPCt_keeps | apply State.inc_any | apply State.orP_keeps | apply State.ringAll_keeps
          | apply State.recordEpochs_keeps | apply State.withContent_keeps | apply State.commitEffects_keeps | apply keepsIte
          | apply commitNone_keeps | split | dsimp +zetaDelta only | refine keeps_commit_journalCommits ?_ ?_
          | exact allParams hw | exact inn hw | omega)

theorem execCommitApply_keeps (s : State) (hw : Sub 0x75DFC6D0A8FFFFFFF W) (hk_s : Keeps W s0 s) :
    KeepsO W s0 (execCommitApply s) := by
  unfold execCommitApply
  repeat' (with_reducible first | assumption | exact su hw | apply State.commitBy_keeps | apply keepsO_next)

theorem State.mainStart_keeps (s : State) (at_ : CellTime) (hw : Sub 0x75DFC6D0A8FFFFFFF W) (hk_s : Keeps W s0 s) :
    Keeps W s0 (State.mainStart s at_) := by
  unfold State.mainStart
  repeat' (with_reducible
    first | assumption | exact su hw | extract_lets | apply State.swapDue_keeps | apply State.fastDue_keeps
          | apply State.commitBy_keeps | apply keepsIte)

theorem execMainPass_keeps (overran : Bool) (s : State) (hw : Sub 0x75DFC6D0A8FFFFFFF W) (hk_s : Keeps W s0 s) :
    KeepsO W s0 (execMainPass overran s) := by
  unfold execMainPass
  repeat' (with_reducible
    first | assumption | exact su hw | intro _ | extract_lets | apply State.inc_any | apply State.orP_keeps
          | apply State.raise_keeps | apply State.modGlade_keeps | apply State.pass_keeps | apply State.passTime_keeps
          | apply State.mainStart_keeps | apply keepsIte | apply keepsO_next | exact gladeOkRefl (by assumption) | split
          | refine gladeOkMk ?_ rfl rfl ?_ | dsimp +zetaDelta only | exact allParams hw | exact inn hw | omega | exact sameRfl
          | exact sameIn hw)

theorem execRuleSwapExecute_keeps (s : State) (hw : Sub 0x75DFC6D0A8FFFFFFF W) (hk_s : Keeps W s0 s) :
    KeepsO W s0 (execRuleSwapExecute s) := by
  unfold execRuleSwapExecute
  repeat' (with_reducible
    first | assumption | exact su hw | extract_lets | apply State.mainStart_keeps | apply keepsIte | apply keepsO_next)

theorem execCommitJournal_keeps (s : State) (hw : Sub 0x4040000000000000 W) (hk_s : Keeps W s0 s) :
    KeepsO W s0 (execCommitJournal s) := by
  unfold execCommitJournal
  repeat' (with_reducible
    first | assumption | exact su hw | extract_lets | apply State.journal_keeps | apply keepsIte | apply keepsO_next | split
          | dsimp +zetaDelta only | refine keeps_journalCommits ?_ ?_)

theorem execPersistDone_keeps (ok : Bool) (s : State) (hw : Sub 0x33000200002000002 W) (hk_s : Keeps W s0 s) :
    KeepsO W s0 (execPersistDone ok s) := by
  unfold execPersistDone
  repeat' (with_reducible
    first | assumption | exact su hw | extract_lets | apply State.setP_keeps | apply State.orP_keeps
          | apply State.writeNor_keeps | apply State.eraseNor_keeps | apply State.writeHeader_keeps
          | apply State.failRange_keeps | apply State.norFailed_keeps | apply State.startPersist_keeps | apply keepsIte
          | apply keepsO_next | split | dsimp +zetaDelta only | refine keeps_sup ?_ ?_ | exact inn hw | omega)

/-! ### Cal -/

theorem rotateNow_keeps (s : State) (u : Fin 16) (hw : Sub 0x200000000 W) (hk_s : Keeps W s0 s) :
    KeepsR W s0 (rotateNow s u) := by
  unfold rotateNow
  repeat' (with_reducible
    first | assumption | exact su hw | apply State.sendDown_keeps | apply refuse_keeps | apply okRes_keeps | apply keepsIte)

theorem execRotateNow_keeps (q : Req) (u : Fin 16) (s : State) (hw : Sub 0x5BC200200E80000 W) (hk_s : Keeps W s0 s) :
    KeepsO W s0 (execRotateNow q u s) := by
  unfold execRotateNow
  repeat' (with_reducible
    first | assumption | exact su hw | apply State.finish_keeps | apply CmdRes.finish_keeps | apply guardWrite_keeps
          | apply rotateNow_keeps | apply keepsO_next)

theorem trimPoint_keeps (s : State) (u : Fin 16) (second : Bool) (measured : Int) (hw : Sub 0x1000000000 W)
    (hk_s : Keeps W s0 s) :
    KeepsR W s0 (trimPoint s u second measured) := by
  unfold trimPoint
  repeat' (with_reducible
    first | assumption | exact su hw | intro _ | extract_lets | apply State.modU_keeps | apply refuse_keeps | apply keepsIte
          | split | apply keepsR_mk)

theorem execTrimPoint_keeps (q : Req) (u : Fin 16) (second : Bool) (measured : BitVec 32) (s : State)
    (hw : Sub 0x5BC201000E80000 W) (hk_s : Keeps W s0 s) :
    KeepsO W s0 (execTrimPoint q u second measured s) := by
  unfold execTrimPoint
  repeat' (with_reducible
    first | assumption | exact su hw | apply State.finish_keeps | apply CmdRes.finish_keeps | apply guardWrite_keeps
          | apply trimPoint_keeps | apply keepsO_next)

theorem trimApply_keeps (s : State) (u : Fin 16) (hw : Sub 0x20000002 W) (hk_s : Keeps W s0 s) :
    KeepsR W s0 (trimApply s u) := by
  unfold trimApply
  repeat' (with_reducible
    first | assumption | exact su hw | intro _ | extract_lets | apply refuse_keeps | apply State.stageBytes_keeps
          | apply keepsIte | split | apply keepsR_mk)

theorem execTrimApply_keeps (q : Req) (u : Fin 16) (s : State) (hw : Sub 0x5BC200020E80002 W) (hk_s : Keeps W s0 s) :
    KeepsO W s0 (execTrimApply q u s) := by
  unfold execTrimApply
  repeat' (with_reducible
    first | assumption | exact su hw | apply State.finish_keeps | apply CmdRes.finish_keeps | apply guardWrite_keeps
          | apply trimApply_keeps | apply keepsO_next)

theorem execCalRecordWriteDone_keeps (ok : Bool) (s : State) (hw : Sub 0x31000200008000000 W) (hk_s : Keeps W s0 s) :
    KeepsO W s0 (execCalRecordWriteDone ok s) := by
  unfold execCalRecordWriteDone
  repeat' (with_reducible
    first | assumption | exact su hw | intro _ | extract_lets | apply State.setP_keeps | apply State.raise_keeps
          | apply State.writeNor_keeps | apply State.eraseNor_keeps | apply State.failRange_keeps
          | apply State.startCalWrite_keeps | apply keepsIte | apply keepsO_next | split | dsimp +zetaDelta only
          | refine keeps_sup ?_ ?_ | exact inn hw | omega)

/-! ### FwOps -/

theorem State.dropSession_keeps (s : State) (hw : Sub 0x13000000000000000 W) (hk_s : Keeps W s0 s) :
    Keeps W s0 (State.dropSession s) := by
  unfold State.dropSession
  repeat' (with_reducible
    first | assumption | exact su hw | intro _ | extract_lets | apply State.eraseNor_keeps | apply keepsIte | split
          | refine keeps_msp_sup rfl rfl ?_ ?_)

theorem fwBegin_keeps (s : State) (ep : Fin 8) (len : Nat) (hw : Sub 0x13000000000000000 W) (hk_s : Keeps W s0 s) :
    KeepsR W s0 (fwBegin s ep len) := by
  unfold fwBegin
  repeat' (with_reducible
    first | assumption | exact su hw | extract_lets | apply refuse_keeps | apply State.eraseNor_keeps
          | apply State.eraseNextBlock_keeps | apply keepsIte | split | apply keepsR_mk | dsimp +zetaDelta only
          | refine keeps_sup ?_ ?_)

theorem fwData_keeps (s : State) (ep : Fin 8) (off : Nat) (data : List Byte) (hw : Sub 0x11000000000000000 W)
    (hk_s : Keeps W s0 s) :
    KeepsR W s0 ((fwData s ep off data).1) := by
  unfold fwData
  repeat' (with_reducible
    first | assumption | exact su hw | extract_lets | apply refuse_keeps | apply okRes_keeps | apply State.writeNor_keeps
          | apply keepsIte | dsimp only | split | apply keepsR_mk | dsimp +zetaDelta only | refine keeps_sup ?_ ?_)

theorem State.fwRecord_keeps (s : State) (slot : Bool) (code : BitVec 16) (hw : Sub 0x4000000000000000 W)
    (hk_s : Keeps W s0 s) :
    Keeps W s0 (State.fwRecord s slot code) := by
  unfold State.fwRecord
  repeat' (with_reducible first | assumption | exact su hw | apply State.journalAt_keeps)

theorem fwClose_keeps (s : State) (f : FwSession) (code : BitVec 16) (payload : List Byte)
    (hw : Sub 0x14000000000000000 W) (hk_s : Keeps W s0 s) :
    KeepsR W s0 (fwClose s f code payload) := by
  unfold fwClose
  repeat' (with_reducible
    first | assumption | exact su hw | extract_lets | apply State.fwRecord_keeps | apply keepsR_mk | dsimp +zetaDelta only
          | refine keeps_sup ?_ ?_)

theorem fwVerify_keeps (s : State) (ep : Fin 8) (sigOk : Bool) (hw : Sub 0x14000000000000000 W) (h : Keeps W s0 s) :
    ∀ r, fwVerify s ep sigOk = .inl r → KeepsR W s0 r := by
  intro r e
  unfold fwVerify at e
  split at e
  · cases e; exact refuse_keeps _ _ (su hw) h
  · split at e
    · cases e; exact fwClose_keeps _ _ _ _ (su hw) h
    · split at e
      · cases e; exact fwClose_keeps _ _ _ _ (su hw) h
      · cases e

theorem fwPrefer_keeps (s : State) (f : FwSession) (norOk : Bool) (hw : Sub 0x17000200002000000 W) (hk_s : Keeps W s0 s) :
    KeepsR W s0 (fwPrefer s f norOk) := by
  unfold fwPrefer
  repeat' (with_reducible
    first | assumption | exact su hw | extract_lets | apply State.writeHeader_keeps | apply State.norFailed_keeps
          | apply fwClose_keeps | apply keepsIte)

theorem fwEnd_keeps (s : State) (ep : Fin 8) (sigOk norOk : Bool) (hw : Sub 0x17000200002000000 W) (hk_s : Keeps W s0 s) :
    KeepsR W s0 (fwEnd s ep sigOk norOk) := by
  unfold fwEnd
  repeat' (with_reducible
    first | assumption | exact su hw | extract_lets | refine fwVerify_keeps _ _ _ (su hw) ?_ _ (by assumption)
          | apply fwPrefer_keeps | split)

end Sys2Proof.Machine
end

