-- ==== Sys2Proof/Laws/KeepsHost.lean ====
section
/-! SUPPORT. The queue and the invariant are kept, and every part outside a set of parts: the mailboxes, the registers, the host serial link, the start, the supplies and the commands. One lemma per operation and per meaning. -/

namespace Sys2Proof.Machine

set_option Elab.async false

variable {W : Nat} {s0 : State}

/-! ### MailOps -/

theorem State.clearDb_keeps (s : State) (e : Fin 8) (mask : Word) (hw : Sub 0x404000000000000 W) (hk_s : Keeps W s0 s) :
    Keeps W s0 (State.clearDb s e mask) := by
  unfold State.clearDb
  repeat' (with_reducible
    first | assumption | exact su hw | intro _ | extract_lets | apply State.modEp_keeps | apply keepsIte | split
          | refine epOkMk ?_ rfl | dsimp +zetaDelta only | refine keeps_gcl rfl ?_ ?_)

theorem State.cmdEmpty_keeps (s : State) (hw : Sub 0x4000000000000 W) (hk_s : Keeps W s0 s) :
    Keeps W s0 (State.cmdEmpty s) := by
  unfold State.cmdEmpty
  repeat' (with_reducible
    first | assumption | exact su hw | intro _ | extract_lets | apply State.modEp_keeps | apply State.ringEp_keeps
          | apply keepsIte | split | refine epOkMk ?_ rfl)

theorem State.acceptHeld_keeps (s : State) (hw : Sub 0x5BC200000E80000 W) (hk_s : Keeps W s0 s) :
    Keeps W s0 (State.acceptHeld s) := by
  unfold State.acceptHeld
  repeat' (with_reducible
    first | assumption | exact su hw | intro _ | extract_lets | apply State.modEp_keeps | apply State.refusePosting_keeps
          | apply State.accept_keeps | apply State.cmdEmpty_keeps | apply keepsIte | split | refine epOkMk ?_ rfl)

theorem postWord_keeps (s : State) (w : Word) (hw : Sub 0x5BC200000E80000 W) (hk_s : Keeps W s0 s) :
    Keeps W s0 ((postWord s w).2) := by
  unfold postWord
  repeat' (with_reducible
    first | assumption | exact su hw | intro _ | extract_lets | apply State.modEp_keeps | apply State.refusePosting_keeps
          | apply State.accept_keeps | apply State.acceptHeld_keeps | apply keepsIte | dsimp only | split
          | refine epOkMk ?_ rfl)

theorem State.ackPop_keeps (s : State) (tag : Nat) (hw : Sub 0x5BC200000E80000 W) (hk_s : Keeps W s0 s) :
    Keeps W s0 (State.ackPop s tag) := by
  unfold State.ackPop
  repeat' (with_reducible
    first | assumption | exact su hw | intro _ | extract_lets | apply State.orP_keeps | apply State.modEp_keeps
          | apply State.acceptHeld_keeps | apply keepsIte | split | refine epOkMk ?_ rfl | exact inn hw | omega)

theorem State.releaseBuf_keeps (s : State) (buf : Nat) (hw : Sub 0x10000000080000 W) (hk_s : Keeps W s0 s) :
    Keeps W s0 (State.releaseBuf s buf) := by
  unfold State.releaseBuf
  repeat' (with_reducible
    first | assumption | exact su hw | apply State.orP_keeps | apply State.setBuf_keeps | apply keepsIte | split
          | exact inn hw | omega)

theorem State.clearUserIn_keeps (s : State) (e : Fin 8) (mask : Word) (hw : Sub 0x4040000000000 W) (hk_s : Keeps W s0 s) :
    Keeps W s0 (State.clearUserIn s e mask) := by
  unfold State.clearUserIn
  repeat' (with_reducible
    first | assumption | exact su hw | intro _ | extract_lets | apply State.modEp_keeps | apply State.userPoints_keeps
          | refine epOkMk ?_ rfl)

theorem State.abortLong_keeps (s : State) (op : Nat) (hw : Sub 0x13000080000000000 W) (hk_s : Keeps W s0 s) :
    Keeps W s0 (State.abortLong s op) := by
  unfold State.abortLong
  repeat' (with_reducible
    first | assumption | exact su hw | intro _ | extract_lets | apply State.eraseNor_keeps | apply State.modGlade_keeps
          | apply State.dropSession_keeps | apply keepsIte | exact gladeOkRefl (by assumption) | split
          | refine gladeOkMk ?_ rfl rfl ?_ | exact sameRfl | exact sameIn hw)

theorem State.abortTag_keeps (s : State) (ep : Fin 8) (tag : Nat) (hw : Sub 0x135BC280000E80000 W) (hk_s : Keeps W s0 s) :
    Keeps W s0 ((State.abortTag s ep tag).1) := by
  unfold State.abortTag
  repeat' (with_reducible
    first | assumption | exact su hw | intro _ | extract_lets | apply State.finish_keeps | apply CmdRes.finish_keeps
          | apply State.abortLong_keeps | apply keepsIte | dsimp only | split | dsimp +zetaDelta only
          | refine keeps_mbx rfl rfl ?_ ?_ ?_ | exact sameRfl | exact sameIn hw)

theorem State.abortTags_keeps (s : State) (ep : Fin 8) (tags : List Nat) (hw : Sub 0x135BC280000E80000 W) (h : Keeps W s0 s) :
    Keeps W s0 (s.abortTags ep tags).1 := by
  unfold State.abortTags
  suffices hh : ∀ (l : List Nat) (x : State × Nat), Keeps W s0 x.1 → Keeps W s0 (l.foldl (fun (x : State × Nat) t =>
      let r := x.1.abortTag ep t
      (r.1, if r.2 then x.2 + 1 else x.2)) x).1 from hh tags (s, 0) h
  intro l
  induction l with
  | nil => exact fun _ hx => hx
  | cons a l ih => exact fun x hx => ih _ (State.abortTag_keeps x.1 ep a (su hw) hx)

theorem abortCmd_keeps (s : State) (q : Req) (tag : Nat) (hw : Sub 0x135BC280000E80000 W) (hk_s : Keeps W s0 s) :
    KeepsR W s0 (abortCmd s q tag) := by
  unfold abortCmd
  repeat' (with_reducible
    first | assumption | exact su hw | intro _ | extract_lets | apply refuse_keeps | apply State.abortTags_keeps
          | apply keepsIte | refine keepsFst (by assumption) ?_ | split | apply keepsR_mk)

theorem State.ringAbort_keeps (s : State) (hw : Sub 0x135BC280000E80000 W) (hk_s : Keeps W s0 s) :
    Keeps W s0 (State.ringAbort s) := by
  unfold State.ringAbort
  repeat' (with_reducible
    first | assumption | exact su hw | intro _ | extract_lets | apply State.modEp_keeps | apply State.cmdEmpty_keeps
          | apply State.abortTags_keeps | apply keepsIte | refine keepsFst (by assumption) ?_ | split | refine epOkMk ?_ rfl)

theorem State.ringH2d_keeps (s : State) (e : Fin 8) (ring : Word) (hw : Sub 0x135BC2C0000E80000 W) (hk_s : Keeps W s0 s) :
    Keeps W s0 (State.ringH2d s e ring) := by
  unfold State.ringH2d
  repeat' (with_reducible
    first | assumption | exact su hw | intro _ | extract_lets | apply State.modEp_keeps | apply State.userPoints_keeps
          | apply State.ringAbort_keeps | apply keepsIte | split | refine epOkMk ?_ rfl)

theorem negotiate_keeps (s : State) (q : Req) (major minor : Nat) (hw : Sub 0x0 W) (hk_s : Keeps W s0 s) :
    KeepsR W s0 ((negotiate s q major minor).1) := by
  unfold negotiate
  repeat' (with_reducible
    first | assumption | exact su hw | intro _ | extract_lets | apply refuse_keeps | apply CmdRes.answer_keeps
          | apply keepsIte | dsimp only | split | apply keepsR_mk)

theorem State.negotiated_keeps (s : State) (q : Req) (major minor : Nat) (hw : Sub 0x5BC200000E80000 W) (hk_s : Keeps W s0 s) :
    Keeps W s0 (State.negotiated s q major minor) := by
  unfold State.negotiated
  repeat' (with_reducible
    first | assumption | exact su hw | intro _ | extract_lets | apply State.modEp_keeps | apply State.finish_keeps
          | apply CmdRes.finish_keeps | apply negotiate_keeps | refine keepsFstR (by assumption) ?_ | split
          | refine epOkMk ?_ rfl)

/-! ### Mailbox -/

theorem ping_keeps (s : State) (data : List Byte) (hw : Sub 0x0 W) (hk_s : Keeps W s0 s) :
    KeepsR W s0 (ping s data) := by
  unfold ping
  repeat' (with_reducible first | assumption | exact su hw | apply refuse_keeps | apply keepsIte | split | apply keepsR_mk)

theorem execPing_keeps (q : Req) (data : List Byte) (s : State) (hw : Sub 0x5BC200000E80000 W) (hk_s : Keeps W s0 s) :
    KeepsO W s0 (execPing q data s) := by
  unfold execPing
  repeat' (with_reducible
    first | assumption | exact su hw | apply State.finish_keeps | apply CmdRes.finish_keeps | apply ping_keeps
          | apply keepsO_next)

theorem execAbort_keeps (q : Req) (tag : Nat) (s : State) (hw : Sub 0x135BC280000E80000 W) (hk_s : Keeps W s0 s) :
    KeepsO W s0 (execAbort q tag s) := by
  unfold execAbort
  repeat' (with_reducible
    first | assumption | exact su hw | apply State.finish_keeps | apply CmdRes.finish_keeps | apply abortCmd_keeps
          | apply keepsO_next)

theorem State.abortDone_keeps (s : State) (ep : Fin 8) (hw : Sub 0x4000000000000 W) (hk_s : Keeps W s0 s) :
    Keeps W s0 (State.abortDone s ep) := by
  unfold State.abortDone
  repeat' (with_reducible
    first | assumption | exact su hw | intro _ | extract_lets | apply State.modEp_keeps | apply keepsIte | split
          | refine epOkMk ?_ rfl)

theorem execAbortDone_keeps (ep : Fin 8) (s : State) (hw : Sub 0x4000000000000 W) (hk_s : Keeps W s0 s) :
    KeepsO W s0 (execAbortDone ep s) := by
  unfold execAbortDone
  repeat' (with_reducible first | assumption | exact su hw | apply State.abortDone_keeps | apply keepsO_next)

theorem execNegotiate_keeps (q : Req) (major minor : Nat) (s : State) (hw : Sub 0x5BC200000E80000 W) (hk_s : Keeps W s0 s) :
    KeepsO W s0 (execNegotiate q major minor s) := by
  unfold execNegotiate
  repeat' (with_reducible first | assumption | exact su hw | apply State.negotiated_keeps | apply keepsO_next)

theorem execMbxAckPop_keeps (tag : Word) (s : State) (hw : Sub 0x5BC200000E80000 W) (hk_s : Keeps W s0 s) :
    KeepsO W s0 (execMbxAckPop tag s) := by
  unfold execMbxAckPop
  repeat' (with_reducible first | assumption | exact su hw | apply State.ackPop_keeps | apply keepsO_next)

theorem execMbxClaim_keeps (s : State) (hw : Sub 0x10200000080000 W) (hk_s : Keeps W s0 s) :
    KeepsO W s0 (execMbxClaim s) := by
  unfold execMbxClaim
  repeat' (with_reducible first | assumption | exact su hw | apply State.claim_keeps | apply keepsO_next)

theorem execMbxRelease_keeps (buf : Word) (s : State) (hw : Sub 0x10000000080000 W) (hk_s : Keeps W s0 s) :
    KeepsO W s0 (execMbxRelease buf s) := by
  unfold execMbxRelease
  repeat' (with_reducible first | assumption | exact su hw | apply State.releaseBuf_keeps | apply keepsO_next)

theorem execMbxH2dClear_keeps (ep : Fin 8) (mask : Word) (s : State) (hw : Sub 0x4040000000000 W) (hk_s : Keeps W s0 s) :
    KeepsO W s0 (execMbxH2dClear ep mask s) := by
  unfold execMbxH2dClear
  repeat' (with_reducible first | assumption | exact su hw | apply State.clearUserIn_keeps | apply keepsO_next)

theorem execFwUpdateBegin_keeps (q : Req) (len : BitVec 32) (s : State) (hw : Sub 0x135BC200000E80000 W) (hk_s : Keeps W s0 s) :
    KeepsO W s0 (execFwUpdateBegin q len s) := by
  unfold execFwUpdateBegin
  repeat' (with_reducible
    first | assumption | exact su hw | apply State.finish_keeps | apply CmdRes.finish_keeps | apply fwBegin_keeps
          | apply keepsO_next)

theorem startFwData_keeps (s : State) (q : Req) (off : Nat) (data : List Byte) (hw : Sub 0x115BC200000E80000 W)
    (hk_s : Keeps W s0 s) :
    Keeps W s0 (startFwData s q off data) := by
  unfold startFwData
  repeat' (with_reducible
    first | assumption | exact su hw | intro _ | extract_lets | apply State.finish_keeps | apply CmdRes.finish_keeps
          | apply CmdRes.startLong_keeps | apply fwData_keeps | apply keepsIte | refine keepsFstR (by assumption) ?_ | split
          | dsimp +zetaDelta only | refine keeps_mbx rfl rfl ?_ ?_ ?_ | exact sameRfl | exact sameIn hw)

theorem execFwUpdateData_keeps (q : Req) (off : BitVec 32) (data : List Byte) (s : State) (hw : Sub 0x115BC200000E80000 W)
    (hk_s : Keeps W s0 s) :
    KeepsO W s0 (execFwUpdateData q off data s) := by
  unfold execFwUpdateData
  repeat' (with_reducible first | assumption | exact su hw | apply startFwData_keeps | apply keepsO_next)

theorem execFwUpdateEnd_keeps (q : Req) (sigOk norOk : Bool) (s : State) (hw : Sub 0x175BC200002E80000 W)
    (hk_s : Keeps W s0 s) :
    KeepsO W s0 (execFwUpdateEnd q sigOk norOk s) := by
  unfold execFwUpdateEnd
  repeat' (with_reducible
    first | assumption | exact su hw | apply State.finish_keeps | apply CmdRes.finish_keeps | apply fwEnd_keeps
          | apply keepsO_next)

theorem longResult_keeps (s : State) (j : LongRun) (ok : Bool) (hw : Sub 0x37000280002080000 W) (hk_s : Keeps W s0 s) :
    KeepsR W s0 (longResult s j ok) := by
  unfold longResult
  repeat' (with_reducible
    first | assumption | exact su hw | extract_lets | apply State.setP_keeps | apply refuse_keeps
          | apply State.persistRules_keeps | apply State.rulesFailed_keeps | apply State.failRange_keeps
          | apply State.norFailed_keeps | apply fwPrefer_keeps | apply keepsIte | split | apply keepsR_mk
          | dsimp +zetaDelta only | refine keeps_sup ?_ ?_ | exact inn hw | omega)

theorem execLongCommandComplete_keeps (ep : Fin 8) (tag : Nat) (ok : Bool) (s : State) (hw : Sub 0x375BC280002E80000 W)
    (hk_s : Keeps W s0 s) :
    KeepsO W s0 (execLongCommandComplete ep tag ok s) := by
  unfold execLongCommandComplete
  repeat' (with_reducible
    first | assumption | exact su hw | intro _ | extract_lets | apply State.finish_keeps | apply CmdRes.finish_keeps
          | apply longResult_keeps | apply keepsO_next | split | apply keepsR_mk | dsimp +zetaDelta only
          | refine keeps_mbx rfl rfl ?_ ?_ ?_ | exact sameRfl | exact sameIn hw)

/-! ### Registers -/

theorem State.latchGroup_keeps (s : State) (hsl : Bool) (a : Nat) (hw : Sub 0x80000000 W) (hk_s : Keeps W s0 s) :
    Keeps W s0 (State.latchGroup s hsl a) := by
  unfold State.latchGroup
  repeat' (with_reducible
    first | assumption | exact su hw | intro _ | extract_lets | apply State.modTb_keeps | apply keepsIte | split)

theorem State.regRead_keeps (s : State) (hsl : Bool) (a : Nat) (hw : Sub 0x80000000 W) (hk_s : Keeps W s0 s) :
    Keeps W s0 ((State.regRead s hsl a).2) := by
  unfold State.regRead
  repeat' (with_reducible first | assumption | exact su hw | apply State.latchGroup_keeps)

theorem State.regReads_keeps (hsl : Bool) (hw : Sub 0x80000000 W) : ∀ (n a : Nat) (s : State),
    Keeps W s0 s → Keeps W s0 (State.regReads s hsl a n).2
  | 0, _, _, h => h
  | n + 1, a, s, h => State.regReads_keeps hsl hw n (a + 4) _ (State.regRead_keeps s hsl a (su hw) h)

theorem execLatchedRegisterRead_keeps (hsl : Bool) (addr : Nat) (s : State) (hw : Sub 0x80000000 W) (hk_s : Keeps W s0 s) :
    KeepsO W s0 (execLatchedRegisterRead hsl addr s) := by
  unfold execLatchedRegisterRead
  repeat' (with_reducible first | assumption | exact su hw | apply State.regRead_keeps | apply keepsO_next)

/-! ### Hsl -/

theorem State.modHsl_keeps (s : State) (g : Hsl → Hsl) (hw : Sub 0x2000000000000 W) (hk_s : Keeps W s0 s) :
    Keeps W s0 (State.modHsl s g) := by
  unfold State.modHsl
  repeat' (with_reducible first | assumption | exact su hw | extract_lets | refine keeps_hsl ?_ ?_)

theorem State.writeRegister_keeps (s : State) (a : Nat) (v : Word) (hw : Sub 0x5BCA40080EC2000 W) (hk_s : Keeps W s0 s) :
    Keeps W s0 (State.writeRegister s a v) := by
  unfold State.writeRegister
  repeat' (with_reducible
    first | assumption | exact su hw | intro _ | extract_lets | apply State.setP_keeps | apply State.modEp_keeps
          | apply State.modTb_keeps | apply State.privViolation_keeps | apply State.clearDb_keeps | apply postWord_keeps
          | apply State.ackPop_keeps | apply State.releaseBuf_keeps | apply State.clearUserIn_keeps | apply keepsIte
          | refine keepsSnd (by assumption) ?_ | split | refine epOkMk ?_ rfl | exact inn hw | omega)

theorem execRegisterWrite_keeps (addr : Nat) (v : Word) (s : State) (hw : Sub 0x5BCA40080EC2000 W) (hk_s : Keeps W s0 s) :
    KeepsO W s0 (execRegisterWrite addr v s) := by
  unfold execRegisterWrite
  repeat' (with_reducible first | assumption | exact su hw | apply State.writeRegister_keeps | apply keepsO_next)

theorem State.hslRead_keeps (s : State) (a : Nat) (hw : Sub 0x10200080080000 W) (hk_s : Keeps W s0 s) :
    Keeps W s0 ((State.hslRead s a).2) := by
  unfold State.hslRead
  repeat' (with_reducible
    first | assumption | exact su hw | extract_lets | apply State.claim_keeps | apply State.regRead_keeps | apply keepsIte
          | dsimp only | refine keepsSnd (by assumption) ?_ | split)

theorem State.hslReads_keeps (hw : Sub 0x10200080080000 W) : ∀ (n a : Nat) (s : State),
    Keeps W s0 s → Keeps W s0 (State.hslReads s a n).2
  | 0, _, _, h => h
  | n + 1, a, s, h => State.hslReads_keeps hw n (a + 4) _ (State.hslRead_keeps s a (su hw) h)

theorem hslReadReg_keeps (s : State) (a n : Nat) (hw : Sub 0x10200080080000 W) (hk_s : Keeps W s0 s) :
    KeepsR W s0 (hslReadReg s a n) := by
  unfold hslReadReg
  repeat' (with_reducible
    first | assumption | exact su hw | intro _ | extract_lets | apply refuse_keeps | apply State.hslReads_keeps
          | apply keepsIte | refine keepsSnd (by assumption) ?_ | split | apply keepsR_mk)

theorem hslWriteReg_keeps (s : State) (a : Nat) (ws : List Word) (hw : Sub 0x5BCA40080EC2000 W) (hk_s : Keeps W s0 s) :
    KeepsR W s0 (hslWriteReg s a ws) := by
  unfold hslWriteReg
  repeat' (with_reducible
    first | assumption | exact su hw | intro _ | apply refuse_keeps | apply okRes_keeps | apply State.writeRegister_keeps
          | apply keepsIte | apply keepsFold)

theorem hslReadBuf_keeps (s : State) (buf off len : Nat) (hw : Sub 0x0 W) (hk_s : Keeps W s0 s) :
    KeepsR W s0 (hslReadBuf s buf off len) := by
  unfold hslReadBuf
  repeat' (with_reducible first | assumption | exact su hw | apply refuse_keeps | apply keepsIte | split | apply keepsR_mk)

theorem hslWriteBuf_keeps (s : State) (buf off : Nat) (data : List Byte) (hw : Sub 0x8000000000000 W) (hk_s : Keeps W s0 s) :
    KeepsR W s0 (hslWriteBuf s buf off data) := by
  unfold hslWriteBuf
  repeat' (with_reducible
    first | assumption | exact su hw | apply refuse_keeps | apply okRes_keeps | apply State.writeBuf_keeps | apply keepsIte)

theorem hslWord_keeps (s : State) (w : Word) (hw : Sub 0x5BC200000E80000 W) (hk_s : Keeps W s0 s) :
    KeepsR W s0 (hslWord s w) := by
  unfold hslWord
  repeat' (with_reducible
    first | assumption | exact su hw | extract_lets | apply postWord_keeps | refine keepsSnd (by assumption) ?_ | split
          | apply keepsR_mk)

theorem hslDoorbell_keeps (s : State) (clear ring : Word) (hw : Sub 0x135BC2C0000E80000 W) (hk_s : Keeps W s0 s) :
    KeepsR W s0 (hslDoorbell s clear ring) := by
  unfold hslDoorbell
  repeat' (with_reducible
    first | assumption | exact su hw | extract_lets | apply State.clearDb_keeps | apply State.ringH2d_keeps | apply keepsR_mk)

theorem hslIdent_keeps (s : State) (hw : Sub 0x0 W) (hk_s : Keeps W s0 s) :
    KeepsR W s0 (hslIdent s) := by
  unfold hslIdent
  repeat' (with_reducible first | assumption | exact su hw | extract_lets | apply keepsIte | split | apply keepsR_mk)

theorem State.hslReply_keeps (s : State) (cmd : Byte) (r : HslReply) (hw : Sub 0x2000000000000 W) (hk_s : Keeps W s0 s) :
    Keeps W s0 (State.hslReply s cmd r) := by
  unfold State.hslReply
  repeat' (with_reducible first | assumption | exact su hw | intro _ | extract_lets | apply State.modHsl_keeps)

theorem whenReady_keeps (s : State) (r : CmdRes) (hw : Sub 0x0 W) (hk_s : Keeps W s0 s) (hk_r : KeepsR W s0 r) :
    KeepsR W s0 (whenReady s r) := by
  unfold whenReady
  repeat' (with_reducible first | assumption | exact su hw | apply refuse_keeps | apply keepsIte)

theorem CmdRes.answer_keeps (r : CmdRes) (cmd : Byte) (hw : Sub 0x2000000000000 W) (hk_r : KeepsR W s0 r) :
    Keeps W s0 (CmdRes.answer r cmd) := by
  unfold CmdRes.answer
  repeat' (with_reducible first | assumption | exact su hw | apply State.hslReply_keeps | apply keepsR_mk | apply keepsR_st)

theorem State.runNop_keeps (s : State) (hw : Sub 0x2000000000000 W) (hk_s : Keeps W s0 s) :
    Keeps W s0 (State.runNop s) := by
  unfold State.runNop
  repeat' (with_reducible first | assumption | exact su hw | apply okRes_keeps | apply CmdRes.answer_keeps)

theorem State.runReadReg_keeps (s : State) (a n : Nat) (hw : Sub 0x12200080080000 W) (hk_s : Keeps W s0 s) :
    Keeps W s0 (State.runReadReg s a n) := by
  unfold State.runReadReg
  repeat' (with_reducible first | assumption | exact su hw | apply hslReadReg_keeps | apply CmdRes.answer_keeps)

theorem State.runWriteReg_keeps (s : State) (a : Nat) (ws : List Word) (hw : Sub 0x5BEA40080EC2000 W) (hk_s : Keeps W s0 s) :
    Keeps W s0 (State.runWriteReg s a ws) := by
  unfold State.runWriteReg
  repeat' (with_reducible
    first | assumption | exact su hw | apply hslWriteReg_keeps | apply whenReady_keeps | apply CmdRes.answer_keeps)

theorem State.runReadBuf_keeps (s : State) (buf off len : Nat) (hw : Sub 0x2000000000000 W) (hk_s : Keeps W s0 s) :
    Keeps W s0 (State.runReadBuf s buf off len) := by
  unfold State.runReadBuf
  repeat' (with_reducible first | assumption | exact su hw | apply hslReadBuf_keeps | apply CmdRes.answer_keeps)

theorem State.runWriteBuf_keeps (s : State) (buf off : Nat) (data : List Byte) (hw : Sub 0xA000000000000 W)
    (hk_s : Keeps W s0 s) :
    Keeps W s0 (State.runWriteBuf s buf off data) := by
  unfold State.runWriteBuf
  repeat' (with_reducible
    first | assumption | exact su hw | apply hslWriteBuf_keeps | apply whenReady_keeps | apply CmdRes.answer_keeps)

theorem State.runWord_keeps (s : State) (w : Word) (hw : Sub 0x5BE200000E80000 W) (hk_s : Keeps W s0 s) :
    Keeps W s0 (State.runWord s w) := by
  unfold State.runWord
  repeat' (with_reducible
    first | assumption | exact su hw | apply hslWord_keeps | apply whenReady_keeps | apply CmdRes.answer_keeps)

theorem State.runDoorbell_keeps (s : State) (clear ring : Word) (hw : Sub 0x135BE2C0000E80000 W) (hk_s : Keeps W s0 s) :
    Keeps W s0 (State.runDoorbell s clear ring) := by
  unfold State.runDoorbell
  repeat' (with_reducible
    first | assumption | exact su hw | apply hslDoorbell_keeps | apply whenReady_keeps | apply CmdRes.answer_keeps)

theorem State.runIdent_keeps (s : State) (hw : Sub 0x2000000000000 W) (hk_s : Keeps W s0 s) :
    Keeps W s0 (State.runIdent s) := by
  unfold State.runIdent
  repeat' (with_reducible first | assumption | exact su hw | apply hslIdent_keeps | apply CmdRes.answer_keeps)

theorem State.runRepeat_keeps (s : State) (hw : Sub 0x2000000000000 W) (hk_s : Keeps W s0 s) :
    Keeps W s0 (State.runRepeat s) := by
  unfold State.runRepeat
  repeat' (with_reducible first | assumption | exact su hw | apply State.hslReply_keeps)

theorem execNop_keeps (s : State) (hw : Sub 0x2000000000000 W) (hk_s : Keeps W s0 s) :
    KeepsO W s0 (execNop s) := by
  unfold execNop
  repeat' (with_reducible first | assumption | exact su hw | apply State.runNop_keeps | apply keepsO_next)

theorem execReadReg_keeps (addr : BitVec 32) (count : Byte) (s : State) (hw : Sub 0x12200080080000 W) (hk_s : Keeps W s0 s) :
    KeepsO W s0 (execReadReg addr count s) := by
  unfold execReadReg
  repeat' (with_reducible first | assumption | exact su hw | apply State.runReadReg_keeps | apply keepsO_next)

theorem execWriteReg_keeps (addr : BitVec 32) (data : List Word) (s : State) (hw : Sub 0x5BEA40080EC2000 W)
    (hk_s : Keeps W s0 s) :
    KeepsO W s0 (execWriteReg addr data s) := by
  unfold execWriteReg
  repeat' (with_reducible first | assumption | exact su hw | apply State.runWriteReg_keeps | apply keepsO_next)

theorem execReadBuf_keeps (buf : Byte) (off len : BitVec 16) (s : State) (hw : Sub 0x2000000000000 W) (hk_s : Keeps W s0 s) :
    KeepsO W s0 (execReadBuf buf off len s) := by
  unfold execReadBuf
  repeat' (with_reducible first | assumption | exact su hw | apply State.runReadBuf_keeps | apply keepsO_next)

theorem execWriteBuf_keeps (buf : Byte) (off : BitVec 16) (data : List Byte) (s : State) (hw : Sub 0xA000000000000 W)
    (hk_s : Keeps W s0 s) :
    KeepsO W s0 (execWriteBuf buf off data s) := by
  unfold execWriteBuf
  repeat' (with_reducible first | assumption | exact su hw | apply State.runWriteBuf_keeps | apply keepsO_next)

theorem execWord_keeps (w : Word) (s : State) (hw : Sub 0x5BE200000E80000 W) (hk_s : Keeps W s0 s) :
    KeepsO W s0 (execWord w s) := by
  unfold execWord
  repeat' (with_reducible first | assumption | exact su hw | apply State.runWord_keeps | apply keepsO_next)

theorem execDoorbell_keeps (clear ring : Word) (s : State) (hw : Sub 0x135BE2C0000E80000 W) (hk_s : Keeps W s0 s) :
    KeepsO W s0 (execDoorbell clear ring s) := by
  unfold execDoorbell
  repeat' (with_reducible first | assumption | exact su hw | apply State.runDoorbell_keeps | apply keepsO_next)

theorem execIdent_keeps (s : State) (hw : Sub 0x2000000000000 W) (hk_s : Keeps W s0 s) :
    KeepsO W s0 (execIdent s) := by
  unfold execIdent
  repeat' (with_reducible first | assumption | exact su hw | apply State.runIdent_keeps | apply keepsO_next)

theorem execRepeatReply_keeps (s : State) (hw : Sub 0x2000000000000 W) (hk_s : Keeps W s0 s) :
    KeepsO W s0 (execRepeatReply s) := by
  unfold execRepeatReply
  repeat' (with_reducible first | assumption | exact su hw | apply State.runRepeat_keeps | apply keepsO_next)

theorem State.runFrame_keeps (s : State) (cmd : Nat) (pl : List Byte) (hw : Sub 0x135BEAC0080EC2000 W) (hk_s : Keeps W s0 s) :
    Keeps W s0 (State.runFrame s cmd pl) := by
  unfold State.runFrame
  repeat' (with_reducible
    first | assumption | exact su hw | extract_lets | apply State.runNop_keeps | apply State.runReadReg_keeps
          | apply State.runWriteReg_keeps | apply State.runReadBuf_keeps | apply State.runWriteBuf_keeps
          | apply State.runWord_keeps | apply State.runDoorbell_keeps | apply State.runIdent_keeps
          | apply State.runRepeat_keeps | split)

theorem State.badFrame_keeps (s : State) (first : Byte) (code : BitVec 16) (counter diag : Nat)
    (hw : Sub 0x2200000100000 W) (hb : counter < 256) (hk_s : Keeps W s0 s) :
    Keeps W s0 (State.badFrame s first code counter diag) := by
  unfold State.badFrame
  repeat' (with_reducible
    first | assumption | exact su hw | apply State.inc_keeps | apply State.orP_keeps | apply State.occur_keeps
          | apply State.hslReply_keeps | exact inn hw | omega)

theorem State.goodFrame_keeps (s : State) (hw : Sub 0x2200000100000 W) (hk_s : Keeps W s0 s) :
    Keeps W s0 (State.goodFrame s) := by
  unfold State.goodFrame
  repeat' (with_reducible
    first | assumption | exact su hw | intro _ | extract_lets | apply State.setPCt_keeps | apply State.inc_keeps
          | apply State.endFault_keeps | apply State.modHsl_keeps | apply keepsIte | split | dsimp +zetaDelta only
          | exact inn hw | omega)

theorem State.frameEnd_keeps (s : State) (bytes : List Byte) (hw : Sub 0x135BEAC0080FC2000 W) (hk_s : Keeps W s0 s) :
    Keeps W s0 (State.frameEnd s bytes) := by
  unfold State.frameEnd
  repeat' (with_reducible
    first | assumption | exact su hw | intro _ | extract_lets | apply State.runFrame_keeps | apply State.badFrame_keeps
          | apply State.goodFrame_keeps | apply keepsIte | split | omega)

theorem execHslFrameStart_keeps (busy : Bool) (s : State) (hw : Sub 0x2000000000000 W) (hk_s : Keeps W s0 s) :
    KeepsO W s0 (execHslFrameStart busy s) := by
  unfold execHslFrameStart
  repeat' (with_reducible
    first | assumption | exact su hw | intro _ | extract_lets | apply State.reset_keeps | apply State.modHsl_keeps
          | apply keepsIte | apply keepsO_next)

theorem execHslFrameEnd_keeps (bytes : List Byte) (s : State) (hw : Sub 0x135BEAC0080FC2000 W) (hk_s : Keeps W s0 s) :
    KeepsO W s0 (execHslFrameEnd bytes s) := by
  unfold execHslFrameEnd
  repeat' (with_reducible
    first | assumption | exact su hw | intro _ | extract_lets | apply State.inc_keeps | apply State.orP_keeps
          | apply State.modHsl_keeps | apply State.frameEnd_keeps | apply keepsIte | apply keepsO_next | split
          | dsimp +zetaDelta only | exact inn hw | omega)

theorem execFrameTimeout_keeps (first : Option Byte) (s : State) (hw : Sub 0x2200000100000 W) (hk_s : Keeps W s0 s) :
    KeepsO W s0 (execFrameTimeout first s) := by
  unfold execFrameTimeout
  repeat' (with_reducible
    first | assumption | exact su hw | intro _ | extract_lets | apply State.inc_keeps | apply State.orP_keeps
          | apply State.raise_keeps | apply State.modHsl_keeps | apply State.badFrame_keeps | apply keepsIte
          | apply keepsO_next | split | dsimp +zetaDelta only | exact inn hw | omega)

theorem execHostTimeout_keeps (s : State) (hw : Sub 0x2200000100000 W) (hk_s : Keeps W s0 s) :
    KeepsO W s0 (execHostTimeout s) := by
  unfold execHostTimeout
  repeat' (with_reducible
    first | assumption | exact su hw | intro _ | extract_lets | apply State.orP_keeps | apply State.raise_keeps
          | apply State.modHsl_keeps | apply keepsIte | apply keepsO_next | split | dsimp +zetaDelta only | exact inn hw
          | omega)

/-! ### Startup -/

theorem State.modSup_keeps (s : State) (g : Startup → Startup) (hw : Sub 0x10000000000000000 W) (hk_s : Keeps W s0 s) :
    Keeps W s0 (State.modSup s g) := by
  unfold State.modSup
  repeat' (with_reducible first | assumption | exact su hw | extract_lets | refine keeps_sup ?_ ?_)

theorem State.bootStep_keeps (s : State) (code result : Nat) (time : Word) (hw : Sub 0x10000000000000000 W)
    (hk_s : Keeps W s0 s) :
    Keeps W s0 (State.bootStep s code result time) := by
  unfold State.bootStep
  repeat' (with_reducible first | assumption | exact su hw | intro _ | extract_lets | apply State.modSup_keeps)

theorem State.bootStepNow_keeps (s : State) (code : Nat) (hw : Sub 0x10000000000000000 W) (hk_s : Keeps W s0 s) :
    Keeps W s0 (State.bootStepNow s code) := by
  unfold State.bootStepNow
  repeat' (with_reducible first | assumption | exact su hw | apply State.bootStep_keeps)

theorem State.bootStepRom_keeps (s : State) (code result : Nat) (hw : Sub 0x30000000000000000 W) (hk_s : Keeps W s0 s) :
    Keeps W s0 (State.bootStepRom s code result) := by
  unfold State.bootStepRom
  repeat' (with_reducible first | assumption | exact su hw | extract_lets | apply State.draw_keeps | apply State.bootStep_keeps)

theorem State.heartwoodCheck_keeps (s : State) (hw : Sub 0x10001000000040000 W) (hk_s : Keeps W s0 s) :
    Keeps W s0 (State.heartwoodCheck s) := by
  unfold State.heartwoodCheck
  repeat' (with_reducible
    first | assumption | exact su hw | intro _ | extract_lets | apply State.orP_keeps | apply State.modSup_keeps
          | apply keepsIte | split | dsimp +zetaDelta only | refine keeps_heartwood ?_ ?_ | exact inn hw | omega)

theorem State.endReset_keeps (s : State) (hw : Sub 0x10001000000040000 W) (hk_s : Keeps W s0 s) :
    Keeps W s0 (State.endReset s) := by
  unfold State.endReset
  repeat' (with_reducible
    first | assumption | exact su hw | intro _ | extract_lets | apply State.reset_keeps | apply State.modHw_keeps
          | apply State.modSup_keeps | apply State.heartwoodCheck_keeps)

theorem State.readFuses_keeps (s : State) (f : Fuses) (corrected : Bool) (bad : List Nat) (hw : Sub 0x10000200008000000 W)
    (hk_s : Keeps W s0 s) :
    Keeps W s0 (State.readFuses s f corrected bad) := by
  unfold State.readFuses
  repeat' (with_reducible
    first | assumption | exact su hw | intro _ | extract_lets | apply State.setP_keeps | apply State.raise_keeps
          | apply State.modSup_keeps | apply keepsIte | apply keepsFold | split | dsimp +zetaDelta only | exact inn hw
          | omega)

theorem State.findNor_keeps (s : State) (density id : Nat) (suspend : Bool) (hw : Sub 0x2000000002000000 W)
    (hk_s : Keeps W s0 s) :
    Keeps W s0 (State.findNor s density id suspend) := by
  unfold State.findNor
  repeat' (with_reducible
    first | assumption | exact su hw | intro _ | extract_lets | apply State.setBytes_keeps | apply State.setP_keeps
          | apply State.modMsp_keeps | exact mspOkRefl (by assumption) | refine mspOkMk ?_ rfl rfl ?_ | dsimp +zetaDelta only
          | exact inn hw | omega | (simp; done) | (simp; omega) | exact sameRfl | exact sameIn hw
          | (simp [layoutBytes]; done))

theorem State.findNand_keeps (s : State) (nand : Option (Nat × Nat)) (hw : Sub 0x8000000002000000 W) (hk_s : Keeps W s0 s) :
    Keeps W s0 (State.findNand s nand) := by
  unfold State.findNand
  repeat' (with_reducible
    first | assumption | exact su hw | intro _ | extract_lets | apply State.setP_keeps | apply State.modJrn_keeps
          | apply keepsIte | exact jrnOkRefl (by assumption) | split | refine jrnOkMk ?_ rfl ?_ ?_ | exact inn hw | omega
          | exact sameRfl | exact sameIn hw)

theorem State.bootFailure_keeps (s : State) (hw : Sub 0x10000000000000000 W) (hk_s : Keeps W s0 s) :
    Keeps W s0 (State.bootFailure s) := by
  unfold State.bootFailure
  repeat' (with_reducible first | assumption | exact su hw | intro _ | extract_lets | apply State.modSup_keeps)

theorem State.slotResult_keeps (s : State) (i : Bool) (code : Nat) (hw : Sub 0x10000000000000000 W) (hk_s : Keeps W s0 s) :
    Keeps W s0 (State.slotResult s i code) := by
  unfold State.slotResult
  repeat' (with_reducible first | assumption | exact su hw | intro _ | extract_lets | apply State.modSup_keeps)

theorem State.trySlots_keeps (sigs : SlotSig) (hw : Sub 0x30000000000000000 W) : ∀ (l : List Bool) (s : State),
    Keeps W s0 s → Keeps W s0 (State.trySlots s sigs l).2
  | [], _, h => h
  | i :: rest, s, h => by
    unfold State.trySlots
    extract_lets code s1
    have h1 : Keeps W s0 s1 := State.bootStepRom_keeps _ _ _ (su hw) (State.slotResult_keeps _ _ _ (su hw) h)
    split
    · exact h1
    · exact State.trySlots_keeps sigs hw rest _ h1

theorem State.bootJump_keeps (s : State) (p i : Bool) (hw : Sub 0x30001000000000000 W) (hk_s : Keeps W s0 s) :
    Keeps W s0 (State.bootJump s p i) := by
  unfold State.bootJump
  repeat' (with_reducible
    first | assumption | exact su hw | intro _ | extract_lets | apply State.modHw_keeps | apply State.modSup_keeps
          | apply State.bootStepRom_keeps)

theorem State.bootSlots_keeps (s : State) (sigs : SlotSig) (hw : Sub 0x30001000000000000 W) (hk_s : Keeps W s0 s) :
    Keeps W s0 (State.bootSlots s sigs) := by
  unfold State.bootSlots
  repeat' (with_reducible
    first | assumption | exact su hw | extract_lets | apply State.bootFailure_keeps | apply State.trySlots_keeps
          | apply State.bootJump_keeps | refine keepsSnd (by assumption) ?_ | split)

theorem State.bootNor_keeps (s : State) (r : BootRead) (hw : Sub 0x30001000000000000 W) (hk_s : Keeps W s0 s) :
    Keeps W s0 (State.bootNor s r) := by
  unfold State.bootNor
  repeat' (with_reducible
    first | assumption | exact su hw | intro _ | extract_lets | apply State.draw_keeps | apply State.modSup_keeps
          | apply State.bootStepRom_keeps | apply State.bootFailure_keeps | apply State.bootSlots_keeps
          | refine keepsSnd (by assumption) ?_ | split)

theorem State.bootRom_keeps (s : State) (r : BootRead) (hw : Sub 0x3A001A0008A040000 W) (hk_s : Keeps W s0 s) :
    Keeps W s0 (State.bootRom s r) := by
  unfold State.bootRom
  repeat' (with_reducible
    first | assumption | exact su hw | intro _ | extract_lets | apply State.modTb_keeps | apply State.modWdt_keeps
          | apply State.modSup_keeps | apply State.bootStepRom_keeps | apply State.endReset_keeps
          | apply State.readFuses_keeps | apply State.findNor_keeps | apply State.findNand_keeps
          | apply State.bootFailure_keeps | apply State.bootNor_keeps | split | dsimp +zetaDelta only)

theorem execBootRomStart_keeps (r : BootRead) (s : State) (hw : Sub 0x3A001A0008A040000 W) (hk_s : Keeps W s0 s) :
    KeepsO W s0 (execBootRomStart r s) := by
  unfold execBootRomStart
  repeat' (with_reducible first | assumption | exact su hw | apply State.bootRom_keeps | apply keepsIte | apply keepsO_next)

theorem execBootFailureRelease_keeps (s : State) (hw : Sub 0x2000000000000000 W) (hk_s : Keeps W s0 s) :
    KeepsO W s0 (execBootFailureRelease s) := by
  unfold execBootFailureRelease
  repeat' (with_reducible
    first | assumption | exact su hw | intro _ | extract_lets | apply State.modMsp_keeps | apply keepsIte | apply keepsO_next
          | exact mspOkRefl (by assumption) | split | refine mspOkMk ?_ rfl rfl ?_ | exact sameRfl | exact sameIn hw)

theorem State.startRecords_keeps (s : State) (hw : Sub 0x4000200000000000 W) (hk_s : Keeps W s0 s) :
    Keeps W s0 (State.startRecords s) := by
  unfold State.startRecords
  repeat' (with_reducible
    first | assumption | exact su hw | extract_lets | apply State.raise_keeps | apply State.journal_keeps
          | apply State.journalAt_keeps | apply keepsIte)

theorem State.startEpoch_keeps (s : State) (hw : Sub 0x40000004000 W) (hk_s : Keeps W s0 s) :
    Keeps W s0 (State.startEpoch s) := by
  unfold State.startEpoch
  repeat' (with_reducible
    first | assumption | exact su hw | extract_lets | apply State.setP_keeps | dsimp +zetaDelta only
          | refine keeps_canopy rfl rfl ?_ ?_ | exact inn hw | omega)

theorem State.startJournal_keeps (s : State) (hw : Sub 0x8000200004000000 W) (hk_s : Keeps W s0 s) :
    Keeps W s0 (State.startJournal s) := by
  unfold State.startJournal
  repeat' (with_reducible
    first | assumption | exact su hw | intro _ | extract_lets | apply State.setP_keeps | apply State.raise_keeps
          | apply State.modJrn_keeps | apply keepsIte | exact jrnOkRefl (by assumption) | split | refine jrnOkMk ?_ rfl ?_ ?_
          | dsimp +zetaDelta only | exact inn hw | omega | exact sameRfl | exact sameIn hw)

theorem execFirmwareStart_keeps (s : State) (hw : Sub 0x1C001240004044000 W) (hk_s : Keeps W s0 s) :
    KeepsO W s0 (execFirmwareStart s) := by
  unfold execFirmwareStart
  repeat' (with_reducible
    first | assumption | exact su hw | intro _ | extract_lets | apply State.reset_keeps | apply State.modSup_keeps
          | apply State.bootStepNow_keeps | apply State.heartwoodCheck_keeps | apply State.startRecords_keeps
          | apply State.startEpoch_keeps | apply State.startJournal_keeps | apply keepsIte | apply keepsO_next)

theorem State.startCal_keeps (s : State) (hw : Sub 0x200008000000 W) (hk_s : Keeps W s0 s) :
    Keeps W s0 (State.startCal s) := by
  unfold State.startCal
  repeat' (with_reducible
    first | assumption | exact su hw | intro _ | extract_lets | apply State.setP_keeps | apply State.raise_keeps
          | apply keepsIte | split | exact inn hw | omega)

theorem State.startEffects_keeps (s old : State) (hw : Sub 0x24DBC2D0A81E8CE40 W) (hk_s : Keeps W s0 s)
    (hk_old : Keeps W s0 old) :
    Keeps W s0 (State.startEffects s old) := by
  unfold State.startEffects
  repeat' (with_reducible
    first | assumption | exact su hw | intro _ | extract_lets | apply State.setP_keeps | apply State.followSafe_keeps
          | apply State.commitU_keeps | apply State.commitG_keeps | apply State.commitCanopy_keeps
          | apply State.commitPort_keeps | apply State.commitSwitch_keeps | apply State.commitPair_keeps
          | apply State.commitGcl_keeps | apply keepsFold | dsimp +zetaDelta only | refine keeps_canopy rfl rfl ?_ ?_
          | exact inn hw | omega)

theorem State.startCommands_keeps (s : State) (hw : Sub 0xC00 W) (hk_s : Keeps W s0 s) :
    Keeps W s0 (State.startCommands s) := by
  unfold State.startCommands
  repeat' (with_reducible
    first | assumption | exact su hw | intro _ | extract_lets | apply State.setP_keeps | apply keepsFold
          | dsimp +zetaDelta only | exact inn hw | omega)

theorem trimContent_wf (s : State) : cellsWf parReset (trimContent s) = true := cellsWf_writeL rfl

theorem imageContent_wf {s : State} {i : Bool} {c : Store} (e : imageContent s i = some c) : cellsWf parReset c = true := by
  unfold imageContent at e
  extract_lets base h len at e
  split at e
  · cases e
  · split at e
    · cases e
    · extract_lets content at e
      have hw : cellsWf parReset content = true := cellsWf_filter (cellsWf_writes (trimContent_wf s))
      clear_value content
      split at e
      · cases e; exact hw
      · cases e

theorem startContent_wf (s : State) : cellsWf parReset (startContent s).1 = true := by
  unfold startContent
  split
  · exact trimContent_wf s
  · split
    · exact imageContent_wf ‹_›
    · exact imageContent_wf ‹_›
    · exact trimContent_wf s

theorem State.startConfig_keeps (s : State) (content : Store) (hw : Sub 0x24DBC2D0AAFFFFFFF W)
    (hc : cellsWf parReset content = true)
    (h : Keeps W s0 s) : Keeps W s0 (s.startConfig content) := by
  unfold State.startConfig
  extract_lets n src s1
  have h1 : Keeps W s0 s1 := staged_keeps (s.withContent content) _ (su hw) hc (State.withContent_keeps _ _ (su hw) h)
  clear_value s1
  refine State.startEffects_keeps _ _ (su hw) ?_ h
  repeat' (with_reducible
    first | assumption | exact su hw | intro _ | extract_lets | apply State.startCommands_keeps
          | apply State.setStagedState_keeps | apply State.setP_keeps | exact inn hw | omega)

theorem keepsOptIte {c : Prop} [Decidable c] {x : State} (h : Keeps W s0 x) :
    KeepsOpt W s0 (if c then some x else none) := by
  intro t e
  split at e
  · cases e; exact h
  · cases e

theorem State.loadRuleSlot_keeps (s : State) (i : Bool) (hw : Sub 0x380000008000 W) (h : Keeps W s0 s) :
    KeepsOpt W s0 (s.loadRuleSlot i) := by
  unfold State.loadRuleSlot
  extract_lets n len s1
  have h1 : Keeps W s0 s1 := State.setRuleBank_keeps _ _ _ _ (su hw) (cellsWf_writeL cellsWf_nil) h
  clear_value s1 len n
  with_reducible apply keepsOptIte
  exact State.checkLayout_keeps _ (su hw) (State.modGlade_keeps _ _ (fun _ hx => ⟨hx.1, hx.2, sameRfl, sameIn hw⟩) h1)

theorem State.startRules_keeps (s : State) (hw : Sub 0x380000008000 W) (h : Keeps W s0 s) : Keeps W s0 s.startRules := by
  unfold State.startRules
  split
  · exact h
  · split
    · exact State.loadRuleSlot_keeps _ _ (su hw) h _ ‹_›
    · refine State.raise_keeps _ _ _ _ _ (su hw) ?_
      rename_i i _ _ _
      cases e : s.loadRuleSlot (!i) with
      | none => exact h
      | some t => exact State.loadRuleSlot_keeps _ _ (su hw) h _ e

theorem execConfigImageLoad_keeps (s : State) (hw : Sub 0x34DBC3D0AAFFFFFFF W) (h : Keeps W s0 s) :
    KeepsO W s0 (execConfigImageLoad s) := by
  unfold execConfigImageLoad
  split
  · have hc := startContent_wf s
    generalize startContent s = x at hc ⊢
    obtain ⟨content, bad⟩ := x
    dsimp only
    have h1 := State.startRules_keeps _ (su hw) (State.startConfig_keeps _ content (su hw) hc (State.startCal_keeps s (su hw) h))
    generalize (s.startCal.startConfig content).startRules = s1 at h1 ⊢
    refine keepsO_next (State.bootStepNow_keeps _ _ (su hw) (State.bootStepNow_keeps _ _ (su hw) (State.bootStepNow_keeps _ _
      (su hw) (State.modSup_keeps _ _ (su hw) ?_))))
    cases bad with
    | none => exact h1
    | some d => exact State.raise_keeps _ _ _ _ _ (su hw) h1
  · exact keepsO_next h

theorem execFirebreakArm_keeps (s : State) (hw : Sub 0x10000400000000000 W) (hk_s : Keeps W s0 s) :
    KeepsO W s0 (execFirebreakArm s) := by
  unfold execFirebreakArm
  repeat' (with_reducible
    first | assumption | exact su hw | intro _ | extract_lets | apply State.reset_keeps | apply State.modFb_keeps
          | apply State.failLow_keeps | apply State.modSup_keeps | apply State.bootStepNow_keeps | apply keepsIte
          | apply keepsO_next | exact fbOkRefl (by assumption) | split | refine fbOkMk ?_ rfl ?_ ?_ | dsimp +zetaDelta only
          | exact sameRfl | exact sameIn hw)

theorem execEndpointsOpen_keeps (s : State) (hw : Sub 0x10005000000000000 W) (h : Keeps W s0 s) : KeepsO W s0
    (execEndpointsOpen s) := by
  unfold execEndpointsOpen
  extract_lets src s1 s2
  have h1 : Keeps W s0 s1 := eps_keeps s _ (su hw) (fun e => by simpa [EpOk] using h.2.1.2.eps e) h
  clear_value s1
  split
  · exact keepsO_next (State.bootStepNow_keeps _ _ (su hw) (State.modSup_keeps _ _ (su hw) (State.modHw_keeps _ _ (su hw) h1)))
  · exact keepsO_next h

/-! ### Power -/

theorem State.resetNow_keeps (s : State) (cause : Nat) (hw : Sub 0x10000000000000000 W) (hk_s : Keeps W s0 s) :
    Keeps W s0 (State.resetNow s cause) := by
  unfold State.resetNow
  repeat' (with_reducible first | assumption | exact su hw | intro _ | extract_lets | apply State.modSup_keeps)

theorem execResetNEdge_keeps (s : State) (hw : Sub 0x10000000000000000 W) (hk_s : Keeps W s0 s) :
    KeepsO W s0 (execResetNEdge s) := by
  unfold execResetNEdge
  repeat' (with_reducible
    first | assumption | exact su hw | intro _ | extract_lets | apply State.modSup_keeps | apply State.resetNow_keeps
          | apply keepsIte | apply keepsO_next)

theorem execResetNRise_keeps (s : State) (hw : Sub 0x10000000000000000 W) (hk_s : Keeps W s0 s) :
    KeepsO W s0 (execResetNRise s) := by
  unfold execResetNRise
  repeat' (with_reducible
    first | assumption | exact su hw | intro _ | extract_lets | apply State.reset_keeps | apply State.modSup_keeps
          | apply keepsIte | apply keepsO_next)

theorem execSupResetKey_keeps (priv : Bool) (key : BitVec 16) (s : State) (hw : Sub 0x10000000000000000 W)
    (hk_s : Keeps W s0 s) :
    KeepsO W s0 (execSupResetKey priv key s) := by
  unfold execSupResetKey
  repeat' (with_reducible first | assumption | exact su hw | apply State.resetNow_keeps | apply keepsIte | apply keepsO_next)

theorem State.dropRails_keeps (s : State) (rails : BitVec 4) (hw : Sub 0x10001000000000000 W) (hk_s : Keeps W s0 s) :
    Keeps W s0 (State.dropRails s rails) := by
  unfold State.dropRails
  repeat' (with_reducible
    first | assumption | exact su hw | intro _ | extract_lets | apply State.modSup_keeps | apply keepsIte | split
          | dsimp +zetaDelta only | refine keeps_heartwood ?_ ?_)

theorem State.startPowerFail_keeps (s : State) (hw : Sub 0x12000200002000000 W) (hk_s : Keeps W s0 s) :
    Keeps W s0 (State.startPowerFail s) := by
  unfold State.startPowerFail
  repeat' (with_reducible
    first | assumption | exact su hw | intro _ | extract_lets | apply State.mspSplit_keeps | apply State.modSup_keeps | split)

theorem execPowerFailDetection_keeps (rails : BitVec 4) (s : State) (hw : Sub 0x12001200002000000 W) (hk_s : Keeps W s0 s) :
    KeepsO W s0 (execPowerFailDetection rails s) := by
  unfold execPowerFailDetection
  repeat' (with_reducible
    first | assumption | exact su hw | intro _ | extract_lets | apply State.reset_keeps | apply State.modSup_keeps
          | apply State.resetNow_keeps | apply State.dropRails_keeps | apply State.startPowerFail_keeps | apply keepsIte
          | apply keepsO_next)

theorem State.powerFailPage_keeps (s : State) (hw : Sub 0x2C004000004000000 W)
    (h : Keeps W s0 s) : Keeps W s0 s.powerFailPage := by
  unfold State.powerFailPage
  extract_lets rs gone
  have hr : rs.length ≤ 512 := by
    rw [List.length_take]; exact Nat.le_trans (Nat.min_le_left _ _) (by decide)
  clear_value gone rs
  split
  rename_i d s1 e
  have h1 : Keeps W s0 s1 := keepsSnd e (State.draw_keeps _ (su hw) h)
  have h2 : Keeps W s0 (s1.modJrn (fun j => { j with ram := rs, incoming := [] })) :=
    State.modJrn_keeps _ _ (fun _ _ => ⟨hr, sameIn hw, sameIn hw⟩) h1
  repeat' (with_reducible
    first | assumption | exact su hw | intro _ | extract_lets | apply flushPage_keeps | apply State.addRecord_keeps
          | apply State.loseRecords_keeps | split)

theorem State.endPowerFail_keeps (s : State) (hw : Sub 0x10000000000000000 W) (hk_s : Keeps W s0 s) :
    Keeps W s0 (State.endPowerFail s) := by
  unfold State.endPowerFail
  repeat' (with_reducible first | assumption | exact su hw | intro _ | extract_lets | apply State.modSup_keeps)

theorem execPowerFailCommitEnd_keeps (s : State) (hw : Sub 0x3C004000004000000 W) (hk_s : Keeps W s0 s) :
    KeepsO W s0 (execPowerFailCommitEnd s) := by
  unfold execPowerFailCommitEnd
  repeat' (with_reducible
    first | assumption | exact su hw | extract_lets | apply State.mountNumbers_keeps | apply State.resetNow_keeps
          | apply State.powerFailPage_keeps | apply State.endPowerFail_keeps | apply keepsIte | apply keepsO_next)

theorem execVholdCut_keeps (s : State) (hw : Sub 0x10000000000000000 W) (hk_s : Keeps W s0 s) :
    KeepsO W s0 (execVholdCut s) := by
  unfold execVholdCut
  repeat' (with_reducible
    first | assumption | exact su hw | intro _ | extract_lets | apply State.modSup_keeps | apply State.resetNow_keeps
          | apply State.endPowerFail_keeps | apply keepsIte | apply keepsO_next)

theorem State.raiseRail_keeps (s : State) (rail : Fin 4) (hw : Sub 0x10000000000000000 W) (hk_s : Keeps W s0 s) :
    Keeps W s0 (State.raiseRail s rail) := by
  unfold State.raiseRail
  repeat' (with_reducible
    first | assumption | exact su hw | intro _ | apply State.modSup_keeps)

theorem execSupplyGood_keeps (rail : Fin 4) (s : State) (hw : Sub 0x10000000000000000 W) (hk_s : Keeps W s0 s) :
    KeepsO W s0 (execSupplyGood rail s) := by
  unfold execSupplyGood
  repeat' (with_reducible
    first | assumption | exact su hw | intro _ | extract_lets | apply State.raiseRail_keeps | apply State.modSup_keeps
          | apply keepsIte | apply keepsO_next)

theorem execHoldReadyChange_keeps (ready : Bool) (s : State) (hw : Sub 0x10000200000000000 W) (hk_s : Keeps W s0 s) :
    KeepsO W s0 (execHoldReadyChange ready s) := by
  unfold execHoldReadyChange
  repeat' (with_reducible
    first | assumption | exact su hw | intro _ | extract_lets | apply State.endFault_keeps | apply State.modSup_keeps
          | apply keepsIte | apply keepsO_next)

theorem State.breakWrites_keeps (s : State) (hw : Sub 0x33000080000000000 W) (hk_s : Keeps W s0 s) :
    Keeps W s0 (State.breakWrites s) := by
  unfold State.breakWrites
  repeat' (with_reducible
    first | assumption | exact su hw | intro _ | extract_lets | apply State.eraseNor_keeps | apply State.failRange_keeps
          | apply State.dropSession_keeps | apply State.abortLong_keeps | apply keepsFold | split | dsimp +zetaDelta only)

theorem State.forgetField_keeps (s : State) (hw : Sub 0x5000000000 W) (hk_s : Keeps W s0 s) :
    Keeps W s0 (State.forgetField s) := by
  unfold State.forgetField
  repeat' (with_reducible
    first | assumption | exact su hw | intro _ | extract_lets | apply State.modU_keeps | apply State.modF_keeps
          | apply keepsFold)

theorem State.resetLogic_keeps (s : State) (cause : Nat) (hw : Sub 0x7FFFEFFDEAFFFFFFF W) (h : Keeps W s0 s) :
    Keeps W s0 (s.resetLogic cause) := by
  have hn : cellsWf norByte s.breakWrites.msp.nor = true := (State.breakWrites_keeps s (su hw) h).2.1.1.nor
  refine ⟨h.1, ⟨⟨rfl, rfl, h.2.1.1.bankCfg, rfl, hn, rfl, rfl, rfl, rfl, rfl, fun _ hc => by cases hc⟩, ?_⟩, ?_⟩
  · refine ⟨Nat.zero_le _, Nat.zero_le _, Nat.zero_le _, ?_, ?_, ?_, ?_⟩
    · intro e; simp [State.resetLogic, State.reset, mailboxReset, endpointReset]
    · intro f; simp [State.resetLogic, State.reset]
    · intro b; simp [State.resetLogic, linkReset]
    · intro b; simpa [State.resetLogic] using h.2.1.2.up b
  · exact { params := fun c hc => Or.inl ((allParams hw) c hc), staged := sameIn hw, bankCfg := h.2.2.bankCfg, tb := sameIn hw, banks := h.2.2.banks, down := sameIn hw, up := sameIn hw, links := sameIn hw, u := sameIn hw, l := h.2.2.l, f := sameIn hw, captures := sameIn hw, coppice := sameIn hw, sched := sameIn hw, canopy := sameIn hw, glade := sameIn hw, rules := sameIn hw, raises := sameIn hw, firebreak := sameIn hw, wdt := sameIn hw, heartwood := h.2.2.heartwood, hsl := sameIn hw, eps := sameIn hw, ram := sameIn hw, bufs := sameIn hw, mbxq := sameIn hw, commit := sameIn hw, ports := sameIn hw, sw := sameIn hw, delivered := sameIn hw, gcl := sameIn hw, red := sameIn hw, nor := sameIn hw, msp := sameIn hw, incoming := sameIn hw, jrn := sameIn hw, sup := sameIn hw, draws := sameIn hw, scales := sameIn hw }

theorem execLogicReset_keeps (s : State) (hw : Sub 0x7FFFFFFDEAFFFFFFF W) (hk_s : Keeps W s0 s) :
    KeepsO W s0 (execLogicReset s) := by
  unfold execLogicReset
  repeat' (with_reducible
    first | assumption | exact su hw | extract_lets | apply State.collectAll_keeps | apply State.heartNow_keeps
          | apply State.resetLogic_keeps | apply keepsIte | apply keepsO_next | split)

theorem State.resetChannels_keeps (s : State) (b : Fin 4) (hw : Sub 0x7000000000 W) (hk_s : Keeps W s0 s) :
    Keeps W s0 (State.resetChannels s b) := by
  unfold State.resetChannels
  repeat' (with_reducible
    first | assumption | exact su hw | intro _ | extract_lets | apply State.modU_keeps | apply State.modL_keeps
          | apply State.modF_keeps | apply keepsFold)

theorem State.dropBankCfg_keeps (s : State) (b : Fin 4) (hw : Sub 0x40000000 W) (h : Keeps W s0 s) :
    Keeps W s0 (s.dropBankCfg b) := bankCfg_keeps s _ hw (cellsWf_filter h.2.1.1.bankCfg) h

theorem execBankStart_keeps (b : Fin 4) (s : State) (hw : Sub 0x7F40000000 W) (hk_s : Keeps W s0 s) :
    KeepsO W s0 (execBankStart b s) := by
  unfold execBankStart
  repeat' (with_reducible
    first | assumption | exact su hw | intro _ | extract_lets | apply State.modBank_keeps | apply State.modDown_keeps
          | apply State.modUp_keeps | apply State.turnDown_keeps | apply State.turnUp_keeps | apply State.resetChannels_keeps
          | apply State.dropBankCfg_keeps | apply keepsIte | apply keepsO_next | apply linkOkNil | exact linkReset_ok
          | apply linkAck_ok | apply linkTurn_ok | apply linkResend_ok | split | refine linkOkMk ?_ rfl)

theorem execVfLoss_keeps (b : Fin 4) (s : State) (hw : Sub 0x7540000000 W) (hk_s : Keeps W s0 s) :
    KeepsO W s0 (execVfLoss b s) := by
  unfold execVfLoss
  repeat' (with_reducible
    first | assumption | exact su hw | intro _ | extract_lets | apply State.modBank_keeps | apply State.modUp_keeps
          | apply State.turnUp_keeps | apply State.resetChannels_keeps | apply State.dropBankCfg_keeps | apply keepsIte
          | apply keepsO_next | apply linkOkNil)

theorem execVfOutOfRange_keeps (b : Fin 4) (s : State) (hw : Sub 0x500000000 W) (hk_s : Keeps W s0 s) :
    KeepsO W s0 (execVfOutOfRange b s) := by
  unfold execVfOutOfRange
  repeat' (with_reducible
    first | assumption | exact su hw | intro _ | extract_lets | apply State.modBank_keeps | apply State.bankRaise_keeps
          | apply keepsIte | apply keepsO_next)

theorem execVfRangeRestored_keeps (b : Fin 4) (s : State) (hw : Sub 0x500000000 W) (hk_s : Keeps W s0 s) :
    KeepsO W s0 (execVfRangeRestored b s) := by
  unfold execVfRangeRestored
  repeat' (with_reducible
    first | assumption | exact su hw | intro _ | extract_lets | apply State.modBank_keeps | apply State.bankEnd_keeps
          | apply keepsIte | apply keepsO_next)

theorem State.hotOutputs_keeps (s : State) (b : Fin 4) (on : Bool) (hw : Sub 0x1000000000 W) (hk_s : Keeps W s0 s) :
    Keeps W s0 (State.hotOutputs s b on) := by
  unfold State.hotOutputs
  repeat' (with_reducible
    first | assumption | exact su hw | intro _ | extract_lets | apply State.uLive_keeps | apply State.uDiag_keeps
          | apply State.driveDo_keeps | apply keepsIte | apply keepsFold)

theorem execFieldDieOvertemp_keeps (b : Fin 4) (t : Int) (s : State) (hw : Sub 0x1500000000 W) (hk_s : Keeps W s0 s) :
    KeepsO W s0 (execFieldDieOvertemp b t s) := by
  unfold execFieldDieOvertemp
  repeat' (with_reducible
    first | assumption | exact su hw | intro _ | extract_lets | apply State.modBank_keeps | apply State.bankRaise_keeps
          | apply State.bankEnd_keeps | apply State.hotOutputs_keeps | apply keepsIte | apply keepsO_next)

theorem execLogicDieOvertemp_keeps (t : Int) (s : State) (hw : Sub 0x10000200000000000 W) (hk_s : Keeps W s0 s) :
    KeepsO W s0 (execLogicDieOvertemp t s) := by
  unfold execLogicDieOvertemp
  repeat' (with_reducible
    first | assumption | exact su hw | intro _ | extract_lets | apply State.raise_keeps | apply State.endFault_keeps
          | apply State.modSup_keeps | apply keepsIte | apply keepsO_next)

theorem State.storeSupplies_keeps (s : State) (m : Supplies) (hw : Sub 0x8 W) (hk_s : Keeps W s0 s) :
    Keeps W s0 (State.storeSupplies s m) := by
  unfold State.storeSupplies
  repeat' (with_reducible
    first | assumption | exact su hw | intro _ | extract_lets | apply State.setPAt_keeps | apply State.setP_keeps
          | apply State.setPI_keeps | apply keepsIte | apply keepsFold | split | dsimp +zetaDelta only | exact inn hw | omega)

theorem State.checkHold_keeps (s : State) (hw : Sub 0x10000200000000008 W) (hk_s : Keeps W s0 s) :
    Keeps W s0 (State.checkHold s) := by
  unfold State.checkHold
  repeat' (with_reducible
    first | assumption | exact su hw | intro _ | extract_lets | apply State.orP_keeps | apply State.raise_keeps
          | apply State.modSup_keeps | apply keepsIte | split | dsimp +zetaDelta only | exact inn hw | omega)

theorem State.checkRange_keeps (s : State) (bad : Bool) (hw : Sub 0x10000200000000008 W) (hk_s : Keeps W s0 s) :
    Keeps W s0 (State.checkRange s bad) := by
  unfold State.checkRange
  repeat' (with_reducible
    first | assumption | exact su hw | intro _ | extract_lets | apply State.orP_keeps | apply State.raise_keeps
          | apply State.endFault_keeps | apply State.modSup_keeps | apply keepsIte | split | dsimp +zetaDelta only
          | exact inn hw | omega)

theorem State.checkPower_keeps (s : State) (hw : Sub 0x10000200000000008 W) (hk_s : Keeps W s0 s) :
    Keeps W s0 (State.checkPower s) := by
  unfold State.checkPower
  repeat' (with_reducible
    first | assumption | exact su hw | intro _ | extract_lets | apply State.orP_keeps | apply State.raise_keeps
          | apply State.endFault_keeps | apply State.modSup_keeps | apply keepsIte | split | dsimp +zetaDelta only
          | exact inn hw | omega)

theorem State.checkPorts_keeps (s : State) (t : Int) (hw : Sub 0x10000200000000000 W) (hk_s : Keeps W s0 s) :
    Keeps W s0 (State.checkPorts s t) := by
  unfold State.checkPorts
  repeat' (with_reducible
    first | assumption | exact su hw | intro _ | extract_lets | apply State.raise_keeps | apply State.endFault_keeps
          | apply State.modSup_keeps | apply keepsIte)

theorem execSupplyMeasurement_keeps (m : Supplies) (s : State) (hw : Sub 0x10000200000000008 W) (hk_s : Keeps W s0 s) :
    KeepsO W s0 (execSupplyMeasurement m s) := by
  unfold execSupplyMeasurement
  repeat' (with_reducible
    first | assumption | exact su hw | apply State.storeSupplies_keeps | apply State.checkHold_keeps
          | apply State.checkRange_keeps | apply State.checkPower_keeps | apply State.checkPorts_keeps | apply keepsO_next)

/-! ### Params -/

theorem getParamCmd_keeps (s : State) (i : Nat) (hw : Sub 0x0 W) (hk_s : Keeps W s0 s) :
    KeepsR W s0 (getParamCmd s i) := by
  unfold getParamCmd
  repeat' (with_reducible
    first | assumption | exact su hw | extract_lets | apply refuse_keeps | apply keepsIte | split | apply keepsR_mk)

theorem getRegisters_keeps (s : State) (off len : Nat) (hw : Sub 0x80000000 W) (hk_s : Keeps W s0 s) :
    KeepsR W s0 (getRegisters s off len) := by
  unfold getRegisters
  repeat' (with_reducible
    first | assumption | exact su hw | intro _ | extract_lets | apply refuse_keeps | apply State.regReads_keeps
          | apply keepsIte | refine keepsSnd (by assumption) ?_ | split | apply keepsR_mk)

theorem getBlockCmd_keeps (s : State) (i off len : Nat) (hw : Sub 0x80000000 W) (hk_s : Keeps W s0 s) :
    KeepsR W s0 (getBlockCmd s i off len) := by
  unfold getBlockCmd
  repeat' (with_reducible
    first | assumption | exact su hw | intro _ | extract_lets | apply refuse_keeps | apply getRegisters_keeps | apply keepsIte
          | split | apply keepsR_mk)

theorem stageWrite_keeps (s : State) (cls inst : Nat) (r : AttrRow) (off : Nat) (data : List Byte) (hw : Sub 0x20000002 W)
    (hk_s : Keeps W s0 s) :
    KeepsR W s0 (stageWrite s cls inst r off data) := by
  unfold stageWrite
  repeat' (with_reducible
    first | assumption | exact su hw | intro _ | apply refuse_keeps | apply okRes_keeps | apply State.stageBytes_keeps
          | apply keepsIte)

theorem writeOutU_keeps (s : State) (u : Fin 16) (v : Nat) (hw : Sub 0x200000040 W) (hk_s : Keeps W s0 s) :
    KeepsR W s0 (writeOutU s u v) := by
  unfold writeOutU
  repeat' (with_reducible
    first | assumption | exact su hw | extract_lets | apply State.setP_keeps | apply refuse_keeps | apply okRes_keeps
          | apply State.sendImmU_keeps | apply keepsIte | split | apply keepsR_mk | dsimp +zetaDelta only | exact inn hw
          | omega)

theorem writeSetpoint_keeps (s : State) (u : Fin 16) (v : Int) (hw : Sub 0x200000200 W) (hk_s : Keeps W s0 s) :
    KeepsR W s0 (writeSetpoint s u v) := by
  unfold writeSetpoint
  repeat' (with_reducible
    first | assumption | exact su hw | extract_lets | apply State.setPI_keeps | apply refuse_keeps | apply okRes_keeps
          | apply State.sendImmU_keeps | apply keepsIte | split | apply keepsR_mk | dsimp +zetaDelta only | exact inn hw
          | omega)

theorem writeOutL_keeps (s : State) (l : Fin 8) (v : Nat) (hw : Sub 0x200000400 W) (hk_s : Keeps W s0 s) :
    KeepsR W s0 (writeOutL s l v) := by
  unfold writeOutL
  repeat' (with_reducible
    first | assumption | exact su hw | extract_lets | apply State.setP_keeps | apply refuse_keeps | apply okRes_keeps
          | apply State.sendImmL_keeps | apply keepsIte | split | apply keepsR_mk | dsimp +zetaDelta only | exact inn hw
          | omega)

theorem writeOutG_keeps (s : State) (g : Fin 4) (v : Nat) (hw : Sub 0x200000800 W) (hk_s : Keeps W s0 s) :
    KeepsR W s0 (writeOutG s g v) := by
  unfold writeOutG
  repeat' (with_reducible
    first | assumption | exact su hw | apply State.setP_keeps | apply refuse_keeps | apply okRes_keeps
          | apply State.sendImmG_keeps | apply keepsIte | split | apply keepsR_mk | exact inn hw | omega)

theorem writeCounter_keeps (s : State) (f : Fin 8) (v : Word) (hw : Sub 0x200000000 W) (hk_s : Keeps W s0 s) :
    KeepsR W s0 (writeCounter s f v) := by
  unfold writeCounter
  repeat' (with_reducible first | assumption | exact su hw | apply State.sendDown_keeps | apply okRes_keeps | apply keepsIte)

theorem writeNow_keeps (s : State) (ep : Fin 8) (cls inst attr : Nat) (data : List Byte) (hw : Sub 0x6DBD64D28FFFFFFF W)
    (hk_s : Keeps W s0 s) :
    KeepsR W s0 (writeNow s ep cls inst attr data) := by
  unfold writeNow
  repeat' (with_reducible
    first | assumption | exact su hw | intro _ | extract_lets | apply State.setBytes_any | apply State.setP_any
          | apply State.modEp_keeps | apply okRes_keeps | apply epochSet_keeps | apply ppsTodSeconds_keeps
          | apply capturePop_keeps | apply latchAt_keeps | apply syncAt_keeps | apply forcePointCmd_keeps
          | apply releasePointCmd_keeps | apply logPop_keeps | apply wdtResetCount_keeps | apply macFlushCmd_keeps
          | apply pairReadmit_keeps | apply userXfer_keeps | apply arbPriority_keeps | apply State.clearUserIn_keeps
          | apply writeOutU_keeps | apply writeSetpoint_keeps | apply writeOutL_keeps | apply writeOutG_keeps
          | apply writeCounter_keeps | split | apply keepsR_mk | refine epOkMk ?_ rfl | dsimp +zetaDelta only
          | exact allParams hw)

theorem State.clearBits_keeps (s : State) (n cls inst attr mask : Nat) (hw : Sub 0xFFFFFFF W) (hk_s : Keeps W s0 s) :
    Keeps W s0 (State.clearBits s n cls inst attr mask) := by
  unfold State.clearBits
  repeat' (with_reducible
    first | assumption | exact su hw | extract_lets | apply State.setP_any | dsimp +zetaDelta only | exact allParams hw)

theorem State.sendDiag_keeps (s : State) (b : Fin 4) (cls inst mask : Nat) (hw : Sub 0x200000000 W) (hk_s : Keeps W s0 s) :
    Keeps W s0 (State.sendDiag s b cls inst mask) := by
  unfold State.sendDiag
  repeat' (with_reducible first | assumption | exact su hw | apply State.sendDown_keeps | apply keepsIte)

theorem State.clearGroupDiag_keeps (s : State) (g : Fin 4) (mask : Nat) (hw : Sub 0x20FFFFFFF W) (hk_s : Keeps W s0 s) :
    Keeps W s0 (State.clearGroupDiag s g mask) := by
  unfold State.clearGroupDiag
  repeat' (with_reducible
    first | assumption | exact su hw | intro _ | extract_lets | apply State.sendHold_keeps | apply State.clearBits_keeps
          | apply State.sendDiag_keeps | apply keepsIte | apply keepsFold)

theorem State.clearSwitchDiag_keeps (s : State) (mask : Nat) (hw : Sub 0x10000000FFFFFFF W) (hk_s : Keeps W s0 s) :
    Keeps W s0 (State.clearSwitchDiag s mask) := by
  unfold State.clearSwitchDiag
  repeat' (with_reducible
    first | assumption | exact su hw | extract_lets | apply State.setP_any | apply State.clearBits_keeps
          | dsimp +zetaDelta only | refine keeps_sw ?_ ?_ | exact allParams hw)

theorem State.clearPortDiag_keeps (s : State) (p : Fin 3) (mask : Nat) (hw : Sub 0x10000000FFFFFFF W) (hk_s : Keeps W s0 s) :
    Keeps W s0 (State.clearPortDiag s p mask) := by
  unfold State.clearPortDiag
  repeat' (with_reducible
    first | assumption | exact su hw | extract_lets | apply State.clearBits_keeps | dsimp +zetaDelta only
          | refine keeps_sw ?_ ?_)

theorem State.clearMspDiag_keeps (s : State) (mask : Nat) (hw : Sub 0xFFFFFFF W) (hk_s : Keeps W s0 s) :
    Keeps W s0 (State.clearMspDiag s mask) := by
  unfold State.clearMspDiag
  repeat' (with_reducible
    first | assumption | exact su hw | extract_lets | apply State.setBytes_any | apply State.clearBits_keeps | apply keepsIte
          | split | dsimp +zetaDelta only | exact allParams hw)

theorem State.clearAttr_keeps (s : State) (cls inst : Nat) (r : AttrRow) (data : List Byte) (hw : Sub 0x50400120FFFFFFF W)
    (hk_s : Keeps W s0 s) :
    Keeps W s0 (State.clearAttr s cls inst r data) := by
  unfold State.clearAttr
  repeat' (with_reducible
    first | assumption | exact su hw | intro _ | extract_lets | apply State.modU_keeps | apply State.clearDb_keeps
          | apply State.clearBits_keeps | apply State.sendDiag_keeps | apply State.clearGroupDiag_keeps
          | apply State.clearSwitchDiag_keeps | apply State.clearPortDiag_keeps | apply State.clearMspDiag_keeps
          | apply keepsIte | split)

theorem setParamCmd_keeps (s : State) (ep : Fin 8) (i : Nat) (value : List Byte) (hw : Sub 0x6DBD64D2AFFFFFFF W)
    (hk_s : Keeps W s0 s) :
    KeepsR W s0 (setParamCmd s ep i value) := by
  unfold setParamCmd
  repeat' (with_reducible
    first | assumption | exact su hw | extract_lets | apply refuse_keeps | apply okRes_keeps | apply stageWrite_keeps
          | apply writeNow_keeps | apply State.clearAttr_keeps | apply keepsIte | split)

theorem setBlockCmd_keeps (s : State) (ep : Fin 8) (i off : Nat) (data : List Byte) (hw : Sub 0x20000002 W)
    (hk_s : Keeps W s0 s) :
    KeepsR W s0 (setBlockCmd s ep i off data) := by
  unfold setBlockCmd
  repeat' (with_reducible
    first | assumption | exact su hw | extract_lets | apply refuse_keeps | apply stageWrite_keeps | apply keepsIte | split)

theorem execGetParam_keeps (q : Req) (index : BitVec 32) (s : State) (hw : Sub 0x5BC200000E80000 W) (hk_s : Keeps W s0 s) :
    KeepsO W s0 (execGetParam q index s) := by
  unfold execGetParam
  repeat' (with_reducible
    first | assumption | exact su hw | apply State.finish_keeps | apply CmdRes.finish_keeps | apply getParamCmd_keeps
          | apply keepsO_next)

theorem execSetParam_keeps (q : Req) (index : BitVec 32) (value : List Byte) (s : State) (hw : Sub 0x6DBD64D2AFFFFFFF W)
    (hk_s : Keeps W s0 s) :
    KeepsO W s0 (execSetParam q index value s) := by
  unfold execSetParam
  repeat' (with_reducible
    first | assumption | exact su hw | apply State.finish_keeps | apply CmdRes.finish_keeps | apply setParamCmd_keeps
          | apply keepsO_next)

theorem execGetBlock_keeps (q : Req) (index off : BitVec 32) (len : BitVec 16) (s : State) (hw : Sub 0x5BC200080E80000 W)
    (hk_s : Keeps W s0 s) :
    KeepsO W s0 (execGetBlock q index off len s) := by
  unfold execGetBlock
  repeat' (with_reducible
    first | assumption | exact su hw | apply State.finish_keeps | apply CmdRes.finish_keeps | apply getBlockCmd_keeps
          | apply keepsO_next)

theorem execSetBlock_keeps (q : Req) (index off : BitVec 32) (data : List Byte) (s : State) (hw : Sub 0x5BC200020E80002 W)
    (hk_s : Keeps W s0 s) :
    KeepsO W s0 (execSetBlock q index off data s) := by
  unfold execSetBlock
  repeat' (with_reducible
    first | assumption | exact su hw | apply State.finish_keeps | apply CmdRes.finish_keeps | apply setBlockCmd_keeps
          | apply keepsO_next)

/-! ### TakeUp -/

theorem runCommit_keeps (s : State) (q : Req) (p : List Byte) (hw : Sub 0x5FC240A00E80002 W) (hk_s : Keeps W s0 s) :
    Keeps W s0 (runCommit s q p) := by
  unfold runCommit
  repeat' (with_reducible
    first | assumption | exact su hw | intro _ | apply State.finish_keeps | apply CmdRes.finish_keeps
          | apply commitConfig_keeps)

theorem runLoadRules_keeps (s : State) (q : Req) (p : List Byte) (hw : Sub 0x35BC380002E80000 W) (hk_s : Keeps W s0 s) :
    Keeps W s0 (runLoadRules s q p) := by
  unfold runLoadRules
  repeat' (with_reducible
    first | assumption | exact su hw | intro _ | extract_lets | apply okRes_keeps | apply State.finish_keeps
          | apply CmdRes.finish_keeps | apply CmdRes.startLong_keeps | apply State.modGlade_keeps | apply loadBegin_keeps
          | apply loadData_keeps | apply loadVerify_keeps | apply loadEnd_keeps | apply keepsIte
          | refine keepsOptR (by assumption) ?_ | exact gladeOkRefl (by assumption) | split | apply keepsR_mk
          | refine gladeOkMk ?_ rfl rfl ?_ | dsimp +zetaDelta only | exact sameRfl | exact sameIn hw)

theorem startJournalRead_keeps (s : State) (q : Req) (p : List Byte) (hw : Sub 0x5BC200000E80000 W) (hk_s : Keeps W s0 s) :
    Keeps W s0 (startJournalRead s q p) := by
  unfold startJournalRead
  repeat' (with_reducible
    first | assumption | exact su hw | intro _ | extract_lets | apply State.finish_keeps | apply CmdRes.finish_keeps
          | apply CmdRes.startLong_keeps | apply journalRead_keeps | apply keepsIte | refine keepsFstR (by assumption) ?_
          | split | dsimp +zetaDelta only | refine keeps_mbx rfl rfl ?_ ?_ ?_ | exact sameRfl | exact sameIn hw)

theorem startFwEnd_keeps (s : State) (q : Req) (hw : Sub 0x345BC200000E80000 W) (hk_s : Keeps W s0 s) :
    Keeps W s0 (startFwEnd s q) := by
  unfold startFwEnd
  repeat' (with_reducible
    first | assumption | exact su hw | extract_lets | apply State.draw_keeps | apply okRes_keeps | apply State.finish_keeps
          | apply CmdRes.finish_keeps | apply CmdRes.startLong_keeps
          | refine fwVerify_keeps _ _ _ (su hw) ?_ _ (by assumption) | refine keepsSnd (by assumption) ?_ | split)

theorem runCalibrate_keeps (s : State) (q : Req) (p : List Byte) (hw : Sub 0x5BC201220E80002 W) (hk_s : Keeps W s0 s) :
    Keeps W s0 (runCalibrate s q p) := by
  unfold runCalibrate
  repeat' (with_reducible
    first | assumption | exact su hw | extract_lets | apply State.finish_keeps | apply CmdRes.finish_keeps
          | apply guardWrite_keeps | apply rotateNow_keeps | apply trimPoint_keeps | apply trimApply_keeps | apply keepsIte
          | split)

theorem startRehearse_keeps (s : State) (q : Req) (p : List Byte) (hw : Sub 0x45BC600000EA0000 W) (hk_s : Keeps W s0 s) :
    Keeps W s0 (startRehearse s q p) := by
  unfold startRehearse
  repeat' (with_reducible
    first | assumption | exact su hw | extract_lets | apply State.finish_keeps | apply CmdRes.finish_keeps
          | apply CmdRes.startLong_keeps | apply rehearse_keeps | apply keepsIte)

theorem runCommand_keeps (s : State) (q : Req) (op : Nat) (p : List Byte) (hw : Sub 0x37DFD7EDAAFFFFFFF W)
    (hk_s : Keeps W s0 s) :
    Keeps W s0 (runCommand s q op p) := by
  unfold runCommand
  repeat' (with_reducible
    first | assumption | exact su hw | intro _ | extract_lets | apply State.finish_keeps | apply CmdRes.finish_keeps
          | apply scheduleOutput_keeps | apply cancelSchedule_keeps | apply swapRules_keeps | apply State.collectAll_keeps
          | apply clearSafe_keeps | apply liveness_keeps | apply discardConfig_keeps | apply fwBegin_keeps
          | apply abortCmd_keeps | apply State.negotiated_keeps | apply ping_keeps | apply startFwData_keeps
          | apply getParamCmd_keeps | apply getBlockCmd_keeps | apply setParamCmd_keeps | apply setBlockCmd_keeps
          | apply runCommit_keeps | apply runLoadRules_keeps | apply startJournalRead_keeps | apply startFwEnd_keeps
          | apply runCalibrate_keeps | apply startRehearse_keeps | split)

theorem State.perform_keeps (s : State) (q : Req) (o : Outstanding) (hw : Sub 0x37DFD7EDAAFFFFFFF W) (hk_s : Keeps W s0 s) :
    Keeps W s0 (State.perform s q o) := by
  unfold State.perform
  repeat' (with_reducible
    first | assumption | exact su hw | extract_lets | apply State.finish_keeps | apply CmdRes.finish_keeps
          | apply runCommand_keeps | apply keepsIte | split)

theorem State.noteHighest_keeps (s : State) (ep : Fin 8) (seq : Word) (hw : Sub 0x800000000000000 W) (hk_s : Keeps W s0 s) :
    Keeps W s0 (State.noteHighest s ep seq) := by
  unfold State.noteHighest
  repeat' (with_reducible
    first | assumption | exact su hw | intro _ | extract_lets | apply State.modPair_keeps | apply keepsIte)

theorem State.takeCommand_keeps (s : State) (hw : Sub 0x37DFD7EDAAFFFFFFF W) (hk_s : Keeps W s0 s) :
    Keeps W s0 (State.takeCommand s) := by
  unfold State.takeCommand
  repeat' (with_reducible
    first | assumption | exact su hw | extract_lets | apply State.underEpoch_keeps | apply State.perform_keeps
          | apply State.noteHighest_keeps | split | dsimp +zetaDelta only | refine keeps_mbx rfl rfl ?_ ?_ ?_ | exact sameRfl
          | exact sameIn hw)

theorem execCommandTakeUp_keeps (s : State) (hw : Sub 0x37DFD7EDAAFFFFFFF W) (hk_s : Keeps W s0 s) :
    KeepsO W s0 (execCommandTakeUp s) := by
  unfold execCommandTakeUp
  repeat' (with_reducible
    first | assumption | exact su hw | intro _ | apply State.pairSwaps_keeps | apply State.adoptDue_keeps
          | apply State.takeCommand_keeps | apply keepsO_next)

end Sys2Proof.Machine
end

