-- ==== Sys2Proof/Laws/KeepsExec.lean ====
section
/-! SUPPORT. Every command at once: it goes on, it keeps the queue and the invariant, and it changes no part outside its set. -/

namespace Sys2Proof.Machine

set_option Elab.async false

/-- A set lies within itself. -/
theorem subRefl {A : Nat} : Sub A A := fun _ h => h

/-- The set of parts that a command may change, as the bits of `Agree`. -/
def maskOf : Instr → Nat
  | .linkStart .. => 0x10000000E00000000
  | .linkStartSyncReceived .. => 0x20000227F40002020
  | .syncCellReceived .. => 0x20000227F40002020
  | .statusCellReceived .. => 0x45FC665F08E92FF0
  | .idleCellReceived .. => 0x205F00000020
  | .sampleCellReceived .. => 0x245F00000060
  | .edgeCellReceived .. => 0x424DF00000060
  | .countCellReceived .. => 0x245F00001020
  | .lswCellReceived .. => 0x255F00000C20
  | .faultCellReceived .. => 0x215F00000820
  | .calCellReceived .. => 0x245F080000A0
  | .cfgCellReceived .. => 0x207F40000020
  | .shareReportReceived .. => 0x4044245F00000022
  | .outCellReceived .. => 0x207F00000020
  | .forceCellReceived .. => 0x203F00000020
  | .safeCellReceived .. => 0x203F00000020
  | .schedCellReceived .. => 0x227F00002020
  | .cancelMarkerReceived .. => 0x207F00000020
  | .outcomeReportReceived .. => 0x45BC225F00E82020
  | .cellResendTimeout .. => 0x600000020
  | .linkSilenceTimeout .. => 0x3500000000
  | .logicSilenceTimeout .. => 0x4044640A00000020
  | .bankSyncGap .. => 0x180000000
  | .gptpSyncReceived .. => 0x4584240080600000
  | .syncLossTimeout .. => 0x4404040080000000
  | .bestMasterChange .. => 0x4484040080000000
  | .announceReceiptTimeout .. => 0x4484040080000000
  | .holdoverEvaluation .. => 0x4404000080000000
  | .ppsInEdge .. => 0x4484240080000010
  | .ppsLostTimeout .. => 0x4404040080000000
  | .ppsOutRise .. => 0x80000000
  | .ppsOutFall .. => 0x80000000
  | .syncIntervalBoundary .. => 0x18020008FFFFFFF
  | .epochSet .. => 0x45BC200080E80010
  | .ppsTodSeconds .. => 0x5BC200080E80010
  | .latchedRegisterRead .. => 0x80000000
  | .mclkRephaseEnd .. => 0x100000000
  | .diComparatorTransition .. => 0x5400000000
  | .debounceExpiry .. => 0x5400000000
  | .wireBreakWindowExpiry .. => 0x5400000000
  | .openTerminalTest .. => 0x1400000000
  | .wideTapWord .. => 0x20000001500000000
  | .protectOff .. => 0x1400000000
  | .protectOffReclose .. => 0x1400000000
  | .overRangePersist .. => 0x1400000000
  | .doScTimeExpiry .. => 0x1400000000
  | .doRestart .. => 0x1400000000
  | .doOpenLoad .. => 0x1400000000
  | .doShortToSupply .. => 0x1400000000
  | .frontEndSettled .. => 0x1000000000
  | .mainSampleDue .. => 0x20000001400000000
  | .rotationSlotStart .. => 0x1100000000
  | .reliefCalEnd .. => 0x1500000000
  | .rotationPhaseEnd .. => 0x1100000000
  | .chCheckEnd .. => 0x1500000000
  | .overlapEnd .. => 0x1500000000
  | .rotationCutShort .. => 0x1100000000
  | .slotEndCrossCheck .. => 0x1500000000
  | .heavyClampStart .. => 0x1500000000
  | .heavyClampEnd .. => 0x4000001400000000
  | .dieTemperatureRead .. => 0x100000000
  | .rotateNow .. => 0x5BC200200E80000
  | .trimPoint .. => 0x5BC201000E80000
  | .trimApply .. => 0x5BC200020E80002
  | .calRecordWriteDone .. => 0x31000200008000000
  | .syncInEdge .. => 0x201280000100
  | .syncAt .. => 0x5BC201200E80100
  | .decimatorSyncInstant .. => 0x4000007540000100
  | .filterParityError .. => 0x1400000000
  | .powerStageEvaluation .. => 0x2500000000
  | .limitTimeExpiry .. => 0x2400000000
  | .retryPeriodExpiry .. => 0x2500000000
  | .thermalShutdown .. => 0x2500000000
  | .thermalRestart .. => 0x2500000000
  | .clampIntervalStart .. => 0x2000000000
  | .clampIntervalEnd .. => 0x2400000000
  | .clampUnlock .. => 0x2500000000
  | .lswOpenLoad .. => 0x202400000800
  | .lswShortToSupply .. => 0x2500000000
  | .lswReverseCurrent .. => 0x2500000000
  | .powerDieExchangeLost .. => 0x2400000000
  | .groupLaunchInstant .. => 0x3500000000
  | .vfSpreadCheck .. => 0x210200000800
  | .balanceUpdate .. => 0x2100000000
  | .balanceLost .. => 0x200000000800
  | .memberExclusion .. => 0x2500000000
  | .groupTrip .. => 0x2500000000
  | .groupOverloadEnd .. => 0x200000800
  | .groupThermal .. => 0x210200000800
  | .fastInputEdge .. => 0x4400000000
  | .counterWrite .. => 0x204F00000020
  | .capturePop .. => 0x5BC20C000E80000
  | .frequencyGateEnd .. => 0x4000000000
  | .stopTimeout .. => 0x4000000000
  | .latchTrigger .. => 0x4400000000
  | .latchAt .. => 0x5BC200200E80000
  | .namedLatchInstant .. => 0x4400000000
  | .scheduleOutput .. => 0x5BC220200E82000
  | .cancelSchedule .. => 0x45BC220200E82000
  | .scheduleApplyInstant .. => 0x27540002000
  | .pulseRelease .. => 0x3500000000
  | .heldEntryResume .. => 0x3500000000
  | .holdLimitExpiry .. => 0x500000000
  | .publicationInstant .. => 0x1580240000E04000
  | .eventGroupPublish .. => 0x1580240000E04000
  | .heartbeatExpiry .. => 0x1580240000E04000
  | .pubFrameReceived .. => 0x400240000004000
  | .staleCheck .. => 0x240000004000
  | .forcePoint .. => 0x5BC240000E80000
  | .releasePoint .. => 0x5BC240000E80000
  | .fastPass .. => 0x200042C0200008000
  | .mainPass .. => 0x75DFC6D0A8FFFFFFF
  | .forceRepeat .. => 0x80200000000
  | .loadRulesBegin .. => 0x5BC380000E80000
  | .loadRulesData .. => 0x5BC380000E80000
  | .loadRulesEnd .. => 0x35BC280002E80000
  | .swapRules .. => 0x5BC280000E80000
  | .ruleSwapExecute .. => 0x75DFC6D0A8FFFFFFF
  | .faultCollect .. => 0x14404640200830000
  | .faultWindowExpiry .. => 0x200000000000
  | .safeRefresh .. => 0x400200000000
  | .selfProtectionCheck .. => 0x10005640200010000
  | .safeInAssertion .. => 0x4640200010000
  | .clearSafe .. => 0x145BC640200EB0000
  | .clearAutonomousSend .. => 0x400200000000
  | .liveness .. => 0x5BC600000EC0000
  | .livenessTimeout .. => 0x600000040000
  | .wdtEnable .. => 0xA00000040000
  | .wdtService .. => 0x10005E40200050000
  | .wdtPeriodWrite .. => 0xA00000040000
  | .wdtIntervalEnd .. => 0x10005E40200010000
  | .clockMonitorWindow .. => 0x10005E40200050000
  | .heartwoodWrite .. => 0x1400000000000
  | .wdtResetCount .. => 0x5BD200000E80000
  | .logPop .. => 0x5BC600000E80000
  | .rehearseReaction .. => 0x45BC600000EA0000
  | .hslFrameStart .. => 0x2000000000000
  | .hslFrameEnd .. => 0x135BEAC0080FC2000
  | .nop .. => 0x2000000000000
  | .readReg .. => 0x12200080080000
  | .writeReg .. => 0x5BEA40080EC2000
  | .readBuf .. => 0x2000000000000
  | .writeBuf .. => 0xA000000000000
  | .word .. => 0x5BE200000E80000
  | .doorbell .. => 0x135BE2C0000E80000
  | .ident .. => 0x2000000000000
  | .repeatReply .. => 0x2000000000000
  | .frameTimeout .. => 0x2200000100000
  | .hostTimeout .. => 0x2200000100000
  | .commandTakeUp .. => 0x37DFD7EDAAFFFFFFF
  | .longCommandComplete .. => 0x375BC280002E80000
  | .ping .. => 0x5BC200000E80000
  | .getParam .. => 0x5BC200000E80000
  | .setParam .. => 0x6DBD64D2AFFFFFFF
  | .getBlock .. => 0x5BC200080E80000
  | .setBlock .. => 0x5BC200020E80002
  | .commitConfig .. => 0x5FC240A00E80002
  | .discardConfig .. => 0x5BC200020E80002
  | .journalRead .. => 0x5BC200000E80000
  | .fwUpdateBegin .. => 0x135BC200000E80000
  | .fwUpdateData .. => 0x115BC200000E80000
  | .fwUpdateEnd .. => 0x175BC200002E80000
  | .abort .. => 0x135BC280000E80000
  | .abortDone .. => 0x4000000000000
  | .negotiate .. => 0x5BC200000E80000
  | .mbxAckPop .. => 0x5BC200000E80000
  | .mbxClaim .. => 0x10200000080000
  | .mbxRelease .. => 0x10000000080000
  | .mbxH2dClear .. => 0x4040000000000
  | .registerWrite .. => 0x5BCA40080EC2000
  | .stagedHashReady .. => 0x2
  | .commitApply .. => 0x75DFC6D0A8FFFFFFF
  | .bankShareApply .. => 0x27540002000
  | .commitJournal .. => 0x4040000000000000
  | .persistDone .. => 0x33000200002000002
  | .portLinkDown .. => 0x24D84240080E00000
  | .portLinkUp .. => 0x484200000000000
  | .frameReceived .. => 0xB80200000600000
  | .gateIntervalBoundary .. => 0x80000000000000
  | .gateListChange .. => 0x80000000000000
  | .macAgeing .. => 0x100000000400000
  | .macFlush .. => 0x5BC200000E80000
  | .latentTestPeriod .. => 0x100200000400000
  | .recoveryResetTimeout .. => 0x100000000000000
  | .tableEccRewrite .. => 0x100200000400000
  | .pdelayReq .. => 0x24584240080600000
  | .ringTestInterval .. => 0x20D80200000E00000
  | .topologyFrameReceived .. => 0x20F80200000E00000
  | .gclFrameReceived .. => 0xE00200000A00000
  | .helloReceived .. => 0xD80200001E00000
  | .helloSend .. => 0x580200000E00000
  | .nodeTimeout .. => 0xD80200001E00000
  | .duplicateTimeout .. => 0xC00200001800000
  | .gclNegotiate .. => 0xD80200001E00000
  | .cmdFrame .. => 0x4DBC600001EC0000
  | .notify .. => 0x20580200000E00000
  | .notifyRepeat .. => 0x20580200000E00000
  | .schedFrame .. => 0x4DBC600001EC0000
  | .syncRequest .. => 0x24DBC601201E80100
  | .journalFrameSend .. => 0x580200000E00000
  | .arbEpoch .. => 0x4DBC600001E80000
  | .epochEffective .. => 0x4DBC600001E80000
  | .arbSwap .. => 0xC00000000000000
  | .arbQuery .. => 0xD80200001E00000
  | .arbReport .. => 0xD80200000E00000
  | .pairWaitExpiry .. => 0x824200001000000
  | .takeover .. => 0x200001000000
  | .queryRepeat .. => 0xD80200001E00000
  | .arbTimeout .. => 0x800200000000000
  | .pairReadmit .. => 0xDBC200001E80000
  | .rangerListenTimeout .. => 0xD80200001E00000
  | .rangerEpochRepeat .. => 0xD80200000E00000
  | .pairSwapInstant .. => 0x800200001000000
  | .ringSwapInstant .. => 0x20D80200001E00000
  | .ringCopyMissing .. => 0x800200001000000
  | .mspEntryComplete .. => 0x12000200002000000
  | .xipFill .. => 0x2000000002000000
  | .xipWriteGather .. => 0x12000000002000000
  | .xipGatherTimeout .. => 0x2000000000000000
  | .xipFlush .. => 0x2000000000000000
  | .xipErase .. => 0x12000000002000000
  | .norStatusPoll .. => 0x33000200002000000
  | .userXfer .. => 0x25BC200002E80000
  | .continueTimeout .. => 0x2000200002000000
  | .arbPriorityWrite .. => 0x5BC200002E80000
  | .journalRecord .. => 0xC004000004000000
  | .journalFlush .. => 0x8000200004000000
  | .nandOperationFail .. => 0xC000200004000000
  | .scrub .. => 0xC000200004000000
  | .patrolRead .. => 0xE000200004000000
  | .journalMount .. => 0x2C000200004000000
  | .powerFailDetection .. => 0x12001200002000000
  | .powerFailCommitEnd .. => 0x3C004000004000000
  | .epochSectorRecord .. => 0x1000040000000000
  | .logicReset .. => 0x7FFFFFFDEAFFFFFFF
  | .resetNEdge .. => 0x10000000000000000
  | .supResetKey .. => 0x10000000000000000
  | .supplyGood .. => 0x10000000000000000
  | .bootRomStart .. => 0x3A001A0008A040000
  | .bootFailureRelease .. => 0x2000000000000000
  | .firmwareStart .. => 0x1C001240004044000
  | .configImageLoad .. => 0x34DBC3D0AAFFFFFFF
  | .firebreakArm .. => 0x10000400000000000
  | .endpointsOpen .. => 0x10005000000000000
  | .bankStart .. => 0x7F40000000
  | .bankArrivalInstant .. => 0x27540002000
  | .vfLoss .. => 0x7540000000
  | .vfOutOfRange .. => 0x500000000
  | .supplyMeasurement .. => 0x10000200000000008
  | .holdReadyChange .. => 0x10000200000000000
  | .fieldDieOvertemp .. => 0x1500000000
  | .logicDieOvertemp .. => 0x10000200000000000
  | .safeInRelease .. => 0x600000000000
  | .resetNRise .. => 0x10000000000000000
  | .rangerStandDownTimeout .. => 0x800200001000000
  | .powerDieExchangeResumed .. => 0x2400000000
  | .vfRangeRestored .. => 0x500000000
  | .vholdCut .. => 0x10000000000000000
  | .announceInterval .. => 0x180200000600000

/-- Every command goes on, keeps the queue and the invariant, and leaves every part outside its set. -/
theorem exec_keeps (c : Instr) (s0 s : State) (h : Keeps (maskOf c) s0 s) : KeepsO (maskOf c) s0 (exec c s) := by
  cases c
  case linkStart => dsimp only [exec, maskOf] at h ⊢; with_reducible apply execLinkStart_keeps <;> first | assumption | exact subRefl
  case linkStartSyncReceived => dsimp only [exec, maskOf] at h ⊢; with_reducible apply execLinkStartSyncReceived_keeps <;> first | assumption | exact subRefl
  case syncCellReceived => dsimp only [exec, maskOf] at h ⊢; with_reducible apply execSyncCellReceived_keeps <;> first | assumption | exact subRefl
  case statusCellReceived => dsimp only [exec, maskOf] at h ⊢; with_reducible apply execStatusCellReceived_keeps <;> first | assumption | exact subRefl
  case idleCellReceived => dsimp only [exec, maskOf] at h ⊢; with_reducible apply execIdleCellReceived_keeps <;> first | assumption | exact subRefl
  case sampleCellReceived => dsimp only [exec, maskOf] at h ⊢; with_reducible apply execSampleCellReceived_keeps <;> first | assumption | exact subRefl
  case edgeCellReceived => dsimp only [exec, maskOf] at h ⊢; with_reducible apply execEdgeCellReceived_keeps <;> first | assumption | exact subRefl
  case countCellReceived => dsimp only [exec, maskOf] at h ⊢; with_reducible apply execCountCellReceived_keeps <;> first | assumption | exact subRefl
  case lswCellReceived => dsimp only [exec, maskOf] at h ⊢; with_reducible apply execLswCellReceived_keeps <;> first | assumption | exact subRefl
  case faultCellReceived => dsimp only [exec, maskOf] at h ⊢; with_reducible apply execFaultCellReceived_keeps <;> first | assumption | exact subRefl
  case calCellReceived => dsimp only [exec, maskOf] at h ⊢; with_reducible apply execCalCellReceived_keeps <;> first | assumption | exact subRefl
  case cfgCellReceived => dsimp only [exec, maskOf] at h ⊢; with_reducible apply execCfgCellReceived_keeps <;> first | assumption | exact subRefl
  case shareReportReceived => dsimp only [exec, maskOf] at h ⊢; with_reducible apply execShareReportReceived_keeps <;> first | assumption | exact subRefl
  case outCellReceived => dsimp only [exec, maskOf] at h ⊢; with_reducible apply execOutCellReceived_keeps <;> first | assumption | exact subRefl
  case forceCellReceived => dsimp only [exec, maskOf] at h ⊢; with_reducible apply execForceCellReceived_keeps <;> first | assumption | exact subRefl
  case safeCellReceived => dsimp only [exec, maskOf] at h ⊢; with_reducible apply execSafeCellReceived_keeps <;> first | assumption | exact subRefl
  case schedCellReceived => dsimp only [exec, maskOf] at h ⊢; with_reducible apply execSchedCellReceived_keeps <;> first | assumption | exact subRefl
  case cancelMarkerReceived => dsimp only [exec, maskOf] at h ⊢; with_reducible apply execCancelMarkerReceived_keeps <;> first | assumption | exact subRefl
  case outcomeReportReceived => dsimp only [exec, maskOf] at h ⊢; with_reducible apply execOutcomeReportReceived_keeps <;> first | assumption | exact subRefl
  case cellResendTimeout => dsimp only [exec, maskOf] at h ⊢; with_reducible apply execCellResendTimeout_keeps <;> first | assumption | exact subRefl
  case linkSilenceTimeout => dsimp only [exec, maskOf] at h ⊢; with_reducible apply execLinkSilenceTimeout_keeps <;> first | assumption | exact subRefl
  case logicSilenceTimeout => dsimp only [exec, maskOf] at h ⊢; with_reducible apply execLogicSilenceTimeout_keeps <;> first | assumption | exact subRefl
  case bankSyncGap => dsimp only [exec, maskOf] at h ⊢; with_reducible apply execBankSyncGap_keeps <;> first | assumption | exact subRefl
  case gptpSyncReceived => dsimp only [exec, maskOf] at h ⊢; with_reducible apply execGptpSyncReceived_keeps <;> first | assumption | exact subRefl
  case syncLossTimeout => dsimp only [exec, maskOf] at h ⊢; with_reducible apply execSyncLossTimeout_keeps <;> first | assumption | exact subRefl
  case bestMasterChange => dsimp only [exec, maskOf] at h ⊢; with_reducible apply execBestMasterChange_keeps <;> first | assumption | exact subRefl
  case announceReceiptTimeout => dsimp only [exec, maskOf] at h ⊢; with_reducible apply execAnnounceReceiptTimeout_keeps <;> first | assumption | exact subRefl
  case holdoverEvaluation => dsimp only [exec, maskOf] at h ⊢; with_reducible apply execHoldoverEvaluation_keeps <;> first | assumption | exact subRefl
  case ppsInEdge => dsimp only [exec, maskOf] at h ⊢; with_reducible apply execPpsInEdge_keeps <;> first | assumption | exact subRefl
  case ppsLostTimeout => dsimp only [exec, maskOf] at h ⊢; with_reducible apply execPpsLostTimeout_keeps <;> first | assumption | exact subRefl
  case ppsOutRise => dsimp only [exec, maskOf] at h ⊢; with_reducible apply execPpsOutRise_keeps <;> first | assumption | exact subRefl
  case ppsOutFall => dsimp only [exec, maskOf] at h ⊢; with_reducible apply execPpsOutFall_keeps <;> first | assumption | exact subRefl
  case syncIntervalBoundary => dsimp only [exec, maskOf] at h ⊢; with_reducible apply execSyncIntervalBoundary_keeps <;> first | assumption | exact subRefl
  case epochSet => dsimp only [exec, maskOf] at h ⊢; with_reducible apply execEpochSet_keeps <;> first | assumption | exact subRefl
  case ppsTodSeconds => dsimp only [exec, maskOf] at h ⊢; with_reducible apply execPpsTodSeconds_keeps <;> first | assumption | exact subRefl
  case latchedRegisterRead => dsimp only [exec, maskOf] at h ⊢; with_reducible apply execLatchedRegisterRead_keeps <;> first | assumption | exact subRefl
  case mclkRephaseEnd => dsimp only [exec, maskOf] at h ⊢; with_reducible apply execMclkRephaseEnd_keeps <;> first | assumption | exact subRefl
  case diComparatorTransition => dsimp only [exec, maskOf] at h ⊢; with_reducible apply execDiComparatorTransition_keeps <;> first | assumption | exact subRefl
  case debounceExpiry => dsimp only [exec, maskOf] at h ⊢; with_reducible apply execDebounceExpiry_keeps <;> first | assumption | exact subRefl
  case wireBreakWindowExpiry => dsimp only [exec, maskOf] at h ⊢; with_reducible apply execWireBreakWindowExpiry_keeps <;> first | assumption | exact subRefl
  case openTerminalTest => dsimp only [exec, maskOf] at h ⊢; with_reducible apply execOpenTerminalTest_keeps <;> first | assumption | exact subRefl
  case wideTapWord => dsimp only [exec, maskOf] at h ⊢; with_reducible apply execWideTapWord_keeps <;> first | assumption | exact subRefl
  case protectOff => dsimp only [exec, maskOf] at h ⊢; with_reducible apply execProtectOff_keeps <;> first | assumption | exact subRefl
  case protectOffReclose => dsimp only [exec, maskOf] at h ⊢; with_reducible apply execProtectOffReclose_keeps <;> first | assumption | exact subRefl
  case overRangePersist => dsimp only [exec, maskOf] at h ⊢; with_reducible apply execOverRangePersist_keeps <;> first | assumption | exact subRefl
  case doScTimeExpiry => dsimp only [exec, maskOf] at h ⊢; with_reducible apply execDoScTimeExpiry_keeps <;> first | assumption | exact subRefl
  case doRestart => dsimp only [exec, maskOf] at h ⊢; with_reducible apply execDoRestart_keeps <;> first | assumption | exact subRefl
  case doOpenLoad => dsimp only [exec, maskOf] at h ⊢; with_reducible apply execDoOpenLoad_keeps <;> first | assumption | exact subRefl
  case doShortToSupply => dsimp only [exec, maskOf] at h ⊢; with_reducible apply execDoShortToSupply_keeps <;> first | assumption | exact subRefl
  case frontEndSettled => dsimp only [exec, maskOf] at h ⊢; with_reducible apply execFrontEndSettled_keeps <;> first | assumption | exact subRefl
  case mainSampleDue => dsimp only [exec, maskOf] at h ⊢; with_reducible apply execMainSampleDue_keeps <;> first | assumption | exact subRefl
  case rotationSlotStart => dsimp only [exec, maskOf] at h ⊢; with_reducible apply execRotationSlotStart_keeps <;> first | assumption | exact subRefl
  case reliefCalEnd => dsimp only [exec, maskOf] at h ⊢; with_reducible apply execReliefCalEnd_keeps <;> first | assumption | exact subRefl
  case rotationPhaseEnd => dsimp only [exec, maskOf] at h ⊢; with_reducible apply execRotationPhaseEnd_keeps <;> first | assumption | exact subRefl
  case chCheckEnd => dsimp only [exec, maskOf] at h ⊢; with_reducible apply execChCheckEnd_keeps <;> first | assumption | exact subRefl
  case overlapEnd => dsimp only [exec, maskOf] at h ⊢; with_reducible apply execOverlapEnd_keeps <;> first | assumption | exact subRefl
  case rotationCutShort => dsimp only [exec, maskOf] at h ⊢; with_reducible apply execRotationCutShort_keeps <;> first | assumption | exact subRefl
  case slotEndCrossCheck => dsimp only [exec, maskOf] at h ⊢; with_reducible apply execSlotEndCrossCheck_keeps <;> first | assumption | exact subRefl
  case heavyClampStart => dsimp only [exec, maskOf] at h ⊢; with_reducible apply execHeavyClampStart_keeps <;> first | assumption | exact subRefl
  case heavyClampEnd => dsimp only [exec, maskOf] at h ⊢; with_reducible apply execHeavyClampEnd_keeps <;> first | assumption | exact subRefl
  case dieTemperatureRead => dsimp only [exec, maskOf] at h ⊢; with_reducible apply execDieTemperatureRead_keeps <;> first | assumption | exact subRefl
  case rotateNow => dsimp only [exec, maskOf] at h ⊢; with_reducible apply execRotateNow_keeps <;> first | assumption | exact subRefl
  case trimPoint => dsimp only [exec, maskOf] at h ⊢; with_reducible apply execTrimPoint_keeps <;> first | assumption | exact subRefl
  case trimApply => dsimp only [exec, maskOf] at h ⊢; with_reducible apply execTrimApply_keeps <;> first | assumption | exact subRefl
  case calRecordWriteDone => dsimp only [exec, maskOf] at h ⊢; with_reducible apply execCalRecordWriteDone_keeps <;> first | assumption | exact subRefl
  case syncInEdge => dsimp only [exec, maskOf] at h ⊢; with_reducible apply execSyncInEdge_keeps <;> first | assumption | exact subRefl
  case syncAt => dsimp only [exec, maskOf] at h ⊢; with_reducible apply execSyncAt_keeps <;> first | assumption | exact subRefl
  case decimatorSyncInstant => dsimp only [exec, maskOf] at h ⊢; with_reducible apply execDecimatorSyncInstant_keeps <;> first | assumption | exact subRefl
  case filterParityError => dsimp only [exec, maskOf] at h ⊢; with_reducible apply execFilterParityError_keeps <;> first | assumption | exact subRefl
  case powerStageEvaluation => dsimp only [exec, maskOf] at h ⊢; with_reducible apply execPowerStageEvaluation_keeps <;> first | assumption | exact subRefl
  case limitTimeExpiry => dsimp only [exec, maskOf] at h ⊢; with_reducible apply execLimitTimeExpiry_keeps <;> first | assumption | exact subRefl
  case retryPeriodExpiry => dsimp only [exec, maskOf] at h ⊢; with_reducible apply execRetryPeriodExpiry_keeps <;> first | assumption | exact subRefl
  case thermalShutdown => dsimp only [exec, maskOf] at h ⊢; with_reducible apply execThermalShutdown_keeps <;> first | assumption | exact subRefl
  case thermalRestart => dsimp only [exec, maskOf] at h ⊢; with_reducible apply execThermalRestart_keeps <;> first | assumption | exact subRefl
  case clampIntervalStart => dsimp only [exec, maskOf] at h ⊢; with_reducible apply execClampIntervalStart_keeps <;> first | assumption | exact subRefl
  case clampIntervalEnd => dsimp only [exec, maskOf] at h ⊢; with_reducible apply execClampIntervalEnd_keeps <;> first | assumption | exact subRefl
  case clampUnlock => dsimp only [exec, maskOf] at h ⊢; with_reducible apply execClampUnlock_keeps <;> first | assumption | exact subRefl
  case lswOpenLoad => dsimp only [exec, maskOf] at h ⊢; with_reducible apply execLswOpenLoad_keeps <;> first | assumption | exact subRefl
  case lswShortToSupply => dsimp only [exec, maskOf] at h ⊢; with_reducible apply execLswShortToSupply_keeps <;> first | assumption | exact subRefl
  case lswReverseCurrent => dsimp only [exec, maskOf] at h ⊢; with_reducible apply execLswReverseCurrent_keeps <;> first | assumption | exact subRefl
  case powerDieExchangeLost => dsimp only [exec, maskOf] at h ⊢; with_reducible apply execPowerDieExchangeLost_keeps <;> first | assumption | exact subRefl
  case groupLaunchInstant => dsimp only [exec, maskOf] at h ⊢; with_reducible apply execGroupLaunchInstant_keeps <;> first | assumption | exact subRefl
  case vfSpreadCheck => dsimp only [exec, maskOf] at h ⊢; with_reducible apply execVfSpreadCheck_keeps <;> first | assumption | exact subRefl
  case balanceUpdate => dsimp only [exec, maskOf] at h ⊢; with_reducible apply execBalanceUpdate_keeps <;> first | assumption | exact subRefl
  case balanceLost => dsimp only [exec, maskOf] at h ⊢; with_reducible apply execBalanceLost_keeps <;> first | assumption | exact subRefl
  case memberExclusion => dsimp only [exec, maskOf] at h ⊢; with_reducible apply execMemberExclusion_keeps <;> first | assumption | exact subRefl
  case groupTrip => dsimp only [exec, maskOf] at h ⊢; with_reducible apply execGroupTrip_keeps <;> first | assumption | exact subRefl
  case groupOverloadEnd => dsimp only [exec, maskOf] at h ⊢; with_reducible apply execGroupOverloadEnd_keeps <;> first | assumption | exact subRefl
  case groupThermal => dsimp only [exec, maskOf] at h ⊢; with_reducible apply execGroupThermal_keeps <;> first | assumption | exact subRefl
  case fastInputEdge => dsimp only [exec, maskOf] at h ⊢; with_reducible apply execFastInputEdge_keeps <;> first | assumption | exact subRefl
  case counterWrite => dsimp only [exec, maskOf] at h ⊢; with_reducible apply execCounterWrite_keeps <;> first | assumption | exact subRefl
  case capturePop => dsimp only [exec, maskOf] at h ⊢; with_reducible apply execCapturePop_keeps <;> first | assumption | exact subRefl
  case frequencyGateEnd => dsimp only [exec, maskOf] at h ⊢; with_reducible apply execFrequencyGateEnd_keeps <;> first | assumption | exact subRefl
  case stopTimeout => dsimp only [exec, maskOf] at h ⊢; with_reducible apply execStopTimeout_keeps <;> first | assumption | exact subRefl
  case latchTrigger => dsimp only [exec, maskOf] at h ⊢; with_reducible apply execLatchTrigger_keeps <;> first | assumption | exact subRefl
  case latchAt => dsimp only [exec, maskOf] at h ⊢; with_reducible apply execLatchAt_keeps <;> first | assumption | exact subRefl
  case namedLatchInstant => dsimp only [exec, maskOf] at h ⊢; with_reducible apply execNamedLatchInstant_keeps <;> first | assumption | exact subRefl
  case scheduleOutput => dsimp only [exec, maskOf] at h ⊢; with_reducible apply execScheduleOutput_keeps <;> first | assumption | exact subRefl
  case cancelSchedule => dsimp only [exec, maskOf] at h ⊢; with_reducible apply execCancelSchedule_keeps <;> first | assumption | exact subRefl
  case scheduleApplyInstant => dsimp only [exec, maskOf] at h ⊢; with_reducible apply execScheduleApplyInstant_keeps <;> first | assumption | exact subRefl
  case pulseRelease => dsimp only [exec, maskOf] at h ⊢; with_reducible apply execPulseRelease_keeps <;> first | assumption | exact subRefl
  case heldEntryResume => dsimp only [exec, maskOf] at h ⊢; with_reducible apply execHeldEntryResume_keeps <;> first | assumption | exact subRefl
  case holdLimitExpiry => dsimp only [exec, maskOf] at h ⊢; with_reducible apply execHoldLimitExpiry_keeps <;> first | assumption | exact subRefl
  case publicationInstant => dsimp only [exec, maskOf] at h ⊢; with_reducible apply execPublicationInstant_keeps <;> first | assumption | exact subRefl
  case eventGroupPublish => dsimp only [exec, maskOf] at h ⊢; with_reducible apply execEventGroupPublish_keeps <;> first | assumption | exact subRefl
  case heartbeatExpiry => dsimp only [exec, maskOf] at h ⊢; with_reducible apply execHeartbeatExpiry_keeps <;> first | assumption | exact subRefl
  case pubFrameReceived => dsimp only [exec, maskOf] at h ⊢; with_reducible apply execPubFrameReceived_keeps <;> first | assumption | exact subRefl
  case staleCheck => dsimp only [exec, maskOf] at h ⊢; with_reducible apply execStaleCheck_keeps <;> first | assumption | exact subRefl
  case forcePoint => dsimp only [exec, maskOf] at h ⊢; with_reducible apply execForcePoint_keeps <;> first | assumption | exact subRefl
  case releasePoint => dsimp only [exec, maskOf] at h ⊢; with_reducible apply execReleasePoint_keeps <;> first | assumption | exact subRefl
  case fastPass => dsimp only [exec, maskOf] at h ⊢; with_reducible apply execFastPass_keeps <;> first | assumption | exact subRefl
  case mainPass => dsimp only [exec, maskOf] at h ⊢; with_reducible apply execMainPass_keeps <;> first | assumption | exact subRefl
  case forceRepeat => dsimp only [exec, maskOf] at h ⊢; with_reducible apply execForceRepeat_keeps <;> first | assumption | exact subRefl
  case loadRulesBegin => dsimp only [exec, maskOf] at h ⊢; with_reducible apply execLoadRulesBegin_keeps <;> first | assumption | exact subRefl
  case loadRulesData => dsimp only [exec, maskOf] at h ⊢; with_reducible apply execLoadRulesData_keeps <;> first | assumption | exact subRefl
  case loadRulesEnd => dsimp only [exec, maskOf] at h ⊢; with_reducible apply execLoadRulesEnd_keeps <;> first | assumption | exact subRefl
  case swapRules => dsimp only [exec, maskOf] at h ⊢; with_reducible apply execSwapRules_keeps <;> first | assumption | exact subRefl
  case ruleSwapExecute => dsimp only [exec, maskOf] at h ⊢; with_reducible apply execRuleSwapExecute_keeps <;> first | assumption | exact subRefl
  case faultCollect => dsimp only [exec, maskOf] at h ⊢; with_reducible apply execFaultCollect_keeps <;> first | assumption | exact subRefl
  case faultWindowExpiry => dsimp only [exec, maskOf] at h ⊢; with_reducible apply execFaultWindowExpiry_keeps <;> first | assumption | exact subRefl
  case safeRefresh => dsimp only [exec, maskOf] at h ⊢; with_reducible apply execSafeRefresh_keeps <;> first | assumption | exact subRefl
  case selfProtectionCheck => dsimp only [exec, maskOf] at h ⊢; with_reducible apply execSelfProtectionCheck_keeps <;> first | assumption | exact subRefl
  case safeInAssertion => dsimp only [exec, maskOf] at h ⊢; with_reducible apply execSafeInAssertion_keeps <;> first | assumption | exact subRefl
  case clearSafe => dsimp only [exec, maskOf] at h ⊢; with_reducible apply execClearSafe_keeps <;> first | assumption | exact subRefl
  case clearAutonomousSend => dsimp only [exec, maskOf] at h ⊢; with_reducible apply execClearAutonomousSend_keeps <;> first | assumption | exact subRefl
  case liveness => dsimp only [exec, maskOf] at h ⊢; with_reducible apply execLiveness_keeps <;> first | assumption | exact subRefl
  case livenessTimeout => dsimp only [exec, maskOf] at h ⊢; with_reducible apply execLivenessTimeout_keeps <;> first | assumption | exact subRefl
  case wdtEnable => dsimp only [exec, maskOf] at h ⊢; with_reducible apply execWdtEnable_keeps <;> first | assumption | exact subRefl
  case wdtService => dsimp only [exec, maskOf] at h ⊢; with_reducible apply execWdtService_keeps <;> first | assumption | exact subRefl
  case wdtPeriodWrite => dsimp only [exec, maskOf] at h ⊢; with_reducible apply execWdtPeriodWrite_keeps <;> first | assumption | exact subRefl
  case wdtIntervalEnd => dsimp only [exec, maskOf] at h ⊢; with_reducible apply execWdtIntervalEnd_keeps <;> first | assumption | exact subRefl
  case clockMonitorWindow => dsimp only [exec, maskOf] at h ⊢; with_reducible apply execClockMonitorWindow_keeps <;> first | assumption | exact subRefl
  case heartwoodWrite => dsimp only [exec, maskOf] at h ⊢; with_reducible apply execHeartwoodWrite_keeps <;> first | assumption | exact subRefl
  case wdtResetCount => dsimp only [exec, maskOf] at h ⊢; with_reducible apply execWdtResetCount_keeps <;> first | assumption | exact subRefl
  case logPop => dsimp only [exec, maskOf] at h ⊢; with_reducible apply execLogPop_keeps <;> first | assumption | exact subRefl
  case rehearseReaction => dsimp only [exec, maskOf] at h ⊢; with_reducible apply execRehearseReaction_keeps <;> first | assumption | exact subRefl
  case hslFrameStart => dsimp only [exec, maskOf] at h ⊢; with_reducible apply execHslFrameStart_keeps <;> first | assumption | exact subRefl
  case hslFrameEnd => dsimp only [exec, maskOf] at h ⊢; with_reducible apply execHslFrameEnd_keeps <;> first | assumption | exact subRefl
  case nop => dsimp only [exec, maskOf] at h ⊢; with_reducible apply execNop_keeps <;> first | assumption | exact subRefl
  case readReg => dsimp only [exec, maskOf] at h ⊢; with_reducible apply execReadReg_keeps <;> first | assumption | exact subRefl
  case writeReg => dsimp only [exec, maskOf] at h ⊢; with_reducible apply execWriteReg_keeps <;> first | assumption | exact subRefl
  case readBuf => dsimp only [exec, maskOf] at h ⊢; with_reducible apply execReadBuf_keeps <;> first | assumption | exact subRefl
  case writeBuf => dsimp only [exec, maskOf] at h ⊢; with_reducible apply execWriteBuf_keeps <;> first | assumption | exact subRefl
  case word => dsimp only [exec, maskOf] at h ⊢; with_reducible apply execWord_keeps <;> first | assumption | exact subRefl
  case doorbell => dsimp only [exec, maskOf] at h ⊢; with_reducible apply execDoorbell_keeps <;> first | assumption | exact subRefl
  case ident => dsimp only [exec, maskOf] at h ⊢; with_reducible apply execIdent_keeps <;> first | assumption | exact subRefl
  case repeatReply => dsimp only [exec, maskOf] at h ⊢; with_reducible apply execRepeatReply_keeps <;> first | assumption | exact subRefl
  case frameTimeout => dsimp only [exec, maskOf] at h ⊢; with_reducible apply execFrameTimeout_keeps <;> first | assumption | exact subRefl
  case hostTimeout => dsimp only [exec, maskOf] at h ⊢; with_reducible apply execHostTimeout_keeps <;> first | assumption | exact subRefl
  case commandTakeUp => dsimp only [exec, maskOf] at h ⊢; with_reducible apply execCommandTakeUp_keeps <;> first | assumption | exact subRefl
  case longCommandComplete => dsimp only [exec, maskOf] at h ⊢; with_reducible apply execLongCommandComplete_keeps <;> first | assumption | exact subRefl
  case ping => dsimp only [exec, maskOf] at h ⊢; with_reducible apply execPing_keeps <;> first | assumption | exact subRefl
  case getParam => dsimp only [exec, maskOf] at h ⊢; with_reducible apply execGetParam_keeps <;> first | assumption | exact subRefl
  case setParam => dsimp only [exec, maskOf] at h ⊢; with_reducible apply execSetParam_keeps <;> first | assumption | exact subRefl
  case getBlock => dsimp only [exec, maskOf] at h ⊢; with_reducible apply execGetBlock_keeps <;> first | assumption | exact subRefl
  case setBlock => dsimp only [exec, maskOf] at h ⊢; with_reducible apply execSetBlock_keeps <;> first | assumption | exact subRefl
  case commitConfig => dsimp only [exec, maskOf] at h ⊢; with_reducible apply execCommitConfig_keeps <;> first | assumption | exact subRefl
  case discardConfig => dsimp only [exec, maskOf] at h ⊢; with_reducible apply execDiscardConfig_keeps <;> first | assumption | exact subRefl
  case journalRead => dsimp only [exec, maskOf] at h ⊢; with_reducible apply execJournalRead_keeps <;> first | assumption | exact subRefl
  case fwUpdateBegin => dsimp only [exec, maskOf] at h ⊢; with_reducible apply execFwUpdateBegin_keeps <;> first | assumption | exact subRefl
  case fwUpdateData => dsimp only [exec, maskOf] at h ⊢; with_reducible apply execFwUpdateData_keeps <;> first | assumption | exact subRefl
  case fwUpdateEnd => dsimp only [exec, maskOf] at h ⊢; with_reducible apply execFwUpdateEnd_keeps <;> first | assumption | exact subRefl
  case abort => dsimp only [exec, maskOf] at h ⊢; with_reducible apply execAbort_keeps <;> first | assumption | exact subRefl
  case abortDone => dsimp only [exec, maskOf] at h ⊢; with_reducible apply execAbortDone_keeps <;> first | assumption | exact subRefl
  case negotiate => dsimp only [exec, maskOf] at h ⊢; with_reducible apply execNegotiate_keeps <;> first | assumption | exact subRefl
  case mbxAckPop => dsimp only [exec, maskOf] at h ⊢; with_reducible apply execMbxAckPop_keeps <;> first | assumption | exact subRefl
  case mbxClaim => dsimp only [exec, maskOf] at h ⊢; with_reducible apply execMbxClaim_keeps <;> first | assumption | exact subRefl
  case mbxRelease => dsimp only [exec, maskOf] at h ⊢; with_reducible apply execMbxRelease_keeps <;> first | assumption | exact subRefl
  case mbxH2dClear => dsimp only [exec, maskOf] at h ⊢; with_reducible apply execMbxH2dClear_keeps <;> first | assumption | exact subRefl
  case registerWrite => dsimp only [exec, maskOf] at h ⊢; with_reducible apply execRegisterWrite_keeps <;> first | assumption | exact subRefl
  case stagedHashReady => dsimp only [exec, maskOf] at h ⊢; with_reducible apply execStagedHashReady_keeps <;> first | assumption | exact subRefl
  case commitApply => dsimp only [exec, maskOf] at h ⊢; with_reducible apply execCommitApply_keeps <;> first | assumption | exact subRefl
  case bankShareApply => dsimp only [exec, maskOf] at h ⊢; with_reducible apply execBankShareApply_keeps <;> first | assumption | exact subRefl
  case commitJournal => dsimp only [exec, maskOf] at h ⊢; with_reducible apply execCommitJournal_keeps <;> first | assumption | exact subRefl
  case persistDone => dsimp only [exec, maskOf] at h ⊢; with_reducible apply execPersistDone_keeps <;> first | assumption | exact subRefl
  case portLinkDown => dsimp only [exec, maskOf] at h ⊢; with_reducible apply execPortLinkDown_keeps <;> first | assumption | exact subRefl
  case portLinkUp => dsimp only [exec, maskOf] at h ⊢; with_reducible apply execPortLinkUp_keeps <;> first | assumption | exact subRefl
  case frameReceived => dsimp only [exec, maskOf] at h ⊢; with_reducible apply execFrameReceived_keeps <;> first | assumption | exact subRefl
  case gateIntervalBoundary => dsimp only [exec, maskOf] at h ⊢; with_reducible apply execGateIntervalBoundary_keeps <;> first | assumption | exact subRefl
  case gateListChange => dsimp only [exec, maskOf] at h ⊢; with_reducible apply execGateListChange_keeps <;> first | assumption | exact subRefl
  case macAgeing => dsimp only [exec, maskOf] at h ⊢; with_reducible apply execMacAgeing_keeps <;> first | assumption | exact subRefl
  case macFlush => dsimp only [exec, maskOf] at h ⊢; with_reducible apply execMacFlush_keeps <;> first | assumption | exact subRefl
  case latentTestPeriod => dsimp only [exec, maskOf] at h ⊢; with_reducible apply execLatentTestPeriod_keeps <;> first | assumption | exact subRefl
  case recoveryResetTimeout => dsimp only [exec, maskOf] at h ⊢; with_reducible apply execRecoveryResetTimeout_keeps <;> first | assumption | exact subRefl
  case tableEccRewrite => dsimp only [exec, maskOf] at h ⊢; with_reducible apply execTableEccRewrite_keeps <;> first | assumption | exact subRefl
  case pdelayReq => dsimp only [exec, maskOf] at h ⊢; with_reducible apply execPdelayReq_keeps <;> first | assumption | exact subRefl
  case ringTestInterval => dsimp only [exec, maskOf] at h ⊢; with_reducible apply execRingTestInterval_keeps <;> first | assumption | exact subRefl
  case topologyFrameReceived => dsimp only [exec, maskOf] at h ⊢; with_reducible apply execTopologyFrameReceived_keeps <;> first | assumption | exact subRefl
  case gclFrameReceived => dsimp only [exec, maskOf] at h ⊢; with_reducible apply execGclFrameReceived_keeps <;> first | assumption | exact subRefl
  case helloReceived => dsimp only [exec, maskOf] at h ⊢; with_reducible apply execHelloReceived_keeps <;> first | assumption | exact subRefl
  case helloSend => dsimp only [exec, maskOf] at h ⊢; with_reducible apply execHelloSend_keeps <;> first | assumption | exact subRefl
  case nodeTimeout => dsimp only [exec, maskOf] at h ⊢; with_reducible apply execNodeTimeout_keeps <;> first | assumption | exact subRefl
  case duplicateTimeout => dsimp only [exec, maskOf] at h ⊢; with_reducible apply execDuplicateTimeout_keeps <;> first | assumption | exact subRefl
  case gclNegotiate => dsimp only [exec, maskOf] at h ⊢; with_reducible apply execGclNegotiate_keeps <;> first | assumption | exact subRefl
  case cmdFrame => dsimp only [exec, maskOf] at h ⊢; with_reducible apply execCmdFrame_keeps <;> first | assumption | exact subRefl
  case notify => dsimp only [exec, maskOf] at h ⊢; with_reducible apply execNotify_keeps <;> first | assumption | exact subRefl
  case notifyRepeat => dsimp only [exec, maskOf] at h ⊢; with_reducible apply execNotifyRepeat_keeps <;> first | assumption | exact subRefl
  case schedFrame => dsimp only [exec, maskOf] at h ⊢; with_reducible apply execSchedFrame_keeps <;> first | assumption | exact subRefl
  case syncRequest => dsimp only [exec, maskOf] at h ⊢; with_reducible apply execSyncRequest_keeps <;> first | assumption | exact subRefl
  case journalFrameSend => dsimp only [exec, maskOf] at h ⊢; with_reducible apply execJournalFrameSend_keeps <;> first | assumption | exact subRefl
  case arbEpoch => dsimp only [exec, maskOf] at h ⊢; with_reducible apply execArbEpoch_keeps <;> first | assumption | exact subRefl
  case epochEffective => dsimp only [exec, maskOf] at h ⊢; with_reducible apply execEpochEffective_keeps <;> first | assumption | exact subRefl
  case arbSwap => dsimp only [exec, maskOf] at h ⊢; with_reducible apply execArbSwap_keeps <;> first | assumption | exact subRefl
  case arbQuery => dsimp only [exec, maskOf] at h ⊢; with_reducible apply execArbQuery_keeps <;> first | assumption | exact subRefl
  case arbReport => dsimp only [exec, maskOf] at h ⊢; with_reducible apply execArbReport_keeps <;> first | assumption | exact subRefl
  case pairWaitExpiry => dsimp only [exec, maskOf] at h ⊢; with_reducible apply execPairWaitExpiry_keeps <;> first | assumption | exact subRefl
  case takeover => dsimp only [exec, maskOf] at h ⊢; with_reducible apply execTakeover_keeps <;> first | assumption | exact subRefl
  case queryRepeat => dsimp only [exec, maskOf] at h ⊢; with_reducible apply execQueryRepeat_keeps <;> first | assumption | exact subRefl
  case arbTimeout => dsimp only [exec, maskOf] at h ⊢; with_reducible apply execArbTimeout_keeps <;> first | assumption | exact subRefl
  case pairReadmit => dsimp only [exec, maskOf] at h ⊢; with_reducible apply execPairReadmit_keeps <;> first | assumption | exact subRefl
  case rangerListenTimeout => dsimp only [exec, maskOf] at h ⊢; with_reducible apply execRangerListenTimeout_keeps <;> first | assumption | exact subRefl
  case rangerEpochRepeat => dsimp only [exec, maskOf] at h ⊢; with_reducible apply execRangerEpochRepeat_keeps <;> first | assumption | exact subRefl
  case pairSwapInstant => dsimp only [exec, maskOf] at h ⊢; with_reducible apply execPairSwapInstant_keeps <;> first | assumption | exact subRefl
  case ringSwapInstant => dsimp only [exec, maskOf] at h ⊢; with_reducible apply execRingSwapInstant_keeps <;> first | assumption | exact subRefl
  case ringCopyMissing => dsimp only [exec, maskOf] at h ⊢; with_reducible apply execRingCopyMissing_keeps <;> first | assumption | exact subRefl
  case mspEntryComplete => dsimp only [exec, maskOf] at h ⊢; with_reducible apply execMspEntryComplete_keeps <;> first | assumption | exact subRefl
  case xipFill => dsimp only [exec, maskOf] at h ⊢; with_reducible apply execXipFill_keeps <;> first | assumption | exact subRefl
  case xipWriteGather => dsimp only [exec, maskOf] at h ⊢; with_reducible apply execXipWriteGather_keeps <;> first | assumption | exact subRefl
  case xipGatherTimeout => dsimp only [exec, maskOf] at h ⊢; with_reducible apply execXipGatherTimeout_keeps <;> first | assumption | exact subRefl
  case xipFlush => dsimp only [exec, maskOf] at h ⊢; with_reducible apply execXipFlush_keeps <;> first | assumption | exact subRefl
  case xipErase => dsimp only [exec, maskOf] at h ⊢; with_reducible apply execXipErase_keeps <;> first | assumption | exact subRefl
  case norStatusPoll => dsimp only [exec, maskOf] at h ⊢; with_reducible apply execNorStatusPoll_keeps <;> first | assumption | exact subRefl
  case userXfer => dsimp only [exec, maskOf] at h ⊢; with_reducible apply execUserXfer_keeps <;> first | assumption | exact subRefl
  case continueTimeout => dsimp only [exec, maskOf] at h ⊢; with_reducible apply execContinueTimeout_keeps <;> first | assumption | exact subRefl
  case arbPriorityWrite => dsimp only [exec, maskOf] at h ⊢; with_reducible apply execArbPriorityWrite_keeps <;> first | assumption | exact subRefl
  case journalRecord => dsimp only [exec, maskOf] at h ⊢; with_reducible apply execJournalRecord_keeps <;> first | assumption | exact subRefl
  case journalFlush => dsimp only [exec, maskOf] at h ⊢; with_reducible apply execJournalFlush_keeps <;> first | assumption | exact subRefl
  case nandOperationFail => dsimp only [exec, maskOf] at h ⊢; with_reducible apply execNandOperationFail_keeps <;> first | assumption | exact subRefl
  case scrub => dsimp only [exec, maskOf] at h ⊢; with_reducible apply execScrub_keeps <;> first | assumption | exact subRefl
  case patrolRead => dsimp only [exec, maskOf] at h ⊢; with_reducible apply execPatrolRead_keeps <;> first | assumption | exact subRefl
  case journalMount => dsimp only [exec, maskOf] at h ⊢; with_reducible apply execJournalMount_keeps <;> first | assumption | exact subRefl
  case powerFailDetection => dsimp only [exec, maskOf] at h ⊢; with_reducible apply execPowerFailDetection_keeps <;> first | assumption | exact subRefl
  case powerFailCommitEnd => dsimp only [exec, maskOf] at h ⊢; with_reducible apply execPowerFailCommitEnd_keeps <;> first | assumption | exact subRefl
  case epochSectorRecord => dsimp only [exec, maskOf] at h ⊢; with_reducible apply execEpochSectorRecord_keeps <;> first | assumption | exact subRefl
  case logicReset => dsimp only [exec, maskOf] at h ⊢; with_reducible apply execLogicReset_keeps <;> first | assumption | exact subRefl
  case resetNEdge => dsimp only [exec, maskOf] at h ⊢; with_reducible apply execResetNEdge_keeps <;> first | assumption | exact subRefl
  case supResetKey => dsimp only [exec, maskOf] at h ⊢; with_reducible apply execSupResetKey_keeps <;> first | assumption | exact subRefl
  case supplyGood => dsimp only [exec, maskOf] at h ⊢; with_reducible apply execSupplyGood_keeps <;> first | assumption | exact subRefl
  case bootRomStart => dsimp only [exec, maskOf] at h ⊢; with_reducible apply execBootRomStart_keeps <;> first | assumption | exact subRefl
  case bootFailureRelease => dsimp only [exec, maskOf] at h ⊢; with_reducible apply execBootFailureRelease_keeps <;> first | assumption | exact subRefl
  case firmwareStart => dsimp only [exec, maskOf] at h ⊢; with_reducible apply execFirmwareStart_keeps <;> first | assumption | exact subRefl
  case configImageLoad => dsimp only [exec, maskOf] at h ⊢; with_reducible apply execConfigImageLoad_keeps <;> first | assumption | exact subRefl
  case firebreakArm => dsimp only [exec, maskOf] at h ⊢; with_reducible apply execFirebreakArm_keeps <;> first | assumption | exact subRefl
  case endpointsOpen => dsimp only [exec, maskOf] at h ⊢; with_reducible apply execEndpointsOpen_keeps <;> first | assumption | exact subRefl
  case bankStart => dsimp only [exec, maskOf] at h ⊢; with_reducible apply execBankStart_keeps <;> first | assumption | exact subRefl
  case bankArrivalInstant => dsimp only [exec, maskOf] at h ⊢; with_reducible apply execBankArrivalInstant_keeps <;> first | assumption | exact subRefl
  case vfLoss => dsimp only [exec, maskOf] at h ⊢; with_reducible apply execVfLoss_keeps <;> first | assumption | exact subRefl
  case vfOutOfRange => dsimp only [exec, maskOf] at h ⊢; with_reducible apply execVfOutOfRange_keeps <;> first | assumption | exact subRefl
  case supplyMeasurement => dsimp only [exec, maskOf] at h ⊢; with_reducible apply execSupplyMeasurement_keeps <;> first | assumption | exact subRefl
  case holdReadyChange => dsimp only [exec, maskOf] at h ⊢; with_reducible apply execHoldReadyChange_keeps <;> first | assumption | exact subRefl
  case fieldDieOvertemp => dsimp only [exec, maskOf] at h ⊢; with_reducible apply execFieldDieOvertemp_keeps <;> first | assumption | exact subRefl
  case logicDieOvertemp => dsimp only [exec, maskOf] at h ⊢; with_reducible apply execLogicDieOvertemp_keeps <;> first | assumption | exact subRefl
  case safeInRelease => dsimp only [exec, maskOf] at h ⊢; with_reducible apply execSafeInRelease_keeps <;> first | assumption | exact subRefl
  case resetNRise => dsimp only [exec, maskOf] at h ⊢; with_reducible apply execResetNRise_keeps <;> first | assumption | exact subRefl
  case rangerStandDownTimeout => dsimp only [exec, maskOf] at h ⊢; with_reducible apply execRangerStandDownTimeout_keeps <;> first | assumption | exact subRefl
  case powerDieExchangeResumed => dsimp only [exec, maskOf] at h ⊢; with_reducible apply execPowerDieExchangeResumed_keeps <;> first | assumption | exact subRefl
  case vfRangeRestored => dsimp only [exec, maskOf] at h ⊢; with_reducible apply execVfRangeRestored_keeps <;> first | assumption | exact subRefl
  case vholdCut => dsimp only [exec, maskOf] at h ⊢; with_reducible apply execVholdCut_keeps <;> first | assumption | exact subRefl
  case announceInterval => dsimp only [exec, maskOf] at h ⊢; with_reducible apply execAnnounceInterval_keeps <;> first | assumption | exact subRefl

end Sys2Proof.Machine
end

