-- ==== Sys2Proof/Laws/State.lean ====
section
/-! SUPPORT. What each update of one part of the state leaves as it is: one equation per field and per update. -/

namespace Sys2Proof.Machine

/-! ### setBytes -/

section
variable (s : State) (cls inst attr off : Nat) (l : List Byte) (n cls' inst' attr' off' : Nat)

@[simp] theorem State.setBytes_pending : (s.setBytes cls inst attr off l).pending = s.pending := rfl
@[simp] theorem State.setBytes_staged : (s.setBytes cls inst attr off l).staged = s.staged := rfl
@[simp] theorem State.setBytes_bankCfg : (s.setBytes cls inst attr off l).bankCfg = s.bankCfg := rfl
@[simp] theorem State.setBytes_tb : (s.setBytes cls inst attr off l).tb = s.tb := rfl
@[simp] theorem State.setBytes_banks : (s.setBytes cls inst attr off l).banks = s.banks := rfl
@[simp] theorem State.setBytes_down : (s.setBytes cls inst attr off l).down = s.down := rfl
@[simp] theorem State.setBytes_up : (s.setBytes cls inst attr off l).up = s.up := rfl
@[simp] theorem State.setBytes_links : (s.setBytes cls inst attr off l).links = s.links := rfl
@[simp] theorem State.setBytes_u : (s.setBytes cls inst attr off l).u = s.u := rfl
@[simp] theorem State.setBytes_scales : (s.setBytes cls inst attr off l).scales = s.scales := rfl
@[simp] theorem State.setBytes_l : (s.setBytes cls inst attr off l).l = s.l := rfl
@[simp] theorem State.setBytes_f : (s.setBytes cls inst attr off l).f = s.f := rfl
@[simp] theorem State.setBytes_captures : (s.setBytes cls inst attr off l).captures = s.captures := rfl
@[simp] theorem State.setBytes_coppice : (s.setBytes cls inst attr off l).coppice = s.coppice := rfl
@[simp] theorem State.setBytes_sched : (s.setBytes cls inst attr off l).sched = s.sched := rfl
@[simp] theorem State.setBytes_nextHandle : (s.setBytes cls inst attr off l).nextHandle = s.nextHandle := rfl
@[simp] theorem State.setBytes_nextBatch : (s.setBytes cls inst attr off l).nextBatch = s.nextBatch := rfl
@[simp] theorem State.setBytes_canopy : (s.setBytes cls inst attr off l).canopy = s.canopy := rfl
@[simp] theorem State.setBytes_glade : (s.setBytes cls inst attr off l).glade = s.glade := rfl
@[simp] theorem State.setBytes_firebreak : (s.setBytes cls inst attr off l).firebreak = s.firebreak := rfl
@[simp] theorem State.setBytes_wdt : (s.setBytes cls inst attr off l).wdt = s.wdt := rfl
@[simp] theorem State.setBytes_heartwood : (s.setBytes cls inst attr off l).heartwood = s.heartwood := rfl
@[simp] theorem State.setBytes_hsl : (s.setBytes cls inst attr off l).hsl = s.hsl := rfl
@[simp] theorem State.setBytes_mbx : (s.setBytes cls inst attr off l).mbx = s.mbx := rfl
@[simp] theorem State.setBytes_commit : (s.setBytes cls inst attr off l).commit = s.commit := rfl
@[simp] theorem State.setBytes_journalCommits : (s.setBytes cls inst attr off l).journalCommits = s.journalCommits := rfl
@[simp] theorem State.setBytes_ports : (s.setBytes cls inst attr off l).ports = s.ports := rfl
@[simp] theorem State.setBytes_sw : (s.setBytes cls inst attr off l).sw = s.sw := rfl
@[simp] theorem State.setBytes_delivered : (s.setBytes cls inst attr off l).delivered = s.delivered := rfl
@[simp] theorem State.setBytes_gcl : (s.setBytes cls inst attr off l).gcl = s.gcl := rfl
@[simp] theorem State.setBytes_red : (s.setBytes cls inst attr off l).red = s.red := rfl
@[simp] theorem State.setBytes_msp : (s.setBytes cls inst attr off l).msp = s.msp := rfl
@[simp] theorem State.setBytes_jrn : (s.setBytes cls inst attr off l).jrn = s.jrn := rfl
@[simp] theorem State.setBytes_sup : (s.setBytes cls inst attr off l).sup = s.sup := rfl
@[simp] theorem State.setBytes_draws : (s.setBytes cls inst attr off l).draws = s.draws := rfl

end

/-! ### setPAt -/

section
variable (s : State) (n cls inst attr off v : Nat) (n cls' inst' attr' off' : Nat)

@[simp] theorem State.setPAt_pending : (s.setPAt n cls inst attr off v).pending = s.pending := rfl
@[simp] theorem State.setPAt_staged : (s.setPAt n cls inst attr off v).staged = s.staged := rfl
@[simp] theorem State.setPAt_bankCfg : (s.setPAt n cls inst attr off v).bankCfg = s.bankCfg := rfl
@[simp] theorem State.setPAt_tb : (s.setPAt n cls inst attr off v).tb = s.tb := rfl
@[simp] theorem State.setPAt_banks : (s.setPAt n cls inst attr off v).banks = s.banks := rfl
@[simp] theorem State.setPAt_down : (s.setPAt n cls inst attr off v).down = s.down := rfl
@[simp] theorem State.setPAt_up : (s.setPAt n cls inst attr off v).up = s.up := rfl
@[simp] theorem State.setPAt_links : (s.setPAt n cls inst attr off v).links = s.links := rfl
@[simp] theorem State.setPAt_u : (s.setPAt n cls inst attr off v).u = s.u := rfl
@[simp] theorem State.setPAt_scales : (s.setPAt n cls inst attr off v).scales = s.scales := rfl
@[simp] theorem State.setPAt_l : (s.setPAt n cls inst attr off v).l = s.l := rfl
@[simp] theorem State.setPAt_f : (s.setPAt n cls inst attr off v).f = s.f := rfl
@[simp] theorem State.setPAt_captures : (s.setPAt n cls inst attr off v).captures = s.captures := rfl
@[simp] theorem State.setPAt_coppice : (s.setPAt n cls inst attr off v).coppice = s.coppice := rfl
@[simp] theorem State.setPAt_sched : (s.setPAt n cls inst attr off v).sched = s.sched := rfl
@[simp] theorem State.setPAt_nextHandle : (s.setPAt n cls inst attr off v).nextHandle = s.nextHandle := rfl
@[simp] theorem State.setPAt_nextBatch : (s.setPAt n cls inst attr off v).nextBatch = s.nextBatch := rfl
@[simp] theorem State.setPAt_canopy : (s.setPAt n cls inst attr off v).canopy = s.canopy := rfl
@[simp] theorem State.setPAt_glade : (s.setPAt n cls inst attr off v).glade = s.glade := rfl
@[simp] theorem State.setPAt_firebreak : (s.setPAt n cls inst attr off v).firebreak = s.firebreak := rfl
@[simp] theorem State.setPAt_wdt : (s.setPAt n cls inst attr off v).wdt = s.wdt := rfl
@[simp] theorem State.setPAt_heartwood : (s.setPAt n cls inst attr off v).heartwood = s.heartwood := rfl
@[simp] theorem State.setPAt_hsl : (s.setPAt n cls inst attr off v).hsl = s.hsl := rfl
@[simp] theorem State.setPAt_mbx : (s.setPAt n cls inst attr off v).mbx = s.mbx := rfl
@[simp] theorem State.setPAt_commit : (s.setPAt n cls inst attr off v).commit = s.commit := rfl
@[simp] theorem State.setPAt_journalCommits : (s.setPAt n cls inst attr off v).journalCommits = s.journalCommits := rfl
@[simp] theorem State.setPAt_ports : (s.setPAt n cls inst attr off v).ports = s.ports := rfl
@[simp] theorem State.setPAt_sw : (s.setPAt n cls inst attr off v).sw = s.sw := rfl
@[simp] theorem State.setPAt_delivered : (s.setPAt n cls inst attr off v).delivered = s.delivered := rfl
@[simp] theorem State.setPAt_gcl : (s.setPAt n cls inst attr off v).gcl = s.gcl := rfl
@[simp] theorem State.setPAt_red : (s.setPAt n cls inst attr off v).red = s.red := rfl
@[simp] theorem State.setPAt_msp : (s.setPAt n cls inst attr off v).msp = s.msp := rfl
@[simp] theorem State.setPAt_jrn : (s.setPAt n cls inst attr off v).jrn = s.jrn := rfl
@[simp] theorem State.setPAt_sup : (s.setPAt n cls inst attr off v).sup = s.sup := rfl
@[simp] theorem State.setPAt_draws : (s.setPAt n cls inst attr off v).draws = s.draws := rfl

end

/-! ### setP -/

section
variable (s : State) (n cls inst attr v : Nat) (n cls' inst' attr' off' : Nat)

@[simp] theorem State.setP_pending : (s.setP n cls inst attr v).pending = s.pending := rfl
@[simp] theorem State.setP_staged : (s.setP n cls inst attr v).staged = s.staged := rfl
@[simp] theorem State.setP_bankCfg : (s.setP n cls inst attr v).bankCfg = s.bankCfg := rfl
@[simp] theorem State.setP_tb : (s.setP n cls inst attr v).tb = s.tb := rfl
@[simp] theorem State.setP_banks : (s.setP n cls inst attr v).banks = s.banks := rfl
@[simp] theorem State.setP_down : (s.setP n cls inst attr v).down = s.down := rfl
@[simp] theorem State.setP_up : (s.setP n cls inst attr v).up = s.up := rfl
@[simp] theorem State.setP_links : (s.setP n cls inst attr v).links = s.links := rfl
@[simp] theorem State.setP_u : (s.setP n cls inst attr v).u = s.u := rfl
@[simp] theorem State.setP_scales : (s.setP n cls inst attr v).scales = s.scales := rfl
@[simp] theorem State.setP_l : (s.setP n cls inst attr v).l = s.l := rfl
@[simp] theorem State.setP_f : (s.setP n cls inst attr v).f = s.f := rfl
@[simp] theorem State.setP_captures : (s.setP n cls inst attr v).captures = s.captures := rfl
@[simp] theorem State.setP_coppice : (s.setP n cls inst attr v).coppice = s.coppice := rfl
@[simp] theorem State.setP_sched : (s.setP n cls inst attr v).sched = s.sched := rfl
@[simp] theorem State.setP_nextHandle : (s.setP n cls inst attr v).nextHandle = s.nextHandle := rfl
@[simp] theorem State.setP_nextBatch : (s.setP n cls inst attr v).nextBatch = s.nextBatch := rfl
@[simp] theorem State.setP_canopy : (s.setP n cls inst attr v).canopy = s.canopy := rfl
@[simp] theorem State.setP_glade : (s.setP n cls inst attr v).glade = s.glade := rfl
@[simp] theorem State.setP_firebreak : (s.setP n cls inst attr v).firebreak = s.firebreak := rfl
@[simp] theorem State.setP_wdt : (s.setP n cls inst attr v).wdt = s.wdt := rfl
@[simp] theorem State.setP_heartwood : (s.setP n cls inst attr v).heartwood = s.heartwood := rfl
@[simp] theorem State.setP_hsl : (s.setP n cls inst attr v).hsl = s.hsl := rfl
@[simp] theorem State.setP_mbx : (s.setP n cls inst attr v).mbx = s.mbx := rfl
@[simp] theorem State.setP_commit : (s.setP n cls inst attr v).commit = s.commit := rfl
@[simp] theorem State.setP_journalCommits : (s.setP n cls inst attr v).journalCommits = s.journalCommits := rfl
@[simp] theorem State.setP_ports : (s.setP n cls inst attr v).ports = s.ports := rfl
@[simp] theorem State.setP_sw : (s.setP n cls inst attr v).sw = s.sw := rfl
@[simp] theorem State.setP_delivered : (s.setP n cls inst attr v).delivered = s.delivered := rfl
@[simp] theorem State.setP_gcl : (s.setP n cls inst attr v).gcl = s.gcl := rfl
@[simp] theorem State.setP_red : (s.setP n cls inst attr v).red = s.red := rfl
@[simp] theorem State.setP_msp : (s.setP n cls inst attr v).msp = s.msp := rfl
@[simp] theorem State.setP_jrn : (s.setP n cls inst attr v).jrn = s.jrn := rfl
@[simp] theorem State.setP_sup : (s.setP n cls inst attr v).sup = s.sup := rfl
@[simp] theorem State.setP_draws : (s.setP n cls inst attr v).draws = s.draws := rfl

end

/-! ### setPI -/

section
variable (s : State) (n cls inst attr : Nat) (v : Int) (n cls' inst' attr' off' : Nat)

@[simp] theorem State.setPI_pending : (s.setPI n cls inst attr v).pending = s.pending := rfl
@[simp] theorem State.setPI_staged : (s.setPI n cls inst attr v).staged = s.staged := rfl
@[simp] theorem State.setPI_bankCfg : (s.setPI n cls inst attr v).bankCfg = s.bankCfg := rfl
@[simp] theorem State.setPI_tb : (s.setPI n cls inst attr v).tb = s.tb := rfl
@[simp] theorem State.setPI_banks : (s.setPI n cls inst attr v).banks = s.banks := rfl
@[simp] theorem State.setPI_down : (s.setPI n cls inst attr v).down = s.down := rfl
@[simp] theorem State.setPI_up : (s.setPI n cls inst attr v).up = s.up := rfl
@[simp] theorem State.setPI_links : (s.setPI n cls inst attr v).links = s.links := rfl
@[simp] theorem State.setPI_u : (s.setPI n cls inst attr v).u = s.u := rfl
@[simp] theorem State.setPI_scales : (s.setPI n cls inst attr v).scales = s.scales := rfl
@[simp] theorem State.setPI_l : (s.setPI n cls inst attr v).l = s.l := rfl
@[simp] theorem State.setPI_f : (s.setPI n cls inst attr v).f = s.f := rfl
@[simp] theorem State.setPI_captures : (s.setPI n cls inst attr v).captures = s.captures := rfl
@[simp] theorem State.setPI_coppice : (s.setPI n cls inst attr v).coppice = s.coppice := rfl
@[simp] theorem State.setPI_sched : (s.setPI n cls inst attr v).sched = s.sched := rfl
@[simp] theorem State.setPI_nextHandle : (s.setPI n cls inst attr v).nextHandle = s.nextHandle := rfl
@[simp] theorem State.setPI_nextBatch : (s.setPI n cls inst attr v).nextBatch = s.nextBatch := rfl
@[simp] theorem State.setPI_canopy : (s.setPI n cls inst attr v).canopy = s.canopy := rfl
@[simp] theorem State.setPI_glade : (s.setPI n cls inst attr v).glade = s.glade := rfl
@[simp] theorem State.setPI_firebreak : (s.setPI n cls inst attr v).firebreak = s.firebreak := rfl
@[simp] theorem State.setPI_wdt : (s.setPI n cls inst attr v).wdt = s.wdt := rfl
@[simp] theorem State.setPI_heartwood : (s.setPI n cls inst attr v).heartwood = s.heartwood := rfl
@[simp] theorem State.setPI_hsl : (s.setPI n cls inst attr v).hsl = s.hsl := rfl
@[simp] theorem State.setPI_mbx : (s.setPI n cls inst attr v).mbx = s.mbx := rfl
@[simp] theorem State.setPI_commit : (s.setPI n cls inst attr v).commit = s.commit := rfl
@[simp] theorem State.setPI_journalCommits : (s.setPI n cls inst attr v).journalCommits = s.journalCommits := rfl
@[simp] theorem State.setPI_ports : (s.setPI n cls inst attr v).ports = s.ports := rfl
@[simp] theorem State.setPI_sw : (s.setPI n cls inst attr v).sw = s.sw := rfl
@[simp] theorem State.setPI_delivered : (s.setPI n cls inst attr v).delivered = s.delivered := rfl
@[simp] theorem State.setPI_gcl : (s.setPI n cls inst attr v).gcl = s.gcl := rfl
@[simp] theorem State.setPI_red : (s.setPI n cls inst attr v).red = s.red := rfl
@[simp] theorem State.setPI_msp : (s.setPI n cls inst attr v).msp = s.msp := rfl
@[simp] theorem State.setPI_jrn : (s.setPI n cls inst attr v).jrn = s.jrn := rfl
@[simp] theorem State.setPI_sup : (s.setPI n cls inst attr v).sup = s.sup := rfl
@[simp] theorem State.setPI_draws : (s.setPI n cls inst attr v).draws = s.draws := rfl

end

/-! ### setPCt -/

section
variable (s : State) (cls inst attr : Nat) (t : CellTime) (n cls' inst' attr' off' : Nat)

@[simp] theorem State.setPCt_pending : (s.setPCt cls inst attr t).pending = s.pending := rfl
@[simp] theorem State.setPCt_staged : (s.setPCt cls inst attr t).staged = s.staged := rfl
@[simp] theorem State.setPCt_bankCfg : (s.setPCt cls inst attr t).bankCfg = s.bankCfg := rfl
@[simp] theorem State.setPCt_tb : (s.setPCt cls inst attr t).tb = s.tb := rfl
@[simp] theorem State.setPCt_banks : (s.setPCt cls inst attr t).banks = s.banks := rfl
@[simp] theorem State.setPCt_down : (s.setPCt cls inst attr t).down = s.down := rfl
@[simp] theorem State.setPCt_up : (s.setPCt cls inst attr t).up = s.up := rfl
@[simp] theorem State.setPCt_links : (s.setPCt cls inst attr t).links = s.links := rfl
@[simp] theorem State.setPCt_u : (s.setPCt cls inst attr t).u = s.u := rfl
@[simp] theorem State.setPCt_scales : (s.setPCt cls inst attr t).scales = s.scales := rfl
@[simp] theorem State.setPCt_l : (s.setPCt cls inst attr t).l = s.l := rfl
@[simp] theorem State.setPCt_f : (s.setPCt cls inst attr t).f = s.f := rfl
@[simp] theorem State.setPCt_captures : (s.setPCt cls inst attr t).captures = s.captures := rfl
@[simp] theorem State.setPCt_coppice : (s.setPCt cls inst attr t).coppice = s.coppice := rfl
@[simp] theorem State.setPCt_sched : (s.setPCt cls inst attr t).sched = s.sched := rfl
@[simp] theorem State.setPCt_nextHandle : (s.setPCt cls inst attr t).nextHandle = s.nextHandle := rfl
@[simp] theorem State.setPCt_nextBatch : (s.setPCt cls inst attr t).nextBatch = s.nextBatch := rfl
@[simp] theorem State.setPCt_canopy : (s.setPCt cls inst attr t).canopy = s.canopy := rfl
@[simp] theorem State.setPCt_glade : (s.setPCt cls inst attr t).glade = s.glade := rfl
@[simp] theorem State.setPCt_firebreak : (s.setPCt cls inst attr t).firebreak = s.firebreak := rfl
@[simp] theorem State.setPCt_wdt : (s.setPCt cls inst attr t).wdt = s.wdt := rfl
@[simp] theorem State.setPCt_heartwood : (s.setPCt cls inst attr t).heartwood = s.heartwood := rfl
@[simp] theorem State.setPCt_hsl : (s.setPCt cls inst attr t).hsl = s.hsl := rfl
@[simp] theorem State.setPCt_mbx : (s.setPCt cls inst attr t).mbx = s.mbx := rfl
@[simp] theorem State.setPCt_commit : (s.setPCt cls inst attr t).commit = s.commit := rfl
@[simp] theorem State.setPCt_journalCommits : (s.setPCt cls inst attr t).journalCommits = s.journalCommits := rfl
@[simp] theorem State.setPCt_ports : (s.setPCt cls inst attr t).ports = s.ports := rfl
@[simp] theorem State.setPCt_sw : (s.setPCt cls inst attr t).sw = s.sw := rfl
@[simp] theorem State.setPCt_delivered : (s.setPCt cls inst attr t).delivered = s.delivered := rfl
@[simp] theorem State.setPCt_gcl : (s.setPCt cls inst attr t).gcl = s.gcl := rfl
@[simp] theorem State.setPCt_red : (s.setPCt cls inst attr t).red = s.red := rfl
@[simp] theorem State.setPCt_msp : (s.setPCt cls inst attr t).msp = s.msp := rfl
@[simp] theorem State.setPCt_jrn : (s.setPCt cls inst attr t).jrn = s.jrn := rfl
@[simp] theorem State.setPCt_sup : (s.setPCt cls inst attr t).sup = s.sup := rfl
@[simp] theorem State.setPCt_draws : (s.setPCt cls inst attr t).draws = s.draws := rfl

end

/-! ### inc -/

section
variable (s : State) (n cls inst attr : Nat) (n cls' inst' attr' off' : Nat)

@[simp] theorem State.inc_pending : (s.inc n cls inst attr).pending = s.pending := rfl
@[simp] theorem State.inc_staged : (s.inc n cls inst attr).staged = s.staged := rfl
@[simp] theorem State.inc_bankCfg : (s.inc n cls inst attr).bankCfg = s.bankCfg := rfl
@[simp] theorem State.inc_tb : (s.inc n cls inst attr).tb = s.tb := rfl
@[simp] theorem State.inc_banks : (s.inc n cls inst attr).banks = s.banks := rfl
@[simp] theorem State.inc_down : (s.inc n cls inst attr).down = s.down := rfl
@[simp] theorem State.inc_up : (s.inc n cls inst attr).up = s.up := rfl
@[simp] theorem State.inc_links : (s.inc n cls inst attr).links = s.links := rfl
@[simp] theorem State.inc_u : (s.inc n cls inst attr).u = s.u := rfl
@[simp] theorem State.inc_scales : (s.inc n cls inst attr).scales = s.scales := rfl
@[simp] theorem State.inc_l : (s.inc n cls inst attr).l = s.l := rfl
@[simp] theorem State.inc_f : (s.inc n cls inst attr).f = s.f := rfl
@[simp] theorem State.inc_captures : (s.inc n cls inst attr).captures = s.captures := rfl
@[simp] theorem State.inc_coppice : (s.inc n cls inst attr).coppice = s.coppice := rfl
@[simp] theorem State.inc_sched : (s.inc n cls inst attr).sched = s.sched := rfl
@[simp] theorem State.inc_nextHandle : (s.inc n cls inst attr).nextHandle = s.nextHandle := rfl
@[simp] theorem State.inc_nextBatch : (s.inc n cls inst attr).nextBatch = s.nextBatch := rfl
@[simp] theorem State.inc_canopy : (s.inc n cls inst attr).canopy = s.canopy := rfl
@[simp] theorem State.inc_glade : (s.inc n cls inst attr).glade = s.glade := rfl
@[simp] theorem State.inc_firebreak : (s.inc n cls inst attr).firebreak = s.firebreak := rfl
@[simp] theorem State.inc_wdt : (s.inc n cls inst attr).wdt = s.wdt := rfl
@[simp] theorem State.inc_heartwood : (s.inc n cls inst attr).heartwood = s.heartwood := rfl
@[simp] theorem State.inc_hsl : (s.inc n cls inst attr).hsl = s.hsl := rfl
@[simp] theorem State.inc_mbx : (s.inc n cls inst attr).mbx = s.mbx := rfl
@[simp] theorem State.inc_commit : (s.inc n cls inst attr).commit = s.commit := rfl
@[simp] theorem State.inc_journalCommits : (s.inc n cls inst attr).journalCommits = s.journalCommits := rfl
@[simp] theorem State.inc_ports : (s.inc n cls inst attr).ports = s.ports := rfl
@[simp] theorem State.inc_sw : (s.inc n cls inst attr).sw = s.sw := rfl
@[simp] theorem State.inc_delivered : (s.inc n cls inst attr).delivered = s.delivered := rfl
@[simp] theorem State.inc_gcl : (s.inc n cls inst attr).gcl = s.gcl := rfl
@[simp] theorem State.inc_red : (s.inc n cls inst attr).red = s.red := rfl
@[simp] theorem State.inc_msp : (s.inc n cls inst attr).msp = s.msp := rfl
@[simp] theorem State.inc_jrn : (s.inc n cls inst attr).jrn = s.jrn := rfl
@[simp] theorem State.inc_sup : (s.inc n cls inst attr).sup = s.sup := rfl
@[simp] theorem State.inc_draws : (s.inc n cls inst attr).draws = s.draws := rfl

end

/-! ### orP -/

section
variable (s : State) (cls inst attr bits : Nat) (n cls' inst' attr' off' : Nat)

@[simp] theorem State.orP_pending : (s.orP cls inst attr bits).pending = s.pending := rfl
@[simp] theorem State.orP_staged : (s.orP cls inst attr bits).staged = s.staged := rfl
@[simp] theorem State.orP_bankCfg : (s.orP cls inst attr bits).bankCfg = s.bankCfg := rfl
@[simp] theorem State.orP_tb : (s.orP cls inst attr bits).tb = s.tb := rfl
@[simp] theorem State.orP_banks : (s.orP cls inst attr bits).banks = s.banks := rfl
@[simp] theorem State.orP_down : (s.orP cls inst attr bits).down = s.down := rfl
@[simp] theorem State.orP_up : (s.orP cls inst attr bits).up = s.up := rfl
@[simp] theorem State.orP_links : (s.orP cls inst attr bits).links = s.links := rfl
@[simp] theorem State.orP_u : (s.orP cls inst attr bits).u = s.u := rfl
@[simp] theorem State.orP_scales : (s.orP cls inst attr bits).scales = s.scales := rfl
@[simp] theorem State.orP_l : (s.orP cls inst attr bits).l = s.l := rfl
@[simp] theorem State.orP_f : (s.orP cls inst attr bits).f = s.f := rfl
@[simp] theorem State.orP_captures : (s.orP cls inst attr bits).captures = s.captures := rfl
@[simp] theorem State.orP_coppice : (s.orP cls inst attr bits).coppice = s.coppice := rfl
@[simp] theorem State.orP_sched : (s.orP cls inst attr bits).sched = s.sched := rfl
@[simp] theorem State.orP_nextHandle : (s.orP cls inst attr bits).nextHandle = s.nextHandle := rfl
@[simp] theorem State.orP_nextBatch : (s.orP cls inst attr bits).nextBatch = s.nextBatch := rfl
@[simp] theorem State.orP_canopy : (s.orP cls inst attr bits).canopy = s.canopy := rfl
@[simp] theorem State.orP_glade : (s.orP cls inst attr bits).glade = s.glade := rfl
@[simp] theorem State.orP_firebreak : (s.orP cls inst attr bits).firebreak = s.firebreak := rfl
@[simp] theorem State.orP_wdt : (s.orP cls inst attr bits).wdt = s.wdt := rfl
@[simp] theorem State.orP_heartwood : (s.orP cls inst attr bits).heartwood = s.heartwood := rfl
@[simp] theorem State.orP_hsl : (s.orP cls inst attr bits).hsl = s.hsl := rfl
@[simp] theorem State.orP_mbx : (s.orP cls inst attr bits).mbx = s.mbx := rfl
@[simp] theorem State.orP_commit : (s.orP cls inst attr bits).commit = s.commit := rfl
@[simp] theorem State.orP_journalCommits : (s.orP cls inst attr bits).journalCommits = s.journalCommits := rfl
@[simp] theorem State.orP_ports : (s.orP cls inst attr bits).ports = s.ports := rfl
@[simp] theorem State.orP_sw : (s.orP cls inst attr bits).sw = s.sw := rfl
@[simp] theorem State.orP_delivered : (s.orP cls inst attr bits).delivered = s.delivered := rfl
@[simp] theorem State.orP_gcl : (s.orP cls inst attr bits).gcl = s.gcl := rfl
@[simp] theorem State.orP_red : (s.orP cls inst attr bits).red = s.red := rfl
@[simp] theorem State.orP_msp : (s.orP cls inst attr bits).msp = s.msp := rfl
@[simp] theorem State.orP_jrn : (s.orP cls inst attr bits).jrn = s.jrn := rfl
@[simp] theorem State.orP_sup : (s.orP cls inst attr bits).sup = s.sup := rfl
@[simp] theorem State.orP_draws : (s.orP cls inst attr bits).draws = s.draws := rfl

end

/-! ### modBank -/

section
variable (s : State) (b : Fin 4) (g : Bank → Bank) (n cls' inst' attr' off' : Nat)

@[simp] theorem State.modBank_pending : (s.modBank b g).pending = s.pending := rfl
@[simp] theorem State.modBank_dict : (s.modBank b g).dict = s.dict := rfl
@[simp] theorem State.modBank_staged : (s.modBank b g).staged = s.staged := rfl
@[simp] theorem State.modBank_bankCfg : (s.modBank b g).bankCfg = s.bankCfg := rfl
@[simp] theorem State.modBank_tb : (s.modBank b g).tb = s.tb := rfl
@[simp] theorem State.modBank_down : (s.modBank b g).down = s.down := rfl
@[simp] theorem State.modBank_up : (s.modBank b g).up = s.up := rfl
@[simp] theorem State.modBank_links : (s.modBank b g).links = s.links := rfl
@[simp] theorem State.modBank_u : (s.modBank b g).u = s.u := rfl
@[simp] theorem State.modBank_scales : (s.modBank b g).scales = s.scales := rfl
@[simp] theorem State.modBank_l : (s.modBank b g).l = s.l := rfl
@[simp] theorem State.modBank_f : (s.modBank b g).f = s.f := rfl
@[simp] theorem State.modBank_captures : (s.modBank b g).captures = s.captures := rfl
@[simp] theorem State.modBank_coppice : (s.modBank b g).coppice = s.coppice := rfl
@[simp] theorem State.modBank_sched : (s.modBank b g).sched = s.sched := rfl
@[simp] theorem State.modBank_nextHandle : (s.modBank b g).nextHandle = s.nextHandle := rfl
@[simp] theorem State.modBank_nextBatch : (s.modBank b g).nextBatch = s.nextBatch := rfl
@[simp] theorem State.modBank_canopy : (s.modBank b g).canopy = s.canopy := rfl
@[simp] theorem State.modBank_glade : (s.modBank b g).glade = s.glade := rfl
@[simp] theorem State.modBank_firebreak : (s.modBank b g).firebreak = s.firebreak := rfl
@[simp] theorem State.modBank_wdt : (s.modBank b g).wdt = s.wdt := rfl
@[simp] theorem State.modBank_heartwood : (s.modBank b g).heartwood = s.heartwood := rfl
@[simp] theorem State.modBank_hsl : (s.modBank b g).hsl = s.hsl := rfl
@[simp] theorem State.modBank_mbx : (s.modBank b g).mbx = s.mbx := rfl
@[simp] theorem State.modBank_commit : (s.modBank b g).commit = s.commit := rfl
@[simp] theorem State.modBank_journalCommits : (s.modBank b g).journalCommits = s.journalCommits := rfl
@[simp] theorem State.modBank_ports : (s.modBank b g).ports = s.ports := rfl
@[simp] theorem State.modBank_sw : (s.modBank b g).sw = s.sw := rfl
@[simp] theorem State.modBank_delivered : (s.modBank b g).delivered = s.delivered := rfl
@[simp] theorem State.modBank_gcl : (s.modBank b g).gcl = s.gcl := rfl
@[simp] theorem State.modBank_red : (s.modBank b g).red = s.red := rfl
@[simp] theorem State.modBank_msp : (s.modBank b g).msp = s.msp := rfl
@[simp] theorem State.modBank_jrn : (s.modBank b g).jrn = s.jrn := rfl
@[simp] theorem State.modBank_sup : (s.modBank b g).sup = s.sup := rfl
@[simp] theorem State.modBank_draws : (s.modBank b g).draws = s.draws := rfl
@[simp] theorem State.modBank_p : (s.modBank b g).p n cls' inst' attr' = s.p n cls' inst' attr' := rfl
@[simp] theorem State.modBank_pAt : (s.modBank b g).pAt n cls' inst' attr' off' = s.pAt n cls' inst' attr' off' := rfl

end

/-! ### modU -/

section
variable (s : State) (i : Fin 16) (g : UChan → UChan) (n cls' inst' attr' off' : Nat)

@[simp] theorem State.modU_pending : (s.modU i g).pending = s.pending := rfl
@[simp] theorem State.modU_dict : (s.modU i g).dict = s.dict := rfl
@[simp] theorem State.modU_staged : (s.modU i g).staged = s.staged := rfl
@[simp] theorem State.modU_bankCfg : (s.modU i g).bankCfg = s.bankCfg := rfl
@[simp] theorem State.modU_tb : (s.modU i g).tb = s.tb := rfl
@[simp] theorem State.modU_banks : (s.modU i g).banks = s.banks := rfl
@[simp] theorem State.modU_down : (s.modU i g).down = s.down := rfl
@[simp] theorem State.modU_up : (s.modU i g).up = s.up := rfl
@[simp] theorem State.modU_links : (s.modU i g).links = s.links := rfl
@[simp] theorem State.modU_scales : (s.modU i g).scales = s.scales := rfl
@[simp] theorem State.modU_l : (s.modU i g).l = s.l := rfl
@[simp] theorem State.modU_f : (s.modU i g).f = s.f := rfl
@[simp] theorem State.modU_captures : (s.modU i g).captures = s.captures := rfl
@[simp] theorem State.modU_coppice : (s.modU i g).coppice = s.coppice := rfl
@[simp] theorem State.modU_sched : (s.modU i g).sched = s.sched := rfl
@[simp] theorem State.modU_nextHandle : (s.modU i g).nextHandle = s.nextHandle := rfl
@[simp] theorem State.modU_nextBatch : (s.modU i g).nextBatch = s.nextBatch := rfl
@[simp] theorem State.modU_canopy : (s.modU i g).canopy = s.canopy := rfl
@[simp] theorem State.modU_glade : (s.modU i g).glade = s.glade := rfl
@[simp] theorem State.modU_firebreak : (s.modU i g).firebreak = s.firebreak := rfl
@[simp] theorem State.modU_wdt : (s.modU i g).wdt = s.wdt := rfl
@[simp] theorem State.modU_heartwood : (s.modU i g).heartwood = s.heartwood := rfl
@[simp] theorem State.modU_hsl : (s.modU i g).hsl = s.hsl := rfl
@[simp] theorem State.modU_mbx : (s.modU i g).mbx = s.mbx := rfl
@[simp] theorem State.modU_commit : (s.modU i g).commit = s.commit := rfl
@[simp] theorem State.modU_journalCommits : (s.modU i g).journalCommits = s.journalCommits := rfl
@[simp] theorem State.modU_ports : (s.modU i g).ports = s.ports := rfl
@[simp] theorem State.modU_sw : (s.modU i g).sw = s.sw := rfl
@[simp] theorem State.modU_delivered : (s.modU i g).delivered = s.delivered := rfl
@[simp] theorem State.modU_gcl : (s.modU i g).gcl = s.gcl := rfl
@[simp] theorem State.modU_red : (s.modU i g).red = s.red := rfl
@[simp] theorem State.modU_msp : (s.modU i g).msp = s.msp := rfl
@[simp] theorem State.modU_jrn : (s.modU i g).jrn = s.jrn := rfl
@[simp] theorem State.modU_sup : (s.modU i g).sup = s.sup := rfl
@[simp] theorem State.modU_draws : (s.modU i g).draws = s.draws := rfl
@[simp] theorem State.modU_p : (s.modU i g).p n cls' inst' attr' = s.p n cls' inst' attr' := rfl
@[simp] theorem State.modU_pAt : (s.modU i g).pAt n cls' inst' attr' off' = s.pAt n cls' inst' attr' off' := rfl

end

/-! ### modL -/

section
variable (s : State) (i : Fin 8) (g : LChan → LChan) (n cls' inst' attr' off' : Nat)

@[simp] theorem State.modL_pending : (s.modL i g).pending = s.pending := rfl
@[simp] theorem State.modL_dict : (s.modL i g).dict = s.dict := rfl
@[simp] theorem State.modL_staged : (s.modL i g).staged = s.staged := rfl
@[simp] theorem State.modL_bankCfg : (s.modL i g).bankCfg = s.bankCfg := rfl
@[simp] theorem State.modL_tb : (s.modL i g).tb = s.tb := rfl
@[simp] theorem State.modL_banks : (s.modL i g).banks = s.banks := rfl
@[simp] theorem State.modL_down : (s.modL i g).down = s.down := rfl
@[simp] theorem State.modL_up : (s.modL i g).up = s.up := rfl
@[simp] theorem State.modL_links : (s.modL i g).links = s.links := rfl
@[simp] theorem State.modL_u : (s.modL i g).u = s.u := rfl
@[simp] theorem State.modL_scales : (s.modL i g).scales = s.scales := rfl
@[simp] theorem State.modL_f : (s.modL i g).f = s.f := rfl
@[simp] theorem State.modL_captures : (s.modL i g).captures = s.captures := rfl
@[simp] theorem State.modL_coppice : (s.modL i g).coppice = s.coppice := rfl
@[simp] theorem State.modL_sched : (s.modL i g).sched = s.sched := rfl
@[simp] theorem State.modL_nextHandle : (s.modL i g).nextHandle = s.nextHandle := rfl
@[simp] theorem State.modL_nextBatch : (s.modL i g).nextBatch = s.nextBatch := rfl
@[simp] theorem State.modL_canopy : (s.modL i g).canopy = s.canopy := rfl
@[simp] theorem State.modL_glade : (s.modL i g).glade = s.glade := rfl
@[simp] theorem State.modL_firebreak : (s.modL i g).firebreak = s.firebreak := rfl
@[simp] theorem State.modL_wdt : (s.modL i g).wdt = s.wdt := rfl
@[simp] theorem State.modL_heartwood : (s.modL i g).heartwood = s.heartwood := rfl
@[simp] theorem State.modL_hsl : (s.modL i g).hsl = s.hsl := rfl
@[simp] theorem State.modL_mbx : (s.modL i g).mbx = s.mbx := rfl
@[simp] theorem State.modL_commit : (s.modL i g).commit = s.commit := rfl
@[simp] theorem State.modL_journalCommits : (s.modL i g).journalCommits = s.journalCommits := rfl
@[simp] theorem State.modL_ports : (s.modL i g).ports = s.ports := rfl
@[simp] theorem State.modL_sw : (s.modL i g).sw = s.sw := rfl
@[simp] theorem State.modL_delivered : (s.modL i g).delivered = s.delivered := rfl
@[simp] theorem State.modL_gcl : (s.modL i g).gcl = s.gcl := rfl
@[simp] theorem State.modL_red : (s.modL i g).red = s.red := rfl
@[simp] theorem State.modL_msp : (s.modL i g).msp = s.msp := rfl
@[simp] theorem State.modL_jrn : (s.modL i g).jrn = s.jrn := rfl
@[simp] theorem State.modL_sup : (s.modL i g).sup = s.sup := rfl
@[simp] theorem State.modL_draws : (s.modL i g).draws = s.draws := rfl
@[simp] theorem State.modL_p : (s.modL i g).p n cls' inst' attr' = s.p n cls' inst' attr' := rfl
@[simp] theorem State.modL_pAt : (s.modL i g).pAt n cls' inst' attr' off' = s.pAt n cls' inst' attr' off' := rfl

end

/-! ### modF -/

section
variable (s : State) (i : Fin 8) (g : FChan → FChan) (n cls' inst' attr' off' : Nat)

@[simp] theorem State.modF_pending : (s.modF i g).pending = s.pending := rfl
@[simp] theorem State.modF_dict : (s.modF i g).dict = s.dict := rfl
@[simp] theorem State.modF_staged : (s.modF i g).staged = s.staged := rfl
@[simp] theorem State.modF_bankCfg : (s.modF i g).bankCfg = s.bankCfg := rfl
@[simp] theorem State.modF_tb : (s.modF i g).tb = s.tb := rfl
@[simp] theorem State.modF_banks : (s.modF i g).banks = s.banks := rfl
@[simp] theorem State.modF_down : (s.modF i g).down = s.down := rfl
@[simp] theorem State.modF_up : (s.modF i g).up = s.up := rfl
@[simp] theorem State.modF_links : (s.modF i g).links = s.links := rfl
@[simp] theorem State.modF_u : (s.modF i g).u = s.u := rfl
@[simp] theorem State.modF_scales : (s.modF i g).scales = s.scales := rfl
@[simp] theorem State.modF_l : (s.modF i g).l = s.l := rfl
@[simp] theorem State.modF_captures : (s.modF i g).captures = s.captures := rfl
@[simp] theorem State.modF_coppice : (s.modF i g).coppice = s.coppice := rfl
@[simp] theorem State.modF_sched : (s.modF i g).sched = s.sched := rfl
@[simp] theorem State.modF_nextHandle : (s.modF i g).nextHandle = s.nextHandle := rfl
@[simp] theorem State.modF_nextBatch : (s.modF i g).nextBatch = s.nextBatch := rfl
@[simp] theorem State.modF_canopy : (s.modF i g).canopy = s.canopy := rfl
@[simp] theorem State.modF_glade : (s.modF i g).glade = s.glade := rfl
@[simp] theorem State.modF_firebreak : (s.modF i g).firebreak = s.firebreak := rfl
@[simp] theorem State.modF_wdt : (s.modF i g).wdt = s.wdt := rfl
@[simp] theorem State.modF_heartwood : (s.modF i g).heartwood = s.heartwood := rfl
@[simp] theorem State.modF_hsl : (s.modF i g).hsl = s.hsl := rfl
@[simp] theorem State.modF_mbx : (s.modF i g).mbx = s.mbx := rfl
@[simp] theorem State.modF_commit : (s.modF i g).commit = s.commit := rfl
@[simp] theorem State.modF_journalCommits : (s.modF i g).journalCommits = s.journalCommits := rfl
@[simp] theorem State.modF_ports : (s.modF i g).ports = s.ports := rfl
@[simp] theorem State.modF_sw : (s.modF i g).sw = s.sw := rfl
@[simp] theorem State.modF_delivered : (s.modF i g).delivered = s.delivered := rfl
@[simp] theorem State.modF_gcl : (s.modF i g).gcl = s.gcl := rfl
@[simp] theorem State.modF_red : (s.modF i g).red = s.red := rfl
@[simp] theorem State.modF_msp : (s.modF i g).msp = s.msp := rfl
@[simp] theorem State.modF_jrn : (s.modF i g).jrn = s.jrn := rfl
@[simp] theorem State.modF_sup : (s.modF i g).sup = s.sup := rfl
@[simp] theorem State.modF_draws : (s.modF i g).draws = s.draws := rfl
@[simp] theorem State.modF_p : (s.modF i g).p n cls' inst' attr' = s.p n cls' inst' attr' := rfl
@[simp] theorem State.modF_pAt : (s.modF i g).pAt n cls' inst' attr' off' = s.pAt n cls' inst' attr' off' := rfl

end

/-! ### modLink -/

section
variable (s : State) (b : Fin 4) (g : LogicLink → LogicLink) (n cls' inst' attr' off' : Nat)

@[simp] theorem State.modLink_pending : (s.modLink b g).pending = s.pending := rfl
@[simp] theorem State.modLink_dict : (s.modLink b g).dict = s.dict := rfl
@[simp] theorem State.modLink_staged : (s.modLink b g).staged = s.staged := rfl
@[simp] theorem State.modLink_bankCfg : (s.modLink b g).bankCfg = s.bankCfg := rfl
@[simp] theorem State.modLink_tb : (s.modLink b g).tb = s.tb := rfl
@[simp] theorem State.modLink_banks : (s.modLink b g).banks = s.banks := rfl
@[simp] theorem State.modLink_down : (s.modLink b g).down = s.down := rfl
@[simp] theorem State.modLink_up : (s.modLink b g).up = s.up := rfl
@[simp] theorem State.modLink_u : (s.modLink b g).u = s.u := rfl
@[simp] theorem State.modLink_scales : (s.modLink b g).scales = s.scales := rfl
@[simp] theorem State.modLink_l : (s.modLink b g).l = s.l := rfl
@[simp] theorem State.modLink_f : (s.modLink b g).f = s.f := rfl
@[simp] theorem State.modLink_captures : (s.modLink b g).captures = s.captures := rfl
@[simp] theorem State.modLink_coppice : (s.modLink b g).coppice = s.coppice := rfl
@[simp] theorem State.modLink_sched : (s.modLink b g).sched = s.sched := rfl
@[simp] theorem State.modLink_nextHandle : (s.modLink b g).nextHandle = s.nextHandle := rfl
@[simp] theorem State.modLink_nextBatch : (s.modLink b g).nextBatch = s.nextBatch := rfl
@[simp] theorem State.modLink_canopy : (s.modLink b g).canopy = s.canopy := rfl
@[simp] theorem State.modLink_glade : (s.modLink b g).glade = s.glade := rfl
@[simp] theorem State.modLink_firebreak : (s.modLink b g).firebreak = s.firebreak := rfl
@[simp] theorem State.modLink_wdt : (s.modLink b g).wdt = s.wdt := rfl
@[simp] theorem State.modLink_heartwood : (s.modLink b g).heartwood = s.heartwood := rfl
@[simp] theorem State.modLink_hsl : (s.modLink b g).hsl = s.hsl := rfl
@[simp] theorem State.modLink_mbx : (s.modLink b g).mbx = s.mbx := rfl
@[simp] theorem State.modLink_commit : (s.modLink b g).commit = s.commit := rfl
@[simp] theorem State.modLink_journalCommits : (s.modLink b g).journalCommits = s.journalCommits := rfl
@[simp] theorem State.modLink_ports : (s.modLink b g).ports = s.ports := rfl
@[simp] theorem State.modLink_sw : (s.modLink b g).sw = s.sw := rfl
@[simp] theorem State.modLink_delivered : (s.modLink b g).delivered = s.delivered := rfl
@[simp] theorem State.modLink_gcl : (s.modLink b g).gcl = s.gcl := rfl
@[simp] theorem State.modLink_red : (s.modLink b g).red = s.red := rfl
@[simp] theorem State.modLink_msp : (s.modLink b g).msp = s.msp := rfl
@[simp] theorem State.modLink_jrn : (s.modLink b g).jrn = s.jrn := rfl
@[simp] theorem State.modLink_sup : (s.modLink b g).sup = s.sup := rfl
@[simp] theorem State.modLink_draws : (s.modLink b g).draws = s.draws := rfl
@[simp] theorem State.modLink_p : (s.modLink b g).p n cls' inst' attr' = s.p n cls' inst' attr' := rfl
@[simp] theorem State.modLink_pAt : (s.modLink b g).pAt n cls' inst' attr' off' = s.pAt n cls' inst' attr' off' := rfl

end

/-! ### modEp -/

section
variable (s : State) (e : Fin 8) (g : Endpoint → Endpoint) (n cls' inst' attr' off' : Nat)

@[simp] theorem State.modEp_pending : (s.modEp e g).pending = s.pending := rfl
@[simp] theorem State.modEp_dict : (s.modEp e g).dict = s.dict := rfl
@[simp] theorem State.modEp_staged : (s.modEp e g).staged = s.staged := rfl
@[simp] theorem State.modEp_bankCfg : (s.modEp e g).bankCfg = s.bankCfg := rfl
@[simp] theorem State.modEp_tb : (s.modEp e g).tb = s.tb := rfl
@[simp] theorem State.modEp_banks : (s.modEp e g).banks = s.banks := rfl
@[simp] theorem State.modEp_down : (s.modEp e g).down = s.down := rfl
@[simp] theorem State.modEp_up : (s.modEp e g).up = s.up := rfl
@[simp] theorem State.modEp_links : (s.modEp e g).links = s.links := rfl
@[simp] theorem State.modEp_u : (s.modEp e g).u = s.u := rfl
@[simp] theorem State.modEp_scales : (s.modEp e g).scales = s.scales := rfl
@[simp] theorem State.modEp_l : (s.modEp e g).l = s.l := rfl
@[simp] theorem State.modEp_f : (s.modEp e g).f = s.f := rfl
@[simp] theorem State.modEp_captures : (s.modEp e g).captures = s.captures := rfl
@[simp] theorem State.modEp_coppice : (s.modEp e g).coppice = s.coppice := rfl
@[simp] theorem State.modEp_sched : (s.modEp e g).sched = s.sched := rfl
@[simp] theorem State.modEp_nextHandle : (s.modEp e g).nextHandle = s.nextHandle := rfl
@[simp] theorem State.modEp_nextBatch : (s.modEp e g).nextBatch = s.nextBatch := rfl
@[simp] theorem State.modEp_canopy : (s.modEp e g).canopy = s.canopy := rfl
@[simp] theorem State.modEp_glade : (s.modEp e g).glade = s.glade := rfl
@[simp] theorem State.modEp_firebreak : (s.modEp e g).firebreak = s.firebreak := rfl
@[simp] theorem State.modEp_wdt : (s.modEp e g).wdt = s.wdt := rfl
@[simp] theorem State.modEp_heartwood : (s.modEp e g).heartwood = s.heartwood := rfl
@[simp] theorem State.modEp_hsl : (s.modEp e g).hsl = s.hsl := rfl
@[simp] theorem State.modEp_commit : (s.modEp e g).commit = s.commit := rfl
@[simp] theorem State.modEp_journalCommits : (s.modEp e g).journalCommits = s.journalCommits := rfl
@[simp] theorem State.modEp_ports : (s.modEp e g).ports = s.ports := rfl
@[simp] theorem State.modEp_sw : (s.modEp e g).sw = s.sw := rfl
@[simp] theorem State.modEp_delivered : (s.modEp e g).delivered = s.delivered := rfl
@[simp] theorem State.modEp_gcl : (s.modEp e g).gcl = s.gcl := rfl
@[simp] theorem State.modEp_red : (s.modEp e g).red = s.red := rfl
@[simp] theorem State.modEp_msp : (s.modEp e g).msp = s.msp := rfl
@[simp] theorem State.modEp_jrn : (s.modEp e g).jrn = s.jrn := rfl
@[simp] theorem State.modEp_sup : (s.modEp e g).sup = s.sup := rfl
@[simp] theorem State.modEp_draws : (s.modEp e g).draws = s.draws := rfl
@[simp] theorem State.modEp_mbx_ram : (s.modEp e g).mbx.ram = s.mbx.ram := rfl
@[simp] theorem State.modEp_mbx_bufs : (s.modEp e g).mbx.bufs = s.mbx.bufs := rfl
@[simp] theorem State.modEp_mbx_queue : (s.modEp e g).mbx.queue = s.mbx.queue := rfl
@[simp] theorem State.modEp_mbx_stale : (s.modEp e g).mbx.stale = s.mbx.stale := rfl
@[simp] theorem State.modEp_mbx_long : (s.modEp e g).mbx.long = s.mbx.long := rfl
@[simp] theorem State.modEp_p : (s.modEp e g).p n cls' inst' attr' = s.p n cls' inst' attr' := rfl
@[simp] theorem State.modEp_pAt : (s.modEp e g).pAt n cls' inst' attr' off' = s.pAt n cls' inst' attr' off' := rfl

end

/-! ### ringEp -/

section
variable (s : State) (e : Fin 8) (bits : Word) (n cls' inst' attr' off' : Nat)

@[simp] theorem State.ringEp_pending : (s.ringEp e bits).pending = s.pending := rfl
@[simp] theorem State.ringEp_dict : (s.ringEp e bits).dict = s.dict := rfl
@[simp] theorem State.ringEp_staged : (s.ringEp e bits).staged = s.staged := rfl
@[simp] theorem State.ringEp_bankCfg : (s.ringEp e bits).bankCfg = s.bankCfg := rfl
@[simp] theorem State.ringEp_tb : (s.ringEp e bits).tb = s.tb := rfl
@[simp] theorem State.ringEp_banks : (s.ringEp e bits).banks = s.banks := rfl
@[simp] theorem State.ringEp_down : (s.ringEp e bits).down = s.down := rfl
@[simp] theorem State.ringEp_up : (s.ringEp e bits).up = s.up := rfl
@[simp] theorem State.ringEp_links : (s.ringEp e bits).links = s.links := rfl
@[simp] theorem State.ringEp_u : (s.ringEp e bits).u = s.u := rfl
@[simp] theorem State.ringEp_scales : (s.ringEp e bits).scales = s.scales := rfl
@[simp] theorem State.ringEp_l : (s.ringEp e bits).l = s.l := rfl
@[simp] theorem State.ringEp_f : (s.ringEp e bits).f = s.f := rfl
@[simp] theorem State.ringEp_captures : (s.ringEp e bits).captures = s.captures := rfl
@[simp] theorem State.ringEp_coppice : (s.ringEp e bits).coppice = s.coppice := rfl
@[simp] theorem State.ringEp_sched : (s.ringEp e bits).sched = s.sched := rfl
@[simp] theorem State.ringEp_nextHandle : (s.ringEp e bits).nextHandle = s.nextHandle := rfl
@[simp] theorem State.ringEp_nextBatch : (s.ringEp e bits).nextBatch = s.nextBatch := rfl
@[simp] theorem State.ringEp_canopy : (s.ringEp e bits).canopy = s.canopy := rfl
@[simp] theorem State.ringEp_glade : (s.ringEp e bits).glade = s.glade := rfl
@[simp] theorem State.ringEp_firebreak : (s.ringEp e bits).firebreak = s.firebreak := rfl
@[simp] theorem State.ringEp_wdt : (s.ringEp e bits).wdt = s.wdt := rfl
@[simp] theorem State.ringEp_heartwood : (s.ringEp e bits).heartwood = s.heartwood := rfl
@[simp] theorem State.ringEp_hsl : (s.ringEp e bits).hsl = s.hsl := rfl
@[simp] theorem State.ringEp_commit : (s.ringEp e bits).commit = s.commit := rfl
@[simp] theorem State.ringEp_journalCommits : (s.ringEp e bits).journalCommits = s.journalCommits := rfl
@[simp] theorem State.ringEp_ports : (s.ringEp e bits).ports = s.ports := rfl
@[simp] theorem State.ringEp_sw : (s.ringEp e bits).sw = s.sw := rfl
@[simp] theorem State.ringEp_delivered : (s.ringEp e bits).delivered = s.delivered := rfl
@[simp] theorem State.ringEp_gcl : (s.ringEp e bits).gcl = s.gcl := rfl
@[simp] theorem State.ringEp_red : (s.ringEp e bits).red = s.red := rfl
@[simp] theorem State.ringEp_msp : (s.ringEp e bits).msp = s.msp := rfl
@[simp] theorem State.ringEp_jrn : (s.ringEp e bits).jrn = s.jrn := rfl
@[simp] theorem State.ringEp_sup : (s.ringEp e bits).sup = s.sup := rfl
@[simp] theorem State.ringEp_draws : (s.ringEp e bits).draws = s.draws := rfl
@[simp] theorem State.ringEp_mbx_ram : (s.ringEp e bits).mbx.ram = s.mbx.ram := rfl
@[simp] theorem State.ringEp_mbx_bufs : (s.ringEp e bits).mbx.bufs = s.mbx.bufs := rfl
@[simp] theorem State.ringEp_mbx_queue : (s.ringEp e bits).mbx.queue = s.mbx.queue := rfl
@[simp] theorem State.ringEp_mbx_stale : (s.ringEp e bits).mbx.stale = s.mbx.stale := rfl
@[simp] theorem State.ringEp_mbx_long : (s.ringEp e bits).mbx.long = s.mbx.long := rfl
@[simp] theorem State.ringEp_p : (s.ringEp e bits).p n cls' inst' attr' = s.p n cls' inst' attr' := rfl
@[simp] theorem State.ringEp_pAt : (s.ringEp e bits).pAt n cls' inst' attr' off' = s.pAt n cls' inst' attr' off' := rfl

end

/-! ### ringAll -/

section
variable (s : State) (bit : Nat) (n cls' inst' attr' off' : Nat)

@[simp] theorem State.ringAll_pending : (s.ringAll bit).pending = s.pending := rfl
@[simp] theorem State.ringAll_dict : (s.ringAll bit).dict = s.dict := rfl
@[simp] theorem State.ringAll_staged : (s.ringAll bit).staged = s.staged := rfl
@[simp] theorem State.ringAll_bankCfg : (s.ringAll bit).bankCfg = s.bankCfg := rfl
@[simp] theorem State.ringAll_tb : (s.ringAll bit).tb = s.tb := rfl
@[simp] theorem State.ringAll_banks : (s.ringAll bit).banks = s.banks := rfl
@[simp] theorem State.ringAll_down : (s.ringAll bit).down = s.down := rfl
@[simp] theorem State.ringAll_up : (s.ringAll bit).up = s.up := rfl
@[simp] theorem State.ringAll_links : (s.ringAll bit).links = s.links := rfl
@[simp] theorem State.ringAll_u : (s.ringAll bit).u = s.u := rfl
@[simp] theorem State.ringAll_scales : (s.ringAll bit).scales = s.scales := rfl
@[simp] theorem State.ringAll_l : (s.ringAll bit).l = s.l := rfl
@[simp] theorem State.ringAll_f : (s.ringAll bit).f = s.f := rfl
@[simp] theorem State.ringAll_captures : (s.ringAll bit).captures = s.captures := rfl
@[simp] theorem State.ringAll_coppice : (s.ringAll bit).coppice = s.coppice := rfl
@[simp] theorem State.ringAll_sched : (s.ringAll bit).sched = s.sched := rfl
@[simp] theorem State.ringAll_nextHandle : (s.ringAll bit).nextHandle = s.nextHandle := rfl
@[simp] theorem State.ringAll_nextBatch : (s.ringAll bit).nextBatch = s.nextBatch := rfl
@[simp] theorem State.ringAll_canopy : (s.ringAll bit).canopy = s.canopy := rfl
@[simp] theorem State.ringAll_glade : (s.ringAll bit).glade = s.glade := rfl
@[simp] theorem State.ringAll_firebreak : (s.ringAll bit).firebreak = s.firebreak := rfl
@[simp] theorem State.ringAll_wdt : (s.ringAll bit).wdt = s.wdt := rfl
@[simp] theorem State.ringAll_heartwood : (s.ringAll bit).heartwood = s.heartwood := rfl
@[simp] theorem State.ringAll_hsl : (s.ringAll bit).hsl = s.hsl := rfl
@[simp] theorem State.ringAll_commit : (s.ringAll bit).commit = s.commit := rfl
@[simp] theorem State.ringAll_journalCommits : (s.ringAll bit).journalCommits = s.journalCommits := rfl
@[simp] theorem State.ringAll_ports : (s.ringAll bit).ports = s.ports := rfl
@[simp] theorem State.ringAll_sw : (s.ringAll bit).sw = s.sw := rfl
@[simp] theorem State.ringAll_delivered : (s.ringAll bit).delivered = s.delivered := rfl
@[simp] theorem State.ringAll_gcl : (s.ringAll bit).gcl = s.gcl := rfl
@[simp] theorem State.ringAll_red : (s.ringAll bit).red = s.red := rfl
@[simp] theorem State.ringAll_msp : (s.ringAll bit).msp = s.msp := rfl
@[simp] theorem State.ringAll_jrn : (s.ringAll bit).jrn = s.jrn := rfl
@[simp] theorem State.ringAll_sup : (s.ringAll bit).sup = s.sup := rfl
@[simp] theorem State.ringAll_draws : (s.ringAll bit).draws = s.draws := rfl
@[simp] theorem State.ringAll_mbx_ram : (s.ringAll bit).mbx.ram = s.mbx.ram := rfl
@[simp] theorem State.ringAll_mbx_bufs : (s.ringAll bit).mbx.bufs = s.mbx.bufs := rfl
@[simp] theorem State.ringAll_mbx_queue : (s.ringAll bit).mbx.queue = s.mbx.queue := rfl
@[simp] theorem State.ringAll_mbx_stale : (s.ringAll bit).mbx.stale = s.mbx.stale := rfl
@[simp] theorem State.ringAll_mbx_long : (s.ringAll bit).mbx.long = s.mbx.long := rfl
@[simp] theorem State.ringAll_p : (s.ringAll bit).p n cls' inst' attr' = s.p n cls' inst' attr' := rfl
@[simp] theorem State.ringAll_pAt : (s.ringAll bit).pAt n cls' inst' attr' off' = s.pAt n cls' inst' attr' off' := rfl

end

/-! ### modTb -/

section
variable (s : State) (g : TimeBase → TimeBase) (n cls' inst' attr' off' : Nat)

@[simp] theorem State.modTb_pending : (s.modTb g).pending = s.pending := rfl
@[simp] theorem State.modTb_dict : (s.modTb g).dict = s.dict := rfl
@[simp] theorem State.modTb_staged : (s.modTb g).staged = s.staged := rfl
@[simp] theorem State.modTb_bankCfg : (s.modTb g).bankCfg = s.bankCfg := rfl
@[simp] theorem State.modTb_banks : (s.modTb g).banks = s.banks := rfl
@[simp] theorem State.modTb_down : (s.modTb g).down = s.down := rfl
@[simp] theorem State.modTb_up : (s.modTb g).up = s.up := rfl
@[simp] theorem State.modTb_links : (s.modTb g).links = s.links := rfl
@[simp] theorem State.modTb_u : (s.modTb g).u = s.u := rfl
@[simp] theorem State.modTb_scales : (s.modTb g).scales = s.scales := rfl
@[simp] theorem State.modTb_l : (s.modTb g).l = s.l := rfl
@[simp] theorem State.modTb_f : (s.modTb g).f = s.f := rfl
@[simp] theorem State.modTb_captures : (s.modTb g).captures = s.captures := rfl
@[simp] theorem State.modTb_coppice : (s.modTb g).coppice = s.coppice := rfl
@[simp] theorem State.modTb_sched : (s.modTb g).sched = s.sched := rfl
@[simp] theorem State.modTb_nextHandle : (s.modTb g).nextHandle = s.nextHandle := rfl
@[simp] theorem State.modTb_nextBatch : (s.modTb g).nextBatch = s.nextBatch := rfl
@[simp] theorem State.modTb_canopy : (s.modTb g).canopy = s.canopy := rfl
@[simp] theorem State.modTb_glade : (s.modTb g).glade = s.glade := rfl
@[simp] theorem State.modTb_firebreak : (s.modTb g).firebreak = s.firebreak := rfl
@[simp] theorem State.modTb_wdt : (s.modTb g).wdt = s.wdt := rfl
@[simp] theorem State.modTb_heartwood : (s.modTb g).heartwood = s.heartwood := rfl
@[simp] theorem State.modTb_hsl : (s.modTb g).hsl = s.hsl := rfl
@[simp] theorem State.modTb_mbx : (s.modTb g).mbx = s.mbx := rfl
@[simp] theorem State.modTb_commit : (s.modTb g).commit = s.commit := rfl
@[simp] theorem State.modTb_journalCommits : (s.modTb g).journalCommits = s.journalCommits := rfl
@[simp] theorem State.modTb_ports : (s.modTb g).ports = s.ports := rfl
@[simp] theorem State.modTb_sw : (s.modTb g).sw = s.sw := rfl
@[simp] theorem State.modTb_delivered : (s.modTb g).delivered = s.delivered := rfl
@[simp] theorem State.modTb_gcl : (s.modTb g).gcl = s.gcl := rfl
@[simp] theorem State.modTb_red : (s.modTb g).red = s.red := rfl
@[simp] theorem State.modTb_msp : (s.modTb g).msp = s.msp := rfl
@[simp] theorem State.modTb_jrn : (s.modTb g).jrn = s.jrn := rfl
@[simp] theorem State.modTb_sup : (s.modTb g).sup = s.sup := rfl
@[simp] theorem State.modTb_draws : (s.modTb g).draws = s.draws := rfl
@[simp] theorem State.modTb_p : (s.modTb g).p n cls' inst' attr' = s.p n cls' inst' attr' := rfl
@[simp] theorem State.modTb_pAt : (s.modTb g).pAt n cls' inst' attr' off' = s.pAt n cls' inst' attr' off' := rfl

end

/-! ### modSup -/

section
variable (s : State) (g : Startup → Startup) (n cls' inst' attr' off' : Nat)

@[simp] theorem State.modSup_pending : (s.modSup g).pending = s.pending := rfl
@[simp] theorem State.modSup_dict : (s.modSup g).dict = s.dict := rfl
@[simp] theorem State.modSup_staged : (s.modSup g).staged = s.staged := rfl
@[simp] theorem State.modSup_bankCfg : (s.modSup g).bankCfg = s.bankCfg := rfl
@[simp] theorem State.modSup_tb : (s.modSup g).tb = s.tb := rfl
@[simp] theorem State.modSup_banks : (s.modSup g).banks = s.banks := rfl
@[simp] theorem State.modSup_down : (s.modSup g).down = s.down := rfl
@[simp] theorem State.modSup_up : (s.modSup g).up = s.up := rfl
@[simp] theorem State.modSup_links : (s.modSup g).links = s.links := rfl
@[simp] theorem State.modSup_u : (s.modSup g).u = s.u := rfl
@[simp] theorem State.modSup_scales : (s.modSup g).scales = s.scales := rfl
@[simp] theorem State.modSup_l : (s.modSup g).l = s.l := rfl
@[simp] theorem State.modSup_f : (s.modSup g).f = s.f := rfl
@[simp] theorem State.modSup_captures : (s.modSup g).captures = s.captures := rfl
@[simp] theorem State.modSup_coppice : (s.modSup g).coppice = s.coppice := rfl
@[simp] theorem State.modSup_sched : (s.modSup g).sched = s.sched := rfl
@[simp] theorem State.modSup_nextHandle : (s.modSup g).nextHandle = s.nextHandle := rfl
@[simp] theorem State.modSup_nextBatch : (s.modSup g).nextBatch = s.nextBatch := rfl
@[simp] theorem State.modSup_canopy : (s.modSup g).canopy = s.canopy := rfl
@[simp] theorem State.modSup_glade : (s.modSup g).glade = s.glade := rfl
@[simp] theorem State.modSup_firebreak : (s.modSup g).firebreak = s.firebreak := rfl
@[simp] theorem State.modSup_wdt : (s.modSup g).wdt = s.wdt := rfl
@[simp] theorem State.modSup_heartwood : (s.modSup g).heartwood = s.heartwood := rfl
@[simp] theorem State.modSup_hsl : (s.modSup g).hsl = s.hsl := rfl
@[simp] theorem State.modSup_mbx : (s.modSup g).mbx = s.mbx := rfl
@[simp] theorem State.modSup_commit : (s.modSup g).commit = s.commit := rfl
@[simp] theorem State.modSup_journalCommits : (s.modSup g).journalCommits = s.journalCommits := rfl
@[simp] theorem State.modSup_ports : (s.modSup g).ports = s.ports := rfl
@[simp] theorem State.modSup_sw : (s.modSup g).sw = s.sw := rfl
@[simp] theorem State.modSup_delivered : (s.modSup g).delivered = s.delivered := rfl
@[simp] theorem State.modSup_gcl : (s.modSup g).gcl = s.gcl := rfl
@[simp] theorem State.modSup_red : (s.modSup g).red = s.red := rfl
@[simp] theorem State.modSup_msp : (s.modSup g).msp = s.msp := rfl
@[simp] theorem State.modSup_jrn : (s.modSup g).jrn = s.jrn := rfl
@[simp] theorem State.modSup_draws : (s.modSup g).draws = s.draws := rfl
@[simp] theorem State.modSup_p : (s.modSup g).p n cls' inst' attr' = s.p n cls' inst' attr' := rfl
@[simp] theorem State.modSup_pAt : (s.modSup g).pAt n cls' inst' attr' off' = s.pAt n cls' inst' attr' off' := rfl

end

/-! ### modHw -/

section
variable (s : State) (g : Heartwood → Heartwood) (n cls' inst' attr' off' : Nat)

@[simp] theorem State.modHw_pending : (s.modHw g).pending = s.pending := rfl
@[simp] theorem State.modHw_dict : (s.modHw g).dict = s.dict := rfl
@[simp] theorem State.modHw_staged : (s.modHw g).staged = s.staged := rfl
@[simp] theorem State.modHw_bankCfg : (s.modHw g).bankCfg = s.bankCfg := rfl
@[simp] theorem State.modHw_tb : (s.modHw g).tb = s.tb := rfl
@[simp] theorem State.modHw_banks : (s.modHw g).banks = s.banks := rfl
@[simp] theorem State.modHw_down : (s.modHw g).down = s.down := rfl
@[simp] theorem State.modHw_up : (s.modHw g).up = s.up := rfl
@[simp] theorem State.modHw_links : (s.modHw g).links = s.links := rfl
@[simp] theorem State.modHw_u : (s.modHw g).u = s.u := rfl
@[simp] theorem State.modHw_scales : (s.modHw g).scales = s.scales := rfl
@[simp] theorem State.modHw_l : (s.modHw g).l = s.l := rfl
@[simp] theorem State.modHw_f : (s.modHw g).f = s.f := rfl
@[simp] theorem State.modHw_captures : (s.modHw g).captures = s.captures := rfl
@[simp] theorem State.modHw_coppice : (s.modHw g).coppice = s.coppice := rfl
@[simp] theorem State.modHw_sched : (s.modHw g).sched = s.sched := rfl
@[simp] theorem State.modHw_nextHandle : (s.modHw g).nextHandle = s.nextHandle := rfl
@[simp] theorem State.modHw_nextBatch : (s.modHw g).nextBatch = s.nextBatch := rfl
@[simp] theorem State.modHw_canopy : (s.modHw g).canopy = s.canopy := rfl
@[simp] theorem State.modHw_glade : (s.modHw g).glade = s.glade := rfl
@[simp] theorem State.modHw_firebreak : (s.modHw g).firebreak = s.firebreak := rfl
@[simp] theorem State.modHw_wdt : (s.modHw g).wdt = s.wdt := rfl
@[simp] theorem State.modHw_hsl : (s.modHw g).hsl = s.hsl := rfl
@[simp] theorem State.modHw_mbx : (s.modHw g).mbx = s.mbx := rfl
@[simp] theorem State.modHw_commit : (s.modHw g).commit = s.commit := rfl
@[simp] theorem State.modHw_journalCommits : (s.modHw g).journalCommits = s.journalCommits := rfl
@[simp] theorem State.modHw_ports : (s.modHw g).ports = s.ports := rfl
@[simp] theorem State.modHw_sw : (s.modHw g).sw = s.sw := rfl
@[simp] theorem State.modHw_delivered : (s.modHw g).delivered = s.delivered := rfl
@[simp] theorem State.modHw_gcl : (s.modHw g).gcl = s.gcl := rfl
@[simp] theorem State.modHw_red : (s.modHw g).red = s.red := rfl
@[simp] theorem State.modHw_msp : (s.modHw g).msp = s.msp := rfl
@[simp] theorem State.modHw_jrn : (s.modHw g).jrn = s.jrn := rfl
@[simp] theorem State.modHw_sup : (s.modHw g).sup = s.sup := rfl
@[simp] theorem State.modHw_draws : (s.modHw g).draws = s.draws := rfl
@[simp] theorem State.modHw_p : (s.modHw g).p n cls' inst' attr' = s.p n cls' inst' attr' := rfl
@[simp] theorem State.modHw_pAt : (s.modHw g).pAt n cls' inst' attr' off' = s.pAt n cls' inst' attr' off' := rfl

end

/-! ### modHsl -/

section
variable (s : State) (g : Hsl → Hsl) (n cls' inst' attr' off' : Nat)

@[simp] theorem State.modHsl_pending : (s.modHsl g).pending = s.pending := rfl
@[simp] theorem State.modHsl_dict : (s.modHsl g).dict = s.dict := rfl
@[simp] theorem State.modHsl_staged : (s.modHsl g).staged = s.staged := rfl
@[simp] theorem State.modHsl_bankCfg : (s.modHsl g).bankCfg = s.bankCfg := rfl
@[simp] theorem State.modHsl_tb : (s.modHsl g).tb = s.tb := rfl
@[simp] theorem State.modHsl_banks : (s.modHsl g).banks = s.banks := rfl
@[simp] theorem State.modHsl_down : (s.modHsl g).down = s.down := rfl
@[simp] theorem State.modHsl_up : (s.modHsl g).up = s.up := rfl
@[simp] theorem State.modHsl_links : (s.modHsl g).links = s.links := rfl
@[simp] theorem State.modHsl_u : (s.modHsl g).u = s.u := rfl
@[simp] theorem State.modHsl_scales : (s.modHsl g).scales = s.scales := rfl
@[simp] theorem State.modHsl_l : (s.modHsl g).l = s.l := rfl
@[simp] theorem State.modHsl_f : (s.modHsl g).f = s.f := rfl
@[simp] theorem State.modHsl_captures : (s.modHsl g).captures = s.captures := rfl
@[simp] theorem State.modHsl_coppice : (s.modHsl g).coppice = s.coppice := rfl
@[simp] theorem State.modHsl_sched : (s.modHsl g).sched = s.sched := rfl
@[simp] theorem State.modHsl_nextHandle : (s.modHsl g).nextHandle = s.nextHandle := rfl
@[simp] theorem State.modHsl_nextBatch : (s.modHsl g).nextBatch = s.nextBatch := rfl
@[simp] theorem State.modHsl_canopy : (s.modHsl g).canopy = s.canopy := rfl
@[simp] theorem State.modHsl_glade : (s.modHsl g).glade = s.glade := rfl
@[simp] theorem State.modHsl_firebreak : (s.modHsl g).firebreak = s.firebreak := rfl
@[simp] theorem State.modHsl_wdt : (s.modHsl g).wdt = s.wdt := rfl
@[simp] theorem State.modHsl_heartwood : (s.modHsl g).heartwood = s.heartwood := rfl
@[simp] theorem State.modHsl_mbx : (s.modHsl g).mbx = s.mbx := rfl
@[simp] theorem State.modHsl_commit : (s.modHsl g).commit = s.commit := rfl
@[simp] theorem State.modHsl_journalCommits : (s.modHsl g).journalCommits = s.journalCommits := rfl
@[simp] theorem State.modHsl_ports : (s.modHsl g).ports = s.ports := rfl
@[simp] theorem State.modHsl_sw : (s.modHsl g).sw = s.sw := rfl
@[simp] theorem State.modHsl_delivered : (s.modHsl g).delivered = s.delivered := rfl
@[simp] theorem State.modHsl_gcl : (s.modHsl g).gcl = s.gcl := rfl
@[simp] theorem State.modHsl_red : (s.modHsl g).red = s.red := rfl
@[simp] theorem State.modHsl_msp : (s.modHsl g).msp = s.msp := rfl
@[simp] theorem State.modHsl_jrn : (s.modHsl g).jrn = s.jrn := rfl
@[simp] theorem State.modHsl_sup : (s.modHsl g).sup = s.sup := rfl
@[simp] theorem State.modHsl_draws : (s.modHsl g).draws = s.draws := rfl
@[simp] theorem State.modHsl_p : (s.modHsl g).p n cls' inst' attr' = s.p n cls' inst' attr' := rfl
@[simp] theorem State.modHsl_pAt : (s.modHsl g).pAt n cls' inst' attr' off' = s.pAt n cls' inst' attr' off' := rfl

end

/-! ### modFb -/

section
variable (s : State) (g : Firebreak → Firebreak) (n cls' inst' attr' off' : Nat)

@[simp] theorem State.modFb_pending : (s.modFb g).pending = s.pending := rfl
@[simp] theorem State.modFb_dict : (s.modFb g).dict = s.dict := rfl
@[simp] theorem State.modFb_staged : (s.modFb g).staged = s.staged := rfl
@[simp] theorem State.modFb_bankCfg : (s.modFb g).bankCfg = s.bankCfg := rfl
@[simp] theorem State.modFb_tb : (s.modFb g).tb = s.tb := rfl
@[simp] theorem State.modFb_banks : (s.modFb g).banks = s.banks := rfl
@[simp] theorem State.modFb_down : (s.modFb g).down = s.down := rfl
@[simp] theorem State.modFb_up : (s.modFb g).up = s.up := rfl
@[simp] theorem State.modFb_links : (s.modFb g).links = s.links := rfl
@[simp] theorem State.modFb_u : (s.modFb g).u = s.u := rfl
@[simp] theorem State.modFb_scales : (s.modFb g).scales = s.scales := rfl
@[simp] theorem State.modFb_l : (s.modFb g).l = s.l := rfl
@[simp] theorem State.modFb_f : (s.modFb g).f = s.f := rfl
@[simp] theorem State.modFb_captures : (s.modFb g).captures = s.captures := rfl
@[simp] theorem State.modFb_coppice : (s.modFb g).coppice = s.coppice := rfl
@[simp] theorem State.modFb_sched : (s.modFb g).sched = s.sched := rfl
@[simp] theorem State.modFb_nextHandle : (s.modFb g).nextHandle = s.nextHandle := rfl
@[simp] theorem State.modFb_nextBatch : (s.modFb g).nextBatch = s.nextBatch := rfl
@[simp] theorem State.modFb_canopy : (s.modFb g).canopy = s.canopy := rfl
@[simp] theorem State.modFb_glade : (s.modFb g).glade = s.glade := rfl
@[simp] theorem State.modFb_wdt : (s.modFb g).wdt = s.wdt := rfl
@[simp] theorem State.modFb_heartwood : (s.modFb g).heartwood = s.heartwood := rfl
@[simp] theorem State.modFb_hsl : (s.modFb g).hsl = s.hsl := rfl
@[simp] theorem State.modFb_mbx : (s.modFb g).mbx = s.mbx := rfl
@[simp] theorem State.modFb_commit : (s.modFb g).commit = s.commit := rfl
@[simp] theorem State.modFb_journalCommits : (s.modFb g).journalCommits = s.journalCommits := rfl
@[simp] theorem State.modFb_ports : (s.modFb g).ports = s.ports := rfl
@[simp] theorem State.modFb_sw : (s.modFb g).sw = s.sw := rfl
@[simp] theorem State.modFb_delivered : (s.modFb g).delivered = s.delivered := rfl
@[simp] theorem State.modFb_gcl : (s.modFb g).gcl = s.gcl := rfl
@[simp] theorem State.modFb_red : (s.modFb g).red = s.red := rfl
@[simp] theorem State.modFb_msp : (s.modFb g).msp = s.msp := rfl
@[simp] theorem State.modFb_jrn : (s.modFb g).jrn = s.jrn := rfl
@[simp] theorem State.modFb_sup : (s.modFb g).sup = s.sup := rfl
@[simp] theorem State.modFb_draws : (s.modFb g).draws = s.draws := rfl
@[simp] theorem State.modFb_p : (s.modFb g).p n cls' inst' attr' = s.p n cls' inst' attr' := rfl
@[simp] theorem State.modFb_pAt : (s.modFb g).pAt n cls' inst' attr' off' = s.pAt n cls' inst' attr' off' := rfl

end

/-! ### modMsp -/

section
variable (s : State) (g : Msp → Msp) (n cls' inst' attr' off' : Nat)

@[simp] theorem State.modMsp_pending : (s.modMsp g).pending = s.pending := rfl
@[simp] theorem State.modMsp_dict : (s.modMsp g).dict = s.dict := rfl
@[simp] theorem State.modMsp_staged : (s.modMsp g).staged = s.staged := rfl
@[simp] theorem State.modMsp_bankCfg : (s.modMsp g).bankCfg = s.bankCfg := rfl
@[simp] theorem State.modMsp_tb : (s.modMsp g).tb = s.tb := rfl
@[simp] theorem State.modMsp_banks : (s.modMsp g).banks = s.banks := rfl
@[simp] theorem State.modMsp_down : (s.modMsp g).down = s.down := rfl
@[simp] theorem State.modMsp_up : (s.modMsp g).up = s.up := rfl
@[simp] theorem State.modMsp_links : (s.modMsp g).links = s.links := rfl
@[simp] theorem State.modMsp_u : (s.modMsp g).u = s.u := rfl
@[simp] theorem State.modMsp_scales : (s.modMsp g).scales = s.scales := rfl
@[simp] theorem State.modMsp_l : (s.modMsp g).l = s.l := rfl
@[simp] theorem State.modMsp_f : (s.modMsp g).f = s.f := rfl
@[simp] theorem State.modMsp_captures : (s.modMsp g).captures = s.captures := rfl
@[simp] theorem State.modMsp_coppice : (s.modMsp g).coppice = s.coppice := rfl
@[simp] theorem State.modMsp_sched : (s.modMsp g).sched = s.sched := rfl
@[simp] theorem State.modMsp_nextHandle : (s.modMsp g).nextHandle = s.nextHandle := rfl
@[simp] theorem State.modMsp_nextBatch : (s.modMsp g).nextBatch = s.nextBatch := rfl
@[simp] theorem State.modMsp_canopy : (s.modMsp g).canopy = s.canopy := rfl
@[simp] theorem State.modMsp_glade : (s.modMsp g).glade = s.glade := rfl
@[simp] theorem State.modMsp_firebreak : (s.modMsp g).firebreak = s.firebreak := rfl
@[simp] theorem State.modMsp_wdt : (s.modMsp g).wdt = s.wdt := rfl
@[simp] theorem State.modMsp_heartwood : (s.modMsp g).heartwood = s.heartwood := rfl
@[simp] theorem State.modMsp_hsl : (s.modMsp g).hsl = s.hsl := rfl
@[simp] theorem State.modMsp_mbx : (s.modMsp g).mbx = s.mbx := rfl
@[simp] theorem State.modMsp_commit : (s.modMsp g).commit = s.commit := rfl
@[simp] theorem State.modMsp_journalCommits : (s.modMsp g).journalCommits = s.journalCommits := rfl
@[simp] theorem State.modMsp_ports : (s.modMsp g).ports = s.ports := rfl
@[simp] theorem State.modMsp_sw : (s.modMsp g).sw = s.sw := rfl
@[simp] theorem State.modMsp_delivered : (s.modMsp g).delivered = s.delivered := rfl
@[simp] theorem State.modMsp_gcl : (s.modMsp g).gcl = s.gcl := rfl
@[simp] theorem State.modMsp_red : (s.modMsp g).red = s.red := rfl
@[simp] theorem State.modMsp_jrn : (s.modMsp g).jrn = s.jrn := rfl
@[simp] theorem State.modMsp_sup : (s.modMsp g).sup = s.sup := rfl
@[simp] theorem State.modMsp_draws : (s.modMsp g).draws = s.draws := rfl
@[simp] theorem State.modMsp_p : (s.modMsp g).p n cls' inst' attr' = s.p n cls' inst' attr' := rfl
@[simp] theorem State.modMsp_pAt : (s.modMsp g).pAt n cls' inst' attr' off' = s.pAt n cls' inst' attr' off' := rfl

end

/-! ### modJrn -/

section
variable (s : State) (g : Journal → Journal) (n cls' inst' attr' off' : Nat)

@[simp] theorem State.modJrn_pending : (s.modJrn g).pending = s.pending := rfl
@[simp] theorem State.modJrn_dict : (s.modJrn g).dict = s.dict := rfl
@[simp] theorem State.modJrn_staged : (s.modJrn g).staged = s.staged := rfl
@[simp] theorem State.modJrn_bankCfg : (s.modJrn g).bankCfg = s.bankCfg := rfl
@[simp] theorem State.modJrn_tb : (s.modJrn g).tb = s.tb := rfl
@[simp] theorem State.modJrn_banks : (s.modJrn g).banks = s.banks := rfl
@[simp] theorem State.modJrn_down : (s.modJrn g).down = s.down := rfl
@[simp] theorem State.modJrn_up : (s.modJrn g).up = s.up := rfl
@[simp] theorem State.modJrn_links : (s.modJrn g).links = s.links := rfl
@[simp] theorem State.modJrn_u : (s.modJrn g).u = s.u := rfl
@[simp] theorem State.modJrn_scales : (s.modJrn g).scales = s.scales := rfl
@[simp] theorem State.modJrn_l : (s.modJrn g).l = s.l := rfl
@[simp] theorem State.modJrn_f : (s.modJrn g).f = s.f := rfl
@[simp] theorem State.modJrn_captures : (s.modJrn g).captures = s.captures := rfl
@[simp] theorem State.modJrn_coppice : (s.modJrn g).coppice = s.coppice := rfl
@[simp] theorem State.modJrn_sched : (s.modJrn g).sched = s.sched := rfl
@[simp] theorem State.modJrn_nextHandle : (s.modJrn g).nextHandle = s.nextHandle := rfl
@[simp] theorem State.modJrn_nextBatch : (s.modJrn g).nextBatch = s.nextBatch := rfl
@[simp] theorem State.modJrn_canopy : (s.modJrn g).canopy = s.canopy := rfl
@[simp] theorem State.modJrn_glade : (s.modJrn g).glade = s.glade := rfl
@[simp] theorem State.modJrn_firebreak : (s.modJrn g).firebreak = s.firebreak := rfl
@[simp] theorem State.modJrn_wdt : (s.modJrn g).wdt = s.wdt := rfl
@[simp] theorem State.modJrn_heartwood : (s.modJrn g).heartwood = s.heartwood := rfl
@[simp] theorem State.modJrn_hsl : (s.modJrn g).hsl = s.hsl := rfl
@[simp] theorem State.modJrn_mbx : (s.modJrn g).mbx = s.mbx := rfl
@[simp] theorem State.modJrn_commit : (s.modJrn g).commit = s.commit := rfl
@[simp] theorem State.modJrn_journalCommits : (s.modJrn g).journalCommits = s.journalCommits := rfl
@[simp] theorem State.modJrn_ports : (s.modJrn g).ports = s.ports := rfl
@[simp] theorem State.modJrn_sw : (s.modJrn g).sw = s.sw := rfl
@[simp] theorem State.modJrn_delivered : (s.modJrn g).delivered = s.delivered := rfl
@[simp] theorem State.modJrn_gcl : (s.modJrn g).gcl = s.gcl := rfl
@[simp] theorem State.modJrn_red : (s.modJrn g).red = s.red := rfl
@[simp] theorem State.modJrn_msp : (s.modJrn g).msp = s.msp := rfl
@[simp] theorem State.modJrn_sup : (s.modJrn g).sup = s.sup := rfl
@[simp] theorem State.modJrn_draws : (s.modJrn g).draws = s.draws := rfl
@[simp] theorem State.modJrn_p : (s.modJrn g).p n cls' inst' attr' = s.p n cls' inst' attr' := rfl
@[simp] theorem State.modJrn_pAt : (s.modJrn g).pAt n cls' inst' attr' off' = s.pAt n cls' inst' attr' off' := rfl

end

/-! ### modGlade -/

section
variable (s : State) (g : Glade → Glade) (n cls' inst' attr' off' : Nat)

@[simp] theorem State.modGlade_pending : (s.modGlade g).pending = s.pending := rfl
@[simp] theorem State.modGlade_dict : (s.modGlade g).dict = s.dict := rfl
@[simp] theorem State.modGlade_staged : (s.modGlade g).staged = s.staged := rfl
@[simp] theorem State.modGlade_bankCfg : (s.modGlade g).bankCfg = s.bankCfg := rfl
@[simp] theorem State.modGlade_tb : (s.modGlade g).tb = s.tb := rfl
@[simp] theorem State.modGlade_banks : (s.modGlade g).banks = s.banks := rfl
@[simp] theorem State.modGlade_down : (s.modGlade g).down = s.down := rfl
@[simp] theorem State.modGlade_up : (s.modGlade g).up = s.up := rfl
@[simp] theorem State.modGlade_links : (s.modGlade g).links = s.links := rfl
@[simp] theorem State.modGlade_u : (s.modGlade g).u = s.u := rfl
@[simp] theorem State.modGlade_scales : (s.modGlade g).scales = s.scales := rfl
@[simp] theorem State.modGlade_l : (s.modGlade g).l = s.l := rfl
@[simp] theorem State.modGlade_f : (s.modGlade g).f = s.f := rfl
@[simp] theorem State.modGlade_captures : (s.modGlade g).captures = s.captures := rfl
@[simp] theorem State.modGlade_coppice : (s.modGlade g).coppice = s.coppice := rfl
@[simp] theorem State.modGlade_sched : (s.modGlade g).sched = s.sched := rfl
@[simp] theorem State.modGlade_nextHandle : (s.modGlade g).nextHandle = s.nextHandle := rfl
@[simp] theorem State.modGlade_nextBatch : (s.modGlade g).nextBatch = s.nextBatch := rfl
@[simp] theorem State.modGlade_canopy : (s.modGlade g).canopy = s.canopy := rfl
@[simp] theorem State.modGlade_firebreak : (s.modGlade g).firebreak = s.firebreak := rfl
@[simp] theorem State.modGlade_wdt : (s.modGlade g).wdt = s.wdt := rfl
@[simp] theorem State.modGlade_heartwood : (s.modGlade g).heartwood = s.heartwood := rfl
@[simp] theorem State.modGlade_hsl : (s.modGlade g).hsl = s.hsl := rfl
@[simp] theorem State.modGlade_mbx : (s.modGlade g).mbx = s.mbx := rfl
@[simp] theorem State.modGlade_commit : (s.modGlade g).commit = s.commit := rfl
@[simp] theorem State.modGlade_journalCommits : (s.modGlade g).journalCommits = s.journalCommits := rfl
@[simp] theorem State.modGlade_ports : (s.modGlade g).ports = s.ports := rfl
@[simp] theorem State.modGlade_sw : (s.modGlade g).sw = s.sw := rfl
@[simp] theorem State.modGlade_delivered : (s.modGlade g).delivered = s.delivered := rfl
@[simp] theorem State.modGlade_gcl : (s.modGlade g).gcl = s.gcl := rfl
@[simp] theorem State.modGlade_red : (s.modGlade g).red = s.red := rfl
@[simp] theorem State.modGlade_msp : (s.modGlade g).msp = s.msp := rfl
@[simp] theorem State.modGlade_jrn : (s.modGlade g).jrn = s.jrn := rfl
@[simp] theorem State.modGlade_sup : (s.modGlade g).sup = s.sup := rfl
@[simp] theorem State.modGlade_draws : (s.modGlade g).draws = s.draws := rfl
@[simp] theorem State.modGlade_p : (s.modGlade g).p n cls' inst' attr' = s.p n cls' inst' attr' := rfl
@[simp] theorem State.modGlade_pAt : (s.modGlade g).pAt n cls' inst' attr' off' = s.pAt n cls' inst' attr' off' := rfl

end

/-! ### modPort -/

section
variable (s : State) (p : Fin 3) (g : Port → Port) (n cls' inst' attr' off' : Nat)

@[simp] theorem State.modPort_pending : (s.modPort p g).pending = s.pending := rfl
@[simp] theorem State.modPort_dict : (s.modPort p g).dict = s.dict := rfl
@[simp] theorem State.modPort_staged : (s.modPort p g).staged = s.staged := rfl
@[simp] theorem State.modPort_bankCfg : (s.modPort p g).bankCfg = s.bankCfg := rfl
@[simp] theorem State.modPort_tb : (s.modPort p g).tb = s.tb := rfl
@[simp] theorem State.modPort_banks : (s.modPort p g).banks = s.banks := rfl
@[simp] theorem State.modPort_down : (s.modPort p g).down = s.down := rfl
@[simp] theorem State.modPort_up : (s.modPort p g).up = s.up := rfl
@[simp] theorem State.modPort_links : (s.modPort p g).links = s.links := rfl
@[simp] theorem State.modPort_u : (s.modPort p g).u = s.u := rfl
@[simp] theorem State.modPort_scales : (s.modPort p g).scales = s.scales := rfl
@[simp] theorem State.modPort_l : (s.modPort p g).l = s.l := rfl
@[simp] theorem State.modPort_f : (s.modPort p g).f = s.f := rfl
@[simp] theorem State.modPort_captures : (s.modPort p g).captures = s.captures := rfl
@[simp] theorem State.modPort_coppice : (s.modPort p g).coppice = s.coppice := rfl
@[simp] theorem State.modPort_sched : (s.modPort p g).sched = s.sched := rfl
@[simp] theorem State.modPort_nextHandle : (s.modPort p g).nextHandle = s.nextHandle := rfl
@[simp] theorem State.modPort_nextBatch : (s.modPort p g).nextBatch = s.nextBatch := rfl
@[simp] theorem State.modPort_canopy : (s.modPort p g).canopy = s.canopy := rfl
@[simp] theorem State.modPort_glade : (s.modPort p g).glade = s.glade := rfl
@[simp] theorem State.modPort_firebreak : (s.modPort p g).firebreak = s.firebreak := rfl
@[simp] theorem State.modPort_wdt : (s.modPort p g).wdt = s.wdt := rfl
@[simp] theorem State.modPort_heartwood : (s.modPort p g).heartwood = s.heartwood := rfl
@[simp] theorem State.modPort_hsl : (s.modPort p g).hsl = s.hsl := rfl
@[simp] theorem State.modPort_mbx : (s.modPort p g).mbx = s.mbx := rfl
@[simp] theorem State.modPort_commit : (s.modPort p g).commit = s.commit := rfl
@[simp] theorem State.modPort_journalCommits : (s.modPort p g).journalCommits = s.journalCommits := rfl
@[simp] theorem State.modPort_sw : (s.modPort p g).sw = s.sw := rfl
@[simp] theorem State.modPort_delivered : (s.modPort p g).delivered = s.delivered := rfl
@[simp] theorem State.modPort_gcl : (s.modPort p g).gcl = s.gcl := rfl
@[simp] theorem State.modPort_red : (s.modPort p g).red = s.red := rfl
@[simp] theorem State.modPort_msp : (s.modPort p g).msp = s.msp := rfl
@[simp] theorem State.modPort_jrn : (s.modPort p g).jrn = s.jrn := rfl
@[simp] theorem State.modPort_sup : (s.modPort p g).sup = s.sup := rfl
@[simp] theorem State.modPort_draws : (s.modPort p g).draws = s.draws := rfl
@[simp] theorem State.modPort_p : (s.modPort p g).p n cls' inst' attr' = s.p n cls' inst' attr' := rfl
@[simp] theorem State.modPort_pAt : (s.modPort p g).pAt n cls' inst' attr' off' = s.pAt n cls' inst' attr' off' := rfl

end

/-! ### modPair -/

section
variable (s : State) (m : Fin 7) (g : Pair → Pair) (n cls' inst' attr' off' : Nat)

@[simp] theorem State.modPair_pending : (s.modPair m g).pending = s.pending := rfl
@[simp] theorem State.modPair_dict : (s.modPair m g).dict = s.dict := rfl
@[simp] theorem State.modPair_staged : (s.modPair m g).staged = s.staged := rfl
@[simp] theorem State.modPair_bankCfg : (s.modPair m g).bankCfg = s.bankCfg := rfl
@[simp] theorem State.modPair_tb : (s.modPair m g).tb = s.tb := rfl
@[simp] theorem State.modPair_banks : (s.modPair m g).banks = s.banks := rfl
@[simp] theorem State.modPair_down : (s.modPair m g).down = s.down := rfl
@[simp] theorem State.modPair_up : (s.modPair m g).up = s.up := rfl
@[simp] theorem State.modPair_links : (s.modPair m g).links = s.links := rfl
@[simp] theorem State.modPair_u : (s.modPair m g).u = s.u := rfl
@[simp] theorem State.modPair_scales : (s.modPair m g).scales = s.scales := rfl
@[simp] theorem State.modPair_l : (s.modPair m g).l = s.l := rfl
@[simp] theorem State.modPair_f : (s.modPair m g).f = s.f := rfl
@[simp] theorem State.modPair_captures : (s.modPair m g).captures = s.captures := rfl
@[simp] theorem State.modPair_coppice : (s.modPair m g).coppice = s.coppice := rfl
@[simp] theorem State.modPair_sched : (s.modPair m g).sched = s.sched := rfl
@[simp] theorem State.modPair_nextHandle : (s.modPair m g).nextHandle = s.nextHandle := rfl
@[simp] theorem State.modPair_nextBatch : (s.modPair m g).nextBatch = s.nextBatch := rfl
@[simp] theorem State.modPair_canopy : (s.modPair m g).canopy = s.canopy := rfl
@[simp] theorem State.modPair_glade : (s.modPair m g).glade = s.glade := rfl
@[simp] theorem State.modPair_firebreak : (s.modPair m g).firebreak = s.firebreak := rfl
@[simp] theorem State.modPair_wdt : (s.modPair m g).wdt = s.wdt := rfl
@[simp] theorem State.modPair_heartwood : (s.modPair m g).heartwood = s.heartwood := rfl
@[simp] theorem State.modPair_hsl : (s.modPair m g).hsl = s.hsl := rfl
@[simp] theorem State.modPair_mbx : (s.modPair m g).mbx = s.mbx := rfl
@[simp] theorem State.modPair_commit : (s.modPair m g).commit = s.commit := rfl
@[simp] theorem State.modPair_journalCommits : (s.modPair m g).journalCommits = s.journalCommits := rfl
@[simp] theorem State.modPair_ports : (s.modPair m g).ports = s.ports := rfl
@[simp] theorem State.modPair_sw : (s.modPair m g).sw = s.sw := rfl
@[simp] theorem State.modPair_delivered : (s.modPair m g).delivered = s.delivered := rfl
@[simp] theorem State.modPair_gcl : (s.modPair m g).gcl = s.gcl := rfl
@[simp] theorem State.modPair_msp : (s.modPair m g).msp = s.msp := rfl
@[simp] theorem State.modPair_jrn : (s.modPair m g).jrn = s.jrn := rfl
@[simp] theorem State.modPair_sup : (s.modPair m g).sup = s.sup := rfl
@[simp] theorem State.modPair_draws : (s.modPair m g).draws = s.draws := rfl
@[simp] theorem State.modPair_p : (s.modPair m g).p n cls' inst' attr' = s.p n cls' inst' attr' := rfl
@[simp] theorem State.modPair_pAt : (s.modPair m g).pAt n cls' inst' attr' off' = s.pAt n cls' inst' attr' off' := rfl

end

/-! ### modUp -/

section
variable (s : State) (b : Fin 4) (g : LinkDir UpCell StatusCell → LinkDir UpCell StatusCell) (n cls' inst' attr' off' : Nat)

@[simp] theorem State.modUp_pending : (s.modUp b g).pending = s.pending := rfl
@[simp] theorem State.modUp_dict : (s.modUp b g).dict = s.dict := rfl
@[simp] theorem State.modUp_staged : (s.modUp b g).staged = s.staged := rfl
@[simp] theorem State.modUp_bankCfg : (s.modUp b g).bankCfg = s.bankCfg := rfl
@[simp] theorem State.modUp_tb : (s.modUp b g).tb = s.tb := rfl
@[simp] theorem State.modUp_banks : (s.modUp b g).banks = s.banks := rfl
@[simp] theorem State.modUp_down : (s.modUp b g).down = s.down := rfl
@[simp] theorem State.modUp_links : (s.modUp b g).links = s.links := rfl
@[simp] theorem State.modUp_u : (s.modUp b g).u = s.u := rfl
@[simp] theorem State.modUp_scales : (s.modUp b g).scales = s.scales := rfl
@[simp] theorem State.modUp_l : (s.modUp b g).l = s.l := rfl
@[simp] theorem State.modUp_f : (s.modUp b g).f = s.f := rfl
@[simp] theorem State.modUp_captures : (s.modUp b g).captures = s.captures := rfl
@[simp] theorem State.modUp_coppice : (s.modUp b g).coppice = s.coppice := rfl
@[simp] theorem State.modUp_sched : (s.modUp b g).sched = s.sched := rfl
@[simp] theorem State.modUp_nextHandle : (s.modUp b g).nextHandle = s.nextHandle := rfl
@[simp] theorem State.modUp_nextBatch : (s.modUp b g).nextBatch = s.nextBatch := rfl
@[simp] theorem State.modUp_canopy : (s.modUp b g).canopy = s.canopy := rfl
@[simp] theorem State.modUp_glade : (s.modUp b g).glade = s.glade := rfl
@[simp] theorem State.modUp_firebreak : (s.modUp b g).firebreak = s.firebreak := rfl
@[simp] theorem State.modUp_wdt : (s.modUp b g).wdt = s.wdt := rfl
@[simp] theorem State.modUp_heartwood : (s.modUp b g).heartwood = s.heartwood := rfl
@[simp] theorem State.modUp_hsl : (s.modUp b g).hsl = s.hsl := rfl
@[simp] theorem State.modUp_mbx : (s.modUp b g).mbx = s.mbx := rfl
@[simp] theorem State.modUp_commit : (s.modUp b g).commit = s.commit := rfl
@[simp] theorem State.modUp_journalCommits : (s.modUp b g).journalCommits = s.journalCommits := rfl
@[simp] theorem State.modUp_ports : (s.modUp b g).ports = s.ports := rfl
@[simp] theorem State.modUp_sw : (s.modUp b g).sw = s.sw := rfl
@[simp] theorem State.modUp_delivered : (s.modUp b g).delivered = s.delivered := rfl
@[simp] theorem State.modUp_gcl : (s.modUp b g).gcl = s.gcl := rfl
@[simp] theorem State.modUp_red : (s.modUp b g).red = s.red := rfl
@[simp] theorem State.modUp_msp : (s.modUp b g).msp = s.msp := rfl
@[simp] theorem State.modUp_jrn : (s.modUp b g).jrn = s.jrn := rfl
@[simp] theorem State.modUp_sup : (s.modUp b g).sup = s.sup := rfl
@[simp] theorem State.modUp_draws : (s.modUp b g).draws = s.draws := rfl
@[simp] theorem State.modUp_p : (s.modUp b g).p n cls' inst' attr' = s.p n cls' inst' attr' := rfl
@[simp] theorem State.modUp_pAt : (s.modUp b g).pAt n cls' inst' attr' off' = s.pAt n cls' inst' attr' off' := rfl

end

/-! ### modDown -/

section
variable (s : State) (b : Fin 4) (g : LinkDir DownCell SyncCell → LinkDir DownCell SyncCell) (n cls' inst' attr' off' : Nat)

@[simp] theorem State.modDown_pending : (s.modDown b g).pending = s.pending := rfl
@[simp] theorem State.modDown_dict : (s.modDown b g).dict = s.dict := rfl
@[simp] theorem State.modDown_staged : (s.modDown b g).staged = s.staged := rfl
@[simp] theorem State.modDown_bankCfg : (s.modDown b g).bankCfg = s.bankCfg := rfl
@[simp] theorem State.modDown_tb : (s.modDown b g).tb = s.tb := rfl
@[simp] theorem State.modDown_banks : (s.modDown b g).banks = s.banks := rfl
@[simp] theorem State.modDown_up : (s.modDown b g).up = s.up := rfl
@[simp] theorem State.modDown_links : (s.modDown b g).links = s.links := rfl
@[simp] theorem State.modDown_u : (s.modDown b g).u = s.u := rfl
@[simp] theorem State.modDown_scales : (s.modDown b g).scales = s.scales := rfl
@[simp] theorem State.modDown_l : (s.modDown b g).l = s.l := rfl
@[simp] theorem State.modDown_f : (s.modDown b g).f = s.f := rfl
@[simp] theorem State.modDown_captures : (s.modDown b g).captures = s.captures := rfl
@[simp] theorem State.modDown_coppice : (s.modDown b g).coppice = s.coppice := rfl
@[simp] theorem State.modDown_sched : (s.modDown b g).sched = s.sched := rfl
@[simp] theorem State.modDown_nextHandle : (s.modDown b g).nextHandle = s.nextHandle := rfl
@[simp] theorem State.modDown_nextBatch : (s.modDown b g).nextBatch = s.nextBatch := rfl
@[simp] theorem State.modDown_canopy : (s.modDown b g).canopy = s.canopy := rfl
@[simp] theorem State.modDown_glade : (s.modDown b g).glade = s.glade := rfl
@[simp] theorem State.modDown_firebreak : (s.modDown b g).firebreak = s.firebreak := rfl
@[simp] theorem State.modDown_wdt : (s.modDown b g).wdt = s.wdt := rfl
@[simp] theorem State.modDown_heartwood : (s.modDown b g).heartwood = s.heartwood := rfl
@[simp] theorem State.modDown_hsl : (s.modDown b g).hsl = s.hsl := rfl
@[simp] theorem State.modDown_mbx : (s.modDown b g).mbx = s.mbx := rfl
@[simp] theorem State.modDown_commit : (s.modDown b g).commit = s.commit := rfl
@[simp] theorem State.modDown_journalCommits : (s.modDown b g).journalCommits = s.journalCommits := rfl
@[simp] theorem State.modDown_ports : (s.modDown b g).ports = s.ports := rfl
@[simp] theorem State.modDown_sw : (s.modDown b g).sw = s.sw := rfl
@[simp] theorem State.modDown_delivered : (s.modDown b g).delivered = s.delivered := rfl
@[simp] theorem State.modDown_gcl : (s.modDown b g).gcl = s.gcl := rfl
@[simp] theorem State.modDown_red : (s.modDown b g).red = s.red := rfl
@[simp] theorem State.modDown_msp : (s.modDown b g).msp = s.msp := rfl
@[simp] theorem State.modDown_jrn : (s.modDown b g).jrn = s.jrn := rfl
@[simp] theorem State.modDown_sup : (s.modDown b g).sup = s.sup := rfl
@[simp] theorem State.modDown_draws : (s.modDown b g).draws = s.draws := rfl
@[simp] theorem State.modDown_p : (s.modDown b g).p n cls' inst' attr' = s.p n cls' inst' attr' := rfl
@[simp] theorem State.modDown_pAt : (s.modDown b g).pAt n cls' inst' attr' off' = s.pAt n cls' inst' attr' off' := rfl

end

/-! ### raise -/

section
variable (s : State) (id : Nat) (kind index : Nat) (detail : Word) (n cls' inst' attr' off' : Nat)

@[simp] theorem State.raise_pending : (s.raise id kind index detail).pending = s.pending := rfl
@[simp] theorem State.raise_dict : (s.raise id kind index detail).dict = s.dict := rfl
@[simp] theorem State.raise_staged : (s.raise id kind index detail).staged = s.staged := rfl
@[simp] theorem State.raise_bankCfg : (s.raise id kind index detail).bankCfg = s.bankCfg := rfl
@[simp] theorem State.raise_tb : (s.raise id kind index detail).tb = s.tb := rfl
@[simp] theorem State.raise_banks : (s.raise id kind index detail).banks = s.banks := rfl
@[simp] theorem State.raise_down : (s.raise id kind index detail).down = s.down := rfl
@[simp] theorem State.raise_up : (s.raise id kind index detail).up = s.up := rfl
@[simp] theorem State.raise_links : (s.raise id kind index detail).links = s.links := rfl
@[simp] theorem State.raise_u : (s.raise id kind index detail).u = s.u := rfl
@[simp] theorem State.raise_scales : (s.raise id kind index detail).scales = s.scales := rfl
@[simp] theorem State.raise_l : (s.raise id kind index detail).l = s.l := rfl
@[simp] theorem State.raise_f : (s.raise id kind index detail).f = s.f := rfl
@[simp] theorem State.raise_captures : (s.raise id kind index detail).captures = s.captures := rfl
@[simp] theorem State.raise_coppice : (s.raise id kind index detail).coppice = s.coppice := rfl
@[simp] theorem State.raise_sched : (s.raise id kind index detail).sched = s.sched := rfl
@[simp] theorem State.raise_nextHandle : (s.raise id kind index detail).nextHandle = s.nextHandle := rfl
@[simp] theorem State.raise_nextBatch : (s.raise id kind index detail).nextBatch = s.nextBatch := rfl
@[simp] theorem State.raise_canopy : (s.raise id kind index detail).canopy = s.canopy := rfl
@[simp] theorem State.raise_glade : (s.raise id kind index detail).glade = s.glade := rfl
@[simp] theorem State.raise_wdt : (s.raise id kind index detail).wdt = s.wdt := rfl
@[simp] theorem State.raise_heartwood : (s.raise id kind index detail).heartwood = s.heartwood := rfl
@[simp] theorem State.raise_hsl : (s.raise id kind index detail).hsl = s.hsl := rfl
@[simp] theorem State.raise_mbx : (s.raise id kind index detail).mbx = s.mbx := rfl
@[simp] theorem State.raise_commit : (s.raise id kind index detail).commit = s.commit := rfl
@[simp] theorem State.raise_journalCommits : (s.raise id kind index detail).journalCommits = s.journalCommits := rfl
@[simp] theorem State.raise_ports : (s.raise id kind index detail).ports = s.ports := rfl
@[simp] theorem State.raise_sw : (s.raise id kind index detail).sw = s.sw := rfl
@[simp] theorem State.raise_delivered : (s.raise id kind index detail).delivered = s.delivered := rfl
@[simp] theorem State.raise_gcl : (s.raise id kind index detail).gcl = s.gcl := rfl
@[simp] theorem State.raise_red : (s.raise id kind index detail).red = s.red := rfl
@[simp] theorem State.raise_msp : (s.raise id kind index detail).msp = s.msp := rfl
@[simp] theorem State.raise_jrn : (s.raise id kind index detail).jrn = s.jrn := rfl
@[simp] theorem State.raise_sup : (s.raise id kind index detail).sup = s.sup := rfl
@[simp] theorem State.raise_draws : (s.raise id kind index detail).draws = s.draws := rfl
@[simp] theorem State.raise_firebreak_active : (s.raise id kind index detail).firebreak.active = s.firebreak.active := rfl
@[simp] theorem State.raise_firebreak_windows : (s.raise id kind index detail).firebreak.windows = s.firebreak.windows := rfl
@[simp] theorem State.raise_firebreak_log : (s.raise id kind index detail).firebreak.log = s.firebreak.log := rfl
@[simp] theorem State.raise_firebreak_seq : (s.raise id kind index detail).firebreak.seq = s.firebreak.seq := rfl
@[simp] theorem State.raise_firebreak_records : (s.raise id kind index detail).firebreak.records = s.firebreak.records := rfl
@[simp] theorem State.raise_p : (s.raise id kind index detail).p n cls' inst' attr' = s.p n cls' inst' attr' := rfl
@[simp] theorem State.raise_pAt :
    (s.raise id kind index detail).pAt n cls' inst' attr' off' = s.pAt n cls' inst' attr' off' := rfl

end

/-! ### endFault -/

section
variable (s : State) (id : Nat) (kind index : Nat) (n cls' inst' attr' off' : Nat)

@[simp] theorem State.endFault_pending : (s.endFault id kind index).pending = s.pending := rfl
@[simp] theorem State.endFault_dict : (s.endFault id kind index).dict = s.dict := rfl
@[simp] theorem State.endFault_staged : (s.endFault id kind index).staged = s.staged := rfl
@[simp] theorem State.endFault_bankCfg : (s.endFault id kind index).bankCfg = s.bankCfg := rfl
@[simp] theorem State.endFault_tb : (s.endFault id kind index).tb = s.tb := rfl
@[simp] theorem State.endFault_banks : (s.endFault id kind index).banks = s.banks := rfl
@[simp] theorem State.endFault_down : (s.endFault id kind index).down = s.down := rfl
@[simp] theorem State.endFault_up : (s.endFault id kind index).up = s.up := rfl
@[simp] theorem State.endFault_links : (s.endFault id kind index).links = s.links := rfl
@[simp] theorem State.endFault_u : (s.endFault id kind index).u = s.u := rfl
@[simp] theorem State.endFault_scales : (s.endFault id kind index).scales = s.scales := rfl
@[simp] theorem State.endFault_l : (s.endFault id kind index).l = s.l := rfl
@[simp] theorem State.endFault_f : (s.endFault id kind index).f = s.f := rfl
@[simp] theorem State.endFault_captures : (s.endFault id kind index).captures = s.captures := rfl
@[simp] theorem State.endFault_coppice : (s.endFault id kind index).coppice = s.coppice := rfl
@[simp] theorem State.endFault_sched : (s.endFault id kind index).sched = s.sched := rfl
@[simp] theorem State.endFault_nextHandle : (s.endFault id kind index).nextHandle = s.nextHandle := rfl
@[simp] theorem State.endFault_nextBatch : (s.endFault id kind index).nextBatch = s.nextBatch := rfl
@[simp] theorem State.endFault_canopy : (s.endFault id kind index).canopy = s.canopy := rfl
@[simp] theorem State.endFault_glade : (s.endFault id kind index).glade = s.glade := rfl
@[simp] theorem State.endFault_wdt : (s.endFault id kind index).wdt = s.wdt := rfl
@[simp] theorem State.endFault_heartwood : (s.endFault id kind index).heartwood = s.heartwood := rfl
@[simp] theorem State.endFault_hsl : (s.endFault id kind index).hsl = s.hsl := rfl
@[simp] theorem State.endFault_mbx : (s.endFault id kind index).mbx = s.mbx := rfl
@[simp] theorem State.endFault_commit : (s.endFault id kind index).commit = s.commit := rfl
@[simp] theorem State.endFault_journalCommits : (s.endFault id kind index).journalCommits = s.journalCommits := rfl
@[simp] theorem State.endFault_ports : (s.endFault id kind index).ports = s.ports := rfl
@[simp] theorem State.endFault_sw : (s.endFault id kind index).sw = s.sw := rfl
@[simp] theorem State.endFault_delivered : (s.endFault id kind index).delivered = s.delivered := rfl
@[simp] theorem State.endFault_gcl : (s.endFault id kind index).gcl = s.gcl := rfl
@[simp] theorem State.endFault_red : (s.endFault id kind index).red = s.red := rfl
@[simp] theorem State.endFault_msp : (s.endFault id kind index).msp = s.msp := rfl
@[simp] theorem State.endFault_jrn : (s.endFault id kind index).jrn = s.jrn := rfl
@[simp] theorem State.endFault_sup : (s.endFault id kind index).sup = s.sup := rfl
@[simp] theorem State.endFault_draws : (s.endFault id kind index).draws = s.draws := rfl
@[simp] theorem State.endFault_firebreak_active : (s.endFault id kind index).firebreak.active = s.firebreak.active := rfl
@[simp] theorem State.endFault_firebreak_windows : (s.endFault id kind index).firebreak.windows = s.firebreak.windows := rfl
@[simp] theorem State.endFault_firebreak_log : (s.endFault id kind index).firebreak.log = s.firebreak.log := rfl
@[simp] theorem State.endFault_firebreak_seq : (s.endFault id kind index).firebreak.seq = s.firebreak.seq := rfl
@[simp] theorem State.endFault_firebreak_records : (s.endFault id kind index).firebreak.records = s.firebreak.records := rfl
@[simp] theorem State.endFault_p : (s.endFault id kind index).p n cls' inst' attr' = s.p n cls' inst' attr' := rfl
@[simp] theorem State.endFault_pAt :
    (s.endFault id kind index).pAt n cls' inst' attr' off' = s.pAt n cls' inst' attr' off' := rfl

end

/-! ### journalAt -/

section
variable (s : State) (typ : Nat) (rest : List Byte) (n cls' inst' attr' off' : Nat)

@[simp] theorem State.journalAt_pending : (s.journalAt typ rest).pending = s.pending := rfl
@[simp] theorem State.journalAt_dict : (s.journalAt typ rest).dict = s.dict := rfl
@[simp] theorem State.journalAt_staged : (s.journalAt typ rest).staged = s.staged := rfl
@[simp] theorem State.journalAt_bankCfg : (s.journalAt typ rest).bankCfg = s.bankCfg := rfl
@[simp] theorem State.journalAt_tb : (s.journalAt typ rest).tb = s.tb := rfl
@[simp] theorem State.journalAt_banks : (s.journalAt typ rest).banks = s.banks := rfl
@[simp] theorem State.journalAt_down : (s.journalAt typ rest).down = s.down := rfl
@[simp] theorem State.journalAt_up : (s.journalAt typ rest).up = s.up := rfl
@[simp] theorem State.journalAt_links : (s.journalAt typ rest).links = s.links := rfl
@[simp] theorem State.journalAt_u : (s.journalAt typ rest).u = s.u := rfl
@[simp] theorem State.journalAt_scales : (s.journalAt typ rest).scales = s.scales := rfl
@[simp] theorem State.journalAt_l : (s.journalAt typ rest).l = s.l := rfl
@[simp] theorem State.journalAt_f : (s.journalAt typ rest).f = s.f := rfl
@[simp] theorem State.journalAt_captures : (s.journalAt typ rest).captures = s.captures := rfl
@[simp] theorem State.journalAt_coppice : (s.journalAt typ rest).coppice = s.coppice := rfl
@[simp] theorem State.journalAt_sched : (s.journalAt typ rest).sched = s.sched := rfl
@[simp] theorem State.journalAt_nextHandle : (s.journalAt typ rest).nextHandle = s.nextHandle := rfl
@[simp] theorem State.journalAt_nextBatch : (s.journalAt typ rest).nextBatch = s.nextBatch := rfl
@[simp] theorem State.journalAt_canopy : (s.journalAt typ rest).canopy = s.canopy := rfl
@[simp] theorem State.journalAt_glade : (s.journalAt typ rest).glade = s.glade := rfl
@[simp] theorem State.journalAt_firebreak : (s.journalAt typ rest).firebreak = s.firebreak := rfl
@[simp] theorem State.journalAt_wdt : (s.journalAt typ rest).wdt = s.wdt := rfl
@[simp] theorem State.journalAt_heartwood : (s.journalAt typ rest).heartwood = s.heartwood := rfl
@[simp] theorem State.journalAt_hsl : (s.journalAt typ rest).hsl = s.hsl := rfl
@[simp] theorem State.journalAt_mbx : (s.journalAt typ rest).mbx = s.mbx := rfl
@[simp] theorem State.journalAt_commit : (s.journalAt typ rest).commit = s.commit := rfl
@[simp] theorem State.journalAt_journalCommits : (s.journalAt typ rest).journalCommits = s.journalCommits := rfl
@[simp] theorem State.journalAt_ports : (s.journalAt typ rest).ports = s.ports := rfl
@[simp] theorem State.journalAt_sw : (s.journalAt typ rest).sw = s.sw := rfl
@[simp] theorem State.journalAt_delivered : (s.journalAt typ rest).delivered = s.delivered := rfl
@[simp] theorem State.journalAt_gcl : (s.journalAt typ rest).gcl = s.gcl := rfl
@[simp] theorem State.journalAt_red : (s.journalAt typ rest).red = s.red := rfl
@[simp] theorem State.journalAt_msp : (s.journalAt typ rest).msp = s.msp := rfl
@[simp] theorem State.journalAt_sup : (s.journalAt typ rest).sup = s.sup := rfl
@[simp] theorem State.journalAt_draws : (s.journalAt typ rest).draws = s.draws := rfl
@[simp] theorem State.journalAt_jrn_ram : (s.journalAt typ rest).jrn.ram = s.jrn.ram := rfl
@[simp] theorem State.journalAt_jrn_pages : (s.journalAt typ rest).jrn.pages = s.jrn.pages := rfl
@[simp] theorem State.journalAt_jrn_next : (s.journalAt typ rest).jrn.next = s.jrn.next := rfl
@[simp] theorem State.journalAt_p : (s.journalAt typ rest).p n cls' inst' attr' = s.p n cls' inst' attr' := rfl
@[simp] theorem State.journalAt_pAt : (s.journalAt typ rest).pAt n cls' inst' attr' off' = s.pAt n cls' inst' attr' off' := rfl

end

/-! ### sendDown -/

section
variable (s : State) (b : Fin 4) (c : DownCell) (n cls' inst' attr' off' : Nat)

@[simp] theorem State.sendDown_pending : (s.sendDown b c).pending = s.pending := rfl
@[simp] theorem State.sendDown_dict : (s.sendDown b c).dict = s.dict := rfl
@[simp] theorem State.sendDown_staged : (s.sendDown b c).staged = s.staged := rfl
@[simp] theorem State.sendDown_bankCfg : (s.sendDown b c).bankCfg = s.bankCfg := rfl
@[simp] theorem State.sendDown_tb : (s.sendDown b c).tb = s.tb := rfl
@[simp] theorem State.sendDown_banks : (s.sendDown b c).banks = s.banks := rfl
@[simp] theorem State.sendDown_up : (s.sendDown b c).up = s.up := rfl
@[simp] theorem State.sendDown_links : (s.sendDown b c).links = s.links := rfl
@[simp] theorem State.sendDown_u : (s.sendDown b c).u = s.u := rfl
@[simp] theorem State.sendDown_scales : (s.sendDown b c).scales = s.scales := rfl
@[simp] theorem State.sendDown_l : (s.sendDown b c).l = s.l := rfl
@[simp] theorem State.sendDown_f : (s.sendDown b c).f = s.f := rfl
@[simp] theorem State.sendDown_captures : (s.sendDown b c).captures = s.captures := rfl
@[simp] theorem State.sendDown_coppice : (s.sendDown b c).coppice = s.coppice := rfl
@[simp] theorem State.sendDown_sched : (s.sendDown b c).sched = s.sched := rfl
@[simp] theorem State.sendDown_nextHandle : (s.sendDown b c).nextHandle = s.nextHandle := rfl
@[simp] theorem State.sendDown_nextBatch : (s.sendDown b c).nextBatch = s.nextBatch := rfl
@[simp] theorem State.sendDown_canopy : (s.sendDown b c).canopy = s.canopy := rfl
@[simp] theorem State.sendDown_glade : (s.sendDown b c).glade = s.glade := rfl
@[simp] theorem State.sendDown_firebreak : (s.sendDown b c).firebreak = s.firebreak := rfl
@[simp] theorem State.sendDown_wdt : (s.sendDown b c).wdt = s.wdt := rfl
@[simp] theorem State.sendDown_heartwood : (s.sendDown b c).heartwood = s.heartwood := rfl
@[simp] theorem State.sendDown_hsl : (s.sendDown b c).hsl = s.hsl := rfl
@[simp] theorem State.sendDown_mbx : (s.sendDown b c).mbx = s.mbx := rfl
@[simp] theorem State.sendDown_commit : (s.sendDown b c).commit = s.commit := rfl
@[simp] theorem State.sendDown_journalCommits : (s.sendDown b c).journalCommits = s.journalCommits := rfl
@[simp] theorem State.sendDown_ports : (s.sendDown b c).ports = s.ports := rfl
@[simp] theorem State.sendDown_sw : (s.sendDown b c).sw = s.sw := rfl
@[simp] theorem State.sendDown_delivered : (s.sendDown b c).delivered = s.delivered := rfl
@[simp] theorem State.sendDown_gcl : (s.sendDown b c).gcl = s.gcl := rfl
@[simp] theorem State.sendDown_red : (s.sendDown b c).red = s.red := rfl
@[simp] theorem State.sendDown_msp : (s.sendDown b c).msp = s.msp := rfl
@[simp] theorem State.sendDown_jrn : (s.sendDown b c).jrn = s.jrn := rfl
@[simp] theorem State.sendDown_sup : (s.sendDown b c).sup = s.sup := rfl
@[simp] theorem State.sendDown_draws : (s.sendDown b c).draws = s.draws := rfl
@[simp] theorem State.sendDown_p : (s.sendDown b c).p n cls' inst' attr' = s.p n cls' inst' attr' := rfl
@[simp] theorem State.sendDown_pAt : (s.sendDown b c).pAt n cls' inst' attr' off' = s.pAt n cls' inst' attr' off' := rfl

end

/-! ### sendDownExpress -/

section
variable (s : State) (b : Fin 4) (c : DownCell) (n cls' inst' attr' off' : Nat)

@[simp] theorem State.sendDownExpress_pending : (s.sendDownExpress b c).pending = s.pending := rfl
@[simp] theorem State.sendDownExpress_dict : (s.sendDownExpress b c).dict = s.dict := rfl
@[simp] theorem State.sendDownExpress_staged : (s.sendDownExpress b c).staged = s.staged := rfl
@[simp] theorem State.sendDownExpress_bankCfg : (s.sendDownExpress b c).bankCfg = s.bankCfg := rfl
@[simp] theorem State.sendDownExpress_tb : (s.sendDownExpress b c).tb = s.tb := rfl
@[simp] theorem State.sendDownExpress_banks : (s.sendDownExpress b c).banks = s.banks := rfl
@[simp] theorem State.sendDownExpress_up : (s.sendDownExpress b c).up = s.up := rfl
@[simp] theorem State.sendDownExpress_links : (s.sendDownExpress b c).links = s.links := rfl
@[simp] theorem State.sendDownExpress_u : (s.sendDownExpress b c).u = s.u := rfl
@[simp] theorem State.sendDownExpress_scales : (s.sendDownExpress b c).scales = s.scales := rfl
@[simp] theorem State.sendDownExpress_l : (s.sendDownExpress b c).l = s.l := rfl
@[simp] theorem State.sendDownExpress_f : (s.sendDownExpress b c).f = s.f := rfl
@[simp] theorem State.sendDownExpress_captures : (s.sendDownExpress b c).captures = s.captures := rfl
@[simp] theorem State.sendDownExpress_coppice : (s.sendDownExpress b c).coppice = s.coppice := rfl
@[simp] theorem State.sendDownExpress_sched : (s.sendDownExpress b c).sched = s.sched := rfl
@[simp] theorem State.sendDownExpress_nextHandle : (s.sendDownExpress b c).nextHandle = s.nextHandle := rfl
@[simp] theorem State.sendDownExpress_nextBatch : (s.sendDownExpress b c).nextBatch = s.nextBatch := rfl
@[simp] theorem State.sendDownExpress_canopy : (s.sendDownExpress b c).canopy = s.canopy := rfl
@[simp] theorem State.sendDownExpress_glade : (s.sendDownExpress b c).glade = s.glade := rfl
@[simp] theorem State.sendDownExpress_firebreak : (s.sendDownExpress b c).firebreak = s.firebreak := rfl
@[simp] theorem State.sendDownExpress_wdt : (s.sendDownExpress b c).wdt = s.wdt := rfl
@[simp] theorem State.sendDownExpress_heartwood : (s.sendDownExpress b c).heartwood = s.heartwood := rfl
@[simp] theorem State.sendDownExpress_hsl : (s.sendDownExpress b c).hsl = s.hsl := rfl
@[simp] theorem State.sendDownExpress_mbx : (s.sendDownExpress b c).mbx = s.mbx := rfl
@[simp] theorem State.sendDownExpress_commit : (s.sendDownExpress b c).commit = s.commit := rfl
@[simp] theorem State.sendDownExpress_journalCommits : (s.sendDownExpress b c).journalCommits = s.journalCommits := rfl
@[simp] theorem State.sendDownExpress_ports : (s.sendDownExpress b c).ports = s.ports := rfl
@[simp] theorem State.sendDownExpress_sw : (s.sendDownExpress b c).sw = s.sw := rfl
@[simp] theorem State.sendDownExpress_delivered : (s.sendDownExpress b c).delivered = s.delivered := rfl
@[simp] theorem State.sendDownExpress_gcl : (s.sendDownExpress b c).gcl = s.gcl := rfl
@[simp] theorem State.sendDownExpress_red : (s.sendDownExpress b c).red = s.red := rfl
@[simp] theorem State.sendDownExpress_msp : (s.sendDownExpress b c).msp = s.msp := rfl
@[simp] theorem State.sendDownExpress_jrn : (s.sendDownExpress b c).jrn = s.jrn := rfl
@[simp] theorem State.sendDownExpress_sup : (s.sendDownExpress b c).sup = s.sup := rfl
@[simp] theorem State.sendDownExpress_draws : (s.sendDownExpress b c).draws = s.draws := rfl
@[simp] theorem State.sendDownExpress_p : (s.sendDownExpress b c).p n cls' inst' attr' = s.p n cls' inst' attr' := rfl
@[simp] theorem State.sendDownExpress_pAt :
    (s.sendDownExpress b c).pAt n cls' inst' attr' off' = s.pAt n cls' inst' attr' off' := rfl

end

/-! ### sendUp -/

section
variable (s : State) (b : Fin 4) (c : UpCell) (n cls' inst' attr' off' : Nat)

@[simp] theorem State.sendUp_pending : (s.sendUp b c).pending = s.pending := rfl
@[simp] theorem State.sendUp_dict : (s.sendUp b c).dict = s.dict := rfl
@[simp] theorem State.sendUp_staged : (s.sendUp b c).staged = s.staged := rfl
@[simp] theorem State.sendUp_bankCfg : (s.sendUp b c).bankCfg = s.bankCfg := rfl
@[simp] theorem State.sendUp_tb : (s.sendUp b c).tb = s.tb := rfl
@[simp] theorem State.sendUp_banks : (s.sendUp b c).banks = s.banks := rfl
@[simp] theorem State.sendUp_down : (s.sendUp b c).down = s.down := rfl
@[simp] theorem State.sendUp_links : (s.sendUp b c).links = s.links := rfl
@[simp] theorem State.sendUp_u : (s.sendUp b c).u = s.u := rfl
@[simp] theorem State.sendUp_scales : (s.sendUp b c).scales = s.scales := rfl
@[simp] theorem State.sendUp_l : (s.sendUp b c).l = s.l := rfl
@[simp] theorem State.sendUp_f : (s.sendUp b c).f = s.f := rfl
@[simp] theorem State.sendUp_captures : (s.sendUp b c).captures = s.captures := rfl
@[simp] theorem State.sendUp_coppice : (s.sendUp b c).coppice = s.coppice := rfl
@[simp] theorem State.sendUp_sched : (s.sendUp b c).sched = s.sched := rfl
@[simp] theorem State.sendUp_nextHandle : (s.sendUp b c).nextHandle = s.nextHandle := rfl
@[simp] theorem State.sendUp_nextBatch : (s.sendUp b c).nextBatch = s.nextBatch := rfl
@[simp] theorem State.sendUp_canopy : (s.sendUp b c).canopy = s.canopy := rfl
@[simp] theorem State.sendUp_glade : (s.sendUp b c).glade = s.glade := rfl
@[simp] theorem State.sendUp_firebreak : (s.sendUp b c).firebreak = s.firebreak := rfl
@[simp] theorem State.sendUp_wdt : (s.sendUp b c).wdt = s.wdt := rfl
@[simp] theorem State.sendUp_heartwood : (s.sendUp b c).heartwood = s.heartwood := rfl
@[simp] theorem State.sendUp_hsl : (s.sendUp b c).hsl = s.hsl := rfl
@[simp] theorem State.sendUp_mbx : (s.sendUp b c).mbx = s.mbx := rfl
@[simp] theorem State.sendUp_commit : (s.sendUp b c).commit = s.commit := rfl
@[simp] theorem State.sendUp_journalCommits : (s.sendUp b c).journalCommits = s.journalCommits := rfl
@[simp] theorem State.sendUp_ports : (s.sendUp b c).ports = s.ports := rfl
@[simp] theorem State.sendUp_sw : (s.sendUp b c).sw = s.sw := rfl
@[simp] theorem State.sendUp_delivered : (s.sendUp b c).delivered = s.delivered := rfl
@[simp] theorem State.sendUp_gcl : (s.sendUp b c).gcl = s.gcl := rfl
@[simp] theorem State.sendUp_red : (s.sendUp b c).red = s.red := rfl
@[simp] theorem State.sendUp_msp : (s.sendUp b c).msp = s.msp := rfl
@[simp] theorem State.sendUp_jrn : (s.sendUp b c).jrn = s.jrn := rfl
@[simp] theorem State.sendUp_sup : (s.sendUp b c).sup = s.sup := rfl
@[simp] theorem State.sendUp_draws : (s.sendUp b c).draws = s.draws := rfl
@[simp] theorem State.sendUp_p : (s.sendUp b c).p n cls' inst' attr' = s.p n cls' inst' attr' := rfl
@[simp] theorem State.sendUp_pAt : (s.sendUp b c).pAt n cls' inst' attr' off' = s.pAt n cls' inst' attr' off' := rfl

end

/-! ### sendUpExpress -/

section
variable (s : State) (b : Fin 4) (c : UpCell) (n cls' inst' attr' off' : Nat)

@[simp] theorem State.sendUpExpress_pending : (s.sendUpExpress b c).pending = s.pending := rfl
@[simp] theorem State.sendUpExpress_dict : (s.sendUpExpress b c).dict = s.dict := rfl
@[simp] theorem State.sendUpExpress_staged : (s.sendUpExpress b c).staged = s.staged := rfl
@[simp] theorem State.sendUpExpress_bankCfg : (s.sendUpExpress b c).bankCfg = s.bankCfg := rfl
@[simp] theorem State.sendUpExpress_tb : (s.sendUpExpress b c).tb = s.tb := rfl
@[simp] theorem State.sendUpExpress_banks : (s.sendUpExpress b c).banks = s.banks := rfl
@[simp] theorem State.sendUpExpress_down : (s.sendUpExpress b c).down = s.down := rfl
@[simp] theorem State.sendUpExpress_links : (s.sendUpExpress b c).links = s.links := rfl
@[simp] theorem State.sendUpExpress_u : (s.sendUpExpress b c).u = s.u := rfl
@[simp] theorem State.sendUpExpress_scales : (s.sendUpExpress b c).scales = s.scales := rfl
@[simp] theorem State.sendUpExpress_l : (s.sendUpExpress b c).l = s.l := rfl
@[simp] theorem State.sendUpExpress_f : (s.sendUpExpress b c).f = s.f := rfl
@[simp] theorem State.sendUpExpress_captures : (s.sendUpExpress b c).captures = s.captures := rfl
@[simp] theorem State.sendUpExpress_coppice : (s.sendUpExpress b c).coppice = s.coppice := rfl
@[simp] theorem State.sendUpExpress_sched : (s.sendUpExpress b c).sched = s.sched := rfl
@[simp] theorem State.sendUpExpress_nextHandle : (s.sendUpExpress b c).nextHandle = s.nextHandle := rfl
@[simp] theorem State.sendUpExpress_nextBatch : (s.sendUpExpress b c).nextBatch = s.nextBatch := rfl
@[simp] theorem State.sendUpExpress_canopy : (s.sendUpExpress b c).canopy = s.canopy := rfl
@[simp] theorem State.sendUpExpress_glade : (s.sendUpExpress b c).glade = s.glade := rfl
@[simp] theorem State.sendUpExpress_firebreak : (s.sendUpExpress b c).firebreak = s.firebreak := rfl
@[simp] theorem State.sendUpExpress_wdt : (s.sendUpExpress b c).wdt = s.wdt := rfl
@[simp] theorem State.sendUpExpress_heartwood : (s.sendUpExpress b c).heartwood = s.heartwood := rfl
@[simp] theorem State.sendUpExpress_hsl : (s.sendUpExpress b c).hsl = s.hsl := rfl
@[simp] theorem State.sendUpExpress_mbx : (s.sendUpExpress b c).mbx = s.mbx := rfl
@[simp] theorem State.sendUpExpress_commit : (s.sendUpExpress b c).commit = s.commit := rfl
@[simp] theorem State.sendUpExpress_journalCommits : (s.sendUpExpress b c).journalCommits = s.journalCommits := rfl
@[simp] theorem State.sendUpExpress_ports : (s.sendUpExpress b c).ports = s.ports := rfl
@[simp] theorem State.sendUpExpress_sw : (s.sendUpExpress b c).sw = s.sw := rfl
@[simp] theorem State.sendUpExpress_delivered : (s.sendUpExpress b c).delivered = s.delivered := rfl
@[simp] theorem State.sendUpExpress_gcl : (s.sendUpExpress b c).gcl = s.gcl := rfl
@[simp] theorem State.sendUpExpress_red : (s.sendUpExpress b c).red = s.red := rfl
@[simp] theorem State.sendUpExpress_msp : (s.sendUpExpress b c).msp = s.msp := rfl
@[simp] theorem State.sendUpExpress_jrn : (s.sendUpExpress b c).jrn = s.jrn := rfl
@[simp] theorem State.sendUpExpress_sup : (s.sendUpExpress b c).sup = s.sup := rfl
@[simp] theorem State.sendUpExpress_draws : (s.sendUpExpress b c).draws = s.draws := rfl
@[simp] theorem State.sendUpExpress_p : (s.sendUpExpress b c).p n cls' inst' attr' = s.p n cls' inst' attr' := rfl
@[simp] theorem State.sendUpExpress_pAt :
    (s.sendUpExpress b c).pAt n cls' inst' attr' off' = s.pAt n cls' inst' attr' off' := rfl

end

/-! ### bankRaise -/

section
variable (s : State) (b : Fin 4) (id kind index : Nat) (detail : Word) (n cls' inst' attr' off' : Nat)

@[simp] theorem State.bankRaise_pending : (s.bankRaise b id kind index detail).pending = s.pending := rfl
@[simp] theorem State.bankRaise_dict : (s.bankRaise b id kind index detail).dict = s.dict := rfl
@[simp] theorem State.bankRaise_staged : (s.bankRaise b id kind index detail).staged = s.staged := rfl
@[simp] theorem State.bankRaise_bankCfg : (s.bankRaise b id kind index detail).bankCfg = s.bankCfg := rfl
@[simp] theorem State.bankRaise_tb : (s.bankRaise b id kind index detail).tb = s.tb := rfl
@[simp] theorem State.bankRaise_banks : (s.bankRaise b id kind index detail).banks = s.banks := rfl
@[simp] theorem State.bankRaise_down : (s.bankRaise b id kind index detail).down = s.down := rfl
@[simp] theorem State.bankRaise_links : (s.bankRaise b id kind index detail).links = s.links := rfl
@[simp] theorem State.bankRaise_u : (s.bankRaise b id kind index detail).u = s.u := rfl
@[simp] theorem State.bankRaise_scales : (s.bankRaise b id kind index detail).scales = s.scales := rfl
@[simp] theorem State.bankRaise_l : (s.bankRaise b id kind index detail).l = s.l := rfl
@[simp] theorem State.bankRaise_f : (s.bankRaise b id kind index detail).f = s.f := rfl
@[simp] theorem State.bankRaise_captures : (s.bankRaise b id kind index detail).captures = s.captures := rfl
@[simp] theorem State.bankRaise_coppice : (s.bankRaise b id kind index detail).coppice = s.coppice := rfl
@[simp] theorem State.bankRaise_sched : (s.bankRaise b id kind index detail).sched = s.sched := rfl
@[simp] theorem State.bankRaise_nextHandle : (s.bankRaise b id kind index detail).nextHandle = s.nextHandle := rfl
@[simp] theorem State.bankRaise_nextBatch : (s.bankRaise b id kind index detail).nextBatch = s.nextBatch := rfl
@[simp] theorem State.bankRaise_canopy : (s.bankRaise b id kind index detail).canopy = s.canopy := rfl
@[simp] theorem State.bankRaise_glade : (s.bankRaise b id kind index detail).glade = s.glade := rfl
@[simp] theorem State.bankRaise_firebreak : (s.bankRaise b id kind index detail).firebreak = s.firebreak := rfl
@[simp] theorem State.bankRaise_wdt : (s.bankRaise b id kind index detail).wdt = s.wdt := rfl
@[simp] theorem State.bankRaise_heartwood : (s.bankRaise b id kind index detail).heartwood = s.heartwood := rfl
@[simp] theorem State.bankRaise_hsl : (s.bankRaise b id kind index detail).hsl = s.hsl := rfl
@[simp] theorem State.bankRaise_mbx : (s.bankRaise b id kind index detail).mbx = s.mbx := rfl
@[simp] theorem State.bankRaise_commit : (s.bankRaise b id kind index detail).commit = s.commit := rfl
@[simp] theorem State.bankRaise_journalCommits : (s.bankRaise b id kind index detail).journalCommits = s.journalCommits := rfl
@[simp] theorem State.bankRaise_ports : (s.bankRaise b id kind index detail).ports = s.ports := rfl
@[simp] theorem State.bankRaise_sw : (s.bankRaise b id kind index detail).sw = s.sw := rfl
@[simp] theorem State.bankRaise_delivered : (s.bankRaise b id kind index detail).delivered = s.delivered := rfl
@[simp] theorem State.bankRaise_gcl : (s.bankRaise b id kind index detail).gcl = s.gcl := rfl
@[simp] theorem State.bankRaise_red : (s.bankRaise b id kind index detail).red = s.red := rfl
@[simp] theorem State.bankRaise_msp : (s.bankRaise b id kind index detail).msp = s.msp := rfl
@[simp] theorem State.bankRaise_jrn : (s.bankRaise b id kind index detail).jrn = s.jrn := rfl
@[simp] theorem State.bankRaise_sup : (s.bankRaise b id kind index detail).sup = s.sup := rfl
@[simp] theorem State.bankRaise_draws : (s.bankRaise b id kind index detail).draws = s.draws := rfl
@[simp] theorem State.bankRaise_p : (s.bankRaise b id kind index detail).p n cls' inst' attr' = s.p n cls' inst' attr' := rfl
@[simp] theorem State.bankRaise_pAt :
    (s.bankRaise b id kind index detail).pAt n cls' inst' attr' off' = s.pAt n cls' inst' attr' off' := rfl

end

/-! ### bankEnd -/

section
variable (s : State) (b : Fin 4) (id kind index : Nat) (n cls' inst' attr' off' : Nat)

@[simp] theorem State.bankEnd_pending : (s.bankEnd b id kind index).pending = s.pending := rfl
@[simp] theorem State.bankEnd_dict : (s.bankEnd b id kind index).dict = s.dict := rfl
@[simp] theorem State.bankEnd_staged : (s.bankEnd b id kind index).staged = s.staged := rfl
@[simp] theorem State.bankEnd_bankCfg : (s.bankEnd b id kind index).bankCfg = s.bankCfg := rfl
@[simp] theorem State.bankEnd_tb : (s.bankEnd b id kind index).tb = s.tb := rfl
@[simp] theorem State.bankEnd_banks : (s.bankEnd b id kind index).banks = s.banks := rfl
@[simp] theorem State.bankEnd_down : (s.bankEnd b id kind index).down = s.down := rfl
@[simp] theorem State.bankEnd_links : (s.bankEnd b id kind index).links = s.links := rfl
@[simp] theorem State.bankEnd_u : (s.bankEnd b id kind index).u = s.u := rfl
@[simp] theorem State.bankEnd_scales : (s.bankEnd b id kind index).scales = s.scales := rfl
@[simp] theorem State.bankEnd_l : (s.bankEnd b id kind index).l = s.l := rfl
@[simp] theorem State.bankEnd_f : (s.bankEnd b id kind index).f = s.f := rfl
@[simp] theorem State.bankEnd_captures : (s.bankEnd b id kind index).captures = s.captures := rfl
@[simp] theorem State.bankEnd_coppice : (s.bankEnd b id kind index).coppice = s.coppice := rfl
@[simp] theorem State.bankEnd_sched : (s.bankEnd b id kind index).sched = s.sched := rfl
@[simp] theorem State.bankEnd_nextHandle : (s.bankEnd b id kind index).nextHandle = s.nextHandle := rfl
@[simp] theorem State.bankEnd_nextBatch : (s.bankEnd b id kind index).nextBatch = s.nextBatch := rfl
@[simp] theorem State.bankEnd_canopy : (s.bankEnd b id kind index).canopy = s.canopy := rfl
@[simp] theorem State.bankEnd_glade : (s.bankEnd b id kind index).glade = s.glade := rfl
@[simp] theorem State.bankEnd_firebreak : (s.bankEnd b id kind index).firebreak = s.firebreak := rfl
@[simp] theorem State.bankEnd_wdt : (s.bankEnd b id kind index).wdt = s.wdt := rfl
@[simp] theorem State.bankEnd_heartwood : (s.bankEnd b id kind index).heartwood = s.heartwood := rfl
@[simp] theorem State.bankEnd_hsl : (s.bankEnd b id kind index).hsl = s.hsl := rfl
@[simp] theorem State.bankEnd_mbx : (s.bankEnd b id kind index).mbx = s.mbx := rfl
@[simp] theorem State.bankEnd_commit : (s.bankEnd b id kind index).commit = s.commit := rfl
@[simp] theorem State.bankEnd_journalCommits : (s.bankEnd b id kind index).journalCommits = s.journalCommits := rfl
@[simp] theorem State.bankEnd_ports : (s.bankEnd b id kind index).ports = s.ports := rfl
@[simp] theorem State.bankEnd_sw : (s.bankEnd b id kind index).sw = s.sw := rfl
@[simp] theorem State.bankEnd_delivered : (s.bankEnd b id kind index).delivered = s.delivered := rfl
@[simp] theorem State.bankEnd_gcl : (s.bankEnd b id kind index).gcl = s.gcl := rfl
@[simp] theorem State.bankEnd_red : (s.bankEnd b id kind index).red = s.red := rfl
@[simp] theorem State.bankEnd_msp : (s.bankEnd b id kind index).msp = s.msp := rfl
@[simp] theorem State.bankEnd_jrn : (s.bankEnd b id kind index).jrn = s.jrn := rfl
@[simp] theorem State.bankEnd_sup : (s.bankEnd b id kind index).sup = s.sup := rfl
@[simp] theorem State.bankEnd_draws : (s.bankEnd b id kind index).draws = s.draws := rfl
@[simp] theorem State.bankEnd_p : (s.bankEnd b id kind index).p n cls' inst' attr' = s.p n cls' inst' attr' := rfl
@[simp] theorem State.bankEnd_pAt :
    (s.bankEnd b id kind index).pAt n cls' inst' attr' off' = s.pAt n cls' inst' attr' off' := rfl

end

end Sys2Proof.Machine
end

