-- ==== Sys2Proof/Laws/Params.lean ====
section
/-! SUPPORT. Reading a parameter after a write: the attribute written reads back, every other attribute reads as before, and the
store of the parameters stays canonical. -/

namespace Sys2Proof.Machine

/-- The bytes of two attributes lie apart. -/
theorem parKey_apart {cls inst attr off n cls' inst' attr' off' n' : Nat} (hi : inst < 256) (ha : attr < 256)
    (hi' : inst' < 256) (ha' : attr' < 256) (ho : off + n ≤ 1048576) (ho' : off' + n' ≤ 1048576)
    (h : cls' ≠ cls ∨ inst' ≠ inst ∨ attr' ≠ attr) :
    (cls' * 65536 + inst' * 256 + attr') * 1048576 + off' + n' ≤ (cls * 65536 + inst * 256 + attr) * 1048576 + off ∨
      (cls * 65536 + inst * 256 + attr) * 1048576 + off + n ≤ (cls' * 65536 + inst' * 256 + attr') * 1048576 + off' := by
  have key : cls' * 65536 + inst' * 256 + attr' ≠ cls * 65536 + inst * 256 + attr := by omega
  omega

variable {s : State}

theorem State.setBytes_wf (cls inst attr off : Nat) (l : List Byte) (h : cellsWf parReset s.dict = true) :
    cellsWf parReset (s.setBytes cls inst attr off l).dict = true := cellsWf_writeL h

theorem State.setP_wf (n cls inst attr v : Nat) (h : cellsWf parReset s.dict = true) :
    cellsWf parReset (s.setP n cls inst attr v).dict = true := cellsWf_writeL h

theorem State.setPAt_wf (n cls inst attr off v : Nat) (h : cellsWf parReset s.dict = true) :
    cellsWf parReset (s.setPAt n cls inst attr off v).dict = true := cellsWf_writeL h

theorem State.setPI_wf (n cls inst attr : Nat) (v : Int) (h : cellsWf parReset s.dict = true) :
    cellsWf parReset (s.setPI n cls inst attr v).dict = true := cellsWf_writeL h

theorem State.setPCt_wf (cls inst attr : Nat) (t : CellTime) (h : cellsWf parReset s.dict = true) :
    cellsWf parReset (s.setPCt cls inst attr t).dict = true := cellsWf_writeL h

theorem State.inc_wf (n cls inst attr : Nat) (h : cellsWf parReset s.dict = true) :
    cellsWf parReset (s.inc n cls inst attr).dict = true := cellsWf_writeL h

theorem State.incAt_wf (n cls inst attr off : Nat) (h : cellsWf parReset s.dict = true) :
    cellsWf parReset (s.incAt n cls inst attr off).dict = true := cellsWf_writeL h

theorem State.orP_wf (cls inst attr bits : Nat) (h : cellsWf parReset s.dict = true) :
    cellsWf parReset (s.orP cls inst attr bits).dict = true := cellsWf_writeL h

/-- The bytes written read back. -/
theorem State.pBytes_setBytes (cls inst attr off : Nat) (l : List Byte) (h : cellsWf parReset s.dict = true) :
    (s.setBytes cls inst attr off l).pBytes l.length cls inst attr off = l := cellsReadN_writeL h

theorem State.pAt_setPAt (n cls inst attr off v : Nat) (h : cellsWf parReset s.dict = true) :
    (s.setPAt n cls inst attr off v).pAt n cls inst attr off = v % 256 ^ n := by
  have := State.pBytes_setBytes (s := s) cls inst attr off (leBytes n v) h
  simp only [leBytes_length] at this
  simp only [State.pAt, State.setPAt, this, leNat_leBytes]

theorem State.p_setP (n cls inst attr v : Nat) (h : cellsWf parReset s.dict = true) :
    (s.setP n cls inst attr v).p n cls inst attr = v % 256 ^ n := State.pAt_setPAt n cls inst attr 0 v h

theorem State.p_inc (n cls inst attr : Nat) (h : cellsWf parReset s.dict = true) :
    (s.inc n cls inst attr).p n cls inst attr = (s.p n cls inst attr + 1) % 256 ^ n :=
  State.pAt_setPAt n cls inst attr 0 _ h

theorem State.pAt_incAt (n cls inst attr off : Nat) (h : cellsWf parReset s.dict = true) :
    (s.incAt n cls inst attr off).pAt n cls inst attr off = (s.pAt n cls inst attr off + 1) % 256 ^ n :=
  State.pAt_setPAt n cls inst attr off _ h

theorem State.p_orP (cls inst attr bits : Nat) (h : cellsWf parReset s.dict = true) :
    (s.orP cls inst attr bits).p 1 cls inst attr = (s.p 1 cls inst attr ||| bits) % 256 :=
  State.pAt_setPAt 1 cls inst attr 0 _ h

/-- Another attribute reads as before. -/
theorem State.pAt_setBytes_ne {cls inst attr off n cls' inst' attr' off' : Nat} {l : List Byte}
    (hw : cellsWf parReset s.dict = true) (hi : inst < 256) (ha : attr < 256) (hi' : inst' < 256) (ha' : attr' < 256)
    (ho : off + l.length ≤ 1048576) (ho' : off' + n ≤ 1048576) (h : cls' ≠ cls ∨ inst' ≠ inst ∨ attr' ≠ attr) :
    (s.setBytes cls inst attr off l).pAt n cls' inst' attr' off' = s.pAt n cls' inst' attr' off' := by
  simp only [State.pAt, State.pBytes, State.setBytes]
  rw [cellsReadN_writeL_out hw]
  simp only [parKey]
  exact parKey_apart hi ha hi' ha' ho ho' h

theorem State.p_setBytes_ne {cls inst attr off n cls' inst' attr' : Nat} {l : List Byte}
    (hw : cellsWf parReset s.dict = true) (hi : inst < 256) (ha : attr < 256) (hi' : inst' < 256) (ha' : attr' < 256)
    (ho : off + l.length ≤ 1048576) (ho' : n ≤ 1048576) (h : cls' ≠ cls ∨ inst' ≠ inst ∨ attr' ≠ attr) :
    (s.setBytes cls inst attr off l).p n cls' inst' attr' = s.p n cls' inst' attr' :=
  State.pAt_setBytes_ne hw hi ha hi' ha' ho (by omega) h

theorem State.p_setPAt_ne {m cls inst attr off v n cls' inst' attr' : Nat} (hw : cellsWf parReset s.dict = true)
    (hi : inst < 256) (ha : attr < 256) (hi' : inst' < 256) (ha' : attr' < 256) (ho : off + m ≤ 1048576) (ho' : n ≤ 1048576)
    (h : cls' ≠ cls ∨ inst' ≠ inst ∨ attr' ≠ attr) :
    (s.setPAt m cls inst attr off v).p n cls' inst' attr' = s.p n cls' inst' attr' :=
  State.p_setBytes_ne hw hi ha hi' ha' (by simpa using ho) ho' h

theorem State.p_setP_ne {m cls inst attr v n cls' inst' attr' : Nat} (hw : cellsWf parReset s.dict = true)
    (hi : inst < 256) (ha : attr < 256) (hi' : inst' < 256) (ha' : attr' < 256) (ho : m ≤ 1048576) (ho' : n ≤ 1048576)
    (h : cls' ≠ cls ∨ inst' ≠ inst ∨ attr' ≠ attr) :
    (s.setP m cls inst attr v).p n cls' inst' attr' = s.p n cls' inst' attr' :=
  State.p_setPAt_ne hw hi ha hi' ha' (by omega) ho' h

theorem State.p_inc_ne {m cls inst attr n cls' inst' attr' : Nat} (hw : cellsWf parReset s.dict = true)
    (hi : inst < 256) (ha : attr < 256) (hi' : inst' < 256) (ha' : attr' < 256) (ho : m ≤ 1048576) (ho' : n ≤ 1048576)
    (h : cls' ≠ cls ∨ inst' ≠ inst ∨ attr' ≠ attr) :
    (s.inc m cls inst attr).p n cls' inst' attr' = s.p n cls' inst' attr' :=
  State.p_setPAt_ne hw hi ha hi' ha' (by omega) ho' h

theorem State.p_incAt_ne {m cls inst attr off n cls' inst' attr' : Nat} (hw : cellsWf parReset s.dict = true)
    (hi : inst < 256) (ha : attr < 256) (hi' : inst' < 256) (ha' : attr' < 256) (ho : off + m ≤ 1048576) (ho' : n ≤ 1048576)
    (h : cls' ≠ cls ∨ inst' ≠ inst ∨ attr' ≠ attr) :
    (s.incAt m cls inst attr off).p n cls' inst' attr' = s.p n cls' inst' attr' :=
  State.p_setPAt_ne hw hi ha hi' ha' ho ho' h

theorem State.p_orP_ne {cls inst attr bits n cls' inst' attr' : Nat} (hw : cellsWf parReset s.dict = true)
    (hi : inst < 256) (ha : attr < 256) (hi' : inst' < 256) (ha' : attr' < 256) (ho' : n ≤ 1048576)
    (h : cls' ≠ cls ∨ inst' ≠ inst ∨ attr' ≠ attr) :
    (s.orP cls inst attr bits).p n cls' inst' attr' = s.p n cls' inst' attr' :=
  State.p_setP_ne hw hi ha hi' ha' (by omega) ho' h

theorem State.p_setPCt_ne {cls inst attr n cls' inst' attr' : Nat} {t : CellTime} (hw : cellsWf parReset s.dict = true)
    (hi : inst < 256) (ha : attr < 256) (hi' : inst' < 256) (ha' : attr' < 256) (ho' : n ≤ 1048576)
    (h : cls' ≠ cls ∨ inst' ≠ inst ∨ attr' ≠ attr) :
    (s.setPCt cls inst attr t).p n cls' inst' attr' = s.p n cls' inst' attr' :=
  State.p_setBytes_ne hw hi ha hi' ha' (by simp [ctBytes]) ho' h

end Sys2Proof.Machine
end

