-- ==== Sys2Proof/WellFormed.lean ====
section
/-! DEFINITION. Well-formed commands: the operands that the spec gives a width, a count or a unit fit it (R362, R383, R411). The
meanings are total and do not rest on these checks. -/

namespace Sys2Proof

open Sys2Proof.Machine

/-- A value that fits one byte of a payload. -/
def byteOk (v : Nat) : Bool := decide (v < 256)

/-- A value that fits two bytes of a payload. -/
def halfOk (v : Nat) : Bool := decide (v < 65536)

/-- A byte string or list of a length that the table admits. -/
def lenIn {α : Type} (l : List α) (lo hi : Nat) : Bool := decide (lo ≤ l.length) && decide (l.length ≤ hi)

/-- A word address of the direct register window (R411). -/
def registerOk (a : Nat) : Bool := decide (a < 0xC000) && a % 4 == 0

/-- A tag of R362, and on endpoint 0 a sequence number of 16 bits. -/
def reqOk (q : Req) : Bool := decide (q.tag ≤ 31) && (q.ep != 0 || decide (q.seq.toNat < 65536))

/-- An entry of SCHEDULE_OUTPUT whose fields fit their 24 bytes (R383). -/
def schedReqOk (e : SchedReq) : Bool :=
  byteOk e.kind && byteOk e.target && byteOk e.action && byteOk e.policy && decide (e.width < 2 ^ 32) &&
    decide (-(2 ^ 31) ≤ e.value) && decide (e.value < 2 ^ 31)

/-- A well-formed command. -/
def Instr.wf (i : Instr) : Bool :=
  match i with
  | .linkStart _ => true
  | .linkStartSyncReceived _ _ => true
  | .syncCellReceived _ _ _ => true
  | .statusCellReceived _ _ _ _ => true
  | .idleCellReceived _ _ _ => true
  | .sampleCellReceived _ _ => true
  | .edgeCellReceived _ _ => true
  | .countCellReceived _ _ => true
  | .lswCellReceived _ _ => true
  | .faultCellReceived _ _ => true
  | .calCellReceived _ _ _ => true
  | .cfgCellReceived _ _ => true
  | .shareReportReceived _ _ => true
  | .outCellReceived _ _ => true
  | .forceCellReceived _ _ => true
  | .safeCellReceived _ _ => true
  | .schedCellReceived _ _ => true
  | .cancelMarkerReceived _ _ => true
  | .outcomeReportReceived _ _ => true
  | .cellResendTimeout _ _ => true
  | .linkSilenceTimeout _ => true
  | .logicSilenceTimeout _ => true
  | .bankSyncGap _ => true
  | .gptpSyncReceived _ _ _ _ => true
  | .syncLossTimeout => true
  | .bestMasterChange _ => true
  | .announceReceiptTimeout _ _ => true
  | .holdoverEvaluation => true
  | .ppsInEdge _ _ _ => true
  | .ppsLostTimeout => true
  | .ppsOutRise => true
  | .ppsOutFall => true
  | .syncIntervalBoundary => true
  | .epochSet q _ => reqOk q
  | .ppsTodSeconds q _ => reqOk q
  | .latchedRegisterRead _ addr => registerOk addr
  | .mclkRephaseEnd _ => true
  | .diComparatorTransition _ _ _ => true
  | .debounceExpiry _ => true
  | .wireBreakWindowExpiry _ _ _ => true
  | .openTerminalTest _ _ => true
  | .wideTapWord _ _ _ => true
  | .protectOff _ => true
  | .protectOffReclose _ _ => true
  | .overRangePersist _ => true
  | .doScTimeExpiry _ => true
  | .doRestart _ _ => true
  | .doOpenLoad _ _ => true
  | .doShortToSupply _ _ => true
  | .frontEndSettled _ => true
  | .mainSampleDue _ _ => true
  | .rotationSlotStart _ => true
  | .reliefCalEnd _ => true
  | .rotationPhaseEnd _ => true
  | .chCheckEnd _ => true
  | .overlapEnd _ => true
  | .rotationCutShort _ => true
  | .slotEndCrossCheck _ => true
  | .heavyClampStart _ => true
  | .heavyClampEnd _ => true
  | .dieTemperatureRead _ _ => true
  | .rotateNow q _ => reqOk q
  | .trimPoint q _ _ _ => reqOk q
  | .trimApply q _ => reqOk q
  | .calRecordWriteDone _ => true
  | .syncInEdge _ => true
  | .syncAt q _ _ => reqOk q
  | .decimatorSyncInstant _ => true
  | .filterParityError _ => true
  | .powerStageEvaluation _ _ => true
  | .limitTimeExpiry _ => true
  | .retryPeriodExpiry _ => true
  | .thermalShutdown _ => true
  | .thermalRestart _ => true
  | .clampIntervalStart _ => true
  | .clampIntervalEnd _ => true
  | .clampUnlock _ => true
  | .lswOpenLoad _ _ => true
  | .lswShortToSupply _ _ => true
  | .lswReverseCurrent _ _ => true
  | .powerDieExchangeLost _ => true
  | .groupLaunchInstant _ => true
  | .vfSpreadCheck _ => true
  | .balanceUpdate _ _ => true
  | .balanceLost _ => true
  | .memberExclusion _ => true
  | .groupTrip _ _ => true
  | .groupOverloadEnd _ => true
  | .groupThermal _ _ => true
  | .fastInputEdge _ _ _ => true
  | .counterWrite _ _ => true
  | .capturePop q _ _ => reqOk q
  | .frequencyGateEnd _ => true
  | .stopTimeout _ => true
  | .latchTrigger _ _ => true
  | .latchAt q _ _ => reqOk q
  | .namedLatchInstant _ => true
  | .scheduleOutput q es => reqOk q && lenIn es 1 32 && es.all schedReqOk
  | .cancelSchedule q selector _ kind target _ => reqOk q && byteOk selector && byteOk kind && byteOk target
  | .scheduleApplyInstant _ => true
  | .pulseRelease _ => true
  | .heldEntryResume _ => true
  | .holdLimitExpiry _ => true
  | .publicationInstant _ => true
  | .eventGroupPublish _ => true
  | .heartbeatExpiry _ => true
  | .pubFrameReceived => true
  | .staleCheck => true
  | .forcePoint q _ _ => reqOk q
  | .releasePoint q _ => reqOk q
  | .fastPass => true
  | .mainPass _ => true
  | .forceRepeat => true
  | .loadRulesBegin q _ => reqOk q
  | .loadRulesData q _ data => reqOk q && lenIn data 1 1008
  | .loadRulesEnd q _ _ => reqOk q
  | .swapRules q _ => reqOk q
  | .ruleSwapExecute => true
  | .faultCollect => true
  | .faultWindowExpiry => true
  | .safeRefresh => true
  | .selfProtectionCheck _ => true
  | .safeInAssertion => true
  | .clearSafe q scope kind index _ => reqOk q && byteOk scope && byteOk kind && halfOk index
  | .clearAutonomousSend _ => true
  | .liveness q => reqOk q
  | .livenessTimeout => true
  | .wdtEnable _ => true
  | .wdtService _ _ => true
  | .wdtPeriodWrite _ _ _ => true
  | .wdtIntervalEnd => true
  | .clockMonitorWindow _ _ => true
  | .heartwoodWrite => true
  | .wdtResetCount q _ => reqOk q
  | .logPop q _ => reqOk q
  | .rehearseReaction q _ _ kind fault index => reqOk q && byteOk kind && halfOk fault && halfOk index
  | .hslFrameStart _ => true
  | .hslFrameEnd bytes => lenIn bytes 0 1040
  | .nop => true
  | .readReg _ _ => true
  | .writeReg _ data => lenIn data 1 64
  | .readBuf _ _ _ => true
  | .writeBuf _ _ data => lenIn data 1 1024
  | .word _ => true
  | .doorbell _ _ => true
  | .ident => true
  | .repeatReply => true
  | .frameTimeout _ => true
  | .hostTimeout => true
  | .commandTakeUp => true
  | .longCommandComplete _ tag _ => decide (tag ≤ 31)
  | .ping q data => reqOk q && lenIn data 0 64
  | .getParam q _ => reqOk q
  | .setParam q _ value => reqOk q && lenIn value 1 64
  | .getBlock q _ _ _ => reqOk q
  | .setBlock q _ _ data => reqOk q && lenIn data 1 1000
  | .commitConfig q _ _ => reqOk q
  | .discardConfig q => reqOk q
  | .journalRead q mode max _ => reqOk q && byteOk mode && byteOk max
  | .fwUpdateBegin q _ => reqOk q
  | .fwUpdateData q _ data => reqOk q && lenIn data 1 1008
  | .fwUpdateEnd q _ _ => reqOk q
  | .abort q tag => reqOk q && (decide (tag ≤ 31) || tag == 0xFF)
  | .abortDone _ => true
  | .negotiate q major minor => reqOk q && byteOk major && byteOk minor
  | .mbxAckPop _ => true
  | .mbxClaim => true
  | .mbxRelease _ => true
  | .mbxH2dClear _ _ => true
  | .registerWrite addr _ => registerOk addr
  | .stagedHashReady => true
  | .commitApply => true
  | .bankShareApply _ => true
  | .commitJournal => true
  | .persistDone _ => true
  | .portLinkDown _ => true
  | .portLinkUp _ _ => true
  | .frameReceived _ _ => true
  | .gateIntervalBoundary _ => true
  | .gateListChange _ => true
  | .macAgeing => true
  | .macFlush q _ => reqOk q
  | .latentTestPeriod _ => true
  | .recoveryResetTimeout _ => true
  | .tableEccRewrite table _ => decide (table ≤ 3)
  | .pdelayReq _ _ => true
  | .ringTestInterval => true
  | .topologyFrameReceived => true
  | .gclFrameReceived => true
  | .helloReceived => true
  | .helloSend => true
  | .nodeTimeout n => decide (n ≤ 4095)
  | .duplicateTimeout => true
  | .gclNegotiate => true
  | .cmdFrame => true
  | .notify _ => true
  | .notifyRepeat _ => true
  | .schedFrame => true
  | .syncRequest => true
  | .journalFrameSend => true
  | .arbEpoch => true
  | .epochEffective => true
  | .arbSwap => true
  | .arbQuery => true
  | .arbReport => true
  | .pairWaitExpiry _ => true
  | .takeover _ => true
  | .queryRepeat _ => true
  | .arbTimeout _ => true
  | .pairReadmit q m => reqOk q && byteOk m
  | .rangerListenTimeout => true
  | .rangerEpochRepeat => true
  | .pairSwapInstant _ => true
  | .ringSwapInstant => true
  | .ringCopyMissing => true
  | .mspEntryComplete _ => true
  | .xipFill _ => true
  | .xipWriteGather _ _ data => lenIn data 1 4
  | .xipGatherTimeout => true
  | .xipFlush _ => true
  | .xipErase _ _ => true
  | .norStatusPoll _ => true
  | .userXfer q v => reqOk q && lenIn v 64 64
  | .continueTimeout => true
  | .arbPriorityWrite q v => reqOk q && lenIn v 5 5
  | .journalRecord => true
  | .journalFlush => true
  | .nandOperationFail _ _ => true
  | .scrub _ => true
  | .patrolRead words => words.all (fun w => w.all (fun n => decide (n ≤ 8)))
  | .journalMount => true
  | .powerFailDetection _ => true
  | .powerFailCommitEnd => true
  | .epochSectorRecord => true
  | .logicReset => true
  | .resetNEdge => true
  | .supResetKey _ _ => true
  | .supplyGood _ => true
  | .bootRomStart _ => true
  | .bootFailureRelease => true
  | .firmwareStart => true
  | .configImageLoad => true
  | .firebreakArm => true
  | .endpointsOpen => true
  | .bankStart _ => true
  | .bankArrivalInstant _ => true
  | .vfLoss _ => true
  | .vfOutOfRange _ => true
  | .supplyMeasurement _ => true
  | .holdReadyChange _ => true
  | .fieldDieOvertemp _ _ => true
  | .logicDieOvertemp _ => true
  | .safeInRelease => true
  | .resetNRise => true
  | .rangerStandDownTimeout => true
  | .powerDieExchangeResumed _ => true
  | .vfRangeRestored _ => true
  | .vholdCut => true
  | .announceInterval _ => true

end Sys2Proof
end

