-- ==== Sys2Proof/Tests/Slice0.lean ====
section
/-! SUPPORT. Tests: an ill-formed command for each check of WellFormed, which the check refuses; known answers from outside the
model; and, for every statement with hypotheses, a witness theorem that shows concrete states and operands that meet the
hypotheses of each of its clauses together. -/

namespace Sys2Proof.Machine

set_option Elab.async false
set_option maxRecDepth 4096

/-! ### The checks of WellFormed -/

open Sys2Proof

theorem test_wf_refuses_register : Instr.wf (.registerWrite 0xC000 0) = false := by decide

theorem test_wf_refuses_register_align : Instr.wf (.latchedRegisterRead true 2) = false := by decide

theorem test_wf_refuses_tag : Instr.wf (.rotateNow ⟨1, 32, 0⟩ 0) = false := by decide

theorem test_wf_refuses_sequence : Instr.wf (.ping ⟨0, 1, 65536⟩ []) = false := by decide

theorem test_wf_refuses_byte : Instr.wf (.negotiate ⟨1, 0, 0⟩ 256 0) = false := by decide

theorem test_wf_refuses_half : Instr.wf (.clearSafe ⟨1, 0, 0⟩ 0 0 65536 0) = false := by decide

theorem test_wf_refuses_length : Instr.wf (.setParam ⟨1, 0, 0⟩ 0 []) = false := by decide

theorem test_wf_refuses_length_high : Instr.wf (.fwUpdateData ⟨1, 0, 0⟩ 0 (List.replicate 1009 0)) = false := by decide

theorem test_wf_refuses_entries : Instr.wf (.scheduleOutput ⟨1, 0, 0⟩ []) = false := by decide

theorem test_wf_refuses_entry_value : Instr.wf (.scheduleOutput ⟨1, 0, 0⟩ [⟨0, 0, 0, 0, 0, 2 ^ 31, 0⟩]) = false := by decide

theorem test_wf_refuses_abort_tag : Instr.wf (.abort ⟨1, 0, 0⟩ 254) = false := by decide

theorem test_wf_refuses_table : Instr.wf (.tableEccRewrite 4 0) = false := by decide

theorem test_wf_refuses_node : Instr.wf (.nodeTimeout 4096) = false := by decide

theorem test_wf_refuses_long_tag : Instr.wf (.longCommandComplete 0 32 true) = false := by decide

theorem test_wf_admits_schedule : Instr.wf (.scheduleOutput ⟨1, 0, 0⟩ [⟨0, 0, 0, 0, 0, 2 ^ 31 - 1, 0⟩]) = true := by decide

/-! ### Known answers -/

/-- The check value of CRC-32: the string 123456789 gives 0xCBF43926. -/
theorem test_crc32_check : crc32 [0x31, 0x32, 0x33, 0x34, 0x35, 0x36, 0x37, 0x38, 0x39] = 0xCBF43926 := by decide +kernel

/-- The first word of SHA-256 of the message abc, from the examples of FIPS 180-4. -/
theorem test_sha256_abc : (sha256 [0x61, 0x62, 0x63]).take 4 = [0xBA, 0x78, 0x16, 0xBF] := by decide +kernel

/-! ### States for the witnesses -/

/-- A test state: bank configuration byte string written. -/
def setB (s : State) (b : Fin 4) (n cls inst attr v : Nat) : State :=
  { s with bankCfg := cellsWriteL bankReset' s.bankCfg (bankBase b + parKey cls inst attr 0) (leBytes n v) }

/-- A test state: every bank arrived and reporting, every link started. -/
def live : State := allBanks.foldl (fun x b => ((x.modBank b (fun k => { k with
    powered := true, reporting := true, arrived := true, calHeld := true, lock := true, devUncertain := false })).modLink b (fun k => { k with started := true })).setP 1 0x05 b 0x02 2)
    (State.reset.setP 1 0x13 0 0x13 1)

/-- Test states: a cell in the slot in progress of link 0. -/
def lineUp (l : LineCell UpCell StatusCell) : State := live.modUp 0 (fun d => { d with line := l })
def lineDown (l : LineCell DownCell SyncCell) : State := live.modDown 0 (fun d => { d with line := l })

/-- A rule table of one rule with one term that is true for a point equal to itself. -/
def ruleImage : List Byte :=
  let head : List Byte := [0x47, 0x51, 0x52, 0x54, 1, 0, 1, 0] ++ List.replicate 56 0
  let rule : List Byte := [0, 0, 1, 0, 0, 0, 0, 0] ++ List.replicate 8 0 ++ [1] ++ List.replicate 95 0
  let body := head ++ rule
  let hashed := body ++ leBytes 8 (hash64 body).toNat
  hashed ++ leBytes 4 (crc32 hashed).toNat

/-- A firmware image of one byte with its header. -/
def fwImage : List Byte :=
  let head : List Byte := [0x47, 0x51, 0x46, 0x57, 1, 0, 0, 0] ++ leBytes 4 1 ++ leBytes 4 0 ++ sha256 [7] ++ List.replicate 204 0
  head ++ leBytes 4 (crc32 head).toNat ++ [7]

/-- A test state: a session that has received all of `fwImage` into slot 0. -/
def fwDone : State :=
  let s : State := { live with sup := { live.sup with session := some ⟨1, false, 1, 257, 1⟩ } }
  s.writeNor (fwSlot s false) fwImage

/-- A session whose image is whole and good. -/
theorem fwOk (s : State) (ep : Fin 8) (sig : Bool) (f : FwSession) (h : fwSession s ep = (0, some f))
    (h1 : f.received = f.len + 256) (h2 : slotCheck s f.slot sig = 1) : fwVerify s ep sig = .inr f := by
  simp [fwVerify, h, h1, h2]

/-- A test state: the root of a closed ring. -/
def ringW : State := ((live.setP 1 0x16 0 0x0A 1).setP 1 0x16 0 0x0B 1).setP 1 0x16 0 0x0C 1

/-- A test state: stream 0 identified, recovered and tested. -/
def strW : State := live.setBytes 0x16 0 0x08 0 [0, 0, 0, 0, 0, 0, 0, 0, 1, 0x0A]

/-- Both images refused. -/
theorem sc0 (s : State) (i : Bool) (h : slotOf (headerSlots s).1 = some i) (h1 : imageContent s i = none)
    (h2 : imageContent s (!i) = none) : startContent s = (trimContent s, some 1) := by
  simp only [startContent, h, h1, h2]

/-- A changed bank reads as changed. -/
theorem modBank_at (s : State) (b : Fin 4) (f : Bank → Bank) : (s.modBank b f).banks[b] = f s.banks[b] := by
  simp [State.modBank]

/-- A changed load switch reads as changed. -/
theorem modL_at (s : State) (l : Fin 8) (f : LChan → LChan) : (s.modL l f).l[l] = f s.l[l] := by
  simp [State.modL]

/-- A span equal to the factory's is within its bounds. -/
theorem sp0 (cal : List Word) (front mode m' : Nat) (x z : Int) (hm : mode = m') (h : x = Config.factorySpan cal front m')
    (hz : z = 0) : spanOk cal front mode (x - z) = true := by
  subst h hz hm; simp [spanOk]

/-- A span more than twice the factory's is not. -/
theorem sp1 (cal : List Word) (front mode m' : Nat) (x z : Int) (hm : mode = m')
    (h : x = Config.factorySpan cal front m' + (Config.factorySpan cal front m').natAbs + 1) (hz : z = 0) :
    spanOk cal front mode (x - z) = false := by
  subst h hz hm
  have : ∀ f : Int, ¬ (100 * (f + f.natAbs + 1 - 0 - f).natAbs ≤ f.natAbs) := by intro f; omega
  simpa [spanOk] using this (Config.factorySpan cal front mode)

/-- A test state: a bank's clock at t. -/
def clockB (s : State) (b : Fin 4) (t : Nat) : State := s.modBank b (fun k => { k with copy := BitVec.ofNat 96 (t * 2 ^ 24) })

/-- A capture with a number. -/
def capW (q : BitVec 16) : Capture := ⟨0, false, false, false, false, false, false, q, 0⟩

/-- A fault record. -/
def recW : FaultRec := ⟨0, ⟨0, 0⟩, 0, false, false, false, 0, 0, 0⟩

/-- A raise of an identifier against the device. -/
def raiseW (id : Nat) : Raise := { ident := id, obj := ⟨0, 0⟩, time := 0, uncertain := false, detail := 0, ends := false }

/-- The reset state meets the invariant. -/
theorem resetSound : State.reset.Sound :=
  ⟨⟨rfl, rfl, rfl, rfl, rfl, rfl, rfl, rfl, rfl, rfl, fun _ h => nomatch h⟩,
    ⟨by decide, by decide, by decide, by decide +kernel, by decide +kernel, by decide +kernel, by decide +kernel⟩⟩

/-! ### Witnesses -/

/-- The hypotheses of AnEmptyQueueIdlesForOneCycle are met. -/
theorem witness_AnEmptyQueueIdlesForOneCycle :
    (∃ s : State, s.pending = []) :=
  ⟨State.reset, rfl⟩

/-- The hypotheses of EveryStepKeepsTheInvariant are met. -/
theorem witness_EveryStepKeepsTheInvariant :
    (∃ s : State, s.Sound) :=
  ⟨State.reset, resetSound⟩

/-- The hypotheses of EveryCommandCompletesAndLeavesTheQueue are met. -/
theorem witness_EveryCommandCompletesAndLeavesTheQueue :
    (∃ s : State, s.Sound) :=
  ⟨State.reset, resetSound⟩

/-- The hypotheses of CommandsChangeOnlyTheirParts are met. -/
theorem witness_CommandsChangeOnlyTheirParts :
    (∃ (c : Instr) (s t : State) (q : Part), s.Sound ∧ exec c s = .next t ∧ q ∉ mayChange c) :=
  ⟨.epochEffective, State.reset, _, .banks, resetSound, rfl, by decide⟩

/-- The hypotheses of NoRunStops are met. -/
theorem witness_NoRunStops :
    (∃ s : State, s.Sound) :=
  ⟨State.reset, resetSound⟩

/-- The hypotheses of StoresReadBackWhatWasWritten are met. -/
theorem witness_StoresReadBackWhatWasWritten :
    (∃ s : State, s.Sound) ∧
    (∃ (cls inst attr off n cls' inst' attr' off' : Nat) (l : List Byte), inst < 256 ∧ attr < 256 ∧ inst' < 256 ∧
       attr' < 256 ∧
         off + l.length ≤ 2 ^ 20 ∧ off' + n ≤ 2 ^ 20 ∧ (cls' ≠ cls ∨ inst' ≠ inst ∨ attr' ≠ attr)) ∧
    (∃ (buf off buf' off' n : Nat) (l : List Byte), buf' ≠ buf ∧ off + l.length ≤ 1024 ∧ off' + n ≤ 1024) ∧
    (∃ (a a' n : Nat) (l : List Byte), a' + n ≤ a ∨ a + l.length ≤ a') :=
  ⟨⟨State.reset, resetSound⟩,
    ⟨1, 255, 255, 2 ^ 20 - 1, 1, 1, 255, 254, 2 ^ 20 - 1, [0], by decide⟩,
    ⟨0, 1023, 1, 0, 1024, [0], by decide⟩,
    ⟨0, 1, 5, [0], by decide⟩⟩

/-- The hypotheses of AWiderValueIsReadWhole are met. -/
theorem witness_AWiderValueIsReadWhole :
    (∃ (s t : State) (hsl : Bool) (a k : Nat), k < latchCount a ∧ s.tb.latches.find? (latchHolds hsl a) = none ∧
         t.tb.latches = (s.regRead hsl a).2.tb.latches) ∧
    (∃ (s t : State) (hsl : Bool) (a k : Nat) (l : Bool × Nat × List Word),
       s.tb.latches.find? (latchHolds hsl a) = some l ∧
         s.tb.latches.find? (latchHolds hsl (a + 4 * (k + 1))) = some l ∧ t.tb.latches = (s.regRead hsl a).2.tb.latches) :=
  ⟨⟨State.reset, (State.reset.regRead true 0x2020).2, true, 0x2020, 14, by decide, rfl, rfl⟩,
    ⟨(State.reset.regRead true 0x8500).2, ((State.reset.regRead true 0x8500).2.regRead true 0x850C).2, true, 0x850C, 1,
    (true, 0x8500, [0, 0, 0, 0, 0]), by decide +kernel, by decide +kernel, rfl⟩⟩

/-- The hypotheses of OutputsFollowTheStrongestSource are met. -/
theorem witness_OutputsFollowTheStrongestSource :
    (∃ (s : State) (u : Fin 16), (s.u[u]).src.rank < 5) ∧
    (∃ (s : State) (u : Fin 16), (s.u[u]).src.safe.isSome = true ∨ (s.u[u]).src.auton.isSome = true) ∧
    (∃ (s : State) (u : Fin 16), (s.u[u]).src.auton = none ∧ (s.u[u]).src.force = none ∧ (s.u[u]).src.sched = none) ∧
    (∃ (s : State) (u : Fin 16) (f : Int), (s.u[u]).src.auton = none ∧ (s.u[u]).src.force = some f) ∧
    (∃ (s : State) (u : Fin 16) (b : Bool), b = true → (s.u[u]).src.safe.isSome = true ∨ (uSafe s u).1 = 0) :=
  ⟨⟨State.reset.modU 0 (fun k => { k with src := { k.src with sched := some 1 } }), 0, by decide +kernel⟩,
    ⟨State.reset.modU 0 (fun k => { k with src := { k.src with auton := some 1 } }), 0, by decide +kernel⟩,
    ⟨State.reset.modU 0 (fun k => { k with src := { k.src with safe := some 1 } }), 0, by decide +kernel⟩,
    ⟨State.reset.modU 0 (fun k => { k with src := { k.src with safe := some 1, force := some 2 } }), 0, 2,
    by decide +kernel⟩,
    ⟨State.reset, 0, true, by decide +kernel⟩⟩

/-- The hypotheses of CountersWrapAndSaySo are met. -/
theorem witness_CountersWrapAndSaySo :
    (∃ (c : CountSt) (d : Int), (d = 1 ∨ d = -1) ∧ (c.add d).counter.toInt = c.counter.toInt + d) ∧
    (∃ (c : CountSt) (d : Int), (d = 1 ∨ d = -1) ∧ (c.add d).counter.toInt ≠ c.counter.toInt + d) ∧
    (∃ (s x : State) (f : Fin 8) (t : CellTime) (ev : CountEv), x = s.countStep f t ev ∧
         (s.f[f]).count.wraps < (x.f[f]).count.wraps ∧ (x.f[f]).count.errors ≤ (s.f[f]).count.errors) ∧
    (∃ (s x : State) (f : Fin 8) (t : CellTime) (ev : CountEv), x = s.countStep f t ev ∧
         (x.f[f]).count.wraps ≤ (s.f[f]).count.wraps) ∧
    (∃ (s x : State) (f : Fin 8) (t : CellTime) (ev : CountEv), x = s.countStep f t ev ∧
         (x.f[f]).count.wraps ≤ (s.f[f]).count.wraps ∧ (x.f[f]).count.errors ≤ (s.f[f]).count.errors) :=
  ⟨⟨⟨0, 0, none, none, 0, 0, 0, 0⟩, 1, by decide +kernel⟩,
    ⟨⟨0x80000000, 0, none, none, 0, 0, 0, 0⟩, -1, by decide +kernel⟩,
    ⟨State.reset.modF 0 (fun k => { k with base := { k.base with counter := 0x7FFFFFFF } }), _, 0, 0,
    .edge true true 1 1 false, rfl, by decide +kernel, by decide +kernel⟩,
    ⟨State.reset.modF 0 (fun k => { k with base := { k.base with counter := 0x7FFFFFFE } }), _, 0, 0,
    .edge true true 1 1 false, rfl, by decide +kernel⟩,
    ⟨State.reset.modF 0 (fun k => { k with base := { k.base with counter := 0x7FFFFFFE } }), _, 0, 0,
    .edge true true 1 1 false, rfl, by decide +kernel, by decide +kernel⟩⟩

/-- The hypotheses of CapturesArePoppedByNumber are met. -/
theorem witness_CapturesArePoppedByNumber :
    (∃ (s : State) (f : Fin 8) (q : BitVec 16), s.captures[f] ≠ [] ∧ ∀ c ∈ s.captures[f], c.seq ≠ q) ∧
    (∃ (s : State) (f : Fin 8) (q : BitVec 16) (old rest : List Capture) (c : Capture),
       s.captures[f] = old ++ c :: rest ∧ c.seq = q ∧ ∀ x ∈ old, x.seq ≠ q) :=
  ⟨⟨{ State.reset with captures := State.reset.captures.set 0 [capW 1] }, 0, 2, by decide +kernel⟩,
    ⟨{ State.reset with captures := State.reset.captures.set 0 [capW 0xFFFE, capW 0xFFFF, capW 0] }, 0, 0xFFFF,
    [capW 0xFFFE], [capW 0], capW 0xFFFF, by decide +kernel⟩⟩

/-- The hypotheses of TheFaultLogKeepsTheNewest are met. -/
theorem witness_TheFaultLogKeepsTheNewest :
    (∃ s : State, s.firebreak.log.length < 64) ∧
    (∃ s : State, s.firebreak.log.length = 64 ∧ cellsWf parReset s.dict = true) :=
  ⟨⟨State.reset, by decide⟩,
    ⟨State.reset.modFb (fun f => { f with log := List.replicate 64 recW }), by decide +kernel⟩⟩

/-- The hypotheses of ActiveInstancesAreNotRaisedAgain are met. -/
theorem witness_ActiveInstancesAreNotRaisedAgain :
    (∃ (s : State) (r : Raise), isActive s r.ident r.obj = true ∧ cellsWf parReset s.dict = true ∧ r.ident < 384) :=
  ⟨State.reset.modFb (fun f => { f with active := [{ ident := 383, obj := ⟨0, 0⟩, count := 1 }] }), raiseW 383,
    by decide +kernel⟩

/-- The hypotheses of TheSeventeenthOccurrenceIsRaised are met. -/
theorem witness_TheSeventeenthOccurrenceIsRaised :
    (∃ (s : State) (id kind index : Nat), (windowOf s.firebreak id ⟨kind, index⟩ s.tb.mono).length = 16) ∧
    (∃ (s : State) (id kind index : Nat), (windowOf s.firebreak id ⟨kind, index⟩ s.tb.mono).length ≠ 16) ∧
    (∃ (id kind index id' : Nat) (o : FaultObj), id' ≠ id ∨ o ≠ ⟨kind, index⟩) :=
  ⟨⟨{ State.reset with
        firebreak := { State.reset.firebreak with
            windows := [{ ident := 3, obj := ⟨1, 0⟩, times := List.replicate 16 0 }] } },
    3, 1, 0, by decide +kernel⟩,
    ⟨{ State.reset with
        firebreak := { State.reset.firebreak with
            windows := [{ ident := 3, obj := ⟨1, 0⟩, times := List.replicate 17 0 }] } },
    3, 1, 0, by decide +kernel⟩,
    ⟨3, 1, 0, 3, ⟨1, 1⟩, by decide⟩⟩

/-- The hypotheses of TheReplayWindowHoldsTheNewest64 are met. -/
theorem witness_TheReplayWindowHoldsTheNewest64 :
    (∃ s : State, s.Sound) ∧
    (∃ code : BitVec 16, code = rcAborted) ∧
    (∃ (code : BitVec 16) (q : Req) (e : Fin 8), code ≠ rcAborted ∧ e ≠ q.ep) :=
  ⟨⟨State.reset, resetSound⟩,
    ⟨rcAborted, rfl⟩,
    ⟨0, ⟨0, 0, 0⟩, 7, by decide⟩⟩

/-- The hypotheses of ReadsFollowTheStageAndTheAccess are met. -/
theorem witness_ReadsFollowTheStageAndTheAccess :
    (∃ (s : State) (i : Nat) (r : AttrRow), indexRow i = some r ∧ 64 < attrSize s (indexParts i).1 r) ∧
    (∃ (s : State) (i off len : Nat) (r : AttrRow), indexRow i = some r ∧ 0 < len ∧ len ≤ 1000 ∧ indexSpan i = false ∧
         ¬((indexParts i).1 = 0x01 ∧ (indexParts i).2.2 = 0x14) ∧ attrSize s (indexParts i).1 r < off + len) ∧
    (∃ (i off len : Nat) (r : AttrRow), indexRow i = some r ∧ 0 < len ∧ len ≤ 1000 ∧ indexSpan i = false ∧
         (indexParts i).1 = 0x01 ∧ (indexParts i).2.2 = 0x14 ∧ 49152 < off + len) ∧
    (∃ (s : State) (i off len : Nat) (r : AttrRow), indexRow i = some r ∧ 0 < len ∧ len ≤ 1000 ∧ indexSpan i = true ∧
         ((spanRows s (indexParts i).1 (indexParts i).2.2).flatMap (fun a =>
           readBytes s (indexStaged i) (indexParts i).1 (indexParts i).2.1 a 0 a.size)).length < off + len) ∧
    (∃ (i : Nat) (r : AttrRow), indexRow i = some r ∧ r.access = .wo) ∧
    (∃ (i : Nat) (r : AttrRow), indexRow i = some r ∧ r.access = .rws) ∧
    (∃ (i : Nat) (r : AttrRow), indexRow i = some r ∧ r.access ≠ .rws) ∧
    (∃ (s : State) (i : Nat) (r : AttrRow), indexRow i = some r ∧ attrSize s (indexParts i).1 r ≤ 64) ∧
    (∃ (s : State) (i off len : Nat) (r : AttrRow), indexRow i = some r ∧ 0 < len ∧ len ≤ 1000 ∧ indexSpan i = false ∧
         ¬((indexParts i).1 = 0x01 ∧ (indexParts i).2.2 = 0x14) ∧ off + len ≤ attrSize s (indexParts i).1 r) :=
  ⟨⟨State.reset, 0x110001, _, rfl, by decide +kernel⟩,
    ⟨State.reset, 0x110001, 384, 1, _, rfl, by decide +kernel⟩,
    ⟨0x010014, 49152, 4, _, rfl, by decide +kernel⟩,
    ⟨State.reset, 0x02120001, 1000000, 1000, _, rfl, by decide +kernel⟩,
    ⟨0x0C000F, _, rfl, by decide +kernel⟩,
    ⟨0x110001, _, rfl, by decide +kernel⟩,
    ⟨0x0C000F, _, rfl, by decide +kernel⟩,
    ⟨State.reset, 0x0C000F, _, rfl, by decide +kernel⟩,
    ⟨State.reset, 0x110001, 383, 1, _, rfl, by decide +kernel⟩⟩

/-- The hypotheses of AWriteIsCheckedInOrder are met. -/
theorem witness_AWriteIsCheckedInOrder :
    (∃ (s : State) (ep : Fin 8) (i : Nat) (v : List Byte), 0 < v.length ∧ v.length ≤ 64 ∧ mayWrite s ep i v = false) ∧
    (∃ (s : State) (ep : Fin 8) (i : Nat) (v : List Byte), 0 < v.length ∧ v.length ≤ 64 ∧
       mayWrite s ep i v = true ∧ indexRow i = none) ∧
    (∃ (s : State) (ep : Fin 8) (i : Nat) (v : List Byte) (r : AttrRow), 0 < v.length ∧ v.length ≤ 64 ∧
       mayWrite s ep i v = true ∧
         indexRow i = some r ∧ r.access = .ro) ∧
    (∃ (s : State) (ep : Fin 8) (i : Nat) (v : List Byte) (r : AttrRow), 0 < v.length ∧ v.length ≤ 64 ∧
       mayWrite s ep i v = true ∧
         indexRow i = some r ∧ writable (indexParts i).1 (indexParts i).2.1 r = true ∧ v.length ≠ r.size) ∧
    (∃ (s : State) (ep : Fin 8) (i : Nat) (v : List Byte) (r : AttrRow), 0 < v.length ∧ v.length ≤ 64 ∧
       mayWrite s ep i v = true ∧
         indexRow i = some r ∧ r.access = .rws ∧ writable (indexParts i).1 (indexParts i).2.1 r = true ∧
           r.size ≤ 64 ∧ v.length = r.size ∧
         (mergedEntries s (indexParts i).1 (indexParts i).2.1 r.attr (max 1 r.elem) 0 v).all (fun e => elemOk r e.2) =
           false) ∧
    (∃ (s : State) (ep : Fin 8) (i : Nat) (v : List Byte) (r : AttrRow), 0 < v.length ∧ v.length ≤ 64 ∧
       mayWrite s ep i v = true ∧
         indexRow i = some r ∧ r.access = .rws ∧ writable (indexParts i).1 (indexParts i).2.1 r = true ∧
           r.size ≤ 64 ∧ v.length = r.size ∧
         (setParamCmd s ep i v).code = 0) :=
  ⟨⟨State.reset, 0, 0x110001, [0], by decide +kernel⟩,
    ⟨live, 0, 0xFF0000, List.replicate 64 0, by decide +kernel⟩,
    ⟨live, 0, 0x010008, [0], _, by decide +kernel, by decide +kernel, by decide +kernel, rfl, by decide +kernel⟩,
    ⟨live, 0, 0x060001, [0, 0], _, by decide +kernel, by decide +kernel, by decide +kernel, rfl, by decide +kernel⟩,
    ⟨live, 0, 0x060001, [0xFF], _, by decide +kernel, by decide +kernel, by decide +kernel, rfl, by decide +kernel⟩,
    ⟨live, 0, 0x060001, [1], _, by decide +kernel, by decide +kernel, by decide +kernel, rfl, by decide +kernel⟩⟩

/-- The hypotheses of RefusedCommitsChangeNothingInEffect are met. -/
theorem witness_RefusedCommitsChangeNothingInEffect :
    (∃ (s : State) (ep : Fin 8) (t : CellTime) (h : BitVec 64), (commitConfig s ep t h).code ≠ 0 ∧
       cellsWf parReset s.dict = true) ∧
    (∃ cls inst attr off n : Nat, inst < 256 ∧ attr < 256 ∧ off + n ≤ 2 ^ 20 ∧ ¬(cls = 1 ∧ inst = 0 ∧ (attr = 0x13 ∨
       attr = 0x15))) :=
  ⟨⟨State.reset, 0, 0, 0, by decide +kernel⟩,
    ⟨1, 0, 0x14, 0, 2 ^ 20, by decide⟩⟩

/-- The hypotheses of BuffersAreClaimedOnce are met. -/
theorem witness_BuffersAreClaimedOnce :
    (∃ (s t : State) (ep : Fin 8) (k : Nat), s.claim ep = (some k, t) ∧ k < 248) ∧
    (∃ (s t : State) (ep : Fin 8) (k : Nat), s.claim ep = (some k, t) ∧ 248 ≤ k) :=
  ⟨⟨State.reset, (State.reset.claim 0).2, 0, 0, by decide +kernel⟩,
    ⟨State.reset.setP 1 0x13 0 0x06 0, ((State.reset.setP 1 0x13 0 0x06 0).claim 0).2, 0, 248, by decide +kernel⟩⟩

/-- The hypotheses of ALogicResetLeavesTheBanks are met. -/
theorem witness_ALogicResetLeavesTheBanks :
    (∃ s : State, s.Sound) :=
  ⟨State.reset, resetSound⟩

/-- The hypotheses of ADuplicateOfAStreamIsDiscarded are met. -/
theorem witness_ADuplicateOfAStreamIsDiscarded :
    (∃ (s : State) (i : Nat) (c : StreamCfg) (q : BitVec 16), 0 < c.history ∧ c.history ≤ 32 ∧
       0 < c.timeoutMs ∧ (s.recoverSeq i c q).2 = true) :=
  ⟨State.reset, 0, streamCfg State.reset 0, 0xFFFF, by decide +kernel⟩

/-- The hypotheses of APendingEpochOnlyRises are met. -/
theorem witness_APendingEpochOnlyRises :
    (∃ (s : State) (e : Word), e.toNat ≤ authEpoch s) ∧
    (∃ (s : State) (e : Word), authEpoch s < e.toNat ∧ ∀ x, s.gcl.pendingEpoch = some x → x.1 < e) ∧
    (∃ (s : State) (e : Word) (x : Word × Nat × CellTime), s.gcl.pendingEpoch = some x ∧ ¬ x.1 < e) ∧
    (∃ (s : State) (e : Word) (m : Nat) (t : CellTime) (x y : Word × Nat × CellTime),
       s.gcl.pendingEpoch = some x ∧ (s.takeEpoch e m t).gcl.pendingEpoch = some y) :=
  ⟨⟨State.reset, 0, by decide +kernel⟩,
    ⟨State.reset, 1, by decide +kernel, fun _ h => nomatch h⟩,
    ⟨{ State.reset with gcl := { State.reset.gcl with pendingEpoch := some (5, 0, 0) } }, 5, (5, 0, 0),
    by decide +kernel⟩,
    ⟨{ State.reset with gcl := { State.reset.gcl with pendingEpoch := some (5, 0, 0) } }, 6, 0, 0, (5, 0, 0), (6, 0, 0),
    by decide +kernel⟩⟩

/-- The hypotheses of JournalNumbersAreConsecutive are met. -/
theorem witness_JournalNumbersAreConsecutive :
    (∃ s : State, s.jrn.ram.length ≤ 512 ∧ cellsWf parReset s.dict = true) :=
  ⟨State.reset, by decide +kernel⟩

/-- The hypotheses of CellsFromABankAreTaken are met. -/
theorem witness_CellsFromABankAreTaken :
    (∃ (b : Fin 4) (hit : Noise) (vf flight : Nat) (c : StatusCell) (s : State),
       s.links[b].started = true ∧ (s.banks[b]).reporting = true ∧ (s.up[b]).line = .frame c ∧
       cellCheck (upBytes s.up[b]) hit = .good) ∧
    (∃ (b : Fin 4) (hit : Noise) (s : State), s.links[b].started = true ∧ (s.banks[b]).reporting = true ∧
       (s.up[b]).line = .idle ∧ cellCheck (upBytes s.up[b]) hit = .good) ∧
    (∃ (b : Fin 4) (hit : Noise) (ss : List Sample) (s : State), s.links[b].started = true ∧
       (s.up[b]).line = .ord (s.up[b]).rxSeq (.sample ss) ∧ cellCheck (upBytes s.up[b]) hit = .good) ∧
    (∃ (b : Fin 4) (hit : Noise) (q : BitVec 8) (again : Bool) (base : Nat) (rs : List EdgeWire) (s : State),
       s.links[b].started = true ∧ (s.up[b]).line = .exp q again (.edge base rs) ∧
       cellCheck (upBytes s.up[b]) hit = .good ∧ (s.up[b]).lastExp ≠ some q) ∧
    (∃ (b : Fin 4) (hit : Noise) (cs : List CountFig) (s : State), s.links[b].started = true ∧
       (s.up[b]).line = .ord (s.up[b]).rxSeq (.count cs) ∧ cellCheck (upBytes s.up[b]) hit = .good) ∧
    (∃ (b : Fin 4) (hit : Noise) (f : Figures) (ls : List GroupFig) (s : State),
       s.links[b].started = true ∧ (s.up[b]).line = .ord (s.up[b]).rxSeq (.lsw f ls) ∧
       cellCheck (upBytes s.up[b]) hit = .good) ∧
    (∃ (b : Fin 4) (hit : Noise) (q : BitVec 8) (again : Bool) (e : Raise) (n : Nat) (s : State),
       s.links[b].started = true ∧ (s.up[b]).line = .exp q again (.fault e n) ∧
       cellCheck (upBytes s.up[b]) hit = .good ∧ (s.up[b]).lastExp ≠ some q) ∧
    (∃ (b : Fin 4) (hit : Noise) (a c : CellTime) (late : Bool) (s : State), s.links[b].started = true ∧
       (s.up[b]).line = .ord (s.up[b]).rxSeq (.share a c late) ∧
       cellCheck (upBytes s.up[b]) hit = .good ∧ s.links[b].arrivalAt ≠ some a) ∧
    (∃ (b : Fin 4) (hit : Noise) (h : BitVec 16) (code : Nat) (lag : Int) (t : CellTime) (unc frees : Bool) (s : State),
       s.links[b].started = true ∧ (s.up[b]).line = .ord (s.up[b]).rxSeq (.outcome h code lag t unc frees) ∧
       cellCheck (upBytes s.up[b]) hit = .good) ∧
    (∃ (b : Fin 4) (hit : Noise) (i : Fin 4) (f : Figures) (s : State), s.links[b].started = true ∧
       (s.up[b]).line = .ord (s.up[b]).rxSeq (.calResult i f) ∧ cellCheck (upBytes s.up[b]) hit = .good) ∧
    (∃ (b : Fin 4) (hit : Noise) (q : BitVec 8) (a c : CellTime) (late : Bool) (s : State),
       s.links[b].started = true ∧ (s.up[b]).line = .ord q (.share a c late) ∧ cellCheck (upBytes s.up[b]) hit ≠ .good) ∧
    (∃ (b : Fin 4) (hit : Noise) (q : BitVec 8) (a c : CellTime) (late : Bool) (s : State),
       s.links[b].started = true ∧ (s.up[b]).line = .ord q (.share a c late) ∧
       cellCheck (upBytes s.up[b]) hit = .good ∧ q ≠ (s.up[b]).rxSeq) :=
  ⟨⟨0, default, 0, 0, ⟨none, 0, false, false, false, 0, [], [], [], [], 0, false, ⟨[], []⟩⟩,
    lineUp (.frame ⟨none, 0, false, false, false, 0, [], [], [], [], 0, false, ⟨[], []⟩⟩), ⟨by decide +kernel,
    by decide +kernel, by decide +kernel, upBytes_good _⟩⟩,
    ⟨0, default, live, ⟨by decide +kernel, by decide +kernel, by decide +kernel, upBytes_good _⟩⟩,
    ⟨0, default, [], lineUp (.ord 0 (.sample [])), ⟨by decide +kernel, by decide +kernel, upBytes_good _⟩⟩,
    ⟨0, default, 0, false, 0, [], lineUp (.exp 0 false (.edge 0 [])), ⟨by decide +kernel, by decide +kernel,
    upBytes_good _, by decide +kernel⟩⟩,
    ⟨0, default, [], lineUp (.ord 0 (.count [])), ⟨by decide +kernel, by decide +kernel, upBytes_good _⟩⟩,
    ⟨0, default, ⟨[], []⟩, [], lineUp (.ord 0 (.lsw ⟨[], []⟩ [])), ⟨by decide +kernel, by decide +kernel,
    upBytes_good _⟩⟩,
    ⟨0, default, 0, false, ⟨0, ⟨0, 0⟩, 0, false, 0, false⟩, 0,
    lineUp (.exp 0 false (.fault ⟨0, ⟨0, 0⟩, 0, false, 0, false⟩ 0)), ⟨by decide +kernel, by decide +kernel,
    upBytes_good _, by decide +kernel⟩⟩,
    ⟨0, default, 1, 1, false, lineUp (.ord 0 (.share 1 1 false)), ⟨by decide +kernel, by decide +kernel, upBytes_good _,
    by decide +kernel⟩⟩,
    ⟨0, default, 0, 0, 0, 0, false, false, lineUp (.ord 0 (.outcome 0 0 0 0 false false)), ⟨by decide +kernel,
    by decide +kernel, upBytes_good _⟩⟩,
    ⟨0, default, 0, ⟨[], []⟩, lineUp (.ord 0 (.calResult 0 ⟨[], []⟩)), ⟨by decide +kernel, by decide +kernel,
    upBytes_good _⟩⟩,
    ⟨0, [(0, 1)], 0, 1, 1, false, lineUp (.ord 0 (.share 1 1 false)), by decide +kernel⟩,
    ⟨0, default, 5, 1, 1, false, lineUp (.ord 5 (.share 1 1 false)), ⟨by decide +kernel, by decide +kernel,
    upBytes_good _, by decide +kernel⟩⟩⟩

/-- The hypotheses of CellsToABankAreTaken are met. -/
theorem witness_CellsToABankAreTaken :
    (∃ (b : Fin 4) (hit : Noise) (l : List Host.Cell) (s : State), bankHears s b = true ∧
       (s.down[b]).line = .ord (s.down[b]).rxSeq (.cfg l) ∧ cellCheck (downBytes s.down[b]) hit = .good) ∧
    (∃ (b : Fin 4) (hit : Noise) (f : Fin 2) (v : Word) (s : State), bankHears s b = true ∧
       (s.down[b]).line = .ord (s.down[b]).rxSeq (.counter f v) ∧ cellCheck (downBytes s.down[b]) hit = .good) ∧
    (∃ (b : Fin 4) (hit : Noise) (o : OutRef) (v : Int) (t : Option CellTime) (s : State),
       bankHears s b = true ∧ (s.down[b]).line = .ord (s.down[b]).rxSeq (.out o v t) ∧
       cellCheck (downBytes s.down[b]) hit = .good) ∧
    (∃ (b : Fin 4) (hit : Noise) (q : BitVec 8) (again : Bool) (o : OutRef) (v : Option Int) (t : Option CellTime) (s :
       State), bankHears s b = true ∧ (s.down[b]).line = .exp q again (.force o v t) ∧
       cellCheck (downBytes s.down[b]) hit = .good ∧ (s.down[b]).lastExp ≠ some q) ∧
    (∃ (b : Fin 4) (hit : Noise) (q : BitVec 8) (again : Bool) (op : Nat) (outs : BitVec 8) (groups : BitVec 4) (level
       ident : Nat) (t : Option CellTime) (s : State), bankHears s b = true ∧
       (s.down[b]).line = .exp q again (.safe op outs groups level t ident) ∧
       cellCheck (downBytes s.down[b]) hit = .good ∧ (s.down[b]).lastExp ≠ some q) ∧
    (∃ (b : Fin 4) (hit : Noise) (r : SchedRec) (last : Bool) (s : State), bankHears s b = true ∧
       (s.down[b]).line = .ord (s.down[b]).rxSeq (.sched r last) ∧ cellCheck (downBytes s.down[b]) hit = .good) ∧
    (∃ (b : Fin 4) (hit : Noise) (sel kind target owner : Nat) (rel : Bool) (what : BitVec 16) (s : State),
       bankHears s b = true ∧ (s.down[b]).line = .ord (s.down[b]).rxSeq (.cancel sel rel kind target what owner) ∧
       cellCheck (downBytes s.down[b]) hit = .good) ∧
    (∃ (b : Fin 4) (hit : Noise) (i : Fin 4) (l : List Int) (s : State), bankHears s b = true ∧
       (s.down[b]).line = .ord (s.down[b]).rxSeq (.calTrim i l) ∧ cellCheck (downBytes s.down[b]) hit = .good) ∧
    (∃ (b : Fin 4) (hit : Noise) (s : State), bankHears s b = true ∧ (s.down[b]).line = .idle ∧
       cellCheck (downBytes s.down[b]) hit = .good) :=
  ⟨⟨0, default, [], lineDown (.ord 0 (.cfg [])), ⟨by decide +kernel, by decide +kernel, downBytes_good _⟩⟩,
    ⟨0, default, 0, 0, lineDown (.ord 0 (.counter 0 0)), ⟨by decide +kernel, by decide +kernel, downBytes_good _⟩⟩,
    ⟨0, default, .uni 0, 0, none, lineDown (.ord 0 (.out (.uni 0) 0 none)), ⟨by decide +kernel, by decide +kernel,
    downBytes_good _⟩⟩,
    ⟨0, default, 0, false, .uni 0, none, none, lineDown (.exp 0 false (.force (.uni 0) none none)), ⟨by decide +kernel,
    by decide +kernel, downBytes_good _, by decide +kernel⟩⟩,
    ⟨0, default, 0, false, 0, 0, 0, 0, 0, none, lineDown (.exp 0 false (.safe 0 0 0 0 none 0)), ⟨by decide +kernel,
    by decide +kernel, downBytes_good _, by decide +kernel⟩⟩,
    ⟨0, default, ⟨0, 0, 0, 0, 0, 0, 0, 0, 0, 0, 0, 0, 0, 0, 0, 0, false⟩, false,
    lineDown (.ord 0 (.sched ⟨0, 0, 0, 0, 0, 0, 0, 0, 0, 0, 0, 0, 0, 0, 0, 0, false⟩ false)), ⟨by decide +kernel,
    by decide +kernel, downBytes_good _⟩⟩,
    ⟨0, default, 0, 0, 0, 0, false, 0, lineDown (.ord 0 (.cancel 0 false 0 0 0 0)), ⟨by decide +kernel, by decide +kernel,
    downBytes_good _⟩⟩,
    ⟨0, default, 0, [], lineDown (.ord 0 (.calTrim 0 [])), ⟨by decide +kernel, by decide +kernel, downBytes_good _⟩⟩,
    ⟨0, default, live, ⟨by decide +kernel, by decide +kernel, downBytes_good _⟩⟩⟩

/-- The hypotheses of BankLinkTimers are met. -/
theorem witness_BankLinkTimers :
    (∃ (b : Fin 4) (s : State), s.sup.reset = none ∧ 4 ≤ s.sup.phase ∧ s.links[b].started = false ∧
       elapsed s s.sup.resetAt 110000000 = true) ∧
    (∃ (b : Fin 4) (a : Arrival) (c : SyncCell) (s : State), (s.down[b]).line = .frame c ∧ c.start = true ∧
       bankHears s b = true ∧ cellCheck (downBytes s.down[b]) a.hit = .good) ∧
    (∃ (b : Fin 4) (a : Arrival) (c : SyncCell) (s : State), (s.down[b]).line = .frame c ∧ c.start = true ∧
       bankHears s b = true ∧ cellCheck (downBytes s.down[b]) a.hit ≠ .good) ∧
    (∃ (b : Fin 4) (hit : Noise) (flight : Nat) (c : SyncCell) (s : State), (s.down[b]).line = .frame c ∧
       c.start = false ∧ bankHears s b = true ∧ cellCheck (downBytes s.down[b]) hit = .good) ∧
    (∃ (b : Fin 4) (s : State), (s.banks[b]).powered = true ∧ (s.banks[b]).everSync = true ∧
       elapsed s (s.banks[b]).lastSync 51200 = true) ∧
    (∃ (b : Fin 4) (s : State), phaseLeft (s.banks[b]) s.tb.mono = 0) ∧
    (∃ (b : Fin 4) (s : State), resendDue s (s.up[b]) = true) ∧
    (∃ (b : Fin 4) (s : State), resendDue s (s.down[b]) = true) ∧
    (∃ (b : Fin 4) (s : State), (s.banks[b]).powered = true ∧ (s.banks[b]).arrived = true ∧
       (s.banks[b]).autonomous = false ∧ elapsed s (s.banks[b]).lastGood (leNat (s.bBytes b 4 0x10 0 0x05 (4 * b)) *
       1000) = true) ∧
    (∃ (b : Fin 4) (s : State), 1 ≤ bankState s b ∧ bankState s b ≤ 3 ∧
       elapsed s s.links[b].lastRx (linkTimeout s b) = true) ∧
    (∃ (b : Fin 4) (a : CellTime) (s : State), (s.banks[b]).shareMark = some (a, false) ∧
       reached a (bankNow (s.banks[b])) = true) ∧
    (∃ (b : Fin 4) (a : CellTime) (s : State), (s.banks[b]).shareMark = some (a, true) ∧
       reached a (bankNow (s.banks[b])) = true) :=
  ⟨⟨0,
    ({ State.reset with sup := { State.reset.sup with reset := none, phase := 4 } } : State).modTb (fun x =>
      { x with mono := 2 ^ 90 }),
    by decide +kernel⟩,
    ⟨0, ⟨[], 0⟩, ⟨0, 0, 0, 0, false, 0, none, true⟩, lineDown (.frame ⟨0, 0, 0, 0, false, 0, none, true⟩),
    ⟨by decide +kernel, by decide +kernel, by decide +kernel, downBytes_good _⟩⟩,
    ⟨0, ⟨[(0, 0xF0)], 0⟩, ⟨0, 0, 0, 0, false, 0, none, true⟩, lineDown (.frame ⟨0, 0, 0, 0, false, 0, none, true⟩),
    ⟨by decide +kernel, by decide +kernel, by decide +kernel, cellCheck_reserved _ _ (by decide +kernel)⟩⟩,
    ⟨0, default, 0, ⟨0, 0, 0, 0, false, 0, none, false⟩, lineDown (.frame ⟨0, 0, 0, 0, false, 0, none, false⟩),
    ⟨by decide +kernel, by decide +kernel, by decide +kernel, downBytes_good _⟩⟩,
    ⟨0, (live.modBank 0 (fun k => { k with everSync := true })).modTb (fun x => { x with mono := 2 ^ 90 }),
    by decide +kernel⟩,
    ⟨0, live, by decide +kernel⟩,
    ⟨0,
    ({ live with up := live.up.set 0 { linkReset with unacked := [(0, 0, .count [])] } } : State).modTb (fun x =>
      { x with mono := 2 ^ 90 }),
    by decide +kernel⟩,
    ⟨0,
    ({ live with down := live.down.set 0 { linkReset with unacked := [(0, 0, .cfg [])] } } : State).modTb (fun x =>
      { x with mono := 2 ^ 90 }),
    by decide +kernel⟩,
    ⟨0, live.modTb (fun x => { x with mono := 2 ^ 90 }), by decide +kernel⟩,
    ⟨0, live.modTb (fun x => { x with mono := 2 ^ 90 }), by decide +kernel⟩,
    ⟨0, 0, live.modBank 0 (fun k => { k with shareMark := some (0, false) }), by decide +kernel⟩,
    ⟨0, 0, live.modBank 0 (fun k => { k with shareMark := some (0, true) }), by decide +kernel⟩⟩

/-- The hypotheses of TheServoFollowsTheGrandmaster are met. -/
theorem witness_TheServoFollowsTheGrandmaster :
    (∃ (p : Fin 3) (rx : CellTime) (gm demand : Int) (s : State), s.tb.port = some p ∧
       s.ports[p].asCapable = true ∧ ((s.tb.state = 1 ∨ s.tb.state = 2 ∨ s.tb.state = 3))) ∧
    (∃ (p : Fin 3) (rx : CellTime) (gm demand : Int) (s : State), s.tb.port ≠ some p) ∧
    (∃ (s : State), elapsed s s.tb.lastUpdate (3 * syncInterval s) = true ∧ s.tb.state = 2) ∧
    (∃ (s : State), elapsed s s.tb.lastUpdate (3 * syncInterval s) = true ∧ s.tb.state = 1) ∧
    (∃ (s : State), s.p 1 0x04 0 0x06 = 1 ∧ s.tb.state ≤ 3) ∧
    (∃ (s : State), s.tb.state = 1) ∧
    (∃ (p : Fin 3) (gm : BitVec 64) (steps : BitVec 16) (s : State), s.ports[p].asCapable = true ∧
       (s.tb.state = 0 ∨ s.tb.state ≥ 4)) ∧
    (∃ (p : Fin 3) (c : MasterChoice) (s : State), s.tb.port = some p ∧
       s.ports[p].announceRx.any (fun t => elapsed s t (3 * announceInterval s)) = true) ∧
    (∃ (p : Fin 3) (c : MasterChoice) (s : State), s.tb.port ≠ some p ∧
       s.ports[p].announceRx.any (fun t => elapsed s t (3 * announceInterval s)) = true) ∧
    (∃ (s : State), ((s.tb.state = 3 ∨ s.tb.state = 6)) ∧ uncBound s < holdoverEstimate s) ∧
    (∃ (s : State), syncBoundary s (now s) ≠ s.tb.boundary ∧ s.tb.pendingRole = [] ∧ 4 ≤ s.tb.state) ∧
    (∃ (s : State), syncBoundary s (now s) ≠ s.tb.boundary ∧ s.tb.pendingRole ≠ [] ∧ s.tb.state < 4 ∧
       reached s.tb.pendingAt (syncBoundary s (now s)) = true) ∧
    (∃ (p : Fin 3) (s : State), s.ports[p].ptpRole = 1 ∧ sinceLast s s.ports[p].announceAt (announceInterval s) = true) :=
  ⟨⟨0, 0, 0, 0,
    (live.modPort 0 (fun k => { k with asCapable := true })).modTb (fun x => { x with port := some 0, state := 1 }),
    by decide +kernel⟩,
    ⟨0, 0, 0, 0, live, by decide +kernel⟩,
    ⟨(live.modTb (fun x => { x with state := 2 })).modTb (fun x => { x with mono := 2 ^ 90 }), by decide +kernel⟩,
    ⟨(live.modTb (fun x => { x with state := 1 })).modTb (fun x => { x with mono := 2 ^ 90 }), by decide +kernel⟩,
    ⟨live.setP 1 0x04 0 0x06 1, by decide +kernel⟩,
    ⟨live.modTb (fun x => { x with state := 1 }), by decide +kernel⟩,
    ⟨0, 0, 0, live.modPort 0 (fun k => { k with asCapable := true }), by decide +kernel⟩,
    ⟨0, .self,
    ((live.modTb (fun x => { x with port := some 0, mono := 2 ^ 90 })).modPort 0 (fun k =>
      { k with announceRx := some 0 })),
    by decide +kernel⟩,
    ⟨0, .self, ((live.modTb (fun x => { x with mono := 2 ^ 90 })).modPort 0 (fun k => { k with announceRx := some 0 })),
    by decide +kernel⟩,
    ⟨live.modTb (fun x => { x with state := 3, lastUpdate := 0, mono := 2 ^ 90 }), by decide +kernel⟩,
    ⟨live.modTb (fun x => { x with state := 4, pendingRole := [], counter := 2 ^ 90 }), by decide +kernel⟩,
    ⟨live.modTb (fun x => { x with state := 1, pendingRole := [(0, 0)], counter := 2 ^ 90 }), by decide +kernel⟩,
    ⟨0, live.modPort 0 (fun k => { k with ptpRole := 1 }), by decide +kernel⟩⟩

/-- The hypotheses of PpsSetsAndIsSetByTheTimeBase are met. -/
theorem witness_PpsSetsAndIsSetByTheTimeBase :
    (∃ (falling : Bool) (t : CellTime) (demand : Int) (cap : CellTime) (s : State),
       (s.p 1 0x04 0 0x0B == 1) = falling ∧ tdcBlind s.tb.ppsArm (monoAt s t) = false ∧
       cap = ctGrid t - BitVec.ofNat 72 (nsUnits (s.p 2 0x04 0 0x14)) ∧ s.tb.state = 4 ∧
       s.p 1 0x04 0 0x0A = 1 ∧ s.tb.todPending = none) ∧
    (∃ (falling : Bool) (t : CellTime) (demand : Int) (cap : CellTime) (v : BitVec 64) (s : State),
       (s.p 1 0x04 0 0x0B == 1) = falling ∧ tdcBlind s.tb.ppsArm (monoAt s t) = false ∧
       cap = ctGrid t - BitVec.ofNat 72 (nsUnits (s.p 2 0x04 0 0x14)) ∧ s.tb.state = 4 ∧
       s.p 1 0x04 0 0x0A = 1 ∧ s.tb.todPending = some v) ∧
    (∃ (falling : Bool) (t : CellTime) (demand : Int) (cap : CellTime) (s : State),
       (s.p 1 0x04 0 0x0B == 1) = falling ∧ tdcBlind s.tb.ppsArm (monoAt s t) = false ∧
       cap = ctGrid t - BitVec.ofNat 72 (nsUnits (s.p 2 0x04 0 0x14)) ∧ s.tb.state = 5 ∧
       s.tb.todPending = none ∧ ((cap.toNat : Int) - nearestSecond cap * secondUnits).natAbs ≤ nsUnits 10000) ∧
    (∃ (falling : Bool) (t : CellTime) (demand : Int) (cap : CellTime) (v : BitVec 64) (s : State),
       (s.p 1 0x04 0 0x0B == 1) = falling ∧ tdcBlind s.tb.ppsArm (monoAt s t) = false ∧
       cap = ctGrid t - BitVec.ofNat 72 (nsUnits (s.p 2 0x04 0 0x14)) ∧ s.tb.state = 5 ∧
       s.tb.todPending = some v ∧ ((cap.toNat : Int) - nearestSecond cap * secondUnits).natAbs ≤ nsUnits 10000) ∧
    (∃ (falling : Bool) (t : CellTime) (demand : Int) (cap : CellTime) (s : State),
       (s.p 1 0x04 0 0x0B == 1) = falling ∧ tdcBlind s.tb.ppsArm (monoAt s t) = false ∧
       cap = ctGrid t - BitVec.ofNat 72 (nsUnits (s.p 2 0x04 0 0x14)) ∧ s.tb.state = 5 ∧
       nsUnits 10000 < ((cap.toNat : Int) - nearestSecond cap * secondUnits).natAbs) ∧
    (∃ (s : State), s.tb.state = 5 ∧ elapsed s s.tb.lastUpdate 2500000000 = true) ∧
    (∃ (s : State), s.tb.ppsOut = false ∧ ((ppsPhase s ≤ nsUnits 2 ∨ secondUnits - nsUnits 2 ≤ ppsPhase s)) ∧
       ((s.p 1 0x04 0 0x11 = 1 ∨ (s.p 1 0x04 0 0x11 = 2 ∧ s.tb.uncertain = false)))) ∧
    (∃ (s : State), s.tb.ppsOut = true ∧ nsUnits (s.p 4 0x04 0 0x12 * 1000) ≤ (ctOf s.tb.mono - s.tb.ppsRiseAt).toNat) ∧
    (∃ (q : Req) (v : BitVec 64) (s : State), mayConfigure s q.ep = true ∧ s.tb.state = 4) ∧
    (∃ (q : Req) (v : BitVec 64) (s : State), mayConfigure s q.ep = true ∧ s.tb.state ≠ 4) ∧
    (∃ (q : Req) (v : BitVec 64) (s : State), mayConfigure s q.ep = true) :=
  ⟨⟨false, 2 ^ 60, 0, _, (live.modTb (fun x => { x with state := 4 })).setP 1 0x04 0 0x0A 1, ⟨by decide +kernel,
    by decide +kernel, rfl, by decide +kernel, by decide +kernel, by decide +kernel⟩⟩,
    ⟨false, 2 ^ 60, 0, _, 7, (live.modTb (fun x => { x with state := 4, todPending := some 7 })).setP 1 0x04 0 0x0A 1,
    ⟨by decide +kernel, by decide +kernel, rfl, by decide +kernel, by decide +kernel, by decide +kernel⟩⟩,
    ⟨false, 256000000000, 0, _, (live.modTb (fun x => { x with state := 5 })).setP 2 0x04 0 0x14 0, ⟨by decide +kernel,
    by decide +kernel, rfl, by decide +kernel, by decide +kernel, by decide +kernel⟩⟩,
    ⟨false, 256000000000, 0, _, 7,
    (live.modTb (fun x => { x with state := 5, todPending := some 7 })).setP 2 0x04 0 0x14 0, ⟨by decide +kernel,
    by decide +kernel, rfl, by decide +kernel, by decide +kernel, by decide +kernel⟩⟩,
    ⟨false, 2 ^ 60, 0, _, (live.modTb (fun x => { x with state := 5 })).setP 2 0x04 0 0x14 0, ⟨by decide +kernel,
    by decide +kernel, rfl, by decide +kernel, by decide +kernel⟩⟩,
    ⟨live.modTb (fun x => { x with state := 5, mono := 2 ^ 90 }), by decide +kernel⟩,
    ⟨live.setP 1 0x04 0 0x11 1, by decide +kernel⟩,
    ⟨(live.modTb (fun x => { x with ppsOut := true, mono := 2 ^ 90 })), by decide +kernel⟩,
    ⟨⟨1, 0, 0⟩, 0, live.modTb (fun x => { x with state := 4 }), by decide +kernel⟩,
    ⟨⟨1, 0, 0⟩, 0, live, by decide +kernel⟩,
    ⟨⟨1, 0, 0⟩, 0, live, by decide +kernel⟩⟩

/-- The hypotheses of DigitalInputsAreDebouncedAndWatched are met. -/
theorem witness_DigitalInputsAreDebouncedAndWatched :
    (∃ (u : Fin 16) (level : Bool) (t : CellTime) (s : State), level = s.u[u].db.level) ∧
    (∃ (u : Fin 16) (level : Bool) (t : CellTime) (s : State), level ≠ s.u[u].db.level ∧ uMode s u = 3 ∧
       (s.banks[bankOfU u]).arrived = true) ∧
    (∃ (u : Fin 16) (level : Bool) (t : CellTime) (s : State), level ≠ s.u[u].db.level ∧ diLive s u = true ∧
       s.b (bankOfU u) 2 0x06 u 0x0D ≠ 0) ∧
    (∃ (u : Fin 16) (level : Bool) (t : CellTime) (s : State), level ≠ s.u[u].db.level ∧ diLive s u = true ∧
       s.b (bankOfU u) 2 0x06 u 0x0D = 0 ∧ level ≠ s.u[u].db.state ∧ s.u[u].db.fresh = false) ∧
    (∃ (u : Fin 16) (s : State), diLive s u = true ∧ nsUnits (s.b (bankOfU u) 2 0x06 u 0x0D * 1000) ≤ (bankNow
       (s.banks[bankOfU u]) - s.u[u].db.since).toNat ∧ s.u[u].db.fresh = false ∧ s.u[u].db.level ≠ s.u[u].db.state) ∧
    (∃ (u : Fin 16) (s : State), diLive s u = true ∧ nsUnits (s.b (bankOfU u) 2 0x06 u 0x0D * 1000) ≤ (bankNow
       (s.banks[bankOfU u]) - s.u[u].db.since).toNat ∧ s.u[u].db.fresh = true) ∧
    (∃ (u : Fin 16) (s : State), ((bankNow (s.banks[bankOfU u]) - s.u[u].db.since).toNat < nsUnits (s.b (bankOfU u) 2
       0x06 u 0x0D * 1000) ∨ (s.u[u].db.fresh = false ∧ s.u[u].db.level = s.u[u].db.state))) ∧
    (∃ (f : Fin 8) (s : State), (s.banks[bankOfF f]).arrived = true ∧
       nsUnits (s.b (bankOfF f) 2 0x0C f 0x04 * 1000) ≤ (bankNow (s.banks[bankOfF f]) - s.f[f].db.since).toNat ∧
       s.f[f].db.level ≠ s.f[f].db.state) ∧
    (∃ (f : Fin 8) (s : State), ((bankNow (s.banks[bankOfF f]) - s.f[f].db.since).toNat < nsUnits (s.b (bankOfF f) 2 0x0C
       f 0x04 * 1000) ∨ s.f[f].db.level = s.f[f].db.state)) ∧
    (∃ (u : Fin 16) (below : Bool) (cur : Int) (s : State), diLive s u = true ∧
       (s.b (bankOfU u) 1 0x06 u 0x0E = 0 ∨ below = uBit s u 1)) ∧
    (∃ (u : Fin 16) (cur : Int) (s : State), diLive s u = true ∧ s.b (bankOfU u) 1 0x06 u 0x0E ≠ 0 ∧ uBit s u 1 = true) ∧
    (∃ (u : Fin 16) (cur : Int) (s : State), diLive s u = true ∧ s.b (bankOfU u) 1 0x06 u 0x0E ≠ 0 ∧
       uBit s u 1 = false ∧ (s.u[u].db.fresh = true ∨ s.u[u].db.state = false)) ∧
    (∃ (u : Fin 16) (cur : Int) (s : State), diLive s u = true ∧ s.b (bankOfU u) 1 0x06 u 0x0E ≠ 0 ∧
       uBit s u 1 = false ∧ s.u[u].db.fresh = false ∧ s.u[u].db.state = true ∧ s.u[u].db.level = false) ∧
    (∃ (u : Fin 16) (cur : Int) (s : State), diLive s u = true ∧ s.b (bankOfU u) 1 0x06 u 0x0E ≠ 0 ∧
       uBit s u 1 = false ∧ s.u[u].db.fresh = false ∧ s.u[u].db.state = true ∧ s.u[u].db.level = true) ∧
    (∃ (f : Fin 8) (cur : Int) (s : State), (s.banks[bankOfF f]).arrived = true ∧
       s.b (bankOfF f) 1 0x0C f 0x1C = 1 ∧ fBit s f 1 = true) ∧
    (∃ (f : Fin 8) (cur : Int) (s : State), (s.banks[bankOfF f]).arrived = true ∧
       s.b (bankOfF f) 1 0x0C f 0x1C = 1 ∧ fBit s f 1 = false ∧ s.f[f].db.state = false) ∧
    (∃ (f : Fin 8) (cur : Int) (t : CellTime) (s : State), (s.banks[bankOfF f]).arrived = true ∧
       s.b (bankOfF f) 1 0x0C f 0x1C = 1 ∧ fBit s f 1 = false ∧ s.f[f].db.state = true ∧
       t = (bif s.f[f].db.level then ctGrid (bankNow (s.banks[bankOfF f])) else s.f[f].db.since)) ∧
    (∃ (f : Fin 8) (below : Bool) (cur : Int) (s : State), (s.b (bankOfF f) 1 0x0C f 0x1C ≠ 1 ∨ below = fBit s f 1)) :=
  ⟨⟨0, false, 0, live, by decide +kernel⟩,
    ⟨0, true, 0, setB live 0 1 0x06 0 0x01 3, by decide +kernel⟩,
    ⟨0, false, 0,
    (setB (setB live 0 1 0x06 0 0x01 1) 0 2 0x06 0 0x0D 5).modU 0 (fun k =>
      { k with settled := true, db := { k.db with level := true } }),
    by decide +kernel⟩,
    ⟨0, true, 0,
    (setB (setB live 0 1 0x06 0 0x01 1) 0 2 0x06 0 0x0D 0).modU 0 (fun k => { k with
        settled := true, db := { k.db with level := false, fresh := false } }),
    by decide +kernel⟩,
    ⟨0,
    (setB (setB live 0 1 0x06 0 0x01 1) 0 2 0x06 0 0x0D 0).modU 0 (fun k => { k with
        settled := true, db := { k.db with level := true, fresh := false } }),
    by decide +kernel⟩,
    ⟨0,
    (setB (setB live 0 1 0x06 0 0x01 1) 0 2 0x06 0 0x0D 0).modU 0 (fun k => { k with
        settled := true, db := { k.db with level := true, fresh := true } }),
    by decide +kernel⟩,
    ⟨0, setB live 0 2 0x06 0 0x0D 5, by decide +kernel⟩,
    ⟨0, (setB live 0 2 0x0C 0 0x04 0).modF 0 (fun k => { k with db := { k.db with level := true } }), by decide +kernel⟩,
    ⟨0, live, by decide +kernel⟩,
    ⟨0, false, 0, (setB (setB live 0 1 0x06 0 0x01 1) 0 1 0x06 0 0x0E 0).modU 0 (fun k => { k with settled := true }),
    by decide +kernel⟩,
    ⟨0, 0,
    (setB (setB live 0 1 0x06 0 0x01 1) 0 1 0x06 0 0x0E 1).modU 0 (fun k => { k with settled := true, status := 2 }),
    by decide +kernel⟩,
    ⟨0, 0,
    (setB (setB live 0 1 0x06 0 0x01 1) 0 1 0x06 0 0x0E 1).modU 0 (fun k => { k with
        settled := true, db := { k.db with fresh := false, state := false } }),
    by decide +kernel⟩,
    ⟨0, 0,
    (setB (setB live 0 1 0x06 0 0x01 1) 0 1 0x06 0 0x0E 1).modU 0 (fun k => { k with
        settled := true, db := { k.db with fresh := false, state := true } }),
    by decide +kernel⟩,
    ⟨0, 0,
    (setB (setB live 0 1 0x06 0 0x01 1) 0 1 0x06 0 0x0E 1).modU 0 (fun k => { k with
        settled := true, db := { k.db with fresh := false, state := true, level := true } }),
    by decide +kernel⟩,
    ⟨0, 0, (setB live 0 1 0x0C 0 0x1C 1).modF 0 (fun k => { k with status := 2 }), by decide +kernel⟩,
    ⟨0, 0, setB live 0 1 0x0C 0 0x1C 1, by decide +kernel⟩,
    ⟨0, 0, _,
    (setB live 0 1 0x0C 0 0x1C 1).modF 0 (fun k => { k with db := { k.db with state := true, level := false } }),
    ⟨by decide +kernel, by decide +kernel, by decide +kernel, by decide +kernel, rfl⟩⟩,
    ⟨0, false, 0, live, by decide +kernel⟩⟩

/-- The hypotheses of AnalogueInputsAreProtected are met. -/
theorem witness_AnalogueInputsAreProtected :
    (∃ (u : Fin 16) (s : State), (s.banks[bankOfU u]).arrived = true ∧ isAiv (uMode s u) = true ∧
       s.u[u].settled = true ∧ s.b (bankOfU u) 1 0x06 u 0x0E = 1 ∧ overlapNear s u = false ∧
       s.u[u].testTap.all (fun t => decide (t + 960 ≤ tapNext (bankUnits s (bankOfU u)))) = true) ∧
    (∃ (u : Fin 16) (s : State), (s.banks[bankOfU u]).arrived = true ∧ isAiv (uMode s u) = true ∧
       s.u[u].settled = true ∧ s.b (bankOfU u) 1 0x06 u 0x0E = 1 ∧ overlapNear s u = true) ∧
    (∃ (u : Fin 16) (r : Int) (s : State), (s.banks[bankOfU u]).arrived = true ∧
       isAiv (uMode s u) = true ∧ s.u[u].settled = true ∧ s.b (bankOfU u) 1 0x06 u 0x0E = 1 ∧
       s.u[u].testing = true ∧ s.u[u].testTap.any (fun t => decide (perTime (64 * (t + 2)) ≤ bankUnits s (bankOfU u))) =
       true ∧ 200000 < r - physOfX (uMode s u) s.u[u].chain.lastX ∧ uBit s u 1 = false) ∧
    (∃ (u : Fin 16) (r : Int) (s : State), (s.banks[bankOfU u]).arrived = true ∧
       isAiv (uMode s u) = true ∧ s.u[u].settled = true ∧ s.b (bankOfU u) 1 0x06 u 0x0E = 1 ∧
       s.u[u].testing = true ∧ s.u[u].testTap.any (fun t => decide (perTime (64 * (t + 2)) ≤ bankUnits s (bankOfU u))) =
       true ∧ r - physOfX (uMode s u) s.u[u].chain.lastX ≤ 200000 ∧ uBit s u 1 = true) ∧
    (∃ (u : Fin 16) (s : State), (s.banks[bankOfU u]).arrived = true ∧ (uMode s u = 7 ∨ uMode s u = 8) ∧
       s.u[u].inputOpen = false) ∧
    (∃ (u : Fin 16) (s : State), (s.banks[bankOfU u]).arrived = true ∧ (uMode s u = 7 ∨ uMode s u = 8) ∧
       s.u[u].inputOpen = false) ∧
    (∃ (u : Fin 16) (s : State), (s.banks[bankOfU u]).arrived = true ∧ (uMode s u = 7 ∨ uMode s u = 8) ∧
       s.u[u].inputOpen = false ∧ s.u[u].limitAt.any (fun t => decide (nsUnits 10000000 ≤ (bankNow (s.banks[bankOfU u]) -
       t).toNat)) = true) ∧
    (∃ (u : Fin 16) (s : State), s.u[u].inputOpen = true ∧ nsUnits 1000000000 ≤ (bankNow (s.banks[bankOfU u]) -
       s.u[u].offAt).toNat) ∧
    (∃ (u : Fin 16) (s : State), s.u[u].inputOpen = false ∧ s.u[u].limitAt = none ∧ s.u[u].offAt ≠ 0 ∧
       nsUnits 1010000000 ≤ (bankNow (s.banks[bankOfU u]) - s.u[u].offAt).toNat) ∧
    (∃ (u : Fin 16) (s : State), isAi (uMode s u) = true ∧ (s.u[u].status.getLsbD 3 = true ∨
       s.u[u].status.getLsbD 4 = true) ∧ 9600 < s.u[u].satRun ∧ s.u[u].rangeRaised = false) ∧
    (∃ (u : Fin 16) (s : State), (s.banks[bankOfU u]).arrived = true ∧ s.u[u].settled = false ∧
       reached s.u[u].settleAt (bankNow (s.banks[bankOfU u])) = true ∧ isDi (uMode s u) = true ∧
       s.b (bankOfU u) 2 0x06 u 0x0D ≠ 0) ∧
    (∃ (u : Fin 16) (s : State), (s.banks[bankOfU u]).arrived = true ∧ s.u[u].settled = false ∧
       reached s.u[u].settleAt (bankNow (s.banks[bankOfU u])) = true ∧ isDi (uMode s u) = true ∧
       s.b (bankOfU u) 2 0x06 u 0x0D = 0) ∧
    (∃ (u : Fin 16) (s : State), (s.banks[bankOfU u]).arrived = true ∧ s.u[u].settled = false ∧
       reached s.u[u].settleAt (bankNow (s.banks[bankOfU u])) = true ∧ isDi (uMode s u) = false ∧
       isAnalogue (uMode s u) = true) :=
  ⟨⟨0,
    (setB (setB live 0 1 0x06 0 0x01 4) 0 1 0x06 0 0x0E 1).modU 0 (fun k => { k with settled := true, testTap := none }),
    by decide +kernel⟩,
    ⟨0,
    ((setB (setB live 0 1 0x06 0 0x01 4) 0 1 0x06 0 0x0E 1).modU 0 (fun k => { k with settled := true })).modBank 0 (fun k
      => { k with chosen := some 0, phase := 2 }),
    by decide +kernel⟩,
    ⟨0, 2 ^ 40,
    ((setB (setB live 0 1 0x06 0 0x01 4) 0 1 0x06 0 0x0E 1).modU 0 (fun k => { k with
        settled := true, testing := true, testTap := some 0 })).modBank 0 (fun k => { k with copy := 2 ^ 90 }),
    by decide +kernel⟩,
    ⟨0, - 2 ^ 40,
    ((setB (setB live 0 1 0x06 0 0x01 4) 0 1 0x06 0 0x0E 1).modU 0 (fun k => { k with
        settled := true, testing := true, testTap := some 0, status := 2 })).modBank 0 (fun k =>
      { k with copy := 2 ^ 90 }),
    by decide +kernel⟩,
    ⟨0, setB live 0 1 0x06 0 0x01 7, by decide +kernel⟩,
    ⟨0, setB live 0 1 0x06 0 0x01 7, by decide +kernel⟩,
    ⟨0,
    (setB live 0 1 0x06 0 0x01 7).modU 0 (fun k => { k with limitAt := some (bankNow (live.banks[(0 : Fin 4)]) + 1) }),
    by decide +kernel⟩,
    ⟨0, clockB (live.modU 0 (fun k => { k with inputOpen := true })) 0 (256 * 1000000000), by decide +kernel⟩,
    ⟨0, clockB (live.modU 0 (fun k => { k with offAt := 1 })) 0 (256 * 2000000000), by decide +kernel⟩,
    ⟨0, (setB live 0 1 0x06 0 0x01 4).modU 0 (fun k => { k with status := 8, satRun := 9601 }), by decide +kernel⟩,
    ⟨0, setB (setB live 0 1 0x06 0 0x01 1) 0 2 0x06 0 0x0D 5, by decide +kernel⟩,
    ⟨0, setB (setB live 0 1 0x06 0 0x01 1) 0 2 0x06 0 0x0D 0, by decide +kernel⟩,
    ⟨0, setB live 0 1 0x06 0 0x01 4, by decide +kernel⟩⟩

/-- The hypotheses of DigitalOutputsProtectThemselves are met. -/
theorem witness_DigitalOutputsProtectThemselves :
    (∃ (u : Fin 16) (s : State), doLive s u = true ∧ doOn s u = true) ∧
    (∃ (u : Fin 16) (s : State), doLive s u = true ∧ doOn s u = true) ∧
    (∃ (u : Fin 16) (s : State), doLive s u = true ∧ doOn s u = true ∧
       s.u[u].limitAt.any (fun t => decide (nsUnits (s.b (bankOfU u) 2 0x06 u 0x14 * 1000) ≤ (bankNow (s.banks[bankOfU
       u]) - t).toNat)) = true ∧ s.u[u].scShort = false ∧ s.b (bankOfU u) 1 0x06 u 0x15 = 0) ∧
    (∃ (u : Fin 16) (s : State), doLive s u = true ∧ doOn s u = true ∧
       s.u[u].limitAt.any (fun t => decide (nsUnits (s.b (bankOfU u) 2 0x06 u 0x14 * 1000) ≤ (bankNow (s.banks[bankOfU
       u]) - t).toNat)) = true ∧ s.u[u].scShort = true ∧ s.b (bankOfU u) 1 0x06 u 0x15 ≠ 0 ∧ s.u[u].retries + 1 < 8) ∧
    (∃ (u : Fin 16) (s : State), doLive s u = true ∧ doOn s u = true ∧
       s.u[u].limitAt.any (fun t => decide (nsUnits (s.b (bankOfU u) 2 0x06 u 0x14 * 1000) ≤ (bankNow (s.banks[bankOfU
       u]) - t).toNat)) = true ∧ s.u[u].scShort = true ∧ 8 ≤ s.u[u].retries + 1) ∧
    (∃ (u : Fin 16) (s : State), doLive s u = true ∧ s.u[u].scShort = true ∧
       s.u[u].status.getLsbD 6 = false ∧ s.u[u].scOff = true ∧
       nsUnits 100000000 ≤ (bankNow (s.banks[bankOfU u]) - s.u[u].offAt).toNat) ∧
    (∃ (u : Fin 16) (s : State), doLive s u = true ∧ doOn s u = true ∧ s.u[u].scShort = true ∧
       s.u[u].status.getLsbD 6 = false ∧ s.u[u].scOff = false ∧ s.u[u].limitAt = none ∧
       nsUnits 100000000 ≤ (bankNow (s.banks[bankOfU u]) - s.u[u].doLimitRun).toNat) ∧
    (∃ (u : Fin 16) (s : State), doLive s u = true ∧ doOn s u = true ∧ s.b (bankOfU u) 1 0x06 u 0x16 = 1 ∧
       uBit s u 1 = false) ∧
    (∃ (u : Fin 16) (s : State), doLive s u = true ∧ uBit s u 1 = true) ∧
    (∃ (u : Fin 16) (s : State), doLive s u = true ∧ doOn s u = false ∧ s.u[u].shortTest = false) ∧
    (∃ (u : Fin 16) (s : State), doLive s u = true ∧ s.u[u].shortTest = true) :=
  ⟨⟨0,
    (setB (setB live 0 1 0x06 0 0x01 3) 0 1 0x06 0 0x15 0).modU 0 (fun k => { k with src := { k.src with imm := 1 } }),
    by decide +kernel⟩,
    ⟨0,
    (setB (setB live 0 1 0x06 0 0x01 3) 0 1 0x06 0 0x15 0).modU 0 (fun k => { k with src := { k.src with imm := 1 } }),
    by decide +kernel⟩,
    ⟨0,
    (setB (setB live 0 1 0x06 0 0x01 3) 0 1 0x06 0 0x15 0).modU 0 (fun k => { k with
        src := { k.src with imm := 1 }, limitAt := some (bankNow (live.banks[(0 : Fin 4)]) + 1) }),
    by decide +kernel⟩,
    ⟨0,
    (setB (setB live 0 1 0x06 0 0x01 3) 0 1 0x06 0 0x15 1).modU 0 (fun k => { k with
        src := { k.src with imm := 1 }, scShort := true, limitAt := some (bankNow (live.banks[(0 : Fin 4)]) + 1) }),
    by decide +kernel⟩,
    ⟨0,
    (setB (setB live 0 1 0x06 0 0x01 3) 0 1 0x06 0 0x15 1).modU 0 (fun k => { k with
        src := { k.src with imm := 1 }, scShort := true, retries := 7,
        limitAt := some (bankNow (live.banks[(0 : Fin 4)]) + 1) }),
    by decide +kernel⟩,
    ⟨0,
    clockB ((setB (setB live 0 1 0x06 0 0x01 3) 0 1 0x06 0 0x15 1).modU 0 (fun k =>
      { k with scShort := true, scOff := true })) 0 (256 * 100000000),
    by decide +kernel⟩,
    ⟨0,
    clockB ((setB (setB live 0 1 0x06 0 0x01 3) 0 1 0x06 0 0x15 1).modU 0 (fun k =>
      { k with scShort := true, src := { k.src with imm := 1 } })) 0 (256 * 100000000),
    by decide +kernel⟩,
    ⟨0,
    (setB (setB live 0 1 0x06 0 0x01 3) 0 1 0x06 0 0x16 1).modU 0 (fun k => { k with src := { k.src with imm := 1 } }),
    by decide +kernel⟩,
    ⟨0, (setB (setB live 0 1 0x06 0 0x01 3) 0 1 0x06 0 0x16 1).modU 0 (fun k => { k with status := 2 }),
    by decide +kernel⟩,
    ⟨0, (setB (setB live 0 1 0x06 0 0x01 3) 0 1 0x06 0 0x16 1).modU 0 (fun k => { k with shortTest := false }),
    by decide +kernel⟩,
    ⟨0, (setB (setB live 0 1 0x06 0 0x01 3) 0 1 0x06 0 0x16 1).modU 0 (fun k => { k with shortTest := true }),
    by decide +kernel⟩⟩

/-- The hypotheses of ChannelsDecimateAndMeasure are met. -/
theorem witness_ChannelsDecimateAndMeasure :
    (∃ (b : Fin 4) (i : Fin 4) (m : List (BitVec 5)) (s : State), (s.banks[b]).arrived = true ∧
       (s.banks[b]).calHeld = true) ∧
    (∃ (b : Fin 4) (m : List (BitVec 5)) (s : State), (s.banks[b]).arrived = true ∧ (s.banks[b]).calHeld = true) ∧
    (∃ (u : Fin 16) (m : OutMeas) (o : OldSample) (s : State),
       (s.banks[bankOfU u]).arrived = true ∧ s.u[u].chain.old.find? (fun o => decide (o.at_ + o.grid.delay ≤ perOf
       (bankUnits s (bankOfU u)))) = some o ∧ o.good = true) ∧
    (∃ (u : Fin 16) (m : OutMeas) (o : OldSample) (s : State),
       (s.banks[bankOfU u]).arrived = true ∧ s.u[u].chain.old.find? (fun o => decide (o.at_ + o.grid.delay ≤ perOf
       (bankUnits s (bankOfU u)))) = some o ∧ o.good = false) ∧
    (∃ (u : Fin 16) (m : OutMeas) (g : Grid) (t : Nat) (s : State),
       (s.banks[bankOfU u]).arrived = true ∧ s.u[u].chain.old.find? (fun o => decide (o.at_ + o.grid.delay ≤ perOf
       (bankUnits s (bankOfU u)))) = none ∧ s.u[u].chain.grid = some g ∧
       gridDue g (bankUnits s (bankOfU u)) = some t ∧ s.u[u].chain.lastMain.any (fun l => decide (t ≤ l)) = false ∧
       s.u[u].chain.changeAt ≤ perTime t ∧ s.u[u].chain.settling = false) ∧
    (∃ (u : Fin 16) (m : OutMeas) (g : Grid) (t : Nat) (s : State),
       (s.banks[bankOfU u]).arrived = true ∧ s.u[u].chain.old.find? (fun o => decide (o.at_ + o.grid.delay ≤ perOf
       (bankUnits s (bankOfU u)))) = none ∧ s.u[u].chain.grid = some g ∧
       gridDue g (bankUnits s (bankOfU u)) = some t ∧ s.u[u].chain.lastMain.any (fun l => decide (t ≤ l)) = false ∧
       s.u[u].chain.changeAt ≤ perTime t ∧ s.u[u].chain.settling = true ∧
       s.u[u].chain.settledAt + halfUnits g ≤ perTime t) ∧
    (∃ (u : Fin 16) (m : OutMeas) (g : Grid) (t : Nat) (s : State),
       (s.banks[bankOfU u]).arrived = true ∧ s.u[u].chain.old.find? (fun o => decide (o.at_ + o.grid.delay ≤ perOf
       (bankUnits s (bankOfU u)))) = none ∧ s.u[u].chain.grid = some g ∧
       gridDue g (bankUnits s (bankOfU u)) = some t ∧ s.u[u].chain.lastMain.any (fun l => decide (t ≤ l)) = false ∧
       s.u[u].chain.changeAt ≤ perTime t ∧ s.u[u].chain.settling = true ∧
       perTime t < s.u[u].chain.settledAt + halfUnits g) ∧
    (∃ (b : Fin 4) (s : State), (s.banks[b]).arrived = true ∧ syncDue s b = []) ∧
    (∃ (b : Fin 4) (d : Fin 16 × Nat) (ds : List (Fin 16 × Nat)) (s : State), (s.banks[b]).arrived = true ∧
       syncDue s b = d :: ds) ∧
    (∃ (u : Fin 16) (s : State), (s.banks[bankOfU u]).arrived = true ∧
       s.u[u].chain.grid.isSome = true ∧ s.u[u].chain.holdAt.isNone = true) ∧
    (∃ (u : Fin 16) (s : State), (s.banks[bankOfU u]).arrived = true ∧ (s.u[u].chain.grid = none ∨
       s.u[u].chain.holdAt ≠ none)) ∧
    (∃ (t : CellTime) (on : List (Fin 16)) (s : State), tdcBlind s.tb.syncArm (monoAt s t) = false ∧
       on = allU.filter (fun (u : Fin 16) => natBit (s.p 1 0x08 u 0x07) 0)) ∧
    (∃ (t : CellTime) (s : State), tdcBlind s.tb.syncArm (monoAt s t) = true) ∧
    (∃ (q : Req) (u : Fin 16) (t : CellTime) (s : State), mayConfigure s q.ep = true) ∧
    (∃ (q : Req) (u : Fin 16) (t : CellTime) (s : State), mayConfigure s q.ep = false) :=
  ⟨⟨0, 0, [], live, by decide +kernel⟩,
    ⟨0, [], live, by decide +kernel⟩,
    ⟨0, ⟨false, 0⟩, ⟨0, ⟨4, 1, none, 0, 10, 0, 1⟩, true, none⟩,
    (clockB live 0 (perTime 100)).modU 0 (fun k => { k with
        chain := { k.chain with old := [⟨0, ⟨4, 1, none, 0, 10, 0, 1⟩, true, none⟩] } }),
    by decide +kernel⟩,
    ⟨0, ⟨false, 0⟩, ⟨0, ⟨4, 1, none, 0, 10, 0, 1⟩, false, none⟩,
    (clockB live 0 (perTime 100)).modU 0 (fun k => { k with
        chain := { k.chain with old := [⟨0, ⟨4, 1, none, 0, 10, 0, 1⟩, false, none⟩] } }),
    by decide +kernel⟩,
    ⟨0, ⟨false, 0⟩, ⟨4, 1, none, 0, 10, 0, 1⟩, 100,
    (clockB live 0 (perTime 100)).modU 0 (fun k => { k with
        chain := { k.chain with
            grid := some ⟨4, 1, none, 0, 10, 0, 1⟩, old := [], settling := false, lastMain := none, changeAt := 0 } }),
    by decide +kernel⟩,
    ⟨0, ⟨false, 0⟩, ⟨4, 1, none, 0, 10, 0, 1⟩, 100,
    (clockB live 0 (perTime 100)).modU 0 (fun k => { k with
        chain := { k.chain with
            grid := some ⟨4, 1, none, 0, 10, 0, 1⟩, old := [], settling := true, settledAt := 0, lastMain := none,
            changeAt := 0 } }),
    by decide +kernel⟩,
    ⟨0, ⟨false, 0⟩, ⟨4, 1, none, 0, 10, 0, 1⟩, 100,
    (clockB live 0 (perTime 100)).modU 0 (fun k => { k with
        chain := { k.chain with
            grid := some ⟨4, 1, none, 0, 10, 0, 1⟩, old := [], settling := true, settledAt := 2 ^ 60, lastMain := none,
            changeAt := 0 } }),
    by decide +kernel⟩,
    ⟨0, live, by decide +kernel⟩,
    ⟨0, (0, 0), [], live.modU 0 (fun k => { k with chain := { k.chain with syncPending := some 0 } }), by decide +kernel⟩,
    ⟨0,
    live.modU 0 (fun k => { k with chain := { k.chain with grid := some ⟨4, 1, none, 0, 10, 0, 1⟩, holdAt := none } }),
    by decide +kernel⟩,
    ⟨0, live, by decide +kernel⟩,
    ⟨0, allU.filter (fun (u : Fin 16) => natBit (State.reset.p 1 0x08 u 0x07) 0), State.reset, by decide +kernel⟩,
    ⟨0, live.modTb (fun b => { b with syncArm := some (monoAt live 0) }), by decide +kernel⟩,
    ⟨⟨1, 0, 0⟩, 0, 0, live, by decide +kernel⟩,
    ⟨⟨0, 0, 0⟩, 0, 0, State.reset, by decide +kernel⟩⟩

/-- The hypotheses of CalibrationRotates are met. -/
theorem witness_CalibrationRotates :
    (∃ (b : Fin 4) (start : Nat) (s : State), (s.banks[b]).arrived = true ∧
       (s.banks[b]).calHeld = true ∧ (s.banks[b]).slotOpen = false ∧ start = newSlot s b ∧
       (((s.banks[b]).slotCount = 0 ∨ (s.banks[b]).slotStart.toNat ≠ start))) ∧
    (∃ (b : Fin 4) (s : State), (s.banks[b]).arrived = true ∧ (s.banks[b]).slotOpen = true ∧
       (s.banks[b]).phase = 0 ∧ 1560 ≤ (s.banks[b]).reliefWords ∧
       spanOk (s.banks[b]).cal (16 + b.val) (uMode s (reliefChan s b)) ((s.banks[b]).reliefDc - (s.banks[b]).reliefDz) =
       true ∧ (s.banks[b]).reliefOut = false) ∧
    (∃ (b i : Fin 4) (s : State), (s.banks[b]).arrived = true ∧ (s.banks[b]).slotOpen = true ∧
       (s.banks[b]).phase = 0 ∧ 1560 ≤ (s.banks[b]).reliefWords ∧ (s.banks[b]).chosen = some i ∧
       spanOk (s.banks[b]).cal (16 + b.val) (uMode s (reliefChan s b)) ((s.banks[b]).reliefDc - (s.banks[b]).reliefDz) =
       false) ∧
    (∃ (b i : Fin 4) (s : State), (s.banks[b]).chosen = some i ∧ (s.banks[b]).phase = 1 ∧ 16 ≤ s.u[uOf b i].rot.words) ∧
    (∃ (b i : Fin 4) (s : State), (s.banks[b]).chosen = some i ∧ (s.banks[b]).phase = 3 ∧ 520 ≤ s.u[uOf b i].rot.words) ∧
    (∃ (b i : Fin 4) (s : State), (s.banks[b]).chosen = some i ∧ (s.banks[b]).phase = 4 ∧ 520 ≤ s.u[uOf b i].rot.words) ∧
    (∃ (b i : Fin 4) (s : State), (s.banks[b]).chosen = some i ∧ (s.banks[b]).phase = 6 ∧ 24 ≤ s.u[uOf b i].rot.words) ∧
    (∃ (b i : Fin 4) (s : State), (s.banks[b]).chosen = some i ∧ (s.banks[b]).phase = 2 ∧
       64 ≤ s.u[uOf b i].rot.words ∧ (roundDiv (s.u[uOf b i].rot.overlap * 10000000) (64 * 2 ^ 30)).natAbs ≤ s.b b 2 0x07
       (uOf b i) 0x0B * 10) ∧
    (∃ (b i : Fin 4) (s : State), (s.banks[b]).chosen = some i ∧ (s.banks[b]).phase = 7 ∧
       64 ≤ s.u[uOf b i].rot.words ∧ (roundDiv (s.u[uOf b i].rot.overlap * 10000000) (64 * 2 ^ 30)).natAbs ≤ s.b b 2 0x07
       (uOf b i) 0x0B * 10 ∧ s.u[uOf b i].rot.cut = false) ∧
    (∃ (b : Fin 4) (s : State), (s.banks[b]).chosen = none) ∧
    (∃ (b i : Fin 4) (s : State), (s.banks[b]).chosen = some i ∧ 6 ≤ (s.banks[b]).phase) ∧
    (∃ (b i : Fin 4) (s : State), (s.banks[b]).chosen = some i ∧ (s.banks[b]).phase ≤ 1) ∧
    (∃ (b i : Fin 4) (s : State), (s.banks[b]).chosen = some i ∧ 2 ≤ (s.banks[b]).phase ∧ (s.banks[b]).phase ≤ 5) ∧
    (∃ (b : Fin 4) (s : State), (s.banks[b]).arrived = true ∧ (s.banks[b]).slotOpen = true ∧
       (s.banks[b]).slotEnd ≤ bankUnits s b ∧ (s.banks[b]).deltas = [] ∧ (s.banks[b]).emptyRun < 3) ∧
    (∃ (b : Fin 4) (d : Int) (ds : List Int) (avg : Int) (s1 s2 : State) (s : State),
       (s.banks[b]).arrived = true ∧ (s.banks[b]).slotOpen = true ∧
       (s.banks[b]).slotEnd ≤ bankUnits s b ∧ (s.banks[b]).deltas = d :: ds ∧
       avg = roundDiv ((d :: ds).foldl (· + ·) 0) (d :: ds).length ∧
       s1 = (s.modBank b (fun k => { k with slotOpen := false, reliefWords := 0 })).modBank b (fun k => { k with
         emptyRun := 0, refRun := if decide (avg.natAbs ≤ s.b b 2 0x1B 0 0x03 * 100) then k.refRun + 1 else 0,
         alarmRun := if decide (avg.natAbs ≤ s.b b 2 0x1B 0 0x03 * 100) then 0 else k.alarmRun + 1
           }) ∧ s2 = (s1.setRef b (refNext (s1.banks[b]) (decide (avg.natAbs ≤ s.b b 2 0x1B 0 0x03 * 100))
         (decide (s.b b 2 0x1B 0 0x04 * 100 < avg.natAbs)))).scaleDacs b avg) ∧
    (∃ (b i : Fin 4) (r : Rotation) (new : Coef) (s : State), (s.banks[b]).chosen = some i ∧ (s.banks[b]).phase = 5 ∧
       r = s.u[uOf b i].rot ∧ 520 ≤ r.words ∧ new =
       { dz := r.dz, k := gainOf (s.banks[b]).cal b (uOf b i) (uMode s (uOf b i)) r.temp (r.dc - r.dz), checkSpan := r.dc - r.dz, refSpan := r.dr - r.dz, temp := r.temp, source := 1 }
       ∧ spanOk (s.banks[b]).cal (uOf b i) (uMode s (uOf b i)) (r.dc - r.dz) = true ∧ s.u[uOf b i].coef.source = 0) ∧
    (∃ (b i : Fin 4) (r : Rotation) (s : State), (s.banks[b]).chosen = some i ∧ (s.banks[b]).phase = 5 ∧
       r = s.u[uOf b i].rot ∧ 520 ≤ r.words ∧ spanOk (s.banks[b]).cal (uOf b i) (uMode s (uOf b i)) (r.dc - r.dz) = false
       ∧ r.rejects ≠ 2) ∧
    (∃ (b : Fin 4) (t : Int) (s : State), (s.banks[b]).powered = true) ∧
    (∃ (u : Fin 16) (s : State), (s.banks[bankOfU u]).arrived = true ∧ clampMode (uMode s u) = true ∧
       (bankU (bankOfU u)).all (fun v => s.u[v].clampAt.isNone) = true ∧ s.u[u].clampAt = none) ∧
    (∃ (u v : Fin 16) (t : CellTime) (s : State), (s.banks[bankOfU u]).arrived = true ∧
       clampMode (uMode s u) = true ∧ (bankU (bankOfU u)).contains v = true ∧ s.u[v].clampAt = some t ∧
       s.u[u].clampAt = none) ∧
    (∃ (u : Fin 16) (t : CellTime) (s : State), s.u[u].clampAt = some t) ∧
    (∃ (q : Req) (u : Fin 16) (s : State), mayConfigure s q.ep = true) ∧
    (∃ (q : Req) (u : Fin 16) (s : State), mayConfigure s q.ep = false) ∧
    (∃ (q : Req) (u : Fin 16) (second : Bool) (measured : BitVec 32) (s : State), mayConfigure s q.ep = true) ∧
    (∃ (q : Req) (u : Fin 16) (second : Bool) (measured : BitVec 32) (s : State), mayConfigure s q.ep = false) ∧
    (∃ (q : Req) (u : Fin 16) (s : State), mayConfigure s q.ep = true) ∧
    (∃ (q : Req) (u : Fin 16) (s : State), mayConfigure s q.ep = false) ∧
    (∃ (slot : Bool) (rec : List Byte) (s : State), s.sup.calWrite = some (slot, rec) ∧ s.sup.calAgain = false) :=
  ⟨⟨0, _, clockB (setB (setB live 0 1 0x1B 0 0x02 1) 0 4 0x1B 0 0x01 1000) 0 0, ⟨by decide +kernel, by decide +kernel,
    by decide +kernel, rfl, by decide +kernel⟩⟩,
    ⟨0,
    (setB live 0 1 0x06 0 0x01 5).modBank 0 (fun k => { k with
        slotOpen := true, phase := 0, reliefWords := 1560, reliefDz := 0, reliefDc := Config.factorySpan k.cal 16 5,
        reliefOut := false }),
    ⟨by decide +kernel, by decide +kernel, by decide +kernel, by decide +kernel,
    sp0 _ 16 _ 5 _ _ (by decide +kernel) (by rw [modBank_at]) (by rw [modBank_at]), by decide +kernel⟩⟩,
    ⟨0, 0,
    (setB live 0 1 0x06 0 0x01 5).modBank 0 (fun k => { k with
        chosen := some 0, slotOpen := true, phase := 0, reliefWords := 1560, reliefDz := 0,
        reliefDc := Config.factorySpan k.cal 16 5 + (Config.factorySpan k.cal 16 5).natAbs + 1, reliefOut := false }),
    ⟨by decide +kernel, by decide +kernel, by decide +kernel, by decide +kernel, by decide +kernel,
    sp1 _ 16 _ 5 _ _ (by decide +kernel) (by rw [modBank_at]) (by rw [modBank_at])⟩⟩,
    ⟨0, 0,
    (live.modBank 0 (fun k => { k with chosen := some 0, phase := 1 })).modU 0 (fun k =>
      { k with rot := { k.rot with words := 16 } }),
    by decide +kernel⟩,
    ⟨0, 0,
    (live.modBank 0 (fun k => { k with chosen := some 0, phase := 3 })).modU 0 (fun k =>
      { k with rot := { k.rot with words := 520 } }),
    by decide +kernel⟩,
    ⟨0, 0,
    (live.modBank 0 (fun k => { k with chosen := some 0, phase := 4 })).modU 0 (fun k =>
      { k with rot := { k.rot with words := 520 } }),
    by decide +kernel⟩,
    ⟨0, 0,
    (live.modBank 0 (fun k => { k with chosen := some 0, phase := 6 })).modU 0 (fun k =>
      { k with rot := { k.rot with words := 24 } }),
    by decide +kernel⟩,
    ⟨0, 0,
    (live.modBank 0 (fun k => { k with chosen := some 0, phase := 2 })).modU 0 (fun k =>
      { k with rot := { k.rot with words := 64 } }),
    by decide +kernel⟩,
    ⟨0, 0,
    (live.modBank 0 (fun k => { k with chosen := some 0, phase := 7 })).modU 0 (fun k =>
      { k with rot := { k.rot with words := 64 } }),
    by decide +kernel⟩,
    ⟨0, live, by decide +kernel⟩,
    ⟨0, 1, live.modBank 0 (fun k => { k with chosen := some 1, phase := 6 }), by decide +kernel⟩,
    ⟨0, 1, live.modBank 0 (fun k => { k with chosen := some 1, phase := 1 }), by decide +kernel⟩,
    ⟨0, 1, live.modBank 0 (fun k => { k with chosen := some 1, phase := 2 }), by decide +kernel⟩,
    ⟨0, clockB (live.modBank 0 (fun k => { k with slotOpen := true })) 0 (256 * 10 ^ 13), by decide +kernel⟩,
    ⟨0, 5, [], _, _, _, clockB (live.modBank 0 (fun k => { k with slotOpen := true, deltas := [5] })) 0 (256 * 10 ^ 13),
    ⟨by decide +kernel, by decide +kernel, by decide +kernel, by decide +kernel, rfl, rfl, rfl⟩⟩,
    ⟨0, 0, { rotationReset with words := 520, dz := 0, dc := Config.factorySpan (live.banks[(0 : Fin 4)]).cal 0 0 }, ⟨_,
    _, _, _, _, _⟩,
    (live.modBank 0 (fun k => { k with chosen := some 0, phase := 5 })).modU 0 (fun k => { k with
        rot := { rotationReset with words := 520, dz := 0, dc := Config.factorySpan (live.banks[(0 : Fin 4)]).cal 0 0 },
        coef := { k.coef with source := 0 } }),
    ⟨by decide +kernel, by decide +kernel, rfl, by decide +kernel, rfl,
    sp0 _ 0 _ 0 _ _ (by decide +kernel) (by rw [show ∀ (x : State) g, (x.modU 0 g).banks = x.banks from fun _ _ => rfl, modBank_at]) rfl,
    by decide +kernel⟩⟩,
    ⟨0, 0,
    { rotationReset with
        words := 520, dz := 0,
        dc := Config.factorySpan (live.banks[(0 : Fin 4)]).cal 0 0 + (Config.factorySpan (live.banks[(0 : Fin 4)]).cal 0
          0).natAbs + 1 },
    (live.modBank 0 (fun k => { k with chosen := some 0, phase := 5 })).modU 0 (fun k => { k with
        rot := { rotationReset with
            words := 520, dz := 0,
            dc := Config.factorySpan (live.banks[(0 : Fin 4)]).cal 0 0 + (Config.factorySpan (live.banks[(0 : Fin 4)]).cal
              0 0).natAbs + 1 },
        coef := { k.coef with source := 0 } }),
    ⟨by decide +kernel, by decide +kernel, rfl, by decide +kernel,
    sp1 _ 0 _ 0 _ _ (by decide +kernel) (by rw [show ∀ (x : State) g, (x.modU 0 g).banks = x.banks from fun _ _ => rfl, modBank_at]) rfl,
    by decide +kernel⟩⟩,
    ⟨0, 0, live, by decide +kernel⟩,
    ⟨0, setB live 0 1 0x06 0 0x01 5, by decide +kernel⟩,
    ⟨0, 1, 0, (setB live 0 1 0x06 0 0x01 5).modU 1 (fun k => { k with clampAt := some 0 }), by decide +kernel⟩,
    ⟨0, 0, live.modU 0 (fun k => { k with clampAt := some 0 }), by decide +kernel⟩,
    ⟨⟨1, 0, 0⟩, 0, live, by decide +kernel⟩,
    ⟨⟨0, 0, 0⟩, 0, State.reset, by decide +kernel⟩,
    ⟨⟨1, 0, 0⟩, 0, false, 0, live, by decide +kernel⟩,
    ⟨⟨0, 0, 0⟩, 0, false, 0, State.reset, by decide +kernel⟩,
    ⟨⟨1, 0, 0⟩, 0, live, by decide +kernel⟩,
    ⟨⟨0, 0, 0⟩, 0, State.reset, by decide +kernel⟩,
    ⟨false, [], { State.reset with sup := { State.reset.sup with calWrite := some (false, []) } }, by decide +kernel⟩⟩

/-- The hypotheses of LoadSwitchesProtectThemselves are met. -/
theorem witness_LoadSwitchesProtectThemselves :
    (∃ (l : Fin 8) (m : StageMeas) (lim pk pt rt : Nat) (onFor : Nat) (s : State), lLive s l = true ∧
       lProfile s l = (lim, pk, pt, rt) ∧ onFor = (bankNow (s.banks[bankOfL l]) - s.l[l].launchAt).toNat ∧
       s.l[l].on = true ∧ onFor / 256000 < pt + rt) ∧
    (∃ (l : Fin 8) (m : StageMeas) (lim pk pt rt : Nat) (onFor : Nat) (s : State), lLive s l = true ∧
       lProfile s l = (lim, pk, pt, rt) ∧ onFor = (bankNow (s.banks[bankOfL l]) - s.l[l].launchAt).toNat ∧
       (s.l[l].on = false ∨ pt + rt ≤ onFor / 256000)) ∧
    (∃ (l : Fin 8) (s : State), lLive s l = true ∧ lGroup s l = none ∧ s.l[l].on = true ∧
       s.b (bankOfL l) 4 0x0A l 0x05 ≤ s.l[l].limitTime ∧ s.b (bankOfL l) 1 0x0A l 0x06 = 0 ∧ s.l[l].retried = false) ∧
    (∃ (l : Fin 8) (s : State), lLive s l = true ∧ lGroup s l = none ∧ s.l[l].on = true ∧
       s.b (bankOfL l) 4 0x0A l 0x05 ≤ s.l[l].limitTime ∧ s.b (bankOfL l) 1 0x0A l 0x06 ≠ 0 ∧
       s.l[l].retried = true ∧ s.l[l].retries + 1 < 8) ∧
    (∃ (l : Fin 8) (s : State), lBit s l 2 = true ∧ nsUnits (s.b (bankOfL l) 2 0x0A l 0x07 * 1000000) ≤ (bankNow
       (s.banks[bankOfL l]) - s.l[l].holdAt).toNat) ∧
    (∃ (l : Fin 8) (n : Nat) (s : State), lLive s l = true ∧ (shutdownAt l ≤ s.l[l].tJ ∨
       shutdownAt l ≤ s.l[l].tS) ∧ lGroup s l = none ∧ lBit s l 4 = false ∧
       thermalCount (s.b (bankOfL l) 1 0x0A l 0x13) s.l[l].restarts s.l[l].thermRestart (bankNow (s.banks[bankOfL l]) -
       s.l[l].launchAt).toNat = (n, false)) ∧
    (∃ (l : Fin 8) (n : Nat) (s : State), lLive s l = true ∧ (shutdownAt l ≤ s.l[l].tJ ∨
       shutdownAt l ≤ s.l[l].tS) ∧ lGroup s l = none ∧ lBit s l 4 = false ∧
       thermalCount (s.b (bankOfL l) 1 0x0A l 0x13) s.l[l].restarts s.l[l].thermRestart (bankNow (s.banks[bankOfL l]) -
       s.l[l].launchAt).toNat = (n, true)) ∧
    (∃ (l : Fin 8) (g : Fin 4) (s : State), lLive s l = true ∧ (shutdownAt l ≤ s.l[l].tJ ∨
       shutdownAt l ≤ s.l[l].tS) ∧ lGroup s l = some g ∧ lBit s l 4 = false) ∧
    (∃ (l : Fin 8) (s : State), lBit s l 4 = true ∧ lBit s l 5 = false ∧ thermalMode s l = 0 ∧
       groupHot s l = false ∧ lCool s l = true) ∧
    (∃ (l : Fin 8) (s : State), lLive s l = true ∧ s.l[l].on = false ∧ lBit s l 13 = false) ∧
    (∃ (l : Fin 8) (s : State), lLive s l = true) ∧
    (∃ (l : Fin 8) (s : State), lBit s l 7 = true ∧ s.b (bankOfL l) 1 0x0A l 0x0F = 0 ∧
       ((s.b (bankOfL l) 2 0x0A l 0x10 * 1000000 : Nat) : Int) ≤ s.l[l].budget) :=
  ⟨⟨0, ⟨0, 0, 0, false⟩,
    (lProfile (setB (setB (setB ((live).modL 0 (fun k => { k with on := true })) 0 1 0x0A 0 0x08 1) 0 2 0x0A 0 0x0B 5) 0 2
      0x0A 0 0x0C 5) 0).1,
    (lProfile (setB (setB (setB ((live).modL 0 (fun k => { k with on := true })) 0 1 0x0A 0 0x08 1) 0 2 0x0A 0 0x0B 5) 0 2
      0x0A 0 0x0C 5) 0).2.1,
    (lProfile (setB (setB (setB ((live).modL 0 (fun k => { k with on := true })) 0 1 0x0A 0 0x08 1) 0 2 0x0A 0 0x0B 5) 0 2
      0x0A 0 0x0C 5) 0).2.2.1,
    (lProfile (setB (setB (setB ((live).modL 0 (fun k => { k with on := true })) 0 1 0x0A 0 0x08 1) 0 2 0x0A 0 0x0B 5) 0 2
      0x0A 0 0x0C 5) 0).2.2.2,
    0,
    setB (setB (setB ((live).modL 0 (fun k => { k with on := true })) 0 1 0x0A 0 0x08 1) 0 2 0x0A 0 0x0B 5) 0 2 0x0A 0
      0x0C 5,
    by decide +kernel⟩,
    ⟨0, ⟨0, 0, 0, false⟩, (lProfile (live) 0).1, (lProfile (live) 0).2.1, (lProfile (live) 0).2.2.1,
    (lProfile (live) 0).2.2.2, _, live, ⟨by decide +kernel, rfl, rfl, by decide +kernel⟩⟩,
    ⟨0, setB ((live).modL 0 (fun k => { k with on := true, limitTime := 10 ^ 9 })) 0 1 0x0A 0 0x06 0, by decide +kernel⟩,
    ⟨0, setB ((live).modL 0 (fun k => { k with on := true, limitTime := 10 ^ 9, retried := true })) 0 1 0x0A 0 0x06 1,
    by decide +kernel⟩,
    ⟨0, clockB ((live).modL 0 (fun k => { k with status := 4 })) 0 (256 * 10 ^ 13), by decide +kernel⟩,
    ⟨0, 0, (live).modL 0 (fun k => { k with tJ := shutdownAt 0 }), ⟨by decide +kernel, Or.inl (by rw [modL_at]),
    by decide +kernel, by decide +kernel, by decide +kernel⟩⟩,
    ⟨0, 0, (setB live 0 1 0x0A 0 0x13 1).modL 0 (fun k => { k with tJ := shutdownAt 0 }), ⟨by decide +kernel,
    Or.inl (by rw [modL_at]), by decide +kernel, by decide +kernel, by decide +kernel⟩⟩,
    ⟨0, 0, (setB live 0 1 0x0B 0 0x01 1).modL 0 (fun k => { k with tJ := shutdownAt 0 }), ⟨by decide +kernel,
    Or.inl (by rw [modL_at]), by decide +kernel, by decide +kernel⟩⟩,
    ⟨0,
    (setB live 0 1 0x0A 0 0x13 0).modL 0 (fun k => { k with status := 16, tJ := restartAt 0 - 1, tS := restartAt 0 - 1 }),
    ⟨by decide +kernel, by decide +kernel, by decide +kernel, by decide +kernel, by simp only [lCool, modL_at]; simp⟩⟩,
    ⟨0, live, by decide +kernel⟩,
    ⟨0, live, by decide +kernel⟩,
    ⟨0,
    setB (setB ((live).modL 0 (fun k => { k with status := 128, budget := 10 ^ 12 })) 0 1 0x0A 0 0x0F 0) 0 2 0x0A 0 0x10
      1,
    by decide +kernel⟩⟩

/-- The hypotheses of LoadTestsAndDieFaultsAreReported are met. -/
theorem witness_LoadTestsAndDieFaultsAreReported :
    (∃ (l : Fin 8) (s : State), lLive s l = true ∧ lBit s l 9 = false ∧ s.l[l].on = true ∧ lGroup s l = none ∧
       s.b (bankOfL l) 1 0x0A l 0x1B = 1) ∧
    (∃ (l : Fin 8) (s : State), lLive s l = true ∧ lBit s l 9 = true) ∧
    (∃ (g : Fin 4) (s : State), gBit s g 9 = false ∧ gBit s g 0 = true ∧ s.p 2 0x0B g 0x13 ≠ 0 ∧ membersOf s g ≠ 0) ∧
    (∃ (g : Fin 4) (s : State), gBit s g 9 = true) ∧
    (∃ (l : Fin 8) (s : State), lLive s l = true ∧ s.l[l].on = false ∧ lBit s l 13 = false ∧ lBit s l 10 = false) ∧
    (∃ (l : Fin 8) (s : State), lLive s l = true) ∧
    (∃ (l : Fin 8) (s : State), lLive s l = true ∧ s.l[l].on = true ∧ lBit s l 10 = false) ∧
    (∃ (l : Fin 8) (s : State), lLive s l = true) ∧
    (∃ (b : Fin 4) (l0 : Fin 8) (ls : List (Fin 8)) (s : State), (s.banks[b]).powered = true ∧
       (bankL b).filter (fun l => !(s.l[l].dieLost)) = l0 :: ls) ∧
    (∃ (b : Fin 4) (l0 : Fin 8) (ls : List (Fin 8)) (s : State), (bankL b).filter (fun l => s.l[l].dieLost) = l0 :: ls) :=
  ⟨⟨0, setB ((live).modL 0 (fun k => { k with on := true })) 0 1 0x0A 0 0x1B 1, by decide +kernel⟩,
    ⟨0, (live).modL 0 (fun k => { k with status := 512 }), by decide +kernel⟩,
    ⟨0, ((live.setP 2 0x0B 0 0x02 1).setP 2 0x0B 0 0x13 1).setP 1 0x0B 0 0x01 3, by decide +kernel⟩,
    ⟨0, live.setP 2 0x0B 0 0x02 512, by decide +kernel⟩,
    ⟨0, live, by decide +kernel⟩,
    ⟨0, live, by decide +kernel⟩,
    ⟨0, (live).modL 0 (fun k => { k with on := true }), by decide +kernel⟩,
    ⟨0, live, by decide +kernel⟩,
    ⟨0, 0, [1], live, by decide +kernel⟩,
    ⟨0, 0, [], (live).modL 0 (fun k => { k with dieLost := true }), by decide +kernel⟩⟩

/-- The hypotheses of GroupsActAsOneOutput are met. -/
theorem witness_GroupsActAsOneOutput :
    (∃ (g : Fin 4) (s : State), isCross s g = true ∧ 500 < vfSpread s g ∧ 15 ≤ s.coppice[g].vfHigh ∧ gBit s g 4 = false) ∧
    (∃ (g : Fin 4) (s : State), isCross s g = true ∧ vfSpread s g ≤ 500 ∧ 15 ≤ s.coppice[g].vfLow ∧ gBit s g 4 = true) ∧
    (∃ (g : Fin 4) (s : State), isCross s g = true ∧ vfSpread s g ≤ 500 ∧ s.coppice[g].vfLow < 15) ∧
    (∃ (b g : Fin 4) (sh : Int) (s : State), (s.banks[b]).arrived = true ∧
       s.b b 1 0x0B g 0x12 = 1 ∧ ((s.banks[b]).groups[g]).on = true ∧
       (sh = if crossB s b g then ((s.banks[b]).groups[g]).share else localShare s b g)) ∧
    (∃ (g : Fin 4) (s : State), 100 < s.p 2 0x0B g 0x19 ∧ membersOf s g ≠ 0 ∧ gBit s g 5 = false ∧ gBit s g 0 = true) ∧
    (∃ (g : Fin 4) (s : State), (s.p 2 0x0B g 0x19 ≤ 100 ∨ membersOf s g = 0) ∧ gBit s g 5 = true) ∧
    (∃ (l : Fin 8) (g : Fin 4) (y : State) (s : State), lGroup s l = some g ∧ lLive s l = true ∧ lBit s l 11 = false ∧
       (8 ≤ s.l[l].mismatchRun ∨ 16 ≤ s.l[l].lostRun) ∧ y = ((((s.lFlag l 11 true).modL l (fun k =>
       { k with mismatchRun := 0, lostRun := 0, readmit := false })).relaunch l).gSee (bankOfL l) g).groupRaise (bankOfL
       l) (ident .lsw 10) g (1#8 <<< l.val) ∧ (activeIn y (bankOfL l) g ≠ [] ∨ crossB y (bankOfL l) g = true)) ∧
    (∃ (l : Fin 8) (g : Fin 4) (y : State) (s : State), lGroup s l = some g ∧ lLive s l = true ∧ lBit s l 11 = false ∧
       (8 ≤ s.l[l].mismatchRun ∨ 16 ≤ s.l[l].lostRun) ∧ y = ((((s.lFlag l 11 true).modL l (fun k =>
       { k with mismatchRun := 0, lostRun := 0, readmit := false })).relaunch l).gSee (bankOfL l) g).groupRaise (bankOfL
       l) (ident .lsw 10) g (1#8 <<< l.val) ∧ activeIn y (bankOfL l) g = [] ∧ crossB y (bankOfL l) g = false) ∧
    (∃ (b g : Fin 4) (t : CellTime) (s : State), tripInstant s b g = some t ∧ (s.banks[b]).arrived = true ∧
       reached t (bankNow (s.banks[b])) = true ∧ ((s.banks[b]).groups[g]).tripped = false ∧ firstBank s b g = true) ∧
    (∃ (b g : Fin 4) (t : CellTime) (s : State), tripInstant s b g = some t ∧ (s.banks[b]).arrived = true ∧
       reached t (bankNow (s.banks[b])) = true ∧ ((s.banks[b]).groups[g]).tripped = false ∧ firstBank s b g = false) ∧
    (∃ (g : Fin 4) (s : State), s.pBytes 9 0x0B g 0x1A 0 ≠ List.replicate 9 0 ∧ gBit s g 7 = false ∧
       (groupBanks s g).any (overloadTold s g) = false) ∧
    (∃ (g : Fin 4) (s : State), s.coppice[g].hot = true ∧ s.coppice[g].latch = 0 ∧ membersOf s g ≠ 0 ∧
       groupCool s g = true) ∧
    (∃ (g : Fin 4) (again : Bool) (s : State), s.coppice[g].shutdown = some again ∧ s.coppice[g].hot = false) ∧
    (∃ (g : Fin 4) (again : Bool) (s : State), s.coppice[g].shutdown = some again ∧ s.coppice[g].hot = true) :=
  ⟨⟨0, ((live.modSide 0 (fun k => { k with vfHigh := 15 })).setP 1 0x0B 0 0x01 5).setP 4 0x05 0 0x03 10000,
    by decide +kernel⟩,
    ⟨0, ((live.modSide 0 (fun k => { k with vfLow := 15 })).setP 1 0x0B 0 0x01 5).setP 2 0x0B 0 0x02 16,
    by decide +kernel⟩,
    ⟨0, live.setP 1 0x0B 0 0x01 5, by decide +kernel⟩,
    ⟨0, 0, _, setB (live.modGrp 0 0 (fun k => { k with on := true })) 0 1 0x0B 0 0x12 1, ⟨by decide +kernel,
    by decide +kernel, by decide +kernel, rfl⟩⟩,
    ⟨0, ((live.setP 2 0x0B 0 0x19 101).setP 2 0x0B 0 0x02 1).setP 1 0x0B 0 0x01 3, by decide +kernel⟩,
    ⟨0, live.setP 2 0x0B 0 0x02 32, by decide +kernel⟩,
    ⟨0, 0, _, (setB live 0 1 0x0B 0 0x01 3).modL 0 (fun k => { k with mismatchRun := 8 }), ⟨by decide +kernel,
    by decide +kernel, by decide +kernel, by decide +kernel, rfl, by decide +kernel⟩⟩,
    ⟨0, 0, _, (setB live 0 1 0x0B 0 0x01 1).modL 0 (fun k => { k with mismatchRun := 8 }), ⟨by decide +kernel,
    by decide +kernel, by decide +kernel, by decide +kernel, rfl, by decide +kernel, by decide +kernel⟩⟩,
    ⟨0, 0, 0, setB (live.modGrp 0 0 (fun k => { k with tripAt := some 0 })) 0 1 0x0B 0 0x01 1, by decide +kernel⟩,
    ⟨1, 0, 0, setB (live.modGrp 1 0 (fun k => { k with tripAt := some 0 })) 1 1 0x0B 0 0x01 5, by decide +kernel⟩,
    ⟨0, live.setP 1 0x0B 0 0x1A 2, by decide +kernel⟩,
    ⟨0,
    ((live.modSide 0 (fun k => { k with hot := true, latch := 0 })).setP 1 0x0B 0 0x01 1).modLink 0 (fun k =>
      { k with groups := [⟨0, 4, 0, none, true, true⟩] }),
    by decide +kernel⟩,
    ⟨0, true, live.modSide 0 (fun k => { k with shutdown := some true }), by decide +kernel⟩,
    ⟨0, true, live.modSide 0 (fun k => { k with shutdown := some true, hot := true }), by decide +kernel⟩⟩

/-- The hypotheses of FastInputsCountAndLatch are met. -/
theorem witness_FastInputsCountAndLatch :
    (∃ (f : Fin 8) (level : Bool) (t : CellTime) (s : State), (s.banks[bankOfF f]).powered = false) ∧
    (∃ (f : Fin 8) (level lvl : Bool) (t : CellTime) (s : State),
       lvl = (level != (s.b (bankOfF f) 1 0x0C f 0x03 == 1)) ∧ lvl = s.f[f].db.level) ∧
    (∃ (f : Fin 8) (level lvl : Bool) (t : CellTime) (s : State), (s.banks[bankOfF f]).powered = true ∧
       lvl = (level != (s.b (bankOfF f) 1 0x0C f 0x03 == 1)) ∧ lvl ≠ s.f[f].db.level ∧
       (s.banks[bankOfF f]).arrived = false) ∧
    (∃ (f : Fin 8) (level lvl : Bool) (t : CellTime) (s : State), (s.banks[bankOfF f]).powered = true ∧
       lvl = (level != (s.b (bankOfF f) 1 0x0C f 0x03 == 1)) ∧ lvl ≠ s.f[f].db.level ∧
       (s.banks[bankOfF f]).arrived = true ∧ s.b (bankOfF f) 2 0x0C f 0x04 = 0 ∧ lvl ≠ s.f[f].db.state) ∧
    (∃ (f : Fin 8) (level lvl : Bool) (t : CellTime) (s : State), (s.banks[bankOfF f]).powered = true ∧
       lvl = (level != (s.b (bankOfF f) 1 0x0C f 0x03 == 1)) ∧ lvl ≠ s.f[f].db.level ∧
       (s.banks[bankOfF f]).arrived = true ∧ (s.b (bankOfF f) 2 0x0C f 0x04 ≠ 0 ∨ lvl = s.f[f].db.state)) ∧
    (∃ (q : Req) (f : Fin 8) (seq : BitVec 16) (s : State), mayConfigure s q.ep = true) ∧
    (∃ (q : Req) (f : Fin 8) (seq : BitVec 16) (s : State), mayConfigure s q.ep = false) ∧
    (∃ (q : Req) (f : Fin 8) (t : CellTime) (s : State), mayConfigure s q.ep = true) ∧
    (∃ (q : Req) (f : Fin 8) (t : CellTime) (s : State), mayConfigure s q.ep = false) ∧
    (∃ (f : Fin 8) (gate first last : Nat) (s : State), gate = nsUnits (s.b (bankOfF f) 4 0x0C f 0x13 * 1000) ∧
       0 < gate ∧ first = ((s.f[f].gateAt).toNat / gate + 1) * gate ∧
       last = (bankNow (s.banks[bankOfF f])).toNat / gate * gate ∧ last < first) ∧
    (∃ (f : Fin 8) (gate first last : Nat) (s : State), gate = nsUnits (s.b (bankOfF f) 4 0x0C f 0x13 * 1000) ∧
       0 < gate ∧ first = ((s.f[f].gateAt).toNat / gate + 1) * gate ∧
       last = (bankNow (s.banks[bankOfF f])).toNat / gate * gate ∧ first ≤ last ∧ fBit s f 2 = true) ∧
    (∃ (f : Fin 8) (gate first last : Nat) (s : State), gate = nsUnits (s.b (bankOfF f) 4 0x0C f 0x13 * 1000) ∧
       0 < gate ∧ first = ((s.f[f].gateAt).toNat / gate + 1) * gate ∧
       last = (bankNow (s.banks[bankOfF f])).toNat / gate * gate ∧ first = last ∧ fBit s f 2 = false ∧
       s.f[f].gateRises ≠ 0 ∧ s.f[f].gateStep = false) ∧
    (∃ (f : Fin 8) (gate first last : Nat) (s : State), gate = nsUnits (s.b (bankOfF f) 4 0x0C f 0x13 * 1000) ∧
       0 < gate ∧ first = ((s.f[f].gateAt).toNat / gate + 1) * gate ∧
       last = (bankNow (s.banks[bankOfF f])).toNat / gate * gate ∧ first = last ∧ fBit s f 2 = false ∧
       s.f[f].gateRises = 0) ∧
    (∃ (f : Fin 8) (gate first last : Nat) (s : State), gate = nsUnits (s.b (bankOfF f) 4 0x0C f 0x13 * 1000) ∧
       0 < gate ∧ first = ((s.f[f].gateAt).toNat / gate + 1) * gate ∧
       last = (bankNow (s.banks[bankOfF f])).toNat / gate * gate ∧ first = last ∧ fBit s f 2 = false ∧
       s.f[f].gateRises ≠ 0 ∧ s.f[f].gateStep = true) ∧
    (∃ (f : Fin 8) (gate first last : Nat) (s : State), gate = nsUnits (s.b (bankOfF f) 4 0x0C f 0x13 * 1000) ∧
       0 < gate ∧ first = ((s.f[f].gateAt).toNat / gate + 1) * gate ∧
       last = (bankNow (s.banks[bankOfF f])).toNat / gate * gate ∧ first < last ∧ fBit s f 2 = false ∧
       s.f[f].gateRises ≠ 0 ∧ s.f[f].gateStep = false) ∧
    (∃ (f : Fin 8) (gate first last : Nat) (s : State), gate = nsUnits (s.b (bankOfF f) 4 0x0C f 0x13 * 1000) ∧
       0 < gate ∧ first = ((s.f[f].gateAt).toNat / gate + 1) * gate ∧
       last = (bankNow (s.banks[bankOfF f])).toNat / gate * gate ∧ first < last ∧ fBit s f 2 = false ∧
       s.f[f].gateRises = 0) ∧
    (∃ (f : Fin 8) (gate first last : Nat) (s : State), gate = nsUnits (s.b (bankOfF f) 4 0x0C f 0x13 * 1000) ∧
       0 < gate ∧ first = ((s.f[f].gateAt).toNat / gate + 1) * gate ∧
       last = (bankNow (s.banks[bankOfF f])).toNat / gate * gate ∧ first < last ∧ fBit s f 2 = false ∧
       s.f[f].gateRises ≠ 0 ∧ s.f[f].gateStep = true) ∧
    (∃ (f : Fin 8) (s : State), fBit s f 2 = false ∧ nsUnits (s.b (bankOfF f) 2 0x0C f 0x14 * 1000000) ≤ (bankNow
       (s.banks[bankOfF f]) - s.f[f].lastRise).toNat) ∧
    (∃ (f : Fin 8) (s : State), (fBit s f 2 = true ∨ (bankNow (s.banks[bankOfF f]) - s.f[f].lastRise).toNat < nsUnits
       (s.b (bankOfF f) 2 0x0C f 0x14 * 1000000))) ∧
    (∃ (f : Fin 8) (t : CellTime) (period : Nat) (s : State), s.b (bankOfF f) 1 0x0C f 0x15 = 0x40 ∧
       (s.banks[bankOfF f]).arrived = true ∧ period = nsUnits (s.b (bankOfF f) 4 0x0C f 0x17 * 1000) ∧ 0 < period ∧
       t = BitVec.ofNat 72 (((s.f[f].lastGrid).toNat / period + 1) * period) ∧
       ((s.f[f].lastGrid).toNat / period + 1) * period ≤ (bankNow (s.banks[bankOfF f])).toNat) ∧
    (∃ (f : Fin 8) (t : CellTime) (s : State), latchDueAt s f ≠ some t) ∧
    (∃ (f : Fin 8) (t : CellTime) (s : State), s.f[f].armed = some (t, 0) ∧
       reached t (bankNow (s.banks[bankOfF f])) = true) ∧
    (∃ (f : Fin 8) (t : CellTime) (h : BitVec 16) (s : State), s.f[f].armed = some (t, h) ∧ h ≠ 0 ∧
       reached t (bankNow (s.banks[bankOfF f])) = true) ∧
    (∃ (f : Fin 8) (s : State), (∀ t h, s.f[f].armed = some (t, h) → reached t (bankNow (s.banks[bankOfF f])) = false)) :=
  ⟨⟨0, true, 0, State.reset, by decide +kernel⟩,
    ⟨0, false, false, 0,
    (setB (setB live 0 2 0x0C 0 0x04 0) 0 1 0x0C 0 0x03 0).modF 0 (fun k =>
      { k with db := { k.db with level := false } }),
    by decide +kernel⟩,
    ⟨0, false, false, 0,
    ((setB (setB live 0 2 0x0C 0 0x04 0) 0 1 0x0C 0 0x03 0).modF 0 (fun k =>
      { k with db := { k.db with level := true } })).modBank 0 (fun k => { k with arrived := false }),
    by decide +kernel⟩,
    ⟨0, false, false, 0,
    (setB (setB live 0 2 0x0C 0 0x04 0) 0 1 0x0C 0 0x03 0).modF 0 (fun k =>
      { k with db := { k.db with level := true, state := true } }),
    by decide +kernel⟩,
    ⟨0, false, false, 0,
    (setB (setB live 0 2 0x0C 0 0x04 3) 0 1 0x0C 0 0x03 0).modF 0 (fun k =>
      { k with db := { k.db with level := true, state := true } }),
    by decide +kernel⟩,
    ⟨⟨1, 0, 0⟩, 0, 0, live, by decide +kernel⟩,
    ⟨⟨0, 0, 0⟩, 0, 0, State.reset, by decide +kernel⟩,
    ⟨⟨1, 0, 0⟩, 0, 0, live, by decide +kernel⟩,
    ⟨⟨0, 0, 0⟩, 0, 0, State.reset, by decide +kernel⟩,
    ⟨0, 2560000000, 2560000000, 0,
    clockB ((setB live 0 4 0x0C 0 0x13 10000).modF 0 (fun k =>
      { k with gateAt := 0, gateStep := false, status := 0, freq := 0 })) 0 100,
    by decide +kernel⟩,
    ⟨0, 2560000000, 2560000000, 2560000000,
    clockB ((setB live 0 4 0x0C 0 0x13 10000).modF 0 (fun k => { k with gateAt := 0, status := 4 })) 0 2560000000,
    by decide +kernel⟩,
    ⟨0, 2560000000, 2560000000, 2560000000,
    clockB ((setB live 0 4 0x0C 0 0x13 10000).modF 0 (fun k => { k with
        gateAt := 0, gateStep := false, status := 0, gateRises := 1 })) 0 2560000000,
    by decide +kernel⟩,
    ⟨0, 2560000000, 2560000000, 2560000000,
    clockB ((setB live 0 4 0x0C 0 0x13 10000).modF 0 (fun k => { k with
        gateAt := 0, gateStep := false, status := 0, gateRises := 0 })) 0 2560000000,
    by decide +kernel⟩,
    ⟨0, 2560000000, 2560000000, 2560000000,
    clockB ((setB live 0 4 0x0C 0 0x13 10000).modF 0 (fun k => { k with
        gateAt := 0, status := 0, gateRises := 1, gateStep := true })) 0 2560000000,
    by decide +kernel⟩,
    ⟨0, 2560000000, 2560000000, 5120000000,
    clockB ((setB live 0 4 0x0C 0 0x13 10000).modF 0 (fun k => { k with
        gateAt := 0, gateStep := false, status := 0, gateRises := 1 })) 0 5120000000,
    by decide +kernel⟩,
    ⟨0, 2560000000, 2560000000, 5120000000,
    clockB ((setB live 0 4 0x0C 0 0x13 10000).modF 0 (fun k => { k with
        gateAt := 0, gateStep := false, status := 0, gateRises := 0 })) 0 5120000000,
    by decide +kernel⟩,
    ⟨0, 2560000000, 2560000000, 5120000000,
    clockB ((setB live 0 4 0x0C 0 0x13 10000).modF 0 (fun k => { k with
        gateAt := 0, status := 0, gateRises := 1, gateStep := true })) 0 5120000000,
    by decide +kernel⟩,
    ⟨0, clockB ((live).modF 0 (fun k => { k with status := 0 })) 0 (256 * 10 ^ 14), by decide +kernel⟩,
    ⟨0, (live).modF 0 (fun k => { k with status := 4 }), by decide +kernel⟩,
    ⟨0, 256000, 256000, clockB (setB (setB live 0 1 0x0C 0 0x15 0x40) 0 4 0x0C 0 0x17 1) 0 256000, by decide +kernel⟩,
    ⟨0, 0, live, by decide +kernel⟩,
    ⟨0, 0, (live).modF 0 (fun k => { k with armed := some (0, 0) }), by decide +kernel⟩,
    ⟨0, 0, 5, (live).modF 0 (fun k => { k with armed := some (0, 5) }), by decide +kernel⟩,
    ⟨0, live, fun t h e => absurd (show (none : Option (CellTime × BitVec 16)) = some (t, h) from e) (by simp)⟩⟩

/-- The hypotheses of ResetsAreTakenInOrder are met. -/
theorem witness_ResetsAreTakenInOrder :
    (∃ (s : State), s.sup.resetPin = none) ∧
    (∃ (s : State), s.sup.resetPin ≠ none) ∧
    (∃ (s : State), s.sup.resetPin = none) ∧
    (∃ (t e : BitVec 96) (s : State), s.sup.resetPin = some t ∧
       e = s.tb.mono + BitVec.ofNat 96 (10000 * 2 ^ 32) ∧ s.sup.resetEnd = none ∧ s.sup.reset = some 3) ∧
    (∃ (t e : BitVec 96) (s : State), s.sup.resetPin = some t ∧
       e = s.tb.mono + BitVec.ofNat 96 (10000 * 2 ^ 32) ∧ s.sup.resetEnd = none ∧ s.sup.reset ≠ some 3) ∧
    (∃ (t e x : BitVec 96) (s : State), s.sup.resetPin = some t ∧
       e = s.tb.mono + BitVec.ofNat 96 (10000 * 2 ^ 32) ∧ s.sup.resetEnd = some x) ∧
    (∃ (priv : Bool) (key : BitVec 16) (s : State), (priv = false ∨ key ≠ 0x5EC0)) ∧
    (∃ (c : Nat) (s : State), s.sup.powerFail = false ∧ dueResets s ≠ [] ∧ resetCause s = some c) ∧
    (∃ (s : State), (s.sup.powerFail = true ∨ dueResets s = [])) ∧
    (∃ (rails : BitVec 4) (s : State), rails &&& s.sup.supplyGood = 0) ∧
    (∃ (rails : BitVec 4) (s : State), rails &&& s.sup.supplyGood ≠ 0 ∧ s.sup.powerFail = true) ∧
    (∃ (rails : BitVec 4) (c : Nat) (s : State), rails &&& s.sup.supplyGood ≠ 0 ∧ s.sup.powerFail = false ∧
       s.sup.reset = some c) ∧
    (∃ (rails : BitVec 4) (s : State), rails &&& s.sup.supplyGood ≠ 0 ∧ s.sup.powerFail = false ∧
       s.sup.reset = none ∧ s.sup.holdReady = true) ∧
    (∃ (rails : BitVec 4) (s : State), rails &&& s.sup.supplyGood ≠ 0 ∧ s.sup.powerFail = false ∧
       s.sup.reset = none ∧ s.sup.holdReady = false) ∧
    (∃ (s : State), s.sup.powerFail = true ∧ s.jrn.mounted = true) ∧
    (∃ (s : State), s.sup.powerFail = true ∧ s.jrn.mounted = false ∧ journalState s = 1) ∧
    (∃ (s : State), s.sup.powerFail = true ∧ s.jrn.mounted = false ∧ journalState s ≠ 1) ∧
    (∃ (s : State), s.sup.powerFail = false) ∧
    (∃ (s : State), s.sup.powerFail = true) ∧
    (∃ (s : State), s.sup.powerFail = false) ∧
    (∃ (rail : Fin 4) (s : State), s.sup.supplyGood.getLsbD rail = true) ∧
    (∃ (rail : Fin 4) (s : State), s.sup.supplyGood.getLsbD rail = false ∧
       (s.sup.supplyGood ||| 1#4 <<< rail.val ≠ 0xF ∨ s.sup.reset = none)) ∧
    (∃ (rail : Fin 4) (c : Nat) (s : State), s.sup.supplyGood.getLsbD rail = false ∧
       s.sup.supplyGood ||| 1#4 <<< rail.val = 0xF ∧ s.sup.reset = some c) ∧
    (∃ (s : State), s.sup.holdActive = true) ∧
    (∃ (s : State), s.sup.holdActive = false) :=
  ⟨⟨State.reset, by decide +kernel⟩,
    ⟨(State.reset).modSup (fun x => { x with resetPin := some 0 }), by decide +kernel⟩,
    ⟨State.reset, by decide +kernel⟩,
    ⟨0, BitVec.ofNat 96 (10000 * 2 ^ 32),
    (State.reset).modSup (fun x => { x with resetPin := some 0, reset := some 3, resetEnd := none }), by decide +kernel⟩,
    ⟨0, BitVec.ofNat 96 (10000 * 2 ^ 32),
    (State.reset).modSup (fun x => { x with resetPin := some 0, reset := some 1, resetEnd := none }), by decide +kernel⟩,
    ⟨0, BitVec.ofNat 96 (10000 * 2 ^ 32), 0,
    (State.reset).modSup (fun x => { x with resetPin := some 0, resetEnd := some 0 }), by decide +kernel⟩,
    ⟨false, 0, State.reset, by decide +kernel⟩,
    ⟨(resetCause (State.reset.resetNow 3)).getD 0, State.reset.resetNow 3, by decide +kernel⟩,
    ⟨(State.reset).modSup (fun x => { x with powerFail := true }), by decide +kernel⟩,
    ⟨0, State.reset, by decide +kernel⟩,
    ⟨1, (State.reset).modSup (fun x => { x with supplyGood := 15, powerFail := true }), by decide +kernel⟩,
    ⟨1, 3, (State.reset).modSup (fun x => { x with supplyGood := 15, reset := some 3, powerFail := false }),
    by decide +kernel⟩,
    ⟨1, (State.reset).modSup (fun x => { x with supplyGood := 15, reset := none, powerFail := false, holdReady := true }),
    by decide +kernel⟩,
    ⟨1,
    (State.reset).modSup (fun x => { x with supplyGood := 15, reset := none, powerFail := false, holdReady := false }),
    by decide +kernel⟩,
    ⟨{ (State.reset).modSup (fun x => { x with powerFail := true }) with
        jrn := { State.reset.jrn with mounted := true } },
    by decide +kernel⟩,
    ⟨((State.reset).modSup (fun x => { x with powerFail := true })).setP 1 0x1A 0 0x01 1, by decide +kernel⟩,
    ⟨(State.reset).modSup (fun x => { x with powerFail := true }), by decide +kernel⟩,
    ⟨(State.reset).modSup (fun x => { x with powerFail := false }), by decide +kernel⟩,
    ⟨(State.reset).modSup (fun x => { x with powerFail := true }), by decide +kernel⟩,
    ⟨(State.reset).modSup (fun x => { x with powerFail := false }), by decide +kernel⟩,
    ⟨0, (State.reset).modSup (fun x => { x with supplyGood := 15 }), by decide +kernel⟩,
    ⟨0, (State.reset).modSup (fun x => { x with supplyGood := 0, reset := none }), by decide +kernel⟩,
    ⟨3, 1, (State.reset).modSup (fun x => { x with supplyGood := 7, reset := some 1 }), by decide +kernel⟩,
    ⟨(State.reset).modSup (fun x => { x with holdActive := true }), by decide +kernel⟩,
    ⟨(State.reset).modSup (fun x => { x with holdActive := false }), by decide +kernel⟩⟩

/-- The hypotheses of TheStartRunsInOrder are met. -/
theorem witness_TheStartRunsInOrder :
    (∃ (r : BootRead) (s : State), resetOver s = true ∧ s.sup.phase = 0) ∧
    (∃ (t : BitVec 96) (s : State), s.sup.bootFail = some t ∧ elapsed s t 10000000 = true) ∧
    (∃ (s : State), s.sup.reset = none ∧ s.sup.phase = 1) ∧
    (∃ (c : Store) (s1 : State) (s : State), s.sup.reset = none ∧ s.sup.phase = 2 ∧ startContent s = (c, none) ∧
       s1 = (s.startCal.startConfig c).startRules) ∧
    (∃ (c : Store) (d : Nat) (s1 : State) (s : State), s.sup.reset = none ∧ s.sup.phase = 2 ∧ startContent s = (c,
       some d) ∧ s1 = (s.startCal.startConfig c).startRules) ∧
    (∃ (s : State), s.sup.reset = none ∧ s.sup.phase = 3) ∧
    (∃ (s : State), s.sup.reset = none ∧ s.sup.phase = 4) ∧
    (∃ (r : BootRead) (s : State), (resetOver s = false ∨ s.sup.phase ≠ 0)) ∧
    (∃ (s : State), s.sup.bootFail = none) ∧
    (∃ (t : BitVec 96) (s : State), s.sup.bootFail = some t ∧ elapsed s t 10000000 = false) ∧
    (∃ (s : State), (s.sup.reset ≠ none ∨ s.sup.phase ≠ 1)) ∧
    (∃ (s : State), (s.sup.reset ≠ none ∨ s.sup.phase ≠ 2)) ∧
    (∃ (s : State), (s.sup.reset ≠ none ∨ s.sup.phase ≠ 3)) ∧
    (∃ (s : State), (s.sup.reset ≠ none ∨ s.sup.phase ≠ 4)) ∧
    (∃ (b : Fin 4) (s1 : State) (s : State), (s.banks[b]).powered = false ∧
       s1 = ((((s.dropBankCfg b).resetChannels b).modBank b (fun _ =>
           { bankReset with powered := true, reporting := true, startFlag := true })).modUp b (fun d => { linkReset with
           rxSeq := d.rxSeq, lastExp := d.lastExp })).turnUp b) ∧
    (∃ (b : Fin 4) (s : State), (s.banks[b]).powered = true) ∧
    (∃ (b : Fin 4) (s : State), (s.banks[b]).powered = true) ∧
    (∃ (b : Fin 4) (s : State), (s.banks[b]).powered = false) :=
  ⟨⟨⟨none, false, [], none, none, false, false, ⟨false, false⟩⟩,
    (State.reset).modSup (fun x => { x with
        reset := some 1, phase := 0, supplyGood := 15, resetPin := none, powerFail := false, resetEnd := some 0 }),
    by decide +kernel⟩,
    ⟨0,
    ((State.reset).modSup (fun x => { x with bootFail := some 0 })).modTb (fun x =>
      { x with mono := BitVec.ofNat 96 (10000000 * 2 ^ 32) }),
    by decide +kernel⟩,
    ⟨(State.reset).modSup (fun x => { x with reset := none, phase := 1 }), by decide +kernel⟩,
    ⟨_, _, (State.reset).modSup (fun x => { x with reset := none, phase := 2 }), ⟨by decide +kernel, by decide +kernel,
    Prod.ext rfl (by decide +kernel), rfl⟩⟩,
    ⟨_, 1, _, (State.reset.writeHeader 0 0 0).modSup (fun x => { x with reset := none, phase := 2 }), ⟨by decide +kernel,
    by decide +kernel, sc0 _ false (by decide +kernel) (by decide +kernel) (by decide +kernel), rfl⟩⟩,
    ⟨(State.reset).modSup (fun x => { x with reset := none, phase := 3 }), by decide +kernel⟩,
    ⟨(State.reset).modSup (fun x => { x with reset := none, phase := 4 }), by decide +kernel⟩,
    ⟨⟨none, false, [], none, none, false, false, ⟨false, false⟩⟩, (State.reset).modSup (fun x => { x with phase := 1 }),
    by decide +kernel⟩,
    ⟨State.reset, by decide +kernel⟩,
    ⟨0, (State.reset).modSup (fun x => { x with bootFail := some 0 }), by decide +kernel⟩,
    ⟨(State.reset).modSup (fun x => { x with phase := 0 }), by decide +kernel⟩,
    ⟨(State.reset).modSup (fun x => { x with phase := 0 }), by decide +kernel⟩,
    ⟨(State.reset).modSup (fun x => { x with phase := 0 }), by decide +kernel⟩,
    ⟨(State.reset).modSup (fun x => { x with phase := 0 }), by decide +kernel⟩,
    ⟨0, _, State.reset, ⟨by decide +kernel, rfl⟩⟩,
    ⟨0, live, by decide +kernel⟩,
    ⟨0, live, by decide +kernel⟩,
    ⟨0, State.reset, by decide +kernel⟩⟩

/-- The hypotheses of SuppliesAndTemperaturesAreWatched are met. -/
theorem witness_SuppliesAndTemperaturesAreWatched :
    (∃ (b : Fin 4) (s : State), (s.banks[b]).powered = true ∧ (s.banks[b]).vfLow = false) ∧
    (∃ (b : Fin 4) (s : State), (s.banks[b]).powered = true ∧ (s.banks[b]).vfLow = true) ∧
    (∃ (b : Fin 4) (t : Int) (s : State), (s.banks[b]).powered = true ∧ (s.banks[b]).hotDie = false ∧ 15000 ≤ t) ∧
    (∃ (b : Fin 4) (t : Int) (s : State), (s.banks[b]).powered = true ∧ (s.banks[b]).hotDie = true ∧ t < 14000) ∧
    (∃ (t : Int) (s : State), s.sup.hot = false ∧ 15000 ≤ t) ∧
    (∃ (t : Int) (s : State), s.sup.hot = true ∧ t < 14500) ∧
    (∃ (b : Fin 4) (s : State), ((s.banks[b]).powered = false ∨ (s.banks[b]).vfLow = true)) ∧
    (∃ (b : Fin 4) (s : State), ((s.banks[b]).powered = false ∨ (s.banks[b]).vfLow = false)) ∧
    (∃ (b : Fin 4) (t : Int) (s : State), ((s.banks[b]).powered = false ∨ ((s.banks[b]).hotDie = false ∧
       t < 15000) ∨ ((s.banks[b]).hotDie = true ∧ 14000 ≤ t))) ∧
    (∃ (t : Int) (s : State), ((s.sup.hot = false ∧ t < 15000) ∨ (s.sup.hot = true ∧ 14500 ≤ t))) :=
  ⟨⟨0, live, by decide +kernel⟩,
    ⟨0, (live).modBank 0 (fun x => { x with vfLow := true }), by decide +kernel⟩,
    ⟨0, 15000, live, by decide +kernel⟩,
    ⟨0, 0, (live).modBank 0 (fun x => { x with hotDie := true }), by decide +kernel⟩,
    ⟨15000, State.reset, by decide +kernel⟩,
    ⟨0, (State.reset).modSup (fun x => { x with hot := true }), by decide +kernel⟩,
    ⟨0, State.reset, by decide +kernel⟩,
    ⟨0, State.reset, by decide +kernel⟩,
    ⟨0, 0, State.reset, by decide +kernel⟩,
    ⟨0, State.reset, by decide +kernel⟩⟩

/-- The hypotheses of TheWatchdogAndTheClockMonitorBite are met. -/
theorem witness_TheWatchdogAndTheClockMonitorBite :
    (∃ (s : State), s.wdt.enabled = true) ∧
    (∃ (s : State), s.wdt.enabled = false) ∧
    (∃ (v : BitVec 32) (s : State), s.wdt.enabled = false) ∧
    (∃ (v : BitVec 32) (s : State), s.wdt.enabled = true ∧ v.toNat % 65536 = 0x3C5A ∧ s.wdt.firstKey = none) ∧
    (∃ (v : BitVec 32) (t : BitVec 96) (s : State), s.wdt.enabled = true ∧ v.toNat % 65536 = 0x3C5A ∧
       s.wdt.firstKey = some t) ∧
    (∃ (v : BitVec 32) (s : State), s.wdt.enabled = true ∧ v.toNat % 65536 = 0xC3A5 ∧ s.wdt.firstKey = none) ∧
    (∃ (v : BitVec 32) (t : BitVec 96) (s : State), s.wdt.enabled = true ∧ v.toNat % 65536 = 0xC3A5 ∧
       s.wdt.firstKey = some t ∧ (s.tb.mono - t).toNat ≤ 128 * 2 ^ 32 ∧ windowOpen s = true) ∧
    (∃ (v : BitVec 32) (t : BitVec 96) (s : State), s.wdt.enabled = true ∧ v.toNat % 65536 = 0xC3A5 ∧
       s.wdt.firstKey = some t ∧ (128 * 2 ^ 32 < (s.tb.mono - t).toNat ∨ windowOpen s = false)) ∧
    (∃ (v : BitVec 32) (s : State), s.wdt.enabled = true ∧ v.toNat % 65536 ≠ 0x3C5A ∧ v.toNat % 65536 ≠ 0xC3A5) ∧
    (∃ (v : BitVec 32) (s : State), windowOpen s = true ∧ 1000 ≤ v.toNat ∧ v.toNat ≤ 1000000) ∧
    (∃ (v : BitVec 32) (s : State), windowOpen s = true ∧ (v.toNat < 1000 ∨ 1000000 < v.toNat)) ∧
    (∃ (v : BitVec 32) (s : State), windowOpen s = true) ∧
    (∃ (v : BitVec 32) (s : State), windowOpen s = false) ∧
    (∃ (v : BitVec 32) (s : State), windowOpen s = false) ∧
    (∃ (s : State), s.wdt.enabled = true ∧ s.wdt.period * 1000 ≤ wdtAge s) ∧
    (∃ (s : State), (s.wdt.enabled = false ∨ wdtAge s < s.wdt.period * 1000)) ∧
    (∃ (edges : Nat) (s : State), (edges < 90 ∨ 110 < edges) ∧ s.wdt.monBad = 0) ∧
    (∃ (edges : Nat) (s : State), 90 ≤ edges ∧ edges ≤ 110) ∧
    (∃ (edges : Nat) (s1 : State) (s : State), (s1 = (s.modWdt (fun x => { x with
         monBad := if edges < 90 ∨ 110 < edges then x.monBad + 1 else 0 })).setP 2 0x12 0 0x0C edges)) ∧
    (∃ (edges : Nat) (s1 : State) (s : State), (edges < 90 ∨ 110 < edges) ∧ 1 ≤ s.wdt.monBad ∧
       s1 = (s.modWdt (fun x => { x with monBad := x.monBad + 1 })).setP 2 0x12 0 0x0C edges) ∧
    (∃ (r : FaultRec) (s : State), s.firebreak.heartPending = some r) ∧
    (∃ (s : State), s.firebreak.heartPending = none) ∧
    (∃ (q : Req) (v : BitVec 16) (s : State), mayConfigure s q.ep = true) ∧
    (∃ (q : Req) (v : BitVec 16) (s : State), mayConfigure s q.ep = false) :=
  ⟨⟨(State.reset).modWdt (fun x => { x with enabled := true }), by decide +kernel⟩,
    ⟨(State.reset).modWdt (fun x => { x with enabled := false }), by decide +kernel⟩,
    ⟨0, (State.reset).modWdt (fun x => { x with enabled := false }), by decide +kernel⟩,
    ⟨0x3C5A, (State.reset).modWdt (fun x => { x with enabled := true }), by decide +kernel⟩,
    ⟨0x3C5A, 0, (State.reset).modWdt (fun x => { x with enabled := true, firstKey := some 0 }), by decide +kernel⟩,
    ⟨0xC3A5, (State.reset).modWdt (fun x => { x with enabled := true }), by decide +kernel⟩,
    ⟨0xC3A5, 0,
    (State.reset.modWdt (fun x => { x with enabled := true, window := 0, period := 1000, firstKey := some 0 })),
    by decide +kernel⟩,
    ⟨0xC3A5, 0,
    (State.reset).modWdt (fun x => { x with enabled := true, firstKey := some 0, window := 8, period := 1000 }),
    by decide +kernel⟩,
    ⟨0, (State.reset).modWdt (fun x => { x with enabled := true }), by decide +kernel⟩,
    ⟨1000, (State.reset).modWdt (fun x => { x with enabled := true, window := 0, period := 1000 }), by decide +kernel⟩,
    ⟨0, (State.reset).modWdt (fun x => { x with enabled := true, window := 0, period := 1000 }), by decide +kernel⟩,
    ⟨0, (State.reset).modWdt (fun x => { x with enabled := true, window := 0, period := 1000 }), by decide +kernel⟩,
    ⟨0, (State.reset).modWdt (fun x => { x with enabled := true, window := 8, period := 1000 }), by decide +kernel⟩,
    ⟨0, (State.reset).modWdt (fun x => { x with enabled := true, window := 8, period := 1000 }), by decide +kernel⟩,
    ⟨(State.reset).modWdt (fun x => { x with enabled := true, period := 0 }), by decide +kernel⟩,
    ⟨(State.reset).modWdt (fun x => { x with enabled := false }), by decide +kernel⟩,
    ⟨0, (State.reset).modWdt (fun x => { x with monBad := 0 }), by decide +kernel⟩,
    ⟨90, State.reset, by decide +kernel⟩,
    ⟨0, _, State.reset, rfl⟩,
    ⟨0, _, (State.reset).modWdt (fun x => { x with monBad := 1 }), ⟨by decide +kernel, by decide +kernel, rfl⟩⟩,
    ⟨_,
    { State.reset with
        firebreak := { State.reset.firebreak with heartPending := some ⟨0, ⟨0, 0⟩, 0, false, false, false, 0, 0, 0⟩ } },
    rfl⟩,
    ⟨State.reset, by decide +kernel⟩,
    ⟨⟨1, 0, 0⟩, 0, live, by decide +kernel⟩,
    ⟨⟨0, 0, 0⟩, 0, State.reset, by decide +kernel⟩⟩

/-- The hypotheses of ChannelCommandsComplete are met. -/
theorem witness_ChannelCommandsComplete :
    (∃ (q : Req) (f : Fin 8) (seq : BitVec 16) (i : Nat) (s : State), mayConfigure s q.ep = true ∧
       s.captures[f].findIdx? (fun c => c.seq == seq) = some i) ∧
    (∃ (q : Req) (f : Fin 8) (seq : BitVec 16) (s : State), mayConfigure s q.ep = true ∧
       s.captures[f].findIdx? (fun c => c.seq == seq) = none) ∧
    (∃ (q : Req) (f : Fin 8) (t : CellTime) (s : State), mayConfigure s q.ep = true ∧ bankPresent s (bankOfF f) = true) ∧
    (∃ (q : Req) (u : Fin 16) (t : CellTime) (s : State), mayConfigure s q.ep = true ∧
       natBit (s.p 1 0x08 u 0x07) 1 = true ∧ (s.requestSync [u] t 2).1 = true) ∧
    (∃ (q : Req) (u : Fin 16) (t : CellTime) (s : State), mayConfigure s q.ep = true ∧
       natBit (s.p 1 0x08 u 0x07) 1 = true ∧ (s.requestSync [u] t 2).1 = false) ∧
    (∃ (q : Req) (u : Fin 16) (s : State), mayConfigure s q.ep = true ∧ bankPresent s (bankOfU u) = true ∧
       rotEligible s u = true) ∧
    (∃ (q : Req) (u : Fin 16) (second : Bool) (measured : BitVec 32) (s : State), mayConfigure s q.ep = true ∧
       isAo (uModeL s u) = true ∧ bankPresent s (bankOfU u) = true ∧
       s.u[u].dacAt.toNat + nsUnits 10000000 ≤ (bankNow (s.banks[bankOfU u])).toNat) ∧
    (∃ (q : Req) (u : Fin 16) (s1 a1 s2 a2 : Int) (l : List Byte) (s : State), mayConfigure s q.ep = true ∧
       trimPointOf s u (uModeL s u) false = some (s1, a1) ∧ trimPointOf s u (uModeL s u) true = some (s2, a2) ∧
       isAo (uModeL s u) = true ∧ trimOk (spanOf (uModeL s u)) [s1, a1, s2, a2] = true ∧ l = [s1, a1, s2,
       a2].flatMap (fun v => leBytes 4 (ofSigned 32 v))) ∧
    (∃ (q : Req) (s : State), mayConfigure s q.ep = true) ∧
    (∃ (q : Req) (v : BitVec 16) (s : State), mayConfigure s q.ep = true ∧ v ≠ 0) ∧
    (∃ (q : Req) (seq : BitVec 16) (s : State), mayConfigure s q.ep = true ∧
       s.firebreak.log.any (fun r => r.seq == seq) = true) ∧
    (∃ (q : Req) (seq : BitVec 16) (s : State), mayConfigure s q.ep = true ∧
       s.firebreak.log.any (fun r => r.seq == seq) = false) ∧
    (∃ (q : Req) (seq : BitVec 16) (s : State), mayConfigure s q.ep = false) :=
  ⟨⟨⟨1, 0, 0⟩, 0, 1, 0,
    { live with captures := live.captures.set 0 [⟨0, false, false, false, false, false, false, 1, 0⟩] },
    by decide +kernel⟩,
    ⟨⟨1, 0, 0⟩, 0, 0, live, by decide +kernel⟩,
    ⟨⟨1, 0, 0⟩, 0, 0, live, by decide +kernel⟩,
    ⟨⟨1, 0, 0⟩, 0, 2 ^ 60, live.setP 1 0x08 0 0x07 3, by decide +kernel⟩,
    ⟨⟨1, 0, 0⟩, 0, 0, (live.setP 1 0x08 0 0x07 3).modTb (fun x => { x with counter := 2 ^ 94 }), by decide +kernel⟩,
    ⟨⟨1, 0, 0⟩, 0, setB (setB (setB live 0 1 0x06 0 0x01 5) 0 1 0x07 0 0x03 1) 0 1 0x1B 0 0x02 15, by decide +kernel⟩,
    ⟨⟨1, 0, 0⟩, 0, false, 0, clockB (live.setP 1 0x06 0 0x01 10) 0 (256 * 10 ^ 10), by decide +kernel⟩,
    ⟨⟨1, 0, 0⟩, 0, 0, 0, 10 ^ 12, 10 ^ 12, _,
    (live.setP 1 0x06 0 0x01 10).modU 0 (fun x => { x with
        points := [(10, false, (0 : Int), (0 : Int)), (10, true, (10 ^ 12 : Int), (10 ^ 12 : Int))] }),
    ⟨by decide +kernel, by decide +kernel, by decide +kernel, by decide +kernel, by decide +kernel, rfl⟩⟩,
    ⟨⟨1, 0, 0⟩, live, by decide +kernel⟩,
    ⟨⟨1, 0, 0⟩, 1, live, by decide +kernel⟩,
    ⟨⟨1, 0, 0⟩, 0, live.modFb (fun f => { f with log := [⟨0, ⟨0, 0⟩, 0, false, false, false, 0, 0, 0⟩] }),
    by decide +kernel⟩,
    ⟨⟨1, 0, 0⟩, 0, live, by decide +kernel⟩,
    ⟨⟨0, 0, 0⟩, 0, State.reset, by decide +kernel⟩⟩

/-- The hypotheses of TheScheduleRuns are met. -/
theorem witness_TheScheduleRuns :
    (∃ (q : Req) (es : List SchedReq) (s : State), (es = [] ∨ 32 < es.length)) ∧
    (∃ (q : Req) (e : SchedReq) (hs : List (BitVec 16)) (s1 : State) (s : State),
       schedCheckAll s q.ep [] 0 [e] = none ∧ s.queueAll q.ep 0 [e] = (hs, s1)) ∧
    (∃ (q : Req) (es : List SchedReq) (batch : BitVec 16) (hs : List (BitVec 16)) (s1 : State) (s : State),
       2 ≤ es.length ∧ es.length ≤ 32 ∧ schedCheckAll s q.ep [] 0 es = none ∧
       batch = nextFree (fun v => v == 0 || s.sched.any (fun r => r.batch == v)) 2000 s.nextBatch ∧
       ({ s with nextBatch := batch + 1 } : State).queueAll q.ep batch es = (hs, s1)) ∧
    (∃ (q : Req) (es : List SchedReq) (i : Nat) (c : BitVec 16) (s1 : State) (s : State), 1 ≤ es.length ∧
       es.length ≤ 32 ∧ schedCheckAll s q.ep [] 0 es = some (i, c) ∧
       s1 = s.setP 4 0x0D 0 0x0F (s.p 4 0x0D 0 0x0F + es.length)) ∧
    (∃ (q : Req) (selector : Nat) (release : Bool) (kind target : Nat) (what c : BitVec 16) (s : State),
       cancelCheck s q.ep selector what = some c) ∧
    (∃ (q : Req) (selector : Nat) (release : Bool) (kind target : Nat) (what : BitVec 16) (tgt : Nat × Nat) (owner
       outcome : Nat) (live atOnce : List SchedRec) (banks : List (Fin 4)) (s1 s2 : State) (s : State),
       cancelCheck s q.ep selector what = none ∧ tgt = schedTarget s ⟨kind, target, 0, 0, 0, 0, 0⟩ ∧
       (owner = (if selector = 2 ∧ isAuthority s q.ep = true then 0xFF else q.ep.val)) ∧
       live = s.sched.filter (selects selector tgt.1 tgt.2 what owner) ∧
       atOnce = live.filter (fun r => r.state == 1 && stillQueued s r) ∧
       banks = allBanks.filter (fun b => bankPresent s b && ((live.map (·.bank)).contains b ||
           (if release = true then (match selector with
             | 2 => if kind ≤ 2 then targetBanks s tgt.1 tgt.2 else []
             | 4 => allBanks
             | _ => []) else []).contains b)) ∧ s1 = atOnce.foldl (fun t r => t.recordOutcome r.bank r.handle 6 0 (now s)
               s.tb.uncertain true) s ∧ (s2 = banks.foldl (fun t b => t.sendDown b (.cancel selector release tgt.1 tgt.2
               (if selector ≤ 1 then what else 0xFFFF) owner)) (if release then s1.releasePending atOnce owner else s1))
               ∧ (outcome = (if selector = 0 then (if atOnce = [] then (live.head?.map (·.outcome)).getD 0 else 6) else
               0xFF)) ∧ banks = []) ∧
    (∃ (q : Req) (selector : Nat) (release : Bool) (kind target : Nat) (what : BitVec 16) (tgt : Nat × Nat) (owner
       outcome : Nat) (live atOnce : List SchedRec) (banks : List (Fin 4)) (s1 s2 : State) (s : State),
       cancelCheck s q.ep selector what = none ∧ tgt = schedTarget s ⟨kind, target, 0, 0, 0, 0, 0⟩ ∧
       (owner = (if selector = 2 ∧ isAuthority s q.ep = true then 0xFF else q.ep.val)) ∧
       live = s.sched.filter (selects selector tgt.1 tgt.2 what owner) ∧
       atOnce = live.filter (fun r => r.state == 1 && stillQueued s r) ∧
       banks = allBanks.filter (fun b => bankPresent s b && ((live.map (·.bank)).contains b ||
           (if release = true then (match selector with
             | 2 => if kind ≤ 2 then targetBanks s tgt.1 tgt.2 else []
             | 4 => allBanks
             | _ => []) else []).contains b)) ∧ s1 = atOnce.foldl (fun t r => t.recordOutcome r.bank r.handle 6 0 (now s)
               s.tb.uncertain true) s ∧ (s2 = banks.foldl (fun t b => t.sendDown b (.cancel selector release tgt.1 tgt.2
               (if selector ≤ 1 then what else 0xFFFF) owner)) (if release then s1.releasePending atOnce owner else s1))
               ∧ (outcome = (if selector = 0 then (if atOnce = [] then (live.head?.map (·.outcome)).getD 0 else 6) else
               0xFF)) ∧ banks ≠ []) ∧
    (∃ (b : Fin 4) (a : CellTime) (arr : Bool) (s : State), (s.banks[b]).shareMark = some (a, arr) ∧
       reached a (bankNow (s.banks[b])) = true) ∧
    (∃ (b : Fin 4) (s : State), (∀ a arr, (s.banks[b]).shareMark = some (a, arr) →
       reached a (bankNow (s.banks[b])) = false)) ∧
    (∃ (b : Fin 4) (r : SchedRec) (s : State), (s.banks[b]).shareMark = none ∧ (s.banks[b]).queue = [r] ∧
       r.state = 2 ∧ reached r.apply (bankNow (s.banks[b])) = true ∧ bankUnc s b = false) ∧
    (∃ (b : Fin 4) (s : State), bankUnc s b = true) ∧
    (∃ (b : Fin 4) (go : SchedRec → Bool) (s : State), bankUnc s b = false ∧
       go = (fun (r : SchedRec) => r.state == 3 && reached (bankNow (s.banks[b])) (ctAddNs r.apply (s.b b 4 0x0D 0 0x03 *
       1000)))) ∧
    (∃ (b : Fin 4) (go : SchedRec → Bool) (s : State), go = (fun (r : SchedRec) => r.state == 3 && reached (ctAddNs
       r.apply (s.b b 4 0x0D 0 0x03 * 1000)) (bankNow (s.banks[b])))) :=
  ⟨⟨⟨1, 0, 0⟩, [], State.reset, by decide +kernel⟩,
    ⟨⟨1, 0, 0⟩, ⟨3, 0, 3, 0, 0, 0, 0⟩, (((live)).queueAll 0 0 [⟨3, 0, 3, 0, 0, 0, 0⟩]).1, _, live, ⟨by decide +kernel,
    rfl⟩⟩,
    ⟨⟨1, 0, 0⟩, [⟨3, 0, 3, 0, 0, 0, 0⟩, ⟨3, 0, 3, 0, 0, 0, 0⟩], _, _, _, live, ⟨by decide +kernel, by decide +kernel,
    by decide +kernel, rfl, rfl⟩⟩,
    ⟨⟨1, 0, 0⟩, [⟨3, 0, 3, 0, 0, 0, 0⟩], 0, rcTargetAbsent, _, State.reset, ⟨by decide +kernel, by decide +kernel,
    by decide +kernel, rfl⟩⟩,
    ⟨⟨1, 0, 0⟩, 9, false, 0, 0, 0, (cancelCheck State.reset 0 9 0).getD 0, State.reset, by decide +kernel⟩,
    ⟨⟨1, 0, 0⟩, 3, false, 0, 0, 0, _, _, _, _, _, _, _, _, live, ⟨by decide +kernel, rfl, rfl, rfl, rfl, rfl, rfl, rfl,
    rfl, by decide +kernel⟩⟩,
    ⟨⟨1, 0, 0⟩, 4, true, 0, 0, 0, _, _, _, _, _, _, _, _, live, ⟨by decide +kernel, rfl, rfl, rfl, rfl, rfl, rfl, rfl,
    rfl, by decide +kernel⟩⟩,
    ⟨0, 0, false, live.modBank 0 (fun k => { k with shareMark := some (0, false) }), by decide +kernel⟩,
    ⟨0, live, fun a arr e => absurd (show (none : Option (CellTime × Bool)) = some (a, arr) from e) (by simp)⟩,
    ⟨0, ⟨1, 0, 0, 0, 0, 0, 0, 0, 2, 0, 1, 0, 0, 0, 0, 0, false⟩,
    live.modBank 0 (fun k => { k with queue := [⟨1, 0, 0, 0, 0, 0, 0, 0, 2, 0, 1, 0, 0, 0, 0, 0, false⟩] }),
    by decide +kernel⟩,
    ⟨0, State.reset, by decide +kernel⟩,
    ⟨0, _, live, ⟨by decide +kernel, rfl⟩⟩,
    ⟨0, _, State.reset, rfl⟩⟩

/-- The hypotheses of PointsArePublishedAndReceived are met. -/
theorem witness_PointsArePublishedAndReceived :
    (∃ (g : Fin 64) (s : State), latestInstant s g = none) ∧
    (∃ (g : Fin 64) (t : CellTime) (s : State), latestInstant s g = some t ∧ ((pubGroup s g).1 = 1 ∨
       (pubGroup s g).1 = 2) ∧ freshInstant s (pubState s g).mark t = true) ∧
    (∃ (g : Fin 64) (t : CellTime) (s : State), latestInstant s g = some t ∧ (((pubGroup s g).1 ≠ 1 ∧
       (pubGroup s g).1 ≠ 2) ∨ freshInstant s (pubState s g).mark t = false)) ∧
    (∃ (g : Fin 64) (s : State), (pubGroup s g).1 = 3 ∧ (pubState s g).qualified = true ∧
       (frameWaits s g = true ∨ (pubState s g).lastSent.all (fun t => elapsed s t ((pubGroup s g).2.2.2.2.2 * 1000)) =
       true)) ∧
    (∃ (g : Fin 64) (s : State), ((pubGroup s g).1 ≠ 3 ∨ (pubState s g).qualified = false ∨
       (frameWaits s g || (pubState s g).lastSent.all (fun t => elapsed s t ((pubGroup s g).2.2.2.2.2 * 1000))) = false)) ∧
    (∃ (g : Fin 64) (s : State), (pubGroup s g).1 = 3 ∧ (pubState s g).lastSent.all (fun t => elapsed s t ((pubGroup s
       g).2.2.2.1 * 1000)) = true) ∧
    (∃ (g : Fin 64) (s : State), ((pubGroup s g).1 ≠ 3 ∨ (pubState s g).lastSent.all (fun t => elapsed s t ((pubGroup s
       g).2.2.2.1 * 1000)) = false)) ∧
    (∃ (f : GclFrame) (s : State), s.gcl.checked.find? (fun f => f.typ == 0x20) = some f) ∧
    (∃ (s : State), s.gcl.checked.find? (fun f => f.typ == 0x20) = none) ∧
    (∃ (q : Req) (handle value : BitVec 32) (s : State), isAuthority s q.ep = true ∧ s.p 1 0x0E 0 0x0A = 1 ∧
       forceable s (handle.toNat) = true ∧ (s.canopy.forces.any (fun f => f.handle == handle.toNat) = true ∨
       s.canopy.forces.length < 64)) ∧
    (∃ (q : Req) (handle value : BitVec 32) (s : State), isAuthority s q.ep = false) ∧
    (∃ (q : Req) (handle value : BitVec 32) (s : State), isAuthority s q.ep = true ∧ s.p 1 0x0E 0 0x0A ≠ 1) ∧
    (∃ (q : Req) (handle value : BitVec 32) (s : State), isAuthority s q.ep = true ∧ s.p 1 0x0E 0 0x0A = 1 ∧
       forceable s (handle.toNat) = false) ∧
    (∃ (q : Req) (handle value : BitVec 32) (s : State), isAuthority s q.ep = true ∧ s.p 1 0x0E 0 0x0A = 1 ∧
       forceable s (handle.toNat) = true ∧ s.canopy.forces.any (fun f => f.handle == handle.toNat) = false ∧
       64 ≤ s.canopy.forces.length) ∧
    (∃ (q : Req) (handle : BitVec 32) (s : State), isAuthority s q.ep = false) ∧
    (∃ (q : Req) (s : State), isAuthority s q.ep = true) ∧
    (∃ (q : Req) (handle : BitVec 32) (s : State), isAuthority s q.ep = true ∧ handle.toNat ≠ 0xFFFFFFFF) :=
  ⟨⟨0, live, by decide +kernel⟩,
    ⟨0,
    (latestInstant (((live.setBytes 0x0E 0 0x03 0 [1, 0, 0, 0, 1, 0, 0,
      0]).modTb (fun x => { x with counter := 2 ^ 80 }))) 0).getD 0,
    (live.setBytes 0x0E 0 0x03 0 [1, 0, 0, 0, 1, 0, 0, 0]).modTb (fun x => { x with counter := 2 ^ 80 }),
    by decide +kernel⟩,
    ⟨0, (latestInstant (((live.setBytes 0x0E 0 0x03 0 [3, 0, 0, 0, 1, 0, 0, 0]))) 0).getD 0,
    (live.setBytes 0x0E 0 0x03 0 [3, 0, 0, 0, 1, 0, 0, 0]), by decide +kernel⟩,
    ⟨0, (live.setBytes 0x0E 0 0x03 0 [3]).setPub ⟨0, true, none, ⟨0, 0⟩, []⟩, by decide +kernel⟩,
    ⟨0, live, by decide +kernel⟩,
    ⟨0, live.setBytes 0x0E 0 0x03 0 [3], by decide +kernel⟩,
    ⟨0, live, by decide +kernel⟩,
    ⟨⟨0, 0, 0, none, 0, 0x20, 0, 0, 0, false, false, 0, 0, 0, 0, 0, 0, []⟩,
    { live with
        gcl := { live.gcl with checked := [⟨0, 0, 0, none, 0, 0x20, 0, 0, 0, false, false, 0, 0, 0, 0, 0, 0, []⟩] } },
    by decide +kernel⟩,
    ⟨State.reset, by decide +kernel⟩,
    ⟨⟨1, 0, 0⟩, 0, 0, live.setP 1 0x0E 0 0x0A 1, by decide +kernel⟩,
    ⟨⟨0, 0, 0⟩, 0, 0, State.reset, by decide +kernel⟩,
    ⟨⟨1, 0, 0⟩, 0, 0, live, by decide +kernel⟩,
    ⟨⟨1, 0, 0⟩, 0x30, 0, live.setP 1 0x0E 0 0x0A 1, by decide +kernel⟩,
    ⟨⟨1, 0, 0⟩, 0, 0,
    { live.setP 1 0x0E 0 0x0A 1 with canopy := { live.canopy with forces := List.replicate 64 ⟨1, 0, []⟩ } },
    by decide +kernel⟩,
    ⟨⟨0, 0, 0⟩, 0, State.reset, by decide +kernel⟩,
    ⟨⟨1, 0, 0⟩, live, by decide +kernel⟩,
    ⟨⟨1, 0, 0⟩, 0, live, by decide +kernel⟩⟩

/-- The hypotheses of GladePassesAndSwaps are met. -/
theorem witness_GladePassesAndSwaps :
    (∃ (s : State), freshInstant s s.glade.fastMark (fastInstant s) = false) ∧
    (∃ (s1 : State) (s : State), freshInstant s s.glade.fastMark (fastInstant s) = true ∧ s.glade.ready = true ∧
       s1 = s.modGlade (fun g => { g with fastMark := markNow s (fastInstant s) })) ∧
    (∃ (s : State), freshInstant s s.glade.fastMark (fastInstant s) = true ∧ s.glade.ready = false) ∧
    (∃ (overran : Bool) (s : State), freshInstant s s.glade.mainMark (mainInstant s) = false) ∧
    (∃ (t : CellTime) (s1 : State) (s : State), t = mainInstant s ∧ freshInstant s s.glade.mainMark t = true ∧
       s1 = (((s.mainStart t).pass false).passTime 0x0A).modGlade (fun g => { g with
           passes := g.passes + 1, lastOverran := false, ready := g.active.isSome, mainMark := markNow s t })) ∧
    (∃ (t : CellTime) (s1 : State) (s : State), t = mainInstant s ∧ freshInstant s s.glade.mainMark t = true ∧
       s1 = (((s.mainStart t).pass false).passTime 0x0A).modGlade (fun g => { g with
           passes := g.passes + 1, lastOverran := true, ready := g.active.isSome, mainMark := markNow s t })) ∧
    (∃ (s : State), elapsed s s.glade.repeatAt 1000000 = true) ∧
    (∃ (s : State), elapsed s s.glade.repeatAt 1000000 = false) ∧
    (∃ (q : Req) (len : BitVec 32) (s : State), mayRules s q.ep = false) ∧
    (∃ (q : Req) (len : BitVec 32) (s : State), mayRules s q.ep = true ∧ s.glade.swapAt ≠ none) ∧
    (∃ (q : Req) (len : BitVec 32) (s : State), mayRules s q.ep = true ∧ s.glade.swapAt = none ∧
       (len.toNat < 188 ∨ 458828 < len.toNat)) ∧
    (∃ (q : Req) (len : BitVec 32) (s1 : State) (s : State), mayRules s q.ep = true ∧ s.glade.swapAt = none ∧
       188 ≤ len.toNat ∧ len.toNat ≤ 458828 ∧ s1 = (s.setRuleBank (inactiveBank s) [] (len.toNat)).modGlade (fun g =>
       { g with inactive := 1, persisted := false })) ∧
    (∃ (q : Req) (off : BitVec 32) (data : List Byte) (s : State), mayRules s q.ep = false) ∧
    (∃ (q : Req) (off : BitVec 32) (data : List Byte) (s : State), mayRules s q.ep = true ∧ s.glade.inactive ≠ 1) ∧
    (∃ (q : Req) (off : BitVec 32) (data : List Byte) (s : State), mayRules s q.ep = true ∧ s.glade.inactive = 1 ∧
       (data = [] ∨ 1008 < data.length)) ∧
    (∃ (q : Req) (off : BitVec 32) (data : List Byte) (s : State), mayRules s q.ep = true ∧ s.glade.inactive = 1 ∧
       data ≠ [] ∧ data.length ≤ 1008 ∧ imageLen s (inactiveBank s) < off.toNat + data.length) ∧
    (∃ (q : Req) (off : BitVec 32) (data : List Byte) (s1 : State) (s : State), mayRules s q.ep = true ∧
       s.glade.inactive = 1 ∧ data ≠ [] ∧ data.length ≤ 1008 ∧ off.toNat + data.length ≤ imageLen s (inactiveBank s) ∧
       s1 = s.setRuleBank (inactiveBank s) (cellsWriteL zeroByte (gladeBank s (inactiveBank s)) (off.toNat) data)
       (imageLen s (inactiveBank s))) ∧
    (∃ (q : Req) (persist norOk : Bool) (s : State), mayRules s q.ep = false) ∧
    (∃ (q : Req) (persist norOk : Bool) (s : State), mayRules s q.ep = true ∧ s.glade.inactive ≠ 1) ∧
    (∃ (q : Req) (persist norOk : Bool) (s : State), mayRules s q.ep = true ∧ s.glade.inactive = 1 ∧
       imageOk s (inactiveBank s) = false) ∧
    (∃ (q : Req) (norOk : Bool) (s1 : State) (s : State), mayRules s q.ep = true ∧ s.glade.inactive = 1 ∧
       imageOk s (inactiveBank s) = true ∧ s1 = s.modGlade (fun g => { g with inactive := 2 })) ∧
    (∃ (q : Req) (s1 : State) (s : State), mayRules s q.ep = true ∧ s.glade.inactive = 1 ∧
       imageOk s (inactiveBank s) = true ∧ rulesFit s = true ∧
       s1 = (s.modGlade (fun g => { g with inactive := 2 })).persistRules) ∧
    (∃ (q : Req) (norOk : Bool) (s : State), mayRules s q.ep = true ∧ s.glade.inactive = 1 ∧
       imageOk s (inactiveBank s) = true ∧ (norOk = false ∨ rulesFit s = false)) ∧
    (∃ (q : Req) (t : CellTime) (s : State), mayRules s q.ep = false) ∧
    (∃ (q : Req) (t : CellTime) (s : State), mayRules s q.ep = true ∧ s.glade.inactive ≠ 2) ∧
    (∃ (q : Req) (t : CellTime) (s : State), mayRules s q.ep = true ∧ s.glade.inactive = 2 ∧
       layoutFits s (inactiveBank s) = false) ∧
    (∃ (q : Req) (t : CellTime) (s : State), mayRules s q.ep = true ∧ s.glade.inactive = 2 ∧
       layoutFits s (inactiveBank s) = true ∧ t ≠ 0 ∧ ctDiff t (now s) < nsUnits 100000) ∧
    (∃ (q : Req) (s : State), mayRules s q.ep = true ∧ s.glade.inactive = 2 ∧ layoutFits s (inactiveBank s) = true) ∧
    (∃ (q : Req) (t : CellTime) (s : State), mayRules s q.ep = true ∧ s.glade.inactive = 2 ∧
       layoutFits s (inactiveBank s) = true ∧ t ≠ 0 ∧ nsUnits 100000 ≤ ctDiff t (now s)) ∧
    (∃ (s : State), freshInstant s s.glade.mainMark (mainInstant s) = false) ∧
    (∃ (t : CellTime) (s1 : State) (s : State), t = mainInstant s ∧ freshInstant s s.glade.mainMark t = true ∧
       (s1 = (if fastInstant s = t then (s.commitBy t).fastDue else s.commitBy t)) ∧ s1.glade.swapAt = none) ∧
    (∃ (t : CellTime) (s1 : State) (u : CellTime) (s : State), t = mainInstant s ∧
       freshInstant s s.glade.mainMark t = true ∧ (s1 = (if fastInstant s = t then (s.commitBy t).fastDue else s.commitBy
       t)) ∧ s1.glade.swapAt = some (some u) ∧ reached u t = false) ∧
    (∃ (t : CellTime) (s1 : State) (s : State), t = mainInstant s ∧ freshInstant s s.glade.mainMark t = true ∧
       (s1 = (if fastInstant s = t then (s.commitBy t).fastDue else s.commitBy t)) ∧
       s1.glade.swapAt = some none ∧ layoutFits s1 (inactiveBank s1) = true) ∧
    (∃ (t : CellTime) (s1 : State) (s : State), t = mainInstant s ∧ freshInstant s s.glade.mainMark t = true ∧
       (s1 = (if fastInstant s = t then (s.commitBy t).fastDue else s.commitBy t)) ∧
       s1.glade.swapAt = some none ∧ layoutFits s1 (inactiveBank s1) = false) ∧
    (∃ (t : CellTime) (s1 : State) (u : CellTime) (s : State), t = mainInstant s ∧
       freshInstant s s.glade.mainMark t = true ∧ (s1 = (if fastInstant s = t then (s.commitBy t).fastDue else s.commitBy
       t)) ∧ s1.glade.swapAt = some (some u) ∧ reached u t = true ∧ layoutFits s1 (inactiveBank s1) = true) ∧
    (∃ (t : CellTime) (s1 : State) (u : CellTime) (s : State), t = mainInstant s ∧
       freshInstant s s.glade.mainMark t = true ∧ (s1 = (if fastInstant s = t then (s.commitBy t).fastDue else s.commitBy
       t)) ∧ s1.glade.swapAt = some (some u) ∧ reached u t = true ∧ layoutFits s1 (inactiveBank s1) = false) :=
  ⟨⟨live, by decide +kernel⟩,
    ⟨_, (live.modTb (fun x => { x with counter := 2 ^ 90 })).modGlade (fun g => { g with ready := true }),
    ⟨by decide +kernel, by decide +kernel, rfl⟩⟩,
    ⟨live.modTb (fun x => { x with counter := 2 ^ 90 }), by decide +kernel⟩,
    ⟨false, live, by decide +kernel⟩,
    ⟨_, _, live.modTb (fun x => { x with counter := 2 ^ 90 }), ⟨rfl, by decide +kernel, rfl⟩⟩,
    ⟨_, _, live.modTb (fun x => { x with counter := 2 ^ 90 }), ⟨rfl, by decide +kernel, rfl⟩⟩,
    ⟨live.modTb (fun x => { x with mono := 2 ^ 90 }), by decide +kernel⟩,
    ⟨State.reset, by decide +kernel⟩,
    ⟨⟨0, 0, 0⟩, 0, State.reset, by decide +kernel⟩,
    ⟨⟨1, 0, 0⟩, 0, (live).modGlade (fun g => { g with swapAt := some none }), by decide +kernel⟩,
    ⟨⟨1, 0, 0⟩, 0, live, by decide +kernel⟩,
    ⟨⟨1, 0, 0⟩, 200, _, live, ⟨by decide +kernel, by decide +kernel, by decide +kernel, by decide +kernel, rfl⟩⟩,
    ⟨⟨0, 0, 0⟩, 0, [], State.reset, by decide +kernel⟩,
    ⟨⟨1, 0, 0⟩, 0, [], live, by decide +kernel⟩,
    ⟨⟨1, 0, 0⟩, 0, [], (live).modGlade (fun g => { g with inactive := 1 }), by decide +kernel⟩,
    ⟨⟨1, 0, 0⟩, 0, [1], (live).modGlade (fun g => { g with inactive := 1 }), by decide +kernel⟩,
    ⟨⟨1, 0, 0⟩, 0, [1], _, (live.setRuleBank (inactiveBank live) [] 200).modGlade (fun g => { g with inactive := 1 }),
    ⟨by decide +kernel, by decide +kernel, by decide +kernel, by decide +kernel, by decide +kernel, rfl⟩⟩,
    ⟨⟨0, 0, 0⟩, false, false, State.reset, by decide +kernel⟩,
    ⟨⟨1, 0, 0⟩, false, false, live, by decide +kernel⟩,
    ⟨⟨1, 0, 0⟩, false, false, (live.setRuleBank (inactiveBank live) [] 188).modGlade (fun g => { g with inactive := 1 }),
    by decide +kernel⟩,
    ⟨⟨1, 0, 0⟩, false, _,
    (live.setRuleBank (inactiveBank live) (cellsWriteL zeroByte [] 0 ruleImage) 188).modGlade (fun g =>
      { g with inactive := 1 }),
    ⟨by decide +kernel, by decide +kernel, by decide +kernel, rfl⟩⟩,
    ⟨⟨1, 0, 0⟩, _,
    { (live.setRuleBank (inactiveBank live) (cellsWriteL zeroByte [] 0 ruleImage) 188).modGlade (fun g => { g with inactive := 1 }) with
        msp := { live.msp with norPresent := true } },
    ⟨by decide +kernel, by decide +kernel, by decide +kernel, by decide +kernel, rfl⟩⟩,
    ⟨⟨1, 0, 0⟩, false,
    (live.setRuleBank (inactiveBank live) (cellsWriteL zeroByte [] 0 ruleImage) 188).modGlade (fun g =>
      { g with inactive := 1 }),
    by decide +kernel⟩,
    ⟨⟨0, 0, 0⟩, 0, State.reset, by decide +kernel⟩,
    ⟨⟨1, 0, 0⟩, 0, live, by decide +kernel⟩,
    ⟨⟨1, 0, 0⟩, 0, (live.setRuleBank false [(16, 1)] 200).modGlade (fun g => { g with inactive := 2 }),
    by decide +kernel⟩,
    ⟨⟨1, 0, 0⟩, 1, (live).modGlade (fun g => { g with inactive := 2 }), by decide +kernel⟩,
    ⟨⟨1, 0, 0⟩, live.modGlade (fun g => { g with inactive := 2 }), by decide +kernel⟩,
    ⟨⟨1, 0, 0⟩, 2 ^ 60, live.modGlade (fun g => { g with inactive := 2 }), by decide +kernel⟩,
    ⟨live, by decide +kernel⟩,
    ⟨_, _, live.modTb (fun x => { x with counter := 2 ^ 90 }), ⟨rfl, by decide +kernel, rfl, by decide +kernel⟩⟩,
    ⟨_, _, 2 ^ 71,
    (live.modTb (fun x => { x with counter := 2 ^ 90 })).modGlade (fun g => { g with swapAt := some (some (2 ^ 71)) }),
    ⟨rfl, by decide +kernel, rfl, by decide +kernel, by decide +kernel⟩⟩,
    ⟨_, _, (live.modTb (fun x => { x with counter := 2 ^ 90 })).modGlade (fun g => { g with swapAt := some none }), ⟨rfl,
    by decide +kernel, rfl, by decide +kernel, by decide +kernel⟩⟩,
    ⟨_, _,
    ((live.modTb (fun x => { x with counter := 2 ^ 90 })).setRuleBank false [(16,
      1)] 200).modGlade (fun g => { g with swapAt := some none }),
    ⟨rfl, by decide +kernel, rfl, by decide +kernel, by decide +kernel⟩⟩,
    ⟨_, _, 0, (live.modTb (fun x => { x with counter := 2 ^ 90 })).modGlade (fun g => { g with swapAt := some (some 0) }),
    ⟨rfl, by decide +kernel, rfl, by decide +kernel, by decide +kernel, by decide +kernel⟩⟩,
    ⟨_, _, 0,
    ((live.modTb (fun x => { x with counter := 2 ^ 90 })).setRuleBank false [(16,
      1)] 200).modGlade (fun g => { g with swapAt := some (some 0) }),
    ⟨rfl, by decide +kernel, rfl, by decide +kernel, by decide +kernel, by decide +kernel⟩⟩⟩

/-- The hypotheses of FaultsAreCollectedAndSafeStatesHeld are met. -/
theorem witness_FaultsAreCollectedAndSafeStatesHeld :
    (∃ (s : State), s.firebreak.raises = []) ∧
    (∃ (r : Raise) (rest : List Raise) (s : State), s.firebreak.raises = r :: rest ∧ r.ends = false) ∧
    (∃ (r : Raise) (rest : List Raise) (s : State), s.firebreak.raises = r :: rest ∧ r.ends = true) ∧
    (∃ (gone : List ActiveFault) (s : State), gone = s.firebreak.active.filter (fun a => windowed.contains a.ident &&
       decide ((windowOf s.firebreak a.ident a.obj s.tb.mono).length ≤ 16))) ∧
    (∃ (s : State), elapsed s s.firebreak.refreshAt 1000000 = true) ∧
    (∃ (s : State), elapsed s s.firebreak.refreshAt 1000000 = false) ∧
    (∃ (s1 : State) (s : State), s1 = (s.setRecord 0 none true (ident .fsc 1)).failLow) ∧
    (∃ (s : State), s.firebreak.safeInOn = true) ∧
    (∃ (s1 : State) (s : State), s.firebreak.safeInOn = false ∧ s.p 1 0x10 0 0x08 = 1 ∧
       s1 = (s.modFb (fun f => { f with safeInOn := true })).orP 0x10 0 0x0F 16) ∧
    (∃ (s1 : State) (s : State), s.firebreak.safeInOn = false ∧ s.p 1 0x10 0 0x08 = 2 ∧
       s1 = (s.modFb (fun f => { f with safeInOn := true })).orP 0x10 0 0x0F 16) ∧
    (∃ (s1 : State) (s : State), s.firebreak.safeInOn = false ∧ s.p 1 0x10 0 0x08 ≠ 1 ∧ s.p 1 0x10 0 0x08 ≠ 2 ∧
       s1 = (s.modFb (fun f => { f with safeInOn := true })).orP 0x10 0 0x0F 16) ∧
    (∃ (s : State), s.firebreak.safeInOn = true) ∧
    (∃ (s : State), s.firebreak.safeInOn = false) ∧
    (∃ (q : Req) (scope kind index : Nat) (key : BitVec 16) (s1 : State) (s : State), s1 = s.collectAll ∧
       mayClear s1 q.ep = false) ∧
    (∃ (q : Req) (scope kind index : Nat) (key : BitVec 16) (s1 : State) (s : State), s1 = s.collectAll ∧
       mayClear s1 q.ep = true ∧ key.toNat ≠ s1.p 2 0x10 0 0x06) ∧
    (∃ (q : Req) (scope kind index : Nat) (key : BitVec 16) (s1 : State) (s : State), s1 = s.collectAll ∧
       mayClear s1 q.ep = true ∧ key.toNat = s1.p 2 0x10 0 0x06 ∧ scope ≠ 3 ∧ scopeRecord scope kind index = none) ∧
    (∃ (q : Req) (scope kind index : Nat) (key : BitVec 16) (n : Nat) (s1 : State) (s : State),
       s1 = s.collectAll ∧ mayClear s1 q.ep = true ∧ key.toNat = s1.p 2 0x10 0 0x06 ∧ scope ≠ 3 ∧
       scopeRecord scope kind index = some n ∧ (recBlocked s1 n (scopeBanks scope index) || (scopeBanks scope index).any
       (bankSilentFault s1)) = true) ∧
    (∃ (q : Req) (scope kind index : Nat) (key : BitVec 16) (n : Nat) (s1 : State) (s : State),
       s1 = s.collectAll ∧ mayClear s1 q.ep = true ∧ key.toNat = s1.p 2 0x10 0 0x06 ∧ scope ≠ 3 ∧
       scopeRecord scope kind index = some n ∧ (recBlocked s1 n (scopeBanks scope index) || (scopeBanks scope index).any
       (bankSilentFault s1)) = false) ∧
    (∃ (q : Req) (kind index : Nat) (key : BitVec 16) (setRecs recs : List Nat) (autos banks : List (Fin 4)) (s1 : State)
       (s : State), s1 = s.collectAll ∧ mayClear s1 q.ep = true ∧ key.toNat = s1.p 2 0x10 0 0x06 ∧
       setRecs = (List.range 33).filter (recSet s1) ∧ recs = setRecs.filter (fun n => !recBlocked s1 n allBanks) ∧
       autos = allBanks.filter (isAutonomous s1) ∧ banks = autos.filter (fun b => !bankSilentFault s1 b)) ∧
    (∃ (b : Fin 4) (s : State), isAutonomous s b = true ∧ clearReady s b = true ∧
       (s.firebreak.clearPending[b] = true ∨ s.pAt 1 0x10 0 0x04 b = 1)) ∧
    (∃ (b : Fin 4) (s : State), (isAutonomous s b = false ∨ clearReady s b = false ∨
       (s.firebreak.clearPending[b] = false ∧ s.pAt 1 0x10 0 0x04 b ≠ 1))) ∧
    (∃ (q : Req) (s : State), isAuthority s q.ep = false) ∧
    (∃ (q : Req) (s : State), isAuthority s q.ep = true ∧ (s.p 1 0x12 0 0x01 = 0 ∨ fromActive s q.ep q.tag = false)) ∧
    (∃ (q : Req) (s : State), isAuthority s q.ep = true ∧ s.p 1 0x12 0 0x01 ≠ 0 ∧
       fromActive s q.ep q.tag = true ∧ s.firebreak.liveExpired = false) ∧
    (∃ (q : Req) (s1 : State) (s : State), isAuthority s q.ep = true ∧ s.p 1 0x12 0 0x01 ≠ 0 ∧
       fromActive s q.ep q.tag = true ∧ s.firebreak.liveExpired = true ∧ s1 = s.endFault (ident .fsc 6) 0 0) ∧
    (∃ (s : State), s.firebreak.liveArmed = true ∧ s.firebreak.liveExpired = false ∧
       elapsed s s.firebreak.liveSince (s.firebreak.liveTimeout * 980000) = true) ∧
    (∃ (s : State), (s.firebreak.liveArmed = false ∨ s.firebreak.liveExpired = true ∨
       elapsed s s.firebreak.liveSince (s.firebreak.liveTimeout * 980000) = false)) ∧
    (∃ (q : Req) (staged all : Bool) (kind id index : Nat) (s : State), mayClear s q.ep = false) ∧
    (∃ (q : Req) (staged : Bool) (kind id index : Nat) (s : State), mayClear s q.ep = true ∧ (384 ≤ id ∨
       (faultRow id).any (fun r => !r.kinds.contains kind || decide (kindCount kind ≤ index)) = true)) ∧
    (∃ (q : Req) (staged all : Bool) (kind id index : Nat) (byte : Nat →
       Nat) (cases_ : List (Nat × FaultObj)) (bytes : List Byte)
         (s1 : State) (s : State), mayClear s q.ep = true ∧ (all = true ∨ (id < 384 ∧
           (faultRow id).any (fun r => !r.kinds.contains kind || decide (kindCount kind ≤ index)) = false)) ∧
           ((byte = (fun i => if staged = true then leNat (s.stBytes 1 0x11 0 0x01 i) else reaction s i))) ∧
           cases_ = rehearseCases all kind id index ∧ s1 = cases_.foldl (fun (t : State) c => (t.modFb (fun f =>
           { f with seq := f.seq + 1 })).journal 0x01 (faultBytes
           { ident := c.1, obj := c.2, reaction := BitVec.ofNat 8 (byte c.1), rehearsal := true, uncertain := t.tb.uncertain,
             resetOnly := false, time := now t, seq := t.firebreak.seq, detail := caseOutputs t (byte c.1 % 4) c.2
               })) s ∧ bytes = (([cases_.length, (cases_.filter (fun c => byte c.1 % 4 == 1)).length, (cases_.filter (fun c => byte c.1 % 4 == 2)).length,
           (cases_.filter (fun c => byte c.1 % 4 == 3)).length, (cases_.filter (fun c => natBit (byte c.1) 4)).length,
           ((List.range 384).filter (fun i => reactionBad i (leNat (s.stBytes 1 0x11 0 0x01 i)))).length] : List Nat).map
             (leBytes 2)).flatten) :=
  ⟨⟨State.reset, by decide +kernel⟩,
    ⟨⟨0, ⟨0, 0⟩, now live, live.tb.uncertain, 0, false⟩, [], live.raise 0 0 0, by decide +kernel⟩,
    ⟨⟨0, ⟨0, 0⟩, now live, live.tb.uncertain, 0, true⟩, [], live.endFault 0 0 0, by decide +kernel⟩,
    ⟨_, State.reset, rfl⟩,
    ⟨live.modTb (fun x => { x with mono := 2 ^ 90 }), by decide +kernel⟩,
    ⟨State.reset, by decide +kernel⟩,
    ⟨_, State.reset, rfl⟩,
    ⟨(live).modFb (fun f => { f with safeInOn := true }), by decide +kernel⟩,
    ⟨_, live.setP 1 0x10 0 0x08 1, ⟨by decide +kernel, by decide +kernel, rfl⟩⟩,
    ⟨_, live.setP 1 0x10 0 0x08 2, ⟨by decide +kernel, by decide +kernel, rfl⟩⟩,
    ⟨_, live.setP 1 0x10 0 0x08 0, ⟨by decide +kernel, by decide +kernel, by decide +kernel, rfl⟩⟩,
    ⟨(live).modFb (fun f => { f with safeInOn := true }), by decide +kernel⟩,
    ⟨State.reset, by decide +kernel⟩,
    ⟨⟨0, 0, 0⟩, 0, 0, 0, 0, _, State.reset, ⟨rfl, by decide +kernel⟩⟩,
    ⟨⟨1, 0, 0⟩, 0, 0, 0, 0, _, live.setP 2 0x10 0 0x06 7, ⟨rfl, by decide +kernel, by decide +kernel⟩⟩,
    ⟨⟨1, 0, 0⟩, 4, 0, 0, BitVec.ofNat 16 (live.p 2 0x10 0 0x06), _, live, ⟨rfl, by decide +kernel, by decide +kernel,
    by decide +kernel, by decide +kernel⟩⟩,
    ⟨⟨1, 0, 0⟩, 2, 0, 0, BitVec.ofNat 16 (live.p 2 0x10 0 0x06), 0, _,
    (live).modFb (fun f => { f with records := f.records.set 0 ⟨true, true, []⟩ }), ⟨rfl, by decide +kernel,
    by decide +kernel, by decide +kernel, by decide +kernel, by decide +kernel⟩⟩,
    ⟨⟨1, 0, 0⟩, 2, 0, 0, BitVec.ofNat 16 (live.p 2 0x10 0 0x06), 0, _, live, ⟨rfl, by decide +kernel, by decide +kernel,
    by decide +kernel, by decide +kernel, by decide +kernel⟩⟩,
    ⟨⟨1, 0, 0⟩, 0, 0, BitVec.ofNat 16 (live.p 2 0x10 0 0x06), _, _, _, _, _, live, ⟨rfl, by decide +kernel,
    by decide +kernel, rfl, rfl, rfl, rfl⟩⟩,
    ⟨0, ((live.setP 1 0x05 0 0x02 3).setP 1 0x10 0 0x04 1).modFb (fun f => { f with statusRun := f.statusRun.set 0 64 }),
    by decide +kernel⟩,
    ⟨0, State.reset, by decide +kernel⟩,
    ⟨⟨0, 0, 0⟩, State.reset, by decide +kernel⟩,
    ⟨⟨1, 0, 0⟩, live.setP 1 0x12 0 0x01 0, by decide +kernel⟩,
    ⟨⟨1, 0, 0⟩, live.setP 1 0x12 0 0x01 1, by decide +kernel⟩,
    ⟨⟨1, 0, 0⟩, _, (live.setP 1 0x12 0 0x01 1).modFb (fun f => { f with liveExpired := true }), ⟨by decide +kernel,
    by decide +kernel, by decide +kernel, by decide +kernel, rfl⟩⟩,
    ⟨(live).modFb (fun f => { f with liveArmed := true, liveExpired := false, liveTimeout := 0 }), by decide +kernel⟩,
    ⟨State.reset, by decide +kernel⟩,
    ⟨⟨0, 0, 0⟩, false, false, 0, 0, 0, State.reset, by decide +kernel⟩,
    ⟨⟨1, 0, 0⟩, false, 0, 400, 0, live, by decide +kernel⟩,
    ⟨⟨1, 0, 0⟩, false, true, 0, 0, 0, _, _, _, _, live, ⟨by decide +kernel, by decide +kernel, rfl, rfl, rfl, rfl⟩⟩⟩

/-- The hypotheses of HostLinkCommandsReply are met. -/
theorem witness_HostLinkCommandsReply :
    (∃ (addr : BitVec 32) (count : Byte) (ws : List Word) (s1 : State) (s : State), addr.toNat % 4 = 0 ∧
       count.toNat ≠ 0 ∧ count.toNat ≤ 64 ∧ s.hslReads (addr.toNat) (count.toNat) = (ws, s1)) ∧
    (∃ (addr : BitVec 32) (count : Byte) (s : State), (addr.toNat % 4 ≠ 0 ∨ count.toNat = 0 ∨ 64 < count.toNat)) ∧
    (∃ (addr : BitVec 32) (data : List Word) (s : State), (s.mbx.eps[(0 : Fin 8)]).opened = false) ∧
    (∃ (addr : BitVec 32) (data : List Word) (s : State), (s.mbx.eps[(0 : Fin 8)]).opened = true ∧
       (addr.toNat % 4 ≠ 0 ∨ data.length = 0 ∨ 64 < data.length)) ∧
    (∃ (addr : BitVec 32) (data : List Word) (s : State), (s.mbx.eps[(0 : Fin 8)]).opened = true ∧
       addr.toNat % 4 = 0 ∧ data.length ≠ 0 ∧ data.length ≤ 64 ∧
       (wordAddrs (addr.toNat) data.length).any (fun x => !hslWritable x) = true) ∧
    (∃ (addr : BitVec 32) (data : List Word) (s : State), (s.mbx.eps[(0 : Fin 8)]).opened = true ∧
       addr.toNat % 4 = 0 ∧ data.length ≠ 0 ∧ data.length ≤ 64 ∧
       (wordAddrs (addr.toNat) data.length).any (fun x => !hslWritable x) = false) ∧
    (∃ (buf : Byte) (off len : BitVec 16) (s : State), (len.toNat = 0 ∨ 1024 < len.toNat ∨ 1024 < off.toNat + len.toNat)) ∧
    (∃ (buf : Byte) (off len : BitVec 16) (s : State), len.toNat ≠ 0 ∧ len.toNat ≤ 1024 ∧
       off.toNat + len.toNat ≤ 1024 ∧ heldBy s (buf.toNat) 0 = false) ∧
    (∃ (buf : Byte) (off len : BitVec 16) (s : State), len.toNat ≠ 0 ∧ len.toNat ≤ 1024 ∧
       off.toNat + len.toNat ≤ 1024 ∧ heldBy s (buf.toNat) 0 = true) ∧
    (∃ (buf : Byte) (off : BitVec 16) (data : List Byte) (s : State), (s.mbx.eps[(0 : Fin 8)]).opened = false) ∧
    (∃ (buf : Byte) (off : BitVec 16) (data : List Byte) (s : State),
       (s.mbx.eps[(0 : Fin 8)]).opened = true ∧ (data.length = 0 ∨ 1024 < data.length ∨ 1024 < off.toNat + data.length)) ∧
    (∃ (buf : Byte) (off : BitVec 16) (data : List Byte) (s : State),
       (s.mbx.eps[(0 : Fin 8)]).opened = true ∧ data.length ≠ 0 ∧ data.length ≤ 1024 ∧
       off.toNat + data.length ≤ 1024 ∧ heldBy s (buf.toNat) 0 = false) ∧
    (∃ (buf : Byte) (off : BitVec 16) (data : List Byte) (s : State),
       (s.mbx.eps[(0 : Fin 8)]).opened = true ∧ data.length ≠ 0 ∧ data.length ≤ 1024 ∧
       off.toNat + data.length ≤ 1024 ∧ heldBy s (buf.toNat) 0 = true) ∧
    (∃ (w : Word) (s : State), (s.mbx.eps[(0 : Fin 8)]).opened = false) ∧
    (∃ (w : Word) (code : BitVec 16) (s1 : State) (s : State), (s.mbx.eps[(0 : Fin 8)]).opened = true ∧
       postWord s w = (code, s1)) ∧
    (∃ (clear ring : Word) (s : State), (s.mbx.eps[(0 : Fin 8)]).opened = false) ∧
    (∃ (clear ring : Word) (s1 : State) (s : State), (s.mbx.eps[(0 : Fin 8)]).opened = true ∧
       s1 = (s.clearDb 0 clear).ringH2d 0 ring) ∧
    (∃ (s : State), (s.mbx.eps[(0 : Fin 8)]).opened = true) ∧
    (∃ (s : State), (s.mbx.eps[(0 : Fin 8)]).opened = false) ∧
    (∃ (r : HslReply) (s : State), s.hsl.offered = some r) ∧
    (∃ (s : State), s.hsl.offered = none) ∧
    (∃ (addr : Nat) (v : Word) (s : State), (addr = 0x1800 ∨ addr = 0x1804 ∨ addr = 0x1808 ∨ addr = 0x180C)) ∧
    (∃ (addr : Nat) (v : Word) (s : State), hslWritable addr = false) ∧
    (∃ (hsl : Bool) (addr : Nat) (s : State), s.tb.latches.find? (latchHolds hsl addr) = none ∧ latchCount addr = 0) ∧
    (∃ (hsl : Bool) (addr n : Nat) (s : State), s.tb.latches.find? (latchHolds hsl addr) = none ∧ latchCount addr = n ∧
       n ≠ 0) ∧
    (∃ (hsl : Bool) (addr : Nat) (l : Bool × Nat × List Word) (s : State),
       s.tb.latches.find? (latchHolds hsl addr) = some l ∧ countWord addr = false) ∧
    (∃ (hsl : Bool) (addr : Nat) (l : Bool × Nat × List Word) (s : State),
       s.tb.latches.find? (latchHolds hsl addr) = some l ∧ countWord addr = true) :=
  ⟨⟨0, 1, _, _, State.reset, ⟨by decide +kernel, by decide +kernel, by decide +kernel, rfl⟩⟩,
    ⟨0, 0, State.reset, by decide +kernel⟩,
    ⟨0, [], State.reset, by decide +kernel⟩,
    ⟨0, [],
    { live with
        mbx := { live.mbx with eps := live.mbx.eps.map (fun p => { p with opened := true, major := 2, minor := 3 }) } },
    by decide +kernel⟩,
    ⟨0, [0],
    { live with
        mbx := { live.mbx with eps := live.mbx.eps.map (fun p => { p with opened := true, major := 2, minor := 3 }) } },
    by decide +kernel⟩,
    ⟨0x0818, [0],
    { live with
        mbx := { live.mbx with eps := live.mbx.eps.map (fun p => { p with opened := true, major := 2, minor := 3 }) } },
    by decide +kernel⟩,
    ⟨0, 0, 0, State.reset, by decide +kernel⟩,
    ⟨0, 0, 4, State.reset, by decide +kernel⟩,
    ⟨BitVec.ofNat 8 ((live.claim 0).1.getD 0), 0, 4, (live.claim 0).2, by decide +kernel⟩,
    ⟨0, 0, [], State.reset, by decide +kernel⟩,
    ⟨0, 0, [],
    { live with
        mbx := { live.mbx with eps := live.mbx.eps.map (fun p => { p with opened := true, major := 2, minor := 3 }) } },
    by decide +kernel⟩,
    ⟨0, 0, [1],
    { live with
        mbx := { live.mbx with eps := live.mbx.eps.map (fun p => { p with opened := true, major := 2, minor := 3 }) } },
    by decide +kernel⟩,
    ⟨BitVec.ofNat 8 ((({ live with
        mbx := { live.mbx with eps := live.mbx.eps.map (fun p => { p with opened := true, major := 2, minor := 3 }) } } :
      State).claim 0).1.getD 0),
    0, [1],
    (({ live with
        mbx := { live.mbx with eps := live.mbx.eps.map (fun p => { p with opened := true, major := 2, minor := 3 }) } } :
      State).claim 0).2,
    by decide +kernel⟩,
    ⟨0, State.reset, by decide +kernel⟩,
    ⟨0, _, _,
    { live with
        mbx := { live.mbx with eps := live.mbx.eps.map (fun p => { p with opened := true, major := 2, minor := 3 }) } },
    ⟨by decide +kernel, rfl⟩⟩,
    ⟨0, 0, State.reset, by decide +kernel⟩,
    ⟨0, 0, _,
    { live with
        mbx := { live.mbx with eps := live.mbx.eps.map (fun p => { p with opened := true, major := 2, minor := 3 }) } },
    ⟨by decide +kernel, rfl⟩⟩,
    ⟨{ live with
        mbx := { live.mbx with eps := live.mbx.eps.map (fun p => { p with opened := true, major := 2, minor := 3 }) } },
    by decide +kernel⟩,
    ⟨State.reset, by decide +kernel⟩,
    ⟨⟨0, 0, []⟩, { (live) with hsl := { (live).hsl with offered := some ⟨0, 0, []⟩ } }, by decide +kernel⟩,
    ⟨State.reset, by decide +kernel⟩,
    ⟨0x1800, 0, State.reset, by decide +kernel⟩,
    ⟨0, 0, State.reset, by decide +kernel⟩,
    ⟨false, 0, State.reset, by decide +kernel⟩,
    ⟨false, 0x0400, 1, State.reset, by decide +kernel⟩,
    ⟨false, 0x0C04, (false, 0x0C00, [0, 0]), live.modTb (fun x => { x with latches := [(false, 0x0C00, [0, 0])] }),
    by decide +kernel⟩,
    ⟨false, 0x8504, (false, 0x8500, [0, 0, 0, 0, 0]),
    live.modTb (fun x => { x with latches := [(false, 0x8500, [0, 0, 0, 0, 0])] }), by decide +kernel⟩⟩

/-- The hypotheses of HostLinkFramesAreTaken are met. -/
theorem witness_HostLinkFramesAreTaken :
    (∃ (busy : Bool) (s : State), (s.hsl.inFrame = true ∨ s.sup.reset ≠ none)) ∧
    (∃ (busy v : Bool) (s : State), s.hsl.inFrame = false ∧ s.sup.reset = none ∧
       v = (busy && s.hsl.pending.isSome && !elapsed s s.hsl.endedAt 1500)) ∧
    (∃ (bytes : List Byte) (s : State), s.hsl.inFrame = false) ∧
    (∃ (bytes : List Byte) (s : State), s.hsl.inFrame = true ∧ (s.hsl.ended = true ∨ bytes = [])) ∧
    (∃ (bytes : List Byte) (s1 : State) (s : State), s.hsl.inFrame = true ∧ s.hsl.ended = false ∧ bytes ≠ [] ∧
       s.hsl.busy = false ∧ s1 = (s.modHsl (fun h => { h with inFrame := false, busy := false, ended := false })).modHsl
       (fun h => { h with miso := misoBytes s bytes.length, endedAt := s.tb.mono })) ∧
    (∃ (bytes : List Byte) (s1 : State) (s : State), s.hsl.inFrame = true ∧ s.hsl.ended = false ∧ bytes ≠ [] ∧
       s.hsl.busy = true ∧ s1 = (s.modHsl (fun h => { h with inFrame := false, busy := false, ended := false })).modHsl
       (fun h => { h with miso := misoBytes s bytes.length, endedAt := s.tb.mono })) ∧
    (∃ (first : Option Byte) (s : State), (s.hsl.inFrame = false ∨ s.hsl.ended = true ∨
       elapsed s s.hsl.startedAt (s.p 2 0x14 0 0x02 * 1000000) = false)) ∧
    (∃ (s : State), s.hsl.inFrame = true ∧ s.hsl.ended = false ∧
       elapsed s s.hsl.startedAt (s.p 2 0x14 0 0x02 * 1000000) = true) ∧
    (∃ (c : Byte) (s1 : State) (s : State), s.hsl.inFrame = true ∧ s.hsl.ended = false ∧
       elapsed s s.hsl.startedAt (s.p 2 0x14 0 0x02 * 1000000) = true ∧ s.hsl.busy = false ∧
       s1 = ((s.modHsl (fun h => { h with ended := true })).orP 0x14 0 0x09 8).raise (ident .hsl 2) 9 0) ∧
    (∃ (c : Byte) (s1 : State) (s : State), s.hsl.inFrame = true ∧ s.hsl.ended = false ∧
       elapsed s s.hsl.startedAt (s.p 2 0x14 0 0x02 * 1000000) = true ∧ s.hsl.busy = true ∧
       s1 = ((s.modHsl (fun h => { h with ended := true })).orP 0x14 0 0x09 8).raise (ident .hsl 2) 9 0) ∧
    (∃ (s : State), s.hsl.goodSince = none) ∧
    (∃ (since : BitVec 96) (s : State), s.hsl.goodSince = some since ∧ s.p 2 0x14 0 0x03 ≠ 0 ∧
       s.hsl.silent = false ∧ elapsed s since (s.p 2 0x14 0 0x03 * 1000000) = true) ∧
    (∃ (since : BitVec 96) (s : State), s.hsl.goodSince = some since ∧ (s.p 2 0x14 0 0x03 = 0 ∨
       s.hsl.silent = true ∨ elapsed s since (s.p 2 0x14 0 0x03 * 1000000) = false)) :=
  ⟨⟨false, { (live) with hsl := { (live).hsl with inFrame := true } }, by decide +kernel⟩,
    ⟨false, _, live.modSup (fun x => { x with reset := none }), ⟨by decide +kernel, by decide +kernel, rfl⟩⟩,
    ⟨[], State.reset, by decide +kernel⟩,
    ⟨[], { (live) with hsl := { (live).hsl with inFrame := true } }, by decide +kernel⟩,
    ⟨[1], _, { (live) with hsl := { (live).hsl with inFrame := true } }, ⟨by decide +kernel, by decide +kernel,
    by decide +kernel, by decide +kernel, rfl⟩⟩,
    ⟨[1], _, { (live) with hsl := { (live).hsl with inFrame := true, busy := true } }, ⟨by decide +kernel,
    by decide +kernel, by decide +kernel, by decide +kernel, rfl⟩⟩,
    ⟨none, State.reset, by decide +kernel⟩,
    ⟨({ (live) with hsl := { (live).hsl with inFrame := true } } : State).modTb (fun x => { x with mono := 2 ^ 90 }),
    by decide +kernel⟩,
    ⟨0, _,
    ({ (live) with hsl := { (live).hsl with inFrame := true } } : State).modTb (fun x => { x with mono := 2 ^ 90 }),
    ⟨by decide +kernel, by decide +kernel, by decide +kernel, by decide +kernel, rfl⟩⟩,
    ⟨0, _,
    ({ (live) with hsl := { (live).hsl with inFrame := true, busy := true } } : State).modTb (fun x =>
      { x with mono := 2 ^ 90 }),
    ⟨by decide +kernel, by decide +kernel, by decide +kernel, by decide +kernel, rfl⟩⟩,
    ⟨State.reset, by decide +kernel⟩,
    ⟨0,
    ({ (live) with hsl := { (live).hsl with goodSince := some 0 } } : State).setP 2 0x14 0 0x03 1 |>.modTb (fun x =>
      { x with mono := 2 ^ 90 }),
    by decide +kernel⟩,
    ⟨0, { (live) with hsl := { (live).hsl with goodSince := some 0 } }, by decide +kernel⟩⟩

/-- The hypotheses of TheMailboxServesItsCommands are met. -/
theorem witness_TheMailboxServesItsCommands :
    (∃ (s0 : State) (s : State), s0 = s.pairSwaps.adoptDue ∧ s0.mbx.queue = []) ∧
    (∃ (e tag : Nat) (rest : List (Nat × Nat)) (s0 : State) (s : State), s0 = s.pairSwaps.adoptDue ∧
       s0.mbx.queue = (e, tag) :: rest ∧ findTag (s0.mbx.eps[(fin8 e)]) tag = none) ∧
    (∃ (e tag : Nat) (rest : List (Nat × Nat)) (o : Outstanding) (s0 s1 : State) (s : State),
       s0 = s.pairSwaps.adoptDue ∧ s0.mbx.queue = (e, tag) :: rest ∧ findTag (s0.mbx.eps[(fin8 e)]) tag = some o ∧
       s1 = { s0 with mbx := { s0.mbx with queue := rest } }) ∧
    (∃ (q : Req) (data : List Byte) (s : State), data.length ≤ 64) ∧
    (∃ (q : Req) (data : List Byte) (s : State), 64 < data.length) ∧
    (∃ (q : Req) (tag : Nat) (s : State), 31 < tag ∧ tag ≠ 0xFF) ∧
    (∃ (q : Req) (tag : Nat) (s1 : State) (n : Nat) (s : State), (tag ≤ 31 ∨ tag = 0xFF) ∧
       s.abortTags q.ep ((openTags s q.ep).filter (fun t => t != q.tag && (tag == 0xFF || t == tag))) = (s1, n)) ∧
    (∃ (ep : Fin 8) (s : State), (s.mbx.eps[ep]).aborting = none) ∧
    (∃ (ep : Fin 8) (tags : List Nat) (s : State), (s.mbx.eps[ep]).aborting = some tags ∧
       tags.any (fun t => (s.mbx.eps[ep]).outstanding.any (fun o => o.tag == t && o.phase == 1)) = true) ∧
    (∃ (ep : Fin 8) (tags : List Nat) (s : State), (s.mbx.eps[ep]).aborting = some tags ∧
       tags.any (fun t => (s.mbx.eps[ep]).outstanding.any (fun o => o.tag == t && o.phase == 1)) = false) ∧
    (∃ (q : Req) (major minor : Nat) (s : State), versionFor q.ep major minor = none) ∧
    (∃ (q : Req) (major minor : Nat) (v : Nat × Nat) (s : State),
       versionFor q.ep major minor = some v ∧ (s.mbx.eps[q.ep]).outstanding.any (fun o => o.tag != q.tag) = true) ∧
    (∃ (q : Req) (major minor : Nat) (v : Nat × Nat) (s : State),
       versionFor q.ep major minor = some v ∧ (s.mbx.eps[q.ep]).outstanding.any (fun o => o.tag != q.tag) = false ∧
       (s.mbx.eps[q.ep]).major = 1) ∧
    (∃ (q : Req) (major minor : Nat) (v : Nat × Nat) (s : State),
       versionFor q.ep major minor = some v ∧ (s.mbx.eps[q.ep]).outstanding.any (fun o => o.tag != q.tag) = false ∧
       (s.mbx.eps[q.ep]).major ≠ 1) ∧
    (∃ (tag : Word) (c : Completion) (rest : List Completion) (s : State), ackQueue s = c :: rest ∧
       c.tag = tag.toNat % 32) ∧
    (∃ (tag : Word) (c : Completion) (rest : List Completion) (s : State), ackQueue s = c :: rest ∧
       c.tag ≠ tag.toNat % 32) ∧
    (∃ (tag : Word) (s : State), ackQueue s = []) ∧
    (∃ (k : Nat) (s : State), claimGrant s 0 = some k) ∧
    (∃ (s : State), claimGrant s 0 = none) ∧
    (∃ (buf : Word) (s : State), heldBy s (buf.toNat % 256) 0 = true) ∧
    (∃ (buf : Word) (s : State), heldBy s (buf.toNat % 256) 0 = false) ∧
    (∃ (ep : Fin 8) (tag : Nat) (ok : Bool) (s : State), s.mbx.long.find? (fun j => j.ep == ep.val && j.tag == tag &&
       j.opcode != opCancel) = none) ∧
    (∃ (ep : Fin 8) (tag : Nat) (j : LongRun) (s1 : State) (ok : Bool) (s : State),
       s.mbx.long.find? (fun j => j.ep == ep.val && j.tag == tag && j.opcode != opCancel) = some j ∧
       s1 = { s with mbx := { s.mbx with long := s.mbx.long.erase j } } ∧ j.opcode ≠ opJournalRead ∧
       j.opcode ≠ opFwData ∧ j.opcode ≠ opFwEnd ∧ j.opcode ≠ opLoadRules) ∧
    (∃ (ep : Fin 8) (tag : Nat) (j : LongRun) (s1 : State) (c : Word) (s : State),
       s.mbx.long.find? (fun j => j.ep == ep.val && j.tag == tag && j.opcode != opCancel) = some j ∧
       s1 = { s with mbx := { s.mbx with long := s.mbx.long.erase j } } ∧ j.opcode = opJournalRead ∧ j.cursor = some c) ∧
    (∃ (ep : Fin 8) (tag : Nat) (j : LongRun) (s1 : State) (s : State),
       s.mbx.long.find? (fun j => j.ep == ep.val && j.tag == tag && j.opcode != opCancel) = some j ∧
       s1 = { s with mbx := { s.mbx with long := s.mbx.long.erase j } } ∧ j.opcode = opJournalRead ∧ j.cursor = none) ∧
    (∃ (ep : Fin 8) (tag : Nat) (j : LongRun) (s1 : State) (s : State),
       s.mbx.long.find? (fun j => j.ep == ep.val && j.tag == tag && j.opcode != opCancel) = some j ∧
       s1 = { s with mbx := { s.mbx with long := s.mbx.long.erase j } } ∧ j.opcode = opJournalRead) ∧
    (∃ (ep : Fin 8) (tag : Nat) (j : LongRun) (s1 : State) (s : State),
       s.mbx.long.find? (fun j => j.ep == ep.val && j.tag == tag && j.opcode != opCancel) = some j ∧
       s1 = { s with mbx := { s.mbx with long := s.mbx.long.erase j } } ∧ j.opcode = opFwData) ∧
    (∃ (ep : Fin 8) (tag : Nat) (j : LongRun) (s1 : State) (s : State),
       s.mbx.long.find? (fun j => j.ep == ep.val && j.tag == tag && j.opcode != opCancel) = some j ∧
       s1 = { s with mbx := { s.mbx with long := s.mbx.long.erase j } } ∧ j.opcode = opFwData) ∧
    (∃ (ep : Fin 8) (tag : Nat) (j : LongRun) (s1 : State) (ok : Bool) (f : FwSession) (s : State),
       s.mbx.long.find? (fun j => j.ep == ep.val && j.tag == tag && j.opcode != opCancel) = some j ∧
       s1 = { s with mbx := { s.mbx with long := s.mbx.long.erase j } } ∧ j.opcode = opFwEnd ∧ s.sup.session = some f) ∧
    (∃ (ep : Fin 8) (tag : Nat) (j : LongRun) (s1 : State) (ok : Bool) (s : State),
       s.mbx.long.find? (fun j => j.ep == ep.val && j.tag == tag && j.opcode != opCancel) = some j ∧
       s1 = { s with mbx := { s.mbx with long := s.mbx.long.erase j } } ∧ j.opcode = opFwEnd ∧ s.sup.session = none) ∧
    (∃ (ep : Fin 8) (tag : Nat) (j : LongRun) (s1 : State) (s : State),
       s.mbx.long.find? (fun j => j.ep == ep.val && j.tag == tag && j.opcode != opCancel) = some j ∧
       s1 = { s with mbx := { s.mbx with long := s.mbx.long.erase j } } ∧ j.opcode = opLoadRules ∧ rulesFit s1 = true) ∧
    (∃ (ep : Fin 8) (tag : Nat) (j : LongRun) (s1 : State) (ok : Bool) (s : State),
       s.mbx.long.find? (fun j => j.ep == ep.val && j.tag == tag && j.opcode != opCancel) = some j ∧
       s1 = { s with mbx := { s.mbx with long := s.mbx.long.erase j } } ∧ j.opcode = opLoadRules ∧
       (ok && rulesFit s1) = false) :=
  ⟨⟨_, live, ⟨rfl, by decide +kernel⟩⟩,
    ⟨1, 0, [], _, { live with mbx := { live.mbx with queue := [(1, 0)] } }, ⟨rfl, by decide +kernel, by decide +kernel⟩⟩,
    ⟨1, 0, [], ⟨0, 0, true, 1, 1, 0, 0, 0, 0⟩, _, _,
    { live with
        mbx := { live.mbx with
            queue := [(1, 0)],
            eps := live.mbx.eps.map (fun p => { p with outstanding := [⟨0, 0, true, 1, 1, 0, 0, 0, 0⟩] }) } },
    ⟨rfl, by decide +kernel, by decide +kernel, rfl⟩⟩,
    ⟨⟨1, 0, 0⟩, [], State.reset, by decide +kernel⟩,
    ⟨⟨1, 0, 0⟩, List.replicate 65 0, State.reset, by decide +kernel⟩,
    ⟨⟨1, 0, 0⟩, 32, State.reset, by decide +kernel⟩,
    ⟨⟨1, 0, 0⟩, 0, _, _, State.reset, ⟨by decide +kernel, rfl⟩⟩,
    ⟨0, State.reset, by decide +kernel⟩,
    ⟨0, [0],
    { live with
        mbx := { live.mbx with
            eps := live.mbx.eps.map (fun p => { p with
                aborting := some [0], outstanding := [⟨0, 0, true, 1, 1, 1, 0, 0, 0⟩] }) } },
    by decide +kernel⟩,
    ⟨0, [], { live with mbx := { live.mbx with eps := live.mbx.eps.map (fun p => { p with aborting := some [] }) } },
    by decide +kernel⟩,
    ⟨⟨1, 0, 0⟩, 9, 0, State.reset, by decide +kernel⟩,
    ⟨⟨1, 0, 0⟩, 2, 3, (2, 3),
    { live with
        mbx := { live.mbx with
            eps := live.mbx.eps.map (fun p => { p with outstanding := [⟨5, 0, true, 1, 1, 0, 0, 0, 0⟩] }) } },
    by decide +kernel⟩,
    ⟨⟨0, 0, 0⟩, 1, 2, (1, 2),
    { live with mbx := { live.mbx with eps := live.mbx.eps.map (fun p => { p with major := 1, minor := 2 }) } },
    by decide +kernel⟩,
    ⟨⟨1, 0, 0⟩, 2, 3, (2, 3),
    { live with
        mbx := { live.mbx with eps := live.mbx.eps.map (fun p => { p with opened := true, major := 2, minor := 3 }) } },
    by decide +kernel⟩,
    ⟨0, ⟨0, 0, true, 1, 0, 0⟩, [],
    { live with
        mbx := { live.mbx with
            eps := live.mbx.eps.map (fun p => { p with major := 2, completions := [⟨0, 0, true, 1, 0, 0⟩] }) } },
    by decide +kernel⟩,
    ⟨1, ⟨0, 0, true, 1, 0, 0⟩, [],
    { live with
        mbx := { live.mbx with
            eps := live.mbx.eps.map (fun p => { p with major := 2, completions := [⟨0, 0, true, 1, 0, 0⟩] }) } },
    by decide +kernel⟩,
    ⟨0, State.reset, by decide +kernel⟩,
    ⟨(claimGrant live 0).getD 0, live, by decide +kernel⟩,
    ⟨{ live.setP 1 0x13 0 0x06 0 with mbx := { live.mbx with bufs := (List.range 6).map (fun i => (248 + i, .held 0)) } },
    by decide +kernel⟩,
    ⟨BitVec.ofNat 32 ((live.claim 0).1.getD 0), (live.claim 0).2, by decide +kernel⟩,
    ⟨0, State.reset, by decide +kernel⟩,
    ⟨0, 0, false, State.reset, by decide +kernel⟩,
    ⟨1, 0, ⟨1, 0, 0x0040, 0, [], 0, none, (0, 0), none⟩, _, false,
    { live with mbx := { live.mbx with long := [⟨1, 0, 0x0040, 0, [], 0, none, (0, 0), none⟩] } }, ⟨by decide +kernel,
    rfl, by decide +kernel, by decide +kernel, by decide +kernel, by decide +kernel⟩⟩,
    ⟨1, 0, ⟨1, 0, opJournalRead, 0, [], 0, some 0, (0, 0), none⟩, _, 0,
    { live with mbx := { live.mbx with long := [⟨1, 0, opJournalRead, 0, [], 0, some 0, (0, 0), none⟩] } },
    ⟨by decide +kernel, rfl, by decide +kernel, by decide +kernel⟩⟩,
    ⟨1, 0, ⟨1, 0, opJournalRead, 0, [], 0, none, (0, 0), none⟩, _,
    { live with mbx := { live.mbx with long := [⟨1, 0, opJournalRead, 0, [], 0, none, (0, 0), none⟩] } },
    ⟨by decide +kernel, rfl, by decide +kernel, by decide +kernel⟩⟩,
    ⟨1, 0, ⟨1, 0, opJournalRead, 0, [], 0, none, (0, 0), none⟩, _,
    { live with mbx := { live.mbx with long := [⟨1, 0, opJournalRead, 0, [], 0, none, (0, 0), none⟩] } },
    ⟨by decide +kernel, rfl, by decide +kernel⟩⟩,
    ⟨1, 0, ⟨1, 0, opFwData, 0, [], 0, none, (0, 0), none⟩, _,
    { live with mbx := { live.mbx with long := [⟨1, 0, opFwData, 0, [], 0, none, (0, 0), none⟩] } }, ⟨by decide +kernel,
    rfl, by decide +kernel⟩⟩,
    ⟨1, 0, ⟨1, 0, opFwData, 0, [], 0, none, (0, 0), none⟩, _,
    { live with mbx := { live.mbx with long := [⟨1, 0, opFwData, 0, [], 0, none, (0, 0), none⟩] } }, ⟨by decide +kernel,
    rfl, by decide +kernel⟩⟩,
    ⟨1, 0, ⟨1, 0, opFwEnd, 0, [], 0, none, (0, 0), none⟩, _, false, ⟨1, false, 1, 257, 1⟩,
    { { live with mbx := { live.mbx with long := [⟨1, 0, opFwEnd, 0, [], 0, none, (0, 0), none⟩] } } with
        sup := { live.sup with session := some ⟨1, false, 1, 257, 1⟩ } },
    ⟨by decide +kernel, rfl, by decide +kernel, by decide +kernel⟩⟩,
    ⟨1, 0, ⟨1, 0, opFwEnd, 0, [], 0, none, (0, 0), none⟩, _, false,
    { live with mbx := { live.mbx with long := [⟨1, 0, opFwEnd, 0, [], 0, none, (0, 0), none⟩] } }, ⟨by decide +kernel,
    rfl, by decide +kernel, by decide +kernel⟩⟩,
    ⟨1, 0, ⟨1, 0, opLoadRules, 0, [], 0, none, (0, 0), none⟩, _,
    { ({ live with mbx := { live.mbx with long := [⟨1, 0, opLoadRules, 0, [], 0, none, (0, 0), none⟩] } } : State).setRuleBank (inactiveBank live) [] 100 with
        msp := { live.msp with norPresent := true } },
    ⟨by decide +kernel, rfl, by decide +kernel, by decide +kernel⟩⟩,
    ⟨1, 0, ⟨1, 0, opLoadRules, 0, [], 0, none, (0, 0), none⟩, _, false,
    { live with mbx := { live.mbx with long := [⟨1, 0, opLoadRules, 0, [], 0, none, (0, 0), none⟩] } },
    ⟨by decide +kernel, rfl, by decide +kernel, by decide +kernel⟩⟩⟩

/-- The hypotheses of ParametersAreReadAndWritten are met. -/
theorem witness_ParametersAreReadAndWritten :
    (∃ (q : Req) (index : BitVec 32) (s : State), indexRow index.toNat = none) ∧
    (∃ (q : Req) (index : BitVec 32) (r : AttrRow) (s : State), indexRow index.toNat = some r ∧
       64 < attrSize s (indexParts index.toNat).1 r) ∧
    (∃ (q : Req) (index : BitVec 32) (r : AttrRow) (s : State), indexRow index.toNat = some r ∧
       attrSize s (indexParts index.toNat).1 r ≤ 64) ∧
    (∃ (q : Req) (index : BitVec 32) (value : List Byte) (s : State), (value.length = 0 ∨ 64 < value.length)) ∧
    (∃ (q : Req) (index : BitVec 32) (value : List Byte) (s : State), 1 ≤ value.length ∧ value.length ≤ 64 ∧
       mayWrite s q.ep index.toNat value = false) ∧
    (∃ (q : Req) (index : BitVec 32) (value : List Byte) (s : State), 1 ≤ value.length ∧ value.length ≤ 64 ∧
       mayWrite s q.ep index.toNat value = true ∧ indexRow index.toNat = none) ∧
    (∃ (q : Req) (index : BitVec 32) (value : List Byte) (r : AttrRow) (s : State), 1 ≤ value.length ∧
       value.length ≤ 64 ∧ mayWrite s q.ep index.toNat value = true ∧ indexRow index.toNat = some r ∧
       writable (indexParts index.toNat).1 (indexParts index.toNat).2.1 r = false) ∧
    (∃ (q : Req) (index : BitVec 32) (value : List Byte) (r : AttrRow) (s : State), 1 ≤ value.length ∧
       value.length ≤ 64 ∧ mayWrite s q.ep index.toNat value = true ∧ indexRow index.toNat = some r ∧
       writable (indexParts index.toNat).1 (indexParts index.toNat).2.1 r = true ∧ (64 < r.size ∨ value.length ≠ r.size)) ∧
    (∃ (q : Req) (index : BitVec 32) (value : List Byte) (r : AttrRow) (s : State), 1 ≤ value.length ∧
       value.length ≤ 64 ∧ mayWrite s q.ep index.toNat value = true ∧ indexRow index.toNat = some r ∧
       writable (indexParts index.toNat).1 (indexParts index.toNat).2.1 r = true ∧ r.size ≤ 64 ∧
       value.length = r.size ∧ r.access = .rws) ∧
    (∃ (q : Req) (index : BitVec 32) (value : List Byte) (r : AttrRow) (s : State), 1 ≤ value.length ∧
       value.length ≤ 64 ∧ mayWrite s q.ep index.toNat value = true ∧ indexRow index.toNat = some r ∧
       writable (indexParts index.toNat).1 (indexParts index.toNat).2.1 r = true ∧ r.size ≤ 64 ∧
       value.length = r.size ∧ r.access = .w1c) ∧
    (∃ (q : Req) (index : BitVec 32) (value : List Byte) (r : AttrRow) (s : State), 1 ≤ value.length ∧
       value.length ≤ 64 ∧ mayWrite s q.ep index.toNat value = true ∧ indexRow index.toNat = some r ∧
       writable (indexParts index.toNat).1 (indexParts index.toNat).2.1 r = true ∧ r.size ≤ 64 ∧
       value.length = r.size ∧ (r.access = .rw ∨ r.access = .wo)) ∧
    (∃ (q : Req) (index off : BitVec 32) (len : BitVec 16) (s : State), (len.toNat = 0 ∨ 1000 < len.toNat)) ∧
    (∃ (q : Req) (index off : BitVec 32) (len : BitVec 16) (s : State), 1 ≤ len.toNat ∧ len.toNat ≤ 1000 ∧
       indexRow index.toNat = none) ∧
    (∃ (q : Req) (index off : BitVec 32) (len : BitVec 16) (r : AttrRow) (wb : List Byte) (s : State),
       1 ≤ len.toNat ∧ len.toNat ≤ 1000 ∧ indexRow index.toNat = some r ∧ indexSpan index.toNat = true ∧
       wb = (spanRows s (indexParts index.toNat).1 (indexParts index.toNat).2.2).flatMap (fun a => readBytes s
       (indexStaged index.toNat) (indexParts index.toNat).1 (indexParts index.toNat).2.1 a 0 a.size) ∧
       wb.length < off.toNat + len.toNat) ∧
    (∃ (q : Req) (index off : BitVec 32) (len : BitVec 16) (r : AttrRow) (wb : List Byte) (s : State),
       1 ≤ len.toNat ∧ len.toNat ≤ 1000 ∧ indexRow index.toNat = some r ∧ indexSpan index.toNat = true ∧
       wb = (spanRows s (indexParts index.toNat).1 (indexParts index.toNat).2.2).flatMap (fun a => readBytes s
       (indexStaged index.toNat) (indexParts index.toNat).1 (indexParts index.toNat).2.1 a 0 a.size) ∧
       off.toNat + len.toNat ≤ wb.length) ∧
    (∃ (q : Req) (index off : BitVec 32) (len : BitVec 16) (r : AttrRow) (s : State), 1 ≤ len.toNat ∧
       len.toNat ≤ 1000 ∧ indexRow index.toNat = some r ∧ indexSpan index.toNat = false ∧
       (indexParts index.toNat).1 = 0x01 ∧ (indexParts index.toNat).2.2 = 0x14 ∧ (off.toNat % 4 ≠ 0 ∨
       len.toNat % 4 ≠ 0 ∨ 49152 < off.toNat + len.toNat)) ∧
    (∃ (q : Req) (index off : BitVec 32) (len : BitVec 16) (r : AttrRow) (ws : List Word) (s1 : State) (s : State),
       1 ≤ len.toNat ∧ len.toNat ≤ 1000 ∧ indexRow index.toNat = some r ∧ indexSpan index.toNat = false ∧
       (indexParts index.toNat).1 = 0x01 ∧ (indexParts index.toNat).2.2 = 0x14 ∧ off.toNat % 4 = 0 ∧
       len.toNat % 4 = 0 ∧ off.toNat + len.toNat ≤ 49152 ∧ s.regReads false off.toNat (len.toNat / 4) = (ws, s1)) ∧
    (∃ (q : Req) (index off : BitVec 32) (len : BitVec 16) (r : AttrRow) (s : State), 1 ≤ len.toNat ∧
       len.toNat ≤ 1000 ∧ indexRow index.toNat = some r ∧ indexSpan index.toNat = false ∧
       (¬ ((indexParts index.toNat).1 = 0x01 ∧ (indexParts index.toNat).2.2 = 0x14)) ∧
       attrSize s (indexParts index.toNat).1 r < off.toNat + len.toNat) ∧
    (∃ (q : Req) (index off : BitVec 32) (len : BitVec 16) (r : AttrRow) (s : State), 1 ≤ len.toNat ∧
       len.toNat ≤ 1000 ∧ indexRow index.toNat = some r ∧ indexSpan index.toNat = false ∧
       (¬ ((indexParts index.toNat).1 = 0x01 ∧ (indexParts index.toNat).2.2 = 0x14)) ∧
       off.toNat + len.toNat ≤ attrSize s (indexParts index.toNat).1 r) ∧
    (∃ (q : Req) (index off : BitVec 32) (data : List Byte) (s : State), (data.length = 0 ∨ 1000 < data.length)) ∧
    (∃ (q : Req) (index off : BitVec 32) (data : List Byte) (s : State), 1 ≤ data.length ∧ data.length ≤ 1000 ∧
       mayWrite s q.ep index.toNat data = false) ∧
    (∃ (q : Req) (index off : BitVec 32) (data : List Byte) (s : State), 1 ≤ data.length ∧ data.length ≤ 1000 ∧
       mayWrite s q.ep index.toNat data = true ∧ indexRow index.toNat = none) ∧
    (∃ (q : Req) (index off : BitVec 32) (data : List Byte) (r : AttrRow) (s : State), 1 ≤ data.length ∧
       data.length ≤ 1000 ∧ mayWrite s q.ep index.toNat data = true ∧ indexRow index.toNat = some r ∧
       indexSpan index.toNat = true) ∧
    (∃ (q : Req) (index off : BitVec 32) (data : List Byte) (r : AttrRow) (s : State), 1 ≤ data.length ∧
       data.length ≤ 1000 ∧ mayWrite s q.ep index.toNat data = true ∧ indexRow index.toNat = some r ∧
       indexSpan index.toNat = false ∧ writable (indexParts index.toNat).1 (indexParts index.toNat).2.1 r = false) ∧
    (∃ (q : Req) (index off : BitVec 32) (data : List Byte) (r : AttrRow) (s : State), 1 ≤ data.length ∧
       data.length ≤ 1000 ∧ mayWrite s q.ep index.toNat data = true ∧ indexRow index.toNat = some r ∧
       indexSpan index.toNat = false ∧ writable (indexParts index.toNat).1 (indexParts index.toNat).2.1 r = true ∧
       (r.size ≤ 64 ∨ r.access ≠ .rws)) ∧
    (∃ (q : Req) (index off : BitVec 32) (data : List Byte) (r : AttrRow) (s : State), 1 ≤ data.length ∧
       data.length ≤ 1000 ∧ mayWrite s q.ep index.toNat data = true ∧ indexRow index.toNat = some r ∧
       indexSpan index.toNat = false ∧ writable (indexParts index.toNat).1 (indexParts index.toNat).2.1 r = true ∧
       64 < r.size ∧ r.access = .rws ∧ r.size < off.toNat + data.length) ∧
    (∃ (q : Req) (index off : BitVec 32) (data : List Byte) (r : AttrRow) (s : State), 1 ≤ data.length ∧
       data.length ≤ 1000 ∧ mayWrite s q.ep index.toNat data = true ∧ indexRow index.toNat = some r ∧
       indexSpan index.toNat = false ∧ writable (indexParts index.toNat).1 (indexParts index.toNat).2.1 r = true ∧
       64 < r.size ∧ r.access = .rws ∧ off.toNat + data.length ≤ r.size) :=
  ⟨⟨⟨1, 0, 0⟩, 0, State.reset, by decide +kernel⟩,
    ⟨⟨1, 0, 0⟩, 0x000E0003#32, (indexRow 0x000E0003).getD ⟨0, 0, 0, .ro, false, [], 0, []⟩, State.reset,
    by decide +kernel⟩,
    ⟨⟨1, 0, 0⟩, 0x00010002#32, (indexRow 0x00010002).getD ⟨0, 0, 0, .ro, false, [], 0, []⟩, State.reset,
    by decide +kernel⟩,
    ⟨⟨1, 0, 0⟩, 0, [], State.reset, by decide +kernel⟩,
    ⟨⟨0, 0, 0⟩, 0x0001000E#32, [0, 0, 0, 0], State.reset, by decide +kernel⟩,
    ⟨⟨1, 0, 0⟩, 0#32, [0], live, by decide +kernel⟩,
    ⟨⟨1, 0, 0⟩, 0x00010001#32, [0], (indexRow 0x00010001).getD ⟨0, 0, 0, .ro, false, [], 0, []⟩, live, by decide +kernel⟩,
    ⟨⟨1, 0, 0⟩, 0x0001000E#32, [0], (indexRow 0x0001000E).getD ⟨0, 0, 0, .ro, false, [], 0, []⟩, live, by decide +kernel⟩,
    ⟨⟨1, 0, 0⟩, 0x0001000E#32, [0, 0, 0, 0], (indexRow 0x0001000E).getD ⟨0, 0, 0, .ro, false, [], 0, []⟩, live,
    by decide +kernel⟩,
    ⟨⟨1, 0, 0⟩, 0x00010015#32, [1], (indexRow 0x00010015).getD ⟨0, 0, 0, .ro, false, [], 0, []⟩, live, by decide +kernel⟩,
    ⟨⟨1, 0, 0⟩, 0x000A0001#32, [1], (indexRow 0x000A0001).getD ⟨0, 0, 0, .ro, false, [], 0, []⟩, live, by decide +kernel⟩,
    ⟨⟨1, 0, 0⟩, 0, 0, 0, State.reset, by decide +kernel⟩,
    ⟨⟨1, 0, 0⟩, 0, 0, 1, State.reset, by decide +kernel⟩,
    ⟨⟨1, 0, 0⟩, 0x02010001#32, 0, 1000, (indexRow 0x00010001).getD ⟨0, 0, 0, .ro, false, [], 0, []⟩, _, State.reset,
    ⟨by decide +kernel, by decide +kernel, by decide +kernel, by decide +kernel, rfl, by decide +kernel⟩⟩,
    ⟨⟨1, 0, 0⟩, 0x02010001#32, 0, 1, (indexRow 0x00010001).getD ⟨0, 0, 0, .ro, false, [], 0, []⟩, _, State.reset,
    ⟨by decide +kernel, by decide +kernel, by decide +kernel, by decide +kernel, rfl, by decide +kernel⟩⟩,
    ⟨⟨1, 0, 0⟩, 0x00010014#32, 0, 1, (indexRow 0x00010014).getD ⟨0, 0, 0, .ro, false, [], 0, []⟩, State.reset,
    by decide +kernel⟩,
    ⟨⟨1, 0, 0⟩, 0x00010014#32, 0, 4, (indexRow 0x00010014).getD ⟨0, 0, 0, .ro, false, [], 0, []⟩, _, _, State.reset,
    ⟨by decide +kernel, by decide +kernel, by decide +kernel, by decide +kernel, by decide +kernel, by decide +kernel,
    by decide +kernel, by decide +kernel, by decide +kernel, rfl⟩⟩,
    ⟨⟨1, 0, 0⟩, 0x00010001#32, 0, 1000, (indexRow 0x00010001).getD ⟨0, 0, 0, .ro, false, [], 0, []⟩, State.reset,
    by decide +kernel⟩,
    ⟨⟨1, 0, 0⟩, 0x00010001#32, 0, 2, (indexRow 0x00010001).getD ⟨0, 0, 0, .ro, false, [], 0, []⟩, State.reset,
    by decide +kernel⟩,
    ⟨⟨1, 0, 0⟩, 0, 0, [], State.reset, by decide +kernel⟩,
    ⟨⟨0, 0, 0⟩, 0x0001000E#32, 0, [0, 0, 0, 0], State.reset, by decide +kernel⟩,
    ⟨⟨1, 0, 0⟩, 0#32, 0, [0], live, by decide +kernel⟩,
    ⟨⟨1, 0, 0⟩, 0x020E0003#32, 0, [0], (indexRow 0x000E0003).getD ⟨0, 0, 0, .ro, false, [], 0, []⟩, live,
    by decide +kernel⟩,
    ⟨⟨1, 0, 0⟩, 0x00010001#32, 0, [0], (indexRow 0x00010001).getD ⟨0, 0, 0, .ro, false, [], 0, []⟩, live,
    by decide +kernel⟩,
    ⟨⟨1, 0, 0⟩, 0x0001000E#32, 0, [0], (indexRow 0x0001000E).getD ⟨0, 0, 0, .ro, false, [], 0, []⟩, live,
    by decide +kernel⟩,
    ⟨⟨1, 0, 0⟩, 0x000E0003#32, 1024, [0], (indexRow 0x000E0003).getD ⟨0, 0, 0, .ro, false, [], 0, []⟩, live,
    by decide +kernel⟩,
    ⟨⟨1, 0, 0⟩, 0x000E0003#32, 0, [0], (indexRow 0x000E0003).getD ⟨0, 0, 0, .ro, false, [], 0, []⟩, live,
    by decide +kernel⟩⟩

/-- The hypotheses of ConfigurationsAreCommitted are met. -/
theorem witness_ConfigurationsAreCommitted :
    (∃ (q : Req) (apply : CellTime) (hash : BitVec 64) (t : CellTime) (s : State),
       commitCheck s q.ep apply hash = none ∧ (t = if apply = 0 then ctAddNs (now s) (s.p 4 0x01 0 0x0E * 1000) else
       apply)) ∧
    (∃ (q : Req) (apply : CellTime) (hash : BitVec 64) (code : BitVec 16) (i : Nat) (s : State),
       commitCheck s q.ep apply hash = some (code, i)) ∧
    (∃ (q : Req) (h : Nat) (s : State), mayConfigure s q.ep = true ∧
       (h = if s.commit.isSome then s.p 8 0x01 0 0x0D else s.p 8 0x01 0 0x08)) ∧
    (∃ (q : Req) (s : State), mayConfigure s q.ep = false) ∧
    (∃ (s : State), s.commit = none) ∧
    (∃ (c : Commit) (s : State), s.commit = some c ∧ reached c.apply (now s) = false) ∧
    (∃ (c : Commit) (s1 : State) (s : State), s.commit = some c ∧ reached c.apply (now s) = true ∧ s1 =
       { s.recordEpochs.withContent c.content with
         commit := none, journalCommits := s.journalCommits ++ [commitAwait s c] }) ∧
    (∃ (s : State), s.journalCommits = []) ∧
    (∃ (c : Commit) (rest : List Commit) (s : State), s.journalCommits = c :: rest ∧ c.waiting.isEmpty = false) ∧
    (∃ (c : Commit) (rest : List Commit) (s : State), s.journalCommits = c :: rest ∧ c.waiting.isEmpty = true) ∧
    (∃ (ok : Bool) (s : State), s.sup.persist = none) ∧
    (∃ (slot : Bool) (img : List Byte) (a boot fw : Nat) (s2 : State) (s : State), s.sup.persist = some (slot,
       img) ∧ headerSlots s = (a, boot, fw) ∧ s.sup.persistAgain = false ∧
       s2 = (((State.writeNor ((({ s with sup := { s.sup with persist := none } } : State)).eraseNor
           (configSlot s slot) ((slotSizes (norDensity s)).1 * 1024)) (configSlot s slot) img).writeHeader (if slot then
             1 else 0) boot
           fw).setP 1 0x01 0 0x10 0)) ∧
    (∃ (slot : Bool) (img : List Byte) (a boot fw : Nat) (s2 : State) (s : State), s.sup.persist = some (slot,
       img) ∧ headerSlots s = (a, boot, fw) ∧ s.sup.persistAgain = true ∧
       s2 = (((State.writeNor ((({ s with sup := { s.sup with persist := none } } : State)).eraseNor
           (configSlot s slot) ((slotSizes (norDensity s)).1 * 1024)) (configSlot s slot) img).writeHeader (if slot then
             1 else 0) boot
           fw).setP 1 0x01 0 0x10 0)) ∧
    (∃ (slot : Bool) (img : List Byte) (a boot fw : Nat) (s2 : State) (s : State), s.sup.persist = some (slot,
       img) ∧ headerSlots s = (a, boot, fw) ∧ s.sup.persistAgain = false ∧
       s2 = ((((({ s with sup := { s.sup with persist := none } } : State).failRange (configSlot s slot) img.length).setP
       1 0x01 0
           0x10 2).orP 0x01 0 0x15 8).norFailed)) ∧
    (∃ (slot : Bool) (img : List Byte) (a boot fw : Nat) (s2 : State) (s : State), s.sup.persist = some (slot,
       img) ∧ headerSlots s = (a, boot, fw) ∧ s.sup.persistAgain = true ∧
       s2 = ((((({ s with sup := { s.sup with persist := none } } : State).failRange (configSlot s slot) img.length).setP
       1 0x01 0
           0x10 2).orP 0x01 0 0x15 8).norFailed)) :=
  ⟨⟨⟨1, 0, 0⟩, 0, 0, _, live, ⟨by decide +kernel, rfl⟩⟩,
    ⟨⟨0, 0, 0⟩, 0, 0, rcNotAuthority, 0xFFFFFFFF, State.reset, by decide +kernel⟩,
    ⟨⟨1, 0, 0⟩, _, live, ⟨by decide +kernel, rfl⟩⟩,
    ⟨⟨0, 0, 0⟩, State.reset, by decide +kernel⟩,
    ⟨State.reset, by decide +kernel⟩,
    ⟨⟨2 ^ 71, 1, 0, [], allBanks, 0⟩, { live with commit := some ⟨2 ^ 71, 1, 0, [], allBanks, 0⟩ }, ⟨rfl,
    by decide +kernel⟩⟩,
    ⟨⟨0, 1, 0, [], allBanks, 0⟩, _, { live with commit := some ⟨0, 1, 0, [], allBanks, 0⟩ }, ⟨rfl, by decide +kernel,
    rfl⟩⟩,
    ⟨State.reset, by decide +kernel⟩,
    ⟨⟨0, 0, 0, [], [0], 0⟩, [], { live with journalCommits := [⟨0, 0, 0, [], [0], 0⟩] }, by decide +kernel⟩,
    ⟨⟨0, 0, 0, [], [], 0⟩, [], { live with journalCommits := [⟨0, 0, 0, [], [], 0⟩] }, by decide +kernel⟩,
    ⟨false, State.reset, by decide +kernel⟩,
    ⟨false, [], _, _, _, _, { live with sup := { live.sup with persist := some (false, []), persistAgain := false } },
    ⟨by decide +kernel, rfl, by decide +kernel, rfl⟩⟩,
    ⟨false, [], _, _, _, _, { live with sup := { live.sup with persist := some (false, []), persistAgain := true } },
    ⟨by decide +kernel, rfl, by decide +kernel, rfl⟩⟩,
    ⟨false, [], _, _, _, _, { live with sup := { live.sup with persist := some (false, []), persistAgain := false } },
    ⟨by decide +kernel, rfl, by decide +kernel, rfl⟩⟩,
    ⟨false, [], _, _, _, _, { live with sup := { live.sup with persist := some (false, []), persistAgain := true } },
    ⟨by decide +kernel, rfl, by decide +kernel, rfl⟩⟩⟩

/-- The hypotheses of FirmwareUpdatesAndLogSessions are met. -/
theorem witness_FirmwareUpdatesAndLogSessions :
    (∃ (q : Req) (len : BitVec 32) (s : State), mayUpdate s q.ep = false) ∧
    (∃ (q : Req) (len : BitVec 32) (s : State), mayUpdate s q.ep = true ∧ s.sup.session.isSome = true) ∧
    (∃ (q : Req) (len : BitVec 32) (s : State), mayUpdate s q.ep = true ∧ s.sup.session.isSome = false ∧
       (len.toNat = 0 ∨ (slotSizes (norDensity s)).2.2 * 1024 < len.toNat + 256)) ∧
    (∃ (q : Req) (len : BitVec 32) (s : State), mayUpdate s q.ep = true ∧ s.sup.session.isSome = false ∧
       len.toNat ≠ 0 ∧ len.toNat + 256 ≤ (slotSizes (norDensity s)).2.2 * 1024 ∧ norState s ≠ 1) ∧
    (∃ (q : Req) (len : BitVec 32) (s2 : State) (s : State), mayUpdate s q.ep = true ∧
       s.sup.session.isSome = false ∧ len.toNat ≠ 0 ∧ len.toNat + 256 ≤ (slotSizes (norDensity s)).2.2 * 1024 ∧
       norState s = 1 ∧ s2 = { s.eraseNor (fwSlot s (!s.sup.fwSlot)) 4096 with
         sup := { s.sup with
             session := some { ep := q.ep.val, slot := !s.sup.fwSlot, len := len.toNat, received := 0, erased := 0 } } }) ∧
    (∃ (q : Req) (off : BitVec 32) (data : List Byte) (s : State), mayUpdate s q.ep = false) ∧
    (∃ (q : Req) (off : BitVec 32) (data : List Byte) (s : State), mayUpdate s q.ep = true ∧ s.sup.session = none) ∧
    (∃ (q : Req) (off : BitVec 32) (data : List Byte) (f : FwSession) (s : State),
       mayUpdate s q.ep = true ∧ s.sup.session = some f ∧ f.ep ≠ q.ep.val) ∧
    (∃ (q : Req) (off : BitVec 32) (data : List Byte) (f : FwSession) (s : State),
       mayUpdate s q.ep = true ∧ s.sup.session = some f ∧ f.ep = q.ep.val ∧ (data.length = 0 ∨ 1008 < data.length)) ∧
    (∃ (q : Req) (off : BitVec 32) (data : List Byte) (f : FwSession) (s : State),
       mayUpdate s q.ep = true ∧ s.sup.session = some f ∧ f.ep = q.ep.val ∧ data.length ≠ 0 ∧
       data.length ≤ 1008 ∧ (off.toNat ≠ f.received ∨ f.len + 256 < off.toNat + data.length)) ∧
    (∃ (q : Req) (off : BitVec 32) (data : List Byte) (f : FwSession) (s : State),
       mayUpdate s q.ep = true ∧ s.sup.session = some f ∧ f.ep = q.ep.val ∧ data.length ≠ 0 ∧
       data.length ≤ 1008 ∧ off.toNat = f.received ∧ off.toNat + data.length ≤ f.len + 256 ∧
       f.erased ≤ (off.toNat + data.length - 1) / 65536) ∧
    (∃ (q : Req) (off : BitVec 32) (data : List Byte) (f : FwSession) (a : Nat) (s1 s2 : State) (s : State),
       mayUpdate s q.ep = true ∧ s.sup.session = some f ∧ f.ep = q.ep.val ∧ data.length ≠ 0 ∧
       data.length ≤ 1008 ∧ off.toNat = f.received ∧ off.toNat + data.length ≤ f.len + 256 ∧
       (off.toNat + data.length - 1) / 65536 < f.erased ∧ a = fwSlot s f.slot + off.toNat ∧
       s1 = s.writeNor a (programBytes (norBytes s a data.length) data) ∧ s2 = (okRes { s1 with
         sup := { s1.sup with session := some { f with received := off.toNat + data.length } } }).startLong q opFwData) ∧
    (∃ (q : Req) (sigOk norOk : Bool) (s : State), mayUpdate s q.ep = false) ∧
    (∃ (q : Req) (sigOk norOk : Bool) (s : State), mayUpdate s q.ep = true ∧ s.sup.session = none) ∧
    (∃ (q : Req) (sigOk norOk : Bool) (f : FwSession) (s : State), mayUpdate s q.ep = true ∧
       s.sup.session = some f ∧ f.ep ≠ q.ep.val) ∧
    (∃ (q : Req) (sigOk norOk : Bool) (f : FwSession) (s1 : State) (s : State), mayUpdate s q.ep = true ∧
       s.sup.session = some f ∧ f.ep = q.ep.val ∧ f.received ≠ f.len + 256 ∧
       s1 = ({ (s) with sup := { (s).sup with session := none } } : State).fwRecord f.slot rcOutOfRange) ∧
    (∃ (q : Req) (sigOk norOk : Bool) (f : FwSession) (s1 : State) (s : State), mayUpdate s q.ep = true ∧
       s.sup.session = some f ∧ f.ep = q.ep.val ∧ f.received = f.len + 256 ∧ slotCheck s f.slot sigOk ≠ 1 ∧
       s1 = ({ (s) with sup := { (s).sup with session := none } } : State).fwRecord f.slot rcSignature) ∧
    (∃ (q : Req) (sigOk : Bool) (f : FwSession) (cfg boot pref : Nat) (s1 s2 : State) (s : State),
       mayUpdate s q.ep = true ∧ s.sup.session = some f ∧ f.ep = q.ep.val ∧ f.received = f.len + 256 ∧
       slotCheck s f.slot sigOk = 1 ∧ headerSlots s = (cfg, boot, pref) ∧
       (s1 = s.writeHeader cfg boot (if f.slot then 1 else 0)) ∧
       s2 = ({ (s1) with sup := { (s1).sup with session := none } } : State).fwRecord f.slot 0) ∧
    (∃ (q : Req) (sigOk : Bool) (f : FwSession) (s2 : State) (s : State), mayUpdate s q.ep = true ∧
       s.sup.session = some f ∧ f.ep = q.ep.val ∧ f.received = f.len + 256 ∧ slotCheck s f.slot sigOk = 1 ∧ s2 =
       ({ (s.norFailed) with
         sup := { (s.norFailed).sup with session := none } } : State).fwRecord f.slot rcMemoryFailure) ∧
    (∃ (q : Req) (mode max : Nat) (start : BitVec 32) (s : State), 1 < mode) ∧
    (∃ (q : Req) (mode max : Nat) (start : BitVec 32) (s : State), mode ≤ 1 ∧ (max = 0 ∨ 31 < max)) ∧
    (∃ (q : Req) (mode max : Nat) (start from_ first next : BitVec 32) (early : Bool) (rs : List JRec) (pl : List Byte)
       (s1 : State) (s : State), mode ≤ 1 ∧ 1 ≤ max ∧ max ≤ 31 ∧
       (from_ = (if mode = 0 then BitVec.ofNat 32 (s.p 4 0x13 q.ep 0x12) else start)) ∧ recordsFrom s from_ = (early,
       rs) ∧ first = (((rs.take max).head?.map (fun r => r.number)).getD from_) ∧
       next = (((rs.take max).getLast?.map (fun r => r.number + 1)).getD from_) ∧
       (pl = leBytes 1 (rs.take max).length ++ leBytes 1 ((if max < rs.length then 1 else 0) + (if early then 2 else 0))
       ++
           leBytes 2 0 ++ leBytes 4 first.toNat ++ ((rs.take max).map recBytes).flatten) ∧ s1 = CmdRes.startLong ⟨s,
             0, pl⟩ q opJournalRead) :=
  ⟨⟨⟨0, 0, 0⟩, 0, State.reset, by decide +kernel⟩,
    ⟨⟨1, 0, 0⟩, 0, { live with sup := { live.sup with session := some ⟨1, false, 100, 0, 1⟩ } }, by decide +kernel⟩,
    ⟨⟨1, 0, 0⟩, 0, live, by decide +kernel⟩,
    ⟨⟨1, 0, 0⟩, 1, live, by decide +kernel⟩,
    ⟨⟨1, 0, 0⟩, 1, _, (live).modMsp (fun m => { m with norPresent := true }), ⟨by decide +kernel, by decide +kernel,
    by decide +kernel, by decide +kernel, by decide +kernel, rfl⟩⟩,
    ⟨⟨0, 0, 0⟩, 0, [], State.reset, by decide +kernel⟩,
    ⟨⟨1, 0, 0⟩, 0, [], live, by decide +kernel⟩,
    ⟨⟨1, 0, 0⟩, 0, [], ⟨2, false, 100, 0, 1⟩,
    { live with sup := { live.sup with session := some ⟨2, false, 100, 0, 1⟩ } }, by decide +kernel⟩,
    ⟨⟨1, 0, 0⟩, 0, [], ⟨1, false, 100, 0, 1⟩,
    { live with sup := { live.sup with session := some ⟨1, false, 100, 0, 1⟩ } }, by decide +kernel⟩,
    ⟨⟨1, 0, 0⟩, 1, [1], ⟨1, false, 100, 0, 1⟩,
    { live with sup := { live.sup with session := some ⟨1, false, 100, 0, 1⟩ } }, by decide +kernel⟩,
    ⟨⟨1, 0, 0⟩, 0, [1], ⟨1, false, 100, 0, 0⟩,
    { live with sup := { live.sup with session := some ⟨1, false, 100, 0, 0⟩ } }, by decide +kernel⟩,
    ⟨⟨1, 0, 0⟩, 0, [1], ⟨1, false, 100, 0, 1⟩, _, _, _,
    { live with sup := { live.sup with session := some ⟨1, false, 100, 0, 1⟩ } }, ⟨by decide +kernel, rfl,
    by decide +kernel, by decide +kernel, by decide +kernel, by decide +kernel, by decide +kernel, by decide +kernel, rfl,
    rfl, rfl⟩⟩,
    ⟨⟨0, 0, 0⟩, false, false, State.reset, by decide +kernel⟩,
    ⟨⟨1, 0, 0⟩, false, false, live, by decide +kernel⟩,
    ⟨⟨1, 0, 0⟩, false, false, ⟨2, false, 100, 0, 1⟩,
    { live with sup := { live.sup with session := some ⟨2, false, 100, 0, 1⟩ } }, by decide +kernel⟩,
    ⟨⟨1, 0, 0⟩, false, false, ⟨1, false, 100, 0, 1⟩, _,
    { live with sup := { live.sup with session := some ⟨1, false, 100, 0, 1⟩ } }, ⟨by decide +kernel, rfl,
    by decide +kernel, by decide +kernel, rfl⟩⟩,
    ⟨⟨1, 0, 0⟩, false, false, ⟨1, false, 100, 356, 1⟩, _,
    { live with sup := { live.sup with session := some ⟨1, false, 100, 356, 1⟩ } }, ⟨by decide +kernel, rfl,
    by decide +kernel, by decide +kernel, by decide +kernel, rfl⟩⟩,
    ⟨⟨1, 0, 0⟩, true, ⟨1, false, 1, 257, 1⟩, _, _, _, _, _, fwDone, ⟨by decide +kernel, rfl, by decide +kernel,
    by decide +kernel, by decide +kernel, rfl, rfl, rfl⟩⟩,
    ⟨⟨1, 0, 0⟩, true, ⟨1, false, 1, 257, 1⟩, _, fwDone, ⟨by decide +kernel, rfl, by decide +kernel, by decide +kernel,
    by decide +kernel, rfl⟩⟩,
    ⟨⟨1, 0, 0⟩, 2, 0, 0, State.reset, by decide +kernel⟩,
    ⟨⟨1, 0, 0⟩, 0, 0, 0, State.reset, by decide +kernel⟩,
    ⟨⟨1, 0, 0⟩, 0, 1, 0, _, _, _, _, _, _, _, live, ⟨by decide +kernel, by decide +kernel, by decide +kernel, rfl, rfl,
    rfl, rfl, rfl, rfl⟩⟩⟩

/-- The hypotheses of TheMemoryArbiterServesNor are met. -/
theorem witness_TheMemoryArbiterServesNor :
    (∃ (data : List Byte) (s : State), s.msp.entries.find? (fun e => e.active) = none) ∧
    (∃ (data : List Byte) (e : MspEntry) (s : State), s.msp.entries.find? (fun e => e.active) = some e ∧
       e.requester = 4 ∧ e.read = true ∧ data.length ≠ e.dataBits / 8) ∧
    (∃ (data : List Byte) (e : MspEntry) (s1 : State) (s : State),
       s.msp.entries.find? (fun e => e.active) = some e ∧ e.requester = 4 ∧ e.read = false ∧
       s1 = s.modMsp (fun m => { m with entries := m.entries.filter (fun x => !x.active) })) ∧
    (∃ (data : List Byte) (e : MspEntry) (s1 : State) (s : State),
       s.msp.entries.find? (fun e => e.active) = some e ∧ e.requester = 4 ∧ e.read = true ∧
       data.length = e.dataBits / 8 ∧ s1 = s.modMsp (fun m =>
       { m with entries := m.entries.filter (fun x => !x.active) })) ∧
    (∃ (data : List Byte) (e : MspEntry) (more : Bool) (s1 s2 : State) (s : State),
       s.msp.entries.find? (fun e => e.active) = some e ∧ e.requester ≠ 4 ∧
       s1 = s.modMsp (fun m => { m with entries := m.entries.filter (fun x => !x.active) }) ∧
       more = s1.msp.entries.any (fun x => x.requester == 0) ∧ s2 = (s1.modMsp (fun m => { m with
         norOp := m.norOp.map (fun o => { o with suspended := o.suspended && more }), holdCount := 0 })).incAt 4 0x19 0
       0x12 0) ∧
    (∃ (addr : Nat) (s : State), (norSize s ≤ addr ∨ 2 ≤ mspLevel s 0)) ∧
    (∃ (addr : Nat) (s : State), addr < norSize s ∧ mspLevel s 0 < 2 ∧ (s.msp.suspendOk = false ∨
       s.msp.norOp.any (fun o => !o.suspended) = false)) ∧
    (∃ (addr : Nat) (s : State), addr < norSize s ∧ mspLevel s 0 < 2 ∧ s.msp.suspendOk = true ∧
       s.msp.norOp.any (fun o => !o.suspended) = true) ∧
    (∃ (priv : Bool) (addr : Nat) (data : List Byte) (s : State), (priv = false ∨ touchesMirror addr data.length = true)) ∧
    (∃ (addr : Nat) (data : List Byte) (s : State), touchesMirror addr data.length = false ∧
       norSize s < addr + data.length) ∧
    (∃ (addr : Nat) (data : List Byte) (s : State), touchesMirror addr data.length = false ∧
       addr + data.length ≤ norSize s) ∧
    (∃ (addr : Nat) (data : List Byte) (s : State), touchesMirror addr data.length = false ∧
       addr + data.length ≤ norSize s ∧ data ≠ [] ∧ addr % 256 + data.length ≤ 256 ∧ s.msp.stalled = [] ∧
       s.msp.norOp.any (fun o => !o.erase) = false ∧ s.msp.gatherPage.all (fun p => p == addr / 256) = true) ∧
    (∃ (addr : Nat) (data : List Byte) (p : Nat) (s : State), touchesMirror addr data.length = false ∧
       addr + data.length ≤ norSize s ∧ data ≠ [] ∧ addr % 256 + data.length ≤ 256 ∧ s.msp.stalled = [] ∧
       s.msp.norOp = none ∧ s.msp.gatherPage = some p ∧ p ≠ addr / 256) ∧
    (∃ (s : State), s.msp.norOp = none ∧ elapsed s s.msp.gatherAt 2000 = true) ∧
    (∃ (s : State), (s.msp.norOp ≠ none ∨ elapsed s s.msp.gatherAt 2000 = false)) ∧
    (∃ (s : State), s.msp.norOp = none) ∧
    (∃ (priv : Bool) (s : State), (priv = false ∨ s.msp.norOp ≠ none)) ∧
    (∃ (v : Word) (s1 : State) (s : State), s1 = s.modMsp (fun m => { m with eraseReg := v &&& 0x7FFF0000 }) ∧
       v.getLsbD 31 = false) ∧
    (∃ (v : Word) (addr len : Nat) (s1 : State) (s : State),
       (addr = (if v.getLsbD 30 = true then v.toNat / 65536 % 16384 / 16 * 65536 else v.toNat / 65536 % 16384 * 4096)) ∧
       (len = (if v.getLsbD 30 = true then 65536 else 4096)) ∧
       s1 = s.modMsp (fun m => { m with eraseReg := v &&& 0x7FFF0000 }) ∧ v.getLsbD 31 = true ∧
       touchesMirror addr len = true) ∧
    (∃ (v : Word) (addr len : Nat) (s1 : State) (s : State),
       (addr = (if v.getLsbD 30 = true then v.toNat / 65536 % 16384 / 16 * 65536 else v.toNat / 65536 % 16384 * 4096)) ∧
       (len = (if v.getLsbD 30 = true then 65536 else 4096)) ∧
       s1 = s.modMsp (fun m => { m with eraseReg := v &&& 0x7FFF0000 }) ∧ v.getLsbD 31 = true ∧
       touchesMirror addr len = false ∧ (s.msp.norOp ≠ none ∨ norSize s < addr + len)) ∧
    (∃ (v : Word) (addr len : Nat) (s1 : State) (s : State),
       (addr = (if v.getLsbD 30 = true then v.toNat / 65536 % 16384 / 16 * 65536 else v.toNat / 65536 % 16384 * 4096)) ∧
       (len = (if v.getLsbD 30 = true then 65536 else 4096)) ∧
       s1 = s.modMsp (fun m => { m with eraseReg := v &&& 0x7FFF0000 }) ∧ v.getLsbD 31 = true ∧
       touchesMirror addr len = false ∧ s.msp.norOp = none ∧ addr + len ≤ norSize s) ∧
    (∃ (busy : Bool) (s : State), s.msp.norOp = none) ∧
    (∃ (busy : Bool) (o : NorOp) (s : State), s.msp.norOp = some o ∧ o.suspended = true) ∧
    (∃ (o : NorOp) (s : State), s.msp.norOp = some o ∧ o.suspended = false) ∧
    (∃ (o : NorOp) (s : State), s.msp.norOp = some o ∧ o.suspended = false ∧ elapsed s o.begun (norLimit o) = false) ∧
    (∃ (o : NorOp) (s : State), s.msp.norOp = some o ∧ o.suspended = false ∧ o.update = false ∧
       elapsed s o.begun (norLimit o) = true) ∧
    (∃ (o : NorOp) (s1 : State) (s : State), s.msp.norOp = some o ∧ o.suspended = false ∧ o.update = true ∧
       elapsed s o.begun (norLimit o) = true ∧ s1 = ((s.modMsp (fun m => { m with norOp := none })).failRange o.addr
       o.len).norFailed) ∧
    (∃ (q : Req) (v : List Byte) (s : State), mayConfigure s q.ep = false) ∧
    (∃ (q : Req) (v : List Byte) (s : State), mayConfigure s q.ep = true ∧ v.length ≠ 64) ∧
    (∃ (q : Req) (v : List Byte) (c : BitVec 16) (s : State), mayConfigure s q.ep = true ∧ v.length = 64 ∧
       xferCheck s q.ep (xferReq v) = some c) ∧
    (∃ (q : Req) (v : List Byte) (s : State), mayConfigure s q.ep = true ∧ v.length = 64 ∧
       xferCheck s q.ep (xferReq v) = none) ∧
    (∃ (q : Req) (v : List Byte) (s : State), mayConfigure s q.ep = false) ∧
    (∃ (q : Req) (v : List Byte) (s : State), mayConfigure s q.ep = true ∧ v.length ≠ 5) ∧
    (∃ (q : Req) (v : List Byte) (s : State), mayConfigure s q.ep = true ∧ v.length = 5 ∧
       v.any (fun b => decide (7 < b.toNat)) = false) ∧
    (∃ (q : Req) (v : List Byte) (s : State), mayConfigure s q.ep = true ∧ v.length = 5 ∧
       v.any (fun b => decide (7 < b.toNat)) = true) ∧
    (∃ (ep : Nat) (since : BitVec 96) (s : State), s.msp.cont = some (ep, since) ∧
       elapsed s since (s.p 2 0x19 0 0x0B * 1000) = true) ∧
    (∃ (ep : Nat) (since : BitVec 96) (s : State), s.msp.cont = some (ep, since) ∧
       elapsed s since (s.p 2 0x19 0 0x0B * 1000) = false) ∧
    (∃ (s : State), s.msp.cont = none) :=
  ⟨⟨[], State.reset, by decide +kernel⟩,
    ⟨[], { fillEntry live 0 with requester := 4, read := true, active := true },
    (live).modMsp (fun m => { m with
        entries := [{ fillEntry live 0 with requester := 4, read := true, active := true }] }),
    by decide +kernel⟩,
    ⟨[], { fillEntry live 0 with requester := 4, read := false, active := true }, _,
    (live).modMsp (fun m => { m with
        entries := [{ fillEntry live 0 with requester := 4, read := false, active := true }] }),
    ⟨by decide +kernel, by decide +kernel, by decide +kernel, rfl⟩⟩,
    ⟨[], { fillEntry live 0 with requester := 4, dataBits := 0, active := true }, _,
    (live).modMsp (fun m => { m with
        entries := [{ fillEntry live 0 with requester := 4, dataBits := 0, active := true }] }),
    ⟨by decide +kernel, by decide +kernel, by decide +kernel, by decide +kernel, rfl⟩⟩,
    ⟨[], { fillEntry live 0 with active := true }, _, _, _,
    (live).modMsp (fun m => { m with entries := [{ fillEntry live 0 with active := true }] }), ⟨by decide +kernel,
    by decide +kernel, rfl, rfl, rfl⟩⟩,
    ⟨0, State.reset, by decide +kernel⟩,
    ⟨0, live.setP 2 0x19 0 0x0F 128, by decide +kernel⟩,
    ⟨0,
    (live.setP 2 0x19 0 0x0F 128).modMsp (fun m => { m with
        suspendOk := true, norOp := some ⟨0, 4096, false, 0, [], false, false⟩ }),
    by decide +kernel⟩,
    ⟨false, 0, [], State.reset, by decide +kernel⟩,
    ⟨0, [1], live, by decide +kernel⟩,
    ⟨0, [], live.setP 2 0x19 0 0x0F 128, by decide +kernel⟩,
    ⟨65536, [1], live.setP 2 0x19 0 0x0F 128, by decide +kernel⟩,
    ⟨65536, [1], 3, (live.setP 2 0x19 0 0x0F 128).modMsp (fun m => { m with gatherPage := some 3 }), by decide +kernel⟩,
    ⟨live.modTb (fun x => { x with mono := 2 ^ 90 }), by decide +kernel⟩,
    ⟨State.reset, by decide +kernel⟩,
    ⟨State.reset, by decide +kernel⟩,
    ⟨false, State.reset, by decide +kernel⟩,
    ⟨0, _, State.reset, ⟨rfl, by decide +kernel⟩⟩,
    ⟨0x800C0000, _, _, _, State.reset, ⟨rfl, rfl, rfl, by decide +kernel, by decide +kernel⟩⟩,
    ⟨0x80200000, _, _, _, State.reset, ⟨rfl, rfl, rfl, by decide +kernel, by decide +kernel, by decide +kernel⟩⟩,
    ⟨0x80200000, _, _, _, live.setP 2 0x19 0 0x0F 128, ⟨rfl, rfl, rfl, by decide +kernel, by decide +kernel,
    by decide +kernel, by decide +kernel⟩⟩,
    ⟨false, State.reset, by decide +kernel⟩,
    ⟨false, ⟨0, 4096, false, 0, [], true, false⟩,
    (live).modMsp (fun m => { m with norOp := some ⟨0, 4096, false, 0, [], true, false⟩ }), by decide +kernel⟩,
    ⟨⟨0, 4096, false, 0, [], false, false⟩,
    (live).modMsp (fun m => { m with norOp := some ⟨0, 4096, false, 0, [], false, false⟩ }), by decide +kernel⟩,
    ⟨⟨0, 4096, false, 0, [], false, false⟩,
    (live).modMsp (fun m => { m with norOp := some ⟨0, 4096, false, 0, [], false, false⟩ }), by decide +kernel⟩,
    ⟨⟨0, 4096, false, 0, [], false, false⟩,
    ((live).modMsp (fun m => { m with norOp := some ⟨0, 4096, false, 0, [], false, false⟩ })).modTb (fun x =>
      { x with mono := 2 ^ 90 }),
    by decide +kernel⟩,
    ⟨⟨0, 4096, false, 0, [], false, true⟩, _,
    ((live).modMsp (fun m => { m with norOp := some ⟨0, 4096, false, 0, [], false, true⟩ })).modTb (fun x =>
      { x with mono := 2 ^ 90 }),
    ⟨by decide +kernel, by decide +kernel, by decide +kernel, by decide +kernel, rfl⟩⟩,
    ⟨⟨0, 0, 0⟩, [], State.reset, by decide +kernel⟩,
    ⟨⟨1, 0, 0⟩, [], live, by decide +kernel⟩,
    ⟨⟨1, 0, 0⟩, List.replicate 64 0, rcOutOfRange, live, by decide +kernel⟩,
    ⟨⟨1, 0, 0⟩, [2, 0] ++ List.replicate 62 0, live.setBytes 0x19 0 0x08 0 (List.replicate 16 1), by decide +kernel⟩,
    ⟨⟨0, 0, 0⟩, [], State.reset, by decide +kernel⟩,
    ⟨⟨1, 0, 0⟩, [], live, by decide +kernel⟩,
    ⟨⟨1, 0, 0⟩, [0, 1, 2, 3, 4], live, by decide +kernel⟩,
    ⟨⟨1, 0, 0⟩, [0, 1, 2, 3, 8], live, by decide +kernel⟩,
    ⟨0, 0, ((live).modMsp (fun m => { m with cont := some (0, 0) })).modTb (fun x => { x with mono := 2 ^ 90 }),
    by decide +kernel⟩,
    ⟨0, 0, (live.setP 2 0x19 0 0x0B 10).modMsp (fun m => { m with cont := some (0, 0) }), by decide +kernel⟩,
    ⟨State.reset, by decide +kernel⟩⟩

/-- The hypotheses of TheJournalKeepsItsRecords are met. -/
theorem witness_TheJournalKeepsItsRecords :
    (∃ (s : State), s.jrn.incoming = []) ∧
    (∃ (typ : Nat) (unc : Bool) (body : List Byte) (rest : List (Nat × Bool × List Byte)) (s : State),
       s.jrn.incoming = (typ, unc, body) :: rest) ∧
    (∃ (s : State), flushDue s = true) ∧
    (∃ (s : State), flushDue s = false) ∧
    (∃ (block : Nat) (erase : Bool) (s : State), (s.jrn.present = false ∨ s.jrn.blockCount ≤ block ∨
       nandGood s block = false)) ∧
    (∃ (block : Nat) (erase : Bool) (s : State), s.jrn.present = true ∧ block < s.jrn.blockCount ∧
       nandGood s block = true ∧ (erase = true ∨ blockPages s block = [])) ∧
    (∃ (block : Nat) (i : Nat) (p : NandPage) (s1 : State) (s : State), s.jrn.present = true ∧
       block < s.jrn.blockCount ∧ nandGood s block = true ∧ (blockPages s block).getLast? = some (i, p) ∧
       (s1 = (s.grownBad block p.first).modJrn (fun j => { j with
         pages := j.pages.eraseIdx i,
         openBlock := if j.openBlock.any (fun o => o.1 == block) then none else j.openBlock }))) ∧
    (∃ (block : Nat) (s : State), (s.jrn.mounted = false ∨ scrubDue s block = false)) ∧
    (∃ (block bits first : Nat) (src : List NandPage) (s1 : State) (s : State), s.jrn.mounted = true ∧
       scrubDue s block = true ∧ src = (blockPages s block).map (fun x => x.2) ∧
       bits = ((s.jrn.scrubQueue.find? (fun x => x.1 == block)).map (fun x => x.2)).getD 0 ∧
       BitVec.ofNat 32 first = (src.head?.map (fun p => p.first)).getD 0 ∧ (s1 = s.modJrn (fun j => { j with
         scrubQueue := j.scrubQueue.filter (fun x => x.1 != block),
         openBlock := if j.openBlock.any (fun o => o.1 == block) then none else j.openBlock }))) ∧
    (∃ (words : List (Option Nat)) (s : State), (patrolBlocks s = [] ∨ patrolDue s = false)) ∧
    (∃ (words : List (Option Nat)) (b : Nat) (s : State), ((patrolBlocks s).find? (fun b => decide (s.jrn.patrolNext ≤
       b))).or (patrolBlocks s).head? = some b ∧ patrolDue s = true) ∧
    (∃ (s : State), journalState s ≠ 1) ∧
    (∃ (s2 : State) (s : State), journalState s = 1 ∧ s.jrn.pages = [] ∧ (s2 = ((s.mountNumbers.modJrn (fun j => { j with
         openBlock := none,
         blocks := j.blocks.map (fun x => if j.pages.any (fun p => p.block == x.block) then x else
           { x with erases := x.tableErases }) })).setP 1 0x1A 0 0x01 2).wornCheck)) ∧
    (∃ (p : NandPage) (s2 : State) (s : State), journalState s = 1 ∧ s.jrn.pages.getLast? = some p ∧
       p.flags % 2 = 1 ∧ p.records = [] ∧ s2 = ((s.mountNumbers.modJrn (fun j => { j with
         openBlock := some (p.block, p.page + 1), blocks := j.blocks })).setP 1 0x1A 0 0x01 2).wornCheck) ∧
    (∃ (p : NandPage) (r : JRec) (s2 : State) (s : State), journalState s = 1 ∧ s.jrn.pages.getLast? = some p ∧
       p.flags % 2 = 1 ∧ p.records.getLast? = some r ∧ s2 = ((s.mountNumbers.modJrn (fun j => { j with
         openBlock := some (p.block, p.page + 1), blocks := j.blocks })).setP 1 0x1A 0 0x01 2).wornCheck) ∧
    (∃ (p : NandPage) (s2 : State) (s : State), journalState s = 1 ∧ s.jrn.pages.getLast? = some p ∧
       p.flags % 2 = 0 ∧ (s.heartwood.resetCause == 1 || s.heartwood.resetCause == 2) = true ∧
       (s2 = ((s.mountNumbers.modJrn (fun j => { j with
         openBlock := some (p.block, p.page + 1),
         blocks := j.blocks.map (fun x => if j.pages.any (fun p => p.block == x.block) then x else
           { x with erases := x.tableErases }) })).setP 1 0x1A 0 0x01 2).wornCheck)) ∧
    (∃ (p : NandPage) (s2 : State) (s : State), journalState s = 1 ∧ s.jrn.pages.getLast? = some p ∧
       p.flags % 2 = 0 ∧ (s.heartwood.resetCause == 1 || s.heartwood.resetCause == 2) = false ∧
       (s2 = ((s.mountNumbers.modJrn (fun j => { j with
         openBlock := some (p.block, p.page + 1),
         blocks := j.blocks.map (fun x => if j.pages.any (fun p => p.block == x.block) then x else
           { x with erases := x.tableErases }) })).setP 1 0x1A 0 0x01 2).wornCheck)) ∧
    (∃ (s : State), s.canopy.epochDue = []) ∧
    (∃ (v : Nat) (rest : List Nat) (s : State), s.canopy.epochDue = v :: rest) :=
  ⟨⟨State.reset, by decide +kernel⟩,
    ⟨0, false, [], [], (live).modJrn (fun j => { j with incoming := [(0, false, [])] }), by decide +kernel⟩,
    ⟨(live).modJrn (fun j => { j with mounted := true, ram := List.replicate 62 ⟨0, 0, 0, [], 0⟩ }), by decide +kernel⟩,
    ⟨State.reset, by decide +kernel⟩,
    ⟨0, false, State.reset, by decide +kernel⟩,
    ⟨0, false, (live).modJrn (fun j => { j with present := true, blockCount := 4 }), by decide +kernel⟩,
    ⟨0, 0, ⟨0, 0, 0, 0, 0, 0, 0, 0, []⟩, _,
    (live).modJrn (fun j => { j with present := true, blockCount := 4, pages := [⟨0, 0, 0, 0, 0, 0, 0, 0, []⟩] }),
    ⟨by decide +kernel, by decide +kernel, by decide +kernel, by decide +kernel, rfl⟩⟩,
    ⟨0, State.reset, by decide +kernel⟩,
    ⟨0, 3, 0, [⟨0, 0, 0, 0, 0, 0, 0, 0, []⟩], _,
    (live).modJrn (fun j => { j with
        mounted := true, scrubQueue := [(0, 3)], blockCount := 4, pages := [⟨0, 0, 0, 0, 0, 0, 0, 0, []⟩] }),
    ⟨by decide +kernel, by decide +kernel, by decide +kernel, by decide +kernel, by decide +kernel, rfl⟩⟩,
    ⟨[], State.reset, by decide +kernel⟩,
    ⟨[], 0, (live).modJrn (fun j => { j with blockCount := 4, pages := [⟨0, 0, 0, 0, 0, 0, 0, 0, []⟩] }),
    by decide +kernel⟩,
    ⟨live.setP 1 0x1A 0 0x01 2, by decide +kernel⟩,
    ⟨_, live.setP 1 0x1A 0 0x01 1, ⟨by decide +kernel, by decide +kernel, rfl⟩⟩,
    ⟨⟨0, 0, 1, 0, 0, 0, 0, 0, []⟩, _,
    ((live).setP 1 0x1A 0 0x01 1).modJrn (fun j => { j with pages := [⟨0, 0, 1, 0, 0, 0, 0, 0, []⟩] }),
    ⟨by decide +kernel, by decide +kernel, by decide +kernel, by decide +kernel, rfl⟩⟩,
    ⟨⟨0, 0, 1, 0, 0, 0, 0, 0, [⟨0, 0, 0, [], 0⟩]⟩, ⟨0, 0, 0, [], 0⟩, _,
    ((live).setP 1 0x1A 0 0x01 1).modJrn (fun j => { j with pages := [⟨0, 0, 1, 0, 0, 0, 0, 0, [⟨0, 0, 0, [], 0⟩]⟩] }),
    ⟨by decide +kernel, by decide +kernel, by decide +kernel, by decide +kernel, rfl⟩⟩,
    ⟨⟨0, 0, 0, 0, 0, 0, 0, 0, []⟩, _,
    ((live).setP 1 0x1A 0 0x01 1).modJrn (fun j => { j with pages := [⟨0, 0, 0, 0, 0, 0, 0, 0, []⟩] }),
    ⟨by decide +kernel, by decide +kernel, by decide +kernel, by decide +kernel, rfl⟩⟩,
    ⟨⟨0, 0, 0, 0, 0, 0, 0, 0, []⟩, _,
    (((live).setP 1 0x1A 0 0x01 1).modJrn (fun j => { j with pages := [⟨0, 0, 0, 0, 0, 0, 0, 0, []⟩] })).modHw (fun h =>
      { h with resetCause := 5 }),
    ⟨by decide +kernel, by decide +kernel, by decide +kernel, by decide +kernel, rfl⟩⟩,
    ⟨State.reset, by decide +kernel⟩,
    ⟨1, [], { live with canopy := { live.canopy with epochDue := [1] } }, by decide +kernel⟩⟩

/-- The hypotheses of TheSwitchForwardsAndAges are met. -/
theorem witness_TheSwitchForwardsAndAges :
    (∃ (p : Fin 3) (s : State), s.ports[p].up = false) ∧
    (∃ (p : Fin 3) (dropped : List QFrame) (s1 s2 s3 s4 : State) (s : State), s.ports[p].up = true ∧
       dropped = s.ports[p].queue ++ (s.ports[p].sending.map (·.1)).toList ∧
       s1 = (s.loseCapable p false).modPort p (fun (k : Port) => { k with
           up := false, speed := 0, queue := [], sending := none, exchanges := [], okRun := 0, lostRun := 0,
             held := false, tests := 0,
           badAt := s.tb.mono, pdelayAt := none, announceAt := none, announceRx := none
             }) ∧ (s2 = dropped.foldl (fun t x => if x.ptp = true then t else t.portCnt p (18 + 4 * x.tc.val)) s1) ∧ s3 = ((s2.bufStat.flushPorts (1#4 <<< p.val)).ringAll 7).portCnt p 14 ∧ s4 = ((s3.orP 0x15 p 0x1E 1).raise (ident .bbs 1) 8 p).endFault (ident .bbs 7) 8 p) ∧
    (∃ (p : Fin 3) (speed : Nat) (s : State), s.ports[p].up = false ∧
       elapsed s s.ports[p].badAt (s.p 2 0x15 p 0x1A * 1000000) = true ∧
       (modeSpeeds (s.p 1 0x15 p 0x01)).contains speed = true ∧ (s.p 1 0x15 p 0x01 == 1 && s.tb.refType) = false) ∧
    (∃ (p : Fin 3) (speed : Nat) (s : State), (s.ports[p].up = true ∨
       elapsed s s.ports[p].badAt (s.p 2 0x15 p 0x1A * 1000000) = false ∨
       (modeSpeeds (s.p 1 0x15 p 0x01)).contains speed = false ∨ (s.p 1 0x15 p 0x01 == 1 && s.tb.refType) = true)) ∧
    (∃ (p : Fin 3) (f : Frame) (s : State), s.ports[p].up = false) ∧
    (∃ (p : Fin 3) (f : Frame) (s : State), s.ports[p].up = true ∧ (f.len < 64 ∨ s.p 2 0x15 p 0x16 < f.len)) ∧
    (∃ (p : Fin 3) (f : Frame) (s1 : State) (s : State), s.ports[p].up = true ∧ 64 ≤ f.len ∧
       f.len ≤ s.p 2 0x15 p 0x16 ∧ isReserved f.dst = true ∧ f.fcsOk = false ∧ s1 = (s.portCnt p 0).portAdd p 1 f.len) ∧
    (∃ (p : Fin 3) (f : Frame) (s1 : State) (s : State), s.ports[p].up = true ∧ 64 ≤ f.len ∧
       f.len ≤ s.p 2 0x15 p 0x16 ∧ isReserved f.dst = true ∧ f.fcsOk = true ∧ (f.dst = 0x0180C200000E ∧
       f.etype = 0x88F7 ∧ f.tag = none) ∧ s1 = (s.portCnt p 0).portAdd p 1 f.len) ∧
    (∃ (p : Fin 3) (f : Frame) (s1 : State) (s : State), s.ports[p].up = true ∧ 64 ≤ f.len ∧
       f.len ≤ s.p 2 0x15 p 0x16 ∧ isReserved f.dst = true ∧ f.fcsOk = true ∧ (f.dst ≠ 0x0180C200000E ∨
       f.etype ≠ 0x88F7 ∨ f.tag ≠ none) ∧ s1 = (s.portCnt p 0).portAdd p 1 f.len) ∧
    (∃ (p : Fin 3) (f : Frame) (s1 : State) (s : State), s.ports[p].up = true ∧ 64 ≤ f.len ∧
       f.len ≤ s.p 2 0x15 p 0x16 ∧ isReserved f.dst = false ∧ rxClass s p f = none ∧
       s1 = (s.portCnt p 0).portAdd p 1 f.len) ∧
    (∃ (p : Fin 3) (f : Frame) (c : RxClass) (s1 : State) (s : State), s.ports[p].up = true ∧ 64 ≤ f.len ∧
       f.len ≤ s.p 2 0x15 p 0x16 ∧ isReserved f.dst = false ∧ rxClass s p f = some c ∧ f.fcsOk = true ∧
       s1 = (s.portCnt p 0).portAdd p 1 f.len) ∧
    (∃ (p : Fin 3) (f : Frame) (c : RxClass) (s1 : State) (s : State), s.ports[p].up = true ∧ 64 ≤ f.len ∧
       f.len ≤ s.p 2 0x15 p 0x16 ∧ isReserved f.dst = false ∧ rxClass s p f = some c ∧ f.fcsOk = false ∧
       (f.dst = gclRing ∨ (f.rtag.isNone && portRestricted s p) = true) ∧ s1 = (s.portCnt p 0).portAdd p 1 f.len) ∧
    (∃ (p : Fin 3) (f : Frame) (c : RxClass) (s2 : State) (s : State), s.ports[p].up = true ∧ 64 ≤ f.len ∧
       f.len ≤ s.p 2 0x15 p 0x16 ∧ isReserved f.dst = false ∧ rxClass s p f = some c ∧ f.fcsOk = false ∧
       f.dst ≠ gclRing ∧ (f.rtag.isNone && portRestricted s p) = false ∧
       s2 = ((s.portCnt p 0).portAdd p 1 f.len).badFcs p) ∧
    (∃ (p : Fin 3) (x : GateList) (t : CellTime) (s : State), (s.ports[p]).admin = some (x, t) ∧ reached t (now s) = true) ∧
    (∃ (p : Fin 3) (x : GateList) (t : CellTime) (s : State), (s.ports[p]).admin = some (x, t) ∧
       reached t (now s) = false) ∧
    (∃ (p : Fin 3) (s : State), (s.ports[p]).admin = none) ∧
    (∃ (s : State), s.p 2 0x16 0 0x02 ≠ 0) ∧
    (∃ (s : State), s.p 2 0x16 0 0x02 = 0) ∧
    (∃ (q : Req) (s : State), mayConfigure s q.ep = true) ∧
    (∃ (q : Req) (mask : Byte) (s : State), mayConfigure s q.ep = true ∧ mask ≠ 0 ∧ mask ≤ 7) ∧
    (∃ (q : Req) (mask : Byte) (s : State), mayConfigure s q.ep = true ∧ mask ≠ 0xFF ∧ (mask = 0 ∨ 7 < mask)) ∧
    (∃ (q : Req) (mask : Byte) (s : State), mayConfigure s q.ep = false) ∧
    (∃ (table i : Nat) (s : State), table ≠ 0) ∧
    (∃ (i : Fin 256) (s : State), ((streamCfg s i).idMode = 0 ∨ (streamCfg s i).latent = false ∨
       elapsed s (streamSt s i).testAt 2000000000 = false)) ∧
    (∃ (i : Fin 256) (y : StreamSt) (s : State), (streamCfg s i).idMode ≠ 0 ∧ (streamCfg s i).latent = true ∧
       elapsed s (streamSt s i).testAt 2000000000 = true ∧ (streamSt s i).testDup + (streamCfg s i).latentDiff <
       (streamSt s i).testPassed ∧ y = { streamSt s i with testPassed := 0, testDup := 0, testAt := s.tb.mono }) ∧
    (∃ (i : Fin 256) (y : StreamSt) (s : State), (streamCfg s i).idMode ≠ 0 ∧ (streamCfg s i).latent = true ∧
       elapsed s (streamSt s i).testAt 2000000000 = true ∧ (streamSt s i).testPassed ≤ (streamSt s i).testDup +
       (streamCfg s i).latentDiff ∧ y = { streamSt s i with testPassed := 0, testDup := 0, testAt := s.tb.mono }) ∧
    (∃ (i : Fin 256) (s : State), ((streamCfg s i).idMode = 0 ∨ (streamCfg s i).recover = false)) ∧
    (∃ (i : Fin 256) (s : State), (streamCfg s i).idMode ≠ 0 ∧ (streamCfg s i).recover = true) ∧
    (∃ (p : Fin 3) (d : Option Nat) (s : State), (s.ports[p].up = false ∨
       sinceLast s s.ports[p].pdelayAt (logSeconds (s.pI 1 0x15 p 0x0A)) = false)) ∧
    (∃ (p : Fin 3) (s0 s1 : State) (s : State), s.ports[p].up = true ∧
       sinceLast s s.ports[p].pdelayAt (logSeconds (s.pI 1 0x15 p 0x0A)) = true ∧
       s0 = (s.modPort p (fun k => { k with pdelayAt := some s.tb.mono })).sendPtp p (ptpMessage 0x2 54) ∧
       s1 = s0.modPort p (fun k => { k with okRun := 0, lostRun := k.lostRun + 1 })) ∧
    (∃ (p : Fin 3) (v mean r limit : Nat) (ex : List Nat) (s0 s1 s2 : State) (s : State),
       s.ports[p].up = true ∧ sinceLast s s.ports[p].pdelayAt (logSeconds (s.pI 1 0x15 p 0x0A)) = true ∧
       s0 = (s.modPort p (fun k => { k with pdelayAt := some s.tb.mono })).sendPtp p (ptpMessage 0x2 54) ∧
       ex = ((s0.ports[p]).exchanges ++ [v]).drop ((s0.ports[p]).exchanges.length + 1 - 8) ∧ mean = meanDelay ex ∧
       ((r, s1) = (if 1 ≤ (s0.ports[p]).okRun then s0.draw else (s0.p 4 0x15 p 0x0D, s0))) ∧
       s2 = ((s1.modPort p (fun k => { k with exchanges := ex, okRun := k.okRun + 1, lostRun := 0 })).setP 4 0x15 p 0x0C
       mean).setP 4 0x15 p 0x0D r ∧ limit = s0.p 4 0x15 p 0x0B * 1000) :=
  ⟨⟨0, State.reset, by decide +kernel⟩,
    ⟨0, _, _, _, _, _, live.modPort 0 (fun k => { k with up := true }), ⟨by decide +kernel, rfl, rfl, rfl, rfl, rfl⟩⟩,
    ⟨0, (modeSpeeds (State.reset.p 1 0x15 0 0x01)).headD 0, (live).modTb (fun x => { x with mono := 2 ^ 90 }),
    by decide +kernel⟩,
    ⟨0, 0, State.reset, by decide +kernel⟩,
    ⟨0, ⟨0, 0, none, none, 0, [], 64, true⟩, State.reset, by decide +kernel⟩,
    ⟨0, ⟨0, 0, none, none, 0, [], 63, true⟩, live.modPort 0 (fun k => { k with up := true }), by decide +kernel⟩,
    ⟨0, ⟨0x0180C2000000, 0, none, none, 0, [], 64, false⟩, _,
    (live.modPort 0 (fun k => { k with up := true })).setP 2 0x15 0 0x16 1522, ⟨by decide +kernel, by decide +kernel,
    by decide +kernel, by decide +kernel, by decide +kernel, rfl⟩⟩,
    ⟨0, ⟨0x0180C200000E, 0, none, none, 0x88F7, [], 64, true⟩, _,
    (live.modPort 0 (fun k => { k with up := true })).setP 2 0x15 0 0x16 1522, ⟨by decide +kernel, by decide +kernel,
    by decide +kernel, by decide +kernel, by decide +kernel, by decide +kernel, rfl⟩⟩,
    ⟨0, ⟨0x0180C2000000, 0, none, none, 0, [], 64, true⟩, _,
    (live.modPort 0 (fun k => { k with up := true })).setP 2 0x15 0 0x16 1522, ⟨by decide +kernel, by decide +kernel,
    by decide +kernel, by decide +kernel, by decide +kernel, by decide +kernel, rfl⟩⟩,
    ⟨0, ⟨0, 0, none, none, 0, [], 64, true⟩, _,
    ((live.modPort 0 (fun k => { k with up := true })).setP 2 0x15 0 0x16 1522).setP 2 0x15 0 0x06 0, ⟨by decide +kernel,
    by decide +kernel, by decide +kernel, by decide +kernel, by decide +kernel, rfl⟩⟩,
    ⟨0, ⟨0, 0, none, none, 0, [], 64, true⟩,
    (rxClass ((live.modPort 0 (fun k => { k with up := true })).setP 2 0x15 0 0x16 1522) 0 ⟨0, 0, none, none, 0, [],
      64, true⟩).getD ⟨0,
    0, 0, 0⟩, _, (live.modPort 0 (fun k => { k with up := true })).setP 2 0x15 0 0x16 1522, ⟨by decide +kernel,
    by decide +kernel, by decide +kernel, by decide +kernel, by decide +kernel, by decide +kernel, rfl⟩⟩,
    ⟨0, ⟨gclRing, 0, none, none, 0, [], 64, false⟩,
    (rxClass ((live.modPort 0 (fun k => { k with up := true })).setP 2 0x15 0 0x16 1522) 0 ⟨gclRing, 0, none, none, 0,
      [], 64, false⟩).getD ⟨0,
    0, 0, 0⟩, _, (live.modPort 0 (fun k => { k with up := true })).setP 2 0x15 0 0x16 1522, ⟨by decide +kernel,
    by decide +kernel, by decide +kernel, by decide +kernel, by decide +kernel, by decide +kernel, by decide +kernel,
    rfl⟩⟩,
    ⟨0, ⟨0, 0, none, none, 0, [], 64, false⟩,
    (rxClass ((live.modPort 0 (fun k => { k with up := true })).setP 2 0x15 0 0x16 1522) 0 ⟨0, 0, none, none, 0, [],
      64, false⟩).getD ⟨0,
    0, 0, 0⟩, _, (live.modPort 0 (fun k => { k with up := true })).setP 2 0x15 0 0x16 1522, ⟨by decide +kernel,
    by decide +kernel, by decide +kernel, by decide +kernel, by decide +kernel, by decide +kernel, by decide +kernel,
    by decide +kernel, rfl⟩⟩,
    ⟨0, ⟨[], 0, 0⟩, 0, live.modPort 0 (fun k => { k with admin := some (⟨[], 0, 0⟩, 0) }), by decide +kernel⟩,
    ⟨0, ⟨[], 0, 0⟩, 1, live.modPort 0 (fun k => { k with admin := some (⟨[], 0, 0⟩, 1) }), by decide +kernel⟩,
    ⟨0, State.reset, by decide +kernel⟩,
    ⟨State.reset, by decide +kernel⟩,
    ⟨State.reset.setP 2 0x16 0 0x02 0, by decide +kernel⟩,
    ⟨⟨1, 0, 0⟩, live, by decide +kernel⟩,
    ⟨⟨1, 0, 0⟩, 1, live, by decide +kernel⟩,
    ⟨⟨1, 0, 0⟩, 0, live, by decide +kernel⟩,
    ⟨⟨0, 0, 0⟩, 0, State.reset, by decide +kernel⟩,
    ⟨1, 0, State.reset, by decide +kernel⟩,
    ⟨0, State.reset, by decide +kernel⟩,
    ⟨0, _,
    (({ strW with sw := { strW.sw with streams := [{ streamSt strW 0 with testPassed := 100 }] } } : State)).modTb (fun x
      => { x with mono := 2 ^ 90 }),
    ⟨by decide +kernel, by decide +kernel, by decide +kernel, by decide +kernel, rfl⟩⟩,
    ⟨0, _,
    (({ strW with sw := { strW.sw with streams := [streamSt strW 0] } } : State)).modTb (fun x =>
      { x with mono := 2 ^ 90 }),
    ⟨by decide +kernel, by decide +kernel, by decide +kernel, by decide +kernel, rfl⟩⟩,
    ⟨0, State.reset, by decide +kernel⟩,
    ⟨0, strW, by decide +kernel⟩,
    ⟨0, none, State.reset, by decide +kernel⟩,
    ⟨0, _, _, live.modPort 0 (fun k => { k with up := true }), ⟨by decide +kernel, by decide +kernel, rfl, rfl⟩⟩,
    ⟨0, 0, _, _, _, _, _, _, _, live.modPort 0 (fun k => { k with up := true }), ⟨by decide +kernel, by decide +kernel,
    rfl, rfl, rfl, rfl, rfl, rfl⟩⟩⟩

/-- The hypotheses of TheRingIsTestedAndClosed are met. -/
theorem witness_TheRingIsTestedAndClosed :
    (∃ (s : State), (isRoot s = false ∨ elapsed s s.sw.ringAt (s.p 2 0x16 0 0x0D * 1000) = false)) ∧
    (∃ (s1 s2 : State) (s : State), isRoot s = true ∧ elapsed s s.sw.ringAt (s.p 2 0x16 0 0x0D * 1000) = true ∧
       ringState s = 1 ∧ (ringPorts s).all (fun p => decide (0 < (s.ports[p]).tests)) = true ∧
       s1 = (ringPorts s).foldl (fun (t : State) p => t.modPort p (fun k => { k with tests := 0 }))
       (({ s with sw := { s.sw with missRun := 0 } } : State)) ∧ s2 = { s1 with
         sw := { s1.sw with testSeq := s1.sw.testSeq + 1, ringAt := s1.tb.mono } }) ∧
    (∃ (s1 s2 : State) (s : State), isRoot s = true ∧ elapsed s s.sw.ringAt (s.p 2 0x16 0 0x0D * 1000) = true ∧
       ringState s = 1 ∧ (ringPorts s).all (fun p => decide (0 < (s.ports[p]).tests)) = false ∧ 2 ≤ s.sw.missRun ∧
       s1 = (ringPorts s).foldl (fun (t : State) p => t.modPort p (fun k => { k with tests := 0 })) (s.ringBreak) ∧ s2 =
       { s1 with
         sw := { s1.sw with testSeq := s1.sw.testSeq + 1, ringAt := s1.tb.mono } }) ∧
    (∃ (s1 s2 : State) (s : State), isRoot s = true ∧ elapsed s s.sw.ringAt (s.p 2 0x16 0 0x0D * 1000) = true ∧
       ringState s = 1 ∧ (ringPorts s).all (fun p => decide (0 < (s.ports[p]).tests)) = false ∧ s.sw.missRun < 2 ∧
       s1 = (ringPorts s).foldl (fun (t : State) p => t.modPort p (fun k => { k with tests := 0 }))
       (({ s with sw := { s.sw with missRun := s.sw.missRun + 1 } } : State)) ∧ s2 = { s1 with
         sw := { s1.sw with testSeq := s1.sw.testSeq + 1, ringAt := s1.tb.mono } }) ∧
    (∃ (s1 s2 : State) (s : State), isRoot s = true ∧ elapsed s s.sw.ringAt (s.p 2 0x16 0 0x0D * 1000) = true ∧
       ringState s ≠ 1 ∧ (ringPorts s).all (fun p => decide (0 < (s.ports[p]).tests)) = true ∧ 2 ≤ s.sw.goodRun ∧
       s1 = (ringPorts s).foldl (fun (t : State) p => t.modPort p (fun k => { k with tests := 0 })) (s.ringClose) ∧ s2 =
       { s1 with
         sw := { s1.sw with testSeq := s1.sw.testSeq + 1, ringAt := s1.tb.mono } }) ∧
    (∃ (s1 s2 : State) (s : State), isRoot s = true ∧ elapsed s s.sw.ringAt (s.p 2 0x16 0 0x0D * 1000) = true ∧
       ringState s ≠ 1 ∧ (ringPorts s).all (fun p => decide (0 < (s.ports[p]).tests)) = true ∧ s.sw.goodRun < 2 ∧
       s1 = (ringPorts s).foldl (fun (t : State) p => t.modPort p (fun k => { k with tests := 0 }))
       (({ s with sw := { s.sw with goodRun := s.sw.goodRun + 1 } } : State)) ∧ s2 = { s1 with
         sw := { s1.sw with testSeq := s1.sw.testSeq + 1, ringAt := s1.tb.mono } }) ∧
    (∃ (s1 s2 : State) (s : State), isRoot s = true ∧ elapsed s s.sw.ringAt (s.p 2 0x16 0 0x0D * 1000) = true ∧
       ringState s ≠ 1 ∧ (ringPorts s).all (fun p => decide (0 < (s.ports[p]).tests)) = false ∧
       s1 = (ringPorts s).foldl (fun (t : State) p => t.modPort p (fun k => { k with tests := 0 }))
       (({ s with sw := { s.sw with goodRun := 0 } } : State)) ∧ s2 = { s1 with
         sw := { s1.sw with testSeq := s1.sw.testSeq + 1, ringAt := s1.tb.mono } }) ∧
    (∃ (s : State), s.delivered.find? (fun d => d.frame.dst == gclRing) = none) ∧
    (∃ (d : Delivered) (s1 : State) (s : State), s.delivered.find? (fun d => d.frame.dst == gclRing) = some d ∧
       otherRing s d.port = none ∧ s1 = { s with delivered := s.delivered.erase d }) ∧
    (∃ (d : Delivered) (o : Fin 3) (s1 s4 : State) (g : GclFrame) (s : State),
       s.delivered.find? (fun d => d.frame.dst == gclRing) = some d ∧ otherRing s d.port = some o ∧
       s1 = { s with delivered := s.delivered.erase d } ∧ ((parseGcl d).srcNode == nodeAddress s || (isRoot s &&
       ((parseGcl d).kind == 1 || (parseGcl d).kind == 2))) = true ∧ s1.gclReceive d = (s4, some g)) ∧
    (∃ (d : Delivered) (o : Fin 3) (s1 s4 : State) (s : State),
       s.delivered.find? (fun d => d.frame.dst == gclRing) = some d ∧ otherRing s d.port = some o ∧
       s1 = { s with delivered := s.delivered.erase d } ∧ ((parseGcl d).srcNode == nodeAddress s || (isRoot s &&
       ((parseGcl d).kind == 1 || (parseGcl d).kind == 2))) = true ∧ s1.gclReceive d = (s4, none)) ∧
    (∃ (d : Delivered) (o : Fin 3) (pcp : Fin 8) (vid : BitVec 12) (members untagged : Nat) (s1 s3 s4 : State) (s :
       State), s.delivered.find? (fun d => d.frame.dst == gclRing) = some d ∧ otherRing s d.port = some o ∧
       s1 = { s with delivered := s.delivered.erase d } ∧ ((parseGcl d).srcNode == nodeAddress s || (isRoot s &&
       ((parseGcl d).kind == 1 || (parseGcl d).kind == 2))) = false ∧ d.frame.tag = some (pcp, vid) ∧
       vlanOf s vid.toNat = some (members, untagged) ∧ s3 = { s1 with sw := { s1.sw with nextBuf := s1.sw.nextBuf + 1 } }
       ∧ s4 = s3.sendOn o d.frame pcp vid untagged false none s1.sw.nextBuf) ∧
    (∃ (d : Delivered) (o : Fin 3) (pcp : Fin 8) (vid : BitVec 12) (s1 s3 s4 : State) (s : State),
       s.delivered.find? (fun d => d.frame.dst == gclRing) = some d ∧ otherRing s d.port = some o ∧
       s1 = { s with delivered := s.delivered.erase d } ∧ ((parseGcl d).srcNode == nodeAddress s || (isRoot s &&
       ((parseGcl d).kind == 1 || (parseGcl d).kind == 2))) = false ∧ ((d.frame.tag = some (pcp, vid) ∧
       vlanOf s vid.toNat = none) ∨ (d.frame.tag = none ∧ pcp = 7 ∧ vid = 0)) ∧
       s3 = { s1 with sw := { s1.sw with nextBuf := s1.sw.nextBuf + 1 } } ∧
       s4 = s3.sendOn o d.frame pcp vid 0 false none s1.sw.nextBuf) ∧
    (∃ (s : State), swapReady s 2 0 (swapPeriod s / 2) s.red.swapMark = none) ∧
    (∃ (t : CellTime) (s0 s1 s2 : State) (p o : Fin 3) (s : State),
       swapReady s 2 0 (swapPeriod s / 2) s.red.swapMark = some (t, s0) ∧ isRoot s = true ∧
       ringState s = 1 ∧ s.red.blocked = some p ∧ otherRing s p = some o ∧
       s1 = { s0 with red := { s0.red with swapMark := markNow s t } } ∧ s2 = { s1 with
         red := { s1.red with blocked := some o, ringGuard := some (o, s1.tb.mono) } }) ∧
    (∃ (t : CellTime) (s0 : State) (s : State), swapReady s 2 0 (swapPeriod s / 2) s.red.swapMark = some (t,
       s0) ∧ (isRoot s = false ∨ ringState s ≠ 1 ∨ s.red.blocked.bind (otherRing s) = none)) ∧
    (∃ (s : State), s.red.ringWatch.find? (fun x => elapsed s x.at_ 1000000) = none) ∧
    (∃ (x : RingMark) (o : Fin 3) (s1 : State) (s : State), s.red.ringWatch.find? (fun x => elapsed s x.at_ 1000000) =
       some x ∧ otherRing s x.port = some o ∧ inRing s = true ∧ s.ports[x.port].up = true ∧ s.ports[o].up = true ∧
       s1 = { s with red := { s.red with ringWatch := s.red.ringWatch.erase x } }) ∧
    (∃ (x : RingMark) (s : State), s.red.ringWatch.find? (fun x => elapsed s x.at_ 1000000) = some x ∧ (∀ o,
       otherRing s x.port = some o → (inRing s && s.ports[x.port].up && s.ports[o].up) = false)) :=
  ⟨⟨State.reset, by decide +kernel⟩,
    ⟨_, _,
    ((ringW).modPort 0 (fun k => { k with tests := 1 }) |>.modPort 1 (fun k => { k with tests := 1 })).modTb (fun x =>
      { x with mono := 2 ^ 90 }),
    ⟨by decide +kernel, by decide +kernel, by decide +kernel, by decide +kernel, rfl, rfl⟩⟩,
    ⟨_, _, ({ ringW with sw := { ringW.sw with missRun := 2 } }).modTb (fun x => { x with mono := 2 ^ 90 }),
    ⟨by decide +kernel, by decide +kernel, by decide +kernel, by decide +kernel, by decide +kernel, rfl, rfl⟩⟩,
    ⟨_, _, (ringW).modTb (fun x => { x with mono := 2 ^ 90 }), ⟨by decide +kernel, by decide +kernel, by decide +kernel,
    by decide +kernel, by decide +kernel, rfl, rfl⟩⟩,
    ⟨_, _,
    ((({ ringW with sw := { ringW.sw with goodRun := 2 } }).modPort 0 (fun k => { k with tests := 1 }) |>.modPort 1 (fun k
      => { k with tests := 1 })).setP 1 0x16 0 0x0C 2).modTb (fun x => { x with mono := 2 ^ 90 }),
    ⟨by decide +kernel, by decide +kernel, by decide +kernel, by decide +kernel, by decide +kernel, rfl, rfl⟩⟩,
    ⟨_, _,
    (((ringW).modPort 0 (fun k => { k with tests := 1 }) |>.modPort 1 (fun k => { k with tests := 1 })).setP 1 0x16 0 0x0C
      2).modTb (fun x => { x with mono := 2 ^ 90 }),
    ⟨by decide +kernel, by decide +kernel, by decide +kernel, by decide +kernel, by decide +kernel, rfl, rfl⟩⟩,
    ⟨_, _, (ringW.setP 1 0x16 0 0x0C 2).modTb (fun x => { x with mono := 2 ^ 90 }), ⟨by decide +kernel, by decide +kernel,
    by decide +kernel, by decide +kernel, rfl, rfl⟩⟩,
    ⟨State.reset, by decide +kernel⟩,
    ⟨⟨⟨gclRing, 0, none, none, 0, [], 64, true⟩, 2⟩, _,
    { live with delivered := [⟨⟨gclRing, 0, none, none, 0, [], 64, true⟩, 2⟩] }, ⟨by decide +kernel, by decide +kernel,
    rfl⟩⟩,
    ⟨⟨⟨gclRing, 0, some (7, 1), none, 0x88B6,
    [0x31, 2, 0, 0, 0xFF, 0xFF, 0xFF, 0xFE, 0, 0, 0, 12, 0, 0, 0, 0, 0, 0, 0, 0, 1, 0, 0, 0] ++ List.replicate 12 0, 64,
    true⟩, 0⟩, 1, _, _, parseGcl ⟨⟨gclRing, 0, some (7, 1), none, 0x88B6,
    [0x31, 2, 0, 0, 0xFF, 0xFF, 0xFF, 0xFE, 0, 0, 0, 12, 0, 0, 0, 0, 0, 0, 0, 0, 1, 0, 0, 0] ++ List.replicate 12 0, 64,
    true⟩, 0⟩,
    { ringW with
        delivered := [⟨⟨gclRing, 0, some (7, 1), none, 0x88B6, [0x31, 2, 0, 0, 0xFF, 0xFF, 0xFF, 0xFE, 0, 0, 0, 12, 0,
          0, 0, 0, 0, 0, 0, 0, 1, 0, 0, 0] ++ List.replicate 12 0, 64, true⟩, 0⟩] },
    ⟨by decide +kernel, by decide +kernel, rfl, by decide +kernel, Prod.ext rfl (by decide +kernel)⟩⟩,
    ⟨⟨⟨gclRing, 0, some (7, 1), none, 0x88B6,
    [0x31, 2, 0, 0, 0xFF, 0xFF, 0xFF, 0xFE, 0, 0, 0, 12, 0, 0, 0, 0, 0, 0, 0, 0, 1, 0, 0, 0] ++ List.replicate 12 0, 64,
    true⟩, 0⟩, 1, _, _,
    { ringW with
        delivered := [⟨⟨gclRing, 0, some (7, 1), none, 0x88B6, [0x31, 2, 0, 0, 0xFF, 0xFF, 0xFF, 0xFE, 0, 0, 0, 12, 0,
          0, 0, 0, 0, 0, 0, 0, 1, 0, 0, 0] ++ List.replicate 12 0, 64, true⟩, 0⟩] }.setP 2 0x17 0 0x02 5,
    ⟨by decide +kernel, by decide +kernel, rfl, by decide +kernel, Prod.ext rfl (by decide +kernel)⟩⟩,
    ⟨⟨⟨gclRing, 0, some (7, 1), none, 0x88B6,
    [0x31, 2, 0, 0, 0x00, 0x05, 0xFF, 0xFE, 0, 0, 0, 12, 0, 0, 0, 0, 0, 0, 0, 0, 3, 0, 0, 0] ++ List.replicate 12 0, 64,
    true⟩, 0⟩, 1, 7, 1, ((vlanOf ringW 1).getD (0, 0)).1, ((vlanOf ringW 1).getD (0, 0)).2, _, _, _,
    { ringW with
        delivered := [⟨⟨gclRing, 0, some (7, 1), none, 0x88B6, [0x31, 2, 0, 0, 0x00, 0x05, 0xFF, 0xFE, 0, 0, 0, 12, 0,
          0, 0, 0, 0, 0, 0, 0, 3, 0, 0, 0] ++ List.replicate 12 0, 64, true⟩, 0⟩] },
    ⟨by decide +kernel, by decide +kernel, rfl, by decide +kernel, by decide +kernel, by decide +kernel, rfl, rfl⟩⟩,
    ⟨⟨⟨gclRing, 0, none, none, 0x88B6,
    [0x31, 2, 0, 0, 0x00, 0x05, 0xFF, 0xFE, 0, 0, 0, 12, 0, 0, 0, 0, 0, 0, 0, 0, 3, 0, 0, 0] ++ List.replicate 12 0, 64,
    true⟩, 0⟩, 1, 7, 0, _, _, _,
    { ringW with
        delivered := [⟨⟨gclRing, 0, none, none, 0x88B6, [0x31, 2, 0, 0, 0x00, 0x05, 0xFF, 0xFE, 0, 0, 0, 12, 0, 0, 0,
          0, 0, 0, 0, 0, 3, 0, 0, 0] ++ List.replicate 12 0, 64, true⟩, 0⟩] },
    ⟨by decide +kernel, by decide +kernel, rfl, by decide +kernel, by decide +kernel, rfl, rfl⟩⟩,
    ⟨State.reset, by decide +kernel⟩,
    ⟨_, _, _, _, 0, 1, { ringW with red := { ringW.red with swaps := [(2, 0, 0)], blocked := some 0 } }, ⟨rfl,
    by decide +kernel, by decide +kernel, by decide +kernel, by decide +kernel, rfl, rfl⟩⟩,
    ⟨_, _, { live with red := { live.red with swaps := [(2, 0, 0)] } }, ⟨rfl, by decide +kernel⟩⟩,
    ⟨State.reset, by decide +kernel⟩,
    ⟨⟨0, 0, 0, 0⟩, 1, _,
    { (ringW.modPort 0 (fun k => { k with up := true }) |>.modPort 1 (fun k => { k with up := true })).modTb (fun x => { x with mono := 2 ^ 90 }) with
        red := { ringW.red with ringWatch := [⟨0, 0, 0, 0⟩] } },
    ⟨by decide +kernel, by decide +kernel, by decide +kernel, by decide +kernel, by decide +kernel, rfl⟩⟩,
    ⟨⟨0, 0, 0, 0⟩,
    { (ringW).modTb (fun x => { x with mono := 2 ^ 90 }) with red := { ringW.red with ringWatch := [⟨0, 0, 0, 0⟩] } },
    by decide +kernel⟩⟩

/-- The hypotheses of GclFramesAreTakenAndAnswered are met. -/
theorem witness_GclFramesAreTakenAndAnswered :
    (∃ (s : State), s.delivered.find? (fun d => d.frame.dst != gclRing) = none) ∧
    (∃ (d : Delivered) (s : State), s.delivered.find? (fun d => d.frame.dst != gclRing) = some d ∧
       d.frame.etype ≠ BitVec.ofNat 16 (s.p 2 0x17 0 0x03)) ∧
    (∃ (d : Delivered) (s1 s2 : State) (s : State), s.delivered.find? (fun d => d.frame.dst != gclRing) = some d ∧
       s1 = { s with delivered := s.delivered.erase d } ∧ d.frame.etype = BitVec.ofNat 16 (s.p 2 0x17 0 0x03) ∧
       s1.gclReceive d = (s2, none)) ∧
    (∃ (d : Delivered) (s1 s2 : State) (f : GclFrame) (s : State),
       s.delivered.find? (fun d => d.frame.dst != gclRing) = some d ∧
       s1 = { s with delivered := s.delivered.erase d } ∧ d.frame.etype = BitVec.ofNat 16 (s.p 2 0x17 0 0x03) ∧
       s1.gclReceive d = (s2, some f) ∧ laterVerdict s2 f = .taken) ∧
    (∃ (d : Delivered) (s1 s2 : State) (f : GclFrame) (s : State),
       s.delivered.find? (fun d => d.frame.dst != gclRing) = some d ∧
       s1 = { s with delivered := s.delivered.erase d } ∧ d.frame.etype = BitVec.ofNat 16 (s.p 2 0x17 0 0x03) ∧
       s1.gclReceive d = (s2, some f) ∧ laterVerdict s2 f = .ignored) ∧
    (∃ (d : Delivered) (s1 s2 : State) (f : GclFrame) (k : Nat) (s : State),
       s.delivered.find? (fun d => d.frame.dst != gclRing) = some d ∧
       s1 = { s with delivered := s.delivered.erase d } ∧ d.frame.etype = BitVec.ofNat 16 (s.p 2 0x17 0 0x03) ∧
       s1.gclReceive d = (s2, some f) ∧ laterVerdict s2 f = .discarded k) ∧
    (∃ (s : State), s.takeFrame 0x01 0 = none) ∧
    (∃ (f : GclFrame) (s1 : State) (s : State), s.takeFrame 0x01 0 = some (f, s1) ∧ 4095 < f.srcNode) ∧
    (∃ (f : GclFrame) (s1 : State) (s : State), s.takeFrame 0x01 0 = some (f, s1) ∧ f.srcNode ≤ 4095) ∧
    (∃ (s1 : State) (s : State), (s.gcl.helloDue || sinceLast s s.gcl.helloAt (s.p 2 0x17 0 0x0B * 1000000)) = true ∧
       s.ports.toList.any (fun p => p.up) = true ∧ s1 = { s with
         gcl := { s.gcl with helloDue := false, helloAt := some s.tb.mono } }) ∧
    (∃ (s : State), ((s.gcl.helloDue || sinceLast s s.gcl.helloAt (s.p 2 0x17 0 0x0B * 1000000)) = false ∨
       s.ports.toList.any (fun p => p.up) = false)) ∧
    (∃ (n : Nat) (s : State), presentNode s n = none) ∧
    (∃ (n : Nat) (e : NodeEntry) (s : State), presentNode s n = some e ∧ elapsed s e.heard (nodeTimeoutNs s) = false) ∧
    (∃ (n : Nat) (e : NodeEntry) (s1 : State) (s : State), presentNode s n = some e ∧
       elapsed s e.heard (nodeTimeoutNs s) = true ∧ (s1 = s.setNodes (s.gcl.nodes.map (fun (x : NodeEntry) => if x.addr
       == n then { x with lost := true } else x))) ∧ (listedNodes s).contains n = false) ∧
    (∃ (n : Nat) (e : NodeEntry) (s1 : State) (s : State), presentNode s n = some e ∧
       elapsed s e.heard (nodeTimeoutNs s) = true ∧ (s1 = s.setNodes (s.gcl.nodes.map (fun (x : NodeEntry) => if x.addr
       == n then { x with lost := true } else x))) ∧ (listedNodes s).contains n = true) ∧
    (∃ (s : State), gclState s = 3 ∧ elapsed s s.gcl.conflictAt (nodeTimeoutNs s) = true) ∧
    (∃ (s : State), (gclState s ≠ 3 ∨ elapsed s s.gcl.conflictAt (nodeTimeoutNs s) = false)) ∧
    (∃ (s : State), s.takeFrame 0x03 1 = none) ∧
    (∃ (f : GclFrame) (s1 : State) (s : State), s.takeFrame 0x03 1 = some (f, s1) ∧ frameAuthority s f = false) ∧
    (∃ (f : GclFrame) (s1 s2 : State) (v required missing : Nat) (s : State), s.takeFrame 0x03 1 = some (f,
       s1) ∧ frameAuthority s f = true ∧ v = chooseVersion (beAt f.payload 0 1) ∧
       required = beAt f.payload 4 4 ∧ (missing = if beAt f.payload 0 1 < 0x20 then required else required &&&
       (0xFFFFFFFF ^^^ featuresAt v)) ∧ s2 = (((s1.setP 1 0x17 0 0x06 v).setP 4 0x17 0 0x08 required).setP 4 0x17 0 0x09
       missing).setBytes 0x17 0 0x16 0 (leBytes 2 f.srcNode ++ leBytes 1 f.masterId ++ leBytes 1 v ++ leBytes 4 required
       ++ leBytes 4 missing ++ leBytes 4 (ctNs (now s))) ∧ (gclState s = 1 ∨ gclState s = 2)) ∧
    (∃ (f : GclFrame) (s1 s2 : State) (v required missing : Nat) (s : State), s.takeFrame 0x03 1 = some (f,
       s1) ∧ frameAuthority s f = true ∧ v = chooseVersion (beAt f.payload 0 1) ∧
       required = beAt f.payload 4 4 ∧ (missing = if beAt f.payload 0 1 < 0x20 then required else required &&&
       (0xFFFFFFFF ^^^ featuresAt v)) ∧ s2 = (((s1.setP 1 0x17 0 0x06 v).setP 4 0x17 0 0x08 required).setP 4 0x17 0 0x09
       missing).setBytes 0x17 0 0x16 0 (leBytes 2 f.srcNode ++ leBytes 1 f.masterId ++ leBytes 1 v ++ leBytes 4 required
       ++ leBytes 4 missing ++ leBytes 4 (ctNs (now s))) ∧ gclState s ≠ 1 ∧ gclState s ≠ 2) ∧
    (∃ (s : State), s.adoptDue.takeFrame 0x10 0 = none) ∧
    (∃ (f : GclFrame) (s1 : State) (s : State), s.adoptDue.takeFrame 0x10 0 = some (f, s1)) ∧
    (∃ (s : State), s.adoptDue.takeFrame 0x30 0 = none) ∧
    (∃ (f : GclFrame) (s1 : State) (s : State), s.adoptDue.takeFrame 0x30 0 = some (f, s1) ∧
       (schedEntries s f).isEmpty = true) ∧
    (∃ (f : GclFrame) (s1 : State) (body : List Byte) (s : State), s.adoptDue.takeFrame 0x30 0 = some (f,
       s1) ∧ (schedEntries s f).isEmpty = false ∧ body = ([BitVec.ofNat 8 (schedEntries s f).length, 0, 0,
       0] ++ (schedEntries s f).flatten).take 1016) ∧
    (∃ (ep : Fin 8) (s : State), ep ≠ 0 ∧ enabledBits s ep &&& ~~~(s.gcl.notify[ep]).bits ≠ 0) ∧
    (∃ (ep : Fin 8) (s : State), (ep = 0 ∨ enabledBits s ep &&& ~~~(s.gcl.notify[ep]).bits = 0)) ∧
    (∃ (ep : Fin 8) (s : State), ep ≠ 0 ∧ s.p 2 0x17 0 0x12 ≠ 0 ∧ enabledBits s ep ≠ 0 ∧
       elapsed s (s.gcl.notify[ep]).at_ (s.p 2 0x17 0 0x12 * 1000000) = true) ∧
    (∃ (ep : Fin 8) (s : State), (ep = 0 ∨ s.p 2 0x17 0 0x12 = 0 ∨ enabledBits s ep = 0 ∨
       elapsed s (s.gcl.notify[ep]).at_ (s.p 2 0x17 0 0x12 * 1000000) = false)) ∧
    (∃ (s : State), s.adoptDue.takeFrame 0x40 1 = none) ∧
    (∃ (f : GclFrame) (s1 : State) (s : State), s.adoptDue.takeFrame 0x40 1 = some (f, s1) ∧ syncKnown s f = true) ∧
    (∃ (f : GclFrame) (s1 : State) (code : BitVec 16) (s : State), s.adoptDue.takeFrame 0x40 1 = some (f, s1) ∧
       syncKnown s f = false ∧ syncRefusal s1 f = some code) ∧
    (∃ (f : GclFrame) (s1 : State) (t : CellTime) (ok : Bool) (s2 : State) (s : State),
       s.adoptDue.takeFrame 0x40 1 = some (f, s1) ∧ syncKnown s f = false ∧ syncRefusal s1 f = none ∧
       t = ctMk (beAt f.payload 0 8) (beAt f.payload 8 1) ∧ (ok,
       s2) = ((s1.compareSync f).seeSync f).requestSync (syncChannels s) t 1) ∧
    (∃ (s : State), s.gcl.journalQ = []) ∧
    (∃ (s1 : State) (s : State), (s.gcl.journalQ.take 32).isEmpty = false ∧
       (s1 = ((s.sendGcl (ownFrame 0x60 0 gclMasters 0xFFFE (beBytes 1 (s.gcl.journalQ.take 32).length ++ [if
       s.gcl.journalLostFlag then 1 else 0, 0, 0] ++ beBytes 4 s.gcl.journalSeq.toNat ++ ((s.gcl.journalQ.take 32).map
       faultBytes).flatten))).gclCnt 12).setP 4 0x17 0 0x13 s.gcl.journalSeq.toNat)) :=
  ⟨⟨State.reset, by decide +kernel⟩,
    ⟨⟨⟨0, 0, none, none, 0, [], 64, true⟩, 2⟩, { live with delivered := [⟨⟨0, 0, none, none, 0, [], 64, true⟩, 2⟩] },
    by decide +kernel⟩,
    ⟨⟨⟨gclAll, 0, some (7, 1), none, 0x88B6,
    [0x31, 1, 0, 0, 0, 5, 0xFF, 0xFE, 0, 0, 0, 168, 0, 0, 0, 0, 0, 0, 0, 0, 0, 0, 0, 0] ++ List.replicate 168 0, 64,
    true⟩, 0⟩, _, _,
    ({ live with
        delivered := [⟨⟨gclAll, 0, some (7, 1), none, 0x88B6, [0x31, 1, 0, 0, 0, 5, 0xFF, 0xFE, 0, 0, 0, 168, 0, 0, 0,
          0, 0, 0, 0, 0, 0, 0, 0, 0] ++ List.replicate 168 0, 64, true⟩, 0⟩] }).setP 2 0x17 0 0x02 5,
    ⟨by decide +kernel, rfl, by decide +kernel, Prod.ext rfl (by decide +kernel)⟩⟩,
    ⟨⟨⟨gclAll, 0, some (7, 1), none, 0x88B6,
    [0x31, 1, 0, 0, 0, 5, 0xFF, 0xFE, 0, 0, 0, 168, 0, 0, 0, 0, 0, 0, 0, 0, 0, 0, 0, 0] ++ List.replicate 168 0, 64,
    true⟩, 0⟩, _, _, parseGcl ⟨⟨gclAll, 0, some (7, 1), none, 0x88B6,
    [0x31, 1, 0, 0, 0, 5, 0xFF, 0xFE, 0, 0, 0, 168, 0, 0, 0, 0, 0, 0, 0, 0, 0, 0, 0, 0] ++ List.replicate 168 0, 64,
    true⟩, 0⟩,
    { live with
        delivered := [⟨⟨gclAll, 0, some (7, 1), none, 0x88B6, [0x31, 1, 0, 0, 0, 5, 0xFF, 0xFE, 0, 0, 0, 168, 0, 0, 0,
          0, 0, 0, 0, 0, 0, 0, 0, 0] ++ List.replicate 168 0, 64, true⟩, 0⟩] },
    ⟨by decide +kernel, rfl, by decide +kernel, Prod.ext rfl (by decide +kernel), by decide +kernel⟩⟩,
    ⟨⟨⟨gclAll, 0, some (7, 1), none, 0x88B6,
    [0x31, 0x12, 0, 0, 0, 5, 0xFF, 0xFE, 0, 0, 0, 12, 0, 0, 0, 0, 0, 0, 0, 0, 0, 0, 0, 0] ++ List.replicate 12 0, 64,
    true⟩, 0⟩, _, _, parseGcl ⟨⟨gclAll, 0, some (7, 1), none, 0x88B6,
    [0x31, 0x12, 0, 0, 0, 5, 0xFF, 0xFE, 0, 0, 0, 12, 0, 0, 0, 0, 0, 0, 0, 0, 0, 0, 0, 0] ++ List.replicate 12 0, 64,
    true⟩, 0⟩,
    { live with
        delivered := [⟨⟨gclAll, 0, some (7, 1), none, 0x88B6, [0x31, 0x12, 0, 0, 0, 5, 0xFF, 0xFE, 0, 0, 0, 12, 0, 0,
          0, 0, 0, 0, 0, 0, 0, 0, 0, 0] ++ List.replicate 12 0, 64, true⟩, 0⟩] },
    ⟨by decide +kernel, rfl, by decide +kernel, Prod.ext rfl (by decide +kernel), by decide +kernel⟩⟩,
    ⟨⟨⟨gclAll, 0, some (7, 1), none, 0x88B6,
    [0x31, 0x50, 0, 0, 0, 5, 0xFF, 0xFE, 0, 0, 0, 20, 0, 0, 0, 0, 0, 0, 0, 0, 1, 0, 0, 0] ++ List.replicate 20 0, 64,
    true⟩, 0⟩, _, _, parseGcl ⟨⟨gclAll, 0, some (7, 1), none, 0x88B6,
    [0x31, 0x50, 0, 0, 0, 5, 0xFF, 0xFE, 0, 0, 0, 20, 0, 0, 0, 0, 0, 0, 0, 0, 1, 0, 0, 0] ++ List.replicate 20 0, 64,
    true⟩, 0⟩, 6,
    { live with
        delivered := [⟨⟨gclAll, 0, some (7, 1), none, 0x88B6, [0x31, 0x50, 0, 0, 0, 5, 0xFF, 0xFE, 0, 0, 0, 20, 0, 0,
          0, 0, 0, 0, 0, 0, 1, 0, 0, 0] ++ List.replicate 20 0, 64, true⟩, 0⟩] },
    ⟨by decide +kernel, rfl, by decide +kernel, Prod.ext rfl (by decide +kernel), by decide +kernel⟩⟩,
    ⟨State.reset, by decide +kernel⟩,
    ⟨⟨0, 0, 0, none, 0x20, 0x01, 0, 0xFFFF, 0, false, true, 0, 0, 0, 0, 0, 0, []⟩, _,
    { (live) with
        gcl := { (live).gcl with
            checked := [⟨0, 0, 0, none, 0x20, 0x01, 0, 0xFFFF, 0, false, true, 0, 0, 0, 0, 0, 0, []⟩] } },
    ⟨rfl, by decide +kernel⟩⟩,
    ⟨⟨0, 0, 0, none, 0x20, 0x01, 0, 0x20, 0, false, true, 0, 0, 0, 0, 0, 0, []⟩, _,
    { (live) with
        gcl := { (live).gcl with checked := [⟨0, 0, 0, none, 0x20, 0x01, 0, 0x20, 0, false, true, 0, 0, 0, 0, 0, 0, []⟩] }
          },
    ⟨rfl, by decide +kernel⟩⟩,
    ⟨_, live.modPort 0 (fun k => { k with up := true }), ⟨by decide +kernel, by decide +kernel, rfl⟩⟩,
    ⟨State.reset, by decide +kernel⟩,
    ⟨0, State.reset, by decide +kernel⟩,
    ⟨5, ⟨5, false, 0, 0, 0, 0, 0, 0, 0, 0⟩,
    { live with gcl := { live.gcl with nodes := [⟨5, false, 0, 0, 0, 0, 0, 0, 0, 0⟩] } }, by decide +kernel⟩,
    ⟨5, ⟨5, false, 0, 0, 0, 0, 0, 0, 0, 0⟩, _,
    ({ live with gcl := { live.gcl with nodes := [⟨5, false, 0, 0, 0, 0, 0, 0, 0, 0⟩] } }).modTb (fun x =>
      { x with mono := 2 ^ 90 }),
    ⟨by decide +kernel, by decide +kernel, rfl, by decide +kernel⟩⟩,
    ⟨5, ⟨5, false, 0, 0, 0, 0, 0, 0, 0, 0⟩, _,
    (({ live with gcl := { live.gcl with nodes := [⟨5, false, 0, 0, 0, 0, 0, 0, 0, 0⟩] } }).modTb (fun x =>
      { x with mono := 2 ^ 90 })).setBytes 0x17 0 0x0D 0 [5, 0],
    ⟨by decide +kernel, by decide +kernel, rfl, by decide +kernel⟩⟩,
    ⟨(live.setP 1 0x17 0 0x0A 3).modTb (fun x => { x with mono := 2 ^ 90 }), by decide +kernel⟩,
    ⟨State.reset, by decide +kernel⟩,
    ⟨State.reset, by decide +kernel⟩,
    ⟨⟨0, 0, 0, none, 0x20, 0x03, 0, 0x20, 0, false, true, 0, 0, 0, 0, 1, 0, []⟩, _,
    { (live.setP 1 0x18 0 0x06 3) with
        gcl := { (live.setP 1 0x18 0 0x06 3).gcl with
            checked := [⟨0, 0, 0, none, 0x20, 0x03, 0, 0x20, 0, false, true, 0, 0, 0, 0, 1, 0, []⟩] } },
    ⟨rfl, by decide +kernel⟩⟩,
    ⟨⟨0, 0, 0, none, 0x20, 0x03, 0, 0x20, 0, false, true, 0, 0, 0, 0, 1, 0, []⟩, _, _, _, _, _,
    { (live.setP 1 0x17 0 0x0A 1) with
        gcl := { (live.setP 1 0x17 0 0x0A 1).gcl with
            checked := [⟨0, 0, 0, none, 0x20, 0x03, 0, 0x20, 0, false, true, 0, 0, 0, 0, 1, 0, []⟩] } },
    ⟨rfl, by decide +kernel, rfl, rfl, rfl, rfl, by decide +kernel⟩⟩,
    ⟨⟨0, 0, 0, none, 0x20, 0x03, 0, 0x20, 0, false, true, 0, 0, 0, 0, 1, 0, []⟩, _, _, _, _, _,
    { (live) with
        gcl := { (live).gcl with checked := [⟨0, 0, 0, none, 0x20, 0x03, 0, 0x20, 0, false, true, 0, 0, 0, 0, 1, 0, []⟩] }
          },
    ⟨rfl, by decide +kernel, rfl, rfl, rfl, rfl, by decide +kernel, by decide +kernel⟩⟩,
    ⟨State.reset, by decide +kernel⟩,
    ⟨⟨0, 0, 0, none, 0x20, 0x10, 0, 0x20, 0, false, true, 0, 0, 0, 0, 0, 0, []⟩, _,
    { (live) with
        gcl := { (live).gcl with checked := [⟨0, 0, 0, none, 0x20, 0x10, 0, 0x20, 0, false, true, 0, 0, 0, 0, 0, 0, []⟩] }
          },
    rfl⟩,
    ⟨State.reset, by decide +kernel⟩,
    ⟨⟨0, 0, 0, none, 0x20, 0x30, 0, 0x20, 0, false, true, 0, 0, 0, 0, 0, 0, []⟩, _,
    { (live) with
        gcl := { (live).gcl with checked := [⟨0, 0, 0, none, 0x20, 0x30, 0, 0x20, 0, false, true, 0, 0, 0, 0, 0, 0, []⟩] }
          },
    ⟨rfl, by decide +kernel⟩⟩,
    ⟨⟨0, 0, 0, none, 0x20, 0x30, 0, 0x20, 0, false, true, 0, 0, 0, 0, 0, 0,
    [1, 0, 0, 0, 0xFF, 0xFF] ++ List.replicate 26 0⟩, _, _,
    { (live) with
        gcl := { (live).gcl with
            checked := [⟨0, 0, 0, none, 0x20, 0x30, 0, 0x20, 0, false, true, 0, 0, 0, 0, 0, 0, [1, 0, 0, 0, 0xFF,
              0xFF] ++ List.replicate 26 0⟩] } },
    ⟨rfl, by decide +kernel, rfl⟩⟩,
    ⟨1, (live.modEp 1 (fun p => { p with db := 1, mask := 1 })), by decide +kernel⟩,
    ⟨0, State.reset, by decide +kernel⟩,
    ⟨1,
    ((live.modEp 1 (fun p => { p with db := 1, mask := 1 })).setP 2 0x17 0 0x12 1).modTb (fun x =>
      { x with mono := 2 ^ 90 }),
    by decide +kernel⟩,
    ⟨0, State.reset, by decide +kernel⟩,
    ⟨State.reset, by decide +kernel⟩,
    ⟨⟨0, 0, 0, none, 0x20, 0x40, 0, 0x20, 0, false, true, 0, 0, 0, 0, 1, 0, []⟩, _,
    { ({ live with gcl := { live.gcl with syncSeen := [(0, 0)] } }) with
        gcl := { ({ live with gcl := { live.gcl with syncSeen := [(0, 0)] } }).gcl with
            checked := [⟨0, 0, 0, none, 0x20, 0x40, 0, 0x20, 0, false, true, 0, 0, 0, 0, 1, 0, []⟩] } },
    ⟨rfl, by decide +kernel⟩⟩,
    ⟨⟨0, 0, 0, none, 0x20, 0x40, 0, 0x20, 0, false, true, 0, 0, 0, 0, 1, 0, []⟩, _, rcNotAuthority,
    { (live.setP 1 0x18 0 0x06 3) with
        gcl := { (live.setP 1 0x18 0 0x06 3).gcl with
            checked := [⟨0, 0, 0, none, 0x20, 0x40, 0, 0x20, 0, false, true, 0, 0, 0, 0, 1, 0, []⟩] } },
    ⟨rfl, by decide +kernel, by decide +kernel⟩⟩,
    ⟨⟨0, 0, 0, none, 0x20, 0x40, 0, 0x20, 0, false, true, 0, 0, 0, 0, 1, 0, []⟩, _, _, _, _,
    { (live) with
        gcl := { (live).gcl with checked := [⟨0, 0, 0, none, 0x20, 0x40, 0, 0x20, 0, false, true, 0, 0, 0, 0, 1, 0, []⟩] }
          },
    ⟨rfl, by decide +kernel, by decide +kernel, rfl, Prod.mk.eta⟩⟩,
    ⟨State.reset, by decide +kernel⟩,
    ⟨_, { live with gcl := { live.gcl with journalQ := [⟨0, ⟨0, 0⟩, 0, false, false, false, 0, 0, 0⟩] } },
    ⟨by decide +kernel, rfl⟩⟩⟩

/-- The hypotheses of AuthorityAndPairsChangeHands are met. -/
theorem witness_AuthorityAndPairsChangeHands :
    (∃ (s : State), s.takeFrame 0x50 1 = none) ∧
    (∃ (f : GclFrame) (s1 : State) (s : State), s.takeFrame 0x50 1 = some (f, s1) ∧ 6 < beAt f.payload 4 1) ∧
    (∃ (f : GclFrame) (s1 : State) (s : State), s.takeFrame 0x50 1 = some (f, s1) ∧ beAt f.payload 4 1 ≤ 6) ∧
    (∃ (s : State), s.gcl.pendingEpoch = none) ∧
    (∃ (e : Word) (m : Nat) (t : CellTime) (s : State), s.gcl.pendingEpoch = some (e, m, t) ∧ (t = 0 ∨
       reached t (now s) = true)) ∧
    (∃ (e : Word) (m : Nat) (t : CellTime) (s : State), s.gcl.pendingEpoch = some (e, m, t) ∧ t ≠ 0 ∧
       reached t (now s) = false) ∧
    (∃ (s : State), s.takeFrame 0x50 3 = none) ∧
    (∃ (f : GclFrame) (s1 : State) (s : State), s.takeFrame 0x50 3 = some (f, s1) ∧ beAt f.payload 0 1 = 1 ∧
       beAt f.payload 1 1 ≤ 6) ∧
    (∃ (f : GclFrame) (s1 : State) (s : State), s.takeFrame 0x50 3 = some (f, s1) ∧ beAt f.payload 0 1 = 2) ∧
    (∃ (f : GclFrame) (s1 : State) (s : State), s.takeFrame 0x50 3 = some (f, s1) ∧ beAt f.payload 0 1 ≠ 2 ∧
       (beAt f.payload 0 1 ≠ 1 ∨ 6 < beAt f.payload 1 1)) ∧
    (∃ (s : State), s.takeFrame 0x50 2 = none) ∧
    (∃ (f : GclFrame) (s1 : State) (s : State), s.takeFrame 0x50 2 = some (f, s1) ∧
       (rangerState s1 ≠ 2 ∨ s1.red.issued.any (fun (x : Word × Nat × CellTime) => !reached x.2.2 (now s1)) = true)) ∧
    (∃ (f : GclFrame) (s1 : State) (s : State), s.takeFrame 0x50 2 = some (f, s1) ∧
       rangerState s1 = 2 ∧ s1.red.issued.any (fun (x : Word × Nat × CellTime) => !reached x.2.2 (now s1)) = false) ∧
    (∃ (s : State), s.takeFrame 0x50 4 = none) ∧
    (∃ (f : GclFrame) (s1 : State) (s : State), s.takeFrame 0x50 4 = some (f, s1) ∧ (rangerState s ≠ 2 ∨
       s.red.issued = none)) ∧
    (∃ (f : GclFrame) (s1 : State) (e : Word) (m : Nat) (t : CellTime) (s : State), s.takeFrame 0x50 4 = some (f,
       s1) ∧ s.red.issued = some (e, m, t) ∧ e.toNat ≤ beAt f.payload 0 4) ∧
    (∃ (f : GclFrame) (s1 : State) (e : Word) (m : Nat) (t : CellTime) (s : State), s.takeFrame 0x50 4 = some (f,
       s1) ∧ s.red.issued = some (e, m, t) ∧ rangerState s = 2 ∧ beAt f.payload 0 4 < e.toNat) ∧
    (∃ (m : Fin 7) (s : State), (s.red.pairs[m]).copies.find? (fun c => !c.both && !c.missing && elapsed s c.at_ (s.p 2
       0x18 0 0x02 * 1000)) = none) ∧
    (∃ (m : Fin 7) (c : PairCopy) (s1 : State) (s : State), (s.red.pairs[m]).copies.find? (fun c => !c.both && !c.missing
       && elapsed s c.at_ (s.p 2 0x18 0 0x02 * 1000)) = some c ∧ pairState s m = 1 ∧ (s1 = (s.modPair m (fun p =>
       { p with
         copies := p.copies.map (fun (x : PairCopy) => if x.seq == c.seq then { x with missing := true } else x)
           })).modPair m (fun p => { p with lastMissing := some s.tb.mono }))) ∧
    (∃ (m : Fin 7) (c : PairCopy) (s : State), (s.red.pairs[m]).copies.find? (fun c => !c.both && !c.missing && elapsed s
       c.at_ (s.p 2 0x18 0 0x02 * 1000)) = some c ∧ pairState s m ≠ 1) ∧
    (∃ (m : Fin 7) (a : Nat) (s : State), (pairState s m = 1 ∨ pairState s m = 2) ∧ a = activeMember s m ∧
       memberHeard s m a (s.p 2 0x18 0 0x0F * 1000000) = false ∧
       memberHeard s m (1 - a) (s.p 2 0x18 0 0x0F * 1000000) = true) ∧
    (∃ (m : Fin 7) (s : State), (¬ ((pairState s m = 1 ∨ pairState s m = 2) ∧
       memberHeard s m (activeMember s m) (s.p 2 0x18 0 0x0F * 1000000) = false ∧
       memberHeard s m (1 - activeMember s m) (s.p 2 0x18 0 0x0F * 1000000) = true))) ∧
    (∃ (m : Fin 7) (s : State), pairState s m = 2 ∧ s.p 2 0x18 0 0x08 ≠ 0xFFFF ∧
       (s.red.pairs[m]).querySent.all (fun t => elapsed s t (s.p 2 0x18 0 0x0E * 1000000)) = true) ∧
    (∃ (m : Fin 7) (s : State), (pairState s m ≠ 2 ∨ s.p 2 0x18 0 0x08 = 0xFFFF ∨
       (s.red.pairs[m]).querySent.all (fun t => elapsed s t (s.p 2 0x18 0 0x0E * 1000000)) = false)) ∧
    (∃ (m : Fin 7) (s : State), pairState s m = 2 ∧ (s.red.pairs[m]).arbRaised = false ∧
       elapsed s (s.red.pairs[m]).heldAt (s.p 2 0x18 0 0x0D * 1000000) = true) ∧
    (∃ (m : Fin 7) (s : State), (pairState s m ≠ 2 ∨ (s.red.pairs[m]).arbRaised = true ∨
       elapsed s (s.red.pairs[m]).heldAt (s.p 2 0x18 0 0x0D * 1000000) = false)) ∧
    (∃ (q : Req) (m : Nat) (s : State), mayConfigure s q.ep = false) ∧
    (∃ (q : Req) (m : Nat) (s : State), mayConfigure s q.ep = true ∧ m ≤ 6 ∧ isPair s (masterFin m) = true) ∧
    (∃ (q : Req) (m : Nat) (s : State), mayConfigure s q.ep = true ∧ m ≤ 6 ∧ isPair s (masterFin m) = false) ∧
    (∃ (q : Req) (m : Nat) (s : State), mayConfigure s q.ep = true ∧ 6 < m) ∧
    (∃ (e : Word) (m : Nat) (s : State), rangerState s = 1 ∧
       elapsed s s.red.rangerSince (nodeTimeoutNs s) = true ∧ heardEpoch s = (e, m)) ∧
    (∃ (s : State), (rangerState s ≠ 1 ∨ elapsed s s.red.rangerSince (nodeTimeoutNs s) = false)) ∧
    (∃ (s : State), s.red.issued = none) ∧
    (∃ (e : Word) (m : Nat) (t : CellTime) (s : State), s.red.issued = some (e, m, t) ∧ rangerState s = 2 ∧
       elapsed s s.red.lastRepeat 1000000000 = true) ∧
    (∃ (e : Word) (m : Nat) (t : CellTime) (s : State), s.red.issued = some (e, m, t) ∧ (rangerState s ≠ 2 ∨
       elapsed s s.red.lastRepeat 1000000000 = false)) ∧
    (∃ (s1 : State) (s : State), rangerState s = 3 ∧ elapsed s s.red.rangerHeard (nodeTimeoutNs s) = true ∧
       s1 = (s.setP 1 0x18 0 0x13 1).endFault (ident .bbs 22) 0 0) ∧
    (∃ (s : State), (rangerState s ≠ 3 ∨ elapsed s s.red.rangerHeard (nodeTimeoutNs s) = false)) ∧
    (∃ (m : Fin 7) (s : State), swapReady s 1 m.val 0 (s.red.pairs[m]).swapMark = none) ∧
    (∃ (m : Fin 7) (t : CellTime) (s0 s1 : State) (s : State),
       swapReady s 1 m.val 0 (s.red.pairs[m]).swapMark = some (t, s0) ∧
       s1 = (s0.modPair m (fun p => { p with swapMark := markNow s t })).takeover m ∧ pairState s m ≠ 1) ∧
    (∃ (m : Fin 7) (t : CellTime) (s0 s1 : State) (s : State),
       swapReady s 1 m.val 0 (s.red.pairs[m]).swapMark = some (t, s0) ∧
       s1 = (s0.modPair m (fun p => { p with swapMark := markNow s t })).takeover m ∧ pairState s m = 1 ∧
       (activeMember s1 m == activeMember s m && memberHeard s m 0 1000000000 && memberHeard s m 1 1000000000 &&
       !(s.red.pairs[m]).lastMissing.any (fun x => !elapsed s x 1000000000)) = true) ∧
    (∃ (m : Fin 7) (t : CellTime) (s0 s1 : State) (s : State),
       swapReady s 1 m.val 0 (s.red.pairs[m]).swapMark = some (t, s0) ∧
       s1 = (s0.modPair m (fun p => { p with swapMark := markNow s t })).takeover m ∧ pairState s m = 1 ∧
       (activeMember s1 m == activeMember s m && memberHeard s m 0 1000000000 && memberHeard s m 1 1000000000 &&
       !(s.red.pairs[m]).lastMissing.any (fun x => !elapsed s x 1000000000)) = false) :=
  ⟨⟨State.reset, by decide +kernel⟩,
    ⟨⟨0, 0, 0, none, 0x20, 0x50, 0, 0x20, 0, false, true, 0, 0, 0, 0, 1, 0, [0, 0, 0, 0, 7]⟩, _,
    { (live) with
        gcl := { (live).gcl with
            checked := [⟨0, 0, 0, none, 0x20, 0x50, 0, 0x20, 0, false, true, 0, 0, 0, 0, 1, 0, [0, 0, 0, 0, 7]⟩] } },
    ⟨rfl, by decide +kernel⟩⟩,
    ⟨⟨0, 0, 0, none, 0x20, 0x50, 0, 0x20, 0, false, true, 0, 0, 0, 0, 1, 0, []⟩, _,
    { (live) with
        gcl := { (live).gcl with checked := [⟨0, 0, 0, none, 0x20, 0x50, 0, 0x20, 0, false, true, 0, 0, 0, 0, 1, 0, []⟩] }
          },
    ⟨rfl, by decide +kernel⟩⟩,
    ⟨State.reset, by decide +kernel⟩,
    ⟨5, 0, 0, { live with gcl := { live.gcl with pendingEpoch := some (5, 0, 0) } }, by decide +kernel⟩,
    ⟨5, 0, 1, { live with gcl := { live.gcl with pendingEpoch := some (5, 0, 1) } }, by decide +kernel⟩,
    ⟨State.reset, by decide +kernel⟩,
    ⟨⟨0, 0, 0, none, 0x20, 0x50, 0, 0x20, 0, false, true, 0, 0, 0, 0, 3, 0, [1]⟩, _,
    { (live) with
        gcl := { (live).gcl with
            checked := [⟨0, 0, 0, none, 0x20, 0x50, 0, 0x20, 0, false, true, 0, 0, 0, 0, 3, 0, [1]⟩] } },
    ⟨rfl, by decide +kernel, by decide +kernel⟩⟩,
    ⟨⟨0, 0, 0, none, 0x20, 0x50, 0, 0x20, 0, false, true, 0, 0, 0, 0, 3, 0, [2]⟩, _,
    { (live) with
        gcl := { (live).gcl with
            checked := [⟨0, 0, 0, none, 0x20, 0x50, 0, 0x20, 0, false, true, 0, 0, 0, 0, 3, 0, [2]⟩] } },
    ⟨rfl, by decide +kernel⟩⟩,
    ⟨⟨0, 0, 0, none, 0x20, 0x50, 0, 0x20, 0, false, true, 0, 0, 0, 0, 3, 0, [3]⟩, _,
    { (live) with
        gcl := { (live).gcl with
            checked := [⟨0, 0, 0, none, 0x20, 0x50, 0, 0x20, 0, false, true, 0, 0, 0, 0, 3, 0, [3]⟩] } },
    ⟨rfl, by decide +kernel, by decide +kernel⟩⟩,
    ⟨State.reset, by decide +kernel⟩,
    ⟨⟨0, 0, 0, none, 0x20, 0x50, 0, 0x20, 0, false, true, 0, 0, 0, 0, 2, 0, []⟩, _,
    { (live) with
        gcl := { (live).gcl with checked := [⟨0, 0, 0, none, 0x20, 0x50, 0, 0x20, 0, false, true, 0, 0, 0, 0, 2, 0, []⟩] }
          },
    ⟨rfl, by decide +kernel⟩⟩,
    ⟨⟨0, 0, 0, none, 0x20, 0x50, 0, 0x20, 0, false, true, 0, 0, 0, 0, 2, 0, []⟩, _,
    { (live.setP 1 0x18 0 0x13 2) with
        gcl := { (live.setP 1 0x18 0 0x13 2).gcl with
            checked := [⟨0, 0, 0, none, 0x20, 0x50, 0, 0x20, 0, false, true, 0, 0, 0, 0, 2, 0, []⟩] } },
    ⟨rfl, by decide +kernel, by decide +kernel⟩⟩,
    ⟨State.reset, by decide +kernel⟩,
    ⟨⟨0, 0, 0, none, 0x20, 0x50, 0, 0x20, 0, false, true, 0, 0, 0, 0, 4, 0, []⟩, _,
    { (live) with
        gcl := { (live).gcl with checked := [⟨0, 0, 0, none, 0x20, 0x50, 0, 0x20, 0, false, true, 0, 0, 0, 0, 4, 0, []⟩] }
          },
    ⟨rfl, by decide +kernel⟩⟩,
    ⟨⟨0, 0, 0, none, 0x20, 0x50, 0, 0x20, 0, false, true, 0, 0, 0, 0, 4, 0, [0, 0, 0, 6]⟩, _, 5, 0, 0,
    { ({ live.setP 1 0x18 0 0x13 2 with red := { live.red with issued := some (5, 0, 0) } }) with
        gcl := { ({ live.setP 1 0x18 0 0x13 2 with red := { live.red with issued := some (5, 0, 0) } }).gcl with
            checked := [⟨0, 0, 0, none, 0x20, 0x50, 0, 0x20, 0, false, true, 0, 0, 0, 0, 4, 0, [0, 0, 0, 6]⟩] } },
    ⟨rfl, rfl, by decide +kernel⟩⟩,
    ⟨⟨0, 0, 0, none, 0x20, 0x50, 0, 0x20, 0, false, true, 0, 0, 0, 0, 4, 0, []⟩, _, 5, 0, 0,
    { ({ live.setP 1 0x18 0 0x13 2 with red := { live.red with issued := some (5, 0, 0) } }) with
        gcl := { ({ live.setP 1 0x18 0 0x13 2 with red := { live.red with issued := some (5, 0, 0) } }).gcl with
            checked := [⟨0, 0, 0, none, 0x20, 0x50, 0, 0x20, 0, false, true, 0, 0, 0, 0, 4, 0, []⟩] } },
    ⟨rfl, rfl, by decide +kernel, by decide +kernel⟩⟩,
    ⟨0, State.reset, by decide +kernel⟩,
    ⟨0, ⟨0, 0, 0, 0, 0, false, false⟩, _,
    (((live.setPAt 1 0x18 0 0x03 0 1).modPair 0 (fun p => { p with copies := [⟨0, 0, 0, 0, 0, false, false⟩] }))).modTb
      (fun x => { x with mono := 2 ^ 90 }),
    ⟨by decide +kernel, by decide +kernel, rfl⟩⟩,
    ⟨0, ⟨0, 0, 0, 0, 0, false, false⟩,
    (((live.setPAt 1 0x18 0 0x03 0 2).modPair 0 (fun p => { p with copies := [⟨0, 0, 0, 0, 0, false, false⟩] }))).modTb
      (fun x => { x with mono := 2 ^ 90 }),
    by decide +kernel⟩,
    ⟨0, 0, (live.setPAt 1 0x18 0 0x03 0 1).modPair 0 (fun p => { p with lastFrame := p.lastFrame.set 1 (some 0) }),
    by decide +kernel⟩,
    ⟨0, State.reset, by decide +kernel⟩,
    ⟨0, (live.setPAt 1 0x18 0 0x03 0 2).setP 2 0x18 0 0x08 5, by decide +kernel⟩,
    ⟨0, State.reset, by decide +kernel⟩,
    ⟨0, ((live.setPAt 1 0x18 0 0x03 0 2)).modTb (fun x => { x with mono := 2 ^ 90 }), by decide +kernel⟩,
    ⟨0, State.reset, by decide +kernel⟩,
    ⟨⟨0, 0, 0⟩, 0, State.reset, by decide +kernel⟩,
    ⟨⟨1, 0, 0⟩, 0, live.setBytes 0x17 0 0x0D 0 [5, 0, 6, 0], by decide +kernel⟩,
    ⟨⟨1, 0, 0⟩, 0, live, by decide +kernel⟩,
    ⟨⟨1, 0, 0⟩, 7, live, by decide +kernel⟩,
    ⟨_, _, (live.setP 1 0x18 0 0x13 1).modTb (fun x => { x with mono := 2 ^ 90 }), ⟨by decide +kernel, by decide +kernel,
    rfl⟩⟩,
    ⟨State.reset, by decide +kernel⟩,
    ⟨State.reset, by decide +kernel⟩,
    ⟨5, 0, 0,
    ({ live.setP 1 0x18 0 0x13 2 with red := { live.red with issued := some (5, 0, 0) } }).modTb (fun x =>
      { x with mono := 2 ^ 90 }),
    by decide +kernel⟩,
    ⟨5, 0, 0, { live.setP 1 0x18 0 0x13 3 with red := { live.red with issued := some (5, 0, 0) } }, by decide +kernel⟩,
    ⟨_, (live.setP 1 0x18 0 0x13 3).modTb (fun x => { x with mono := 2 ^ 90 }), ⟨by decide +kernel, by decide +kernel,
    rfl⟩⟩,
    ⟨State.reset, by decide +kernel⟩,
    ⟨0, State.reset, by decide +kernel⟩,
    ⟨0, _, _, _,
    (live.setPAt 1 0x18 0 0x03 0 2).modPair 0 (fun p => { p with
        lastFrame := (p.lastFrame.set 0 (some 0)).set 1 (some 0), lastMissing := none }) |> fun x =>
      { x with red := { x.red with swaps := [(1, 0, 0)] } },
    ⟨rfl, rfl, by decide +kernel⟩⟩,
    ⟨0, _, _, _,
    (live.setPAt 1 0x18 0 0x03 0 1).modPair 0 (fun p => { p with
        lastFrame := (p.lastFrame.set 0 (some 0)).set 1 (some 0), lastMissing := none }) |> fun x =>
      { x with red := { x.red with swaps := [(1, 0, 0)] } },
    ⟨rfl, rfl, by decide +kernel, by decide +kernel⟩⟩,
    ⟨0, _, _, _, (live.setPAt 1 0x18 0 0x03 0 1) |> fun x => { x with red := { x.red with swaps := [(1, 0, 0)] } }, ⟨rfl,
    rfl, by decide +kernel, by decide +kernel⟩⟩⟩

end Sys2Proof.Machine
end

section
/-! PROOFS. Sample words (R71, R72): the word of a sample is its value with the eight status bits below it, so each status bit
reads as the condition that it reports. -/

namespace Sys2Proof.Machine

/-! ### Flags below a value -/

/-- A flag's term in a sum of place values is the place times the flag's number. -/
theorem ite_eq_mul_toNat (b : Bool) (place : Nat) : (if b then place else 0) = place * b.toNat := by
  cases b <;> simp

/-- Flags put below a value, the first of them lowest, read back as they were put. -/
theorem testBit_foldr_bit (flags : List Bool) (value k : Nat) (hk : k < flags.length) :
    (flags.foldr Nat.bit value).testBit k = flags[k] := by
  induction flags generalizing k with
  | nil => simp at hk
  | cons b bs ih =>
    cases k with
    | zero => exact Nat.testBit_bit_zero b _
    | succ k => exact (Nat.testBit_bit_succ k b _).trans (ih k (Nat.lt_of_succ_lt_succ hk))

/-! ### The value and the status bits of a sample word -/

/-- The value that a sample word carries (R71): the end of the 24-bit range under OVER or UNDER, else the Q2.30 value rounded
and kept in range. -/
def sampleValue (y : Int) (sat : BitVec 8) : Int :=
  if sat.getLsbD 0 then 0x7FFFFF else if sat.getLsbD 1 then -0x800000 else max (-0x800000) (min 0x7FFFFF (roundDiv y 256))

/-- The status bits of a sample word, from bit 0: VALID, SETTLING, OVER, UNDER, OPEN, SHORT, HANDOVER and TIME_UNCERTAIN. -/
def statusFlags (sat : BitVec 8) (settling opened short handover unc : Bool) : List Bool :=
  [!(settling || sat.getLsbD 0 || sat.getLsbD 1 || opened || short),
    settling, sat.getLsbD 0, sat.getLsbD 1, opened, short, handover, unc]

/-- The sum in `sampleWord` never carries: the word is its value with the status bits below it. -/
theorem sampleWord_eq_foldr_bit (y : Int) (sat : BitVec 8) (settling opened short handover unc : Bool) :
    sampleWord y sat settling opened short handover unc =
      BitVec.ofNat 32 ((statusFlags sat settling opened short handover unc).foldr Nat.bit
        (ofSigned 24 (sampleValue y sat))) := by
  apply congrArg (BitVec.ofNat 32)
  simp only [statusFlags, List.foldr, Nat.bit_val, ite_eq_mul_toNat, sampleValue]
  omega

theorem sampleWord_getLsbD (y : Int) (sat : BitVec 8) (settling opened short handover unc : Bool) (k : Nat)
    (hk : k < (statusFlags sat settling opened short handover unc).length) :
    (sampleWord y sat settling opened short handover unc).getLsbD k =
      (statusFlags sat settling opened short handover unc)[k] := by
  have hword : k < 32 := hk.trans (by simp [statusFlags])
  simp only [sampleWord_eq_foldr_bit, BitVec.getLsbD_ofNat, testBit_foldr_bit _ _ k hk, hword, decide_true, Bool.true_and]

/-- Settles O10: the bits of the word are `statusFlags`, whose VALID is the negation of the disjunction of the five error
bits; HANDOVER and TIME_UNCERTAIN do not occur in it (R72). -/
theorem aValidSampleHasNoErrorBit : Obligations.AValidSampleHasNoErrorBit := by
  intro y sat settling opened short handover unc
  have bit (handover unc : Bool) (k : Nat) (hk : k < 8) := sampleWord_getLsbD y sat settling opened short handover unc k hk
  constructor
  · rw [bit _ _ 0 (by decide), bit _ _ 1 (by decide), bit _ _ 2 (by decide), bit _ _ 3 (by decide), bit _ _ 4 (by decide),
      bit _ _ 5 (by decide)]
    simp [statusFlags, and_assoc]
  · intro handover' unc'
    rw [bit handover' unc' 0 (by decide), bit handover unc 0 (by decide)]
    rfl

end Sys2Proof.Machine
end

section
/-! PROOFS. Replay windows (R372): which of the shared mailbox operations write a replay window. None but the completion of a
command does, and that one pushes its entry onto the window of its own endpoint. -/

namespace Sys2Proof.Machine

/-! ### The windows under the operations that a completion calls -/

/-- The replay window of every endpoint. -/
def State.windows (s : State) (e : Fin 8) : List ReplayEntry := (s.mbx.eps[e]).window

section
variable (s : State)

theorem State.windows_modEp (e : Fin 8) (g : Endpoint → Endpoint) :
    (s.modEp e g).windows = Function.update s.windows e (g s.mbx.eps[e]).window := by
  funext i
  by_cases hi : i = e
  · subst hi; simp [State.windows, State.modEp]
  · have hne : e.val ≠ i.val := fun h => hi (Fin.ext h.symm)
    simp [State.windows, State.modEp, Function.update_of_ne hi, Vector.getElem_set_ne _ _ hne]

theorem State.windows_modEp_of_window_eq (e : Fin 8) {g : Endpoint → Endpoint} (hg : ∀ p, (g p).window = p.window) :
    (s.modEp e g).windows = s.windows := by
  rw [State.windows_modEp, hg]
  exact Function.update_eq_self e s.windows

@[simp] theorem State.windows_inc (n cls inst attr : Nat) : (s.inc n cls inst attr).windows = s.windows := rfl

@[simp] theorem State.windows_writeBuf (buf off : Nat) (l : List Byte) : (s.writeBuf buf off l).windows = s.windows := rfl

@[simp] theorem State.windows_setBuf (buf : Nat) (v : Option BufState) : (s.setBuf buf v).windows = s.windows := rfl

@[simp] theorem State.windows_setPhase (e : Fin 8) (tag ph : Nat) : (s.modEp e (setPhase tag ph)).windows = s.windows :=
  s.windows_modEp_of_window_eq e fun _ => rfl

@[simp] theorem State.windows_pushCompletion (c : Completion) : (s.pushCompletion c).windows = s.windows :=
  s.windows_modEp_of_window_eq 0 fun _ => rfl

@[simp] theorem State.windows_clearPosted (e : Fin 8) : (s.clearPosted e).windows = s.windows :=
  s.windows_modEp_of_window_eq e fun _ => by split <;> rfl

/-- The frame law of `sendRsp` leaves the endpoints out of what sending a frame may change. -/
theorem State.windows_sendRsp (hs : s.Sound) (e : Fin 8) (tag : Nat) (seq : Word) (opcode : Nat) (code : BitVec 16)
    (payload : List Byte) (srcNode : Nat) (srcMac : BitVec 48) :
    (s.sendRsp e tag seq opcode code payload srcNode srcMac).windows = s.windows := by
  have hkeeps := State.sendRsp_keeps s e tag seq opcode code payload srcNode srcMac subRefl (keeps_refl _ s hs)
  obtain ⟨_, _, hagree⟩ := hkeeps
  funext i
  exact congrArg (fun eps : Vector Endpoint 8 => (eps[i]).window) hagree.eps_eq

end

/-! ### The windows under a completion -/

theorem State.windows_finishRaw (s : State) (hs : s.Sound) (q : Req) (opcode : Nat) (code : BitVec 16) (payload : List Byte)
    (data : Word) : (s.finishRaw q opcode code payload data).windows = s.windows := by
  unfold State.finishRaw
  extract_lets p o single buf s1 s2 s3 s2' s3'
  obtain ⟨hsound, hwin⟩ : s1.Sound ∧ s1.windows = s.windows := by
    simp only [s1]
    split
    · exact ⟨hs, rfl⟩
    · exact ⟨(State.writeBuf_keeps s _ _ _ subRefl (keeps_refl _ s hs)).2.1, s.windows_writeBuf ..⟩
  split
  case isTrue =>
    have hbuf : s2.windows = s1.windows := by simp only [s2]; split <;> simp
    simp [s3, hbuf, hwin]
  case isFalse =>
    have hrsp : s2'.windows = s1.windows := by
      simp only [s2']
      clear_value o
      cases o <;> exact s1.windows_sendRsp hsound ..
    have hbuf : s3'.windows = s2'.windows := by simp only [s3']; split <;> simp
    rw [State.windows_clearPosted, ← hwin, ← hrsp, ← hbuf]
    exact s3'.windows_modEp_of_window_eq q.ep fun _ => rfl

theorem State.windows_finishReplay (s : State) (hs : s.Sound) (q : Req) (r : ReplayEntry) :
    (s.finishReplay q r).windows = s.windows := by
  have hinc : Keeps 0x80000 s (s.inc 4 0x13 q.ep 0x0F) :=
    State.inc_keeps s 4 0x13 q.ep 0x0F rfl (by omega) (by decide) (by decide) (keeps_refl _ s hs)
  obtain ⟨_, hsound, _⟩ := hinc
  unfold State.finishReplay
  split <;> exact (State.windows_finishRaw _ hsound ..).trans (s.windows_inc ..)

/-- The copies of a completed command that waited for it complete REPLAYED, all from one entry (R373). -/
theorem State.windows_foldl_finishReplay (tags : List Nat) (s : State) (hs : s.Sound) (ep : Fin 8) (seq : Word)
    (r : ReplayEntry) :
    (tags.foldl (fun t tag => t.finishReplay { ep := ep, tag := tag, seq := seq } r) s).windows = s.windows := by
  induction tags generalizing s with
  | nil => rfl
  | cons tag tags ih =>
    have hkeeps := State.finishReplay_keeps s { ep := ep, tag := tag, seq := seq } r subRefl (keeps_refl _ s hs)
    obtain ⟨_, hsound, _⟩ := hkeeps
    exact (ih _ hsound).trans (s.windows_finishReplay hs ..)

theorem State.windows_finish_aborted (s : State) (hs : s.Sound) (q : Req) (opcode : Nat) (payload : List Byte) :
    (s.finish q opcode rcAborted payload).windows = s.windows := by
  have hraw := s.windows_finishRaw hs q opcode rcAborted payload 0
  unfold State.finish
  extract_lets s1 s2
  rw [if_pos rfl]
  have hcount : s2.windows = s.windows := (s1.windows_inc ..).trans hraw
  split
  · exact hcount
  · next t _ _ => exact (s2.windows_setPhase q.ep t 0).trans hcount

theorem State.windows_finish (s : State) (hs : s.Sound) (q : Req) (opcode : Nat) {code : BitVec 16} (payload : List Byte)
    (hcode : code ≠ rcAborted) :
    (s.finish q opcode code payload).windows =
      Function.update s.windows q.ep (windowPush (s.windows q.ep) (replayEntry q.seq opcode code payload)) := by
  have hraw := s.windows_finishRaw hs q opcode code payload 0
  have hkeeps := State.finishRaw_keeps s q opcode code payload 0 subRefl (keeps_refl _ s hs)
  unfold State.finish
  extract_lets s1 _ e s2
  rw [if_neg hcode]
  have hpush : Keeps 0x59C200000E00000 s s2 :=
    State.modEp_keeps s1 q.ep _ (su subRefl) (fun _ _ => windowPush_length _ _) hkeeps
  obtain ⟨_, hsound, _⟩ := hpush
  calc
    _ = s2.windows := State.windows_foldl_finishReplay _ s2 hsound ..
    _ = Function.update s1.windows q.ep (windowPush (s1.windows q.ep) e) := s1.windows_modEp q.ep _
    _ = _ := by rw [hraw]

/-! ### The window keeps the 64 newest entries -/

theorem windowPush_of_length_le {w : List ReplayEntry} (hw : w.length ≤ 64) (e : ReplayEntry) :
    windowPush w e = (if w.length < 64 then w else w.tail) ++ [e] := by
  unfold windowPush
  split
  case isTrue h => simp [Nat.sub_eq_zero_of_le (show w.length + 1 ≤ 64 from h)]
  case isFalse h =>
    have hfull : w.length = 64 := by omega
    simp [hfull, List.drop_append_of_le_length]

/-- Settles O17: a completion pushes its entry onto the window of its endpoint and writes no other window; ABORTED and
REPLAYED write none (R372). The bound that soundness puts on a window leaves at most the oldest entry to drop. -/
theorem theReplayWindowHoldsTheNewest64 : Obligations.TheReplayWindowHoldsTheNewest64 := by
  intro s hs q opcode code payload
  refine ⟨?aborted, ?replayed, ?others, ?own⟩
  case aborted =>
    rintro rfl e
    exact congrFun (s.windows_finish_aborted hs q opcode payload) e
  case replayed =>
    intro r e
    exact congrFun (s.windows_finishReplay hs q r) e
  case others =>
    intro hcode e he
    exact (congrFun (s.windows_finish hs q opcode payload hcode) e).trans (Function.update_of_ne he ..)
  case own =>
    intro hcode
    have ⟨_, hbounds⟩ := hs
    calc
      _ = windowPush (s.windows q.ep) (replayEntry q.seq opcode code payload) :=
        (congrFun (s.windows_finish hs q opcode payload hcode) q.ep).trans (Function.update_self ..)
      _ = _ := windowPush_of_length_le (hbounds.eps q.ep) _

end Sys2Proof.Machine
end

section
/-! PROOFS. Reads of parameters (R396, R397, R413): one equation per access for the bytes of a read, and one per form of index
for what GET_PARAM and GET_BLOCK answer once the index names a row. -/

namespace Sys2Proof.Machine

/-! ### The bytes of an attribute by its access -/

theorem attrBytes_of_wo {r : AttrRow} (hr : r.access = .wo) (s : State) (cls inst off n : Nat) :
    attrBytes s cls inst r off n = List.replicate n 0 := by
  unfold attrBytes
  exact if_pos hr

theorem readBytes_staged_of_rws {r : AttrRow} (hr : r.access = .rws) (s : State) (cls inst off n : Nat) :
    readBytes s true cls inst r off n = s.stBytes n cls inst r.attr off := by
  unfold readBytes
  exact if_pos ⟨rfl, hr⟩

/-- Without RWS the STAGED flag has no effect: the bytes in effect are read (R396). -/
theorem readBytes_of_ne_rws {r : AttrRow} (hr : r.access ≠ .rws) (s : State) (staged : Bool) (cls inst off n : Nat) :
    readBytes s staged cls inst r off n = attrBytes s cls inst r off n := by
  unfold readBytes
  exact if_neg fun h => hr h.2

theorem readBytes_of_wo {r : AttrRow} (hr : r.access = .wo) (s : State) (staged : Bool) (cls inst off n : Nat) :
    readBytes s staged cls inst r off n = List.replicate n 0 := by
  have hne : r.access ≠ .rws := by simp [hr]
  rw [readBytes_of_ne_rws hne, attrBytes_of_wo hr]

/-! ### GET_PARAM and GET_BLOCK of a defined index -/

/-- The whole span that an index names (R397); OFFSET and LENGTH of a GET_BLOCK with SPAN address it. -/
def spanBytes (s : State) (i : Nat) : List Byte :=
  (spanRows s (indexParts i).1 (indexParts i).2.2).flatMap fun a =>
    readBytes s (indexStaged i) (indexParts i).1 (indexParts i).2.1 a 0 a.size

theorem getRegisters_of_beyond (s : State) {off len : Nat} (h : 49152 < off + len) :
    getRegisters s off len = refuse s rcOutOfRange := by
  unfold getRegisters
  exact if_pos (.inr (.inr h))

section
variable {i off len : Nat} {r : AttrRow} (s : State) (hrow : indexRow i = some r)
include hrow

theorem getParamCmd_of_row :
    getParamCmd s i =
      if 64 < attrSize s (indexParts i).1 r then refuse s rcBadParam
      else { st := s, code := 0,
             payload := leBytes 2 r.size ++ [0, 0] ++
               readBytes s (indexStaged i) (indexParts i).1 (indexParts i).2.1 r 0 r.size } := by
  simp only [getParamCmd, hrow]

variable (hpos : 0 < len) (hmax : len ≤ 1000)
include hpos hmax

/-- The register window is read word by word, whatever the STAGED flag (R413). -/
theorem getBlockCmd_of_registers (hspan : indexSpan i = false) (hcls : (indexParts i).1 = 0x01)
    (hattr : (indexParts i).2.2 = 0x14) :
    getBlockCmd s i off len = getRegisters s off len := by
  have hlen : ¬(len = 0 ∨ 1000 < len) := by omega
  simp only [getBlockCmd, hrow, hlen, hspan, hcls, hattr, and_self, if_true, if_false, Bool.false_eq_true]

theorem getBlockCmd_of_attr (hspan : indexSpan i = false)
    (hreg : ¬((indexParts i).1 = 0x01 ∧ (indexParts i).2.2 = 0x14)) :
    getBlockCmd s i off len =
      if attrSize s (indexParts i).1 r < off + len then refuse s rcOutOfRange
      else { st := s, code := 0,
             payload := blockPayload off
               (readBytes s (indexStaged i) (indexParts i).1 (indexParts i).2.1 r off len) } := by
  have hlen : ¬(len = 0 ∨ 1000 < len) := by omega
  simp only [getBlockCmd, hrow, hlen, hspan, hreg, if_false, Bool.false_eq_true]

theorem getBlockCmd_of_span (hspan : indexSpan i = true) :
    getBlockCmd s i off len =
      if (spanBytes s i).length < off + len then refuse s rcOutOfRange
      else { st := s, code := 0, payload := blockPayload off (wholeBytes (spanBytes s i) off len) } := by
  have hlen : ¬(len = 0 ∨ 1000 < len) := by omega
  simp only [getBlockCmd, hrow, hlen, if_false]
  exact if_pos hspan

end

/-- Settles O18: each form of read is refused by its own size check, and what a read within the size answers follows the access
of the attribute (R396). -/
theorem readsFollowTheStageAndTheAccess : Obligations.ReadsFollowTheStageAndTheAccess := by
  refine ⟨?paramTooLarge, ?attrBeyond, ?registersBeyond, ?spanBeyond, ?writeOnly, ?staged, ?flagIgnored, ?paramRead,
    ?attrRead⟩
  case paramTooLarge =>
    intro s i r hrow hsize
    rw [getParamCmd_of_row s hrow, if_pos hsize]
  case attrBeyond =>
    intro s i off len r hrow hpos hmax hspan hreg hsize
    rw [getBlockCmd_of_attr s hrow hpos hmax hspan hreg, if_pos hsize]
  case registersBeyond =>
    intro s i off len r hrow hpos hmax hspan hcls hattr hsize
    rw [getBlockCmd_of_registers s hrow hpos hmax hspan hcls hattr, getRegisters_of_beyond s hsize]
  case spanBeyond =>
    intro s i off len r hrow hpos hmax hspan hsize
    rw [getBlockCmd_of_span s hrow hpos hmax hspan]
    exact if_pos hsize
  case writeOnly =>
    intro s cls inst off n r staged hr
    exact readBytes_of_wo hr s staged cls inst off n
  case staged =>
    intro s cls inst off n r hr
    exact readBytes_staged_of_rws hr s cls inst off n
  case flagIgnored =>
    intro s cls inst off n r hr
    rw [readBytes_of_ne_rws hr, readBytes_of_ne_rws hr]
  case paramRead =>
    intro s i r hrow hsize
    rw [getParamCmd_of_row s hrow, if_neg (Nat.not_lt.mpr hsize)]
  case attrRead =>
    intro s i off len r hrow hpos hmax hspan hreg hsize
    rw [getBlockCmd_of_attr s hrow hpos hmax hspan hreg, if_neg (Nat.not_lt.mpr hsize), blockPayload]

end Sys2Proof.Machine
end

section
/-! PROOFS. The invariant and the frame of every command: what `exec_keeps` says of all commands at once, read as a step, a run,
and a part of the state. -/

namespace Sys2Proof.Machine

/-! ### Steps and runs -/

/-- A sound state stays sound when its queue alone changes. -/
theorem State.Sound.withPending {s : State} (hs : s.Sound) (q : List Instr) : { s with pending := q }.Sound := hs

/-- An idle cycle keeps the invariant. -/
theorem sound_tick {s : State} (hs : s.Sound) : (tick s).Sound :=
  have ⟨_, hsound, _⟩ := tick_keeps s subRefl (keeps_refl _ s hs)
  hsound

/-- Settles O1: `step` takes the front command off the queue, and a state is its own update by its own queue. -/
theorem stepRunsTheFrontCommand : Obligations.StepRunsTheFrontCommand := fun _ _ => rfl

/-- Settles O2: `step` on an empty queue is the tick. -/
theorem anEmptyQueueIdlesForOneCycle : Obligations.AnEmptyQueueIdlesForOneCycle := by
  intro s hempty
  simp only [step, hempty]

/-- Settles O3: the reset state holds canonical stores, empty lists and an empty queue. -/
theorem resetStateIsSound : Obligations.ResetStateIsSound := ⟨resetSound, rfl⟩

/-- Settles O5: `exec_keeps`, which goes through the commands one by one, at the state itself. -/
theorem everyCommandCompletesAndLeavesTheQueue : Obligations.EveryCommandCompletesAndLeavesTheQueue := by
  intro c s hs
  obtain ⟨t, hexec, hpending, hsound, -⟩ := exec_keeps c s s (keeps_refl _ s hs)
  exact ⟨t, hexec, hsound, hpending⟩

/-- Settles O4: a step is an idle cycle or the command in front, and both keep the invariant. -/
theorem everyStepKeepsTheInvariant : Obligations.EveryStepKeepsTheInvariant := by
  intro s hs
  cases hqueue : s.pending with
  | nil => exact ⟨tick s, anEmptyQueueIdlesForOneCycle s hqueue, sound_tick hs⟩
  | cons c rest =>
    obtain ⟨t, hexec, hsound, -⟩ := everyCommandCompletesAndLeavesTheQueue c _ (hs.withPending rest)
    refine ⟨t, ?_, hsound⟩
    simp only [step, hqueue, hexec]

/-- Settles O7: by induction on the number of steps, each of which answers a sound state again. -/
theorem noRunStops : Obligations.NoRunStops := by
  intro n
  induction n with
  | zero => exact fun _ _ => trivial
  | succ n ih =>
    intro s hs
    obtain ⟨t, hstep, hsound⟩ := everyStepKeepsTheInvariant s hs
    exact ⟨t, hstep, ih t hsound⟩

/-! ### The frame of a command -/

/-- The bit of a part in the sets of `Agree`. -/
def Part.bit : Part → Nat
  | .params cls => cls
  | .staged => 29
  | .bankCfg => 30
  | .tb => 31
  | .banks => 32
  | .down => 33
  | .up => 34
  | .links => 35
  | .u => 36
  | .l => 37
  | .f => 38
  | .captures => 39
  | .coppice => 40
  | .sched => 41
  | .canopy => 42
  | .glade => 43
  | .rules => 44
  | .raises => 45
  | .firebreak => 46
  | .wdt => 47
  | .heartwood => 48
  | .hsl => 49
  | .eps => 50
  | .ram => 51
  | .bufs => 52
  | .mbxq => 53
  | .commit => 54
  | .ports => 55
  | .sw => 56
  | .delivered => 57
  | .gcl => 58
  | .red => 59
  | .nor => 60
  | .msp => 61
  | .incoming => 62
  | .jrn => 63
  | .sup => 64
  | .draws => 65
  | .scales => 66

/-- Bytes of a class outside the set read as before, one by one. -/
theorem Agree.pBytes_eq {W : Nat} {s t : State} (h : Agree W s t) {cls inst attr off : Nat} (hcls : cls < 28)
    (hinst : inst < 256) (hattr : attr < 256) (hoff : off < 2 ^ 20) (hw : W.testBit cls = false) :
    t.pBytes 1 cls inst attr off = s.pBytes 1 cls inst attr off := by
  rcases h.params cls hcls with hin | hread
  · rw [hw] at hin; cases hin
  · have hkey : parKey cls inst attr off / 2 ^ 36 = cls := by simp only [parKey]; omega
    simp only [State.pBytes, cellsReadN, hread _ hkey]

/-- Two states that agree outside a set agree on each part whose bit is not in it. -/
theorem Agree.same {W : Nat} {s t : State} (h : Agree W s t) (q : Part) (hw : W.testBit q.bit = false) : q.same s t := by
  cases q
  case params cls => exact fun inst attr off hinst hattr hoff => h.pBytes_eq cls.isLt hinst hattr hoff hw
  case staged => exact h.staged_eq hw
  case bankCfg => exact h.bankCfg_eq hw
  case tb => exact h.tb_eq hw
  case banks => exact h.banks_eq hw
  case down => exact h.down_eq hw
  case up => exact h.up_eq hw
  case links => exact h.links_eq hw
  case u => exact h.u_eq hw
  case l => exact h.l_eq hw
  case f => exact h.f_eq hw
  case captures => exact h.captures_eq hw
  case scales => exact h.scales_eq hw
  case coppice => exact h.coppice_eq hw
  case sched => exact h.sched_eq hw
  case canopy => exact h.canopy_eq hw
  case glade => exact h.glade_eq hw
  case rules => exact h.rules_eq hw
  case raises => exact h.raises_eq hw
  case firebreak => exact h.firebreak_eq hw
  case wdt => exact h.wdt_eq hw
  case heartwood => exact h.heartwood_eq hw
  case hsl => exact h.hsl_eq hw
  case eps => exact h.eps_eq hw
  case ram => exact h.ram_eq hw
  case bufs => exact h.bufs_eq hw
  case mbxq => exact h.mbxq_eq hw
  case commit => exact h.commit_eq hw
  case ports => exact h.ports_eq hw
  case sw => exact h.sw_eq hw
  case delivered => exact h.delivered_eq hw
  case gcl => exact h.gcl_eq hw
  case red => exact h.red_eq hw
  case nor => exact h.nor_eq hw
  case msp => exact h.msp_eq hw
  case incoming => exact h.incoming_eq hw
  case jrn => exact h.jrn_eq hw
  case sup => exact h.sup_eq hw
  case draws => exact h.draws_eq hw

/-- The bits of a list of parts. -/
def partsMask (parts : List Part) : Nat := parts.foldr (fun q w => 2 ^ q.bit ||| w) 0

/-- Distinct parts have distinct bits. -/
theorem Part.bit_inj {q r : Part} (h : q.bit = r.bit) : q = r := by
  cases q with
  | params i =>
    cases r with
    | params j => exact congrArg Part.params (Fin.ext h)
    | _ => have hi := i.isLt; simp only [Part.bit] at h; omega
  | _ =>
    cases r with
    | params j => have hj := j.isLt; simp only [Part.bit] at h; omega
    | _ => simp_all [Part.bit]

theorem testBit_partsMask {parts : List Part} {q : Part} : (partsMask parts).testBit q.bit = true ↔ q ∈ parts := by
  induction parts with
  | nil => simp [partsMask]
  | cons r rest ih =>
    have hhead : (2 ^ r.bit).testBit q.bit = true ↔ q = r := by
      rw [Nat.testBit_two_pow, decide_eq_true_eq]
      exact ⟨fun h => (Part.bit_inj h).symm, fun h => by rw [h]⟩
    have hcons : partsMask (r :: rest) = 2 ^ r.bit ||| partsMask rest := rfl
    rw [hcons, Nat.testBit_or, Bool.or_eq_true, hhead, ih, List.mem_cons]

/-- The set that the laws of the operations give for a command is the set of the parts it may change. -/
theorem maskOf_eq_partsMask (c : Instr) : maskOf c = partsMask (mayChange c) := by
  cases c <;> rfl

/-- Settles O6: `exec_keeps` bounds what a command changes by `maskOf`, which holds the bits of `mayChange` and no other. -/
theorem commandsChangeOnlyTheirParts : Obligations.CommandsChangeOnlyTheirParts := by
  intro c s t q hs hexec hq
  obtain ⟨t', hexec', -, -, hagree⟩ := exec_keeps c s s (keeps_refl _ s hs)
  obtain rfl : t = t' := Host.Outcome.next.inj (hexec.symm.trans hexec')
  refine hagree.same q ?_
  rw [maskOf_eq_partsMask, Bool.eq_false_iff]
  exact fun hbit => hq (testBit_partsMask.mp hbit)

end Sys2Proof.Machine
end

section
/-! PROOFS. What reads back: the parameter store, the message RAM and the NOR after a write, and the higher words of a wider
register after a read of its lowest word. -/

namespace Sys2Proof.Machine

/-- Settles O8: the three stores are byte stores, and the laws of one write and one read of a byte store apply at their
addresses; buffers lie 1,024 bytes apart. -/
theorem storesReadBackWhatWasWritten : Obligations.StoresReadBackWhatWasWritten := by
  intro s hs
  obtain ⟨hstores, -⟩ := hs
  refine ⟨?attr, ?otherAttr, ?buffer, ?nor⟩
  case attr =>
    intro cls inst attr off l
    exact ⟨State.pBytes_setBytes cls inst attr off l hstores.dict, State.setBytes_wf cls inst attr off l hstores.dict⟩
  case otherAttr =>
    intro cls inst attr off n cls' inst' attr' off' l hinst hattr hinst' hattr' hoff hoff' hne
    exact State.pAt_setBytes_ne hstores.dict hinst hattr hinst' hattr' hoff hoff' hne
  case buffer =>
    intro buf off l
    refine ⟨cellsReadN_writeL hstores.ram, ?_⟩
    intro buf' off' n hne hoff hoff'
    exact cellsReadN_writeL_out hstores.ram (by omega)
  case nor =>
    intro a l
    exact ⟨cellsReadN_writeL hstores.nor, fun a' n hapart => cellsReadN_writeL_out hstores.nor hapart⟩

/-! ### Latched groups -/

theorem latchHolds_iff {hsl : Bool} {a : Nat} {l : Bool × Nat × List Word} :
    latchHolds hsl a l = true ↔ l.1 = hsl ∧ l.2.1 < a ∧ a ≤ l.2.1 + 4 * l.2.2.length := by
  simp [latchHolds, and_assoc]

/-- What a read shows depends on the state's latches and, where none holds the word, on the register. -/
theorem regShown_of_latched {s : State} {hsl : Bool} {a : Nat} {l : Bool × Nat × List Word}
    (h : s.tb.latches.find? (latchHolds hsl a) = some l) : regShown s hsl a = (l.2.2[(a - l.2.1) / 4 - 1]?).getD 0 := by
  simp only [regShown, h]

/-- The words above a register, as a read of it latches them. -/
def wordsAbove (s : State) (a n : Nat) : List Word := (List.range n).map fun i => regNow s (a + 4 * (i + 1))

/-- The groups that a new group at a register leaves latched. -/
def latchesClear (s : State) (hsl : Bool) (a n : Nat) : List (Bool × Nat × List Word) :=
  s.tb.latches.filter fun l => !(l.1 == hsl && decide (a ≤ l.2.1) && decide (l.2.1 ≤ a + 4 * n))

section
variable {s : State} {hsl : Bool} {a : Nat}

/-- A read of a word that no group holds latches the words above it. -/
theorem latches_regRead_of_free (h : s.tb.latches.find? (latchHolds hsl a) = none) (hn : latchCount a ≠ 0) :
    (s.regRead hsl a).2.tb.latches =
      latchesClear s hsl a (latchCount a) ++ [(hsl, a, wordsAbove s a (latchCount a))] := by
  simp [State.regRead, State.latchGroup, h, hn, State.modTb, latchesClear, wordsAbove]

/-- A read of a word that a group holds keeps the groups, but for a count word, which its group then starts from. -/
theorem latches_regRead_of_held {l : Bool × Nat × List Word} (h : s.tb.latches.find? (latchHolds hsl a) = some l) :
    (s.regRead hsl a).2.tb.latches =
      if countWord a then
        s.tb.latches.map fun x => if x = l then (hsl, a, l.2.2.drop ((a - l.2.1) / 4)) else x
      else s.tb.latches := by
  simp only [State.regRead, State.latchGroup, h]
  split <;> rfl

/-- Of the groups that stay latched, none holds a word of the new group. -/
theorem find?_latchesClear (h : s.tb.latches.find? (latchHolds hsl a) = none) {n k : Nat} (hk : k < n) :
    (latchesClear s hsl a n).find? (latchHolds hsl (a + 4 * (k + 1))) = none := by
  rw [List.find?_eq_none] at h ⊢
  intro l hl hholds
  simp only [latchesClear, List.mem_filter, Bool.not_eq_true', Bool.and_eq_false_iff, decide_eq_false_iff_not,
    beq_eq_false_iff_ne] at hl
  obtain ⟨hmem, hclear⟩ := hl
  obtain ⟨hpath, hlow, hhigh⟩ := latchHolds_iff.mp hholds
  have hfree : ¬(l.1 = hsl ∧ l.2.1 < a ∧ a ≤ l.2.1 + 4 * l.2.2.length) := fun hin => h l hmem (latchHolds_iff.mpr hin)
  rcases hclear with (hpath' | hlow') | hhigh'
  · exact hpath' hpath
  · exact hfree ⟨hpath, by omega, by omega⟩
  · omega

end

/-- A map that changes no element's answer to a test finds the image of what the test finds. -/
theorem find?_map_of_test_eq {α : Type} {p : α → Bool} {g : α → α} {l : List α} (h : ∀ x, p (g x) = p x) :
    (l.map g).find? p = (l.find? p).map g := by
  rw [List.find?_map, show p ∘ g = p from funext h]

/-- Settles O9: the words latched by the read of the lowest word are those of that instant, and no group kept from before
holds any of them; a group that is left from a count word on still holds the words above it at their places (R15, R240, R409). -/
theorem aWiderValueIsReadWhole : Obligations.AWiderValueIsReadWhole := by
  constructor
  · intro s t hsl a k hk hfree ht
    have hn : latchCount a ≠ 0 := by omega
    rw [latches_regRead_of_free hfree hn] at ht
    have hholds : latchHolds hsl (a + 4 * (k + 1)) (hsl, a, wordsAbove s a (latchCount a)) = true :=
      latchHolds_iff.mpr ⟨rfl, by dsimp only; omega, by simp only [wordsAbove, List.length_map, List.length_range]; omega⟩
    have hfind : t.tb.latches.find? (latchHolds hsl (a + 4 * (k + 1))) =
        some (hsl, a, wordsAbove s a (latchCount a)) := by
      rw [ht, List.find?_append, find?_latchesClear hfree hk, Option.none_or, List.find?_cons_of_pos hholds]
    have hindex : (a + 4 * (k + 1) - a) / 4 - 1 = k := by omega
    rw [regShown_of_latched hfind, hindex]
    simp [wordsAbove, hk]
  · intro s t hsl a k l hlow hhigh ht
    rw [latches_regRead_of_held hlow] at ht
    split at ht
    case isFalse => rw [regShown_of_latched hhigh, regShown_of_latched (ht ▸ hhigh)]
    case isTrue =>
      obtain ⟨hpath, hbelow, habove⟩ := latchHolds_iff.mp (List.find?_some hlow)
      obtain ⟨-, -, hlast⟩ := latchHolds_iff.mp (List.find?_some hhigh)
      have htest : ∀ x, latchHolds hsl (a + 4 * (k + 1))
          (if x = l then (hsl, a, l.2.2.drop ((a - l.2.1) / 4)) else x) = latchHolds hsl (a + 4 * (k + 1)) x := by
        intro x
        split
        case isFalse => rfl
        case isTrue hx =>
          subst hx
          rw [List.find?_some hhigh, latchHolds_iff]
          refine ⟨rfl, by dsimp only; omega, ?_⟩
          simp only [List.length_drop]
          omega
      have hfind : t.tb.latches.find? (latchHolds hsl (a + 4 * (k + 1))) =
          some (hsl, a, l.2.2.drop ((a - l.2.1) / 4)) := by
        rw [ht, find?_map_of_test_eq htest, hhigh]
        simp
      have hindex : (a - l.2.1) / 4 + ((a + 4 * (k + 1) - a) / 4 - 1) = (a + 4 * (k + 1) - l.2.1) / 4 - 1 := by omega
      rw [regShown_of_latched hhigh, regShown_of_latched hfind, List.getElem?_drop, hindex]

end Sys2Proof.Machine
end

section
/-! PROOFS. Outputs, counters and captures: the sources of a universal output under a change (R29, R30, R96), the counter of a
fast input under one step (R215 to R219), and the capture queue under a pop (R226). -/

namespace Sys2Proof.Machine

/-! ### A changed element -/

theorem modU_at (s : State) (u : Fin 16) (g : UChan → UChan) : (s.modU u g).u[u] = g s.u[u] := by
  simp [State.modU]

theorem modF_at (s : State) (f : Fin 8) (g : FChan → FChan) : (s.modF f g).f[f] = g s.f[f] := by
  simp [State.modF]

theorem sendUpExpress_at (s : State) (b : Fin 4) (c : UpCell) :
    (s.sendUpExpress b c).up[b] = linkExpress s.up[b] c := by
  simp [State.sendUpExpress]

/-! ### The sources of an output -/

theorem src_driveDo (s : State) (u : Fin 16) : ((s.driveDo u).u[u]).src = (s.u[u]).src := by
  unfold State.driveDo
  split
  · rfl
  · simp only [State.uLive, modU_at]

theorem src_driveDac (s : State) (u : Fin 16) (target : Int) (t : CellTime) :
    ((s.driveDac u target t).u[u]).src = (s.u[u]).src := by
  simp only [State.driveDac, modU_at]

/-- A change of the sources changes them as asked, whatever follows at the driver. -/
theorem src_setSrcU (s : State) (u : Fin 16) (g : OutSrc → OutSrc) :
    ((s.setSrcU u g).u[u]).src = g (s.u[u]).src := by
  simp only [State.setSrcU]
  split
  · split
    · simp only [modU_at]
    · simp only [src_driveDac, modU_at]
  · split
    · simp only [src_driveDo, modU_at]
    · simp only [modU_at]

/-- The configuration that the banks hold is no part of an output. -/
theorem bankCfg_setSrcU (s : State) (u : Fin 16) (g : OutSrc → OutSrc) : (s.setSrcU u g).bankCfg = s.bankCfg := by
  simp only [State.setSrcU, State.driveDac, State.driveDo, State.uLive]
  repeat' split
  all_goals rfl

/-- Safe mode and safe value are read from the configuration that the bank holds. -/
theorem uSafe_setSrcU (s : State) (u : Fin 16) (g : OutSrc → OutSrc) : uSafe (s.setSrcU u g) u = uSafe s u := by
  simp only [uSafe, State.bI, State.b, State.bBytes, bankCfg_setSrcU]

theorem changeU_imm (s : State) (u : Fin 16) (v : Int) :
    s.changeU u (.imm v) = s.setSrcU u (fun o => { o with imm := v }) := rfl

theorem changeU_safe_false (s : State) (u : Fin 16) :
    s.changeU u (.safe false) = s.setSrcU u (fun o => { o with safe := none }) := rfl

theorem src_changeU_imm (s : State) (u : Fin 16) (v : Int) :
    ((s.changeU u (.imm v)).u[u]).src = { (s.u[u]).src with imm := v } := by
  rw [changeU_imm, src_setSrcU]

theorem src_changeU_safe_false (s : State) (u : Fin 16) :
    ((s.changeU u (.safe false)).u[u]).src = { (s.u[u]).src with safe := none } := by
  rw [changeU_safe_false, src_setSrcU]

theorem src_changeU_force (s : State) (u : Fin 16) (v : Int) :
    ((s.changeU u (.force (some v))).u[u]).src = { (s.u[u]).src with force := some (clampForce (uMode s u) v) } := by
  simp only [State.changeU, modU_at, src_setSrcU]

/-- A safe state keeps the safe value that it holds already. -/
theorem src_changeU_safe_of_some (s : State) (u : Fin 16) (h : (s.u[u]).src.safe.isSome = true) :
    ((s.changeU u (.safe true)).u[u]).src = (s.u[u]).src := by
  simp only [State.changeU, h, if_true]

/-- Under SAFE_MODE 0 a safe state that is entered holds the configured value. -/
theorem src_changeU_safe_of_none (s : State) (u : Fin 16) (h : (s.u[u]).src.safe.isSome = false) (hmode : (uSafe s u).1 = 0) :
    ((s.changeU u (.safe true)).u[u]).src = { (s.u[u]).src with safe := some (uSafe s u).2 } := by
  simp only [State.changeU, h, Bool.false_eq_true, if_false, src_setSrcU, safeValue, hmode, if_true]

/-- An immediate value waits while the rank is not that of the immediate source. -/
theorem value_with_imm (o : OutSrc) (v : Int) (h : o.rank < 5) : { o with imm := v }.value = o.value := by
  obtain ⟨imm, sched, force, auton, safe⟩ := o
  cases safe with
  | some x => rfl
  | none =>
    cases auton with
    | some x => rfl
    | none =>
      cases force with
      | some x => rfl
      | none =>
        cases sched with
        | some x => rfl
        | none => exact absurd h (Nat.lt_irrefl 5)

/-- A force waits while a safe state stands. -/
theorem value_with_force (o : OutSrc) (v : Option Int) (h : o.safe.isSome = true ∨ o.auton.isSome = true) :
    { o with force := v }.value = o.value := by
  obtain ⟨imm, sched, force, auton, safe⟩ := o
  cases safe with
  | some x => rfl
  | none =>
    cases auton with
    | some x => rfl
    | none => simp at h

/-- Settles O11: a change of one source writes that source alone (`src_setSrcU`), and the value is that of the strongest
one (R29, R30, R96). -/
theorem outputsFollowTheStrongestSource : Obligations.OutputsFollowTheStrongestSource := by
  refine ⟨?kept, ?waits, ?forceWaits, ?toImm, ?toForce, ?commute⟩
  case kept => exact src_changeU_imm
  case waits =>
    intro s u v hrank
    rw [src_changeU_imm]
    exact ⟨value_with_imm _ v hrank, rfl⟩
  case forceWaits =>
    intro s u v hsafe
    rw [src_changeU_force]
    exact value_with_force _ _ hsafe
  case toImm =>
    intro s u hauton hforce hsched
    rw [src_changeU_safe_false, OutSrc.value, hauton, hforce, hsched]
    rfl
  case toForce =>
    intro s u f hauton hforce
    rw [src_changeU_safe_false, OutSrc.value, hauton, hforce]
    rfl
  case commute =>
    intro s u v b hb
    cases b with
    | false => simp only [src_changeU_imm, src_changeU_safe_false]
    | true =>
      by_cases hsafe : (s.u[u]).src.safe.isSome = true
      · rw [src_changeU_safe_of_some _ u (by rw [src_changeU_imm]; exact hsafe), src_changeU_imm, src_changeU_imm,
          src_changeU_safe_of_some s u hsafe]
      · have hmode : (uSafe s u).1 = 0 := (hb rfl).resolve_left hsafe
        have hnone : (s.u[u]).src.safe.isSome = false := by simpa using hsafe
        have hkept : uSafe (s.changeU u (.imm v)) u = uSafe s u := by rw [changeU_imm, uSafe_setSrcU]
        rw [src_changeU_safe_of_none _ u (by rw [src_changeU_imm]; exact hnone) (hkept ▸ hmode), src_changeU_imm, src_changeU_imm,
          src_changeU_safe_of_none s u hnone hmode, hkept]

/-! ### One step of a counter -/

theorem setBit16_true_self (w : BitVec 16) {i : Nat} (hi : i < 16) : (setBit16 w i true).getLsbD i = true := by
  simp [setBit16, hi]

theorem setBit16_true_ne (w : BitVec 16) {i k : Nat} (hne : k ≠ i) :
    (setBit16 w i true).getLsbD k = w.getLsbD k := by
  rcases Nat.lt_or_ge k i with h | h
  · simp [setBit16, h]
  · have hpos : k - i ≠ 0 := by omega
    simp [setBit16, hpos]

/-- The signed value follows a change unless it leaves the signed range. -/
theorem toInt_add_ofInt_iff (w : Word) (d : Int) (hd : d = 1 ∨ d = -1) :
    (w + BitVec.ofInt 32 d).toInt = w.toInt + d ↔ -2 ^ 31 ≤ w.toInt + d ∧ w.toInt + d < 2 ^ 31 := by
  have hw := BitVec.toInt_lt (x := w)
  have hw' := BitVec.le_toInt (x := w)
  rw [BitVec.toInt_add, BitVec.toInt_ofInt]
  simp only [Int.bmod_def]
  rcases hd with rfl | rfl <;> norm_num <;> omega

theorem toInt_eq_max_iff (w : Word) : w.toInt = 2 ^ 31 - 1 ↔ w = 0x7FFFFFFF#32 :=
  BitVec.toInt_inj (y := 0x7FFFFFFF#32)

theorem toInt_eq_min_iff (w : Word) : w.toInt = -2 ^ 31 ↔ w = 0x80000000#32 :=
  BitVec.toInt_inj (y := 0x80000000#32)

/-- A count of plus or minus one wraps exactly when the signed value does not follow. -/
theorem wraps_add (c : CountSt) (d : Int) (hd : d = 1 ∨ d = -1) :
    (c.add d).wraps = if (c.add d).counter.toInt = c.counter.toInt + d then c.wraps else c.wraps + 1 := by
  have hw := BitVec.toInt_lt (x := c.counter)
  have hw' := BitVec.le_toInt (x := c.counter)
  have hmax := toInt_eq_max_iff c.counter
  have hmin := toInt_eq_min_iff c.counter
  simp only [CountSt.add, toInt_add_ofInt_iff c.counter d hd]
  rcases hd with rfl | rfl
  · by_cases h : c.counter = 0x7FFFFFFF#32
    · simp [h]
    · have : c.counter.toInt ≠ 2 ^ 31 - 1 := fun e => h (hmax.mp e)
      simp [h]
      omega
  · by_cases h : c.counter = 0x80000000#32
    · simp [h]
    · have : c.counter.toInt ≠ -2 ^ 31 := fun e => h (hmin.mp e)
      simp [h]
      omega

/-- A step in mode 1 or 2 counts the edges of its own input that its mode selects, and no edge counts in mode 0 (R215). -/
theorem take_edge (c : CountSt) (t : CellTime) (own rising rev : Bool) (edges : Nat) :
    c.take ⟨t, .edge own rising 0 edges rev⟩ = c ∧
    c.take ⟨t, .edge own rising 1 edges rev⟩ =
      (if (own && natBit edges (if rising then 0 else 1)) = true then c.add 1 else c) ∧
    c.take ⟨t, .edge own rising 2 edges rev⟩ =
      (if (own && natBit edges (if rising then 0 else 1)) = true then c.add (-1) else c) :=
  ⟨rfl, rfl, rfl⟩

/-! ### The count of a fast input -/

/-- What a log makes of the base of a counter (R217). -/
def countOf (base : CountSt) (log : List CountStep) : CountSt :=
  match traceLog base log with
  | [] => base
  | p :: _ => p.2.2

/-- A fast input with a new log, before anything is told. -/
def State.relog (s : State) (f : Fin 8) (log : List CountStep) : State :=
  let tr := traceLog s.f[f].base log
  let kept := keepCounted 257 tr
  let base := match kept.getLast? with
    | some p => if kept.length < tr.length then p.2.1 else s.f[f].base
    | none => s.f[f].base
  let c := countOf s.f[f].base log
  s.modF f (fun k => { k with
    base := base, count := c, log := kept.map (·.1),
    quadErrors := k.quadErrors + BitVec.ofNat 32 (c.errors - s.f[f].count.errors) })

/-- A new wrap is told: the flag with its time, and FTI-05. -/
def State.tellWrap (s : State) (f : Fin 8) (t : CellTime) : State :=
  ((s.fFlag f 6 true).modF f (fun k => { k with wrapAt := some t })).bankRaise (bankOfF f) (ident .fti 5) 5 f

/-- A new quadrature error is told: the flag with its time, and FTI-03. -/
def State.tellQuad (s : State) (f : Fin 8) (t : CellTime) : State :=
  ((s.fFlag f 4 true).modF f (fun k => { k with quadAt := some t })).bankRaise (bankOfF f) (ident .fti 3) 5 f

section
variable (s : State) (f : Fin 8) (log : List CountStep) (t : CellTime)

theorem recount_eq :
    s.recount f log =
      (let c := countOf s.f[f].base log
       let t := bankNow s.banks[bankOfF f]
       let s1 := if s.f[f].count.wraps < c.wraps then (s.relog f log).tellWrap f t else s.relog f log
       if s.f[f].count.errors < c.errors then s1.tellQuad f t else s1) := rfl

theorem relog_at_count : ((s.relog f log).f[f]).count = countOf s.f[f].base log := by
  simp only [State.relog, modF_at]

theorem relog_at_diag : ((s.relog f log).f[f]).diag = (s.f[f]).diag := by
  simp only [State.relog, modF_at]

theorem relog_up : (s.relog f log).up = s.up := rfl

theorem relog_banks : (s.relog f log).banks = s.banks := rfl

theorem fFlag_at_count (i : Nat) (on : Bool) : ((s.fFlag f i on).f[f]).count = (s.f[f]).count := by
  rw [State.fFlag, modF_at]

theorem bankRaise_f (b : Fin 4) (id kind index : Nat) (detail : Word) : (s.bankRaise b id kind index detail).f = s.f := rfl

theorem tellWrap_at_count : ((s.tellWrap f t).f[f]).count = (s.f[f]).count := by
  rw [State.tellWrap, bankRaise_f, modF_at, fFlag_at_count]

theorem tellQuad_at_count : ((s.tellQuad f t).f[f]).count = (s.f[f]).count := by
  rw [State.tellQuad, bankRaise_f, modF_at, fFlag_at_count]

theorem tellWrap_at_diag : ((s.tellWrap f t).f[f]).diag = setBit16 (s.f[f]).diag 6 true := by
  rw [State.tellWrap, bankRaise_f, modF_at, State.fFlag, modF_at]
  rfl

theorem tellQuad_at_diag : ((s.tellQuad f t).f[f]).diag = setBit16 (s.f[f]).diag 4 true := by
  rw [State.tellQuad, bankRaise_f, modF_at, State.fFlag, modF_at]
  rfl

theorem tellWrap_up_at :
    (s.tellWrap f t).up[bankOfF f] = linkExpress (s.up[bankOfF f])
      (.fault (bankEvent (s.banks[bankOfF f]) (ident .fti 5) 5 f 0 false) 0) := by
  rw [State.tellWrap, State.bankRaise, sendUpExpress_at]
  rfl

/-- Telling does not touch the count, so the step's count is that of the new log. -/
theorem recount_at_count : ((s.recount f log).f[f]).count = countOf s.f[f].base log := by
  rw [recount_eq]
  dsimp only
  split <;> split <;> simp only [tellQuad_at_count, tellWrap_at_count, relog_at_count]

/-- DIAG.WRAPPED follows a new wrap. -/
theorem recount_at_diag_wrapped :
    ((s.recount f log).f[f]).diag.getLsbD 6 =
      (if (s.f[f]).count.wraps < ((s.recount f log).f[f]).count.wraps then true else (s.f[f]).diag.getLsbD 6) := by
  rw [recount_at_count, recount_eq]
  dsimp only
  split <;> split <;>
    simp only [tellQuad_at_diag, tellWrap_at_diag, relog_at_diag, setBit16_true_ne _ (show 6 ≠ 4 by decide),
      setBit16_true_self _ (show 6 < 16 by decide)]

variable {s f log}

/-- Without a new quadrature error the step tells the wrap at most. -/
theorem recount_of_no_error (h : ((s.recount f log).f[f]).count.errors ≤ (s.f[f]).count.errors) :
    s.recount f log =
      if (s.f[f]).count.wraps < ((s.recount f log).f[f]).count.wraps then
        (s.relog f log).tellWrap f (bankNow s.banks[bankOfF f])
      else s.relog f log := by
  rw [recount_at_count] at h ⊢
  rw [recount_eq]
  exact if_neg (Nat.not_lt.mpr h)

end

/-- Settles O12: one step of a counter (`wraps_add`, `take_edge`), and what a fast input tells of the step (`recount_eq`). -/
theorem countersWrapAndSaySo : Obligations.CountersWrapAndSaySo := by
  refine ⟨?add, fun c t own rising rev edges => take_edge c t own rising rev edges, ?wraps, ?kept, ?silent⟩
  case add =>
    intro c d hd
    have hwraps := wraps_add c d hd
    exact ⟨rfl, fun h => by rw [hwraps, if_pos h], fun h => by rw [hwraps, if_neg h]⟩
  case wraps =>
    rintro s x f t ev rfl hwrap herror
    have hdiag := recount_at_diag_wrapped s f (logWith { at_ := t, ev := ev } s.f[f].log)
    rw [State.countStep] at hwrap herror ⊢
    rw [if_pos hwrap] at hdiag
    refine ⟨hdiag, ?_⟩
    rw [recount_of_no_error herror, if_pos hwrap, tellWrap_up_at, relog_up, relog_banks]
  case kept =>
    rintro s x f t ev rfl hwrap
    rw [State.countStep] at hwrap ⊢
    rw [recount_at_diag_wrapped, if_neg (Nat.not_lt.mpr hwrap)]
  case silent =>
    rintro s x f t ev rfl hwrap herror
    rw [State.countStep] at hwrap herror ⊢
    rw [recount_of_no_error herror, if_neg (Nat.not_lt.mpr hwrap)]
    exact ⟨relog_at_diag s f _, relog_up s f _⟩

/-! ### The capture queue -/

/-- Settles O13: the pop looks for the first capture with the number and drops the queue up to it (R226). -/
theorem capturesArePoppedByNumber : Obligations.CapturesArePoppedByNumber := by
  intro s f q
  constructor
  · intro hnone
    have hfind : s.captures[f].findIdx? (fun c => c.seq == q) = none :=
      List.findIdx?_eq_none_iff.mpr fun c hc => beq_eq_false_iff_ne.mpr (hnone c hc)
    simp only [capturePop, hfind]
    exact ⟨rfl, rfl⟩
  · intro old rest c hqueue hseq hold
    have hfind : s.captures[f].findIdx? (fun c => c.seq == q) = some old.length := by
      rw [hqueue, List.findIdx?_append, List.findIdx?_eq_none_iff.mpr fun x hx => beq_eq_false_iff_ne.mpr (hold x hx)]
      simp [List.findIdx?_cons, hseq]
    have hdrop : s.captures[f].drop (old.length + 1) = rest := by rw [hqueue]; simp
    simp only [capturePop, hfind, hdrop]
    refine ⟨rfl, ?_, ?_⟩
    · simp [okRes, State.fFlag, State.modF]
    · intro g hg
      have hne : f.val ≠ g.val := fun h => hg (Fin.ext h.symm)
      simp [okRes, State.fFlag, State.modF, Vector.getElem_set_ne _ _ hne]

end Sys2Proof.Machine
end

section
/-! PROOFS. Raises, occurrences, writes, commits and claims: what the collector does with a fault that is active (R306, R307),
the 1 s windows (R625), the order of the checks of SET_PARAM (R395), a refused commit (R401), and the claim of a buffer (R370). -/

namespace Sys2Proof.Machine

/-! ### A raise of an active fault -/

/-- The collector takes a raise of an active fault as one more count, of the identifier and of the record. -/
theorem collectRaise_of_active {s : State} {r : Raise} (h : isActive s r.ident r.obj = true) :
    s.collectRaise r = (s.countFault r.ident).modFb (fun f => { f with active := f.active.map (fun a =>
      if a.ident == r.ident && a.obj == r.obj then { a with count := a.count + 1 } else a) }) := by
  simp only [State.collectRaise]
  exact if_pos h

/-- Counting an identifier writes one counter of the dictionary. -/
theorem countFault_eq (s : State) (id : Nat) : s.countFault id = { s with dict := (s.countFault id).dict } := by
  unfold State.countFault
  split <;> rfl

theorem pAt_countFault {s : State} {id : Nat} (hid : id < 384) (hdict : cellsWf parReset s.dict = true) :
    (s.countFault id).pAt 2 0x11 0 0x09 (2 * id) = min 0xFFFF (s.pAt 2 0x11 0 0x09 (2 * id) + 1) := by
  rw [State.countFault, if_pos hid, State.pAt_setPAt _ _ _ _ _ _ hdict]
  omega

/-- Settles O15: the raise is only counted (`collectRaise_of_active`), in the dictionary and in the list of active
instances (R306, R307). -/
theorem activeInstancesAreNotRaisedAgain : Obligations.ActiveInstancesAreNotRaisedAgain := by
  intro s r hactive
  rw [collectRaise_of_active hactive, countFault_eq]
  refine ⟨rfl, rfl, rfl, rfl, rfl, rfl, rfl, fun hdict hid => ?_⟩
  rw [← pAt_countFault hid hdict]
  rfl

/-! ### Occurrences -/

/-- The windows after an occurrence: that of the identifier and object comes last. -/
theorem windows_occur (s : State) (id kind index : Nat) :
    (s.occur id kind index).firebreak.windows =
      s.firebreak.windows.filter (fun w => !(w.ident == id && w.obj == ⟨kind, index⟩)) ++
        [{ ident := id, obj := ⟨kind, index⟩, times := windowOf s.firebreak id ⟨kind, index⟩ s.tb.mono ++ [s.tb.mono] }] := by
  simp only [State.occur]
  split <;> rfl

theorem raises_occur (s : State) (id kind index : Nat) :
    (s.occur id kind index).firebreak.raises =
      if (windowOf s.firebreak id ⟨kind, index⟩ s.tb.mono).length = 16 then
        s.firebreak.raises ++
          [{ ident := id, obj := ⟨kind, index⟩, time := now s, uncertain := s.tb.uncertain, detail := 0, ends := false }]
      else s.firebreak.raises := by
  simp only [State.occur]
  split <;> rfl

/-- Every time of a window lies within the last second. -/
theorem mem_windowOf {fb : Firebreak} {id : Nat} {o : FaultObj} {m t : BitVec 96} (h : t ∈ windowOf fb id o m) :
    (m - t).toNat < 1000000000 * 2 ^ 32 := by
  unfold windowOf at h
  split at h
  · cases h
  · simpa using (List.mem_filter.mp h).2

theorem windowOf_occur_self (s : State) (id kind index : Nat) :
    windowOf (s.occur id kind index).firebreak id ⟨kind, index⟩ s.tb.mono =
      windowOf s.firebreak id ⟨kind, index⟩ s.tb.mono ++ [s.tb.mono] := by
  have hrest : (s.firebreak.windows.filter fun w => !(w.ident == id && w.obj == ⟨kind, index⟩)).find?
      (fun w => w.ident == id && w.obj == ⟨kind, index⟩) = none := by
    rw [List.find?_eq_none]
    intro w hw
    have hother := (List.mem_filter.mp hw).2
    rwa [Bool.not_eq_true', ← Bool.not_eq_true] at hother
  have hin : ∀ t ∈ windowOf s.firebreak id ⟨kind, index⟩ s.tb.mono ++ [s.tb.mono],
      decide ((s.tb.mono - t).toNat < 1000000000 * 2 ^ 32) = true := by
    intro t ht
    rw [decide_eq_true_eq]
    rcases List.mem_append.mp ht with hold | hnew
    · exact mem_windowOf hold
    · rw [List.mem_singleton.mp hnew, BitVec.sub_self]
      decide
  conv_lhs => rw [windowOf, windows_occur]
  simp only [List.find?_append, hrest, Option.none_or, List.find?_cons, beq_self_eq_true, Bool.and_self]
  exact List.filter_eq_self.mpr hin

theorem windowOf_occur_of_ne (s : State) {id kind index id' : Nat} {o : FaultObj} (m : BitVec 96)
    (hne : id' ≠ id ∨ o ≠ ⟨kind, index⟩) :
    windowOf (s.occur id kind index).firebreak id' o m = windowOf s.firebreak id' o m := by
  have hother : ∀ w : FaultWindow, (w.ident == id' && w.obj == o) = true → (w.ident == id && w.obj == ⟨kind, index⟩) = false := by
    intro w hw
    simp only [Bool.and_eq_true, beq_iff_eq] at hw
    obtain ⟨rfl, rfl⟩ := hw
    rw [Bool.and_eq_false_iff, beq_eq_false_iff_ne, beq_eq_false_iff_ne]
    exact hne
  have hfind : (s.occur id kind index).firebreak.windows.find? (fun w => w.ident == id' && w.obj == o) =
      s.firebreak.windows.find? (fun w => w.ident == id' && w.obj == o) := by
    rw [windows_occur, List.find?_append, List.find?_filter]
    have hnew : List.find? (fun w : FaultWindow => w.ident == id' && w.obj == o)
        [{ ident := id, obj := ⟨kind, index⟩, times := windowOf s.firebreak id ⟨kind, index⟩ s.tb.mono ++ [s.tb.mono] }] = none := by
      rw [List.find?_eq_none]
      intro w hw htest
      rw [List.mem_singleton.mp hw] at htest
      simpa using hother _ htest
    rw [hnew, Option.or_none]
    congr 1
    funext w
    by_cases hw : (w.ident == id' && w.obj == o) = true
    · simp [hw, hother w hw]
    · simp [hw]
  simp only [windowOf, hfind]

/-- Settles O16: the occurrence is appended to its own window, which is raised at its 17th time (R625). -/
theorem theSeventeenthOccurrenceIsRaised : Obligations.TheSeventeenthOccurrenceIsRaised := by
  intro s id kind index
  refine ⟨windowOf_occur_self s id kind index, ?_, ?_, fun id' o m hne => windowOf_occur_of_ne s m hne⟩
  · intro h
    rw [raises_occur, if_pos h]
  · intro h
    rw [raises_occur, if_neg h]

/-! ### SET_PARAM -/

section
variable {s : State} {ep : Fin 8} {i : Nat} {v : List Byte} (hpos : 0 < v.length) (hmax : v.length ≤ 64)
include hpos hmax

theorem setParamCmd_of_no_right (h : mayWrite s ep i v = false) : setParamCmd s ep i v = refuse s rcNotAuthority := by
  have hlen : ¬(v.length = 0 ∨ 64 < v.length) := by omega
  simp only [setParamCmd, hlen, h, if_false, Bool.not_false, if_true]

variable (hright : mayWrite s ep i v = true)
include hright

theorem setParamCmd_of_no_row (hrow : indexRow i = none) : setParamCmd s ep i v = refuse s rcBadParam := by
  have hlen : ¬(v.length = 0 ∨ 64 < v.length) := by omega
  simp only [setParamCmd, hlen, hright, hrow, if_false, Bool.not_true, Bool.false_eq_true]

variable {r : AttrRow} (hrow : indexRow i = some r)
include hrow

theorem setParamCmd_of_not_writable (h : writable (indexParts i).1 (indexParts i).2.1 r = false) :
    setParamCmd s ep i v = refuse s rcReadOnly := by
  have hlen : ¬(v.length = 0 ∨ 64 < v.length) := by omega
  simp only [setParamCmd, hlen, hright, hrow, h, if_false, Bool.not_true, Bool.false_eq_true, Bool.not_false, if_true]

variable (hwrite : writable (indexParts i).1 (indexParts i).2.1 r = true)
include hwrite

theorem setParamCmd_of_wrong_size (h : 64 < r.size ∨ v.length ≠ r.size) : setParamCmd s ep i v = refuse s rcBadParam := by
  have hlen : ¬(v.length = 0 ∨ 64 < v.length) := by omega
  simp only [setParamCmd, hlen, hright, hrow, hwrite, if_false, Bool.not_true, Bool.false_eq_true]
  exact if_pos h

theorem setParamCmd_of_rws (hrws : r.access = .rws) (hsize : v.length = r.size) :
    setParamCmd s ep i v = stageWrite s (indexParts i).1 (indexParts i).2.1 r 0 v := by
  have hlen : ¬(v.length = 0 ∨ 64 < v.length) := by omega
  have hsize' : ¬(64 < r.size ∨ v.length ≠ r.size) := by omega
  simp only [setParamCmd, hlen, hright, hrow, hwrite, hsize', hrws, if_false, Bool.not_true, Bool.false_eq_true]

end

/-- A staged write is refused by the range of an element, before what the owning chapters ask. -/
theorem stageWrite_of_bad_elem {s : State} {cls inst off : Nat} {r : AttrRow} {v : List Byte}
    (h : (mergedEntries s cls inst r.attr (max 1 r.elem) off v).all (fun e => elemOk r e.2) = false) :
    stageWrite s cls inst r off v = refuse s rcOutOfRange := by
  simp only [stageWrite, h, Bool.false_and, Bool.false_eq_true, if_false]

/-- A staged write that completes OK writes the masked bytes into the staged set, and sends nothing. -/
theorem stageWrite_of_ok {s : State} {cls inst off : Nat} {r : AttrRow} {v : List Byte}
    (h : (stageWrite s cls inst r off v).code = 0) :
    stageWrite s cls inst r off v = okRes (s.stageBytes cls inst r.attr off (maskFields cls r.attr off v)) := by
  unfold stageWrite at h ⊢
  split at h
  · rename_i hok
    rw [if_pos hok]
  · exact absurd h (show rcOutOfRange ≠ 0 by decide)

/-- Settles O19: SET_PARAM goes through its checks in the order of R395, and an RWS write that passes is staged (R399). -/
theorem aWriteIsCheckedInOrder : Obligations.AWriteIsCheckedInOrder := by
  intro s ep i v hpos hmax
  refine ⟨setParamCmd_of_no_right hpos hmax, fun hright hrow => setParamCmd_of_no_row hpos hmax hright hrow, ?readOnly,
    fun r hright hrow hwrite hsize => setParamCmd_of_wrong_size hpos hmax hright hrow hwrite (.inr hsize), ?staged⟩
  case readOnly =>
    intro r hright hrow hro
    exact setParamCmd_of_not_writable hpos hmax hright hrow (by simp [writable, hro])
  case staged =>
    intro r hright hrow hrws hwrite _ hsize
    rw [setParamCmd_of_rws hpos hmax hright hrow hwrite hrws hsize]
    refine ⟨stageWrite_of_bad_elem, fun hok => ?_⟩
    rw [stageWrite_of_ok hok]
    exact ⟨rfl, rfl, rfl⟩

/-! ### A refused commit -/

theorem State.pAt_orP_ne {s : State} {cls inst attr bits n cls' inst' attr' off' : Nat} (hw : cellsWf parReset s.dict = true)
    (hi : inst < 256) (ha : attr < 256) (hi' : inst' < 256) (ha' : attr' < 256) (ho' : off' + n ≤ 1048576)
    (h : cls' ≠ cls ∨ inst' ≠ inst ∨ attr' ≠ attr) :
    (s.orP cls inst attr bits).pAt n cls' inst' attr' off' = s.pAt n cls' inst' attr' off' :=
  State.pAt_setBytes_ne (off := 0) hw hi ha hi' ha' (by simp) ho' h

/-- A refused commit writes LAST_REFUSAL and DIAG of class 01. -/
theorem pAt_refuseCommit {s : State} (code : BitVec 16) (index : Nat) (hdict : cellsWf parReset s.dict = true)
    {cls inst attr off n : Nat} (hinst : inst < 256) (hattr : attr < 256) (hoff : off + n ≤ 2 ^ 20)
    (hne : ¬(cls = 1 ∧ inst = 0 ∧ (attr = 0x13 ∨ attr = 0x15))) :
    (refuseCommit s code index).st.pAt n cls inst attr off = s.pAt n cls inst attr off := by
  have hrecord := State.setBytes_wf 0x01 0 0x13 0 (leBytes 2 code.toNat ++ leBytes 2 opCommit ++ leBytes 4 index) hdict
  have hdiag : (refuseCommit s code index).st.pAt n cls inst attr off = _ :=
    State.pAt_orP_ne hrecord (by decide) (by decide) hinst hattr hoff (by omega)
  exact hdiag.trans (State.pAt_setBytes_ne hdict (by decide) (by decide) hinst hattr (by simp) hoff (by omega))

/-- A commit whose code is not OK is refused by one of its checks. -/
theorem commitConfig_of_refused {s : State} {ep : Fin 8} {t : CellTime} {h : BitVec 64}
    (hcode : (commitConfig s ep t h).code ≠ 0) : ∃ code index, commitConfig s ep t h = refuseCommit s code index := by
  unfold commitConfig at hcode ⊢
  split at hcode
  · exact ⟨_, _, rfl⟩
  · exact absurd rfl hcode

/-- Settles O20: a refusal is only recorded (R401). -/
theorem refusedCommitsChangeNothingInEffect : Obligations.RefusedCommitsChangeNothingInEffect := by
  intro s ep t h hcode
  obtain ⟨code, index, hrefused⟩ := commitConfig_of_refused hcode
  rw [hrefused]
  exact ⟨rfl, rfl, rfl, rfl, fun hdict cls inst attr off n hinst hattr hoff hne =>
    pAt_refuseCommit code index hdict hinst hattr hoff hne⟩

/-! ### Claims -/

theorem bufState_setBuf_self (s : State) (k : Nat) (v : BufState) : bufState (s.setBuf k (some v)) k = some v := by
  have hset (l : List (Nat × BufState)) : (bufsSet l k (some v)).find? (fun x => x.1 == k) = some (k, v) := by
    induction l with
    | nil => simp [bufsSet]
    | cons x t ih =>
      obtain ⟨j, w⟩ := x
      simp only [bufsSet]
      split
      · simp
      · split
        · simp
        · rename_i hne
          have hj : (j == k) = false := beq_eq_false_iff_ne.mpr fun h => hne h.symm
          simpa [List.find?_cons, hj] using ih
  simp only [bufState, State.setBuf, hset]
  rfl

theorem bufState_setBuf_ne (s : State) {j k : Nat} (v : BufState) (hj : j ≠ k) :
    bufState (s.setBuf k (some v)) j = bufState s j := by
  have hk : (k == j) = false := beq_eq_false_iff_ne.mpr hj.symm
  have hset (l : List (Nat × BufState)) :
      (bufsSet l k (some v)).find? (fun x => x.1 == j) = l.find? (fun x => x.1 == j) := by
    induction l with
    | nil => simp [bufsSet, hk]
    | cons x t ih =>
      obtain ⟨i, w⟩ := x
      simp only [bufsSet]
      split
      · simp [List.find?_cons, hk]
      · split
        · rename_i he
          subst he
          simp [hk]
        · simp only [List.find?_cons, ih]
  simp only [bufState, State.setBuf, hset]

/-- The lowest free buffer of a range is free and in the range, and every lower one of the range is taken. -/
theorem lowestFree_eq_some {s : State} {lo n k : Nat} (h : lowestFree s lo n = some k) :
    bufState s k = none ∧ lo ≤ k ∧ k < lo + n ∧ ∀ j, lo ≤ j → j < k → bufState s j ≠ none := by
  rw [lowestFree, List.find?_map, Option.map_eq_some_iff] at h
  obtain ⟨i, hfind, rfl⟩ := h
  rw [List.find?_range_eq_some] at hfind
  obtain ⟨hfree, hlt, hbelow⟩ := hfind
  refine ⟨Option.isNone_iff_eq_none.mp hfree, by omega, ?_, ?_⟩
  · have := List.mem_range.mp hlt
    omega
  · intro j hlo hj hnone
    have := hbelow (j - lo) (by omega)
    simp [Nat.sub_add_cancel hlo, hnone] at this

/-- What a claim grants comes from the general pool within the quota, or from the six buffers of endpoint 0 (R370). -/
theorem claimGrant_eq_some {s : State} {ep : Fin 8} {k : Nat} (h : claimGrant s ep = some k) :
    (poolCount s ep < s.p 1 0x13 ep 0x06 ∧ lowestFree s 0 248 = some k) ∨ (ep = 0 ∧ lowestFree s 248 6 = some k) := by
  simp only [claimGrant] at h
  split at h
  · rename_i general hgeneral
    split at hgeneral
    · rename_i hquota
      exact .inl ⟨hquota, hgeneral.trans h⟩
    · cases hgeneral
  · split at h
    · rename_i hep
      exact .inr ⟨hep, h⟩
    · cases h

/-- Settles O21: a claim holds what `claimGrant` finds, the lowest free buffer of a pool (R370). -/
theorem buffersAreClaimedOnce : Obligations.BuffersAreClaimedOnce := by
  intro s t ep k hclaim
  have hgrant : claimGrant s ep = some k ∧ t = s.setBuf k (some (.held ep)) := by
    unfold State.claim at hclaim
    split at hclaim
    · rename_i j hj
      obtain ⟨hk, rfl⟩ := Prod.mk.inj hclaim
      obtain rfl := Option.some.inj hk
      exact ⟨hj, rfl⟩
    · cases (Prod.mk.inj hclaim).1
  obtain ⟨hgrant, rfl⟩ := hgrant
  have hself := bufState_setBuf_self s k (.held ep)
  have hothers : ∀ j, j ≠ k → bufState (s.setBuf k (some (.held ep))) j = bufState s j :=
    fun j hj => bufState_setBuf_ne s _ hj
  rcases claimGrant_eq_some hgrant with ⟨hquota, hlowest⟩ | ⟨hep, hlowest⟩
  · obtain ⟨hfree, -, hlt, hbelow⟩ := lowestFree_eq_some hlowest
    exact ⟨hfree, hself, hothers, fun _ => ⟨hquota, fun j hj => hbelow j (Nat.zero_le j) hj⟩, fun hk => by omega⟩
  · obtain ⟨hfree, hlo, hlt, hbelow⟩ := lowestFree_eq_some hlowest
    exact ⟨hfree, hself, hothers, fun hk => by omega, fun _ => ⟨hep, hlt, hbelow⟩⟩

end Sys2Proof.Machine
end

section
/-! PROOFS. A logic-side reset (R549), vector recovery (R438), pending epochs (R481) and journal records (R536). -/

namespace Sys2Proof.Machine

/-! ### A logic-side reset -/

/-- What the logic side forgets of a universal channel. -/
def forgetU (k : UChan) : UChan :=
  { k with points := [], chain := { k.chain with syncRequest := none, syncRefused := false } }

/-- What the logic side forgets of a fast input. -/
def forgetF (k : FChan) : FChan := { k with storedSeq := 0 }

theorem forgetField_eq (s : State) :
    s.forgetField = allLs.foldl (fun x f => x.modF f forgetF) (allU.foldl (fun x u => x.modU u forgetU) s) := rfl

theorem foldl_forgetU_at (l : List (Fin 16)) (s : State) (i : Fin 16) :
    ((l.foldl (fun x u => x.modU u forgetU) s).u[i]).src = (s.u[i]).src ∧
      ((l.foldl (fun x u => x.modU u forgetU) s).u[i]).coef = (s.u[i]).coef := by
  induction l generalizing s with
  | nil => exact ⟨rfl, rfl⟩
  | cons u rest ih =>
    rw [List.foldl_cons, (ih _).1, (ih _).2]
    by_cases hi : u = i
    · subst hi
      rw [modU_at]
      exact ⟨rfl, rfl⟩
    · have hne : u.val ≠ i.val := fun h => hi (Fin.ext h)
      simp [State.modU, Vector.getElem_set_ne _ _ hne]

theorem foldl_forgetF_at (l : List (Fin 8)) (s : State) (i : Fin 8) :
    ((l.foldl (fun x f => x.modF f forgetF) s).f[i]).count = (s.f[i]).count := by
  induction l generalizing s with
  | nil => rfl
  | cons f rest ih =>
    rw [List.foldl_cons, ih]
    by_cases hi : f = i
    · subst hi
      rw [modF_at]
      rfl
    · have hne : f.val ≠ i.val := fun h => hi (Fin.ext h)
      simp [State.modF, Vector.getElem_set_ne _ _ hne]

theorem foldl_forgetU_f (l : List (Fin 16)) (s : State) : (l.foldl (fun x u => x.modU u forgetU) s).f = s.f := by
  induction l generalizing s with
  | nil => rfl
  | cons u rest ih => rw [List.foldl_cons, ih]; rfl

theorem foldl_forgetF_u (l : List (Fin 8)) (s : State) : (l.foldl (fun x f => x.modF f forgetF) s).u = s.u := by
  induction l generalizing s with
  | nil => rfl
  | cons f rest ih => rw [List.foldl_cons, ih]; rfl

/-- What the logic side forgets of a universal channel is no part of its sources and coefficients. -/
theorem forgetField_u (s : State) (u : Fin 16) :
    ((s.forgetField).u[u]).src = (s.u[u]).src ∧ ((s.forgetField).u[u]).coef = (s.u[u]).coef := by
  simp only [forgetField_eq, foldl_forgetF_u]
  exact foldl_forgetU_at allU s u

/-- What it forgets of a fast input is no part of its count. -/
theorem forgetField_f (s : State) (f : Fin 8) : ((s.forgetField).f[f]).count = (s.f[f]).count := by
  rw [forgetField_eq, foldl_forgetF_at]
  simp only [foldl_forgetU_f]

/-- The writes that a reset breaks off touch the memories only. -/
theorem breakWrites_field {s : State} (hs : s.Sound) : s.breakWrites.u = s.u ∧ s.breakWrites.f = s.f := by
  obtain ⟨-, -, hagree⟩ := State.breakWrites_keeps s subRefl (keeps_refl _ s hs)
  exact ⟨hagree.u_eq, hagree.f_eq⟩

theorem resetLogic_u (s : State) (cause : Nat) : (s.resetLogic cause).u = s.breakWrites.forgetField.u := by
  simp only [State.resetLogic]

theorem resetLogic_f (s : State) (cause : Nat) : (s.resetLogic cause).f = s.breakWrites.forgetField.f := by
  simp only [State.resetLogic]

/-- Settles O22: `resetLogic` lists what it keeps; what it keeps of the shared channel records is what `forgetField` leaves. -/
theorem aLogicResetLeavesTheBanks : Obligations.ALogicResetLeavesTheBanks := by
  intro s cause hs
  obtain ⟨hu, hf⟩ := breakWrites_field hs
  have hchannels (u : Fin 16) : ((s.resetLogic cause).u[u]).src = (s.u[u]).src ∧
      ((s.resetLogic cause).u[u]).coef = (s.u[u]).coef := by
    simp only [resetLogic_u, (forgetField_u s.breakWrites u).1, (forgetField_u s.breakWrites u).2, hu, and_self]
  have hinputs (f : Fin 8) : ((s.resetLogic cause).f[f]).count = (s.f[f]).count := by
    simp only [resetLogic_f, forgetField_f, hf]
  exact ⟨rfl, rfl, rfl, rfl, rfl, hchannels, hinputs, rfl, rfl, rfl, rfl, rfl, rfl, rfl, rfl, rfl, rfl⟩

/-! ### Vector recovery -/

theorem streamSt_index (s : State) (i : Nat) : (streamSt s i).index = i := by
  unfold streamSt
  cases h : s.sw.streams.find? (fun x => x.index == i) with
  | none => rfl
  | some x => simpa using List.find?_some h

theorem find?_setStream (s : State) (x : StreamSt) :
    (s.setStream x).sw.streams.find? (fun y => y.index == x.index) = some x := by
  have hrest : (s.sw.streams.filter (fun y => y.index != x.index)).find? (fun y => y.index == x.index) = none := by
    rw [List.find?_eq_none]
    intro y hy
    simpa using (List.mem_filter.mp hy).2
  simp only [State.setStream, List.find?_append, hrest, Option.none_or]
  simp

theorem streamCnt_sw (s : State) (i k : Nat) : (s.streamCnt i k).sw = s.sw := by
  unfold State.streamCnt
  split <;> rfl

theorem streamCnt_tb (s : State) (i k : Nat) : (s.streamCnt i k).tb = s.tb := by
  unfold State.streamCnt
  split <;> rfl

/-- A verdict that discards a number for lying in the history. -/
theorem recoverVerdict_of_known {x : StreamSt} {hist : Nat} {q r : BitVec 16} (hr : x.recSeq = some r)
    (hlow : -(hist : Int) < (q - r).toInt) (hhigh : (q - r).toInt < hist) (hq : q ∈ x.history) :
    recoverVerdict x hist q = .inl 1 := by
  have hwindow : ¬((hist : Int) ≤ (q - r).toInt ∨ (q - r).toInt ≤ -(hist : Int)) := by omega
  cases hx : x.history with
  | nil => rw [hx] at hq; cases hq
  | cons a t =>
    have hcontains : (a :: t).contains q = true := by rw [List.contains_iff_mem, ← hx]; exact hq
    simp only [recoverVerdict, hx, hr, hwindow, hcontains, if_false, if_true]

/-- What a verdict that passes a number says of it: it is the newest, or it lies behind the newest within the history. -/
theorem recoverVerdict_eq_inr {x : StreamSt} {hist : Nat} {q : BitVec 16} {ahead skipped : Nat}
    (h : recoverVerdict x hist q = .inr (ahead, skipped)) :
    ahead ≠ 0 ∨ ∃ r, x.recSeq = some r ∧ -(hist : Int) < (q - r).toInt ∧ (q - r).toInt ≤ 0 := by
  unfold recoverVerdict at h
  split at h
  · cases h
    exact .inl (by decide)
  · cases h
    exact .inl (by decide)
  · rename_i r hr _
    simp only at h
    split at h
    · cases h
    · split at h
      · cases h
      · split at h
        · cases h
          exact .inl (by decide)
        · exact .inr ⟨r, hr, by omega, by omega⟩

/-- A number that has passed is in the history and in the window. -/
theorem passSeq_known {x : StreamSt} {hist : Nat} {q : BitVec 16} {ahead skipped : Nat} (mono : BitVec 96) (hpos : 0 < hist)
    (hmax : hist ≤ 32) (h : recoverVerdict x hist q = .inr (ahead, skipped)) :
    recoverVerdict (passSeq x q ahead hist skipped mono) hist q = .inl 1 := by
  by_cases hahead : ahead = 0
  · obtain hne | ⟨r, hr, hlow, hhigh⟩ := recoverVerdict_eq_inr h
    · exact absurd hahead hne
    · have hnat : (r - q).toNat < hist := by
        rw [BitVec.toInt_sub, Int.bmod_def] at hlow hhigh
        rw [BitVec.toNat_sub]
        have hq := BitVec.toInt_eq_toNat_cond q
        have hr := BitVec.toInt_eq_toNat_cond r
        have := q.isLt
        have := r.isLt
        split at hq <;> split at hr <;> split at hlow <;> omega
      refine recoverVerdict_of_known (r := r) ?_ hlow (by omega) ?_
      · simp [passSeq, hahead, hr]
      · simp only [passSeq, hahead, hr, if_true, Option.getD_some, List.mem_filter, List.mem_cons, true_or, true_and,
          decide_eq_true_eq, hnat]
  · refine recoverVerdict_of_known (r := q) ?_ ?_ ?_ ?_
    · simp [passSeq, hahead]
    · simpa using hpos
    · simpa using hpos
    · simp only [passSeq, hahead, if_false, List.mem_filter, List.mem_cons, true_or, true_and, BitVec.sub_self,
        BitVec.toNat_zero, decide_eq_true_eq, hpos]

/-- The history of a stream that has just passed a frame stands. -/
theorem freshHistory_of_now {s : State} {c : StreamCfg} {x : StreamSt} (hnow : x.lastPass = s.tb.mono)
    (htimeout : 0 < c.timeoutMs) : freshHistory s c x = x := by
  have : elapsed s x.lastPass (c.timeoutMs * 1000000) = false := by
    simp only [elapsed, hnow, BitVec.sub_self, BitVec.toNat_zero, decide_eq_false_iff_not]
    omega
  simp only [freshHistory, this, Bool.false_eq_true, if_false]

theorem freshHistory_index (s : State) (c : StreamCfg) (x : StreamSt) : (freshHistory s c x).index = x.index := by
  unfold freshHistory
  split <;> rfl

theorem passSeq_index (x : StreamSt) (q : BitVec 16) (ahead hist skipped : Nat) (mono : BitVec 96) :
    (passSeq x q ahead hist skipped mono).index = x.index := rfl

theorem passSeq_lastPass (x : StreamSt) (q : BitVec 16) (ahead hist skipped : Nat) (mono : BitVec 96) :
    (passSeq x q ahead hist skipped mono).lastPass = mono := rfl

theorem setStream_tb (s : State) (x : StreamSt) : (s.setStream x).tb = s.tb := rfl

/-- A number that passes leaves its stream as `passSeq` gives it. -/
theorem streamSt_recoverTake_of_pass (s : State) (x : StreamSt) (hist : Nat) (q : BitVec 16) (ahead skipped : Nat) :
    streamSt (s.recoverTake x.index x hist q (.inr (ahead, skipped))) x.index =
      passSeq x q ahead hist skipped s.tb.mono := by
  have hfind := find?_setStream s (passSeq x q ahead hist skipped s.tb.mono)
  rw [passSeq_index] at hfind
  rw [State.recoverTake, streamSt, streamCnt_sw, hfind, Option.getD_some]

theorem mono_recoverTake_of_pass (s : State) (i : Nat) (x : StreamSt) (hist : Nat) (q : BitVec 16) (ahead skipped : Nat) :
    (s.recoverTake i x hist q (.inr (ahead, skipped))).tb.mono = s.tb.mono := by
  rw [State.recoverTake, streamCnt_tb, setStream_tb]

/-- Recovery is the verdict on the history as it stands, and what the verdict leaves. -/
theorem recoverSeq_eq (s : State) (i : Nat) (c : StreamCfg) (q : BitVec 16) :
    s.recoverSeq i c q =
      (s.recoverTake i (freshHistory s c (streamSt s i)) c.history q
        (recoverVerdict (freshHistory s c (streamSt s i)) c.history q),
       (recoverVerdict (freshHistory s c (streamSt s i)) c.history q).isRight) := by
  rw [State.recoverSeq]

/-- Settles O23: a number that passes enters the history (`passSeq_known`), which stands at the same time (R438). -/
theorem aDuplicateOfAStreamIsDiscarded : Obligations.ADuplicateOfAStreamIsDiscarded := by
  intro s i c q hpos hmax htimeout hpass
  have hindex : (freshHistory s c (streamSt s i)).index = i := by rw [freshHistory_index, streamSt_index]
  rw [recoverSeq_eq] at hpass
  obtain ⟨⟨ahead, skipped⟩, hverdict⟩ := Sum.isRight_iff.mp hpass
  rw [recoverSeq_eq s, hverdict, recoverSeq_eq]
  generalize freshHistory s c (streamSt s i) = x at hindex hverdict ⊢
  subst hindex
  have hfresh : freshHistory (s.recoverTake x.index x c.history q (.inr (ahead, skipped))) c
      (passSeq x q ahead c.history skipped s.tb.mono) = passSeq x q ahead c.history skipped s.tb.mono :=
    freshHistory_of_now (by rw [passSeq_lastPass, mono_recoverTake_of_pass]) htimeout
  rw [streamSt_recoverTake_of_pass, hfresh, passSeq_known _ hpos hmax hverdict]
  rfl

/-! ### Pending epochs -/

section
variable {s : State} {e : Word} {m : Nat} {t : CellTime}

theorem takeEpoch_of_not_higher (h : e.toNat ≤ authEpoch s) :
    s.takeEpoch e m t = s ∨ s.takeEpoch e m t = (s.gclCnt 8).orP 0x17 0 0x15 16 := by
  unfold State.takeEpoch
  split
  · exact .inl rfl
  · rw [if_pos (by omega)]
    exact .inr rfl

theorem takeEpoch_of_higher (h : authEpoch s < e.toNat) :
    s.takeEpoch e m t =
      if s.gcl.pendingEpoch.all (fun x => decide (x.1 < e)) then
        { s with gcl := { s.gcl with pendingEpoch := some (e, m, t) } }
      else s := by
  rw [State.takeEpoch, if_neg (by omega), if_neg (by omega)]

/-- An epoch waits or goes; what waits is the one from before, or the higher one that replaces it. -/
theorem pendingEpoch_takeEpoch :
    (s.takeEpoch e m t).gcl.pendingEpoch =
      if authEpoch s < e.toNat ∧ s.gcl.pendingEpoch.all (fun x => decide (x.1 < e)) = true then some (e, m, t)
      else s.gcl.pendingEpoch := by
  by_cases h : authEpoch s < e.toNat
  · rw [takeEpoch_of_higher h]
    simp only [h, true_and]
    split <;> rfl
  · rw [if_neg (fun hc => h hc.1)]
    rcases takeEpoch_of_not_higher (m := m) (t := t) (Nat.le_of_not_lt h) with hs | hs <;> rw [hs]
    rfl

end

/-- Settles O24: what waits is known (`pendingEpoch_takeEpoch`); the order of the checks is R481's, and that an epoch above
AUTH_EPOCH and not above the pending one is ignored is the model's choice (log 34). -/
theorem aPendingEpochOnlyRises : Obligations.APendingEpochOnlyRises := by
  intro s e m t
  refine ⟨?notHigher, ?higher, ?ignored, ?rises⟩
  case notHigher =>
    intro h
    rcases takeEpoch_of_not_higher (m := m) (t := t) h with hs | hs <;> rw [hs] <;> exact ⟨rfl, rfl, rfl⟩
  case higher =>
    intro h hpending
    rw [pendingEpoch_takeEpoch, if_pos]
    exact ⟨h, (Option.all_eq_true _ _).mpr fun x hx => decide_eq_true (hpending x hx)⟩
  case ignored =>
    intro x hx hlow
    rw [pendingEpoch_takeEpoch, if_neg, hx]
    rintro ⟨-, hall⟩
    exact hlow (of_decide_eq_true ((Option.all_eq_true _ _).mp hall x hx))
  case rises =>
    intro x y hx hy
    rw [pendingEpoch_takeEpoch] at hy
    split at hy
    · rename_i hnew
      obtain rfl := Option.some.inj hy
      exact BitVec.le_of_lt (of_decide_eq_true ((Option.all_eq_true _ _).mp hnew.2 x hx))
    · rw [hx] at hy
      obtain rfl := Option.some.inj hy
      exact BitVec.le_refl _

/-! ### Journal records -/

/-- A record as it is numbered and stamped. -/
def recordOf (s : State) (typ : Nat) (unc : Bool) (body : List Byte) : JRec :=
  { typ := typ, flags := (if unc then 1 else 0) + (if s.sup.powerFail then 2 else 0), number := s.jrn.next, body := body,
    at_ := s.tb.mono }

/-- A record numbered and put into the RAM buffer, before a lost one is counted and the doorbells ring. -/
def State.putRecord (s : State) (typ : Nat) (unc : Bool) (body : List Byte) : State :=
  s.modJrn (fun j => { j with
    ram := (if 512 ≤ s.jrn.ram.length then j.ram.tail else j.ram) ++ [recordOf s typ unc body], next := s.jrn.next + 1 })

theorem addRecord_eq (s : State) (typ : Nat) (unc : Bool) (body : List Byte) :
    s.addRecord typ unc body =
      (if 512 ≤ s.jrn.ram.length then (s.putRecord typ unc body).loseRecords 1 1
        else s.putRecord typ unc body).ringJournal s.jrn.next := by
  simp only [State.addRecord, State.putRecord, recordOf, decide_eq_true_eq, List.drop_one]

theorem jrn_addRecord (s : State) (typ : Nat) (unc : Bool) (body : List Byte) :
    (s.addRecord typ unc body).jrn = (s.putRecord typ unc body).jrn := by
  rw [addRecord_eq]
  split <;> rfl

theorem p_lost_loseRecords {s : State} (n diag : Nat) (hdict : cellsWf parReset s.dict = true) :
    (s.loseRecords n diag).p 4 0x1A 0 0x0F = (s.p 4 0x1A 0 0x0F + n) % 2 ^ 32 := by
  rw [State.loseRecords, State.p_orP_ne (State.setP_wf _ _ _ _ _ hdict) (by decide) (by decide) (by decide) (by decide)
    (by decide) (by decide), State.p_setP _ _ _ _ _ hdict]
  rfl

/-- Settles O25: `addRecord` numbers and appends the record (`jrn_addRecord`) and counts the one a full buffer loses. -/
theorem journalNumbersAreConsecutive : Obligations.JournalNumbersAreConsecutive := by
  intro s typ unc body
  rw [jrn_addRecord]
  refine ⟨rfl, ⟨recordOf s typ unc body, rfl, rfl, rfl, rfl⟩, fun hram => ?_, rfl, fun hdict => ?_⟩
  · simp only [State.putRecord, State.modJrn]
    split
    · simp; omega
    · simp; omega
  · rw [addRecord_eq]
    split
    · exact p_lost_loseRecords (s := s.putRecord typ unc body) 1 1 hdict
    · rfl

end Sys2Proof.Machine
end

section
/-! PROOFS. Bank links (R21 to R28, R56, R59, R61, R318, R404, R626): what the arrival of a cell does in either direction, and
the instants of a link. `exec` is opened by `exec.eq_def` here and below: by its name, `simp` would first prove an equation for
each of the commands. -/

namespace Sys2Proof.Machine

/-! ### The cell on a line arrives -/

section
variable {s : State} {b : Fin 4} {hit : Noise}

section
variable {want : UpCell → Bool} {act : State → UpCell → State} {q : BitVec 8} {again : Bool} {c : UpCell}
  (hstart : s.links[b].started = true)
include hstart

/-- An ordinary cell in order is taken: its SEQ is stepped and its content handed on (R26). -/
theorem takeUp_of_next (hline : (s.up[b]).line = .ord (s.up[b]).rxSeq c) (hwant : want c = true)
    (hgood : cellCheck (upBytes s.up[b]) hit = .good) :
    s.takeUp b hit want act =
      (act ((s.goodUp b).modUp b (fun d => { d with rxSeq := d.rxSeq + 1 })) c).turnUp b := by
  simp only [State.takeUp, hline, hstart, hwant, hgood, Bool.and_self, if_true]

/-- A good ordinary cell out of order is heard and not taken (R26). -/
theorem takeUp_of_other_seq (hline : (s.up[b]).line = .ord q c) (hwant : want c = true)
    (hgood : cellCheck (upBytes s.up[b]) hit = .good) (hq : q ≠ (s.up[b]).rxSeq) :
    s.takeUp b hit want act = (s.goodUp b).turnUp b := by
  simp only [State.takeUp, hline, hstart, hwant, hgood, hq, Bool.and_self, if_true, if_false]

/-- An ordinary cell that fails its check counts as a link error (R23). -/
theorem takeUp_of_bad (hline : (s.up[b]).line = .ord q c) (hwant : want c = true)
    (hbad : cellCheck (upBytes s.up[b]) hit ≠ .good) : s.takeUp b hit want act = (s.linkError b).turnUp b := by
  simp only [State.takeUp, hline, hstart, hwant, hbad, Bool.and_self, if_true, if_false]

/-- The first good copy of an express cell is taken (R25). -/
theorem takeUp_of_new_express (hline : (s.up[b]).line = .exp q again c) (hwant : want c = true)
    (hgood : cellCheck (upBytes s.up[b]) hit = .good) (hnew : (s.up[b]).lastExp ≠ some q) :
    s.takeUp b hit want act =
      (act ((s.goodUp b).modUp b (fun d => { d with lastExp := some q })) c).turnUp b := by
  simp only [State.takeUp, hline, hstart, hwant, hgood, hnew, Bool.and_self, if_true, if_false]

end

section
variable {want : DownCell → Bool} {act : State → DownCell → State} {q : BitVec 8} {again : Bool} {c : DownCell}
  (hhears : bankHears s b = true)
include hhears

/-- An ordinary cell to a bank in order is taken (R26). -/
theorem takeDown_of_next (hline : (s.down[b]).line = .ord (s.down[b]).rxSeq c) (hwant : want c = true)
    (hgood : cellCheck (downBytes s.down[b]) hit = .good) :
    s.takeDown b hit want act =
      (act ((s.goodDown b).modDown b (fun d => { d with rxSeq := d.rxSeq + 1 })) c).turnDown b := by
  simp only [State.takeDown, hline, hhears, hwant, hgood, Bool.and_self, if_true]

/-- The first good copy of an express cell to a bank is taken (R25). -/
theorem takeDown_of_new_express (hline : (s.down[b]).line = .exp q again c) (hwant : want c = true)
    (hgood : cellCheck (downBytes s.down[b]) hit = .good) (hnew : (s.down[b]).lastExp ≠ some q) :
    s.takeDown b hit want act =
      (act ((s.goodDown b).modDown b (fun d => { d with lastExp := some q })) c).turnDown b := by
  simp only [State.takeDown, hline, hhears, hwant, hgood, hnew, Bool.and_self, if_true, if_false]

end

end

/-- A good cell restarts the silence timer of its link; the arrival that the link waits for is the same. -/
theorem goodUp_arrivalAt (s : State) (b : Fin 4) : (s.goodUp b).links[b].arrivalAt = s.links[b].arrivalAt := by
  simp only [State.goodUp]
  split <;> simp [State.modLink]

/-- Settles O26: each cell from a bank is one case of its arrival (`takeUp_of_next` and those beside it). -/
theorem cellsFromABankAreTaken : Obligations.CellsFromABankAreTaken := by
  refine ⟨?status, ?idle, ?sample, ?edge, ?count, ?lsw, ?fault, ?share, ?outcome, ?cal, ?shareBad, ?shareRepeated⟩
  case status =>
    intro b hit vf flight c s hstart hreporting hline hgood
    simp only [exec.eq_def, execStatusCellReceived, hline, hstart, hreporting, hgood, and_self, if_true]
  case idle =>
    intro b hit s hstart hreporting hline hgood
    simp only [exec.eq_def, execIdleCellReceived, hline, hstart, hreporting, hgood, and_self, if_true]
  case sample =>
    intro b hit ss s hstart hline hgood
    simp only [exec.eq_def, execSampleCellReceived, takeUp_of_next hstart hline (hgood := hgood)]
  case edge =>
    intro b hit q again base rs s hstart hline hgood hnew
    simp only [exec.eq_def, execEdgeCellReceived, takeUp_of_new_express hstart hline (hgood := hgood) (hnew := hnew)]
  case count =>
    intro b hit cs s hstart hline hgood
    simp only [exec.eq_def, execCountCellReceived, takeUp_of_next hstart hline (hgood := hgood)]
  case lsw =>
    intro b hit f ls s hstart hline hgood
    simp only [exec.eq_def, execLswCellReceived, takeUp_of_next hstart hline (hgood := hgood)]
  case fault =>
    intro b hit q again e n s hstart hline hgood hnew
    simp only [exec.eq_def, execFaultCellReceived, takeUp_of_new_express hstart hline (hgood := hgood) (hnew := hnew)]
  case share =>
    intro b hit a c late s hstart hline hgood harrival
    have harrival' : ((s.goodUp b).modUp b (fun d => { d with rxSeq := d.rxSeq + 1 })).links[b].arrivalAt ≠ some a := by
      rw [State.modUp_links, goodUp_arrivalAt]
      exact harrival
    simp only [exec.eq_def, execShareReportReceived, takeUp_of_next hstart hline (hgood := hgood), harrival', if_false]
  case outcome =>
    intro b hit h code lag t unc frees s hstart hline hgood
    simp only [exec.eq_def, execOutcomeReportReceived, takeUp_of_next hstart hline (hgood := hgood)]
  case cal =>
    intro b hit i f s hstart hline hgood
    simp only [exec.eq_def, execCalCellReceived, takeUp_of_next hstart hline (hgood := hgood), if_true]
  case shareBad =>
    intro b hit q a c late s hstart hline hbad
    simp only [exec.eq_def, execShareReportReceived, takeUp_of_bad hstart hline (hbad := hbad)]
  case shareRepeated =>
    intro b hit q a c late s hstart hline hgood hq
    simp only [exec.eq_def, execShareReportReceived, takeUp_of_other_seq hstart hline (hgood := hgood) (hq := hq)]

/-- Settles O27: each cell to a bank is one case of its arrival (`takeDown_of_next`, `takeDown_of_new_express`). -/
theorem cellsToABankAreTaken : Obligations.CellsToABankAreTaken := by
  refine ⟨?cfg, ?counter, ?out, ?force, ?safe, ?sched, ?cancel, ?cal, ?idle⟩
  case cfg =>
    intro b hit l s hhears hline hgood
    simp only [exec.eq_def, execCfgCellReceived, takeDown_of_next hhears hline (hgood := hgood), State.takeCfg]
  case counter =>
    intro b hit f v s hhears hline hgood
    simp only [exec.eq_def, execCounterWrite, takeDown_of_next hhears hline (hgood := hgood)]
  case out =>
    intro b hit o v t s hhears hline hgood
    simp only [exec.eq_def, execOutCellReceived, takeDown_of_next hhears hline (hgood := hgood), State.takeOut]
  case force =>
    intro b hit q again o v t s hhears hline hgood hnew
    simp only [exec.eq_def, execForceCellReceived, takeDown_of_new_express hhears hline (hgood := hgood) (hnew := hnew)]
  case safe =>
    intro b hit q again op outs groups level ident t s hhears hline hgood hnew
    simp only [exec.eq_def, execSafeCellReceived, takeDown_of_new_express hhears hline (hgood := hgood) (hnew := hnew)]
  case sched =>
    intro b hit r last s hhears hline hgood
    simp only [exec.eq_def, execSchedCellReceived, takeDown_of_next hhears hline (hgood := hgood)]
  case cancel =>
    intro b hit sel kind target owner rel what s hhears hline hgood
    simp only [exec.eq_def, execCancelMarkerReceived, takeDown_of_next hhears hline (hgood := hgood)]
  case cal =>
    intro b hit i l s hhears hline hgood
    simp only [exec.eq_def, execCalCellReceived, takeDown_of_next hhears hline (hgood := hgood), State.takeCal, Bool.false_eq_true, if_false]
  case idle =>
    intro b hit s hhears hline hgood
    simp only [exec.eq_def, execIdleCellReceived, hline, hhears, hgood, and_self, if_true, Bool.false_eq_true, if_false]

/-! ### A changed direction of a link, a changed link and a changed bank -/

theorem modDown_at (s : State) (b : Fin 4) (g : LinkDir DownCell SyncCell → LinkDir DownCell SyncCell) :
    (s.modDown b g).down[b] = g s.down[b] := by
  simp [State.modDown]

theorem modUp_at (s : State) (b : Fin 4) (g : LinkDir UpCell StatusCell → LinkDir UpCell StatusCell) :
    (s.modUp b g).up[b] = g s.up[b] := by
  simp [State.modUp]

theorem modLink_at (s : State) (b : Fin 4) (g : LogicLink → LogicLink) : (s.modLink b g).links[b] = g s.links[b] := by
  simp [State.modLink]

theorem modBank_at_ne (s : State) {b c : Fin 4} (g : Bank → Bank) (hc : c ≠ b) : (s.modBank b g).banks[c] = s.banks[c] := by
  have hne : b.val ≠ c.val := fun h => hc (Fin.ext h.symm)
  simp [State.modBank, Vector.getElem_set_ne _ _ hne]

section
variable {s : State} {b : Fin 4} {hit : Noise} {flight : Nat} {c : SyncCell}

theorem syncArrives_of_good (hgood : cellCheck (downBytes s.down[b]) hit = .good) :
    s.syncArrives b hit flight c =
      ((if c.start then (s.goodDown b).linkStarted b else s.goodDown b).takeSync b c flight).turnDown b := by
  simp only [State.syncArrives, hgood, if_true]

theorem syncArrives_of_bad (hbad : cellCheck (downBytes s.down[b]) hit ≠ .good) :
    s.syncArrives b hit flight c = (s.linkError b).turnDown b := by
  simp only [State.syncArrives, hbad, if_false]

/-- The share or the arrival that the bank holds is applied at its instant, after the entries due before it (R99, R560). -/
theorem shareDue_of_reached {a : CellTime} {arrival : Bool} (hmark : (s.banks[b]).shareMark = some (a, arrival))
    (hreached : reached a (bankNow (s.banks[b])) = true) :
    s.shareDue b arrival = (s.applyDue b false (some a)).applyShare b a arrival false := by
  simp only [State.shareDue, hmark, hreached, and_self, if_true]

end

/-- Settles O28: each instant of a link is the guard of one command. -/
theorem bankLinkTimers : Obligations.BankLinkTimers := by
  refine ⟨?start, ?startSync, ?startSyncBad, ?sync, ?gap, ?rephase, ?resendUp, ?resendDown, ?bankSilent, ?logicSilent, ?share,
    ?arrival⟩
  case start =>
    intro b s hreset hphase hstarted helapsed
    have hguard : s.sup.reset.isNone ∧ s.sup.phase ≥ 4 ∧ s.links[b].started = false ∧
        elapsed s s.sup.resetAt 110000000 = true := ⟨by rw [hreset]; rfl, hphase, hstarted, helapsed⟩
    simp only [exec.eq_def, execLinkStart, if_pos hguard]
    refine ⟨_, rfl, ?_⟩
    simp only [State.modLink_down, State.modLink_up, State.modDown_up, State.modUp_down, State.modDown_links,
      State.modUp_links, modDown_at, modUp_at, modLink_at, linkTurn, linkReset, and_true, true_and]
    rfl
  case startSync =>
    intro b a c s hline hstart hhears hgood
    simp only [exec.eq_def, execLinkStartSyncReceived, hline, hstart, hhears, syncArrives_of_good hgood, Bool.and_self, if_true]
  case startSyncBad =>
    intro b a c s hline hstart hhears hbad
    simp only [exec.eq_def, execLinkStartSyncReceived, hline, hstart, hhears, syncArrives_of_bad hbad, Bool.and_self, if_true]
  case sync =>
    intro b hit flight c s hline hstart hhears hgood
    simp only [exec.eq_def, execSyncCellReceived, hline, hstart, hhears, syncArrives_of_good hgood, Bool.not_false, Bool.and_self,
      if_true, Bool.false_eq_true, if_false]
  case gap =>
    intro b s hpowered hsync helapsed
    simp only [exec.eq_def, execBankSyncGap, hpowered, hsync, helapsed, and_self, if_true]
    refine ⟨_, rfl, ?_⟩
    split
    all_goals
      simp only [State.tbEvent, State.modTb_banks, modBank_at, true_and]
      exact fun c hc => modBank_at_ne s _ hc
  case rephase =>
    intro b s hphase
    simp only [exec.eq_def, execMclkRephaseEnd, hphase, if_true]
    exact ⟨_, rfl, by rw [modBank_at], fun c hc => modBank_at_ne s _ hc⟩
  case resendUp =>
    intro b s hdue
    simp only [exec.eq_def, execCellResendTimeout, hdue, if_true]
  case resendDown =>
    intro b s hdue
    simp only [exec.eq_def, execCellResendTimeout, hdue, if_true, Bool.false_eq_true, if_false]
  case bankSilent =>
    intro b s hpowered harrived hauto helapsed
    simp only [exec.eq_def, execLinkSilenceTimeout, hpowered, harrived, hauto, helapsed, and_self, if_true]
  case logicSilent =>
    intro b s hlow hhigh helapsed
    simp only [exec.eq_def, execLogicSilenceTimeout, hlow, hhigh, helapsed, and_self, if_true]
  case share =>
    intro b a s hmark hreached
    simp only [exec.eq_def, execBankShareApply, shareDue_of_reached hmark hreached]
  case arrival =>
    intro b a s hmark hreached
    simp only [exec.eq_def, execBankArrivalInstant, shareDue_of_reached hmark hreached]

end Sys2Proof.Machine
end

section
/-! PROOFS. The time base: the servo and the best-master selection (R44 to R47, R63, R444, R447, R448), PPS and EPOCH_SET
(R45, R51 to R54). -/

namespace Sys2Proof.Machine

/-- A write of a sender that may configure is performed, and one of another is refused (R384). -/
theorem guardWrite_of_right {s : State} {q : Req} (h : mayConfigure s q.ep = true) (r : CmdRes) : guardWrite s q r = r := by
  simp only [guardWrite, h, if_true]

theorem guardWrite_of_no_right {s : State} {q : Req} (h : mayConfigure s q.ep = false) (r : CmdRes) :
    guardWrite s q r = refuse s rcNotAuthority := by
  simp only [guardWrite, h, Bool.false_eq_true, if_false]

/-- A result that is OK without a payload completes with no bytes. -/
theorem finish_okRes (s : State) (q : Req) (op : Nat) : (okRes s).finish q op = s.finish q op 0 [] := by
  simp only [okRes, CmdRes.finish]

/-- A refusal completes with its code and no bytes. -/
theorem finish_refuse (s : State) (q : Req) (op : Nat) (code : BitVec 16) :
    (refuse s code).finish q op = s.finish q op code [] := by
  simp only [refuse, CmdRes.finish]

/-! ### The best-master selection -/

section
variable {s : State}

theorem selectMaster_self (hrole : s.p 1 0x04 0 0x06 = 1) (hstate : s.tb.state ≤ 3) :
    s.selectMaster .self = ((s.setGm (clockIdentity s) 0 none).ptpRoles none).setTime 4 := by
  simp only [State.selectMaster, hrole, hstate, if_true]

theorem selectMaster_none_of_acquire (hstate : s.tb.state = 1) :
    s.selectMaster .noneFound = ((s.modTb (fun t => { t with port := none })).ptpRoles none).setTime 0 := by
  simp only [State.selectMaster, hstate, if_true]

theorem selectMaster_other {p : Fin 3} (hcapable : s.ports[p].asCapable = true) (hstate : s.tb.state = 0 ∨ s.tb.state ≥ 4)
    (gm : BitVec 64) (steps : BitVec 16) :
    s.selectMaster (.other p gm steps) = ((s.setGm gm steps (some p)).ptpRoles (some p)).toAcquire := by
  simp only [State.selectMaster, hcapable, hstate, if_true]

end

theorem portCnt_sw (s : State) (p : Fin 3) (k : Nat) : (s.portCnt p k).sw = s.sw := rfl

/-- Settles O29: the state of the time base and the instants of R44 to R448 choose the case of each command. -/
theorem theServoFollowsTheGrandmaster : Obligations.TheServoFollowsTheGrandmaster := by
  refine ⟨?sync, ?otherPort, ?lossLocked, ?lossAcquire, ?self, ?none, ?other, ?announceSelected, ?announceOther, ?holdover,
    ?boundarySend, ?boundaryRole, ?announce⟩
  case sync =>
    intro p rx gm demand s hport hcapable hstate
    simp only [exec.eq_def, execGptpSyncReceived, hport, hcapable, hstate, portCnt_sw, and_self, if_true]
  case otherPort =>
    intro p rx gm demand s hport
    simp only [exec.eq_def, execGptpSyncReceived, hport, false_and, if_false]
  case lossLocked =>
    intro s helapsed hstate
    simp only [exec.eq_def, execSyncLossTimeout, helapsed, hstate, if_true]
  case lossAcquire =>
    intro s helapsed hstate
    have hlocked : (1 : Nat) ≠ 2 := by decide
    simp only [exec.eq_def, execSyncLossTimeout, helapsed, hstate, hlocked, if_true, if_false]
  case self =>
    intro s hrole hstate
    simp only [exec.eq_def, execBestMasterChange, selectMaster_self hrole hstate]
  case none =>
    intro s hstate
    simp only [exec.eq_def, execBestMasterChange, selectMaster_none_of_acquire hstate]
  case other =>
    intro p gm steps s hcapable hstate
    simp only [exec.eq_def, execBestMasterChange, selectMaster_other hcapable hstate]
  case announceSelected =>
    intro p c s hport hexpired
    simp only [exec.eq_def, execAnnounceReceiptTimeout, hport, hexpired, if_true]
  case announceOther =>
    intro p c s hport hexpired
    simp only [exec.eq_def, execAnnounceReceiptTimeout, hport, hexpired, if_true, if_false]
  case holdover =>
    intro s hstate hbound
    simp only [exec.eq_def, execHoldoverEvaluation, hstate, hbound, and_self, if_true]
  case boundarySend =>
    intro s hnew hrole hstate
    simp only [exec.eq_def, execSyncIntervalBoundary, hnew, hrole, hstate, ne_eq, not_true_eq_false, false_and, if_false, if_true]
  case boundaryRole =>
    intro s hnew hrole hstate hreached
    have hslave : ¬s.tb.state ≥ 4 := by omega
    simp only [exec.eq_def, execSyncIntervalBoundary, hnew, hrole, hslave, hreached, ne_eq, not_false_eq_true, and_self, if_false,
      if_true]
  case announce =>
    intro p s hrole hdue
    simp only [exec.eq_def, execAnnounceInterval, hrole, hdue, and_self, if_true]

/-! ### PPS -/

section
variable {s : State} {falling : Bool} {t : CellTime} (hpolarity : (s.p 1 0x04 0 0x0B == 1) = falling)
  (hblind : tdcBlind s.tb.ppsArm (monoAt s t) = false)
include hpolarity hblind

/-- An edge that is captured is one of the polarity set, outside the 40 ns of the one before (R51). -/
theorem ppsEdge_captured : ((s.p 1 0x04 0 0x0B == 1) != falling) = false ∧ tdcBlind s.tb.ppsArm (monoAt s t) = false :=
  ⟨by rw [hpolarity]; exact bne_self_eq_false falling, hblind⟩

end

/-- Settles O30: a captured edge acts by the state of the time base and the seconds that wait; the rest is the guard of each
command. -/
theorem ppsSetsAndIsSetByTheTimeBase : Obligations.PpsSetsAndIsSetByTheTimeBase := by
  refine ⟨?stepNearest, ?stepWritten, ?steer, ?steerAndStep, ?reject, ?lost, ?rise, ?fall, ?epoch, ?epochReadOnly, ?tod⟩
  case stepNearest =>
    rintro falling t demand cap s hpolarity hblind rfl hstate hsource htod
    obtain ⟨hedge, -⟩ := ppsEdge_captured hpolarity hblind
    simp only [exec.eq_def, execPpsInEdge, hedge, hblind, hstate, hsource, htod, Bool.false_eq_true, if_false, if_true]
  case stepWritten =>
    rintro falling t demand cap v s hpolarity hblind rfl hstate hsource htod
    obtain ⟨hedge, -⟩ := ppsEdge_captured hpolarity hblind
    simp only [exec.eq_def, execPpsInEdge, hedge, hblind, hstate, hsource, htod, Bool.false_eq_true, if_false, if_true]
  case steer =>
    rintro falling t demand cap s hpolarity hblind rfl hstate htod hnear
    obtain ⟨hedge, -⟩ := ppsEdge_captured hpolarity hblind
    simp only [exec.eq_def, execPpsInEdge, hedge, hblind, hstate, htod, hnear, Bool.false_eq_true, if_false, if_true]
  case steerAndStep =>
    rintro falling t demand cap v s hpolarity hblind rfl hstate htod hnear
    obtain ⟨hedge, -⟩ := ppsEdge_captured hpolarity hblind
    simp only [exec.eq_def, execPpsInEdge, hedge, hblind, hstate, htod, hnear, Bool.false_eq_true, if_false, if_true]
  case reject =>
    rintro falling t demand cap s hpolarity hblind rfl hstate hfar
    obtain ⟨hedge, -⟩ := ppsEdge_captured hpolarity hblind
    simp only [exec.eq_def, execPpsInEdge, hedge, hblind, hstate, Nat.not_le.mpr hfar, Bool.false_eq_true, if_false]
  case lost =>
    intro s hstate helapsed
    simp only [exec.eq_def, execPpsLostTimeout, hstate, helapsed, and_self, if_true]
  case rise =>
    intro s hout hphase hmode
    simp only [exec.eq_def, execPpsOutRise, hout, hphase, hmode, and_self, if_true]
    exact ⟨_, rfl, rfl, rfl⟩
  case fall =>
    intro s hout hwidth
    simp only [exec.eq_def, execPpsOutFall, hout, hwidth, true_or, and_self, if_true]
    exact ⟨_, rfl, rfl⟩
  case epoch =>
    intro q v s hright hstate
    simp only [exec.eq_def, execEpochSet, guardWrite_of_right hright, epochSet, hstate, if_true, finish_okRes]
  case epochReadOnly =>
    intro q v s hright hstate
    simp only [exec.eq_def, execEpochSet, guardWrite_of_right hright, epochSet, hstate, if_false, finish_refuse]
  case tod =>
    intro q v s hright
    simp only [exec.eq_def, execPpsTodSeconds, guardWrite_of_right hright, ppsTodSeconds, finish_okRes]

end Sys2Proof.Machine
end

section
/-! PROOFS. Digital inputs and their wire break, on universal channels and fast inputs (R62, R79 to R83, R89, R213, R235). -/

namespace Sys2Proof.Machine

/-! ### The comparator -/

theorem modU_at_ne (s : State) {u v : Fin 16} (g : UChan → UChan) (hv : v ≠ u) : (s.modU u g).u[v] = s.u[v] := by
  have hne : u.val ≠ v.val := fun h => hv (Fin.ext h.symm)
  simp [State.modU, Vector.getElem_set_ne _ _ hne]

/-- A digital input that is live is in an input mode. -/
theorem uMode_of_diLive {s : State} {u : Fin 16} (h : diLive s u = true) : uMode s u ≠ 3 := by
  intro hmode
  simp [diLive, hmode, isDi] at h

/-- A stamp is no part of the debounced state. -/
theorem stampU_state (d : Debounce) (level : Bool) (mono : BitVec 96) (t : CellTime) :
    (stampU d level mono t).2.state = d.state := by
  simp only [stampU]
  repeat' split
  all_goals rfl

section
variable {s : State} {u : Fin 16} {level : Bool} {t : CellTime}

theorem comparatorU_since (s : State) (u : Fin 16) (level : Bool) (t : CellTime) :
    (s.comparatorU u level t).u[u].db.since = (stampU s.u[u].db level (bankMono s (bankOfU u) t) t).1 := by
  rw [State.comparatorU, modU_at]

/-- A transition is stamped, and restarts the debounce count of its own channel alone (R80). -/
theorem comparatorU_stamped (s : State) (u : Fin 16) (level : Bool) (t : CellTime) :
    (s.comparatorU u level t).u[u].db.level = level ∧
      (s.comparatorU u level t).u[u].db.since = (stampU s.u[u].db level (bankMono s (bankOfU u) t) t).1 ∧
      (s.comparatorU u level t).u[u].db.state = s.u[u].db.state ∧
      ∀ v : Fin 16, v ≠ u → (s.comparatorU u level t).u[v] = s.u[v] := by
  refine ⟨?_, comparatorU_since s u level t, ?_, fun v hv => modU_at_ne s _ hv⟩
  · rw [State.comparatorU, modU_at]
  · rw [State.comparatorU, modU_at]
    exact stampU_state ..

end

/-! ### A debounce that expires -/

section
variable {s : State} {u : Fin 16}

theorem debounceU_of_not_held (h : (bankNow (s.banks[bankOfU u]) - s.u[u].db.since).toNat <
    nsUnits (s.b (bankOfU u) 2 0x06 u 0x0D * 1000)) : debounceU s u = s := by
  simp only [debounceU, Nat.not_le.mpr h, decide_false, Bool.and_false, Bool.false_eq_true, if_false]

variable (hlive : diLive s u = true)
  (hheld : nsUnits (s.b (bankOfU u) 2 0x06 u 0x0D * 1000) ≤ (bankNow (s.banks[bankOfU u]) - s.u[u].db.since).toNat)
include hlive hheld

theorem debounceU_of_first (hfresh : s.u[u].db.fresh = true) :
    debounceU s u =
      (s.modU u (fun k => { k with db := { k.db with fresh := false, state := k.db.level } })).uLive u 0 s.u[u].db.level := by
  simp only [debounceU, hlive, hheld, hfresh, decide_true, Bool.and_self, if_true]

theorem debounceU_of_edge (hfresh : s.u[u].db.fresh = false) (hedge : s.u[u].db.level ≠ s.u[u].db.state) :
    debounceU s u = s.acceptU u s.u[u].db.level s.u[u].db.since := by
  simp only [debounceU, hlive, hheld, hfresh, hedge, decide_true, Bool.and_self, if_true, Bool.false_eq_true, if_false]

end

/-- Without a new level an expiry accepts nothing. -/
theorem debounceU_of_same {s : State} {u : Fin 16} (hfresh : s.u[u].db.fresh = false)
    (hsame : s.u[u].db.level = s.u[u].db.state) : debounceU s u = s := by
  simp only [debounceU, hfresh, hsame, Bool.false_eq_true, if_false, if_true]
  split <;> rfl

/-! ### A wire-break window -/

section
variable {s : State} {u : Fin 16} {cur : Int} (hlive : diLive s u = true)
include hlive

/-- Where WB_ENABLE is 0 or OPEN says it already, a window stores the current alone. -/
theorem wireBreakU_of_quiet {below : Bool} (h : s.b (bankOfU u) 1 0x06 u 0x0E = 0 ∨ below = uBit s u 1) :
    wireBreakU s u below cur = s.modU u (fun k => { k with diCurrent := cur }) := by
  rcases h with hoff | hsame
  · simp only [wireBreakU, hlive, hoff, if_true]
  · simp only [wireBreakU, hlive, hsame, Bool.and_not_self, Bool.not_and_self, if_true, Bool.false_eq_true, if_false, ite_self]

variable (henable : s.b (bankOfU u) 1 0x06 u 0x0E ≠ 0)
include henable

theorem wireBreakU_of_clean (hopen : uBit s u 1 = true) :
    wireBreakU s u false cur =
      ((s.modU u (fun k => { k with diCurrent := cur })).uFlag u 1 false).bankEnd (bankOfU u) (ident .ucf 1) 2 u := by
  simp only [wireBreakU, hlive, henable, hopen, Bool.false_and, Bool.not_false, Bool.and_self, if_true, Bool.false_eq_true,
    if_false]

variable (hclosed : uBit s u 1 = false)
include hclosed

/-- A broken window sets OPEN and raises UCF-01; a debounced state of 1 then falls (R82, R83). -/
theorem wireBreakU_of_broken :
    wireBreakU s u true cur =
      (if s.u[u].db.fresh = false ∧ s.u[u].db.state = true then
        if s.u[u].db.level = true then
          (((((s.modU u (fun k => { k with diCurrent := cur })).uFlag u 1 true).bankRaise (bankOfU u) (ident .ucf 1) 2
            u).acceptU u false (ctGrid (bankNow (s.banks[bankOfU u])))).modU u (fun k => { k with
              db := { k.db with since := ctGrid (bankNow (s.banks[bankOfU u])) } }))
        else
          ((((s.modU u (fun k => { k with diCurrent := cur })).uFlag u 1 true).bankRaise (bankOfU u) (ident .ucf 1) 2
            u).acceptU u false s.u[u].db.since)
      else
        ((s.modU u (fun k => { k with diCurrent := cur })).uFlag u 1 true).bankRaise (bankOfU u) (ident .ucf 1) 2 u) := by
  simp only [wireBreakU, hlive, henable, hclosed, Bool.not_false, Bool.and_self, if_true, if_false]

end

section
variable {s : State} {f : Fin 8} (harrived : (s.banks[bankOfF f]).arrived = true) (hwatch : s.b (bankOfF f) 1 0x0C f 0x1C = 1)
include harrived hwatch

theorem wireBreakF_of_clean (hopen : fBit s f 1 = true) :
    wireBreakF s f false = (s.fFlag f 1 false).bankEnd (bankOfF f) (ident .fti 1) 5 f := by
  simp only [wireBreakF, harrived, hwatch, hopen, beq_self_eq_true, Bool.false_and, Bool.not_false, Bool.and_self, if_true,
    Bool.false_eq_true, if_false]

variable (hclosed : fBit s f 1 = false)
include hclosed

theorem wireBreakF_of_broken_low (hlow : s.f[f].db.state = false) :
    wireBreakF s f true = ((s.fFlag f 1 true).bankRaise (bankOfF f) (ident .fti 1) 5 f).stopF f := by
  simp only [wireBreakF, harrived, hwatch, hclosed, hlow, beq_self_eq_true, Bool.not_false, Bool.and_self, if_true,
    Bool.false_eq_true, if_false]

theorem wireBreakF_of_broken_high (hhigh : s.f[f].db.state = true) {t : CellTime}
    (ht : t = bif s.f[f].db.level then ctGrid (bankNow (s.banks[bankOfF f])) else s.f[f].db.since) :
    wireBreakF s f true =
      (((((((s.fFlag f 1 true).bankRaise (bankOfF f) (ident .fti 1) 5 f).stopF f).fFlag f 0 false).modF f (fun x => { x with
        db := { x.db with state := false, since := bif s.f[f].db.level then t else x.db.since } })).syncAB (pairFirst f)
          t).triggerRecord f true t) := by
  subst ht
  simp only [wireBreakF, harrived, hwatch, hclosed, hhigh, beq_self_eq_true, Bool.not_false, Bool.and_self, if_true, cond_eq_ite]

end

theorem wireBreakF_of_quiet {s : State} {f : Fin 8} {below : Bool}
    (h : s.b (bankOfF f) 1 0x0C f 0x1C ≠ 1 ∨ below = fBit s f 1) : wireBreakF s f below = s := by
  rcases h with hoff | hsame
  · simp only [wireBreakF, beq_eq_false_iff_ne.mpr hoff, Bool.and_false, Bool.false_eq_true, if_false]
  · simp only [wireBreakF, hsame, Bool.and_not_self, Bool.not_and_self, Bool.false_eq_true, if_false, ite_self]

/-- Settles O31: the comparator, the debounce and the wire-break window by the state of the input; that the record is stamped
at the window's end with the debounce begun again, that the STATE of an output follows its comparator, and that a transition
within 40 ns keeps the stamp, are the model's choices (log 23). -/
theorem digitalInputsAreDebouncedAndWatched : Obligations.DigitalInputsAreDebouncedAndWatched := by
  refine ⟨?sameLevel, ?output, ?debounced, ?bypassed, ?edge, ?first, ?notHeld, ?fastEdge, ?fastQuiet, ?quiet, ?clean, ?broken,
    ?brokenLow, ?brokenHigh, ?fastClean, ?fastBroken, ?fastBrokenHigh, ?fastNothing⟩
  case sameLevel =>
    intro u level t s hsame
    simp only [exec.eq_def, execDiComparatorTransition, hsame, if_true]
  case output =>
    intro u level t s hnew hmode harrived
    simp only [exec.eq_def, execDiComparatorTransition, hnew, hmode, harrived, and_self, if_true, if_false]
  case debounced =>
    intro u level t s hnew hlive hdebounce
    refine ⟨s.comparatorU u level t, ?_, comparatorU_stamped s u level t⟩
    simp only [exec.eq_def, execDiComparatorTransition, hnew, uMode_of_diLive hlive, hdebounce, false_and, and_false, if_false]
  case bypassed =>
    intro u level t s hnew hlive hdebounce hstate hfresh
    simp only [exec.eq_def, execDiComparatorTransition, hnew, uMode_of_diLive hlive, hlive, hdebounce, hstate, hfresh, ne_eq,
      not_false_eq_true, false_and, and_self, if_true, if_false, comparatorU_since]
  case edge =>
    intro u s hlive hheld hfresh hedge
    simp only [exec.eq_def, execDebounceExpiry, debounceU_of_edge hlive hheld hfresh hedge]
  case first =>
    intro u s hlive hheld hfresh
    simp only [exec.eq_def, execDebounceExpiry, debounceU_of_first hlive hheld hfresh]
  case notHeld =>
    rintro u s (hearly | ⟨hfresh, hsame⟩)
    · simp only [exec.eq_def, execDebounceExpiry, debounceU_of_not_held hearly]
    · simp only [exec.eq_def, execDebounceExpiry, debounceU_of_same hfresh hsame]
  case fastEdge =>
    intro f s harrived hheld hedge
    simp only [exec.eq_def, execDebounceExpiry, debounceF, harrived, hheld, bne_iff_ne.mpr hedge, decide_true, Bool.and_self, if_true]
  case fastQuiet =>
    rintro f s (hearly | hsame)
    · simp only [exec.eq_def, execDebounceExpiry, debounceF, Nat.not_le.mpr hearly, decide_false, Bool.and_false, Bool.false_and,
        Bool.false_eq_true, if_false]
    · simp only [exec.eq_def, execDebounceExpiry, debounceF, hsame, bne_self_eq_false, Bool.and_false, Bool.false_eq_true, if_false]
  case quiet =>
    intro u below cur s hlive h
    simp only [exec.eq_def, execWireBreakWindowExpiry, wireBreakU_of_quiet hlive h]
  case clean =>
    intro u cur s hlive henable hopen
    simp only [exec.eq_def, execWireBreakWindowExpiry, wireBreakU_of_clean hlive henable hopen]
  case broken =>
    intro u cur s hlive henable hclosed hlow
    have hkeep : ¬(s.u[u].db.fresh = false ∧ s.u[u].db.state = true) := by
      rintro ⟨hfresh, hhigh⟩
      rcases hlow with h | h
      · rw [hfresh] at h; cases h
      · rw [hhigh] at h; cases h
    simp only [exec.eq_def, execWireBreakWindowExpiry, wireBreakU_of_broken hlive henable hclosed, if_neg hkeep]
  case brokenLow =>
    intro u cur s hlive henable hclosed hfresh hhigh hlevel
    simp only [exec.eq_def, execWireBreakWindowExpiry, wireBreakU_of_broken hlive henable hclosed, hfresh, hhigh, hlevel, and_self,
      if_true, Bool.false_eq_true, if_false]
  case brokenHigh =>
    intro u cur s hlive henable hclosed hfresh hhigh hlevel
    simp only [exec.eq_def, execWireBreakWindowExpiry, wireBreakU_of_broken hlive henable hclosed, hfresh, hhigh, hlevel, and_self,
      if_true]
  case fastClean =>
    intro f cur s harrived hwatch hopen
    simp only [exec.eq_def, execWireBreakWindowExpiry, wireBreakF_of_clean harrived hwatch hopen]
  case fastBroken =>
    intro f cur s harrived hwatch hclosed hlow
    simp only [exec.eq_def, execWireBreakWindowExpiry, wireBreakF_of_broken_low harrived hwatch hclosed hlow]
  case fastBrokenHigh =>
    intro f cur t s harrived hwatch hclosed hhigh ht
    simp only [exec.eq_def, execWireBreakWindowExpiry, wireBreakF_of_broken_high harrived hwatch hclosed hhigh ht]
  case fastNothing =>
    intro f below cur s h
    simp only [exec.eq_def, execWireBreakWindowExpiry, wireBreakF_of_quiet h]

end Sys2Proof.Machine
end

section
/-! PROOFS. The protection of analogue inputs and digital outputs (R84 to R91, R100 to R102, R143, R624). -/

namespace Sys2Proof.Machine

/-- A change of a channel is known by what it makes of the channel as it is. -/
theorem modU_congr {s : State} {u : Fin 16} {g g' : UChan → UChan} (h : g s.u[u] = g' s.u[u]) : s.modU u g = s.modU u g' := by
  simp only [State.modU, h]

/-! ### Analogue inputs -/

section
variable {s : State} {u : Fin 16}

/-- No test slot has begun within the last 960 taps, so the next tap may begin one. -/
theorem testTap_any_of_all {o : Option Nat} {tap : Nat} (h : o.all (fun t => decide (t + 960 ≤ tap)) = true) :
    o.any (fun t => decide (tap < t + 960)) = false := by
  cases o with
  | none => rfl
  | some t =>
    have hle : t + 960 ≤ tap := by simpa using h
    simpa using hle

/-- An analogue voltage input with wire-break testing is ready for its test. -/
theorem openTerminalTest_ready (harrived : (s.banks[bankOfU u]).arrived = true) (hmode : isAiv (uMode s u) = true)
    (hsettled : s.u[u].settled = true) (henable : s.b (bankOfU u) 1 0x06 u 0x0E = 1) :
    ((s.banks[bankOfU u]).arrived && isAiv (uMode s u) && s.u[u].settled && s.b (bankOfU u) 1 0x06 u 0x0E == 1) = true := by
  rw [harrived, hmode, hsettled, henable]
  rfl

/-- A current input of a bank that has arrived, its switch closed, is under its limiter's watch (R87). -/
theorem protectOff_ready (harrived : (s.banks[bankOfU u]).arrived = true) (hmode : uMode s u = 7 ∨ uMode s u = 8)
    (hclosed : s.u[u].inputOpen = false) :
    ((s.banks[bankOfU u]).arrived && (uMode s u == 7 || uMode s u == 8) && !s.u[u].inputOpen) = true := by
  rcases hmode with h | h <;> rw [harrived, hclosed, h] <;> rfl

end

/-- Settles O32: each command acts where its channel is in the mode, the bank has arrived and the time has come. -/
theorem analogueInputsAreProtected : Obligations.AnalogueInputsAreProtected := by
  refine ⟨?testBegins, ?testDeferred, ?testOpens, ?testCloses, ?limitEnter, ?limitLeave, ?limitExpire, ?reclose, ?recloseEnd,
    ?overRange, ?settledDebounced, ?settledBypassed, ?settledAnalogue⟩
  case testBegins =>
    intro u s harrived hmode hsettled henable hclear hspaced
    simp only [exec.eq_def, execOpenTerminalTest, openTerminalTest_ready harrived hmode hsettled henable, hclear,
      testTap_any_of_all hspaced, if_true, Bool.or_self, Bool.false_eq_true, if_false]
  case testDeferred =>
    intro u s harrived hmode hsettled henable hnear
    simp only [exec.eq_def, execOpenTerminalTest, openTerminalTest_ready harrived hmode hsettled henable, hnear, if_true, Bool.true_or]
  case testOpens =>
    intro u r s harrived hmode hsettled henable htesting hended habove hclosed
    simp only [exec.eq_def, execOpenTerminalTest, openTerminalTest_ready harrived hmode hsettled henable, htesting, hended, habove,
      hclosed, if_true, Bool.and_self, Bool.false_eq_true, if_false]
  case testCloses =>
    intro u r s harrived hmode hsettled henable htesting hended hbelow hopen
    simp only [exec.eq_def, execOpenTerminalTest, openTerminalTest_ready harrived hmode hsettled henable, htesting, hended,
      Int.not_lt.mpr hbelow, hopen, if_true, Bool.and_self, if_false]
  case limitEnter =>
    intro u s harrived hmode hclosed
    simp only [exec.eq_def, execProtectOff, protectOff_ready harrived hmode hclosed, if_true]
  case limitLeave =>
    intro u s harrived hmode hclosed
    simp only [exec.eq_def, execProtectOff, protectOff_ready harrived hmode hclosed, if_true]
  case limitExpire =>
    intro u s harrived hmode hclosed hexpired
    simp only [exec.eq_def, execProtectOff, protectOff_ready harrived hmode hclosed, limitFor, hexpired, if_true]
  case reclose =>
    intro u s hopen hsecond
    simp only [exec.eq_def, execProtectOffReclose, hopen, hsecond, and_self, if_true, Bool.false_eq_true, if_false]
  case recloseEnd =>
    intro u s hclosed hlimit hoff helapsed
    simp only [exec.eq_def, execProtectOffReclose, hclosed, hlimit, hoff, helapsed, ne_eq, not_false_eq_true, and_self, if_true]
  case overRange =>
    intro u s hmode hsat hrun hraised
    simp only [exec.eq_def, execOverRangePersist, hmode, hsat, hrun, hraised, and_self, if_true]
  case settledDebounced =>
    intro u s harrived hsettled hreached hmode hdebounce
    simp only [exec.eq_def, execFrontEndSettled, harrived, hsettled, hreached, hmode, hdebounce, and_self, if_true, if_false]
  case settledBypassed =>
    intro u s harrived hsettled hreached hmode hdebounce
    simp only [exec.eq_def, execFrontEndSettled, harrived, hsettled, hreached, hmode, hdebounce, and_self, if_true]
  case settledAnalogue =>
    intro u s harrived hsettled hreached hmode hanalogue
    simp only [exec.eq_def, execFrontEndSettled, harrived, hsettled, hreached, hmode, hanalogue, and_self, if_true,
      Bool.false_eq_true, if_false]
    refine congrArg Host.Outcome.next (modU_congr ?_)
    simp only [modU_at]

/-! ### Digital outputs -/

section
variable {s : State} {u : Fin 16}

/-- The first turn-off of an output that does not restart latches it, with UCF-02 (R89, R90). -/
theorem scOffU_of_first_latched (hshort : s.u[u].scShort = false) (hrestart : s.b (bankOfU u) 1 0x06 u 0x15 = 0) :
    s.scOffU u = (((((s.uFlag u 2 true).modU u (fun k => { k with
      scShort := true, scOff := true, retries := s.u[u].retries, offAt := bankNow (s.banks[bankOfU u]) })).bankRaise
        (bankOfU u) (ident .ucf 2) 2 u).uFlag u 6 true).driveDo u) := by
  simp only [State.scOffU, hshort, hrestart, decide_true, Bool.true_or, if_true, Bool.false_eq_true, if_false]

/-- A failed restart before the eighth counts, and leaves the output to restart again (R90). -/
theorem scOffU_of_retry (hshort : s.u[u].scShort = true) (hrestart : s.b (bankOfU u) 1 0x06 u 0x15 ≠ 0)
    (hleft : s.u[u].retries + 1 < 8) :
    s.scOffU u = (((s.uFlag u 2 true).modU u (fun k => { k with
      scShort := true, scOff := true, retries := s.u[u].retries + 1, offAt := bankNow (s.banks[bankOfU u]) })).driveDo u) := by
  have hnotLast : ¬s.u[u].retries + 1 ≥ 8 := by omega
  simp only [State.scOffU, hshort, hrestart, hnotLast, decide_false, Bool.or_self, if_true, Bool.false_eq_true, if_false]

/-- The eighth failed restart in a row latches the output (R90). -/
theorem scOffU_of_last (hshort : s.u[u].scShort = true) (hlast : 8 ≤ s.u[u].retries + 1) :
    s.scOffU u = ((((s.uFlag u 2 true).modU u (fun k => { k with
      scShort := true, scOff := true, retries := s.u[u].retries + 1, offAt := bankNow (s.banks[bankOfU u]) })).uFlag u 6
        true).driveDo u) := by
  have hge : s.u[u].retries + 1 ≥ 8 := hlast
  simp only [State.scOffU, hshort, hge, decide_true, Bool.or_true, if_true]

end

/-- Settles O33: each command acts on a live output whose driver, flags and times are as its rule asks. -/
theorem digitalOutputsProtectThemselves : Obligations.DigitalOutputsProtectThemselves := by
  refine ⟨?limitEnter, ?limitLeave, ?firstLatch, ?retry, ?lastLatch, ?restart, ?restartEnd, ?openLoad, ?openLoadEnd,
    ?short, ?shortEnd⟩
  case limitEnter =>
    intro u s hlive hon
    simp only [exec.eq_def, execDoScTimeExpiry, hlive, hon, Bool.and_self, if_true]
  case limitLeave =>
    intro u s hlive hon
    simp only [exec.eq_def, execDoScTimeExpiry, hlive, hon, Bool.and_self, if_true]
  case firstLatch =>
    intro u s hlive hon hexpired hshort hrestart
    simp only [exec.eq_def, execDoScTimeExpiry, hlive, hon, limitFor, hexpired, Bool.and_self, if_true,
      scOffU_of_first_latched hshort hrestart]
  case retry =>
    intro u s hlive hon hexpired hshort hrestart hleft
    simp only [exec.eq_def, execDoScTimeExpiry, hlive, hon, limitFor, hexpired, Bool.and_self, if_true,
      scOffU_of_retry hshort hrestart hleft]
  case lastLatch =>
    intro u s hlive hon hexpired hshort hlast
    simp only [exec.eq_def, execDoScTimeExpiry, hlive, hon, limitFor, hexpired, Bool.and_self, if_true, scOffU_of_last hshort hlast]
  case restart =>
    intro u s hlive hshort hlatch hoff helapsed
    simp only [exec.eq_def, execDoRestart, hlive, hshort, hlatch, hoff, helapsed, Bool.not_false, Bool.and_self, and_self, if_true,
      Bool.false_eq_true, if_false]
  case restartEnd =>
    intro u s hlive hon hshort hlatch hoff hlimit helapsed
    simp only [exec.eq_def, execDoRestart, hlive, hon, hshort, hlatch, hoff, hlimit, helapsed, Bool.not_false, Bool.and_self,
      and_self, if_true]
  case openLoad =>
    intro u s hlive hon henable hclosed
    simp only [exec.eq_def, execDoOpenLoad, hlive, hon, henable, hclosed, beq_self_eq_true, Bool.not_false, Bool.and_self, if_true]
  case openLoadEnd =>
    intro u s hlive hopen
    simp only [exec.eq_def, execDoOpenLoad, hlive, hopen, if_true, Bool.false_eq_true, if_false]
  case short =>
    intro u s hlive hoff htest
    simp only [exec.eq_def, execDoShortToSupply, hlive, hoff, htest, Bool.not_false, Bool.and_self, if_true]
  case shortEnd =>
    intro u s hlive htest
    simp only [exec.eq_def, execDoShortToSupply, hlive, htest, if_true, Bool.false_eq_true, if_false]

end Sys2Proof.Machine
end

section
/-! PROOFS. How channels decimate, deliver and synchronise (O34). -/

namespace Sys2Proof.Machine

/-- Settles O34: a word goes to the chain of its converter, a due instant to the grid it belongs to, and a synchronisation
to the channels it names. -/
theorem channelsDecimateAndMeasure : Obligations.ChannelsDecimateAndMeasure := by
  refine ⟨?channelWord, ?reliefWord, ?oldGood, ?oldBad, ?present, ?settled, ?settling, ?noneDue, ?someDue, ?parity,
    ?parityNoGrid, ?edge, ?blindEdge, ?syncAt, ?syncAtNoRight⟩
  case channelWord =>
    intro b i m s harrived hheld
    simp only [exec.eq_def, execWideTapWord, harrived, hheld, and_self, if_true, i.isLt, dif_pos]
  case reliefWord =>
    intro b m s harrived hheld
    simp only [exec.eq_def, execWideTapWord, harrived, hheld, and_self, if_true]
    exact dif_neg (by decide)
  case oldGood =>
    intro u m o s harrived hold hgood
    simp only [exec.eq_def, execMainSampleDue, harrived, hold, hgood, if_true, Bool.true_eq_false, if_false]
  case oldBad =>
    intro u m o s harrived hold hbad
    simp only [exec.eq_def, execMainSampleDue, harrived, hold, hbad, Bool.true_eq_false, Bool.false_eq_true, if_false]
  case present =>
    intro u m g t s harrived hold hgrid hdue hlast hchange hsettling
    simp only [exec.eq_def, execMainSampleDue, harrived, hold, hgrid, hdue, hlast, hsettling, Nat.not_lt.mpr hchange, or_self,
      if_true, Bool.true_eq_false, Bool.false_eq_true, if_false]
  case settled =>
    intro u m g t s harrived hold hgrid hdue hlast hchange hsettling hhalf
    simp only [exec.eq_def, execMainSampleDue, harrived, hold, hgrid, hdue, hlast, hsettling, Nat.not_lt.mpr hchange, hhalf,
      or_self, if_true, Bool.true_eq_false, Bool.false_eq_true, if_false]
  case settling =>
    intro u m g t s harrived hold hgrid hdue hlast hchange hsettling hhalf
    simp only [exec.eq_def, execMainSampleDue, harrived, hold, hgrid, hdue, hlast, hsettling, Nat.not_lt.mpr hchange,
      Nat.not_le.mpr hhalf, or_self, Bool.true_eq_false, Bool.false_eq_true, if_false]
  case noneDue =>
    intro b s harrived hdue
    simp only [exec.eq_def, execDecimatorSyncInstant, harrived, hdue, if_true]
  case someDue =>
    intro b d ds s harrived hdue
    simp only [exec.eq_def, execDecimatorSyncInstant, harrived, hdue, if_true]
  case parity =>
    intro u s harrived hgrid hheld
    simp only [exec.eq_def, execFilterParityError, harrived, hgrid, hheld, and_self, if_true]
  case parityNoGrid =>
    intro u s harrived hno
    have hnot : ¬(s.u[u].chain.grid.isSome = true ∧ s.u[u].chain.holdAt.isNone = true) := by
      rintro ⟨hgrid, hheld⟩
      rcases hno with hnone | hsome
      · rw [hnone] at hgrid
        cases hgrid
      · exact hsome (Option.isNone_iff_eq_none.mp hheld)
    simp only [exec.eq_def, execFilterParityError, harrived, hnot, if_true, if_false]
  case edge =>
    rintro t on s hblind rfl
    simp only [exec.eq_def, execSyncInEdge, hblind, Bool.false_eq_true, if_false]
  case blindEdge =>
    intro t s hblind
    simp only [exec.eq_def, execSyncInEdge, hblind, if_true]
  case syncAt =>
    intro q u t s hright
    simp only [exec.eq_def, execSyncAt, guardWrite_of_right hright]
  case syncAtNoRight =>
    intro q u t s hright
    simp only [exec.eq_def, execSyncAt, guardWrite_of_no_right hright, finish_refuse]

end Sys2Proof.Machine
end

section
/-! PROOFS. How calibration rotates (R108 to R135; O35). -/

namespace Sys2Proof.Machine

/-! ### What a rotation leaves as it was -/

theorem sendUp_queued (s : State) (b : Fin 4) (c : UpCell) :
    ((s.sendUp b c).up[b]).queued = (s.up[b]).queued ++ [c] := by
  simp [State.sendUp, linkPut]

theorem modRot_at (s : State) (u : Fin 16) (g : Rotation → Rotation) : (s.modRot u g).u[u].rot = g s.u[u].rot := by
  simp only [State.modRot, modU_at]

/-- Rotation states are no part of the banks. -/
theorem modRot_banks (s : State) (u : Fin 16) (g : Rotation → Rotation) : (s.modRot u g).banks = s.banks := rfl

theorem refreshRot_banks (s : State) (b : Fin 4) : (s.refreshRot b).banks = s.banks := by
  unfold State.refreshRot
  refine List.foldlRecOn (motive := fun x : State => x.banks = s.banks) _ _ rfl ?_
  intro x hx u _
  dsimp only
  split
  · exact hx
  · split <;> exact hx

/-- Marking the blocked channels of a bank changes no bank. -/
theorem requestBlocked_banks (s : State) (l : List (Fin 16)) :
    (l.foldl (fun x u =>
      if rotEligible x u ∧ slotBlocked x u then x.modRot u (fun r => { r with priority := true }) else x) s).banks =
      s.banks := by
  refine List.foldlRecOn (motive := fun x : State => x.banks = s.banks) _ _ rfl ?_
  intro x hx u _
  split <;> exact hx

/-! ### The cases of a cut rotation -/

section
variable {s : State} {b i : Fin 4}

/-- Before its overlap the rotation is given up and the relief released (R121). -/
theorem cutShort_of_early (hchosen : (s.banks[b]).chosen = some i) (hphase : (s.banks[b]).phase ≤ 1) :
    s.cutShort b = (s.modRot (uOf b i) (fun r => { r with
      state := if rotEligible s (uOf b i) then 1 else 0, priority := rotEligible s (uOf b i),
      diag := setBit8 r.diag 3 true, words := 0 })).modBank b (fun k => { k with
        chosen := none, lastChosen := i, phase := 8, reliefWords := 0, reliefX := none }) := by
  simp only [State.cutShort, hchosen, hphase, if_true]

/-- From the overlap on the channel reconnects (R121). -/
theorem cutShort_of_middle (hchosen : (s.banks[b]).chosen = some i) (hlow : 2 ≤ (s.banks[b]).phase)
    (hhigh : (s.banks[b]).phase ≤ 5) :
    s.cutShort b = (s.modRot (uOf b i) (fun r => { r with
      state := 7, priority := rotEligible s (uOf b i), cut := true, diag := setBit8 r.diag 3 true, words := 0 })).modBank b
        (fun k => { k with phase := 6 }) := by
  have hnotEarly : ¬(s.banks[b]).phase ≤ 1 := by omega
  simp only [State.cutShort, hchosen, hnotEarly, hhigh, if_true, if_false]

/-- A rotation that already reconnects goes on (R121). -/
theorem cutShort_of_late (hchosen : (s.banks[b]).chosen = some i) (hphase : 6 ≤ (s.banks[b]).phase) : s.cutShort b = s := by
  have hnotEarly : ¬(s.banks[b]).phase ≤ 1 := by omega
  have hnotMiddle : ¬(s.banks[b]).phase ≤ 5 := by omega
  simp only [State.cutShort, hchosen, hnotEarly, hnotMiddle, if_false]

end

/-- Settles O35: each command is one case of its phase of the slot. That the chosen channel of a failed relief calibration
waits with its request, and that the estimate of a rejected check counts, is the model's choice (log 25). -/
theorem calibrationRotates : Obligations.CalibrationRotates := by
  refine ⟨?slotStart, ?reliefGood, ?reliefBad, ?settle, ?zero, ?ref, ?reconnect, ?overlap, ?lastOverlap, ?cutNone, ?cutLate,
    ?cutEarly, ?cutMiddle, ?emptySlot, ?slotEnd, ?checkGood, ?checkBad, ?temperature, ?firstClamp, ?otherClamp, ?clampEnd,
    ?rotateNow, ?rotateNowNoRight, ?trimPoint, ?trimPointNoRight, ?trimApply, ?trimApplyNoRight, ?recordWritten⟩
  case slotStart =>
    rintro b start s harrived hheld hclosed rfl hnew
    simp only [exec.eq_def, execRotationSlotStart, harrived, hheld, hclosed, hnew, and_self, if_true]
    split
    · refine ⟨_, rfl, ?_⟩
      simp only [modBank_at, requestBlocked_banks, refreshRot_banks, and_self]
    · refine ⟨_, rfl, ?_⟩
      simp only [modBank_at, modRot_banks, requestBlocked_banks, refreshRot_banks, and_self]
  case reliefGood =>
    intro b s harrived hopen hphase hwords hspan hin
    simp only [exec.eq_def, execReliefCalEnd, harrived, hopen, hphase, hwords, hspan, hin, and_self, if_true,
      Bool.false_eq_true, if_false]
  case reliefBad =>
    intro b i s harrived hopen hphase hwords hchosen hspan
    simp only [exec.eq_def, execReliefCalEnd, harrived, hopen, hphase, hwords, hspan, hchosen, and_self, if_true,
      Bool.false_eq_true, if_false]
  case settle =>
    intro b i s hchosen hphase hwords
    simp only [exec.eq_def, execRotationPhaseEnd, hchosen, hphase, hwords, ge_iff_le, and_self, if_true]
  case zero =>
    intro b i s hchosen hphase hwords
    simp only [exec.eq_def, execRotationPhaseEnd, hchosen, hphase, hwords, ge_iff_le, and_self, if_true, Nat.reduceEqDiff,
      false_and, if_false]
  case ref =>
    intro b i s hchosen hphase hwords
    simp only [exec.eq_def, execRotationPhaseEnd, hchosen, hphase, hwords, ge_iff_le, and_self, if_true, Nat.reduceEqDiff,
      false_and, if_false]
  case reconnect =>
    intro b i s hchosen hphase hwords
    simp only [exec.eq_def, execRotationPhaseEnd, hchosen, hphase, hwords, ge_iff_le, and_self, if_true, Nat.reduceEqDiff,
      false_and, if_false]
  case overlap =>
    intro b i s hchosen hphase hwords hbound
    simp only [exec.eq_def, execOverlapEnd, hchosen, hphase, hwords, Nat.not_lt.mpr hbound, true_or, and_self, if_true,
      decide_false, Bool.false_eq_true, if_false]
  case lastOverlap =>
    intro b i s hchosen hphase hwords hbound hcut
    simp only [exec.eq_def, execOverlapEnd, hchosen, hphase, hwords, Nat.not_lt.mpr hbound, or_true, and_self, if_true,
      decide_false, Bool.false_eq_true, Nat.reduceEqDiff, if_false]
    refine ⟨_, rfl, ?_⟩
    simp only [State.sendUp_banks, State.sendUp_u, modRot_banks, modBank_at, modRot_at, State.modBank_u, hcut,
      Bool.false_eq_true, if_false, and_self]
  case cutNone =>
    intro b s hchosen
    simp only [exec.eq_def, execRotationCutShort, State.cutShort, hchosen]
  case cutLate =>
    intro b i s hchosen hphase
    simp only [exec.eq_def, execRotationCutShort, cutShort_of_late hchosen hphase]
  case cutEarly =>
    intro b i s hchosen hphase
    simp only [exec.eq_def, execRotationCutShort, cutShort_of_early hchosen hphase]
  case cutMiddle =>
    intro b i s hchosen hlow hhigh
    simp only [exec.eq_def, execRotationCutShort, cutShort_of_middle hchosen hlow hhigh]
  case emptySlot =>
    intro b s harrived hopen hend hdeltas hrun
    have hnotYet : ¬(s.banks[b]).emptyRun + 1 ≥ 4 := by omega
    simp only [exec.eq_def, execSlotEndCrossCheck, harrived, hopen, hend, hdeltas, hnotYet, false_and, and_self, if_true, if_false]
    refine ⟨_, rfl, ?_⟩
    simp only [State.sendUp_banks, modBank_at, sendUp_queued, true_and]
    rfl
  case slotEnd =>
    intro b d ds avg s1 s2 s harrived hopen hend hdeltas havg hs1 hs2
    simp only [exec.eq_def, execSlotEndCrossCheck, harrived, hopen, hend, hdeltas, and_self, if_true, ← havg, ← hs1, ← hs2]
  case checkGood =>
    rintro b i r new s hchosen hphase rfl hwords rfl hspan hsource
    simp only [exec.eq_def, execChCheckEnd, hchosen, hphase, hwords, hspan, hsource, and_self, if_true, beq_self_eq_true,
      Bool.true_or, Bool.and_self, Bool.not_true, Bool.or_false]
  case checkBad =>
    rintro b i r s hchosen hphase rfl hwords hspan hrejects
    simp only [exec.eq_def, execChCheckEnd, hchosen, hphase, hwords, hspan, hrejects, and_self, if_true, Bool.false_and,
      Bool.not_false, Bool.or_true, Bool.false_eq_true, if_false]
  case temperature =>
    intro b t s hpowered
    simp only [exec.eq_def, execDieTemperatureRead, hpowered, if_true]
  case firstClamp =>
    intro u s harrived hmode hfirst hfree
    simp only [exec.eq_def, execHeavyClampStart, harrived, hmode, hfirst, hfree, Option.isNone_none, Bool.and_self, if_true]
  case otherClamp =>
    intro u v t s harrived hmode hbank hclamped hfree
    have hnotFirst : (bankU (bankOfU u)).all (fun v => s.u[v].clampAt.isNone) = false := by
      refine List.all_eq_false.mpr ⟨v, List.contains_iff_mem.mp hbank, ?_⟩
      simp only [hclamped, Option.isNone_some, Bool.false_eq_true, not_false_eq_true]
    simp only [exec.eq_def, execHeavyClampStart, harrived, hmode, hnotFirst, hfree, Option.isNone_none, Bool.and_self, if_true,
      Bool.false_eq_true, if_false]
  case clampEnd =>
    intro u t s hclamped
    simp only [exec.eq_def, execHeavyClampEnd, hclamped, cond_eq_ite]
  case rotateNow =>
    intro q u s hright
    simp only [exec.eq_def, execRotateNow, guardWrite_of_right hright]
  case rotateNowNoRight =>
    intro q u s hright
    simp only [exec.eq_def, execRotateNow, guardWrite_of_no_right hright, finish_refuse]
  case trimPoint =>
    intro q u second measured s hright
    simp only [exec.eq_def, execTrimPoint, guardWrite_of_right hright]
  case trimPointNoRight =>
    intro q u second measured s hright
    simp only [exec.eq_def, execTrimPoint, guardWrite_of_no_right hright, finish_refuse]
  case trimApply =>
    intro q u s hright
    simp only [exec.eq_def, execTrimApply, guardWrite_of_right hright]
  case trimApplyNoRight =>
    intro q u s hright
    simp only [exec.eq_def, execTrimApply, guardWrite_of_no_right hright, finish_refuse]
  case recordWritten =>
    intro slot rec s hwrite hagain
    simp only [exec.eq_def, execCalRecordWriteDone, hwrite, hagain, if_true, Bool.false_eq_true, if_false]

end Sys2Proof.Machine
end

section
/-! PROOFS. How load switches protect themselves and what they report (R169 to R190, R202; O36, O37). -/

namespace Sys2Proof.Machine

/-- Settles O36: each command acts on a live switch whose flags, timers and temperatures are as its rule asks. -/
theorem loadSwitchesProtectThemselves : Obligations.LoadSwitchesProtectThemselves := by
  refine ⟨?evalInrush, ?evalNoInrush, ?limitLatch, ?limitRetry, ?retryOver, ?shutdown, ?shutdownLast, ?shutdownGroup,
    ?cooled, ?clampStart, ?clampEnd, ?unlock⟩
  case evalInrush =>
    intro l m lim pk pt rt onFor s hlive hprofile honFor hon hinrush
    simp only [exec.eq_def, execPowerStageEvaluation, hlive, hprofile, ← honFor, hon, hinrush, and_self, if_true]
  case evalNoInrush =>
    intro l m lim pk pt rt onFor s hlive hprofile honFor hno
    have hnot : ¬(s.l[l].on = true ∧ onFor / 256000 < pt + rt) := by
      rintro ⟨hon, hinrush⟩
      rcases hno with hoff | hover
      · exact absurd hon (Bool.eq_false_iff.mp hoff)
      · exact absurd hinrush (Nat.not_lt.mpr hover)
    simp only [exec.eq_def, execPowerStageEvaluation, hlive, hprofile, ← honFor, hnot, if_true, if_false]
  case limitLatch =>
    intro l s hlive hgroup hon htime haction hfirst
    simp only [exec.eq_def, execLimitTimeExpiry, hlive, hgroup, hon, htime, haction, hfirst, and_self, if_true, decide_true,
      Bool.true_or, Bool.false_eq_true, if_false]
  case limitRetry =>
    intro l s hlive hgroup hon htime haction hretried hleft
    have hnotLast : ¬s.l[l].retries + 1 ≥ 8 := by omega
    simp only [exec.eq_def, execLimitTimeExpiry, hlive, hgroup, hon, htime, haction, hretried, hnotLast, and_self, if_true,
      decide_false, Bool.and_false, Bool.or_self, Bool.false_eq_true, if_false]
  case retryOver =>
    intro l s hwaits hover
    simp only [exec.eq_def, execRetryPeriodExpiry, hwaits, hover, and_self, if_true]
  case shutdown =>
    intro l n s hlive hhot hgroup hoff hcount
    simp only [exec.eq_def, execThermalShutdown, hlive, hhot, hgroup, hoff, hcount, and_self, if_true, Bool.false_eq_true, if_false]
  case shutdownLast =>
    intro l n s hlive hhot hgroup hoff hcount
    simp only [exec.eq_def, execThermalShutdown, hlive, hhot, hgroup, hoff, hcount, and_self, if_true]
  case shutdownGroup =>
    intro l g s hlive hhot hgroup hoff
    simp only [exec.eq_def, execThermalShutdown, hlive, hhot, hgroup, hoff, and_self, if_true]
  case cooled =>
    intro l s hoff hlatch hmode hgroup hcool
    simp only [exec.eq_def, execThermalRestart, hoff, hlatch, hmode, hgroup, hcool, and_self, if_true]
  case clampStart =>
    intro l s hlive hoff hclamp
    simp only [exec.eq_def, execClampIntervalStart, hlive, hoff, hclamp, and_self, if_true]
  case clampEnd =>
    intro l s hlive
    simp only [exec.eq_def, execClampIntervalEnd, hlive, if_true]
  case unlock =>
    intro l s hlocked hmode hbudget
    simp only [exec.eq_def, execClampUnlock, hlocked, hmode, hbudget, and_self, if_true]

/-- Settles O37: each report has its test and its end, per switch, per group and per power die. -/
theorem loadTestsAndDieFaultsAreReported : Obligations.LoadTestsAndDieFaultsAreReported := by
  refine ⟨?openLoad, ?openLoadEnd, ?groupOpen, ?groupOpenEnd, ?short, ?shortEnd, ?reverse, ?reverseEnd, ?dieLost,
    ?dieBack⟩
  case openLoad =>
    intro l s hlive hclosed hon hgroup henable
    simp only [exec.eq_def, execLswOpenLoad, hlive, hclosed, hon, hgroup, henable, and_self, if_true]
  case openLoadEnd =>
    intro l s hlive hopen
    simp only [exec.eq_def, execLswOpenLoad, hlive, hopen, and_self, and_false, false_and, if_true, if_false, Bool.false_eq_true]
  case groupOpen =>
    intro g s hclosed hon hthreshold hmembers
    simp only [exec.eq_def, execLswOpenLoad, hclosed, hon, hthreshold, hmembers, ne_eq, not_false_eq_true, and_self, if_true]
  case groupOpenEnd =>
    intro g s hopen
    simp only [exec.eq_def, execLswOpenLoad, hopen, and_self, false_and, if_true, if_false, Bool.false_eq_true]
  case short =>
    intro l s hlive hoff hclamp hshort
    simp only [exec.eq_def, execLswShortToSupply, hlive, hoff, hclamp, hshort, and_self, if_true]
  case shortEnd =>
    intro l s hlive
    simp only [exec.eq_def, execLswShortToSupply, hlive, if_true, if_false, Bool.false_eq_true]
  case reverse =>
    intro l s hlive hon hshort
    simp only [exec.eq_def, execLswReverseCurrent, hlive, hon, hshort, if_true, if_false, Bool.false_eq_true]
  case reverseEnd =>
    intro l s hlive
    simp only [exec.eq_def, execLswReverseCurrent, hlive, if_true, if_false, Bool.false_eq_true]
  case dieLost =>
    intro b l0 ls s hpowered htodo
    simp only [exec.eq_def, execPowerDieExchangeLost, hpowered, htodo, if_true]
  case dieBack =>
    intro b l0 ls s hlost
    simp only [exec.eq_def, execPowerDieExchangeResumed, hlost]

end Sys2Proof.Machine
end

section
/-! PROOFS. How coppice groups act as one output (R193 to R202; O38). -/

namespace Sys2Proof.Machine

/-- The run of checks saturates at the sixteenth in a row (R196). -/
theorem min_run_of_last {n : Nat} (h : 15 ≤ n) : min 16 (n + 1) = 16 := by omega

section
variable {s : State} {g : Fin 4}

theorem groupImbalanced (hover : 100 < s.p 2 0x0B g 0x19) (hmembers : membersOf s g ≠ 0) :
    (decide (s.p 2 0x0B g 0x19 > 100) && membersOf s g != 0) = true := by
  simp only [gt_iff_lt, hover, decide_true, bne_iff_ne.mpr hmembers, Bool.and_self]

theorem groupBalanced (hback : s.p 2 0x0B g 0x19 ≤ 100 ∨ membersOf s g = 0) :
    (decide (s.p 2 0x0B g 0x19 > 100) && membersOf s g != 0) = false := by
  rcases hback with hwithin | hnone
  · simp only [gt_iff_lt, Nat.not_lt.mpr hwithin, decide_false, Bool.false_and]
  · simp only [hnone, bne_self_eq_false, Bool.and_false]

end

/-- Settles O38: each command acts on the group's side of the bank or of the logic die. That LSW-11 of a cross-bank group
comes from the bank of its lowest member is deduced (log 41). -/
theorem groupsActAsOneOutput : Obligations.GroupsActAsOneOutput := by
  refine ⟨?launch, ?spreadTrips, ?spreadEnds, ?spreadCounts, ?balance, ?imbalance, ?balanced, ?excluded, ?lastExcluded,
    ?tripFirst, ?tripOther, ?overloadEnd, ?restart, ?shutdown, ?shutdownAgain⟩
  case launch =>
    intro b s
    simp only [exec.eq_def, execGroupLaunchInstant]
  case spreadTrips =>
    intro g s hcross hspread hrun hclear
    simp only [exec.eq_def, execVfSpreadCheck, hcross, hspread, min_run_of_last hrun, hclear, ge_iff_le, le_refl, and_self,
      if_true]
  case spreadEnds =>
    intro g s hcross hspread hrun hset
    have hnotHigh : ¬vfSpread s g > 500 := by omega
    simp only [exec.eq_def, execVfSpreadCheck, hcross, hnotHigh, min_run_of_last hrun, hset, ge_iff_le, le_refl, and_self, if_true,
      if_false, Bool.true_eq_false, and_false]
  case spreadCounts =>
    intro g s hcross hspread hrun
    have hnotHigh : ¬vfSpread s g > 500 := by omega
    have hcount : min 16 (s.coppice[g].vfLow + 1) = s.coppice[g].vfLow + 1 := by omega
    have hnotLast : ¬s.coppice[g].vfLow + 1 ≥ 16 := by omega
    have hnoHigh : ¬0 ≥ 16 := by decide
    simp only [exec.eq_def, execVfSpreadCheck, hcross, hnotHigh, hcount, hnotLast, hnoHigh, false_and, if_true, if_false]
  case balance =>
    intro b g sh s harrived henable hon hshare
    simp only [exec.eq_def, execBalanceUpdate, harrived, henable, hon, ← hshare, and_self, if_true]
  case imbalance =>
    intro g s hover hmembers hclear hon
    simp only [exec.eq_def, execBalanceLost, groupImbalanced hover hmembers, hclear, hon, and_self, if_true]
  case balanced =>
    intro g s hback hset
    simp only [exec.eq_def, execBalanceLost, groupBalanced hback, hset, Bool.false_eq_true, false_and, and_self, if_true, if_false]
  case excluded =>
    intro l g y s hgroup hlive hclear hlost hy hstays
    have hnotLast : ¬((activeIn y (bankOfL l) g).isEmpty = true ∧ crossB y (bankOfL l) g = false) := by
      rintro ⟨hnone, hwithin⟩
      rcases hstays with hsome | hcross
      · exact hsome (List.isEmpty_iff.mp hnone)
      · exact Bool.false_ne_true (hwithin.symm.trans hcross)
    simp only [exec.eq_def, execMemberExclusion, hgroup, hlive, hclear, hlost, ge_iff_le, ← hy, hnotLast, and_self, if_true, if_false]
  case lastExcluded =>
    intro l g y s hgroup hlive hclear hlost hy hnone hwithin
    simp only [exec.eq_def, execMemberExclusion, hgroup, hlive, hclear, hlost, ge_iff_le, ← hy, hnone, hwithin, List.isEmpty_nil,
      and_self, if_true]
  case tripFirst =>
    intro b g t s htrip harrived hreached hnot hfirst
    simp only [exec.eq_def, execGroupTrip, htrip, harrived, hreached, hnot, State.bankTrip, hfirst, and_self, if_true]
  case tripOther =>
    intro b g t s htrip harrived hreached hnot hother
    simp only [exec.eq_def, execGroupTrip, htrip, harrived, hreached, hnot, State.bankTrip, hother, and_self, if_true,
      Bool.false_eq_true, if_false]
  case overloadEnd =>
    intro g s htold hclear hover
    simp only [exec.eq_def, execGroupOverloadEnd, htold, hclear, hover, ne_eq, not_false_eq_true, Bool.not_false, and_self, if_true]
  case restart =>
    intro g s hhot hlatch hmembers hcool
    simp only [exec.eq_def, execGroupThermal, hhot, hlatch, hmembers, hcool, ne_eq, not_false_eq_true, and_self, if_true]
  case shutdown =>
    intro g again s hshutdown hcold
    simp only [exec.eq_def, execGroupThermal, hshutdown, hcold, Bool.false_eq_true, if_false]
  case shutdownAgain =>
    intro g again s hshutdown hhot
    simp only [exec.eq_def, execGroupThermal, hshutdown, hhot, Bool.false_eq_true, if_true, if_false]

end Sys2Proof.Machine
end

section
/-! PROOFS. How fast inputs count, measure and latch (R213 to R234; O39). -/

namespace Sys2Proof.Machine

/-! ### A frequency gate -/

/-- The frequency a gate leaves that ends at `first`, where `last` is the last gate end passed (R228 to R230). -/
def gateFreq (k : FChan) (stopped : Bool) (first last : Nat) : Nat :=
  let one := if k.gateRises = 0 then min k.freq (freqOf 1 (first - k.lastRise.toNat))
    else if k.gateStep then k.freq else freqOf k.gateRises (k.lastRise - k.gateStart).toNat
  if stopped then k.freq else if first < last then min one (freqOf 1 (last - k.lastRise.toNat)) else one

section
variable {k : FChan} {first last : Nat}

theorem gateFreq_of_stopped : gateFreq k true first last = k.freq := rfl

/-- A gate that is the only one passed measures its own rises (R228). -/
theorem gateFreq_of_one (heq : first = last) :
    gateFreq k false first last = if k.gateRises = 0 then min k.freq (freqOf 1 (first - k.lastRise.toNat))
      else if k.gateStep then k.freq else freqOf k.gateRises (k.lastRise - k.gateStart).toNat := by
  simp only [gateFreq, heq, lt_irrefl, Bool.false_eq_true, if_false]

/-- Further gates without a rise hold the frequency down (R230). -/
theorem gateFreq_of_more (hlt : first < last) :
    gateFreq k false first last = min (if k.gateRises = 0 then min k.freq (freqOf 1 (first - k.lastRise.toNat))
      else if k.gateStep then k.freq else freqOf k.gateRises (k.lastRise - k.gateStart).toNat)
        (freqOf 1 (last - k.lastRise.toNat)) := by
  simp only [gateFreq, hlt, Bool.false_eq_true, if_true, if_false]

end

section
variable {s : State} {f : Fin 8} {gate first last upto : Nat}
  (hgate : gate = nsUnits (s.b (bankOfF f) 4 0x0C f 0x13 * 1000))
  (hfirst : first = ((s.f[f].gateAt).toNat / gate + 1) * gate) (hlast : last = upto / gate * gate)
include hgate hfirst hlast

theorem closeGates_of_not_ended (hbefore : last < first) : s.closeGates f upto = s := by
  simp only [State.closeGates, ← hgate, ← hfirst, ← hlast, hbefore, or_true, if_true]

/-- A gate that has ended closes, and the next one runs from the last gate end passed (R228). -/
theorem closeGates_of_ended (hpos : 0 < gate) (hpassed : first ≤ last) :
    s.closeGates f upto = s.modF f (fun k => { k with
      freq := gateFreq s.f[f] (fBit s f 2) first last, gateAt := BitVec.ofNat 72 last, gateStart := k.lastRise,
      gateRises := 0, gateStep := false }) := by
  have hends : ¬(gate = 0 ∨ last < first) := by omega
  simp only [State.closeGates, gateFreq, ← hgate, ← hfirst, ← hlast, hends, if_false]

end

/-! ### The grid latch -/

section
variable {s : State} {f : Fin 8} {t : CellTime}

theorem latchGrid_of_due (hdue : latchDueAt s f = some t) :
    s.latchGrid f = (s.latch f t).modF f (fun k => { k with lastGrid := t }) := by
  simp only [State.latchGrid, hdue]

/-- The next instant of the grid is due when the bank copy has reached it (R231). -/
theorem latchDueAt_of_reached {period : Nat} (hsource : s.b (bankOfF f) 1 0x0C f 0x15 = 0x40)
    (harrived : (s.banks[bankOfF f]).arrived = true) (hperiod : period = nsUnits (s.b (bankOfF f) 4 0x0C f 0x17 * 1000))
    (hpos : 0 < period) (hreached : ((s.f[f].lastGrid).toNat / period + 1) * period ≤ (bankNow (s.banks[bankOfF f])).toNat) :
    latchDueAt s f = some (BitVec.ofNat 72 (((s.f[f].lastGrid).toNat / period + 1) * period)) := by
  simp only [latchDueAt, ← hperiod, hsource, harrived, hpos, hreached, and_self, if_true]

end

/-- Settles O39: an edge, a gate, a stop and a latch each have the case their time and state select. -/
theorem fastInputsCountAndLatch : Obligations.FastInputsCountAndLatch := by
  refine ⟨?unpowered, ?sameLevel, ?absent, ?accepted, ?stamped, ?pop, ?popNoRight, ?latchAt, ?latchAtNoRight, ?notEnded,
    ?stopped, ?oneGate, ?oneEmpty, ?oneStep, ?moreGates, ?moreEmpty, ?moreStep, ?stop, ?noStop, ?grid, ?noGrid, ?named,
    ?namedEntry, ?notNamed⟩
  case unpowered =>
    intro f level t s hpowered
    simp only [exec.eq_def, execFastInputEdge, hpowered, true_or, if_true]
  case sameLevel =>
    rintro f level lvl t s hlevel hsame
    simp only [exec.eq_def, execFastInputEdge, ← hlevel, hsame, or_true, if_true]
  case absent =>
    intro f level lvl t s hpowered hlevel hnew habsent
    simp only [exec.eq_def, execFastInputEdge, hpowered, ← hlevel, hnew, habsent, or_self, Bool.true_eq_false, if_true, if_false]
  case accepted =>
    intro f level lvl t s hpowered hlevel hnew harrived hdebounce hedge
    simp only [exec.eq_def, execFastInputEdge, hpowered, ← hlevel, hnew, harrived, hdebounce, hedge, ne_eq, not_false_eq_true,
      and_self, or_self, Bool.true_eq_false, if_true, if_false]
  case stamped =>
    intro f level lvl t s hpowered hlevel hnew harrived hwaits
    have hnot : ¬(s.b (bankOfF f) 2 0x0C f 0x04 = 0 ∧ lvl ≠ s.f[f].db.state) := by
      rintro ⟨hdebounce, hedge⟩
      rcases hwaits with hlong | hsame
      · exact hlong hdebounce
      · exact hedge hsame
    simp only [exec.eq_def, execFastInputEdge, hpowered, ← hlevel, hnew, harrived, hnot, or_self, Bool.true_eq_false, if_false]
  case pop =>
    intro q f seq s hright
    simp only [exec.eq_def, execCapturePop, guardWrite_of_right hright]
  case popNoRight =>
    intro q f seq s hright
    simp only [exec.eq_def, execCapturePop, guardWrite_of_no_right hright, finish_refuse]
  case latchAt =>
    intro q f t s hright
    simp only [exec.eq_def, execLatchAt, guardWrite_of_right hright]
  case latchAtNoRight =>
    intro q f t s hright
    simp only [exec.eq_def, execLatchAt, guardWrite_of_no_right hright, finish_refuse]
  case notEnded =>
    intro f gate first last s hgate hpos hfirst hlast hbefore
    simp only [exec.eq_def, execFrequencyGateEnd, closeGates_of_not_ended hgate hfirst hlast hbefore]
  case stopped =>
    intro f gate first last s hgate hpos hfirst hlast hpassed hstopped
    simp only [exec.eq_def, execFrequencyGateEnd, closeGates_of_ended hgate hfirst hlast hpos hpassed, hstopped,
      gateFreq_of_stopped]
  case oneGate =>
    intro f gate first last s hgate hpos hfirst hlast heq hruns hrises hstep
    simp only [exec.eq_def, execFrequencyGateEnd, closeGates_of_ended hgate hfirst hlast hpos heq.le, hruns, gateFreq_of_one heq,
      hrises, hstep, Bool.false_eq_true, if_false]
  case oneEmpty =>
    intro f gate first last s hgate hpos hfirst hlast heq hruns hrises
    simp only [exec.eq_def, execFrequencyGateEnd, closeGates_of_ended hgate hfirst hlast hpos heq.le, hruns, gateFreq_of_one heq,
      hrises, if_true]
  case oneStep =>
    intro f gate first last s hgate hpos hfirst hlast heq hruns hrises hstep
    simp only [exec.eq_def, execFrequencyGateEnd, closeGates_of_ended hgate hfirst hlast hpos heq.le, hruns, gateFreq_of_one heq,
      hrises, hstep, if_true, if_false]
  case moreGates =>
    intro f gate first last s hgate hpos hfirst hlast hlt hruns hrises hstep
    simp only [exec.eq_def, execFrequencyGateEnd, closeGates_of_ended hgate hfirst hlast hpos hlt.le, hruns, gateFreq_of_more hlt,
      hrises, hstep, Bool.false_eq_true, if_false]
  case moreEmpty =>
    intro f gate first last s hgate hpos hfirst hlast hlt hruns hrises
    simp only [exec.eq_def, execFrequencyGateEnd, closeGates_of_ended hgate hfirst hlast hpos hlt.le, hruns, gateFreq_of_more hlt,
      hrises, if_true]
  case moreStep =>
    intro f gate first last s hgate hpos hfirst hlast hlt hruns hrises hstep
    simp only [exec.eq_def, execFrequencyGateEnd, closeGates_of_ended hgate hfirst hlast hpos hlt.le, hruns, gateFreq_of_more hlt,
      hrises, hstep, if_true, if_false]
  case stop =>
    intro f s hruns hover
    simp only [exec.eq_def, execStopTimeout, hruns, hover, and_self, if_true]
  case noStop =>
    intro f s hno
    have hnot : ¬(fBit s f 2 = false ∧ nsUnits (s.b (bankOfF f) 2 0x0C f 0x14 * 1000000) ≤
        (bankNow (s.banks[bankOfF f]) - s.f[f].lastRise).toNat) := by
      rintro ⟨hruns, hover⟩
      rcases hno with hstopped | hbefore
      · exact Bool.false_ne_true (hruns.symm.trans hstopped)
      · exact absurd hover (Nat.not_le.mpr hbefore)
    simp only [exec.eq_def, execStopTimeout, hnot, if_false]
  case grid =>
    intro f t period s hsource harrived hperiod hpos ht hreached
    have hdue : latchDueAt s f = some t :=
      (latchDueAt_of_reached hsource harrived hperiod hpos hreached).trans (congrArg some ht.symm)
    simp only [exec.eq_def, execLatchTrigger, hdue, latchGrid_of_due hdue, if_true]
  case noGrid =>
    intro f t s hnot
    simp only [exec.eq_def, execLatchTrigger, hnot, if_false]
  case named =>
    intro f t s harmed hreached
    simp only [exec.eq_def, execNamedLatchInstant, State.latchArmed, harmed, hreached, if_true]
  case namedEntry =>
    intro f t h s harmed hentry hreached
    simp only [exec.eq_def, execNamedLatchInstant, State.latchArmed, harmed, hentry, hreached, if_true, if_false]
  case notNamed =>
    intro f s hnot
    have hstays : s.latchArmed f = s := by
      unfold State.latchArmed
      split
      next t h harmed => simp only [hnot t h harmed, Bool.false_eq_true, if_false]
      next => rfl
    simp only [exec.eq_def, execNamedLatchInstant, hstays]

end Sys2Proof.Machine
end

section
/-! PROOFS. How resets and supplies are taken, and how the start runs (chapters 18 and 19; O40, O41). -/

namespace Sys2Proof.Machine

/-- Two changes of the start that agree on the present one are the same change. -/
theorem modSup_congr {s : State} {g g' : Startup → Startup} (h : g s.sup = g' s.sup) : s.modSup g = s.modSup g' := by
  simp only [State.modSup, h]

theorem raiseRail_sup (s : State) (rail : Fin 4) : (s.raiseRail rail).sup = { s.sup with
    supplyGood := s.sup.supplyGood ||| 1#4 <<< rail.val
    memSupply := if rail = 2 && !s.sup.powerFail then .vio else s.sup.memSupply } := rfl

/-- Settles O40: each event of a reset, of a power failure and of a supply has one case per state it meets. That a loss of
supply restarts a reset (log 15), what feeds the memory and when (log 42) and the last page numbered by the mount (log 44)
are the model's choices. -/
theorem resetsAreTakenInOrder : Obligations.ResetsAreTakenInOrder := by
  refine ⟨?pinFalls, ?pinStillLow, ?pinStillHigh, ?pinRises, ?pinRisesOther, ?pinRisesLater, ?key, ?otherKey, ?due, ?notDue,
    ?noRailLost, ?lostInFailure, ?lostInReset, ?failure, ?failureNoHold, ?commitEnd, ?commitEndMount, ?commitEndNoPage,
    ?commitEndIdle, ?cut, ?cutIdle, ?goodAlready, ?good, ?lastGood, ?holdReturns, ?holdReady, ?holdLost⟩
  case pinFalls =>
    intro s hpin
    simp only [exec.eq_def, execResetNEdge, hpin, Option.isSome_none, Bool.false_eq_true, if_false]
  case pinStillLow =>
    intro s hpin
    simp only [exec.eq_def, execResetNEdge, Option.isSome_iff_ne_none.mpr hpin, if_true]
  case pinStillHigh =>
    intro s hpin
    simp only [exec.eq_def, execResetNRise, hpin, Option.isNone_none, if_true]
  case pinRises =>
    intro t e s hpin he hnone hreset
    simp only [exec.eq_def, execResetNRise, hpin, Option.isNone_some, Bool.false_eq_true, if_false, ← he]
    refine congrArg Host.Outcome.next (modSup_congr ?_)
    simp only [hnone, hreset, if_true]
  case pinRisesOther =>
    intro t e s hpin he hnone hreset
    simp only [exec.eq_def, execResetNRise, hpin, Option.isNone_some, Bool.false_eq_true, if_false, ← he]
    refine congrArg Host.Outcome.next (modSup_congr ?_)
    simp only [hnone, hreset, if_false]
  case pinRisesLater =>
    intro t e x s hpin he hend
    simp only [exec.eq_def, execResetNRise, hpin, Option.isNone_some, Bool.false_eq_true, if_false, ← he]
    refine congrArg Host.Outcome.next (modSup_congr ?_)
    simp only [hend]
  case key =>
    intro s
    simp only [exec.eq_def, execSupResetKey, and_self, if_true]
  case otherKey =>
    intro priv key s hother
    have hnot : ¬(priv = true ∧ key = 0x5EC0) := by
      rintro ⟨hpriv, hkey⟩
      rcases hother with hnoPriv | hwrong
      · exact Bool.false_ne_true (hnoPriv.symm.trans hpriv)
      · exact hwrong hkey
    simp only [exec.eq_def, execSupResetKey, hnot, if_false]
  case due =>
    intro c s hrunning hdue hcause
    simp only [exec.eq_def, execLogicReset, hrunning, hdue, hcause, Bool.false_eq_true, or_self, if_false]
  case notDue =>
    intro s hnot
    simp only [exec.eq_def, execLogicReset, hnot, if_true]
  case noRailLost =>
    intro rails s hnone
    simp only [exec.eq_def, execPowerFailDetection, hnone, if_true]
  case lostInFailure =>
    intro rails s hlost hfail
    simp only [exec.eq_def, execPowerFailDetection, hlost, hfail, if_true, if_false]
  case lostInReset =>
    intro rails c s hlost hrunning hreset
    simp only [exec.eq_def, execPowerFailDetection, hlost, hrunning, hreset, Option.isSome_some, Bool.false_eq_true, if_true,
      if_false]
  case failure =>
    intro rails s hlost hrunning hreset hhold
    simp only [exec.eq_def, execPowerFailDetection, hlost, hrunning, hreset, hhold, Option.isSome_none, Bool.false_eq_true, if_true,
      if_false]
  case failureNoHold =>
    intro rails s hlost hrunning hreset hhold
    simp only [exec.eq_def, execPowerFailDetection, hlost, hrunning, hreset, hhold, Option.isSome_none, Bool.false_eq_true,
      if_false]
  case commitEnd =>
    intro s hfail hmounted
    simp only [exec.eq_def, execPowerFailCommitEnd, hfail, hmounted, Bool.not_true, Bool.false_eq_true, if_true, if_false]
  case commitEndMount =>
    intro s hfail hmounted hmounting
    simp only [exec.eq_def, execPowerFailCommitEnd, hfail, hmounted, hmounting, Bool.not_true, Bool.false_eq_true, if_true,
      if_false]
  case commitEndNoPage =>
    intro s hfail hmounted hmounting
    simp only [exec.eq_def, execPowerFailCommitEnd, hfail, hmounted, hmounting, Bool.not_true, Bool.false_eq_true, if_false]
  case commitEndIdle =>
    intro s hrunning
    simp only [exec.eq_def, execPowerFailCommitEnd, hrunning, Bool.not_false, if_true]
  case cut =>
    intro s hfail
    simp only [exec.eq_def, execVholdCut, hfail, Bool.not_true, Bool.false_eq_true, if_false]
  case cutIdle =>
    intro s hrunning
    simp only [exec.eq_def, execVholdCut, hrunning, Bool.not_false, if_true]
  case goodAlready =>
    intro rail s hgood
    simp only [exec.eq_def, execSupplyGood, hgood, if_true]
  case good =>
    intro rail s hwas hnot
    have hnotLast : ¬((s.raiseRail rail).sup.supplyGood = 0xF ∧ (s.raiseRail rail).sup.reset.isSome = true) := by
      rintro ⟨hall, hreset⟩
      rcases hnot with hmissing | hnone
      · exact hmissing hall
      · rw [raiseRail_sup, hnone] at hreset
        cases hreset
    simp only [exec.eq_def, execSupplyGood, hwas, hnotLast, Bool.false_eq_true, if_false]
    rfl
  case lastGood =>
    intro rail c s hwas hall hreset
    have hlast : (s.raiseRail rail).sup.supplyGood = 0xF ∧ (s.raiseRail rail).sup.reset.isSome = true := by
      rw [raiseRail_sup]
      exact ⟨hall, Option.isSome_iff_exists.mpr ⟨c, hreset⟩⟩
    simp only [exec.eq_def, execSupplyGood, hwas, hlast, and_self, Bool.false_eq_true, if_true, if_false]
  case holdReturns =>
    intro s hactive
    simp only [exec.eq_def, execHoldReadyChange, hactive, and_self, if_true]
  case holdReady =>
    intro s hactive
    simp only [exec.eq_def, execHoldReadyChange, hactive, Bool.false_eq_true, and_false, if_false]
  case holdLost =>
    intro s
    simp only [exec.eq_def, execHoldReadyChange, Bool.false_eq_true, false_and, if_false, Bool.not_false]

/-! ### The phases of the start -/

/-- A stage of the start does nothing in a reset or in another phase. -/
theorem not_in_phase {s : State} {n : Nat} (h : s.sup.reset ≠ none ∨ s.sup.phase ≠ n) :
    ¬(s.sup.reset.isNone = true ∧ s.sup.phase = n) := by
  rintro ⟨hreset, hphase⟩
  rcases h with hin | hother
  · exact hin (Option.isNone_iff_eq_none.mp hreset)
  · exact hother hphase

/-- Settles O41: a stage of the start runs in its phase alone, and a bank starts or falls back by its supply. That a
RESET_ONLY record keeps FAIL_N low (log 15), that VF_LOSS resets channels and configuration at once (log 16) and that the
line is emptied at a bank's start (log 32, 40) are the model's choices. -/
theorem theStartRunsInOrder : Obligations.TheStartRunsInOrder := by
  refine ⟨?rom, ?release, ?firmware, ?config, ?configBad, ?arm, ?opens, ?noRom, ?noFailure, ?notYet, ?noFirmware, ?noConfig,
    ?noArm, ?noOpens, ?bankStart, ?bankRuns, ?vfLoss, ?noVfLoss⟩
  case rom =>
    intro r s hover hphase
    simp only [exec.eq_def, execBootRomStart, hover, hphase, and_self, if_true]
  case release =>
    intro t s hfail helapsed
    simp only [exec.eq_def, execBootFailureRelease, hfail, helapsed, if_true]
  case firmware =>
    intro s hreset hphase
    simp only [exec.eq_def, execFirmwareStart, hreset, hphase, Option.isNone_none, and_self, if_true]
  case config =>
    intro c s1 s hreset hphase hcontent hs1
    simp only [exec.eq_def, execConfigImageLoad, hreset, hphase, hcontent, ← hs1, Option.isNone_none, and_self, if_true]
  case configBad =>
    intro c d s1 s hreset hphase hcontent hs1
    simp only [exec.eq_def, execConfigImageLoad, hreset, hphase, hcontent, ← hs1, Option.isNone_none, and_self, if_true]
  case arm =>
    intro s hreset hphase
    simp only [exec.eq_def, execFirebreakArm, hreset, hphase, Option.isNone_none, and_self, if_true]
  case opens =>
    intro s hreset hphase
    simp only [exec.eq_def, execEndpointsOpen, hreset, hphase, Option.isNone_none, and_self, if_true]
  case noRom =>
    intro r s hno
    have hnot : ¬(resetOver s = true ∧ s.sup.phase = 0) := by
      rintro ⟨hover, hphase⟩
      rcases hno with hruns | hother
      · exact Bool.false_ne_true (hruns.symm.trans hover)
      · exact hother hphase
    simp only [exec.eq_def, execBootRomStart, hnot, if_false]
  case noFailure =>
    intro s hfail
    simp only [exec.eq_def, execBootFailureRelease, hfail]
  case notYet =>
    intro t s hfail helapsed
    simp only [exec.eq_def, execBootFailureRelease, hfail, helapsed, Bool.false_eq_true, if_false]
  case noFirmware =>
    intro s hno
    simp only [exec.eq_def, execFirmwareStart, not_in_phase hno, if_false]
  case noConfig =>
    intro s hno
    simp only [exec.eq_def, execConfigImageLoad, not_in_phase hno, if_false]
  case noArm =>
    intro s hno
    simp only [exec.eq_def, execFirebreakArm, not_in_phase hno, if_false]
  case noOpens =>
    intro s hno
    simp only [exec.eq_def, execEndpointsOpen, not_in_phase hno, if_false]
  case bankStart =>
    intro b s1 s hoff hs1
    simp only [exec.eq_def, execBankStart, hoff, ← hs1, Bool.false_eq_true, if_false]
  case bankRuns =>
    intro b s hon
    simp only [exec.eq_def, execBankStart, hon, if_true]
  case vfLoss =>
    intro b s hon
    simp only [exec.eq_def, execVfLoss, hon, if_true]
  case noVfLoss =>
    intro b s hoff
    simp only [exec.eq_def, execVfLoss, hoff, Bool.false_eq_true, if_false]

end Sys2Proof.Machine
end

section
/-! PROOFS. How supplies, temperatures, the watchdog and the clock are watched (R324 to R330, R576 to R588; O42, O43). -/

namespace Sys2Proof.Machine

/-- Settles O42: each threshold has its raise, its end, and the range between them in which nothing changes. -/
theorem suppliesAndTemperaturesAreWatched : Obligations.SuppliesAndTemperaturesAreWatched := by
  refine ⟨?vfLow, ?vfBack, ?fieldHot, ?fieldCool, ?logicHot, ?logicCool, ?noVfLow, ?noVfBack, ?fieldBetween, ?logicBetween,
    ?measured⟩
  case vfLow =>
    intro b s hpowered hgood
    simp only [exec.eq_def, execVfOutOfRange, hpowered, hgood, and_self, if_true]
  case vfBack =>
    intro b s hpowered hlow
    simp only [exec.eq_def, execVfRangeRestored, hpowered, hlow, and_self, if_true]
  case fieldHot =>
    intro b t s hpowered hcool ht
    simp only [exec.eq_def, execFieldDieOvertemp, hpowered, hcool, ht, and_self, if_true]
  case fieldCool =>
    intro b t s hpowered hhot ht
    simp only [exec.eq_def, execFieldDieOvertemp, hpowered, hhot, ht, Bool.true_eq_false, false_and, and_false, and_self, if_true,
      if_false]
  case logicHot =>
    intro t s hcool ht
    simp only [exec.eq_def, execLogicDieOvertemp, hcool, ht, and_self, if_true]
  case logicCool =>
    intro t s hhot ht
    simp only [exec.eq_def, execLogicDieOvertemp, hhot, ht, Bool.true_eq_false, false_and, and_self, if_true, if_false]
  case noVfLow =>
    intro b s hno
    have hnot : ¬((s.banks[b]).powered = true ∧ (s.banks[b]).vfLow = false) := by
      rcases hno with h | h <;> simp only [h, Bool.false_eq_true, Bool.true_eq_false, false_and, and_false, not_false_eq_true]
    simp only [exec.eq_def, execVfOutOfRange, hnot, if_false]
  case noVfBack =>
    intro b s hno
    have hnot : ¬((s.banks[b]).powered = true ∧ (s.banks[b]).vfLow = true) := by
      rcases hno with h | h <;> simp only [h, Bool.false_eq_true, false_and, and_false, not_false_eq_true]
    simp only [exec.eq_def, execVfRangeRestored, hnot, if_false]
  case fieldBetween =>
    rintro b t s (hoff | ⟨hcool, ht⟩ | ⟨hhot, ht⟩)
    · simp only [exec.eq_def, execFieldDieOvertemp, hoff, Bool.false_eq_true, false_and, if_false]
    · simp only [exec.eq_def, execFieldDieOvertemp, hcool, Int.not_le.mpr ht, Bool.false_eq_true, false_and, and_false, if_false]
    · simp only [exec.eq_def, execFieldDieOvertemp, hhot, Int.not_lt.mpr ht, Bool.true_eq_false, false_and, and_false, if_false]
  case logicBetween =>
    rintro t s (⟨hcool, ht⟩ | ⟨hhot, ht⟩)
    · simp only [exec.eq_def, execLogicDieOvertemp, hcool, Int.not_le.mpr ht, Bool.false_eq_true, false_and, and_false, if_false]
    · simp only [exec.eq_def, execLogicDieOvertemp, hhot, Int.not_lt.mpr ht, Bool.true_eq_false, false_and, and_false, if_false]
  case measured =>
    intro m s
    simp only [exec.eq_def, execSupplyMeasurement]

/-! ### The count of one clock window -/

section
variable {edges : Nat}

theorem clockOut_of_outside (h : edges < 90 ∨ 110 < edges) : (decide (edges < 90) || decide (110 < edges)) = true := by
  simpa only [Bool.or_eq_true, decide_eq_true_eq] using h

theorem clockOut_of_inside (hlow : 90 ≤ edges) (hhigh : edges ≤ 110) :
    (decide (edges < 90) || decide (110 < edges)) = false := by
  simp only [Nat.not_lt.mpr hlow, Nat.not_lt.mpr hhigh, decide_false, Bool.or_self]

end

/-- A record that waits goes to Heartwood, whose CRC every write renews (R330). -/
theorem heartNow_of_pending {s : State} {r : FaultRec} (h : s.firebreak.heartPending = some r) :
    s.heartNow = (s.modFb (fun f => { f with heartPending := none })).modHw (fun h => { h with lastFault := faultBytes r }) := by
  unfold State.heartNow
  rw [h]
  rfl

/-- Settles O43: a write, an interval and a window each have the case their key, time and count select. A PERIOD out of
range that does nothing (log 29) and the status written through WDT_PERIOD_WRITE (log 42) are the model's choices. -/
theorem theWatchdogAndTheClockMonitorBite : Obligations.TheWatchdogAndTheClockMonitorBite := by
  refine ⟨?enableNoPriv, ?enabledAlready, ?enable, ?serviceNoPriv, ?serviceDisabled, ?firstKey, ?firstKeyAgain,
    ?secondAlone, ?served, ?servedLate, ?otherKey, ?writeNoPriv, ?period, ?periodOut, ?window, ?periodClosed,
    ?windowClosed, ?status, ?intervalEnd, ?interval, ?firstBad, ?good, ?gap, ?secondBad, ?heartwood, ?noRecord, ?resetCount,
    ?resetCountNoRight⟩
  case enableNoPriv =>
    intro s
    simp only [exec.eq_def, execWdtEnable, Bool.not_false, if_true]
  case enabledAlready =>
    intro s henabled
    simp only [exec.eq_def, execWdtEnable, henabled, Bool.not_true, Bool.false_eq_true, if_true, if_false]
  case enable =>
    intro s hdisabled
    simp only [exec.eq_def, execWdtEnable, hdisabled, Bool.not_true, Bool.false_eq_true, if_false]
  case serviceNoPriv =>
    intro v s
    simp only [exec.eq_def, execWdtService, Bool.not_false, if_true]
  case serviceDisabled =>
    intro v s hdisabled
    simp only [exec.eq_def, execWdtService, hdisabled, Bool.not_true, Bool.not_false, Bool.false_eq_true, if_true, if_false]
  case firstKey =>
    intro v s henabled hkey hnone
    simp only [exec.eq_def, execWdtService, henabled, hkey, hnone, Bool.not_true, Bool.false_eq_true, if_true, if_false]
  case firstKeyAgain =>
    intro v t s henabled hkey hsome
    simp only [exec.eq_def, execWdtService, henabled, hkey, hsome, Bool.not_true, Bool.false_eq_true, if_true, if_false]
  case secondAlone =>
    intro v s henabled hkey hnone
    simp only [exec.eq_def, execWdtService, henabled, hkey, hnone, Bool.not_true, Bool.false_eq_true, Nat.reduceEqDiff, if_true,
      if_false]
  case served =>
    intro v t s henabled hkey hsome hsoon hopen
    simp only [exec.eq_def, execWdtService, henabled, hkey, hsome, hsoon, hopen, and_self, Bool.not_true, Bool.false_eq_true,
      Nat.reduceEqDiff, if_true, if_false]
  case servedLate =>
    intro v t s henabled hkey hsome hlate
    have hnot : ¬((s.tb.mono - t).toNat ≤ 128 * 2 ^ 32 ∧ windowOpen s = true) := by
      rintro ⟨hsoon, hopen⟩
      rcases hlate with hafter | hclosed
      · exact absurd hsoon (Nat.not_le.mpr hafter)
      · exact Bool.false_ne_true (hclosed.symm.trans hopen)
    simp only [exec.eq_def, execWdtService, henabled, hkey, hsome, hnot, Bool.not_true, Bool.false_eq_true, Nat.reduceEqDiff,
      if_true, if_false]
  case otherKey =>
    intro v s henabled hfirst hsecond
    simp only [exec.eq_def, execWdtService, henabled, hfirst, hsecond, Bool.not_true, Bool.false_eq_true, if_false]
  case writeNoPriv =>
    intro fd v s
    simp only [exec.eq_def, execWdtPeriodWrite, Bool.not_false, if_true]
  case period =>
    intro v s hopen hlow hhigh
    simp only [exec.eq_def, execWdtPeriodWrite, hopen, hlow, hhigh, and_self, Bool.not_true, Bool.false_eq_true, if_true, if_false]
  case periodOut =>
    intro v s hopen hout
    have hnot : ¬(1000 ≤ v.toNat ∧ v.toNat ≤ 1000000) := by omega
    simp only [exec.eq_def, execWdtPeriodWrite, hopen, hnot, Bool.not_true, Bool.false_eq_true, if_false]
  case window =>
    intro v s hopen
    simp only [exec.eq_def, execWdtPeriodWrite, hopen, Bool.not_true, Bool.false_eq_true, if_false]
  case periodClosed =>
    intro v s hclosed
    simp only [exec.eq_def, execWdtPeriodWrite, State.periodRejected, hclosed, Bool.not_true, Bool.not_false, Bool.false_eq_true,
      if_true, if_false]
  case windowClosed =>
    intro v s hclosed
    simp only [exec.eq_def, execWdtPeriodWrite, State.periodRejected, hclosed, Bool.not_true, Bool.not_false, Bool.false_eq_true,
      if_true, if_false]
  case status =>
    intro v s
    simp only [exec.eq_def, execWdtPeriodWrite, State.clearWdtStatus, Bool.not_true, Bool.false_eq_true, if_false]
  case intervalEnd =>
    intro s henabled hover
    simp only [exec.eq_def, execWdtIntervalEnd, henabled, hover, and_self, if_true]
  case interval =>
    rintro s (hdisabled | hbefore)
    · simp only [exec.eq_def, execWdtIntervalEnd, hdisabled, Bool.false_eq_true, false_and, if_false]
    · simp only [exec.eq_def, execWdtIntervalEnd, Nat.not_le.mpr hbefore, and_false, if_false]
  case firstBad =>
    intro edges s hout hrun
    have hfirst : ¬s.wdt.monBad ≥ 1 := by omega
    simp only [exec.eq_def, execClockMonitorWindow, clockOut_of_outside hout, hfirst, Bool.false_eq_true, and_false, or_self,
      if_true, if_false]
  case good =>
    intro edges s hlow hhigh
    simp only [exec.eq_def, execClockMonitorWindow, clockOut_of_inside hlow hhigh, Bool.false_eq_true, false_and, or_self, if_false]
  case gap =>
    intro edges s1 s hs1
    simp only [exec.eq_def, execClockMonitorWindow, hs1, Bool.or_eq_true, decide_eq_true_eq, true_or, if_true]
  case secondBad =>
    intro edges s1 s hout hrun hs1
    simp only [exec.eq_def, execClockMonitorWindow, clockOut_of_outside hout, hrun, ← hs1, and_self, or_true, if_true]
  case heartwood =>
    intro r s hpending
    simp only [exec.eq_def, execHeartwoodWrite, heartNow_of_pending hpending]
  case noRecord =>
    intro s hnone
    simp only [exec.eq_def, execHeartwoodWrite, State.heartNow, hnone]
  case resetCount =>
    intro q v s hright
    simp only [exec.eq_def, execWdtResetCount, guardWrite_of_right hright]
  case resetCountNoRight =>
    intro q v s hright
    simp only [exec.eq_def, execWdtResetCount, guardWrite_of_no_right hright, finish_refuse]

end Sys2Proof.Machine
end

section
/-! PROOFS. The channel commands that complete (O44). -/

namespace Sys2Proof.Machine

/-- What a command answered is what completes it. -/
theorem finish_mk (st : State) (code : BitVec 16) (payload : List Byte) (q : Req) (op : Nat) :
    ({ st := st, code := code, payload := payload } : CmdRes).finish q op = st.finish q op code payload := by
  simp only [CmdRes.finish]

/-- Settles O44: each command has the right to configure, and its own test selects effect or code. -/
theorem channelCommandsComplete : Obligations.ChannelCommandsComplete := by
  refine ⟨?pop, ?popUnknown, ?latch, ?sync, ?syncLate, ?rotate, ?trimPoint, ?trimApply, ?resetCount, ?resetCountOther,
    ?logPop, ?logPopUnknown, ?logPopNoRight⟩
  case pop =>
    intro q f seq i s hright hfound
    simp only [exec.eq_def, execCapturePop, guardWrite_of_right hright, capturePop, hfound, finish_okRes]
  case popUnknown =>
    intro q f seq s hright hunknown
    simp only [exec.eq_def, execCapturePop, guardWrite_of_right hright, capturePop, hunknown, finish_refuse]
  case latch =>
    intro q f t s hright hpresent
    simp only [exec.eq_def, execLatchAt, guardWrite_of_right hright, latchAt, hpresent, if_true, finish_okRes]
  case sync =>
    intro q u t s hright hallowed htaken
    simp only [exec.eq_def, execSyncAt, guardWrite_of_right hright, syncAt, hallowed, htaken, if_true, finish_okRes]
  case syncLate =>
    intro q u t s hright hallowed hlate
    simp only [exec.eq_def, execSyncAt, guardWrite_of_right hright, syncAt, hallowed, hlate, if_true, Bool.false_eq_true, if_false,
      finish_mk]
  case rotate =>
    intro q u s hright hpresent heligible
    simp only [exec.eq_def, execRotateNow, guardWrite_of_right hright, rotateNow, hpresent, heligible, Bool.and_self, if_true,
      finish_okRes]
  case trimPoint =>
    intro q u second measured s hright hmode hpresent hstood
    simp only [exec.eq_def, execTrimPoint, guardWrite_of_right hright, trimPoint, hmode, hpresent, Nat.not_lt.mpr hstood,
      Bool.not_true, Bool.or_self, Bool.false_eq_true, if_false, finish_mk]
  case trimApply =>
    intro q u s1 a1 s2 a2 l s hright hfirst hsecond hmode hok hl
    simp only [exec.eq_def, execTrimApply, guardWrite_of_right hright, trimApply, hfirst, hsecond, hmode, hok, ← hl, Bool.and_self,
      if_true, finish_mk]
  case resetCount =>
    intro q s hright
    simp only [exec.eq_def, execWdtResetCount, guardWrite_of_right hright, wdtResetCount, if_true, finish_okRes]
  case resetCountOther =>
    intro q v s hright hv
    simp only [exec.eq_def, execWdtResetCount, guardWrite_of_right hright, wdtResetCount, hv, if_false, finish_refuse]
  case logPop =>
    intro q seq s hright hheld
    simp only [exec.eq_def, execLogPop, guardWrite_of_right hright, logPop, hheld, if_true, finish_okRes]
  case logPopUnknown =>
    intro q seq s hright hunknown
    simp only [exec.eq_def, execLogPop, guardWrite_of_right hright, logPop, hunknown, Bool.false_eq_true, if_false, finish_refuse]
  case logPopNoRight =>
    intro q seq s hright
    simp only [exec.eq_def, execLogPop, guardWrite_of_no_right hright, finish_refuse]

end Sys2Proof.Machine
end

section
/-! PROOFS. How the schedule runs (R243 to R257; O45). -/

namespace Sys2Proof.Machine

/-- Two changes of a bank that agree on it as it is are the same change. -/
theorem modBank_congr {s : State} {b : Fin 4} {g g' : Bank → Bank} (h : g (s.banks[b]) = g' (s.banks[b])) :
    s.modBank b g = s.modBank b g' := by
  simp only [State.modBank, h]

/-! ### What a command with entries answers -/

section
variable {s : State} {ep : Fin 8} {es : List SchedReq}

theorem scheduleOutput_of_bad_length (h : es = [] ∨ 32 < es.length) : scheduleOutput s ep es = refuse s rcBadParam := by
  simp only [scheduleOutput, gt_iff_lt, h, if_true]

theorem length_accepted (hmin : 1 ≤ es.length) (hmax : es.length ≤ 32) : ¬(es = [] ∨ es.length > 32) := by
  rintro (rfl | hover)
  · exact absurd hmin (by decide)
  · omega

/-- A list is refused by its first entry that fails its check (R248, R252). -/
theorem scheduleOutput_of_refused {i : Nat} {c : BitVec 16} {s1 : State} (hmin : 1 ≤ es.length) (hmax : es.length ≤ 32)
    (hcheck : schedCheckAll s ep [] 0 es = some (i, c)) (hs1 : s1 = s.setP 4 0x0D 0 0x0F (s.p 4 0x0D 0 0x0F + es.length)) :
    scheduleOutput s ep es = {
      st := if c = rcLate then s1.schedEvent 7 else if c = rcScheduleFull then s1.schedEvent 5 else s1
      code := c, payload := [BitVec.ofNat 8 i, 0, 0, 0] } := by
  simp only [scheduleOutput, length_accepted hmin hmax, hcheck, ← hs1, if_false]

/-- Two entries or more are a batch with a number of its own (R254). -/
theorem scheduleOutput_of_batch {batch : BitVec 16} {hs : List (BitVec 16)} {s1 : State} (hmin : 2 ≤ es.length)
    (hmax : es.length ≤ 32) (hcheck : schedCheckAll s ep [] 0 es = none)
    (hbatch : batch = nextFree (fun v => v == 0 || s.sched.any (fun r => r.batch == v)) 2000 s.nextBatch)
    (hqueued : ({ s with nextBatch := batch + 1 } : State).queueAll ep batch es = (hs, s1)) :
    scheduleOutput s ep es = {
      st := allBanks.foldl (fun t b => t.sendEntries b hs) s1, code := 0
      payload := leBytes 2 batch.toNat ++ [BitVec.ofNat 8 es.length, 0] ++ (hs.map (fun h => leBytes 2 h.toNat)).flatten } := by
  have hseveral : ¬es.length = 1 := by omega
  simp only [scheduleOutput, length_accepted (by omega) hmax, hcheck, hseveral, ← hbatch, hqueued, if_false]

/-- One entry is no batch (R254). -/
theorem scheduleOutput_of_one {e : SchedReq} {hs : List (BitVec 16)} {s1 : State}
    (hcheck : schedCheckAll s ep [] 0 [e] = none) (hqueued : s.queueAll ep 0 [e] = (hs, s1)) :
    scheduleOutput s ep [e] = {
      st := allBanks.foldl (fun t b => t.sendEntries b hs) s1, code := 0
      payload := leBytes 2 0 ++ [1, 0] ++ (hs.map (fun h => leBytes 2 h.toNat)).flatten } := by
  have haccepted : ¬([e] = [] ∨ [e].length > 32) :=
    length_accepted (List.length_singleton.ge) (List.length_singleton.trans_le (by decide))
  simp only [scheduleOutput, haccepted, hcheck, if_false]
  simp only [List.length_singleton, hqueued, if_true]
  rfl

end

/-! ### The due entries of a bank and its share -/

section
variable {s : State} {b : Fin 4} {late : Bool}

theorem entriesAndShare_of_due {a : CellTime} {arr : Bool} (hmark : (s.banks[b]).shareMark = some (a, arr))
    (hreached : reached a (bankNow (s.banks[b])) = true) :
    s.entriesAndShare b late = ((s.applyDue b late (some a)).shareFirst b a.toNat).applyDue b late none := by
  simp only [State.entriesAndShare, hmark, hreached, if_true]

theorem entriesAndShare_of_not_due
    (h : ∀ a arr, (s.banks[b]).shareMark = some (a, arr) → reached a (bankNow (s.banks[b])) = false) :
    s.entriesAndShare b late = s.applyDue b late none := by
  unfold State.entriesAndShare
  split
  next a arr hmark => simp only [h a arr hmark, Bool.false_eq_true, if_false]
  next => rfl

/-- One entry in a bank whose time is certain is applied (R249, R253). -/
theorem takeEntries_one_of_certain {r : SchedRec} (hcertain : bankUnc s b = false) :
    s.takeEntries b false [r] = s.applyEntry b r 0 0 false := by
  simp only [State.takeEntries, State.meetPolicy, hcertain, List.any_nil, Bool.false_eq_true, false_and, if_false]

/-- The one entry that waits, armed and reached, is the one that is due. -/
theorem dueEntries_of_one {r : SchedRec} (hqueue : (s.banks[b]).queue = [r]) (harmed : r.state = 2)
    (hreached : reached r.apply (bankNow (s.banks[b])) = true) : dueEntries s b none = [r] := by
  simp only [dueEntries, hqueue, harmed, hreached, beq_self_eq_true, Option.any_none, Bool.not_false, Bool.and_self,
    List.filter_cons, if_true, List.filter_nil, sortByApply, List.foldl_cons, List.foldl_nil, insertByApply]

end

/-- Settles O45: a command, a cancellation and an instant each have one case of their checks. That what is still queued on
the logic side ends at once, and that selector 2 of a sender without authority is narrowed to its own entries, is the model's
choice (log 19). -/
theorem theScheduleRuns : Obligations.TheScheduleRuns := by
  refine ⟨?badLength, ?one, ?batch, ?refused, ?cancelRefused, ?cancelAtOnce, ?cancelWaits, ?shareDue, ?noShare, ?oneDue,
    ?pulse, ?heldUncertain, ?heldResume, ?holdLimit⟩
  case badLength =>
    intro q es s hlength
    simp only [exec.eq_def, execScheduleOutput, scheduleOutput_of_bad_length hlength, finish_refuse]
  case one =>
    intro q e hs s1 s hcheck hqueued
    simp only [exec.eq_def, execScheduleOutput, scheduleOutput_of_one hcheck hqueued, finish_mk]
  case batch =>
    intro q es batch hs s1 s hmin hmax hcheck hbatch hqueued
    simp only [exec.eq_def, execScheduleOutput, scheduleOutput_of_batch hmin hmax hcheck hbatch hqueued, finish_mk]
  case refused =>
    intro q es i c s1 s hmin hmax hcheck hs1
    simp only [exec.eq_def, execScheduleOutput, scheduleOutput_of_refused hmin hmax hcheck hs1, finish_mk]
  case cancelRefused =>
    intro q selector release kind target what c s hcheck
    simp only [exec.eq_def, execCancelSchedule, cancelSchedule, hcheck]
  case cancelAtOnce =>
    intro q selector release kind target what tgt owner outcome live atOnce banks s1 s2 s hcheck htgt howner hlive hatOnce
      hbanks hs1 hs2 houtcome hnone
    simp only [exec.eq_def, execCancelSchedule, cancelSchedule, hcheck, ← htgt, ← howner, ← hlive, ← hatOnce, ← hs1, ← houtcome]
    refine congrArg Host.Outcome.next ((if_pos (hbanks.symm.trans hnone)).trans ?_)
    rw [hs2, hbanks] <;> rfl
  case cancelWaits =>
    intro q selector release kind target what tgt owner outcome live atOnce banks s1 s2 s hcheck htgt howner hlive hatOnce
      hbanks hs1 hs2 houtcome hsome
    simp only [exec.eq_def, execCancelSchedule, cancelSchedule, hcheck, ← htgt, ← howner, ← hlive, ← hatOnce, ← hs1, ← houtcome]
    refine congrArg Host.Outcome.next ((if_neg (hbanks ▸ hsome)).trans ?_)
    rw [hs2, hbanks] <;> rfl
  case shareDue =>
    intro b a arr s hmark hreached
    simp only [exec.eq_def, execScheduleApplyInstant, entriesAndShare_of_due hmark hreached]
  case noShare =>
    intro b s hnot
    simp only [exec.eq_def, execScheduleApplyInstant, entriesAndShare_of_not_due hnot]
  case oneDue =>
    intro b r s hmark hqueue harmed hreached hcertain
    have hnot : ∀ a arr, (s.banks[b]).shareMark = some (a, arr) → reached a (bankNow (s.banks[b])) = false := by
      intro a arr hsome
      rw [hmark] at hsome
      cases hsome
    have hemptied : s.modBank b (fun k => { k with queue := k.queue.filter (fun x => !([r].contains x)) }) =
        s.modBank b (fun k => { k with queue := [] }) := by
      refine modBank_congr ?_
      simp only [hqueue, List.contains_cons, beq_self_eq_true, Bool.true_or, Bool.not_true, List.filter_cons,
        Bool.false_eq_true, if_false, List.filter_nil]
    have hstill : bankUnc (s.modBank b (fun k => { k with queue := [] })) b = false := by
      simpa only [bankUnc, modBank_at] using hcertain
    simp only [exec.eq_def, execScheduleApplyInstant, entriesAndShare_of_not_due hnot, State.applyDue,
      dueEntries_of_one hqueue harmed hreached, hemptied, takeEntries_one_of_certain hstill]
  case pulse =>
    intro b s
    simp only [exec.eq_def, execPulseRelease]
  case heldUncertain =>
    intro b s huncertain
    simp only [exec.eq_def, execHeldEntryResume, huncertain, if_true]
  case heldResume =>
    intro b go s hcertain hgo
    simp only [exec.eq_def, execHeldEntryResume, hcertain, hgo, Bool.false_eq_true, if_false]
  case holdLimit =>
    intro b go s hgo
    simp only [exec.eq_def, execHoldLimitExpiry, hgo]

end Sys2Proof.Machine
end

section
/-! PROOFS. How points are published and received (R269 to R281; O46). -/

namespace Sys2Proof.Machine

/-- A group that publishes events does so when one has qualified and its hold-off is over, or its frame still waits (R271). -/
theorem execEventGroupPublish_eq (g : Fin 64) (s : State) :
    execEventGroupPublish g s =
      if (pubGroup s g).1 = 3 ∧ (pubState s g).qualified = true ∧ (frameWaits s g || (pubState s g).lastSent.all
        (fun t => elapsed s t ((pubGroup s g).2.2.2.2.2 * 1000))) = true
      then .next (s.publish g (now s) (frameWaits s g)) else .next s := rfl

/-- The heartbeat of an event group comes when none of its frames has left for PERIOD (R270). -/
theorem execHeartbeatExpiry_eq (g : Fin 64) (s : State) :
    execHeartbeatExpiry g s =
      if (pubGroup s g).1 = 3 ∧ (pubState s g).lastSent.all (fun t => elapsed s t ((pubGroup s g).2.2.2.1 * 1000)) = true
      then .next (s.publish g (now s) false) else .next s := rfl

/-- Settles O46: a publication, a frame and a force each have one case of the group's kind, the sender and the list. -/
theorem pointsArePublishedAndReceived : Obligations.PointsArePublishedAndReceived := by
  refine ⟨?noInstant, ?periodic, ?notPeriodic, ?event, ?noEvent, ?heartbeat, ?noHeartbeat, ?frame, ?noFrame, ?stale, ?force,
    ?forceNoRight, ?forceLocked, ?forceBad, ?forceFull, ?releaseNoRight, ?releaseAll, ?release⟩
  case noInstant =>
    intro g s hnone
    simp only [exec.eq_def, execPublicationInstant, hnone]
  case periodic =>
    intro g t s hinstant hkind hfresh
    simp only [exec.eq_def, execPublicationInstant, hinstant, hkind, hfresh, and_self, if_true]
  case notPeriodic =>
    intro g t s hinstant hno
    have hnot : ¬(((pubGroup s g).1 = 1 ∨ (pubGroup s g).1 = 2) ∧ freshInstant s (pubState s g).mark t = true) := by
      rintro ⟨hkind, hfresh⟩
      rcases hno with ⟨hnot1, hnot2⟩ | hold
      · exact hkind.elim hnot1 hnot2
      · exact Bool.false_ne_true (hold.symm.trans hfresh)
    simp only [exec.eq_def, execPublicationInstant, hinstant, hnot, if_false]
  case event =>
    intro g s hkind hqualified hfree
    simp only [exec.eq_def, execEventGroupPublish_eq, hkind, hqualified, Bool.or_eq_true, hfree, and_self, if_true]
  case noEvent =>
    intro g s hno
    have hnot : ¬((pubGroup s g).1 = 3 ∧ (pubState s g).qualified = true ∧ (frameWaits s g || (pubState s g).lastSent.all
        (fun t => elapsed s t ((pubGroup s g).2.2.2.2.2 * 1000))) = true) := by
      rintro ⟨hkind, hqualified, hfree⟩
      rcases hno with hother | hnone | hheld
      · exact hother hkind
      · exact Bool.false_ne_true (hnone.symm.trans hqualified)
      · exact Bool.false_ne_true (hheld.symm.trans hfree)
    simp only [exec.eq_def, execEventGroupPublish_eq, hnot, if_false]
  case heartbeat =>
    intro g s hkind hdue
    simp only [exec.eq_def, execHeartbeatExpiry_eq, hkind, hdue, and_self, if_true]
  case noHeartbeat =>
    intro g s hno
    have hnot : ¬((pubGroup s g).1 = 3 ∧
        (pubState s g).lastSent.all (fun t => elapsed s t ((pubGroup s g).2.2.2.1 * 1000)) = true) := by
      rintro ⟨hkind, hdue⟩
      rcases hno with hother | hnotYet
      · exact hother hkind
      · exact Bool.false_ne_true (hnotYet.symm.trans hdue)
    simp only [exec.eq_def, execHeartbeatExpiry_eq, hnot, if_false]
  case frame =>
    intro f s hfound
    simp only [exec.eq_def, execPubFrameReceived, hfound]
  case noFrame =>
    intro s hnone
    simp only [exec.eq_def, execPubFrameReceived, hnone]
  case stale =>
    intro s
    simp only [exec.eq_def, execStaleCheck]
  case force =>
    intro q handle value s hright henabled hforceable hroom
    have hfits : (!(s.canopy.forces.any (fun f => f.handle == handle.toNat)) && decide (s.canopy.forces.length ≥ 64)) =
        false := by
      rcases hroom with hthere | hfree
      · simp only [hthere, Bool.not_true, Bool.false_and]
      · simp only [ge_iff_le, Nat.not_le.mpr hfree, decide_false, Bool.and_false]
    simp only [exec.eq_def, execForcePoint, forcePointCmd, hright, henabled, hforceable, hfits, Bool.not_true, Bool.false_eq_true,
      ne_eq, not_true_eq_false, if_false, finish_okRes]
  case forceNoRight =>
    intro q handle value s hright
    simp only [exec.eq_def, execForcePoint, forcePointCmd, hright, Bool.not_false, if_true, finish_refuse]
  case forceLocked =>
    intro q handle value s hright hdisabled
    simp only [exec.eq_def, execForcePoint, forcePointCmd, hright, hdisabled, Bool.not_true, Bool.false_eq_true, ne_eq,
      not_false_eq_true, if_true, if_false, finish_refuse]
  case forceBad =>
    intro q handle value s hright henabled hbad
    simp only [exec.eq_def, execForcePoint, forcePointCmd, hright, henabled, hbad, Bool.not_true, Bool.not_false, Bool.false_eq_true,
      ne_eq, not_true_eq_false, if_true, if_false, finish_refuse]
  case forceFull =>
    intro q handle value s hright henabled hforceable hnew hfull
    simp only [exec.eq_def, execForcePoint, forcePointCmd, hright, henabled, hforceable, hnew, ge_iff_le, hfull, decide_true,
      Bool.not_true, Bool.not_false, Bool.and_self, Bool.false_eq_true, ne_eq, not_true_eq_false, if_true, if_false,
      finish_refuse]
  case releaseNoRight =>
    intro q handle s hright
    simp only [exec.eq_def, execReleasePoint, releasePointCmd, hright, Bool.not_false, if_true, finish_refuse]
  case releaseAll =>
    intro q s hright
    have hall : (0xFFFFFFFF : BitVec 32).toNat = 0xFFFFFFFF := rfl
    simp only [exec.eq_def, execReleasePoint, releasePointCmd, hright, hall, Bool.not_true, Bool.false_eq_true, if_true, if_false,
      finish_okRes]
  case release =>
    intro q handle s hright hone
    simp only [exec.eq_def, execReleasePoint, releasePointCmd, hright, hone, Bool.not_true, Bool.false_eq_true, if_false,
      finish_okRes]

end Sys2Proof.Machine
end

section
/-! PROOFS. How Glade's lanes run and its tables are loaded and swapped (R287 to R297; O47). -/

namespace Sys2Proof.Machine

/-! ### The fast lane and the swap -/

section
variable {s : State} {t : CellTime}

theorem fastDue_of_old (h : freshInstant s s.glade.fastMark (fastInstant s) = false) : s.fastDue = s := by
  simp only [State.fastDue, h, Bool.false_eq_true, if_false]

theorem swapDue_of_none (h : s.glade.swapAt = none) : s.swapDue t = s := by
  simp only [State.swapDue, h, Bool.false_eq_true, if_false]

theorem swapDue_of_later {u : CellTime} (h : s.glade.swapAt = some (some u)) (hlater : reached u t = false) :
    s.swapDue t = s := by
  simp only [State.swapDue, h, hlater, Bool.false_eq_true, if_false]

/-- A swap that is due is executed where the layout fits, and dropped where it does not (R295, R296). -/
theorem swapDue_of_now (h : s.glade.swapAt = some none) :
    s.swapDue t = if layoutFits s (inactiveBank s) = true then s.swapNow else s.modGlade (fun g => { g with swapAt := none }) := by
  simp only [State.swapDue, h, if_true]

theorem swapDue_of_reached {u : CellTime} (h : s.glade.swapAt = some (some u)) (hreached : reached u t = true) :
    s.swapDue t = if layoutFits s (inactiveBank s) = true then s.swapNow else s.modGlade (fun g => { g with swapAt := none }) := by
  simp only [State.swapDue, h, hreached, if_true]

/-- At a new main instant the swap follows a commit and the fast pass of that instant. -/
theorem execRuleSwapExecute_of_fresh {s1 : State} (ht : t = mainInstant s) (hfresh : freshInstant s s.glade.mainMark t = true)
    (hs1 : s1 = if fastInstant s = t then (s.commitBy t).fastDue else s.commitBy t) :
    execRuleSwapExecute s = .next (s1.swapDue t) := by
  simp only [execRuleSwapExecute, State.mainStart, ← ht, hfresh, ← hs1, if_true]

end

/-! ### The load of a table -/

section
variable {s : State} {ep : Fin 8}

theorem loadVerify_of_no_right (h : mayRules s ep = false) : loadVerify s ep = some (refuse s rcNotAuthority) := by
  simp only [loadVerify, h, Bool.not_false, if_true]

theorem loadVerify_of_not_open (h : mayRules s ep = true) (hopen : s.glade.inactive ≠ 1) :
    loadVerify s ep = some (refuse s rcBadParam) := by
  simp only [loadVerify, h, hopen, Bool.not_true, Bool.false_eq_true, ne_eq, not_false_eq_true, if_true, if_false]

theorem loadVerify_of_bad (h : mayRules s ep = true) (hopen : s.glade.inactive = 1)
    (hbad : imageOk s (inactiveBank s) = false) :
    loadVerify s ep = some (refuse (s.modGlade (fun g => { g with inactive := 3 })) rcBadParam) := by
  simp only [loadVerify, refuse, h, hopen, hbad, Bool.not_true, Bool.not_false, Bool.false_eq_true, ne_eq, not_true_eq_false,
    if_true, if_false]

theorem loadVerify_of_good (h : mayRules s ep = true) (hopen : s.glade.inactive = 1)
    (hgood : imageOk s (inactiveBank s) = true) : loadVerify s ep = none := by
  simp only [loadVerify, h, hopen, hgood, Bool.not_true, Bool.false_eq_true, ne_eq, not_true_eq_false, if_false]

end

/-- Settles O47: a pass, a load and a swap each have one case of their instant, of the sender and of the other bank. -/
theorem gladePassesAndSwaps : Obligations.GladePassesAndSwaps := by
  refine ⟨?fastOld, ?fast, ?fastNotReady, ?mainOld, ?main, ?mainOverran, ?repeated, ?notRepeated, ?beginNoRight, ?beginLocked,
    ?beginBad, ?begins, ?dataNoRight, ?dataNotOpen, ?dataBad, ?dataBeyond, ?data, ?endNoRight, ?endNotOpen, ?endBad, ?ends,
    ?endPersisted, ?endFailed, ?swapNoRight, ?swapNotReady, ?swapMismatch, ?swapLate, ?swapNow, ?swapLater, ?oldInstant,
    ?noSwap, ?notDue, ?nowFits, ?nowMismatch, ?dueFits, ?dueMismatch⟩
  case fastOld =>
    intro s hold
    simp only [exec.eq_def, execFastPass, fastDue_of_old hold]
  case fast =>
    intro s1 s hfresh hready hs1
    simp only [exec.eq_def, execFastPass, State.fastDue, hfresh, hready, ← hs1, if_true]
  case fastNotReady =>
    intro s hfresh hready
    simp only [exec.eq_def, execFastPass, State.fastDue, hfresh, hready, Bool.false_eq_true, if_true, if_false]
  case mainOld =>
    intro overran s hold
    simp only [exec.eq_def, execMainPass, hold, Bool.not_false, if_true]
  case main =>
    intro t s1 s ht hfresh hs1
    simp only [exec.eq_def, execMainPass, ← ht, hfresh, ← hs1, Bool.not_true, Bool.false_eq_true, if_false]
  case mainOverran =>
    intro t s1 s ht hfresh hs1
    simp only [exec.eq_def, execMainPass, ← ht, hfresh, ← hs1, Bool.not_true, Bool.false_eq_true, if_true, if_false]
  case repeated =>
    intro s hdue
    simp only [exec.eq_def, execForceRepeat, hdue, if_true]
  case notRepeated =>
    intro s hnot
    simp only [exec.eq_def, execForceRepeat, hnot, Bool.false_eq_true, if_false]
  case beginNoRight =>
    intro q len s hright
    simp only [exec.eq_def, execLoadRulesBegin, loadBegin, hright, Bool.not_false, if_true, finish_refuse]
  case beginLocked =>
    intro q len s hright hswap
    simp only [exec.eq_def, execLoadRulesBegin, loadBegin, hright, Option.isSome_iff_ne_none.mpr hswap, Bool.not_true,
      Bool.false_eq_true, if_true, if_false, finish_refuse]
  case beginBad =>
    intro q len s hright hswap hlen
    simp only [exec.eq_def, execLoadRulesBegin, loadBegin, hright, hswap, hlen, Option.isSome_none, Bool.not_true,
      Bool.false_eq_true, if_true, if_false, finish_refuse]
  case begins =>
    intro q len s1 s hright hswap hmin hmax hs1
    have hlen : ¬(len.toNat < 188 ∨ 458828 < len.toNat) := by omega
    simp only [exec.eq_def, execLoadRulesBegin, loadBegin, hright, hswap, hlen, ← hs1, Option.isSome_none, Bool.not_true,
      Bool.false_eq_true, if_false, finish_mk]
  case dataNoRight =>
    intro q off data s hright
    simp only [exec.eq_def, execLoadRulesData, loadData, hright, Bool.not_false, if_true, finish_refuse]
  case dataNotOpen =>
    intro q off data s hright hopen
    simp only [exec.eq_def, execLoadRulesData, loadData, hright, hopen, ne_eq, not_false_eq_true, Bool.not_true,
      Bool.false_eq_true, if_true, if_false, finish_refuse]
  case dataBad =>
    intro q off data s hright hopen hdata
    simp only [exec.eq_def, execLoadRulesData, loadData, hright, hopen, gt_iff_lt, hdata, ne_eq, not_true_eq_false, Bool.not_true,
      Bool.false_eq_true, if_true, if_false, finish_refuse]
  case dataBeyond =>
    intro q off data s hright hopen hsome hmax hbeyond
    simp only [exec.eq_def, execLoadRulesData, loadData, hright, hopen, gt_iff_lt, hsome, Nat.not_lt.mpr hmax, hbeyond, or_self,
      ne_eq, not_true_eq_false, Bool.not_true, Bool.false_eq_true, if_true, if_false, finish_refuse]
  case data =>
    intro q off data s1 s hright hopen hsome hmax hwithin hs1
    simp only [exec.eq_def, execLoadRulesData, loadData, hright, hopen, gt_iff_lt, hsome, Nat.not_lt.mpr hmax,
      Nat.not_lt.mpr hwithin, ← hs1, or_self, ne_eq, not_true_eq_false, Bool.not_true, Bool.false_eq_true, if_false,
      finish_mk]
  case endNoRight =>
    intro q persist norOk s hright
    simp only [exec.eq_def, execLoadRulesEnd, loadEnd, loadVerify_of_no_right hright, finish_refuse]
  case endNotOpen =>
    intro q persist norOk s hright hopen
    simp only [exec.eq_def, execLoadRulesEnd, loadEnd, loadVerify_of_not_open hright hopen, finish_refuse]
  case endBad =>
    intro q persist norOk s hright hopen hbad
    simp only [exec.eq_def, execLoadRulesEnd, loadEnd, loadVerify_of_bad hright hopen hbad, finish_refuse]
  case ends =>
    intro q norOk s1 s hright hopen hgood hs1
    simp only [exec.eq_def, execLoadRulesEnd, loadEnd, loadVerify_of_good hright hopen hgood, ← hs1, Bool.false_eq_true, if_false,
      finish_mk]
  case endPersisted =>
    intro q s1 s hright hopen hgood hfits hs1
    simp only [exec.eq_def, execLoadRulesEnd, loadEnd, loadVerify_of_good hright hopen hgood, hfits, ← hs1, Bool.and_self, if_true,
      finish_mk]
  case endFailed =>
    intro q norOk s hright hopen hgood hno
    have hfailed : (norOk && rulesFit s) = false := Bool.and_eq_false_iff.mpr hno
    simp only [exec.eq_def, execLoadRulesEnd, loadEnd, loadVerify_of_good hright hopen hgood, hfailed, Bool.false_eq_true, if_true,
      if_false, finish_refuse]
  case swapNoRight =>
    intro q t s hright
    simp only [exec.eq_def, execSwapRules, swapRules, hright, Bool.not_false, if_true, finish_refuse]
  case swapNotReady =>
    intro q t s hright hready
    simp only [exec.eq_def, execSwapRules, swapRules, hright, hready, ne_eq, not_false_eq_true, Bool.not_true, Bool.false_eq_true,
      if_true, if_false, finish_refuse]
  case swapMismatch =>
    intro q t s hright hready hlayout
    simp only [exec.eq_def, execSwapRules, swapRules, hright, hready, hlayout, ne_eq, not_true_eq_false, Bool.not_true,
      Bool.not_false, Bool.false_eq_true, if_true, if_false, finish_refuse]
  case swapLate =>
    intro q t s hright hready hlayout ht hlate
    simp only [exec.eq_def, execSwapRules, swapRules, hright, hready, hlayout, ht, hlate, ne_eq, not_true_eq_false,
      not_false_eq_true, and_self, Bool.not_true, Bool.false_eq_true, if_true, if_false, finish_refuse]
  case swapNow =>
    intro q s hright hready hlayout
    simp only [exec.eq_def, execSwapRules, swapRules, hright, hready, hlayout, ne_eq, not_true_eq_false, false_and, Bool.not_true,
      Bool.false_eq_true, if_true, if_false, finish_mk]
  case swapLater =>
    intro q t s hright hready hlayout ht hsoon
    simp only [exec.eq_def, execSwapRules, swapRules, hright, hready, hlayout, ht, Int.not_lt.mpr hsoon, ne_eq, not_true_eq_false,
      and_false, Bool.not_true, Bool.false_eq_true, if_false, finish_mk]
  case oldInstant =>
    intro s hold
    simp only [exec.eq_def, execRuleSwapExecute, hold, Bool.false_eq_true, if_false]
  case noSwap =>
    intro t s1 s ht hfresh hs1 hnone
    simp only [exec.eq_def, execRuleSwapExecute_of_fresh ht hfresh hs1, swapDue_of_none hnone]
  case notDue =>
    intro t s1 u s ht hfresh hs1 hsome hlater
    simp only [exec.eq_def, execRuleSwapExecute_of_fresh ht hfresh hs1, swapDue_of_later hsome hlater]
  case nowFits =>
    intro t s1 s ht hfresh hs1 hnow hfits
    simp only [exec.eq_def, execRuleSwapExecute_of_fresh ht hfresh hs1, swapDue_of_now hnow, hfits, if_true]
  case nowMismatch =>
    intro t s1 s ht hfresh hs1 hnow hfits
    simp only [exec.eq_def, execRuleSwapExecute_of_fresh ht hfresh hs1, swapDue_of_now hnow, hfits, Bool.false_eq_true, if_false]
  case dueFits =>
    intro t s1 u s ht hfresh hs1 hsome hreached hfits
    simp only [exec.eq_def, execRuleSwapExecute_of_fresh ht hfresh hs1, swapDue_of_reached hsome hreached, hfits, if_true]
  case dueMismatch =>
    intro t s1 u s ht hfresh hs1 hsome hreached hfits
    simp only [exec.eq_def, execRuleSwapExecute_of_fresh ht hfresh hs1, swapDue_of_reached hsome hreached, hfits,
      Bool.false_eq_true, if_false]

end Sys2Proof.Machine
end

section
/-! PROOFS. How faults are collected and safe states held (R307 to R331; O48). -/

namespace Sys2Proof.Machine

/-! ### CLEAR_SAFE -/

section
variable {s : State} {ep : Fin 8} {scope kind index : Nat} {key : BitVec 16}

theorem clearSafe_of_no_right (hright : mayClear s ep = false) : clearSafe s ep scope kind index key = refuse s rcNotAuthority := by
  simp only [clearSafe, hright, Bool.not_false, if_true]

theorem clearSafe_of_bad_key (hright : mayClear s ep = true) (hkey : key.toNat ≠ s.p 2 0x10 0 0x06) :
    clearSafe s ep scope kind index key = refuse ((s.orP 0x10 0 0x0F 8).raise (ident .fsc 7) 9 ep) rcBadKey := by
  simp only [clearSafe, hright, hkey, ne_eq, not_false_eq_true, Bool.not_true, Bool.false_eq_true, if_true, if_false]

section
variable (hright : mayClear s ep = true) (hkey : key.toNat = s.p 2 0x10 0 0x06)
include hright hkey

theorem clearSafe_of_no_scope (hscope : scope ≠ 3) (hnone : scopeRecord scope kind index = none) :
    clearSafe s ep scope kind index key = refuse s rcBadParam := by
  simp only [clearSafe, hright, hkey, hscope, hnone, ne_eq, not_true_eq_false, Bool.not_true, Bool.false_eq_true, if_false]

/-- A cause that stands, or a silent bank, keeps its record (R322). -/
theorem clearSafe_of_blocked {n : Nat} (hscope : scope ≠ 3) (hrecord : scopeRecord scope kind index = some n)
    (hblocked : (recBlocked s n (scopeBanks scope index) || (scopeBanks scope index).any (bankSilentFault s)) = true) :
    clearSafe s ep scope kind index key = {
      st := s.orP 0x10 0 0x0F 4, code := rcSafeActive
      payload := clearPayload 0 ((if recSet s n then 1 else 0) + ((scopeBanks scope index).filter (isAutonomous s)).length) } := by
  simp only [clearSafe, hright, hkey, hscope, hrecord, hblocked, ne_eq, not_true_eq_false, Bool.not_true, Bool.false_eq_true,
    if_true, if_false]

theorem clearSafe_of_free {n : Nat} (hscope : scope ≠ 3) (hrecord : scopeRecord scope kind index = some n)
    (hfree : (recBlocked s n (scopeBanks scope index) || (scopeBanks scope index).any (bankSilentFault s)) = false) :
    clearSafe s ep scope kind index key = s.doClear ep scope kind index (if recSet s n then [n] else [])
      ((scopeBanks scope index).filter (isAutonomous s)) 0 := by
  simp only [clearSafe, hright, hkey, hscope, hrecord, hfree, ne_eq, not_true_eq_false, Bool.not_true, Bool.false_eq_true,
    if_false]

/-- The whole device clears what can be cleared (R322). -/
theorem clearSafe_of_all {setRecs recs : List Nat} {autos banks : List (Fin 4)}
    (hset : setRecs = (List.range 33).filter (recSet s)) (hrecs : recs = setRecs.filter (fun n => !recBlocked s n allBanks))
    (hautos : autos = allBanks.filter (isAutonomous s)) (hbanks : banks = autos.filter (fun b => !bankSilentFault s b)) :
    clearSafe s ep 3 kind index key =
      s.doClear ep 3 kind index recs banks ((setRecs.length - recs.length) + (autos.length - banks.length)) := by
  have hall : scopeBanks 3 index = allBanks := rfl
  simp only [clearSafe, hright, hkey, hall, ← hset, ← hrecs, ← hautos, ← hbanks, ne_eq, not_true_eq_false, Bool.not_true,
    Bool.false_eq_true, if_true, if_false]

end

end

/-! ### LIVENESS -/

section
variable {s : State} {ep : Fin 8} {tag : Nat}

theorem liveness_of_no_right (hright : isAuthority s ep = false) : liveness s ep tag = refuse s rcNotAuthority := by
  simp only [liveness, hright, Bool.not_false, if_true]

theorem liveness_of_quiet (hright : isAuthority s ep = true) (hquiet : s.p 1 0x12 0 0x01 = 0 ∨ fromActive s ep tag = false) :
    liveness s ep tag = okRes s := by
  have hno : (decide (s.p 1 0x12 0 0x01 = 0) || !fromActive s ep tag) = true := by
    rcases hquiet with h | h
    · simp only [h, decide_true, Bool.true_or]
    · simp only [h, Bool.not_false, Bool.or_true]
  simp only [liveness, hright, hno, Bool.not_true, Bool.false_eq_true, if_true, if_false]

/-- The active sender arms the monitor, and a monitor that had expired ends its fault (R323). -/
theorem liveness_of_active (hright : isAuthority s ep = true) (henabled : s.p 1 0x12 0 0x01 ≠ 0)
    (hactive : fromActive s ep tag = true) :
    liveness s ep tag = okRes (((if s.firebreak.liveExpired then s.endFault (ident .fsc 6) 0 0 else s).modFb (fun f => { f with
      liveArmed := true, liveExpired := false, liveTimeout := s.p 2 0x12 0 0x02,
      liveSince := s.tb.mono })).setPCt 0x12 0 0x04 (now s)) := by
  simp only [liveness, hright, henabled, hactive, decide_false, Bool.not_true, Bool.or_self, Bool.false_eq_true, if_false]

end

/-! ### REHEARSE_REACTION -/

section
variable {s : State} {ep : Fin 8} {staged all : Bool} {kind id index : Nat}

theorem rehearse_of_no_right (hright : mayClear s ep = false) :
    rehearse s ep staged all kind id index = refuse s rcNotAuthority := by
  simp only [rehearse, hright, Bool.not_false, if_true]

theorem rehearse_of_bad (hright : mayClear s ep = true) (hbad : 384 ≤ id ∨
    (faultRow id).any (fun r => !r.kinds.contains kind || decide (kindCount kind ≤ index)) = true) :
    rehearse s ep staged false kind id index = refuse s rcBadParam := by
  have hno : (decide (id ≥ 384) || ((faultRow id).any (fun r => !r.kinds.contains kind || decide (kindCount kind ≤ index)))) =
      true := by
    simpa only [Bool.or_eq_true, decide_eq_true_eq] using hbad
  simp only [rehearse, hright, hno, Bool.not_true, Bool.not_false, Bool.true_and, Bool.false_eq_true, if_true, if_false]

/-- A rehearsal names all faults, or one that there is with an object of its kinds. -/
theorem rehearse_accepted (hok : all = true ∨ (id < 384 ∧
    (faultRow id).any (fun r => !r.kinds.contains kind || decide (kindCount kind ≤ index)) = false)) :
    (!all && (decide (id ≥ 384) || ((faultRow id).any (fun r => !r.kinds.contains kind || decide (kindCount kind ≤ index))))) =
      false := by
  rcases hok with rfl | ⟨hid, hobj⟩
  · rfl
  · simp only [hobj, ge_iff_le, Nat.not_le.mpr hid, decide_false, Bool.or_self, Bool.and_false]

end

/-- Settles O48: a raise, a check, a clear, a liveness and a rehearsal each have one case of the collector's state and the
sender. REMAINING of a refused CLEAR_SAFE, LIVENESS with the monitor disabled and BAD_PARAM of a rehearsal (log 29), and
CLEAR_REFUSED by SAFE_ACTIVE only (log 42), are the model's choices. -/
theorem faultsAreCollectedAndSafeStatesHeld : Obligations.FaultsAreCollectedAndSafeStatesHeld := by
  refine ⟨?noRaise, ?raised, ?ended, ?windows, ?refresh, ?noRefresh, ?selfGood, ?selfBad, ?safeInAlready, ?safeInDevice,
    ?safeInBanks, ?safeInOther, ?safeInRelease, ?safeInReleased, ?clearNoRight, ?clearBadKey, ?clearNoScope, ?clearBlocked,
    ?clears, ?clearsAll, ?autonomous, ?notAutonomous, ?liveNoRight, ?liveQuiet, ?liveArms, ?liveEnds, ?liveExpires,
    ?liveRuns, ?rehearseNoRight, ?rehearseBad, ?rehearses⟩
  case noRaise =>
    intro s hnone
    simp only [exec.eq_def, execFaultCollect, hnone]
  case raised =>
    intro r rest s hfirst hraise
    simp only [exec.eq_def, execFaultCollect, hfirst, State.collect, hraise, Bool.false_eq_true, if_false]
  case ended =>
    intro r rest s hfirst hend
    simp only [exec.eq_def, execFaultCollect, hfirst, State.collect, hend, if_true]
  case windows =>
    intro gone s hgone
    simp only [exec.eq_def, execFaultWindowExpiry, ← hgone]
  case refresh =>
    intro s hdue
    simp only [exec.eq_def, execSafeRefresh, hdue, if_true]
  case noRefresh =>
    intro s hnot
    simp only [exec.eq_def, execSafeRefresh, hnot, Bool.false_eq_true, if_false]
  case selfGood =>
    intro s
    simp only [exec.eq_def, execSelfProtectionCheck, Bool.false_eq_true, if_false]
  case selfBad =>
    intro s1 s hs1
    simp only [exec.eq_def, execSelfProtectionCheck, ← hs1, if_true]
  case safeInAlready =>
    intro s hon
    simp only [exec.eq_def, execSafeInAssertion, hon, if_true]
  case safeInDevice =>
    intro s1 s hoff hmode hs1
    simp only [exec.eq_def, execSafeInAssertion, hoff, hmode, ← hs1, Bool.false_eq_true, if_true, if_false]
  case safeInBanks =>
    intro s1 s hoff hmode hs1
    simp only [exec.eq_def, execSafeInAssertion, hoff, hmode, ← hs1, Bool.false_eq_true, Nat.reduceEqDiff, if_true, if_false]
  case safeInOther =>
    intro s1 s hoff hnotDevice hnotBanks hs1
    simp only [exec.eq_def, execSafeInAssertion, hoff, hnotDevice, hnotBanks, ← hs1, Bool.false_eq_true, if_false]
  case safeInRelease =>
    intro s hon
    simp only [exec.eq_def, execSafeInRelease, hon, if_true]
  case safeInReleased =>
    intro s hoff
    simp only [exec.eq_def, execSafeInRelease, hoff, Bool.false_eq_true, if_false]
  case clearNoRight =>
    intro q scope kind index key s1 s hs1 hright
    simp only [exec.eq_def, execClearSafe, ← hs1, clearSafe_of_no_right hright, finish_refuse]
  case clearBadKey =>
    intro q scope kind index key s1 s hs1 hright hkey
    simp only [exec.eq_def, execClearSafe, ← hs1, clearSafe_of_bad_key hright hkey, finish_refuse]
  case clearNoScope =>
    intro q scope kind index key s1 s hs1 hright hkey hscope hnone
    simp only [exec.eq_def, execClearSafe, ← hs1, clearSafe_of_no_scope hright hkey hscope hnone, finish_refuse]
  case clearBlocked =>
    intro q scope kind index key n s1 s hs1 hright hkey hscope hrecord hblocked
    simp only [exec.eq_def, execClearSafe, ← hs1, clearSafe_of_blocked hright hkey hscope hrecord hblocked, finish_mk]
  case clears =>
    intro q scope kind index key n s1 s hs1 hright hkey hscope hrecord hfree
    simp only [exec.eq_def, execClearSafe, ← hs1, clearSafe_of_free hright hkey hscope hrecord hfree]
  case clearsAll =>
    intro q kind index key setRecs recs autos banks s1 s hs1 hright hkey hset hrecs hautos hbanks
    simp only [exec.eq_def, execClearSafe, ← hs1, clearSafe_of_all hright hkey hset hrecs hautos hbanks]
  case autonomous =>
    intro b s hauton hready hasked
    simp only [exec.eq_def, execClearAutonomousSend, hauton, hready, hasked, and_self, if_true]
  case notAutonomous =>
    intro b s hno
    have hnot : ¬(isAutonomous s b = true ∧ clearReady s b = true ∧
        (s.firebreak.clearPending[b] = true ∨ s.pAt 1 0x10 0 0x04 b = 1)) := by
      rintro ⟨hauton, hready, hasked⟩
      rcases hno with hrank | hwaits | ⟨hpending, hmanual⟩
      · exact Bool.false_ne_true (hrank.symm.trans hauton)
      · exact Bool.false_ne_true (hwaits.symm.trans hready)
      · exact hasked.elim (fun h => Bool.false_ne_true (hpending.symm.trans h)) hmanual
    simp only [exec.eq_def, execClearAutonomousSend, hnot, if_false]
  case liveNoRight =>
    intro q s hright
    simp only [exec.eq_def, execLiveness, liveness_of_no_right hright, finish_refuse]
  case liveQuiet =>
    intro q s hright hquiet
    simp only [exec.eq_def, execLiveness, liveness_of_quiet hright hquiet, finish_okRes]
  case liveArms =>
    intro q s hright henabled hactive hruns
    simp only [exec.eq_def, execLiveness, liveness_of_active hright henabled hactive, hruns, Bool.false_eq_true, if_false,
      finish_okRes]
  case liveEnds =>
    intro q s1 s hright henabled hactive hexpired hs1
    simp only [exec.eq_def, execLiveness, liveness_of_active hright henabled hactive, hexpired, ← hs1, if_true, finish_okRes]
  case liveExpires =>
    intro s harmed hruns hover
    simp only [exec.eq_def, execLivenessTimeout, harmed, hruns, hover, and_self, if_true]
  case liveRuns =>
    intro s hno
    have hnot : ¬(s.firebreak.liveArmed = true ∧ s.firebreak.liveExpired = false ∧
        elapsed s s.firebreak.liveSince (s.firebreak.liveTimeout * 980000) = true) := by
      rintro ⟨harmed, hruns, hover⟩
      rcases hno with hidle | hexpired | hbefore
      · exact Bool.false_ne_true (hidle.symm.trans harmed)
      · exact Bool.false_ne_true (hruns.symm.trans hexpired)
      · exact Bool.false_ne_true (hbefore.symm.trans hover)
    simp only [exec.eq_def, execLivenessTimeout, hnot, if_false]
  case rehearseNoRight =>
    intro q staged all kind id index s hright
    simp only [exec.eq_def, execRehearseReaction, rehearse_of_no_right hright, finish_refuse]
  case rehearseBad =>
    intro q staged kind id index s hright hbad
    simp only [exec.eq_def, execRehearseReaction, rehearse_of_bad hright hbad, finish_refuse]
  case rehearses =>
    intro q staged all kind id index byte cases_ bytes s1 s hright hok hbyte hcases hs1 hbytes
    simp only [exec.eq_def, execRehearseReaction, rehearse, hright, rehearse_accepted hok, Bool.not_true, Bool.false_eq_true,
      if_false, finish_mk, hs1, hbytes, hcases, hbyte]

end Sys2Proof.Machine
end

section
/-! PROOFS. What the commands of the host serial link reply (R341 to R352, R389, R409; O49). -/

namespace Sys2Proof.Machine

/-! ### The reply of a command -/

section
variable {s : State} {cmd : Byte}

/-- A reply without a payload carries its code, whatever it is (R341). -/
theorem answer_code (st : State) (code : BitVec 16) :
    ({ st := st, code := code, payload := [] } : CmdRes).answer cmd =
      st.hslReply cmd { rcmd := cmd, result := code, payload := [] } := by
  simp only [CmdRes.answer, replyFor, ite_self]

theorem answer_payload (st : State) (payload : List Byte) :
    ({ st := st, code := 0, payload := payload } : CmdRes).answer cmd =
      st.hslReply cmd { rcmd := cmd, result := 0, payload := payload } := by
  simp only [CmdRes.answer, replyFor, if_true]

theorem answer_okRes : (okRes s).answer cmd = s.hslReply cmd { rcmd := cmd, result := 0, payload := [] } := by
  simp only [okRes, answer_code]

theorem answer_refuse (code : BitVec 16) :
    (refuse s code).answer cmd = s.hslReply cmd { rcmd := cmd, result := code, payload := [] } := by
  simp only [refuse, answer_code]

theorem whenReady_of_open {r : CmdRes} (h : (s.mbx.eps[(0 : Fin 8)]).opened = true) : whenReady s r = r := by
  simp only [whenReady, h, if_true]

theorem whenReady_of_closed {r : CmdRes} (h : (s.mbx.eps[(0 : Fin 8)]).opened = false) : whenReady s r = refuse s rcLocked := by
  simp only [whenReady, h, Bool.false_eq_true, if_false]

end

/-! ### Register writes and latches -/

/-- A register that the link may not write takes no write (R13, R389). -/
theorem writeRegister_of_not_writable {s : State} {a : Nat} {v : Word} (h : hslWritable a = false) : s.writeRegister a v = s := by
  have hnone : ∀ x ∈ ([0x0800, 0x080C, 0x0814, 0x0818, 0x081C, 0x0824, 0x0C30, 0x0C48, 0x1800, 0x1804, 0x1808, 0x180C] :
      List Nat), a ≠ x := by
    intro x hx hax
    rw [hslWritable, hax, List.contains_iff_mem.mpr hx] at h
    exact Bool.noConfusion h
  simp only [List.forall_mem_cons, List.not_mem_nil, false_imp_iff, implies_true, and_true] at hnone
  obtain ⟨h1, h2, h3, h4, h5, h6, h7, h8, h9, h10, h11, h12⟩ := hnone
  simp only [State.writeRegister, h1, h2, h3, h4, h5, h6, h7, h8, h9, h10, h11, h12, or_self, if_false]

/-- The four addresses of the watchdog are no registers of the link (R336). -/
theorem writeRegister_of_watchdog {s : State} {a : Nat} {v : Word}
    (h : a = 0x1800 ∨ a = 0x1804 ∨ a = 0x1808 ∨ a = 0x180C) : s.writeRegister a v = s.privViolation := by
  rcases h with rfl | rfl | rfl | rfl <;> rfl

section
variable {s : State} {hsl : Bool} {a : Nat}

theorem latchGroup_of_single (h : s.tb.latches.find? (latchHolds hsl a) = none) (hn : latchCount a = 0) :
    s.latchGroup hsl a = s := by
  simp only [State.latchGroup, h, hn, if_true]

theorem latchGroup_of_wider {n : Nat} (h : s.tb.latches.find? (latchHolds hsl a) = none) (hn : latchCount a = n)
    (hpos : n ≠ 0) :
    s.latchGroup hsl a = s.modTb (fun t => { t with
      latches := t.latches.filter (fun l => !(l.1 == hsl && decide (a ≤ l.2.1) && decide (l.2.1 ≤ a + 4 * n))) ++
        [(hsl, a, (List.range n).map (fun i => regNow s (a + 4 * (i + 1))))] }) := by
  simp only [State.latchGroup, h, hn, hpos, if_false]

theorem latchGroup_of_held {l : Bool × Nat × List Word} (h : s.tb.latches.find? (latchHolds hsl a) = some l) :
    s.latchGroup hsl a = if countWord a then s.modTb (fun t => { t with
      latches := t.latches.map (fun x => if x = l then (hsl, a, l.2.2.drop ((a - l.2.1) / 4)) else x) }) else s := by
  simp only [State.latchGroup, h]

end

/-- Settles O49: each command of the link is one case of its arguments, of endpoint 0 and of the buffer it names. What
REPEAT answers with nothing offered is the model's reading (log 13). -/
theorem hostLinkCommandsReply : Obligations.HostLinkCommandsReply := by
  refine ⟨?nop, ?read, ?readBad, ?writeLocked, ?writeBad, ?writeReadOnly, ?write, ?readBufBad, ?readBufNotHeld, ?readBuf,
    ?writeBufLocked, ?writeBufBad, ?writeBufNotHeld, ?writeBuf, ?wordLocked, ?word, ?bellLocked, ?bell, ?identOpen,
    ?identClosed, ?repeated, ?nothingOffered, ?registers, ?watchdog, ?notWritable, ?single, ?wider, ?held, ?count⟩
  case nop =>
    intro s
    simp only [exec.eq_def, execNop, State.runNop, answer_okRes]
  case read =>
    intro addr count ws s1 s halign hsome hmax hreads
    simp only [exec.eq_def, execReadReg, State.runReadReg, hslReadReg, halign, hsome, Nat.not_lt.mpr hmax, hreads, ne_eq,
      not_true_eq_false, or_self, if_false, answer_payload]
  case readBad =>
    intro addr count s hbad
    simp only [exec.eq_def, execReadReg, State.runReadReg, hslReadReg, hbad, if_true, answer_refuse]
  case writeLocked =>
    intro addr data s hclosed
    simp only [exec.eq_def, execWriteReg, State.runWriteReg, whenReady_of_closed hclosed, answer_refuse]
  case writeBad =>
    intro addr data s hopen hbad
    simp only [exec.eq_def, execWriteReg, State.runWriteReg, whenReady_of_open hopen, hslWriteReg, hbad, if_true, answer_refuse]
  case writeReadOnly =>
    intro addr data s hopen halign hsome hmax hro
    simp only [exec.eq_def, execWriteReg, State.runWriteReg, whenReady_of_open hopen, hslWriteReg, halign, hsome,
      Nat.not_lt.mpr hmax, hro, ne_eq, not_true_eq_false, or_self, if_true, if_false, answer_refuse]
  case write =>
    intro addr data s hopen halign hsome hmax hok
    simp only [exec.eq_def, execWriteReg, State.runWriteReg, whenReady_of_open hopen, hslWriteReg, halign, hsome,
      Nat.not_lt.mpr hmax, hok, ne_eq, not_true_eq_false, or_self, Bool.false_eq_true, if_false, answer_okRes]
  case readBufBad =>
    intro buf off len s hbad
    simp only [exec.eq_def, execReadBuf, State.runReadBuf, hslReadBuf, hbad, if_true, answer_refuse]
  case readBufNotHeld =>
    intro buf off len s hsome hmax hend hfree
    simp only [exec.eq_def, execReadBuf, State.runReadBuf, hslReadBuf, hsome, Nat.not_lt.mpr hmax, Nat.not_lt.mpr hend, hfree,
      or_self, Bool.false_eq_true, if_false, answer_refuse]
  case readBuf =>
    intro buf off len s hsome hmax hend hheld
    simp only [exec.eq_def, execReadBuf, State.runReadBuf, hslReadBuf, hsome, Nat.not_lt.mpr hmax, Nat.not_lt.mpr hend, hheld,
      or_self, if_true, if_false, answer_payload]
  case writeBufLocked =>
    intro buf off data s hclosed
    simp only [exec.eq_def, execWriteBuf, State.runWriteBuf, whenReady_of_closed hclosed, answer_refuse]
  case writeBufBad =>
    intro buf off data s hopen hbad
    simp only [exec.eq_def, execWriteBuf, State.runWriteBuf, whenReady_of_open hopen, hslWriteBuf, hbad, if_true, answer_refuse]
  case writeBufNotHeld =>
    intro buf off data s hopen hsome hmax hend hfree
    simp only [exec.eq_def, execWriteBuf, State.runWriteBuf, whenReady_of_open hopen, hslWriteBuf, hsome, Nat.not_lt.mpr hmax,
      Nat.not_lt.mpr hend, hfree, or_self, Bool.false_eq_true, if_false, answer_refuse]
  case writeBuf =>
    intro buf off data s hopen hsome hmax hend hheld
    simp only [exec.eq_def, execWriteBuf, State.runWriteBuf, whenReady_of_open hopen, hslWriteBuf, hsome, Nat.not_lt.mpr hmax,
      Nat.not_lt.mpr hend, hheld, or_self, if_true, if_false, answer_okRes]
  case wordLocked =>
    intro w s hclosed
    simp only [exec.eq_def, execWord, State.runWord, whenReady_of_closed hclosed, answer_refuse]
  case word =>
    intro w code s1 s hopen hpost
    simp only [exec.eq_def, execWord, State.runWord, whenReady_of_open hopen, hslWord, hpost, answer_code]
  case bellLocked =>
    intro clear ring s hclosed
    simp only [exec.eq_def, execDoorbell, State.runDoorbell, whenReady_of_closed hclosed, answer_refuse]
  case bell =>
    intro clear ring s1 s hopen hs1
    simp only [exec.eq_def, execDoorbell, State.runDoorbell, whenReady_of_open hopen, hslDoorbell, ← hs1, answer_payload]
  case identOpen =>
    intro s hopen
    simp only [exec.eq_def, execIdent, State.runIdent, hslIdent, hopen, if_true, answer_payload]
  case identClosed =>
    intro s hclosed
    simp only [exec.eq_def, execIdent, State.runIdent, hslIdent, hclosed, Bool.false_eq_true, if_false, answer_payload]
  case repeated =>
    intro r s hoffered
    simp only [exec.eq_def, execRepeatReply, State.runRepeat, repeatedReply, hoffered, Option.getD_some]
  case nothingOffered =>
    intro s hnone
    simp only [exec.eq_def, execRepeatReply, State.runRepeat, repeatedReply, hnone, Option.getD_none]
  case registers =>
    intro v s
    refine ⟨?_, ?_, ?_, ?_, ?_, ?_, ?_, ?_⟩ <;>
      simp only [exec.eq_def, execRegisterWrite, State.writeRegister, Nat.reduceEqDiff, if_true, if_false]
  case watchdog =>
    intro addr v s haddr
    simp only [exec.eq_def, execRegisterWrite, writeRegister_of_watchdog haddr]
  case notWritable =>
    intro addr v s hno
    simp only [exec.eq_def, execRegisterWrite, writeRegister_of_not_writable hno]
  case single =>
    intro hsl addr s hfree hcount
    simp only [exec.eq_def, execLatchedRegisterRead, State.regRead, latchGroup_of_single hfree hcount]
  case wider =>
    intro hsl addr n s hfree hcount hpos
    simp only [exec.eq_def, execLatchedRegisterRead, State.regRead, latchGroup_of_wider hfree hcount hpos]
  case held =>
    intro hsl addr l s hheld hother
    simp only [exec.eq_def, execLatchedRegisterRead, State.regRead, latchGroup_of_held hheld, hother, Bool.false_eq_true, if_false]
  case count =>
    intro hsl addr l s hheld hcount
    simp only [exec.eq_def, execLatchedRegisterRead, State.regRead, latchGroup_of_held hheld, hcount, if_true]

end Sys2Proof.Machine
end

section
/-! PROOFS. How frames of the host serial link are taken (R342 to R355; O50). -/

namespace Sys2Proof.Machine

/-- Settles O50: a frame starts, ends or times out by its state alone, and a silent host is noticed once. A null or BUSY
frame that FRAME_TIMEOUT ends (log 13), and no answer in a reset, BUSY within 1.5 µs and the time counted from the fall of
HSL_CS_N (log 42), are the model's choices. -/
theorem hostLinkFramesAreTaken : Obligations.HostLinkFramesAreTaken := by
  refine ⟨?noStart, ?start, ?noFrame, ?closed, ?executed, ?busyEnd, ?noTimeout, ?emptyTimeout, ?timeout, ?busyTimeout,
    ?noGood, ?silent, ?notSilent⟩
  case noStart =>
    intro busy s hno
    have hstays : s.hsl.inFrame = true ∨ s.sup.reset.isSome = true :=
      hno.imp_right Option.isSome_iff_ne_none.mpr
    simp only [exec.eq_def, execHslFrameStart, hstays, if_true]
  case start =>
    intro busy v s hidle hreset hv
    simp only [exec.eq_def, execHslFrameStart, hidle, hreset, ← hv, Option.isSome_none, Bool.false_eq_true, or_self, if_false]
  case noFrame =>
    intro bytes s hidle
    simp only [exec.eq_def, execHslFrameEnd, hidle, Bool.not_false, if_true]
  case closed =>
    intro bytes s hframe hnothing
    simp only [exec.eq_def, execHslFrameEnd, hframe, hnothing, Bool.not_true, Bool.false_eq_true, if_true, if_false]
  case executed =>
    intro bytes s1 s hframe hopen hbytes hready hs1
    simp only [exec.eq_def, execHslFrameEnd, hframe, hopen, hbytes, hready, ← hs1, Bool.not_true, Bool.false_eq_true, or_self,
      if_false]
  case busyEnd =>
    intro bytes s1 s hframe hopen hbytes hbusy hs1
    simp only [exec.eq_def, execHslFrameEnd, hframe, hopen, hbytes, hbusy, ← hs1, Bool.not_true, Bool.false_eq_true, or_self,
      if_true, if_false]
  case noTimeout =>
    rintro first s (hidle | hended | hbefore)
    · simp only [exec.eq_def, execFrameTimeout, hidle, Bool.not_false, true_or, if_true]
    · simp only [exec.eq_def, execFrameTimeout, hended, true_or, or_true, if_true]
    · simp only [exec.eq_def, execFrameTimeout, hbefore, Bool.not_false, or_true, if_true]
  case emptyTimeout =>
    intro s hframe hopen hover
    simp only [exec.eq_def, execFrameTimeout, hframe, hopen, hover, Bool.not_true, Bool.false_eq_true, or_self, if_false]
  case timeout =>
    intro c s1 s hframe hopen hover hready hs1
    simp only [exec.eq_def, execFrameTimeout, hframe, hopen, hover, hready, ← hs1, Bool.not_true, Bool.false_eq_true, or_self,
      if_false]
  case busyTimeout =>
    intro c s1 s hframe hopen hover hbusy hs1
    simp only [exec.eq_def, execFrameTimeout, hframe, hopen, hover, hbusy, ← hs1, Bool.not_true, Bool.false_eq_true, or_self,
      if_true, if_false]
  case noGood =>
    intro s hnone
    simp only [exec.eq_def, execHostTimeout, hnone]
  case silent =>
    intro since s hsince henabled hheard hover
    simp only [exec.eq_def, execHostTimeout, hsince, henabled, hheard, hover, ne_eq, not_false_eq_true, and_self, if_true]
  case notSilent =>
    rintro since s hsince (hdisabled | hsilent | hbefore)
    · simp only [exec.eq_def, execHostTimeout, hsince, hdisabled, ne_eq, not_true_eq_false, false_and, if_false]
    · simp only [exec.eq_def, execHostTimeout, hsince, hsilent, Bool.true_eq_false, false_and, and_false, if_false]
    · simp only [exec.eq_def, execHostTimeout, hsince, hbefore, Bool.false_eq_true, and_false, if_false]

end Sys2Proof.Machine
end

section
/-! PROOFS. How the mailbox serves its commands (R365 to R383; O51). -/

namespace Sys2Proof.Machine

/-! ### NEGOTIATE -/

section
variable {s : State} {q : Req} {major minor : Nat}

theorem negotiated_of_unknown (h : versionFor q.ep major minor = none) :
    s.negotiated q major minor = s.finish q opNegotiate rcVersion [] := by
  simp only [State.negotiated, negotiate, h, finish_refuse]

section
variable {v : Nat × Nat} (hv : versionFor q.ep major minor = some v)
include hv

theorem negotiated_of_busy (h : (s.mbx.eps[q.ep]).outstanding.any (fun o => o.tag != q.tag) = true) :
    s.negotiated q major minor = s.finish q opNegotiate rcLocked [] := by
  simp only [State.negotiated, negotiate, hv, h, if_true, finish_refuse]

/-- Major 1 is kept once negotiated (R380). -/
theorem negotiated_of_major_one (h : (s.mbx.eps[q.ep]).outstanding.any (fun o => o.tag != q.tag) = false)
    (hone : (s.mbx.eps[q.ep]).major = 1) :
    s.negotiated q major minor = s.finish q opNegotiate 0 [BitVec.ofNat 8 (s.mbx.eps[q.ep]).major,
      BitVec.ofNat 8 (s.mbx.eps[q.ep]).minor, 0, 0] := by
  simp only [State.negotiated, negotiate, hv, h, hone, Bool.false_eq_true, if_true, if_false, finish_mk]

theorem negotiated_of_free (h : (s.mbx.eps[q.ep]).outstanding.any (fun o => o.tag != q.tag) = false)
    (hother : (s.mbx.eps[q.ep]).major ≠ 1) :
    s.negotiated q major minor = (s.finish q opNegotiate 0 [BitVec.ofNat 8 v.1, BitVec.ofNat 8 v.2, 0, 0]).modEp q.ep
      (fun p => { p with major := v.1, minor := v.2 }) := by
  simp only [State.negotiated, negotiate, hv, h, hother, Bool.false_eq_true, if_false, finish_mk]

end

end

/-! ### The result of a long command -/

section
variable {s : State} {j : LongRun} {ok : Bool}

theorem longResult_of_other (hread : j.opcode ≠ opJournalRead) (hdata : j.opcode ≠ opFwData) (hend : j.opcode ≠ opFwEnd)
    (hrules : j.opcode ≠ opLoadRules) : longResult s j ok = { st := s, code := j.result, payload := j.payload } := by
  simp only [longResult, hread, hdata, hend, hrules, if_false]

theorem longResult_of_read {c : Word} (hread : j.opcode = opJournalRead) (hcursor : j.cursor = some c) :
    longResult s j true = { st := s.setP 4 0x13 (fin8 j.ep) 0x12 c.toNat, code := j.result, payload := j.payload } := by
  simp only [longResult, hread, hcursor, if_true]

theorem longResult_of_read_no_cursor (hread : j.opcode = opJournalRead) (hcursor : j.cursor = none) :
    longResult s j true = { st := s, code := j.result, payload := j.payload } := by
  simp only [longResult, hread, hcursor, if_true]

theorem longResult_of_read_failed (hread : j.opcode = opJournalRead) :
    longResult s j false = refuse s rcMemoryFailure := by
  simp only [longResult, hread, Bool.false_eq_true, if_true, if_false]

theorem opFwData_ne_read : opFwData ≠ opJournalRead := by decide

theorem opFwEnd_ne : opFwEnd ≠ opJournalRead ∧ opFwEnd ≠ opFwData := by decide

theorem opLoadRules_ne : opLoadRules ≠ opJournalRead ∧ opLoadRules ≠ opFwData ∧ opLoadRules ≠ opFwEnd := by decide

theorem longResult_of_data (hdata : j.opcode = opFwData) :
    longResult s j true = { st := s, code := j.result, payload := j.payload } := by
  simp only [longResult, hdata, opFwData_ne_read, if_true, if_false]

/-- A block that could not be programmed ends the session (R565). -/
theorem longResult_of_data_failed (hdata : j.opcode = opFwData) :
    longResult s j false = refuse { (s.failRange j.region.1 j.region.2).norFailed with
      sup := { (s.failRange j.region.1 j.region.2).norFailed.sup with session := none } } rcMemoryFailure := by
  simp only [longResult, hdata, opFwData_ne_read, Bool.false_eq_true, if_true, if_false]

theorem longResult_of_end {f : FwSession} (hend : j.opcode = opFwEnd) (hsession : s.sup.session = some f) :
    longResult s j ok = fwPrefer s f ok := by
  obtain ⟨hread, hdata⟩ := opFwEnd_ne
  simp only [longResult, hend, hread, hdata, hsession, if_true, if_false]

theorem longResult_of_end_no_session (hend : j.opcode = opFwEnd) (hsession : s.sup.session = none) :
    longResult s j ok = { st := s, code := j.result, payload := j.payload } := by
  obtain ⟨hread, hdata⟩ := opFwEnd_ne
  simp only [longResult, hend, hread, hdata, hsession, if_true, if_false]

theorem longResult_of_rules (hrules : j.opcode = opLoadRules) (hfits : rulesFit s = true) :
    longResult s j true = { st := s.persistRules, code := 0, payload := loadPayload s.persistRules true } := by
  obtain ⟨hread, hdata, hend⟩ := opLoadRules_ne
  simp only [longResult, hrules, hread, hdata, hend, hfits, Bool.and_self, if_true, if_false]

theorem longResult_of_rules_failed (hrules : j.opcode = opLoadRules) (hfailed : (ok && rulesFit s) = false) :
    longResult s j ok = refuse s.rulesFailed rcMemoryFailure := by
  obtain ⟨hread, hdata, hend⟩ := opLoadRules_ne
  simp only [longResult, hrules, hread, hdata, hend, hfailed, Bool.false_eq_true, if_true, if_false]

end

/-- Settles O51: a command is taken up, aborted, negotiated or ended by what its endpoint holds open. The order VERSION,
LOCKED, then major 1 kept, and ABORT that completes at once, are the model's choices (log 11). -/
theorem theMailboxServesItsCommands : Obligations.TheMailboxServesItsCommands := by
  refine ⟨?noCommand, ?tagClosed, ?taken, ?ping, ?pingBad, ?abortBad, ?abort, ?noAbort, ?abortWaits, ?abortDone, ?unknown,
    ?busy, ?majorOne, ?negotiated, ?pop, ?popOther, ?popNone, ?claim, ?claimNone, ?release, ?releaseOther, ?clear, ?noLong,
    ?longOther, ?read, ?readNoCursor, ?readFailed, ?data, ?dataFailed, ?fwEnd, ?fwEndGone, ?rules, ?rulesFailed⟩
  case noCommand =>
    intro s0 s hs0 hnone
    simp only [exec.eq_def, execCommandTakeUp, ← hs0, State.takeCommand, hnone]
  case tagClosed =>
    intro e tag rest s0 s hs0 hfirst hclosed
    simp only [exec.eq_def, execCommandTakeUp, ← hs0, State.takeCommand, hfirst, hclosed]
  case taken =>
    intro e tag rest o s0 s1 s hs0 hfirst hopen hs1
    simp only [exec.eq_def, execCommandTakeUp, ← hs0, State.takeCommand, hfirst, hopen, ← hs1]
  case ping =>
    intro q data s hlen
    simp only [exec.eq_def, execPing, ping, Nat.not_lt.mpr hlen, if_false, finish_mk]
  case pingBad =>
    intro q data s hlen
    simp only [exec.eq_def, execPing, ping, hlen, if_true, finish_refuse]
  case abortBad =>
    intro q tag s hlarge hnotAll
    simp only [exec.eq_def, execAbort, abortCmd, hlarge, hnotAll, ne_eq, not_false_eq_true, and_self, if_true, finish_refuse]
  case abort =>
    intro q tag s1 n s htag haborted
    have hok : ¬(31 < tag ∧ tag ≠ 0xFF) := by omega
    simp only [exec.eq_def, execAbort, abortCmd, hok, haborted, if_false, finish_mk]
  case noAbort =>
    intro ep s hnone
    simp only [exec.eq_def, execAbortDone, State.abortDone, hnone]
  case abortWaits =>
    intro ep tags s haborting hatWork
    simp only [exec.eq_def, execAbortDone, State.abortDone, haborting, hatWork, if_true]
  case abortDone =>
    intro ep tags s haborting hdone
    simp only [exec.eq_def, execAbortDone, State.abortDone, haborting, hdone, Bool.false_eq_true, if_false]
  case unknown =>
    intro q major minor s hv
    simp only [exec.eq_def, execNegotiate, negotiated_of_unknown hv]
  case busy =>
    intro q major minor v s hv hopen
    simp only [exec.eq_def, execNegotiate, negotiated_of_busy hv hopen]
  case majorOne =>
    intro q major minor v s hv hfree hone
    simp only [exec.eq_def, execNegotiate, negotiated_of_major_one hv hfree hone]
  case negotiated =>
    intro q major minor v s hv hfree hother
    simp only [exec.eq_def, execNegotiate, negotiated_of_free hv hfree hother]
  case pop =>
    intro tag c rest s hfirst htag
    simp only [exec.eq_def, execMbxAckPop, State.ackPop, hfirst, htag, if_true]
  case popOther =>
    intro tag c rest s hfirst htag
    simp only [exec.eq_def, execMbxAckPop, State.ackPop, hfirst, htag, if_false]
  case popNone =>
    intro tag s hnone
    simp only [exec.eq_def, execMbxAckPop, State.ackPop, hnone]
  case claim =>
    intro k s hgranted
    simp only [exec.eq_def, execMbxClaim, State.claim, hgranted, Fin.val_zero]
  case claimNone =>
    intro s hnone
    simp only [exec.eq_def, execMbxClaim, State.claim, hnone, Fin.val_zero]
  case release =>
    intro buf s hheld
    simp only [exec.eq_def, execMbxRelease, State.releaseBuf, hheld, if_true]
  case releaseOther =>
    intro buf s hfree
    simp only [exec.eq_def, execMbxRelease, State.releaseBuf, hfree, Bool.false_eq_true, if_false]
  case clear =>
    intro ep mask s
    simp only [exec.eq_def, execMbxH2dClear, State.clearUserIn]
  case noLong =>
    intro ep tag ok s hnone
    simp only [exec.eq_def, execLongCommandComplete, hnone]
  case longOther =>
    intro ep tag j s1 ok s hfound hs1 hread hdata hend hrules
    simp only [exec.eq_def, execLongCommandComplete, hfound, ← hs1, longResult_of_other hread hdata hend hrules, finish_mk]
  case read =>
    intro ep tag j s1 c s hfound hs1 hread hcursor
    simp only [exec.eq_def, execLongCommandComplete, hfound, ← hs1, longResult_of_read hread hcursor, finish_mk]
  case readNoCursor =>
    intro ep tag j s1 s hfound hs1 hread hcursor
    simp only [exec.eq_def, execLongCommandComplete, hfound, ← hs1, longResult_of_read_no_cursor hread hcursor, finish_mk]
  case readFailed =>
    intro ep tag j s1 s hfound hs1 hread
    simp only [exec.eq_def, execLongCommandComplete, hfound, ← hs1, longResult_of_read_failed hread, finish_refuse]
  case data =>
    intro ep tag j s1 s hfound hs1 hdata
    simp only [exec.eq_def, execLongCommandComplete, hfound, ← hs1, longResult_of_data hdata, finish_mk]
  case dataFailed =>
    intro ep tag j s1 s hfound hs1 hdata
    simp only [exec.eq_def, execLongCommandComplete, hfound, ← hs1, longResult_of_data_failed hdata, finish_refuse]
  case fwEnd =>
    intro ep tag j s1 ok f s hfound hs1 hend hsession
    have hstill : s1.sup.session = some f := by rw [hs1]; exact hsession
    simp only [exec.eq_def, execLongCommandComplete, hfound, ← hs1, longResult_of_end hend hstill]
  case fwEndGone =>
    intro ep tag j s1 ok s hfound hs1 hend hsession
    have hstill : s1.sup.session = none := by rw [hs1]; exact hsession
    simp only [exec.eq_def, execLongCommandComplete, hfound, ← hs1, longResult_of_end_no_session hend hstill, finish_mk]
  case rules =>
    intro ep tag j s1 s hfound hs1 hrules hfits
    simp only [exec.eq_def, execLongCommandComplete, hfound, ← hs1, longResult_of_rules hrules hfits, finish_mk]
  case rulesFailed =>
    intro ep tag j s1 ok s hfound hs1 hrules hfailed
    simp only [exec.eq_def, execLongCommandComplete, hfound, ← hs1, longResult_of_rules_failed hrules hfailed, finish_refuse]

end Sys2Proof.Machine
end

section
/-! PROOFS. What the four parameter commands answer (R383, R395 to R397, R413; O52). -/

namespace Sys2Proof.Machine

theorem getParamCmd_of_no_row {s : State} {i : Nat} (hrow : indexRow i = none) : getParamCmd s i = refuse s rcBadParam := by
  simp only [getParamCmd, hrow]

/-! ### SET_PARAM by access code -/

theorem setParamCmd_of_bad_length {s : State} {ep : Fin 8} {i : Nat} {v : List Byte} (h : v.length = 0 ∨ 64 < v.length) :
    setParamCmd s ep i v = refuse s rcBadParam := by
  simp only [setParamCmd, h, if_true]

section
variable {s : State} {ep : Fin 8} {i : Nat} {v : List Byte} {r : AttrRow} (hpos : 0 < v.length) (hmax : v.length ≤ 64)
  (hright : mayWrite s ep i v = true) (hrow : indexRow i = some r)
  (hwrite : writable (indexParts i).1 (indexParts i).2.1 r = true) (hsize : v.length = r.size)
include hpos hmax hright hrow hwrite hsize

theorem setParamCmd_of_w1c (hw1c : r.access = .w1c) :
    setParamCmd s ep i v = okRes (s.clearAttr (indexParts i).1 (indexParts i).2.1 r v) := by
  have hlen : ¬(v.length = 0 ∨ 64 < v.length) := by omega
  have hfits : ¬(64 < r.size ∨ v.length ≠ r.size) := by omega
  simp only [setParamCmd, hlen, hright, hrow, hwrite, hfits, hw1c, if_false, Bool.not_true, Bool.false_eq_true]

theorem setParamCmd_of_now (hnow : r.access = .rw ∨ r.access = .wo) :
    setParamCmd s ep i v = writeNow s ep (indexParts i).1 (indexParts i).2.1 (indexParts i).2.2 v := by
  have hlen : ¬(v.length = 0 ∨ 64 < v.length) := by omega
  have hfits : ¬(64 < r.size ∨ v.length ≠ r.size) := by omega
  rcases hnow with h | h <;>
    simp only [setParamCmd, hlen, hright, hrow, hwrite, hfits, h, if_false, Bool.not_true, Bool.false_eq_true]

end

/-! ### GET_BLOCK -/

theorem getBlockCmd_of_bad_length {s : State} {i off len : Nat} (h : len = 0 ∨ 1000 < len) :
    getBlockCmd s i off len = refuse s rcBadParam := by
  simp only [getBlockCmd, h, if_true]

theorem getBlockCmd_of_no_row {s : State} {i off len : Nat} (hpos : 0 < len) (hmax : len ≤ 1000) (hrow : indexRow i = none) :
    getBlockCmd s i off len = refuse s rcBadParam := by
  have hlen : ¬(len = 0 ∨ 1000 < len) := by omega
  simp only [getBlockCmd, hlen, hrow, if_false]

theorem getRegisters_of_bad {s : State} {off len : Nat} (h : off % 4 ≠ 0 ∨ len % 4 ≠ 0 ∨ 49152 < off + len) :
    getRegisters s off len = refuse s rcOutOfRange := by
  simp only [getRegisters, h, if_true]

theorem getRegisters_of_good {s s1 : State} {off len : Nat} {ws : List Word} (hoff : off % 4 = 0) (hlen : len % 4 = 0)
    (hend : off + len ≤ 49152) (hreads : s.regReads false off (len / 4) = (ws, s1)) :
    getRegisters s off len =
      { st := s1, code := 0, payload := blockPayload off (ws.flatMap (fun w => leBytes 4 w.toNat)) } := by
  simp only [getRegisters, hoff, hlen, Nat.not_lt.mpr hend, hreads, ne_eq, not_true_eq_false, or_self, if_false]

/-! ### SET_BLOCK in the order of its checks -/

section
variable {s : State} {ep : Fin 8} {i off : Nat} {data : List Byte}

theorem setBlockCmd_of_bad_length (h : data.length = 0 ∨ 1000 < data.length) :
    setBlockCmd s ep i off data = refuse s rcBadParam := by
  simp only [setBlockCmd, h, if_true]

section
variable (hpos : 1 ≤ data.length) (hmax : data.length ≤ 1000)
include hpos hmax

theorem setBlockCmd_of_no_right (h : mayWrite s ep i data = false) :
    setBlockCmd s ep i off data = refuse s rcNotAuthority := by
  have hlen : ¬(data.length = 0 ∨ 1000 < data.length) := by omega
  simp only [setBlockCmd, hlen, h, Bool.not_false, if_true, if_false]

variable (hright : mayWrite s ep i data = true)
include hright

theorem setBlockCmd_of_no_row (hrow : indexRow i = none) : setBlockCmd s ep i off data = refuse s rcBadParam := by
  have hlen : ¬(data.length = 0 ∨ 1000 < data.length) := by omega
  simp only [setBlockCmd, hlen, hright, hrow, Bool.not_true, Bool.false_eq_true, if_false]

/-- With its right and its row, SET_BLOCK goes on to the row. -/
theorem setBlockCmd_of_row {r : AttrRow} (hrow : indexRow i = some r) :
    setBlockCmd s ep i off data =
      if indexSpan i = true then refuse s rcBadParam
      else if (!writable (indexParts i).1 (indexParts i).2.1 r) = true then refuse s rcReadOnly
      else if r.size ≤ 64 ∨ r.access ≠ .rws then refuse s rcBadParam
      else if r.size < off + data.length then refuse s rcOutOfRange
      else stageWrite s (indexParts i).1 (indexParts i).2.1 r off data := by
  have hlen : ¬(data.length = 0 ∨ 1000 < data.length) := by omega
  simp only [setBlockCmd, hlen, hright, hrow, Bool.not_true, Bool.false_eq_true, if_false]

end

end

/-- Settles O52: each of the four commands is one case of its length, its sender and its row. -/
theorem parametersAreReadAndWritten : Obligations.ParametersAreReadAndWritten := by
  refine ⟨?getNoRow, ?getLarge, ?get, ?setLength, ?setNoRight, ?setNoRow, ?setReadOnly, ?setSize, ?setStaged, ?setClear,
    ?setNow, ?blockLength, ?blockNoRow, ?spanBeyond, ?span, ?windowBad, ?window, ?attrBeyond, ?attr, ?putLength,
    ?putNoRight, ?putNoRow, ?putSpan, ?putReadOnly, ?putSmall, ?putBeyond, ?put⟩
  case getNoRow =>
    intro q index s hrow
    simp only [exec.eq_def, execGetParam, getParamCmd_of_no_row hrow, finish_refuse]
  case getLarge =>
    intro q index r s hrow hlarge
    simp only [exec.eq_def, execGetParam, getParamCmd_of_row s hrow, hlarge, if_true, finish_refuse]
  case get =>
    intro q index r s hrow hmax
    simp only [exec.eq_def, execGetParam, getParamCmd_of_row s hrow, Nat.not_lt.mpr hmax, if_false, finish_mk]
  case setLength =>
    intro q index value s hlen
    simp only [exec.eq_def, execSetParam, setParamCmd_of_bad_length hlen, finish_refuse]
  case setNoRight =>
    intro q index value s hpos hmax hright
    simp only [exec.eq_def, execSetParam, setParamCmd_of_no_right hpos hmax hright, finish_refuse]
  case setNoRow =>
    intro q index value s hpos hmax hright hrow
    simp only [exec.eq_def, execSetParam, setParamCmd_of_no_row hpos hmax hright hrow, finish_refuse]
  case setReadOnly =>
    intro q index value r s hpos hmax hright hrow hro
    simp only [exec.eq_def, execSetParam, setParamCmd_of_not_writable hpos hmax hright hrow hro, finish_refuse]
  case setSize =>
    intro q index value r s hpos hmax hright hrow hwrite hsize
    simp only [exec.eq_def, execSetParam, setParamCmd_of_wrong_size hpos hmax hright hrow hwrite hsize, finish_refuse]
  case setStaged =>
    intro q index value r s hpos hmax hright hrow hwrite _ hsize hrws
    simp only [exec.eq_def, execSetParam, setParamCmd_of_rws hpos hmax hright hrow hwrite hrws hsize]
  case setClear =>
    intro q index value r s hpos hmax hright hrow hwrite _ hsize hw1c
    simp only [exec.eq_def, execSetParam, setParamCmd_of_w1c hpos hmax hright hrow hwrite hsize hw1c, finish_okRes]
  case setNow =>
    intro q index value r s hpos hmax hright hrow hwrite _ hsize hnow
    simp only [exec.eq_def, execSetParam, setParamCmd_of_now hpos hmax hright hrow hwrite hsize hnow]
  case blockLength =>
    intro q index off len s hlen
    simp only [exec.eq_def, execGetBlock, getBlockCmd_of_bad_length hlen, finish_refuse]
  case blockNoRow =>
    intro q index off len s hpos hmax hrow
    simp only [exec.eq_def, execGetBlock, getBlockCmd_of_no_row hpos hmax hrow, finish_refuse]
  case spanBeyond =>
    intro q index off len r wb s hpos hmax hrow hspan hwb hbeyond
    have hbytes : spanBytes s index.toNat = wb := hwb.symm
    simp only [exec.eq_def, execGetBlock, getBlockCmd_of_span s hrow hpos hmax hspan, hbytes, hbeyond, if_true, finish_refuse]
  case span =>
    intro q index off len r wb s hpos hmax hrow hspan hwb hwithin
    have hbytes : spanBytes s index.toNat = wb := hwb.symm
    simp only [exec.eq_def, execGetBlock, getBlockCmd_of_span s hrow hpos hmax hspan, hbytes, Nat.not_lt.mpr hwithin, if_false,
      finish_mk]
  case windowBad =>
    intro q index off len r s hpos hmax hrow hspan hcls hattr hbad
    simp only [exec.eq_def, execGetBlock, getBlockCmd_of_registers s hrow hpos hmax hspan hcls hattr, getRegisters_of_bad hbad,
      finish_refuse]
  case window =>
    intro q index off len r ws s1 s hpos hmax hrow hspan hcls hattr hoff hlen hend hreads
    simp only [exec.eq_def, execGetBlock, getBlockCmd_of_registers s hrow hpos hmax hspan hcls hattr,
      getRegisters_of_good hoff hlen hend hreads, finish_mk]
  case attrBeyond =>
    intro q index off len r s hpos hmax hrow hspan hreg hbeyond
    simp only [exec.eq_def, execGetBlock, getBlockCmd_of_attr s hrow hpos hmax hspan hreg, hbeyond, if_true, finish_refuse]
  case attr =>
    intro q index off len r s hpos hmax hrow hspan hreg hwithin
    simp only [exec.eq_def, execGetBlock, getBlockCmd_of_attr s hrow hpos hmax hspan hreg, Nat.not_lt.mpr hwithin, if_false,
      finish_mk]
  case putLength =>
    intro q index off data s hlen
    simp only [exec.eq_def, execSetBlock, setBlockCmd_of_bad_length hlen, finish_refuse]
  case putNoRight =>
    intro q index off data s hpos hmax hright
    simp only [exec.eq_def, execSetBlock, setBlockCmd_of_no_right hpos hmax hright, finish_refuse]
  case putNoRow =>
    intro q index off data s hpos hmax hright hrow
    simp only [exec.eq_def, execSetBlock, setBlockCmd_of_no_row hpos hmax hright hrow, finish_refuse]
  case putSpan =>
    intro q index off data r s hpos hmax hright hrow hspan
    simp only [exec.eq_def, execSetBlock, setBlockCmd_of_row hpos hmax hright hrow, hspan, if_true, finish_refuse]
  case putReadOnly =>
    intro q index off data r s hpos hmax hright hrow hspan hro
    simp only [exec.eq_def, execSetBlock, setBlockCmd_of_row hpos hmax hright hrow, hspan, hro, Bool.not_false,
      Bool.false_eq_true, if_true, if_false, finish_refuse]
  case putSmall =>
    intro q index off data r s hpos hmax hright hrow hspan hwrite hsmall
    simp only [exec.eq_def, execSetBlock, setBlockCmd_of_row hpos hmax hright hrow, hspan, hwrite, hsmall, Bool.not_true,
      Bool.false_eq_true, if_true, if_false, finish_refuse]
  case putBeyond =>
    intro q index off data r s hpos hmax hright hrow hspan hwrite hlarge hrws hbeyond
    simp only [exec.eq_def, execSetBlock, setBlockCmd_of_row hpos hmax hright hrow, hspan, hwrite, Nat.not_le.mpr hlarge, hrws,
      hbeyond, ne_eq, not_true_eq_false, or_self, Bool.not_true, Bool.false_eq_true, if_true, if_false, finish_refuse]
  case put =>
    intro q index off data r s hpos hmax hright hrow hspan hwrite hlarge hrws hwithin
    simp only [exec.eq_def, execSetBlock, setBlockCmd_of_row hpos hmax hright hrow, hspan, hwrite, Nat.not_le.mpr hlarge, hrws,
      Nat.not_lt.mpr hwithin, ne_eq, not_true_eq_false, or_self, Bool.not_true, Bool.false_eq_true, if_false]

end Sys2Proof.Machine
end

section
/-! PROOFS. How configurations are committed, journalled and persisted (R399 to R406, R529; O53). -/

namespace Sys2Proof.Machine

theorem commitConfig_of_accepted {s : State} {ep : Fin 8} {apply t : CellTime} {hash : BitVec 64}
    (hcheck : commitCheck s ep apply hash = none)
    (ht : t = if apply = 0 then ctAddNs (now s) (s.p 4 0x01 0 0x0E * 1000) else apply) :
    commitConfig s ep apply hash = {
      st := s.acceptCommit ep t, code := 0, payload := leBytes 8 (s.p 8 0x01 0 0x09) ++ ctBytes t ++ [0, 0, 0] } := by
  simp only [commitConfig, hcheck, ← ht]

/-- A commit before its instant waits (R403). -/
theorem commitBy_of_later {s : State} {c : Commit} {t : CellTime} (hc : s.commit = some c)
    (hlater : reached c.apply t = false) : s.commitBy t = s := by
  simp only [State.commitBy, hc, hlater, Bool.false_eq_true, if_false]

/-- Settles O53: a commit goes from its check through its instant and its banks to the journal, and its image to the slot. -/
theorem configurationsAreCommitted : Obligations.ConfigurationsAreCommitted := by
  refine ⟨?accepted, ?refused, ?discard, ?discardNoRight, ?hashReady, ?noCommit, ?later, ?applied, ?noneWaits, ?banksMissing,
    ?journalled, ?notWriting, ?written, ?writtenAgain, ?failed, ?failedAgain⟩
  case accepted =>
    intro q apply hash t s hcheck ht
    simp only [exec.eq_def, execCommitConfig, commitConfig_of_accepted hcheck ht, finish_mk]
  case refused =>
    intro q apply hash code i s hcheck
    simp only [exec.eq_def, execCommitConfig, commitConfig, hcheck, refuseCommit, finish_mk]
  case discard =>
    intro q h s hright hh
    simp only [exec.eq_def, execDiscardConfig, discardConfig, hright, ← hh, Bool.not_true, Bool.false_eq_true, if_false,
      finish_okRes]
  case discardNoRight =>
    intro q s hright
    simp only [exec.eq_def, execDiscardConfig, discardConfig, hright, Bool.not_false, if_true, finish_refuse]
  case hashReady =>
    intro s
    simp only [exec.eq_def, execStagedHashReady]
  case noCommit =>
    intro s hnone
    simp only [exec.eq_def, execCommitApply, State.commitBy, hnone]
  case later =>
    intro c s hc hlater
    simp only [exec.eq_def, execCommitApply, commitBy_of_later hc hlater]
  case applied =>
    intro c s1 s hc hreached hs1
    simp only [exec.eq_def, execCommitApply, State.commitBy, hc, hreached, ← hs1, if_true]
  case noneWaits =>
    intro s hnone
    simp only [exec.eq_def, execCommitJournal, hnone]
  case banksMissing =>
    intro c rest s hfirst hmissing
    simp only [exec.eq_def, execCommitJournal, hfirst, hmissing, Bool.false_eq_true, if_false]
  case journalled =>
    intro c rest s hfirst hall
    simp only [exec.eq_def, execCommitJournal, hfirst, hall, if_true]
  case notWriting =>
    intro ok s hnone
    simp only [exec.eq_def, execPersistDone, hnone]
  case written =>
    intro slot img a boot fw s2 s hpersist hheader honce hs2
    simp only [exec.eq_def, execPersistDone, hpersist, hheader, honce, hs2, Bool.false_eq_true, if_true, if_false]
  case writtenAgain =>
    intro slot img a boot fw s2 s hpersist hheader hagain hs2
    simp only [exec.eq_def, execPersistDone, hpersist, hheader, hagain, hs2, if_true]
  case failed =>
    intro slot img a boot fw s2 s hpersist hheader honce hs2
    simp only [exec.eq_def, execPersistDone, hpersist, hheader, honce, hs2, Bool.false_eq_true, if_false]
  case failedAgain =>
    intro slot img a boot fw s2 s hpersist hheader hagain hs2
    simp only [exec.eq_def, execPersistDone, hpersist, hheader, hagain, hs2, Bool.false_eq_true, if_true, if_false]

end Sys2Proof.Machine
end

section
/-! PROOFS. How firmware updates run and the journal is read (R536, R552, R564, R565; O54). -/

namespace Sys2Proof.Machine

/-! ### The session of a sender -/

section
variable {s : State} {ep : Fin 8}

theorem fwSession_of_no_right (hright : mayUpdate s ep = false) : fwSession s ep = (rcNotAuthority, none) := by
  simp only [fwSession, hright, Bool.not_false, if_true]

theorem fwSession_of_none (hright : mayUpdate s ep = true) (hnone : s.sup.session = none) :
    fwSession s ep = (rcBadParam, none) := by
  simp only [fwSession, hright, hnone, Bool.not_true, Bool.false_eq_true, if_false]

theorem fwSession_of_other {f : FwSession} (hright : mayUpdate s ep = true) (hsession : s.sup.session = some f)
    (hother : f.ep ≠ ep.val) : fwSession s ep = (rcLocked, none) := by
  simp only [fwSession, hright, hsession, hother, Bool.not_true, Bool.false_eq_true, if_false]

theorem fwSession_of_own {f : FwSession} (hright : mayUpdate s ep = true) (hsession : s.sup.session = some f)
    (hown : f.ep = ep.val) : fwSession s ep = (0, some f) := by
  simp only [fwSession, hright, hsession, hown, Bool.not_true, Bool.false_eq_true, if_true, if_false]

end

/-! ### FW_UPDATE_DATA -/

section
variable {s : State} {q : Req} {off : Nat} {data : List Byte}

/-- A refused block completes at once with its code. -/
theorem startFwData_of_refused {code : BitVec 16} {region : Nat × Nat}
    (h : fwData s q.ep off data = (refuse s code, region)) (hcode : code ≠ 0) :
    startFwData s q off data = s.finish q opFwData code [] := by
  have hrefused : (refuse s code).code ≠ 0 := hcode
  simp only [startFwData, h, hrefused, ne_eq, not_false_eq_true, if_true, finish_refuse]

/-- A block that is taken runs on as a long command with the bytes it programs. -/
theorem startFwData_of_taken {t s2 : State} {region : Nat × Nat} (h : fwData s q.ep off data = (okRes t, region))
    (hs2 : s2 = (okRes t).startLong q opFwData) :
    startFwData s q off data = { s2 with mbx := { s2.mbx with long := s2.mbx.long.map (fun j =>
      if j.ep == q.ep.val && j.tag == q.tag then { j with region := region } else j) } } := by
  have hcode : ¬(okRes t).code ≠ 0 := fun hne => hne rfl
  simp only [startFwData, h, hcode, ← hs2, if_false]

variable {ep : Fin 8}

theorem fwData_of_refused {code : BitVec 16} (h : fwSession s ep = (code, none)) :
    fwData s ep off data = (refuse s code, (0, 0)) := by
  simp only [fwData, h]

variable {f : FwSession} {code : BitVec 16} (hsession : fwSession s ep = (code, some f))
include hsession

theorem fwData_of_bad_length (hlen : data.length = 0 ∨ 1008 < data.length) :
    fwData s ep off data = (refuse s rcBadParam, (0, 0)) := by
  simp only [fwData, hsession, hlen, if_true]

variable (hsome : data.length ≠ 0) (hmax : data.length ≤ 1008)
include hsome hmax

theorem fwData_of_out_of_order (hout : off ≠ f.received ∨ f.len + 256 < off + data.length) :
    fwData s ep off data = (refuse s rcOutOfRange, (0, 0)) := by
  have hlen : ¬(data.length = 0 ∨ 1008 < data.length) := by omega
  simp only [fwData, hsession, hlen, hout, if_true, if_false]

variable (hnext : off = f.received) (hwithin : off + data.length ≤ f.len + 256)
include hnext hwithin

theorem fwData_of_not_erased (hwaits : f.erased ≤ (off + data.length - 1) / 65536) :
    fwData s ep off data = (refuse s rcLocked, (0, 0)) := by
  have hlen : ¬(data.length = 0 ∨ 1008 < data.length) := by omega
  have hinOrder : ¬(off ≠ f.received ∨ f.len + 256 < off + data.length) := by omega
  simp only [fwData, hsession, hlen, hinOrder, hwaits, if_true, if_false]

/-- The next block, on erased memory, is programmed (R564). -/
theorem fwData_of_erased {a : Nat} {s1 : State} (herased : (off + data.length - 1) / 65536 < f.erased)
    (ha : a = fwSlot s f.slot + off) (hs1 : s1 = s.writeNor a (programBytes (norBytes s a data.length) data)) :
    fwData s ep off data = (okRes { s1 with
      sup := { s1.sup with session := some { f with received := off + data.length } } }, (a, data.length)) := by
  have hlen : ¬(data.length = 0 ∨ 1008 < data.length) := by omega
  have hinOrder : ¬(off ≠ f.received ∨ f.len + 256 < off + data.length) := by omega
  simp only [fwData, hsession, hlen, hinOrder, Nat.not_le.mpr herased, ← ha, ← hs1, if_false]

end

/-! ### FW_UPDATE_END -/

section
variable {s : State} {ep : Fin 8} {sigOk norOk : Bool}

theorem fwEnd_of_refused {code : BitVec 16} (h : fwSession s ep = (code, none)) :
    fwEnd s ep sigOk norOk = refuse s code := by
  simp only [fwEnd, fwVerify, h]

variable {f : FwSession} {code : BitVec 16} (hsession : fwSession s ep = (code, some f))
include hsession

theorem fwEnd_of_short (hshort : f.received ≠ f.len + 256) : fwEnd s ep sigOk norOk = fwClose s f rcOutOfRange [] := by
  simp only [fwEnd, fwVerify, hsession, hshort, ne_eq, not_false_eq_true, if_true]

theorem fwEnd_of_unsigned (hwhole : f.received = f.len + 256) (hbad : slotCheck s f.slot sigOk ≠ 1) :
    fwEnd s ep sigOk norOk = fwClose s f rcSignature [] := by
  simp only [fwEnd, fwVerify, hsession, hwhole, hbad, ne_eq, not_true_eq_false, not_false_eq_true, if_true, if_false]

/-- A verified image is named in the header (R565). -/
theorem fwEnd_of_verified (hwhole : f.received = f.len + 256) (hgood : slotCheck s f.slot sigOk = 1) :
    fwEnd s ep sigOk norOk = fwPrefer s f norOk := by
  simp only [fwEnd, fwVerify, hsession, hwhole, hgood, ne_eq, not_true_eq_false, if_false]

end

/-! ### JOURNAL_READ -/

theorem journalRead_of_mode {s : State} {ep : Fin 8} {mode max : Nat} {start : Word} (h : 1 < mode) :
    journalRead s ep mode max start = (refuse s rcBadParam, none) := by
  simp only [journalRead, h, if_true]

theorem journalRead_of_max {s : State} {ep : Fin 8} {mode max : Nat} {start : Word} (hmode : mode ≤ 1)
    (hmax : max = 0 ∨ 31 < max) : journalRead s ep mode max start = (refuse s rcOutOfRange, none) := by
  have hbad : max < 1 ∨ 31 < max := hmax.imp_left Nat.lt_one_iff.mpr
  simp only [journalRead, Nat.not_lt.mpr hmode, hbad, if_true, if_false]

/-- An erase of the NOR is no part of the start. -/
theorem eraseNor_sup (s : State) (a n : Nat) : (s.eraseNor a n).sup = s.sup := rfl

/-- Settles O54: each update command is one case of its session, and a journal read of its mode. That MAX outside 1 to 31
is OUT_OF_RANGE (log 36), and that an END refused before its session leaves it (log 37), is the model's choice. -/
theorem firmwareUpdatesAndLogSessions : Obligations.FirmwareUpdatesAndLogSessions := by
  refine ⟨?beginNoRight, ?beginLocked, ?beginLength, ?beginNoNor, ?begins, ?dataNoRight, ?dataNoSession, ?dataOther,
    ?dataLength, ?dataOrder, ?dataNotErased, ?data, ?endNoRight, ?endNoSession, ?endOther, ?endShort, ?endUnsigned, ?ends,
    ?endFailed, ?readMode, ?readMax, ?reads⟩
  case beginNoRight =>
    intro q len s hright
    simp only [exec.eq_def, execFwUpdateBegin, fwBegin, hright, Bool.not_false, if_true, finish_refuse]
  case beginLocked =>
    intro q len s hright hopen
    simp only [exec.eq_def, execFwUpdateBegin, fwBegin, hright, hopen, Bool.not_true, Bool.false_eq_true, if_true, if_false,
      finish_refuse]
  case beginLength =>
    intro q len s hright hnone hlen
    simp only [exec.eq_def, execFwUpdateBegin, fwBegin, hright, hnone, hlen, Bool.not_true, Bool.false_eq_true, if_true, if_false,
      finish_refuse]
  case beginNoNor =>
    intro q len s hright hnone hsome hfits hnor
    simp only [exec.eq_def, execFwUpdateBegin, fwBegin, hright, hnone, hsome, Nat.not_lt.mpr hfits, hnor, ne_eq, not_false_eq_true,
      or_self, Bool.not_true, Bool.false_eq_true, if_true, if_false, finish_refuse]
  case begins =>
    intro q len s2 s hright hnone hsome hfits hnor hs2
    simp only [exec.eq_def, execFwUpdateBegin, fwBegin, hright, hnone, hsome, Nat.not_lt.mpr hfits, hnor, hs2, eraseNor_sup, ne_eq,
      not_true_eq_false, or_self, Bool.not_true, Bool.false_eq_true, if_false, finish_mk]
  case dataNoRight =>
    intro q off data s hright
    simp only [exec.eq_def, execFwUpdateData,
      startFwData_of_refused (fwData_of_refused (fwSession_of_no_right hright)) (by decide)]
  case dataNoSession =>
    intro q off data s hright hnone
    simp only [exec.eq_def, execFwUpdateData,
      startFwData_of_refused (fwData_of_refused (fwSession_of_none hright hnone)) (by decide)]
  case dataOther =>
    intro q off data f s hright hsession hother
    simp only [exec.eq_def, execFwUpdateData,
      startFwData_of_refused (fwData_of_refused (fwSession_of_other hright hsession hother)) (by decide)]
  case dataLength =>
    intro q off data f s hright hsession hown hlen
    simp only [exec.eq_def, execFwUpdateData,
      startFwData_of_refused (fwData_of_bad_length (fwSession_of_own hright hsession hown) hlen) (by decide)]
  case dataOrder =>
    intro q off data f s hright hsession hown hsome hmax hout
    simp only [exec.eq_def, execFwUpdateData,
      startFwData_of_refused (fwData_of_out_of_order (fwSession_of_own hright hsession hown) hsome hmax hout) (by decide)]
  case dataNotErased =>
    intro q off data f s hright hsession hown hsome hmax hnext hwithin hwaits
    simp only [exec.eq_def, execFwUpdateData, startFwData_of_refused
      (fwData_of_not_erased (fwSession_of_own hright hsession hown) hsome hmax hnext hwithin hwaits) (by decide)]
  case data =>
    intro q off data f a s1 s2 s hright hsession hown hsome hmax hnext hwithin herased ha hs1 hs2
    simp only [exec.eq_def, execFwUpdateData, startFwData_of_taken
      (fwData_of_erased (fwSession_of_own hright hsession hown) hsome hmax hnext hwithin herased ha hs1) hs2]
  case endNoRight =>
    intro q sigOk norOk s hright
    simp only [exec.eq_def, execFwUpdateEnd, fwEnd_of_refused (fwSession_of_no_right hright), finish_refuse]
  case endNoSession =>
    intro q sigOk norOk s hright hnone
    simp only [exec.eq_def, execFwUpdateEnd, fwEnd_of_refused (fwSession_of_none hright hnone), finish_refuse]
  case endOther =>
    intro q sigOk norOk f s hright hsession hother
    simp only [exec.eq_def, execFwUpdateEnd, fwEnd_of_refused (fwSession_of_other hright hsession hother), finish_refuse]
  case endShort =>
    intro q sigOk norOk f s1 s hright hsession hown hshort hs1
    simp only [exec.eq_def, execFwUpdateEnd, fwEnd_of_short (fwSession_of_own hright hsession hown) hshort, fwClose, hs1, finish_mk]
  case endUnsigned =>
    intro q sigOk norOk f s1 s hright hsession hown hwhole hbad hs1
    simp only [exec.eq_def, execFwUpdateEnd, fwEnd_of_unsigned (fwSession_of_own hright hsession hown) hwhole hbad, fwClose, hs1,
      finish_mk]
  case ends =>
    intro q sigOk f cfg boot pref s1 s2 s hright hsession hown hwhole hgood hheader hs1 hs2
    simp only [exec.eq_def, execFwUpdateEnd, fwEnd_of_verified (fwSession_of_own hright hsession hown) hwhole hgood, fwPrefer,
      hheader, fwClose, hs2, hs1, if_true, finish_mk]
  case endFailed =>
    intro q sigOk f s2 s hright hsession hown hwhole hgood hs2
    simp only [exec.eq_def, execFwUpdateEnd, fwEnd_of_verified (fwSession_of_own hright hsession hown) hwhole hgood, fwPrefer,
      fwClose, hs2, Bool.false_eq_true, if_false, finish_mk]
  case readMode =>
    intro q mode max start s hmode
    have hcode : (refuse s rcBadParam).code ≠ 0 := show rcBadParam ≠ 0 by decide
    simp only [exec.eq_def, execJournalRead, journalRead_of_mode hmode, hcode, ne_eq, not_false_eq_true, if_true, finish_refuse]
  case readMax =>
    intro q mode max start s hmode hmax
    have hcode : (refuse s rcOutOfRange).code ≠ 0 := show rcOutOfRange ≠ 0 by decide
    simp only [exec.eq_def, execJournalRead, journalRead_of_max hmode hmax, hcode, ne_eq, not_false_eq_true, if_true, finish_refuse]
  case reads =>
    intro q mode max start from_ first next early rs pl s1 s hmode hmin hmax hfrom hrecords hfirst hnext hpl hs1
    have hrange : ¬(max < 1 ∨ 31 < max) := by omega
    simp only [exec.eq_def, execJournalRead, journalRead, Nat.not_lt.mpr hmode, hrange, ← hfrom, hrecords, ← hfirst, ← hnext,
      ← hpl, ne_eq, not_true_eq_false, if_false, ← hs1]

end Sys2Proof.Machine
end

section
/-! PROOFS. How the memory serial port is served (R516 to R525; O55). -/

namespace Sys2Proof.Machine

/-! ### Writes within a page -/

theorem pageParts_nil (n addr : Nat) : pageParts n addr [] = [] := by
  cases n <;> rfl

/-- A write within one page is its one part. -/
theorem pageParts_of_within {addr : Nat} {data : List Byte} (hsome : data ≠ []) (hpage : addr % 256 + data.length ≤ 256) :
    pageParts data.length addr data = [(addr, data)] := by
  obtain ⟨x, xs, rfl⟩ := List.exists_cons_of_ne_nil hsome
  have hwhole : (x :: xs).length ≤ 256 - addr % 256 := by omega
  rw [List.length_cons, pageParts, List.take_of_length_le hwhole, List.drop_eq_nil_of_le hwhole, pageParts_nil]
  rfl

section
variable {s : State} {addr : Nat} {data : List Byte}

/-- A write of the gathered page, or of the first, is gathered (R523). -/
theorem pageWrite_of_gathered (hfree : s.msp.stalled = []) (hop : s.msp.norOp.any (fun o => !o.erase) = false)
    (hpage : s.msp.gatherPage.all (fun p => p == addr / 256) = true) : s.pageWrite addr data = s.gatherWrite addr data := by
  simp only [State.pageWrite, hfree, hop, hpage, List.isEmpty_nil, Bool.not_true, Bool.or_self, Bool.false_eq_true,
    if_true, if_false]

/-- A write of another page has the gathered one programmed, and waits (R523). -/
theorem pageWrite_of_other {p : Nat} (hfree : s.msp.stalled = []) (hop : s.msp.norOp = none)
    (hpage : s.msp.gatherPage = some p) (hother : p ≠ addr / 256) :
    s.pageWrite addr data = s.programGathered.modMsp (fun m => { m with stalled := m.stalled ++ [(addr, data)] }) := by
  simp only [State.pageWrite, hfree, hop, hpage, List.isEmpty_nil, Option.any_none, Option.all_some, Option.isSome_none,
    beq_eq_false_iff_ne.mpr hother, Bool.not_true, Bool.or_self, Bool.false_eq_true, if_false]

end

/-! ### User transfers and ranks -/

section
variable {s : State} {ep : Fin 8} {v : List Byte}

theorem userXfer_of_bad_length (h : v.length ≠ 64) : userXfer s ep v = refuse s rcBadParam := by
  simp only [userXfer, h, ne_eq, not_false_eq_true, if_true]

theorem userXfer_of_refused {c : BitVec 16} (hlen : v.length = 64) (hcheck : xferCheck s ep (xferReq v) = some c) :
    userXfer s ep v = refuse s c := by
  simp only [userXfer, hlen, hcheck, ne_eq, not_true_eq_false, if_false]

theorem userXfer_of_queued (hlen : v.length = 64) (hcheck : xferCheck s ep (xferReq v) = none) :
    userXfer s ep v = okRes ((s.modMsp (fun m => { m with
      userCount := m.userCount.set ep (m.userCount[ep] + 1) })).mspQueue (xferEntry s ep (xferReq v))) := by
  simp only [userXfer, hlen, hcheck, ne_eq, not_true_eq_false, if_false]

theorem arbPriority_of_bad_length (h : v.length ≠ 5) : arbPriority s v = refuse s rcBadParam := by
  simp only [arbPriority, h, ne_eq, not_false_eq_true, if_true]

theorem arbPriority_of_length (h : v.length = 5) :
    arbPriority s v = if v.any (fun b => decide (7 < b.toNat)) = true then refuse s rcOutOfRange
      else okRes (s.setBytes 0x19 0 0x09 0 v) := by
  simp only [arbPriority, h, ne_eq, not_true_eq_false, if_false]

end

/-- Settles O55: each event of the port is one case of the entry, the page or the operation it meets. A fill beyond its
share, a read of another length and a write beyond the density that change nothing (log 35), writes that wait and an erase
that is only stored (log 44), are the model's choices. -/
theorem theMemoryArbiterServesNor : Obligations.TheMemoryArbiterServesNor := by
  refine ⟨?noEntry, ?otherLength, ?userWrite, ?userRead, ?fillDone, ?noFill, ?fill, ?fillSuspends, ?writeIgnored,
    ?writeBeyond, ?write, ?gathered, ?otherPage, ?gatherOver, ?noGather, ?flush, ?noFlush, ?eraseNoPriv, ?eraseStored,
    ?eraseMirror, ?eraseBusy, ?erase, ?noOp, ?suspended, ?ready, ?notReady, ?failed, ?updateFailed, ?xferNoRight,
    ?xferLength, ?xferRefused, ?xfer, ?ranksNoRight, ?ranksLength, ?ranks, ?ranksBad, ?split, ?held, ?notHeld⟩
  case noEntry =>
    intro data s hnone
    simp only [exec.eq_def, execMspEntryComplete, hnone]
  case otherLength =>
    intro data e s hactive huser hread hlen
    simp only [exec.eq_def, execMspEntryComplete, hactive, huser, hread, hlen, ne_eq, not_false_eq_true, and_self, if_true]
  case userWrite =>
    intro data e s1 s hactive huser hwrite hs1
    simp only [exec.eq_def, execMspEntryComplete, hactive, huser, hwrite, ← hs1, Bool.false_eq_true, false_and, if_true, if_false]
  case userRead =>
    intro data e s1 s hactive huser hread hlen hs1
    simp only [exec.eq_def, execMspEntryComplete, hactive, huser, hread, hlen, ← hs1, userReadElement, ne_eq, not_true_eq_false,
      and_false, if_true, if_false]
  case fillDone =>
    intro data e more s1 s2 s hactive hother hs1 hmore hs2
    simp only [exec.eq_def, execMspEntryComplete, hactive, hother, ← hs1, ← hmore, ← hs2, false_and, and_false, if_false]
  case noFill =>
    intro addr s hno
    have hshare : norSize s ≤ addr ∨ mspShare 0 ≤ mspLevel s 0 := hno
    simp only [exec.eq_def, execXipFill, hshare, if_true]
  case fill =>
    intro addr s hwithin hroom hruns
    have hshare : ¬(norSize s ≤ addr ∨ mspShare 0 ≤ mspLevel s 0) := not_or.mpr ⟨Nat.not_le.mpr hwithin, Nat.not_le.mpr hroom⟩
    have hstops : (s.msp.suspendOk && s.msp.norOp.any (fun o => !o.suspended)) = false := Bool.and_eq_false_iff.mpr hruns
    simp only [exec.eq_def, execXipFill, hshare, hstops, Bool.false_eq_true, if_false]
  case fillSuspends =>
    intro addr s hwithin hroom hok hruns
    have hshare : ¬(norSize s ≤ addr ∨ mspShare 0 ≤ mspLevel s 0) := not_or.mpr ⟨Nat.not_le.mpr hwithin, Nat.not_le.mpr hroom⟩
    simp only [exec.eq_def, execXipFill, hshare, hok, hruns, Bool.and_self, if_true, if_false]
  case writeIgnored =>
    rintro priv addr data s (hpriv | hmirror)
    · simp only [exec.eq_def, execXipWriteGather, State.writeIgnored, hpriv, Bool.not_false, Bool.true_or, if_true]
    · simp only [exec.eq_def, execXipWriteGather, State.writeIgnored, hmirror, Bool.or_true, if_true]
  case writeBeyond =>
    intro addr data s hmirror hbeyond
    simp only [exec.eq_def, execXipWriteGather, hmirror, hbeyond, Bool.not_true, Bool.or_self, Bool.false_eq_true, if_true, if_false]
  case write =>
    intro addr data s hmirror hwithin
    simp only [exec.eq_def, execXipWriteGather, hmirror, Nat.not_lt.mpr hwithin, Bool.not_true, Bool.or_self, Bool.false_eq_true,
      if_false]
  case gathered =>
    intro addr data s hmirror hwithin hsome hone hfree hop hpage
    simp only [exec.eq_def, execXipWriteGather, hmirror, Nat.not_lt.mpr hwithin, pageParts_of_within hsome hone, List.foldl_cons,
      List.foldl_nil, pageWrite_of_gathered hfree hop hpage, Bool.not_true, Bool.or_self, Bool.false_eq_true, if_false]
  case otherPage =>
    intro addr data p s hmirror hwithin hsome hone hfree hop hpage hother
    simp only [exec.eq_def, execXipWriteGather, hmirror, Nat.not_lt.mpr hwithin, pageParts_of_within hsome hone, List.foldl_cons,
      List.foldl_nil, pageWrite_of_other hfree hop hpage hother, Bool.not_true, Bool.or_self, Bool.false_eq_true, if_false]
  case gatherOver =>
    intro s hidle hover
    simp only [exec.eq_def, execXipGatherTimeout, hidle, hover, Option.isNone_none, and_self, if_true]
  case noGather =>
    intro s hno
    have hnot : ¬(s.msp.norOp.isNone = true ∧ elapsed s s.msp.gatherAt 2000 = true) := by
      rintro ⟨hidle, hover⟩
      rcases hno with hbusy | hbefore
      · exact hbusy (Option.isNone_iff_eq_none.mp hidle)
      · exact Bool.false_ne_true (hbefore.symm.trans hover)
    simp only [exec.eq_def, execXipGatherTimeout, hnot, if_false]
  case flush =>
    intro s hidle
    simp only [exec.eq_def, execXipFlush, hidle, Option.isNone_none, and_self, if_true]
  case noFlush =>
    intro priv s hno
    have hnot : ¬(priv = true ∧ s.msp.norOp.isNone = true) := by
      rintro ⟨hpriv, hidle⟩
      rcases hno with hnone | hbusy
      · exact Bool.false_ne_true (hnone.symm.trans hpriv)
      · exact hbusy (Option.isNone_iff_eq_none.mp hidle)
    simp only [exec.eq_def, execXipFlush, hnot, if_false]
  case eraseNoPriv =>
    intro v s
    simp only [exec.eq_def, execXipErase, Bool.not_false, if_true]
  case eraseStored =>
    intro v s1 s hs1 hstart
    simp only [exec.eq_def, execXipErase, ← hs1, hstart, Bool.not_true, Bool.not_false, Bool.false_eq_true, if_true, if_false]
  case eraseMirror =>
    intro v addr len s1 s haddr hlen hs1 hstart hmirror
    simp only [exec.eq_def, execXipErase, ← haddr, ← hlen, ← hs1, hstart, hmirror, State.writeIgnored, Bool.not_true,
      Bool.false_eq_true, if_true, if_false]
  case eraseBusy =>
    intro v addr len s1 s haddr hlen hs1 hstart hmirror hno
    have hstays : s.msp.norOp.isSome = true ∨ norSize s < addr + len := hno.imp_left Option.isSome_iff_ne_none.mpr
    simp only [exec.eq_def, execXipErase, ← haddr, ← hlen, ← hs1, hstart, hmirror, hstays, Bool.not_true, Bool.false_eq_true,
      if_true, if_false]
  case erase =>
    intro v addr len s1 s haddr hlen hs1 hstart hmirror hidle hwithin
    simp only [exec.eq_def, execXipErase, ← haddr, ← hlen, ← hs1, hstart, hmirror, hidle, Nat.not_lt.mpr hwithin,
      Option.isSome_none, Bool.not_true, Bool.false_eq_true, or_self, if_false]
  case noOp =>
    intro busy s hidle
    simp only [exec.eq_def, execNorStatusPoll, hidle]
  case suspended =>
    intro busy o s hop hsuspended
    simp only [exec.eq_def, execNorStatusPoll, hop, hsuspended, if_true]
  case ready =>
    intro o s hop hruns
    simp only [exec.eq_def, execNorStatusPoll, hop, hruns, Bool.not_false, Bool.false_eq_true, if_true, if_false]
  case notReady =>
    intro o s hop hruns hbefore
    simp only [exec.eq_def, execNorStatusPoll, hop, hruns, hbefore, Bool.not_true, Bool.false_eq_true, if_false]
  case failed =>
    intro o s hop hruns hother hover
    simp only [exec.eq_def, execNorStatusPoll, hop, hruns, hother, hover, Bool.not_true, Bool.false_eq_true, if_true, if_false]
  case updateFailed =>
    intro o s1 s hop hruns hupdate hover hs1
    simp only [exec.eq_def, execNorStatusPoll, hop, hruns, hupdate, hover, ← hs1, Bool.not_true, Bool.false_eq_true, if_true,
      if_false]
  case xferNoRight =>
    intro q v s hright
    simp only [exec.eq_def, execUserXfer, guardWrite_of_no_right hright, finish_refuse]
  case xferLength =>
    intro q v s hright hlen
    simp only [exec.eq_def, execUserXfer, guardWrite_of_right hright, userXfer_of_bad_length hlen, finish_refuse]
  case xferRefused =>
    intro q v c s hright hlen hcheck
    simp only [exec.eq_def, execUserXfer, guardWrite_of_right hright, userXfer_of_refused hlen hcheck, finish_refuse]
  case xfer =>
    intro q v s hright hlen hcheck
    simp only [exec.eq_def, execUserXfer, guardWrite_of_right hright, userXfer_of_queued hlen hcheck, finish_okRes]
  case ranksNoRight =>
    intro q v s hright
    simp only [exec.eq_def, execArbPriorityWrite, guardWrite_of_no_right hright, finish_refuse]
  case ranksLength =>
    intro q v s hright hlen
    simp only [exec.eq_def, execArbPriorityWrite, guardWrite_of_right hright, arbPriority_of_bad_length hlen, finish_refuse]
  case ranks =>
    intro q v s hright hlen hranks
    simp only [exec.eq_def, execArbPriorityWrite, guardWrite_of_right hright, arbPriority_of_length hlen, hranks,
      Bool.false_eq_true, if_false, finish_okRes]
  case ranksBad =>
    intro q v s hright hlen hranks
    simp only [exec.eq_def, execArbPriorityWrite, guardWrite_of_right hright, arbPriority_of_length hlen, hranks, if_true,
      finish_refuse]
  case split =>
    intro ep since s hcont hover
    simp only [exec.eq_def, execContinueTimeout, hcont, hover, if_true]
  case held =>
    intro ep since s hcont hbefore
    simp only [exec.eq_def, execContinueTimeout, hcont, hbefore, Bool.false_eq_true, if_false]
  case notHeld =>
    intro s hnone
    simp only [exec.eq_def, execContinueTimeout, hnone]

end Sys2Proof.Machine
end

section
/-! PROOFS. The journal: its records, pages, scrubbing, patrol and mount. -/
namespace Sys2Proof.Machine

/-- A NAND operation that fails on a good block of a present NAND is not the one that does nothing. -/
theorem not_nandIdle {s : State} {block : Nat} (hpresent : s.jrn.present = true) (hblock : block < s.jrn.blockCount)
    (hgood : nandGood s block = true) :
    ¬(!s.jrn.present ∨ s.jrn.blockCount ≤ block ∨ !nandGood s block) := by
  simp only [hpresent, hgood, Bool.not_true, Bool.false_eq_true, or_false, Nat.not_le.mpr hblock,
    not_false_eq_true]

/-- A journal whose state is not mounting is not mounted again. -/
theorem execJournalMount_of_state {s : State} (hstate : journalState s ≠ 1) : execJournalMount s = .next s :=
  if_pos hstate

/-- The first two flag bits of the last page: a page that a power failure wrote has flag 1. -/
theorem flags_beq_of_even {n : Nat} (h : n % 2 = 0) : (n % 2 == 1) = false := by
  rw [h]; rfl

/-- Settles O56: each command of the journal by the branches of its rule. The faults of the mount after a page that no
power failure wrote (log 16), the erase counts and provisional numbers at the mount (log 36) and the spacing of the
patrol (log 44) are the model's choices. -/
theorem theJournalKeepsItsRecords : Obligations.TheJournalKeepsItsRecords := by
  refine ⟨?noRecord, ?record, ?flush, ?noFlush, ?failIdle, ?failRetired, ?failMoved, ?noScrub, ?scrub, ?noPatrol,
    ?patrol, ?noMount, ?mountEmpty, ?mountBare, ?mountContent, ?mountLost, ?mountKept, ?noEpoch, ?epoch⟩
  case noRecord =>
    intro s hnone
    simp only [exec.eq_def, execJournalRecord, hnone]
  case record =>
    intro typ unc body rest s hsome
    simp only [exec.eq_def, execJournalRecord, hsome]
  case flush =>
    intro s hdue
    simp only [exec.eq_def, execJournalFlush, hdue, if_true]
  case noFlush =>
    intro s hdue
    simp only [exec.eq_def, execJournalFlush, hdue, Bool.false_eq_true, if_false]
  case failIdle =>
    intro block erase s hidle
    refine if_pos ?_
    obtain hpresent | hblock | hgood := hidle
    · exact .inl (by rw [hpresent]; rfl)
    · exact .inr (.inl hblock)
    · exact .inr (.inr (by rw [hgood]; rfl))
  case failRetired =>
    intro block erase s hpresent hblock hgood hretired
    have hpage : (if erase then none else (blockPages s block).getLast?) = none := by
      obtain rfl | hempty := hretired
      · rfl
      · rw [hempty]
        exact ite_self none
    simp only [exec.eq_def, execNandOperationFail, not_nandIdle hpresent hblock hgood, hpage, if_false]
  case failMoved =>
    intro block i p s1 s hpresent hblock hgood hlast hs1
    simp only [exec.eq_def, execNandOperationFail, not_nandIdle hpresent hblock hgood, hlast, Bool.false_eq_true, if_false,
      ← hs1]
  case noScrub =>
    intro block s hnot
    refine if_pos ?_
    obtain hmounted | hdue := hnot
    · rw [hmounted]; rfl
    · rw [hdue]
      exact Bool.or_true _
  case scrub =>
    intro block bits first src s1 s hmounted hdue hsrc hbits hfirst hs1
    simp only [exec.eq_def, execScrub, hmounted, hdue, Bool.not_true, Bool.or_false, Bool.false_eq_true, if_false, ← hsrc,
      ← hbits, hfirst, ← hs1]
  case noPatrol =>
    intro words s hnot
    obtain hnone | hdue := hnot
    · simp only [exec.eq_def, execPatrolRead, hnone, List.find?_nil, List.head?_nil, Option.or_none]
    · simp only [exec.eq_def, execPatrolRead, hdue, Bool.false_eq_true, if_false]
      cases ((patrolBlocks s).find? (fun b => decide (s.jrn.patrolNext ≤ b))).or (patrolBlocks s).head? <;> rfl
  case patrol =>
    intro words b s hnext hdue
    simp only [exec.eq_def, execPatrolRead, hnext, hdue, if_true]
  case noMount =>
    intro s hstate
    exact execJournalMount_of_state hstate
  case mountEmpty =>
    intro s2 s hstate hpages hs2
    simp only [exec.eq_def, execJournalMount, hstate, hpages, ne_eq, not_true_eq_false, if_false, List.getLast?_nil,
      Option.any_none, Option.map_none, Option.isSome_none, Bool.and_false, Bool.false_eq_true, ← hs2]
  case mountBare =>
    intro p s2 s hstate hlast hflag hrecords hs2
    simp only [exec.eq_def, execJournalMount, hstate, hlast, hflag, hrecords, ne_eq, not_true_eq_false, if_false, if_true,
      Option.any_some, Option.map_some, Option.bind_some, List.getLast?_nil, beq_self_eq_true, ← hs2]
  case mountContent =>
    intro p r s2 s hstate hlast hflag hrecord hs2
    simp only [exec.eq_def, execJournalMount, hstate, hlast, hflag, hrecord, ne_eq, not_true_eq_false, if_false, if_true,
      Option.any_some, Option.map_some, Option.bind_some, beq_self_eq_true, ← hs2]
  case mountLost =>
    intro p s2 s hstate hlast hflag hcause hs2
    simp only [exec.eq_def, execJournalMount, hstate, hlast, flags_beq_of_even hflag, hcause, ne_eq, not_true_eq_false,
      if_false, if_true, Option.any_some, Option.map_some, Option.isSome_some, Bool.and_true, Bool.false_eq_true,
      ← hs2]
  case mountKept =>
    intro p s2 s hstate hlast hflag hcause hs2
    simp only [exec.eq_def, execJournalMount, hstate, hlast, flags_beq_of_even hflag, hcause, ne_eq, not_true_eq_false,
      if_false, Option.any_some, Option.map_some, Bool.false_and, Bool.false_eq_true, ← hs2]
  case noEpoch =>
    intro s hnone
    simp only [exec.eq_def, execEpochSectorRecord, State.recordEpoch, hnone]
  case epoch =>
    intro v rest s hsome
    simp only [exec.eq_def, execEpochSectorRecord, State.recordEpoch, hsome]

end Sys2Proof.Machine
end

section
/-! PROOFS. The switch: ports, frames, gates, tables, streams and path delays. -/
namespace Sys2Proof.Machine

/-! ### Ports -/

theorem linkDown_of_down {s : State} {p : Fin 3} (hdown : s.ports[p].up = false) : s.linkDown p = s :=
  if_pos (by rw [hdown]; rfl)

/-- A line that has not been good for its time, at a speed the mode does not have, or on the port that is the time
reference does not come up. -/
theorem linkUp_of_not {s : State} {p : Fin 3} {speed : Nat} (hnot : s.ports[p].up = true ∨
    elapsed s s.ports[p].badAt (s.p 2 0x15 p 0x1A * 1000000) = false ∨
    (modeSpeeds (s.p 1 0x15 p 0x01)).contains speed = false ∨ (s.p 1 0x15 p 0x01 == 1 && s.tb.refType) = true) :
    s.linkUp p speed = s := by
  refine if_pos ?_
  obtain hup | hbad | hspeed | href := hnot
  · rw [hup]; rfl
  · rw [hbad, Bool.not_false, Bool.or_true]; rfl
  · rw [hspeed, Bool.not_false, Bool.or_true]; rfl
  · exact (congrArg _ href).trans (Bool.or_true _)

/-! ### Received frames -/

theorem execFrameReceived_of_up {s : State} {p : Fin 3} (hup : s.ports[p].up = true) (f : Frame) :
    exec (.frameReceived p f) s = .next (s.receiveFrame p f) := by
  simp only [exec.eq_def, execFrameReceived, hup, if_true]

theorem receiveFrame_of_length {s : State} {p : Fin 3} {f : Frame} (hlen : f.len < 64 ∨ s.p 2 0x15 p 0x16 < f.len) :
    s.receiveFrame p f = ((s.portCnt p 0).portAdd p 1 f.len).portCnt p 5 :=
  if_pos hlen

/-- A frame within the lengths of its port is none that is only counted. -/
theorem not_length {s : State} {p : Fin 3} {f : Frame} (hmin : 64 ≤ f.len) (hmax : f.len ≤ s.p 2 0x15 p 0x16) :
    ¬(f.len < 64 ∨ s.p 2 0x15 p 0x16 < f.len) := by
  rw [not_or]
  exact ⟨Nat.not_lt.mpr hmin, Nat.not_lt.mpr hmax⟩

/-- A frame to a reserved address: a bad FCS, gPTP, or only counted. -/
theorem receiveFrame_of_reserved {s : State} {p : Fin 3} {f : Frame} (hmin : 64 ≤ f.len)
    (hmax : f.len ≤ s.p 2 0x15 p 0x16) (hreserved : isReserved f.dst = true) :
    s.receiveFrame p f =
      (if f.fcsOk = false then ((s.portCnt p 0).portAdd p 1 f.len).badFcs p
      else if f.dst = 0x0180C200000E ∧ f.etype = 0x88F7 ∧ f.tag = none then
        ((s.portCnt p 0).portAdd p 1 f.len).takePtp p f
      else ((s.portCnt p 0).portAdd p 1 f.len).portCnt p 7) := by
  simp only [State.receiveFrame, not_length hmin hmax, hreserved, if_false, if_true, Bool.not_eq_true']

/-- Any other frame that its port's class rules filter is only counted. -/
theorem receiveFrame_of_filtered {s : State} {p : Fin 3} {f : Frame} (hmin : 64 ≤ f.len)
    (hmax : f.len ≤ s.p 2 0x15 p 0x16) (hopen : isReserved f.dst = false) (hclass : rxClass s p f = none) :
    s.receiveFrame p f = ((s.portCnt p 0).portAdd p 1 f.len).portCnt p 6 := by
  simp only [State.receiveFrame, not_length hmin hmax, hopen, hclass, if_false, Bool.false_eq_true]

/-- Any other frame that has a class is bridged, or with a bad FCS counted and perhaps cut through. -/
theorem receiveFrame_of_class {s : State} {p : Fin 3} {f : Frame} {c : RxClass} (hmin : 64 ≤ f.len)
    (hmax : f.len ≤ s.p 2 0x15 p 0x16) (hopen : isReserved f.dst = false) (hclass : rxClass s p f = some c) :
    s.receiveFrame p f =
      (if f.fcsOk = true then ((s.portCnt p 0).portAdd p 1 f.len).bridge p f c
      else if f.dst = gclRing ∨ (f.rtag.isNone && portRestricted s p) = true then
        ((s.portCnt p 0).portAdd p 1 f.len).badFcs p
      else (rxPorts s p f c).foldl (fun t q => t.stomp p f c s.sw.nextBuf q)
        ({ ((s.portCnt p 0).portAdd p 1 f.len).badFcs p with
          sw := { (((s.portCnt p 0).portAdd p 1 f.len).badFcs p).sw with
            nextBuf := (((s.portCnt p 0).portAdd p 1 f.len).badFcs p).sw.nextBuf + 1 } } : State)) := by
  simp only [State.receiveFrame, not_length hmin hmax, hopen, hclass, if_false, Bool.false_eq_true]

/-! ### Streams -/

/-- A test period that is not due. -/
theorem execLatentTestPeriod_of_not {s : State} {i : Fin 256} (hnot : (streamCfg s i).idMode = 0 ∨
    (streamCfg s i).latent = false ∨ elapsed s (streamSt s i).testAt 2000000000 = false) :
    execLatentTestPeriod i s = .next s := by
  refine if_neg ?_
  rw [Bool.and_eq_true, Bool.and_eq_true, bne_iff_ne]
  rintro ⟨⟨hmode, hlatent⟩, hdue⟩
  obtain hmode' | hlatent' | hdue' := hnot
  · exact hmode hmode'
  · exact Bool.false_ne_true (hlatent'.symm.trans hlatent)
  · exact Bool.false_ne_true (hdue'.symm.trans hdue)

/-- A test period that is due reports copies that differ, and starts again. -/
theorem execLatentTestPeriod_of_due {s : State} {i : Fin 256} (hmode : (streamCfg s i).idMode ≠ 0)
    (hlatent : (streamCfg s i).latent = true) (hdue : elapsed s (streamSt s i).testAt 2000000000 = true) :
    execLatentTestPeriod i s =
      (if (streamSt s i).testDup + (streamCfg s i).latentDiff < (streamSt s i).testPassed then
        .next (((s.setStream { streamSt s i with
          testPassed := 0, testDup := 0, testAt := s.tb.mono, latent := true }).orP 0x16 0 0x15 4).raise
          (ident .bbs 5) 0 0 (BitVec.ofNat 32 i))
      else .next (s.setStream { streamSt s i with testPassed := 0, testDup := 0, testAt := s.tb.mono })) := by
  simp only [execLatentTestPeriod, hlatent, hdue, bne_iff_ne.mpr hmode, Bool.and_self, if_true]

/-! ### Path delays -/

theorem execPdelayReq_of_not {s : State} {p : Fin 3} {d : Option Nat} (hnot : s.ports[p].up = false ∨
    sinceLast s s.ports[p].pdelayAt (logSeconds (s.pI 1 0x15 p 0x0A)) = false) :
    execPdelayReq p d s = .next s := by
  refine congrArg _ (if_neg ?_)
  rw [Bool.and_eq_true]
  rintro ⟨hup, hdue⟩
  obtain hdown | hearly := hnot
  · exact Bool.false_ne_true (hdown.symm.trans hup)
  · exact Bool.false_ne_true (hearly.symm.trans hdue)

theorem execPdelayReq_of_due {s : State} {p : Fin 3} {d : Option Nat} (hup : s.ports[p].up = true)
    (hdue : sinceLast s s.ports[p].pdelayAt (logSeconds (s.pI 1 0x15 p 0x0A)) = true) :
    execPdelayReq p d s =
      .next (((s.modPort p (fun k => { k with pdelayAt := some s.tb.mono })).sendPtp p (ptpMessage 0x2 54)).pdelay p d) := by
  simp only [execPdelayReq, hup, hdue, Bool.and_self, if_true]

/-- What one completed exchange with delay `v` makes of the port, once the free value and its state are known. -/
theorem pdelay_some {s s1 s2 : State} {p : Fin 3} {v mean r limit : Nat} {ex : List Nat}
    (hex : ex = ((s.ports[p]).exchanges ++ [v]).drop ((s.ports[p]).exchanges.length + 1 - 8))
    (hmean : mean = meanDelay ex)
    (hdraw : (r, s1) = (if 1 ≤ (s.ports[p]).okRun then s.draw else (s.p 4 0x15 p 0x0D, s)))
    (hs2 : s2 = ((s1.modPort p (fun k => { k with exchanges := ex, okRun := k.okRun + 1, lostRun := 0 })).setP
      4 0x15 p 0x0C mean).setP 4 0x15 p 0x0D r)
    (hlimit : limit = s.p 4 0x15 p 0x0B * 1000) :
    s.pdelay p (some v) = (if limit < v ∨ limit < mean then s2.loseCapable p true
      else if 1 ≤ (s.ports[p]).okRun ∧ (s.ports[p]).asCapable = false then
        (s2.modPort p (fun k => { k with asCapable := true })).endFault (ident .bbs 7) 8 p
      else s2) := by
  simp only [State.pdelay, ge_iff_le, ← hex, ← hmean, ← hdraw, ← hs2, ← hlimit]

/-- Settles O57: each command of the switch by the branches of its rule. A VLAN failure counted before a bad FCS, BBS-07
that ends at the fall of the link and the table numbers of TABLE_ECC_REWRITE (log 33), and the start of LINK_UP_HOLD and
of the pdelay (log 43) are the model's choices. -/
theorem theSwitchForwardsAndAges : Obligations.TheSwitchForwardsAndAges := by
  refine ⟨?downAlready, ?down, ?up, ?notUp, ?frameDown, ?frameLength, ?reservedBad, ?reservedPtp, ?reservedOther,
    ?filtered, ?bridged, ?badCounted, ?badStomped, ?gate, ?list, ?listEarly, ?listNone, ?ageing, ?noAgeing, ?flushAll,
    ?flushSome, ?flushRange, ?flushRight, ?eccMac, ?eccOther, ?testNot, ?testDiffers, ?testSame, ?historyNot,
    ?history, ?delayNot, ?delayLost, ?delay⟩
  case downAlready =>
    intro p s hdown
    exact congrArg _ (linkDown_of_down hdown)
  case down =>
    intro p dropped s1 s2 s3 s4 s hup hdropped hs1 hs2 hs3 hs4
    simp only [exec.eq_def, execPortLinkDown, State.linkDown, hup, Bool.not_true, Bool.false_eq_true, if_false, ← hdropped,
      ← hs1, ← hs2, ← hs3, ← hs4] <;> rfl
  case up =>
    intro p speed s hdown hbad hspeed href
    simp only [exec.eq_def, execPortLinkUp, State.linkUp, hdown, hbad, hspeed, href, Bool.not_true, Bool.or_self,
      Bool.false_eq_true, if_false]
  case notUp =>
    intro p speed s hnot
    exact congrArg _ (linkUp_of_not hnot)
  case frameDown =>
    intro p f s hdown
    simp only [exec.eq_def, execFrameReceived, hdown, Bool.false_eq_true, if_false]
  case frameLength =>
    intro p f s hup hlen
    rw [execFrameReceived_of_up hup, receiveFrame_of_length hlen]
  case reservedBad =>
    intro p f s1 s hup hmin hmax hreserved hbad hs1
    rw [execFrameReceived_of_up hup, receiveFrame_of_reserved hmin hmax hreserved, if_pos hbad, hs1]
  case reservedPtp =>
    intro p f s1 s hup hmin hmax hreserved hgood hptp hs1
    rw [execFrameReceived_of_up hup, receiveFrame_of_reserved hmin hmax hreserved,
      if_neg (by rw [hgood]; exact Bool.false_ne_true.symm), if_pos hptp, hs1]
  case reservedOther =>
    intro p f s1 s hup hmin hmax hreserved hgood hother hs1
    have hnot : ¬(f.dst = 0x0180C200000E ∧ f.etype = 0x88F7 ∧ f.tag = none) := by
      simpa only [not_and_or] using hother
    rw [execFrameReceived_of_up hup, receiveFrame_of_reserved hmin hmax hreserved,
      if_neg (by rw [hgood]; exact Bool.false_ne_true.symm), if_neg hnot, hs1]
  case filtered =>
    intro p f s1 s hup hmin hmax hopen hclass hs1
    rw [execFrameReceived_of_up hup, receiveFrame_of_filtered hmin hmax hopen hclass, hs1]
  case bridged =>
    intro p f c s1 s hup hmin hmax hopen hclass hgood hs1
    rw [execFrameReceived_of_up hup, receiveFrame_of_class hmin hmax hopen hclass, if_pos hgood, hs1]
  case badCounted =>
    intro p f c s1 s hup hmin hmax hopen hclass hbad hkept hs1
    rw [execFrameReceived_of_up hup, receiveFrame_of_class hmin hmax hopen hclass,
      if_neg (by rw [hbad]; exact Bool.false_ne_true), if_pos hkept, hs1]
  case badStomped =>
    intro p f c s2 s hup hmin hmax hopen hclass hbad hring hfree hs2
    have hnot : ¬(f.dst = gclRing ∨ (f.rtag.isNone && portRestricted s p) = true) := by
      rw [hfree, not_or]
      exact ⟨hring, Bool.false_ne_true⟩
    rw [execFrameReceived_of_up hup, receiveFrame_of_class hmin hmax hopen hclass,
      if_neg (by rw [hbad]; exact Bool.false_ne_true), if_neg hnot, hs2]
  case gate =>
    intro p s
    rfl
  case list =>
    intro p x t s hlist hreached
    simp only [exec.eq_def, execGateListChange, hlist, hreached, if_true]
  case listEarly =>
    intro p x t s hlist hreached
    simp only [exec.eq_def, execGateListChange, hlist, hreached, Bool.false_eq_true, if_false]
  case listNone =>
    intro p s hnone
    simp only [exec.eq_def, execGateListChange, hnone]
  case ageing =>
    intro s hage
    simp only [exec.eq_def, execMacAgeing, hage, if_false]
  case noAgeing =>
    intro s hage
    simp only [exec.eq_def, execMacAgeing, hage, if_true]
  case flushAll =>
    intro q s hright
    simp only [exec.eq_def, execMacFlush, guardWrite_of_right hright, macFlushCmd, if_true, finish_okRes]
  case flushSome =>
    intro q mask s hright hzero hports
    have hall : mask ≠ 0xFF := by rintro rfl; exact absurd hports (by decide)
    have hin : ¬(mask = 0 ∨ 7 < mask) := not_or.mpr ⟨hzero, by bv_omega⟩
    simp only [exec.eq_def, execMacFlush, guardWrite_of_right hright, macFlushCmd, hall, hin, if_false, finish_okRes]
  case flushRange =>
    intro q mask s hright hall hout
    simp only [exec.eq_def, execMacFlush, guardWrite_of_right hright, macFlushCmd, hall, hout, if_false, if_true,
      finish_refuse]
  case flushRight =>
    intro q mask s hright
    simp only [exec.eq_def, execMacFlush, guardWrite_of_no_right hright, finish_refuse]
  case eccMac =>
    intro i s
    simp only [exec.eq_def, execTableEccRewrite, if_true]
  case eccOther =>
    intro table i s htable
    simp only [exec.eq_def, execTableEccRewrite, htable, if_false]
  case testNot =>
    intro i s hnot
    exact execLatentTestPeriod_of_not hnot
  case testDiffers =>
    intro i y s hmode hlatent hdue hdiffer hy
    rw [hy]
    exact (execLatentTestPeriod_of_due hmode hlatent hdue).trans (if_pos hdiffer)
  case testSame =>
    intro i y s hmode hlatent hdue hsame hy
    rw [hy]
    exact (execLatentTestPeriod_of_due hmode hlatent hdue).trans (if_neg (Nat.not_lt.mpr hsame))
  case historyNot =>
    intro i s hnot
    refine if_neg ?_
    rw [Bool.and_eq_true, bne_iff_ne]
    rintro ⟨hmode, hrecover⟩
    obtain hmode' | hrecover' := hnot
    · exact hmode hmode'
    · exact Bool.false_ne_true (hrecover'.symm.trans hrecover)
  case history =>
    intro i s hmode hrecover
    simp only [exec.eq_def, execRecoveryResetTimeout, freshHistory, hrecover, bne_iff_ne.mpr hmode, Bool.and_self, if_true]
  case delayNot =>
    intro p d s hnot
    exact execPdelayReq_of_not hnot
  case delayLost =>
    intro p s0 s1 s hup hdue hs0 hs1
    simp only [exec.eq_def, execPdelayReq_of_due hup hdue, State.pdelay, ge_iff_le, ← hs0, ← hs1]
  case delay =>
    intro p v mean r limit ex s0 s1 s2 s hup hdue hs0 hex hmean hdraw hs2 hlimit
    simp only [exec.eq_def, execPdelayReq_of_due hup hdue, ← hs0, pdelay_some hex hmean hdraw hs2 hlimit]

end Sys2Proof.Machine
end

section
/-! PROOFS. The ring: its tests, topology frames, swaps and missing copies. -/
namespace Sys2Proof.Machine

/-! ### The ring test -/

/-- What the root makes of the interval that ends. -/
def ringJudged (s : State) : State :=
  match ringState s, (ringPorts s).all (fun p => decide (0 < (s.ports[p]).tests)) with
  | 1, true => { s with sw := { s.sw with missRun := 0 } }
  | 1, false => if s.sw.missRun + 1 ≥ 3 then s.ringBreak else { s with sw := { s.sw with missRun := s.sw.missRun + 1 } }
  | _, true => if s.sw.goodRun + 1 ≥ 3 then s.ringClose else { s with sw := { s.sw with goodRun := s.sw.goodRun + 1 } }
  | _, false => { s with sw := { s.sw with goodRun := 0 } }

theorem ringJudged_of_closed {s : State} (hstate : ringState s = 1)
    (hall : (ringPorts s).all (fun p => decide (0 < (s.ports[p]).tests)) = true) :
    ringJudged s = { s with sw := { s.sw with missRun := 0 } } := by
  simp only [ringJudged, hstate, hall]

theorem ringJudged_of_missed {s : State} (hstate : ringState s = 1)
    (hall : (ringPorts s).all (fun p => decide (0 < (s.ports[p]).tests)) = false) :
    ringJudged s = (if 3 ≤ s.sw.missRun + 1 then s.ringBreak
      else { s with sw := { s.sw with missRun := s.sw.missRun + 1 } }) := by
  simp only [ringJudged, hstate, hall, ge_iff_le]

theorem ringJudged_of_round {s : State} (hstate : ringState s ≠ 1)
    (hall : (ringPorts s).all (fun p => decide (0 < (s.ports[p]).tests)) = true) :
    ringJudged s = (if 3 ≤ s.sw.goodRun + 1 then s.ringClose
      else { s with sw := { s.sw with goodRun := s.sw.goodRun + 1 } }) := by
  simp only [ringJudged, hall, ge_iff_le]

theorem ringJudged_of_broken {s : State} (hstate : ringState s ≠ 1)
    (hall : (ringPorts s).all (fun p => decide (0 < (s.ports[p]).tests)) = false) :
    ringJudged s = { s with sw := { s.sw with goodRun := 0 } } := by
  simp only [ringJudged, hall]

theorem execRingTestInterval_of_not {s : State}
    (hnot : isRoot s = false ∨ elapsed s s.sw.ringAt (s.p 2 0x16 0 0x0D * 1000) = false) :
    exec .ringTestInterval s = .next s := by
  refine if_neg ?_
  rw [Bool.and_eq_true]
  rintro ⟨hroot, hdue⟩
  obtain hroot' | hdue' := hnot
  · exact Bool.false_ne_true (hroot'.symm.trans hroot)
  · exact Bool.false_ne_true (hdue'.symm.trans hdue)

/-- A ring test that is due sends the next after what the root made of the last. -/
theorem execRingTestInterval_of_due {j s1 s2 s : State} (hroot : isRoot s = true)
    (hdue : elapsed s s.sw.ringAt (s.p 2 0x16 0 0x0D * 1000) = true) (hjudged : ringJudged s = j)
    (hs1 : s1 = (ringPorts s).foldl (fun (t : State) p => t.modPort p (fun k => { k with tests := 0 })) j)
    (hs2 : s2 = { s1 with sw := { s1.sw with testSeq := s1.sw.testSeq + 1, ringAt := s1.tb.mono } }) :
    exec .ringTestInterval s = .next (s2.sendRing 1) := by
  rw [hs2, hs1, ← hjudged]
  exact if_pos (by rw [hroot, hdue]; rfl)

/-! ### Topology frames -/

/-- VLAN 0 is no VLAN (R427). -/
theorem vlanOf_zero (s : State) : vlanOf s 0 = none := by
  refine List.findSome?_eq_none_iff.mpr fun e _ => if_neg ?_
  rw [bne_self_eq_false, Bool.and_false]
  exact Bool.false_ne_true

/-- A topology frame that does not end here is sent on with the tag that it has, or else with class 7 and VLAN 0. -/
theorem execTopologyFrameReceived_of_passed {d : Delivered} {o : Fin 3} {pcp : Fin 8} {vid : BitVec 12}
    {untagged : Nat} {s1 s3 s4 s : State} (hfound : s.delivered.find? (fun d => d.frame.dst == gclRing) = some d)
    (hother : otherRing s d.port = some o) (hs1 : s1 = { s with delivered := s.delivered.erase d })
    (hends : ((parseGcl d).srcNode == nodeAddress s || (isRoot s &&
      ((parseGcl d).kind == 1 || (parseGcl d).kind == 2))) = false)
    (htag : d.frame.tag = some (pcp, vid) ∨ (d.frame.tag = none ∧ pcp = 7 ∧ vid = 0))
    (huntagged : ((vlanOf s vid.toNat).map (·.2)).getD 0 = untagged)
    (hs3 : s3 = { s1 with sw := { s1.sw with nextBuf := s1.sw.nextBuf + 1 } })
    (hs4 : s4 = s3.sendOn o d.frame pcp vid untagged false none s1.sw.nextBuf) :
    exec .topologyFrameReceived s = .next ((s4.gclReceive d).2.elim (s4.gclReceive d).1
      (fun g => (s4.gclReceive d).1.actTopology g o)) := by
  have hsent : exec .topologyFrameReceived s =
      .next (match (s4.gclReceive d).2 with
        | some g => (s4.gclReceive d).1.actTopology g o
        | none => (s4.gclReceive d).1) := by
    rw [hs4, hs3, hs1, ← huntagged]
    obtain htag | ⟨htag, rfl, rfl⟩ := htag
    · cases hvlan : vlanOf s vid.toNat <;>
        simp only [exec.eq_def, execTopologyFrameReceived, hfound, hother, hends, htag, hvlan, Bool.false_eq_true, if_false,
          Option.map_none, Option.map_some, Option.getD_none, Option.getD_some] <;> rfl
    · cases hvlan : vlanOf s (0 : BitVec 12).toNat <;>
        simp only [exec.eq_def, execTopologyFrameReceived, hfound, hother, hends, htag, hvlan, Bool.false_eq_true, if_false,
          Option.map_none, Option.map_some, Option.getD_none, Option.getD_some] <;> rfl
  rw [hsent]
  cases (s4.gclReceive d).2 <;> rfl

/-! ### Swaps and missing copies -/

/-- A ring swap that is due away from the root of a closed ring, or with no port to move to, is noted as refused. -/
theorem execRingSwapInstant_of_refused {t : CellTime} {s0 s : State}
    (hready : swapReady s 2 0 (swapPeriod s / 2) s.red.swapMark = some (t, s0))
    (hnot : isRoot s = false ∨ ringState s ≠ 1 ∨ s.red.blocked.bind (otherRing s) = none) :
    execRingSwapInstant s =
      .next (({ s0 with red := { s0.red with swapMark := markNow s t } } : State).lastSwap t 2 0 2) := by
  simp only [execRingSwapInstant, hready]
  obtain hroot | hstate | hblocked := hnot
  · simp only [hroot, Bool.false_and]
  · simp only [beq_eq_false_iff_ne.mpr hstate, Bool.and_false]
  · simp only [hblocked]
    cases isRoot s && ringState s == 1 <;> rfl

/-- A copy missing on a ring port without another one, or with the device out of the ring or a port down, is only
forgotten. -/
theorem execRingCopyMissing_of_forgotten {x : RingMark} {s : State}
    (hfound : s.red.ringWatch.find? (fun x => elapsed s x.at_ 1000000) = some x)
    (hnot : ∀ o, otherRing s x.port = some o → (inRing s && s.ports[x.port].up && s.ports[o].up) = false) :
    execRingCopyMissing s = .next { s with red := { s.red with ringWatch := s.red.ringWatch.erase x } } := by
  simp only [execRingCopyMissing, hfound]
  cases hother : otherRing s x.port with
  | none => rfl
  | some o => exact if_pos (by rw [hnot o hother]; rfl)

/-- Settles O58: each command of the ring by the branches of its rule. A ring swap that is ignored but kept in LAST_SWAP
(log 34), and a ring copy that is only forgotten where a port is down (log 43), are the model's choices. -/
theorem theRingIsTestedAndClosed : Obligations.TheRingIsTestedAndClosed := by
  refine ⟨?testNot, ?testClosed, ?testThirdMiss, ?testMiss, ?testThirdRound, ?testRound, ?testBroken, ?noFrame,
    ?frameDropped, ?frameActed, ?frameEnded, ?framePassed, ?framePassedBare, ?noSwap, ?swap, ?swapRefused, ?noCopy,
    ?copy, ?copyForgotten⟩
  case testNot =>
    intro s hnot
    exact execRingTestInterval_of_not hnot
  case testClosed =>
    intro s1 s2 s hroot hdue hstate hall hs1 hs2
    exact execRingTestInterval_of_due hroot hdue (ringJudged_of_closed hstate hall) hs1 hs2
  case testThirdMiss =>
    intro s1 s2 s hroot hdue hstate hall hrun hs1 hs2
    exact execRingTestInterval_of_due hroot hdue
      ((ringJudged_of_missed hstate hall).trans (if_pos (Nat.succ_le_succ hrun))) hs1 hs2
  case testMiss =>
    intro s1 s2 s hroot hdue hstate hall hrun hs1 hs2
    exact execRingTestInterval_of_due hroot hdue
      ((ringJudged_of_missed hstate hall).trans (if_neg (Nat.not_le.mpr (Nat.succ_lt_succ hrun)))) hs1 hs2
  case testThirdRound =>
    intro s1 s2 s hroot hdue hstate hall hrun hs1 hs2
    exact execRingTestInterval_of_due hroot hdue
      ((ringJudged_of_round hstate hall).trans (if_pos (Nat.succ_le_succ hrun))) hs1 hs2
  case testRound =>
    intro s1 s2 s hroot hdue hstate hall hrun hs1 hs2
    exact execRingTestInterval_of_due hroot hdue
      ((ringJudged_of_round hstate hall).trans (if_neg (Nat.not_le.mpr (Nat.succ_lt_succ hrun)))) hs1 hs2
  case testBroken =>
    intro s1 s2 s hroot hdue hstate hall hs1 hs2
    exact execRingTestInterval_of_due hroot hdue (ringJudged_of_broken hstate hall) hs1 hs2
  case noFrame =>
    intro s hnone
    simp only [exec.eq_def, execTopologyFrameReceived, hnone]
  case frameDropped =>
    intro d s1 s hfound hother hs1
    simp only [exec.eq_def, execTopologyFrameReceived, hfound, hother, hs1]
  case frameActed =>
    intro d o s1 s4 g s hfound hother hs1 hends htaken
    simp only [exec.eq_def, execTopologyFrameReceived, hfound, hother, hends, if_true, ← hs1, htaken]
  case frameEnded =>
    intro d o s1 s4 s hfound hother hs1 hends htaken
    simp only [exec.eq_def, execTopologyFrameReceived, hfound, hother, hends, if_true, ← hs1, htaken]
  case framePassed =>
    intro d o pcp vid members untagged s1 s3 s4 s hfound hother hs1 hends htag hvlan hs3 hs4
    rw [execTopologyFrameReceived_of_passed hfound hother hs1 hends (.inl htag) (by rw [hvlan]; rfl) hs3 hs4]
    cases (s4.gclReceive d).2 <;> rfl
  case framePassedBare =>
    intro d o pcp vid s1 s3 s4 s hfound hother hs1 hends htag hs3 hs4
    have hsent : exec .topologyFrameReceived s = .next ((s4.gclReceive d).2.elim (s4.gclReceive d).1
        (fun g => (s4.gclReceive d).1.actTopology g o)) := by
      obtain ⟨htag, hvlan⟩ | hbare := htag
      · exact execTopologyFrameReceived_of_passed hfound hother hs1 hends (.inl htag) (by rw [hvlan]; rfl) hs3 hs4
      · exact execTopologyFrameReceived_of_passed hfound hother hs1 hends (.inr hbare)
          (by rw [hbare.2.2]; exact congrArg (fun v => (v.map (·.2)).getD 0) (vlanOf_zero s)) hs3 hs4
    rw [hsent]
    cases (s4.gclReceive d).2 <;> rfl
  case noSwap =>
    intro s hnone
    simp only [exec.eq_def, execRingSwapInstant, hnone]
  case swap =>
    intro t s0 s1 s2 p o s hready hroot hstate hblocked hother hs1 hs2
    simp only [exec.eq_def, execRingSwapInstant, hready, hroot, hstate, hblocked, hother, beq_self_eq_true, Bool.and_self,
      Option.bind_some, hs2, hs1]
  case swapRefused =>
    intro t s0 s hready hnot
    exact execRingSwapInstant_of_refused hready hnot
  case noCopy =>
    intro s hnone
    simp only [exec.eq_def, execRingCopyMissing, hnone]
  case copy =>
    intro x o s1 s hfound hother hring hup hotherUp hs1
    simp only [exec.eq_def, execRingCopyMissing, hfound, hother, hring, hup, hotherUp, Bool.and_self, Bool.not_true,
      Bool.false_eq_true, if_false, hs1]
  case copyForgotten =>
    intro x s hfound hnot
    exact execRingCopyMissing_of_forgotten hfound hnot

end Sys2Proof.Machine
end

section
/-! PROOFS. GCL frames: their checks, nodes, versions, commands, synchronisation and fault records. -/
namespace Sys2Proof.Machine

/-! ### HELLO and nodes -/

theorem execHelloSend_of_not {s : State}
    (hnot : (s.gcl.helloDue || sinceLast s s.gcl.helloAt (s.p 2 0x17 0 0x0B * 1000000)) = false ∨
      s.ports.toList.any (fun p => p.up) = false) : execHelloSend s = .next s := by
  refine if_neg ?_
  rw [Bool.and_eq_true]
  rintro ⟨hdue, hup⟩
  obtain hearly | hdown := hnot
  · exact Bool.false_ne_true (hearly.symm.trans hdue)
  · exact Bool.false_ne_true (hdown.symm.trans hup)

theorem execDuplicateTimeout_of_not {s : State}
    (hnot : gclState s ≠ 3 ∨ elapsed s s.gcl.conflictAt (nodeTimeoutNs s) = false) :
    execDuplicateTimeout s = .next s := by
  refine if_neg ?_
  rintro ⟨hstate, hgone⟩
  obtain hstate' | hthere := hnot
  · exact hstate' hstate
  · exact Bool.false_ne_true (hthere.symm.trans hgone)

/-- A node silent for its time-out, in the two forms that the list of nodes makes of it. -/
theorem execNodeTimeout_of_silent {n : Nat} {e : NodeEntry} {s1 s : State} (hnode : presentNode s n = some e)
    (hsilent : elapsed s e.heard (nodeTimeoutNs s) = true)
    (hs1 : s1 = s.setNodes (s.gcl.nodes.map (fun (x : NodeEntry) =>
      if x.addr == n then { x with lost := true } else x))) :
    execNodeTimeout n s = .next (if (listedNodes s).contains n then
      (s1.orP 0x17 0 0x15 4).raise (ident .bbs 16) 0 0 (BitVec.ofNat 32 n) else s1).rangerSucceed := by
  simp only [execNodeTimeout, hnode, hsilent, if_true, hs1]

/-! ### NEGOTIATE -/

/-- A NEGOTIATE of the authority, before the node joins or not. -/
theorem execGclNegotiate_of_authority {f : GclFrame} {s1 s2 s : State} {v required missing : Nat}
    (htaken : s.takeFrame 0x03 1 = some (f, s1)) (hauthority : frameAuthority s f = true)
    (hv : v = chooseVersion (beAt f.payload 0 1)) (hrequired : required = beAt f.payload 4 4)
    (hmissing : missing = if beAt f.payload 0 1 < 0x20 then required else required &&&
      (0xFFFFFFFF ^^^ featuresAt v))
    (hs2 : s2 = (((s1.setP 1 0x17 0 0x06 v).setP 4 0x17 0 0x08 required).setP 4 0x17 0 0x09
      missing).setBytes 0x17 0 0x16 0 (leBytes 2 f.srcNode ++ leBytes 1 f.masterId ++ leBytes 1 v ++ leBytes 4 required
      ++ leBytes 4 missing ++ leBytes 4 (ctNs (now s)))) :
    execGclNegotiate s =
      .next ((if gclState s = 1 ∨ gclState s = 2 then s2.setGclState (joinedState s2) 0 else s2).answerNegotiate f
        (gclState (if gclState s = 1 ∨ gclState s = 2 then s2.setGclState (joinedState s2) 0 else s2))) := by
  simp only [execGclNegotiate, htaken, hauthority, Bool.not_true, Bool.false_eq_true, if_false, ← hrequired, ← hv,
    ← hmissing, ← hs2]

/-! ### NOTIFY -/

theorem execNotify_of_not {ep : Fin 8} {s : State}
    (hnot : ep = 0 ∨ enabledBits s ep &&& ~~~(s.gcl.notify[ep]).bits = 0) : execNotify ep s = .next s := by
  refine if_neg ?_
  rintro ⟨hep, hbits⟩
  exact hnot.elim hep hbits

theorem execNotifyRepeat_of_not {ep : Fin 8} {s : State} (hnot : ep = 0 ∨ s.p 2 0x17 0 0x12 = 0 ∨
    enabledBits s ep = 0 ∨ elapsed s (s.gcl.notify[ep]).at_ (s.p 2 0x17 0 0x12 * 1000000) = false) :
    execNotifyRepeat ep s = .next s := by
  refine if_neg ?_
  rintro ⟨hep, hinterval, hbits, hdue⟩
  obtain hep' | hinterval' | hbits' | hearly := hnot
  · exact hep hep'
  · exact hinterval hinterval'
  · exact hbits hbits'
  · exact Bool.false_ne_true (hearly.symm.trans hdue)

/-- Settles O59: each command of GCL by the branches of its rule. The body of a SCHED cut to 1,016 bytes (log 11) is the
model's choice. -/
theorem gclFramesAreTakenAndAnswered : Obligations.GclFramesAreTakenAndAnswered := by
  refine ⟨?noFrame, ?otherType, ?unchecked, ?kept, ?ignored, ?discarded, ?noHello, ?helloOutside, ?hello, ?helloSent,
    ?helloNotSent, ?noNode, ?nodeHeard, ?nodeSilent, ?nodeListed, ?duplicateGone, ?duplicateThere, ?noNegotiate,
    ?negotiateOther, ?negotiateJoins, ?negotiateStays, ?noCmd, ?cmd, ?noSched, ?schedEmpty, ?sched, ?notify,
    ?notifyNot, ?again, ?againNot, ?noSync, ?syncKnown, ?syncRefused, ?sync, ?noRecords, ?records⟩
  case noFrame =>
    intro s hnone
    simp only [exec.eq_def, execGclFrameReceived, hnone]
  case otherType =>
    intro d s hfound htype
    simp only [exec.eq_def, execGclFrameReceived, hfound, htype, ne_eq, not_false_eq_true, if_true]
  case unchecked =>
    intro d s1 s2 s hfound hs1 htype hreceived
    simp only [exec.eq_def, execGclFrameReceived, hfound, htype, ne_eq, not_true_eq_false, if_false, ← hs1, hreceived]
  case kept =>
    intro d s1 s2 f s hfound hs1 htype hreceived hlater
    simp only [exec.eq_def, execGclFrameReceived, hfound, htype, ne_eq, not_true_eq_false, if_false, ← hs1, hreceived, hlater]
  case ignored =>
    intro d s1 s2 f s hfound hs1 htype hreceived hlater
    simp only [exec.eq_def, execGclFrameReceived, hfound, htype, ne_eq, not_true_eq_false, if_false, ← hs1, hreceived, hlater]
  case discarded =>
    intro d s1 s2 f k s hfound hs1 htype hreceived hlater
    simp only [exec.eq_def, execGclFrameReceived, hfound, htype, ne_eq, not_true_eq_false, if_false, ← hs1, hreceived, hlater]
  case noHello =>
    intro s hnone
    simp only [exec.eq_def, execHelloReceived, hnone]
  case helloOutside =>
    intro f s1 s htaken haddress
    simp only [exec.eq_def, execHelloReceived, htaken, Nat.not_le.mpr haddress, if_false]
  case hello =>
    intro f s1 s htaken haddress
    simp only [exec.eq_def, execHelloReceived, htaken, haddress, if_true]
  case helloSent =>
    intro s1 s hdue hup hs1
    simp only [exec.eq_def, execHelloSend, hdue, hup, Bool.and_self, if_true, ← hs1]
  case helloNotSent =>
    intro s hnot
    exact execHelloSend_of_not hnot
  case noNode =>
    intro n s hnone
    simp only [exec.eq_def, execNodeTimeout, hnone]
  case nodeHeard =>
    intro n e s hnode hheard
    simp only [exec.eq_def, execNodeTimeout, hnode, hheard, Bool.false_eq_true, if_false]
  case nodeSilent =>
    intro n e s1 s hnode hsilent hs1 hlisted
    simp only [exec.eq_def, execNodeTimeout_of_silent hnode hsilent hs1, hlisted, Bool.false_eq_true, if_false]
  case nodeListed =>
    intro n e s1 s hnode hsilent hs1 hlisted
    simp only [exec.eq_def, execNodeTimeout_of_silent hnode hsilent hs1, hlisted, if_true]
  case duplicateGone =>
    intro s hstate hgone
    simp only [exec.eq_def, execDuplicateTimeout, hstate, hgone, and_self, if_true]
  case duplicateThere =>
    intro s hnot
    exact execDuplicateTimeout_of_not hnot
  case noNegotiate =>
    intro s hnone
    simp only [exec.eq_def, execGclNegotiate, hnone]
  case negotiateOther =>
    intro f s1 s htaken hother
    simp only [exec.eq_def, execGclNegotiate, htaken, hother, Bool.not_false, if_true]
  case negotiateJoins =>
    intro f s1 s2 v required missing s htaken hauthority hv hrequired hmissing hs2 hstate
    simp only [exec.eq_def, execGclNegotiate_of_authority htaken hauthority hv hrequired hmissing hs2, hstate, if_true]
  case negotiateStays =>
    intro f s1 s2 v required missing s htaken hauthority hv hrequired hmissing hs2 hstate1 hstate2
    simp only [exec.eq_def, execGclNegotiate_of_authority htaken hauthority hv hrequired hmissing hs2, hstate1, hstate2,
      or_self, if_false]
  case noCmd =>
    intro s hnone
    simp only [exec.eq_def, execCmdFrame, hnone]
  case cmd =>
    intro f s1 s htaken
    simp only [exec.eq_def, execCmdFrame, htaken]
  case noSched =>
    intro s hnone
    simp only [exec.eq_def, execSchedFrame, hnone]
  case schedEmpty =>
    intro f s1 s htaken hempty
    simp only [exec.eq_def, execSchedFrame, htaken, hempty, if_true]
  case sched =>
    intro f s1 body s htaken hsome hbody
    simp only [exec.eq_def, execSchedFrame, htaken, hsome, Bool.false_eq_true, if_false, ← hbody]
  case notify =>
    intro ep s hep hbits
    exact if_pos ⟨hep, hbits⟩
  case notifyNot =>
    intro ep s hnot
    exact execNotify_of_not hnot
  case again =>
    intro ep s hep hinterval hbits hdue
    exact if_pos ⟨hep, hinterval, hbits, hdue⟩
  case againNot =>
    intro ep s hnot
    exact execNotifyRepeat_of_not hnot
  case noSync =>
    intro s hnone
    simp only [exec.eq_def, execSyncRequest, hnone]
  case syncKnown =>
    intro f s1 s htaken hknown
    simp only [exec.eq_def, execSyncRequest, htaken, hknown, if_true]
  case syncRefused =>
    intro f s1 code s htaken hnew hcode
    simp only [exec.eq_def, execSyncRequest, htaken, hnew, hcode, Bool.false_eq_true, if_false]
  case sync =>
    intro f s1 t ok s2 s htaken hnew hcode ht hrequested
    simp only [exec.eq_def, execSyncRequest, htaken, hnew, hcode, Bool.false_eq_true, if_false, State.answerSync, ← ht,
      ← hrequested]
  case noRecords =>
    intro s hnone
    simp only [exec.eq_def, execJournalFrameSend, hnone, List.take_nil, List.isEmpty_nil, if_true]
  case records =>
    intro s1 s hsome hs1
    simp only [exec.eq_def, execJournalFrameSend, hsome, Bool.false_eq_true, if_false, ← hs1]

end Sys2Proof.Machine
end

section
/-! PROOFS. Authority epochs, master pairs and the Ranger. -/
namespace Sys2Proof.Machine

/-! ### Epochs -/

theorem adoptDue_of_none {s : State} (hnone : s.gcl.pendingEpoch = none) : s.adoptDue = s := by
  simp only [State.adoptDue, hnone]

theorem adoptDue_of_due {s : State} {e : Word} {m : Nat} {t : CellTime} (hpending : s.gcl.pendingEpoch = some (e, m, t))
    (hdue : t = 0 ∨ reached t (now s) = true) : s.adoptDue = s.pairSwaps.adoptEpoch e m := by
  simp only [State.adoptDue, hpending, hdue, if_true]

theorem adoptDue_of_early {s : State} {e : Word} {m : Nat} {t : CellTime}
    (hpending : s.gcl.pendingEpoch = some (e, m, t)) (hset : t ≠ 0) (hearly : reached t (now s) = false) :
    s.adoptDue = s := by
  simp only [State.adoptDue, hpending, hset, hearly, Bool.false_eq_true, or_self, if_false]

/-- A Ranger that does not hold the role, or that has issued an epoch which waits, answers no query. -/
theorem rangerQuery_of_not {s : State} (hnot : rangerState s ≠ 2 ∨
    s.red.issued.any (fun (x : Word × Nat × CellTime) => !reached x.2.2 (now s)) = true) : s.rangerQuery = s := by
  obtain hstate | hissued := hnot
  · exact if_pos hstate
  · exact (congrArg _ (if_pos hissued)).trans (ite_self s)

/-! ### Pairs -/

theorem masterFin_val {m : Nat} (h : m ≤ 6) : (masterFin m).val = m :=
  Nat.mod_eq_of_lt (Nat.lt_succ_of_le h)

theorem takeover_of_not {s : State} {m : Fin 7} (hnot : ¬((pairState s m = 1 ∨ pairState s m = 2) ∧
    memberHeard s m (activeMember s m) (s.p 2 0x18 0 0x0F * 1000000) = false ∧
    memberHeard s m (1 - activeMember s m) (s.p 2 0x18 0 0x0F * 1000000) = true)) : s.takeover m = s :=
  if_neg hnot

/-- A pair swap that is due: what the takeover makes of it, then the swap or its refusal in the running state. -/
theorem pairSwap_of_ready {m : Fin 7} {t : CellTime} {s0 s1 s : State}
    (hready : swapReady s 1 m.val 0 (s.red.pairs[m]).swapMark = some (t, s0))
    (hs1 : s1 = (s0.modPair m (fun p => { p with swapMark := markNow s t })).takeover m) :
    s.pairSwap m = (if pairState s m ≠ 1 then s1
      else if (activeMember s1 m == activeMember s m && memberHeard s m 0 1000000000 && memberHeard s m 1 1000000000 &&
          !(s.red.pairs[m]).lastMissing.any (fun x => !elapsed s x 1000000000)) = true then
        ((s1.setPAt 1 0x18 0 0x04 m.val (1 - activeMember s m)).redCnt 5).lastSwap t 1 m.val 0
      else (((s1.redCnt 6).orP 0x18 0 0x17 4).raisePair m (1 - activeMember s m)).lastSwap t 1 m.val 1) := by
  simp only [State.pairSwap, hready, ← hs1, bne, Bool.not_not]

theorem execQueryRepeat_of_not {m : Fin 7} {s : State} (hnot : pairState s m ≠ 2 ∨ s.p 2 0x18 0 0x08 = 0xFFFF ∨
    (s.red.pairs[m]).querySent.all (fun t => elapsed s t (s.p 2 0x18 0 0x0E * 1000000)) = false) :
    execQueryRepeat m s = .next s := by
  refine if_neg ?_
  rintro ⟨hheld, hranger, hdue⟩
  obtain hheld' | hranger' | hearly := hnot
  · exact hheld' hheld
  · exact hranger hranger'
  · exact Bool.false_ne_true (hearly.symm.trans hdue)

theorem execArbTimeout_of_not {m : Fin 7} {s : State} (hnot : pairState s m ≠ 2 ∨ (s.red.pairs[m]).arbRaised = true ∨
    elapsed s (s.red.pairs[m]).heldAt (s.p 2 0x18 0 0x0D * 1000000) = false) : execArbTimeout m s = .next s := by
  refine if_neg ?_
  rintro ⟨hheld, hraised, hdue⟩
  obtain hheld' | hraised' | hearly := hnot
  · exact hheld' hheld
  · exact Bool.false_ne_true (hraised.symm.trans hraised')
  · exact Bool.false_ne_true (hearly.symm.trans hdue)

/-! ### The Ranger -/

theorem execRangerListenTimeout_of_not {s : State}
    (hnot : rangerState s ≠ 1 ∨ elapsed s s.red.rangerSince (nodeTimeoutNs s) = false) :
    execRangerListenTimeout s = .next s := by
  refine if_neg ?_
  rintro ⟨hstate, hdue⟩
  obtain hstate' | hearly := hnot
  · exact hstate' hstate
  · exact Bool.false_ne_true (hearly.symm.trans hdue)

theorem execRangerStandDownTimeout_of_not {s : State}
    (hnot : rangerState s ≠ 3 ∨ elapsed s s.red.rangerHeard (nodeTimeoutNs s) = false) :
    execRangerStandDownTimeout s = .next s := by
  refine if_neg ?_
  rintro ⟨hstate, hdue⟩
  obtain hstate' | hearly := hnot
  · exact hstate' hstate
  · exact Bool.false_ne_true (hearly.symm.trans hdue)

/-- Settles O60: each command of the epochs, the pairs and the Ranger by the branches of its rule. An AUTH_MASTER above 6
that is dropped and a takeover in HELD (log 34), and a PAIR_WAIT that ends in HELD or SINGLE and the takeover before the
swap (log 43), are the model's choices. -/
theorem authorityAndPairsChangeHands : Obligations.AuthorityAndPairsChangeHands := by
  refine ⟨?noEpoch, ?epochOutside, ?epoch, ?noPending, ?adopted, ?early, ?noSwapFrame, ?pairSwapFrame, ?ringSwapFrame,
    ?otherSwapFrame, ?noQuery, ?queryNot, ?query, ?noReport, ?reportNot, ?reportCurrent, ?reportLower, ?noCopy,
    ?copyBoth, ?copyOther, ?takeover, ?noTakeover, ?heldQuery, ?noHeldQuery, ?heldRaise, ?noHeldRaise, ?readmitRight,
    ?readmit, ?readmitNoPair, ?readmitRange, ?listen, ?noListen, ?noIssued, ?again, ?noAgain, ?standDown,
    ?noStandDown, ?noSwap, ?swapOther, ?swap, ?swapRefused⟩
  case noEpoch =>
    intro s hnone
    simp only [exec.eq_def, execArbEpoch, hnone]
  case epochOutside =>
    intro f s1 s htaken hmaster
    simp only [exec.eq_def, execArbEpoch, htaken, hmaster, if_true]
  case epoch =>
    intro f s1 s htaken hmaster
    simp only [exec.eq_def, execArbEpoch, htaken, Nat.not_lt.mpr hmaster, if_false]
  case noPending =>
    intro s hnone
    exact congrArg Host.Outcome.next (adoptDue_of_none hnone)
  case adopted =>
    intro e m t s hpending hdue
    exact congrArg Host.Outcome.next (adoptDue_of_due hpending hdue)
  case early =>
    intro e m t s hpending hset hearly
    exact congrArg Host.Outcome.next (adoptDue_of_early hpending hset hearly)
  case noSwapFrame =>
    intro s hnone
    simp only [exec.eq_def, execArbSwap, hnone]
  case pairSwapFrame =>
    intro f s1 s htaken hkind hpair
    simp only [exec.eq_def, execArbSwap, htaken, hkind, hpair, and_self, or_true, OfNat.one_ne_ofNat, if_true, if_false]
  case ringSwapFrame =>
    intro f s1 s htaken hkind
    simp only [exec.eq_def, execArbSwap, htaken, hkind, true_or, if_true]
  case otherSwapFrame =>
    intro f s1 s htaken hring hother
    have hnot : ¬(beAt f.payload 0 1 = 2 ∨ (beAt f.payload 0 1 = 1 ∧ beAt f.payload 1 1 ≤ 6)) := by omega
    simp only [exec.eq_def, execArbSwap, htaken, hnot, if_false]
  case noQuery =>
    intro s hnone
    simp only [exec.eq_def, execArbQuery, hnone]
  case queryNot =>
    intro f s1 s htaken hnot
    simp only [exec.eq_def, execArbQuery, htaken, rangerQuery_of_not hnot]
  case query =>
    intro f s1 s htaken hstate hissued
    simp only [exec.eq_def, execArbQuery, htaken, State.rangerQuery, hstate, hissued, ne_eq, not_true_eq_false,
      Bool.false_eq_true, if_false]
  case noReport =>
    intro s hnone
    simp only [exec.eq_def, execArbReport, hnone]
  case reportNot =>
    intro f s1 s htaken hnot
    simp only [exec.eq_def, execArbReport, htaken]
    cases hissued : s.red.issued with
    | none => rfl
    | some x => exact if_neg fun h => hnot.elim (fun hstate => hstate h.1) (fun hnone => Option.some_ne_none x (hissued.symm.trans hnone))
  case reportCurrent =>
    intro f s1 e m t s htaken hissued hcurrent
    simp only [exec.eq_def, execArbReport, htaken, hissued, Nat.not_lt.mpr hcurrent, and_false, if_false]
  case reportLower =>
    intro f s1 e m t s htaken hissued hstate hlower
    simp only [exec.eq_def, execArbReport, htaken, hissued, hstate, hlower, and_self, if_true]
  case noCopy =>
    intro m s hnone
    simp only [exec.eq_def, execPairWaitExpiry, hnone]
  case copyBoth =>
    intro m c s1 s hfound hstate hs1
    simp only [exec.eq_def, execPairWaitExpiry, hfound, hstate, if_true, ← hs1]
  case copyOther =>
    intro m c s hfound hstate
    simp only [exec.eq_def, execPairWaitExpiry, hfound, hstate, if_false]
  case takeover =>
    intro m a s hstate ha hsilent hother
    simp only [exec.eq_def, execTakeover, State.takeover, hstate, ← ha, hsilent, hother, and_self, if_true]
  case noTakeover =>
    intro m s hnot
    exact congrArg Host.Outcome.next (takeover_of_not hnot)
  case heldQuery =>
    intro m s hheld hranger hdue
    exact if_pos ⟨hheld, hranger, hdue⟩
  case noHeldQuery =>
    intro m s hnot
    exact execQueryRepeat_of_not hnot
  case heldRaise =>
    intro m s hheld hraised hdue
    exact if_pos ⟨hheld, hraised, hdue⟩
  case noHeldRaise =>
    intro m s hnot
    exact execArbTimeout_of_not hnot
  case readmitRight =>
    intro q m s hright
    simp only [exec.eq_def, execPairReadmit, guardWrite_of_no_right hright, finish_refuse]
  case readmit =>
    intro q m s hright hm hpair
    rw [masterFin_val hm] at hpair
    simp only [exec.eq_def, execPairReadmit, guardWrite_of_right hright, pairReadmit, hm, hpair, if_true,
      finish_okRes]
  case readmitNoPair =>
    intro q m s hright hm hpair
    rw [masterFin_val hm] at hpair
    simp only [exec.eq_def, execPairReadmit, guardWrite_of_right hright, pairReadmit, hm, hpair,
      Bool.false_eq_true, if_true, if_false, finish_okRes]
  case readmitRange =>
    intro q m s hright hm
    simp only [exec.eq_def, execPairReadmit, guardWrite_of_right hright, pairReadmit, Nat.not_le.mpr hm, if_false, finish_refuse]
  case listen =>
    intro e m s hstate hdue hheard
    simp only [exec.eq_def, execRangerListenTimeout, hstate, hdue, hheard, and_self, if_true]
  case noListen =>
    intro s hnot
    exact execRangerListenTimeout_of_not hnot
  case noIssued =>
    intro s hnone
    simp only [exec.eq_def, execRangerEpochRepeat, hnone]
  case again =>
    intro e m t s hissued hstate hdue
    simp only [exec.eq_def, execRangerEpochRepeat, hissued, hstate, hdue, and_self, if_true]
  case noAgain =>
    intro e m t s hissued hnot
    simp only [exec.eq_def, execRangerEpochRepeat, hissued]
    refine if_neg ?_
    rintro ⟨hstate, hdue⟩
    exact hnot.elim (fun hstate' => hstate' hstate) (fun hearly => Bool.false_ne_true (hearly.symm.trans hdue))
  case standDown =>
    intro s1 s hstate hdue hs1
    simp only [exec.eq_def, execRangerStandDownTimeout, hstate, hdue, and_self, if_true, ← hs1]
  case noStandDown =>
    intro s hnot
    exact execRangerStandDownTimeout_of_not hnot
  case noSwap =>
    intro m s hnone
    simp only [exec.eq_def, execPairSwapInstant, State.pairSwap, hnone]
  case swapOther =>
    intro m t s0 s1 s hready hs1 hstate
    exact congrArg Host.Outcome.next ((pairSwap_of_ready hready hs1).trans (if_pos hstate))
  case swap =>
    intro m t s0 s1 s hready hs1 hstate hboth
    simp only [exec.eq_def, execPairSwapInstant, pairSwap_of_ready hready hs1, hstate, hboth, ne_eq, not_true_eq_false,
      if_false, if_true]
  case swapRefused =>
    intro m t s0 s1 s hready hs1 hstate hboth
    simp only [exec.eq_def, execPairSwapInstant, pairSwap_of_ready hready hs1, hstate, hboth, ne_eq, not_true_eq_false,
      Bool.false_eq_true, if_false]

end Sys2Proof.Machine
end
